-- ==== Sys2Proof/Word.lean ====
section
/-! DEFINITION. Words, bytes, bit ranges, and the types of the operands that commands carry. -/

namespace Sys2Proof

/-- A block register or one word of a 64-bit register (R11). -/
abbrev Word := BitVec 32
/-- One byte of memory. -/
abbrev Byte := BitVec 8

/-- A bit range of a register: `w` bits from bit `lo` (R6). -/
structure Fld where
  lo : Nat
  w : Nat
  deriving DecidableEq, Repr

/-- The fourteen operating modes (R35). -/
inductive Mode where
  | unpowered | resetHold | selfTest | boot | provisioned | standby | tdd | fdd | listen | calibration | laneTest
  | frost | thermalHold | update
  deriving DecidableEq, Repr

/-- A host command as it stands on a command ring (R438), with the context whose ring carried it: opcode, tag,
the `ORDERED` flag, and bytes 8 to 63 as one little-endian number (byte 8 in bits 7:0). -/
structure Cmd where
  ctx : Fin 8
  opcode : BitVec 16
  tag : BitVec 16
  ordered : Bool
  params : BitVec 448
  deriving DecidableEq, Repr

/-- The four host attachments (R423). -/
inductive Attachment where
  | pcieA | pcieB | inband | spi
  deriving DecidableEq, Repr

/-- Width of an access to a register (R11): 8, 16 or 32 bits. -/
inductive Width where
  | byte | half | word
  deriving DecidableEq, Repr

/-- How an access to a register arrives: at its internal address, or at a BAR0 offset from an attachment and how wide it is (R11, R423, R429). -/
inductive Via where
  | internal (w : Width)
  | bar (att : Attachment) (w : Width)
  deriving DecidableEq, Repr

/-- What the journal's host record says of an in-band context (R425): port, source MAC address, VLAN and key. -/
structure InbandRec where
  port : Nat
  mac : Nat
  vlan : Nat
  key : BitVec 128
  deriving DecidableEq, Repr, Inhabited

/-- The content of the journal's host object (R577): bifurcation, bindings, in-band data, mode-lease holder. -/
structure HostRec where
  x2 : Bool
  bind : List (Option Nat)
  inband : List InbandRec
  modeHolder : Option Nat
  deriving DecidableEq, Repr, Inhabited

/-- The content of the journal's board object (R577). -/
structure BoardRec where
  ref245 : Bool
  pathAvail : BitVec 64
  pmbusAddr : Nat
  linkEcc : Bool
  i2cFast : Bool
  i2cAddrs : List Nat
  gpio : List Nat
  uartBaud : Nat
  deriving DecidableEq, Repr, Inhabited

/-- The content of the journal's lane object (R577): LN_GROUP_CFG per group, LN_TXEQ and LN_CTLE per lane. -/
structure LaneRec where
  groups : List Word
  txeq : List Word
  ctle : List Word
  deriving DecidableEq, Repr, Inhabited

/-- One lease of the journal's lease object (R450, R577): resource code of R471, context, index, count. -/
structure LeaseRec where
  res : Nat
  ctx : Nat
  idx : Nat
  count : Nat
  deriving DecidableEq, Repr, Inhabited

/-- A request waiting at a memory-controller port (R491): the port, the address, the bytes, and the data of a write. -/
structure MemReq where
  port : Fin 8
  addr : BitVec 40
  len : Nat
  data : Option (List Byte)
  deriving DecidableEq, Repr

/-- What a calibration of one ADC slice found (R146, R181): converter, slice, gain, offset, threshold trim, delay tap. -/
structure SliceCal where
  adc : Nat
  slice : Nat
  gain : BitVec 16
  ofs : BitVec 16
  thr : BitVec 6
  dly : BitVec 8
  deriving DecidableEq, Repr

/-- What SHADOW found on one ADC (R150, R151, R159): the spare's refined coefficients, the gate's differences in gain (2⁻¹⁶), offset
(1/16 LSB) and skew (fs), and the residuals of the incumbent against the targets in the same units. -/
structure Shadow where
  cal : SliceCal
  dg : BitVec 16
  dO : BitVec 16
  dt : BitVec 16
  resO : BitVec 16
  resG : BitVec 16
  resT : BitVec 16
  deriving DecidableEq, Repr

/-- A pair that an array step measured (R169): transmitting path, receiving path, and m in 16 subbands as Q1.14 I and Q. -/
structure PairEst where
  tx : Nat
  rx : Nat
  m : List (BitVec 32)
  deriving DecidableEq, Repr

/-- What the solve of a training job gives (R217, R218): the 233 deltas in 2⁻⁴⁴, the residual NMSE predicted and the one measured in 0.001
dB, the worst ACLR in −0.25 dBc, and the gain from DAC input to observation output as the job keeps it. -/
structure DpdFit where
  delta : List (Int × Int)
  pred : Int
  nmse : Int
  aclr : BitVec 8
  gain : BitVec 32
  deriving DecidableEq, Repr, Inhabited

/-- What a reciprocity job finds for a PRB group (R254): its SNR in 0.001 dB, and for each layer the 64 cells of its normalised column. -/
structure RecipFit where
  snr : Int
  cols : List (List (BitVec 32))
  deriving DecidableEq, Repr, Inhabited

/-- Scalar operations of slot 0 (R292): the arithmetic, the shifts, and the compares that set the condition bit. -/
inductive SOp where
  | add | sub | and_ | or_ | xor_ | sll | srl | sra | ceq | cne | clt | cge | cltu | cgeu
  deriving DecidableEq, Repr

/-- A stream descriptor (R285): its direction, the core's memory (0 PM, 1 X, 2 Y) and the address in it, the remote address,
the row length in bytes, the row count, and the strides at both ends. -/
structure StreamDesc where
  toLocal : Bool
  mem : Fin 3
  loc : BitVec 17
  remote : BitVec 40
  row : Nat
  rows : Nat
  locStride : BitVec 40
  remStride : BitVec 40
  deriving DecidableEq, Repr

/-- What a slot 0 word does. R292 and R293 give its class, a branch's target and the fields of LOOP; the rest of its
encoding is not given, so the command carries it (log entry 16). `plain` stands for a word that needs nothing more: NOP,
LOOP, a reserved class. -/
inductive Op0 where
  | plain
  | reg (op : SOp) (d a b : Fin 16)
  | imm (op : SOp) (d a : Fin 16) (v : Word)
  | movi (d : Fin 16) (v : Word)
  | br
  | brc (on : Bool)
  | call
  | ret
  | start (slot : Fin 4) (d : StreamDesc)
  | waitFlag (slot : Fin 4)
  | status (slot : Fin 4) (d : Fin 16)
  | done (region : Option (Fin 16))
  | rot
  | bsync (b : Fin 8) (n : Fin 17)
  | mbxr (i d : Fin 16)
  | mbxw (i a : Fin 16)
  | waitmbx
  | flags (d : Fin 16)
  | halt
  | addr (y : Bool) (what idx : Fin 4) (a : Fin 16)
  deriving DecidableEq, Repr

/-- What a slot 1 or 2 word leaves open (log entry 16): whether a broadcast goes to a V register, and the access size in
whose units a pointer update counts. -/
structure OpM where
  toV : Bool
  unit : Fin 3
  deriving DecidableEq, Repr

/-- Element types of the compute slot (R280). -/
inductive Elem where
  | ci16 | i32 | f32 | cf32
  deriving DecidableEq, Repr

/-- Integer vector operations (R292). -/
inductive IOp where
  | add | sub | abs2 | min | max | and_ | or_ | xor_ | sll | sra
  deriving DecidableEq, Repr

/-- FP32 operations (R283, R292): on 16 or 8 F32 lanes, on CF32, and the conversions with scale 2^k of one half of the
CI16 lanes. -/
inductive FOp where
  | fma (eight : Bool)
  | fmul (eight : Bool)
  | fadd (eight : Bool)
  | cfma
  | cfmul
  | toC (hi : Bool) (k : BitVec 8)
  | toI (hi : Bool) (k : BitVec 8)
  deriving DecidableEq, Repr

/-- Permutes (R292). -/
inductive POp where
  | bcast (lane : Fin 16)
  | ilv (hi : Bool)
  | dilv (odd : Bool)
  | conj
  | rev
  deriving DecidableEq, Repr

/-- Lane compares (R292). -/
inductive COp where
  | eq | ne | lt | le
  deriving DecidableEq, Repr

/-- What the `OP` field of a slot 3 word means within its class (R292): the codes are not given (log entry 16). -/
inductive Op3 where
  | plain
  | cmac | cmacc | cmsu | cmsuc | clr
  | int (op : IOp) (e : Elem)
  | ext | cmul | cmulc
  | fp (op : FOp)
  | perm (op : POp)
  | cmp (op : COp) (e : Elem)
  | rcp | rsqrt
  | lsum (e : Elem) (lane : Fin 16)
  | lmax (e : Elem) (lane idx : Fin 16)
  deriving DecidableEq, Repr

/-- What a received frame carries (R354): an eCPRI message with its revision, its C bit, its type, its eAxC ID, its `E` bit and
subsequence, whether its size agrees with the frame's, whether it is C-plane in the sense of R358, and the action of a type 5
message; PTP, and whether an event message; ARP, neighbour discovery or echo; other IP traffic; a slow protocol and its subtype; the
in-band host's traffic, and whether a bulk ring's. Where none applies the EtherType decides. -/
inductive FrameKind where
  | ecpri (rev : BitVec 4) (c : Bool) (type : BitVec 8) (id : BitVec 16) (e : Bool) (sub : BitVec 7) (sizeOk : Bool) (action : BitVec 8)
  | ptp (event : Bool)
  | arp
  | ip
  | slow (subtype : BitVec 8)
  | host (bulk : Bool)
  | other
  deriving DecidableEq, Repr

/-- A received frame (R352): destination, 802.1Q tags (VLAN ID, PCP), EtherType, Ethernet payload in bytes, a frame check error or
RS-FEC mark, what it carries, and its ingress timestamp. -/
structure EthFrame where
  dst : BitVec 48
  tags : List (BitVec 12 × BitVec 3)
  etype : BitVec 16
  len : BitVec 16
  bad : Bool
  kind : FrameKind
  ts : BitVec 32
  deriving DecidableEq, Repr

/-- A C-plane section extension (R356): beamforming weights (method, width, shared exponent, one I and Q per path of the carrier's
mask), non-contiguous PRB allocation as spans (first PRB, count), or another type. -/
inductive CExt where
  | weights (meth : BitVec 4) (width : BitVec 4) (exp : BitVec 4) (w : List (BitVec 16 × BitVec 16))
  | spans (l : List (BitVec 11 × BitVec 11))
  | other (type : BitVec 7)
  deriving DecidableEq, Repr

/-- A C-plane section (R356): its ID, first PRB and count, number of symbols, rb, reMask, beam ID and extensions. -/
structure CSection where
  id : BitVec 12
  prb : BitVec 11
  nprb : BitVec 8
  nsym : BitVec 4
  rb : Bool
  reMask : BitVec 12
  beam : BitVec 15
  exts : List CExt
  deriving DecidableEq, Repr

/-- A C-plane message (R355, R356): eAxC ID, sequence number, payload version, direction, the stamp of its first symbol, section
type, filter index, for type 3 the frame structure (numerology as a power of 2 of 15 kHz, log2 of the FFT size, normal cyclic
prefix), the ages in DFE cycles of its first and last bit at the ball, and its sections. -/
structure CMsg where
  id : BitVec 16
  seq : BitVec 8
  version : BitVec 3
  ul : Bool
  stamp : BitVec 23
  type : BitVec 8
  filter : BitVec 4
  frame : BitVec 4 × BitVec 4 × Bool
  age1 : BitVec 24
  age2 : BitVec 24
  sections : List CSection
  deriving DecidableEq, Repr

/-- A U-plane section (R356, R365): ID, first PRB and count, rb, symInc, the compression header where the flow carries one (method,
width), and its data as received. -/
structure USection where
  id : BitVec 12
  prb : BitVec 11
  nprb : BitVec 8
  rb : Bool
  symInc : Bool
  comp : Option (BitVec 4 × BitVec 4)
  data : List Byte
  deriving DecidableEq, Repr

/-- What an IQ data message carries: U-plane sections, or path-mode samples (R366) with their offset, count and compression. -/
inductive UBody where
  | sections (l : List USection)
  | samples (ofs count : BitVec 16) (width meth : BitVec 4) (data : List Byte)
  deriving DecidableEq, Repr

/-- A U-plane message: eAxC ID, sequence number, payload version, direction, filter index, symbol stamp, ages of its first and last
bit at the ball, and its body. -/
structure UMsg where
  id : BitVec 16
  seq : BitVec 8
  version : BitVec 3
  ul : Bool
  filter : BitVec 4
  stamp : BitVec 23
  age1 : BitVec 24
  age2 : BitVec 24
  body : UBody
  deriving DecidableEq, Repr

/-- A piece of the work of a pipeline stage. Its input is what the stage before it left; only the receive converters' codes come from
outside. -/
inductive StageWork where
  /-- Raw codes of a path's I and Q slices (R146): the number of the first sample modulo 8, then the codes. They pass the receive correction
  and the carrier's decimation chain. -/
  | rx (p : Fin 64) (n : Fin 8) (raw : List (BitVec 12 × BitVec 12))
  /-- The carrier's interpolation chain of a path (R193). -/
  | tx (p : Fin 64)
  /-- The carriers of a path are summed and pass CFR (R193, R201). -/
  | sum (p : Fin 64)
  /-- The pre-distorter of a path (R205). -/
  | dpd (p : Fin 64)
  /-- The guard, the TX I/Q correction and the 2x interpolation of a path (R132, R161). -/
  | dac (p : Fin 64)
  deriving DecidableEq, Repr

/-- A PTP message at firmware (R415): one of the supported share, and whether it counts against the rate of Sync and Delay_Req; a peer
delay message; any other. -/
inductive PtpKind where
  | share (rated : Bool)
  | peer
  | other
  deriving DecidableEq, Repr

end Sys2Proof
end

