-- ==== Sys2Proof/Syntax.lean ====
section
/-! DEFINITION. The commands of the block: one constructor per row of the operations table, with the row's operands. A row
that is an event of the world outside (an edge, a lock, a measurement, the end of a transfer) carries what that world
decides (log entry 1); a Hyrno command carries the command as it stood on its ring. -/

namespace Sys2Proof

/-- The commands. -/
inductive Instr where
  /-- SUPPLIES_IN_RANGE (R520): The last supply reaches its recommended range and the device leaves Unpowered for Reset hold. -/
  | suppliesInRange
  /-- SUPPLY_LOSS (R522): A rail stays outside its range for 2 µs; the device goes to Unpowered and a supply record is written. -/
  | supplyLoss (rail : Fin 12)
  /-- PORST_N_ASSERT (R524): A qualified low pulse on PORST_N puts the device in Reset hold as a power-on reset. -/
  | porstNAssert
  /-- PORST_N_RELEASE (R41): PORST_N goes high after a power-on reset and the device enters Self-test. -/
  | porstNRelease
  /-- WARM_RESET_HOLD_END (R41): The 1 ms warm-reset pulse ends and the device enters Boot. -/
  | warmResetHoldEnd
  /-- BIST_COMPLETE (R527): A logic and memory BIST run ends; the result is recorded and Boot starts, or an invalid result starts a rerun. -/
  | bistComplete (fail : BitVec 18) (vout oscout oscRef : Bool)
  /-- BOOT_ROM_DONE (R529): The boot ROM has scanned the journal, loaded and verified the first stage, and hands over. -/
  | bootRomDone (active other : Bool) (host : Option Bool)
  /-- REFERENCE_PLL_LOCK (R529): REFCLK locks the reference PLL and the control cores move to PLL clocks. -/
  | referencePllLock
  /-- DRAM_TRAINING_DONE (R486): DRAM training of the set points finishes, with or without failures. -/
  | dramTrainingDone (trained : BitVec 3) (step0 step1 step2 : Fin 4) (size : BitVec 5) (unfit : Bool)
  /-- MAIN_IMAGE_VERIFIED (R529): The main image is authenticated, records are loaded, lanes are brought up and the device enters Provisioned. -/
  | mainImageVerified (ok : Bool)
  /-- HI_BOOT_GO (R533): A write of GO to HI_BOOT_CTRL copies a chunk of a host-delivered image from the boot mailbox. -/
  | hiBootGo (att : Attachment) (ofs : BitVec 20) (len : BitVec 11)
  /-- FIRMWARE_WATCHDOG_EXPIRY (R525): A control core misses its watchdog kick for 500 ms and a warm reset starts. -/
  | firmwareWatchdogExpiry
  /-- FATAL_FIRMWARE_FAULT (R525): Firmware finds a fatal fault, raises FW_FATAL and starts a warm reset. -/
  | fatalFirmwareFault
  /-- MODE_TRANSITION_COMPLETE (R46): A mode transition finishes and PM_MODE reports the new mode. -/
  | modeTransitionComplete
  /-- RADIO_RAMP_DOWN_DONE (R42): Every TX path is off after a ramp-down from a radio mode, and the transition to Standby completes. -/
  | radioRampDownDone
  /-- THERMAL_SHUTDOWN (R548): A non-suspect sensor sample reaches 120 °C and the power and safety core zeroes the DACs, writes the shutdown record and isolates the domains. -/
  | thermalShutdown (sensor : Fin 48) (x : BitVec 16)
  /-- THERMAL_HOLD_ENTRY (R548): THERMTRIP_N goes low and PM_MODE reports Thermal hold. -/
  | thermalHoldEntry
  /-- PM_HOLD_CLEAR (R549): A write of the clear code to PM_HOLD_CLEAR over SPI leaves Thermal hold when both always-on sensors are below 100 °C. -/
  | pmHoldClear (v : Word)
  /-- PM_WAKE (R542): An SPI write to PM_WAKE in Frost starts a Thaw. -/
  | pmWake (v : Word)
  /-- FROST_TIMER_EXPIRY (R542): The Frost timer expires and starts a Thaw. -/
  | frostTimerExpiry
  /-- FROST_BLOCK_ANSWER (R540): A block answers the Frost request with agreement or refusal. -/
  | frostBlockAnswer
  /-- FROST_ANSWER_TIMEOUT (R540): A block gives no Frost answer within 200 µs and counts as refusing. -/
  | frostAnswerTimeout
  /-- FROST_ENTRY_DONE (R540): Copies, CRCs and self-refresh are done and domains 23 to 1 are off; the device is in Frost. -/
  | frostEntryDone
  /-- DOMAIN_READY (R538): A power-domain wake or power-down step reports ready and the next step starts. -/
  | domainReady (lost : BitVec 29)
  /-- DOMAIN_READY_TIMEOUT (R538): A domain step gives no ready within 100 µs. -/
  | domainReadyTimeout
  /-- THAW_COMPLETE (R543): Thaw ends and the device returns to the mode entered from. -/
  | thawComplete
  /-- GUST_STEP_GRANT (R544): The gust limiter's debt reaches zero and the next waiting current step is granted. -/
  | gustStepGrant
  /-- PERST_ASSERT (R524): PERST0_N or PERST1_N goes low and resets its PCIe endpoint. -/
  | perstAssert (which : Fin 2)
  /-- PERST_RELEASE (R542): PERST0_N or PERST1_N rises; in Frost it can start a Thaw. -/
  | perstRelease (which : Fin 2)
  /-- PCIE_LINK_UP (R428): A PCIe link comes up with bus mastering and its contexts become ATTACHED. -/
  | pcieLinkUp (f : Fin 2)
  /-- PCIE_LINK_DOWN (R428): A PCIe link goes down and its contexts become HELD. -/
  | pcieLinkDown (f : Fin 2)
  /-- CTX_HOLD_EXPIRY (R428): HI_CTX_HOLD passes in HELD; the context expires and its leases are revoked. -/
  | ctxHoldExpiry (c : Fin 8)
  /-- INBAND_SILENCE_TIMEOUT (R428): An in-band context receives no valid frame for 3 s and becomes HELD. -/
  | inbandSilenceTimeout (c : Fin 8)
  /-- TAP_RESET (R524): Five TCK cycles with TMS high reset the JTAG TAP. -/
  | tapReset
  /-- PMBUS_RETRY (R523): Once per second after a failed core-regulator transfer, PM retries the set point. -/
  | pmbusRetry (ok : Bool)
  /-- REGISTER_WRITE (R13): A write to a block register that has no row of its own sets its fields under their access codes. -/
  | registerWrite (via : Via) (addr : BitVec 32) (v : Word)
  /-- COUNTER_CLEAR (R90): A write of any value to a 32-bit error counter clears it. -/
  | counterClear (via : Via) (addr : BitVec 32) (v : Word)
  /-- REG64_LOW_READ (R12): A read of the low word of a 64-bit register latches the high word. -/
  | reg64LowRead (via : Via) (addr : BitVec 32)
  /-- FORECAST_COMMIT (R65): Firmware advances TL_TAIL and the forecast core checks and accepts or rejects the new entry. -/
  | forecastCommit (entry : BitVec 256)
  /-- STAGED_ENTRY_COMMIT (R473): A staged entry comes within 500 µs of its target and Hyrno commits it to the ring. -/
  | stagedEntryCommit
  /-- DL_SYM (R64): A DL_SYM entry is issued four symbols ahead and the symbols are scheduled for transmission. -/
  | dlSym (slot : Fin 4096)
  /-- UL_SYM (R64): A UL_SYM entry is issued and the symbols are scheduled for reception. -/
  | ulSym (slot : Fin 4096)
  /-- GUARD (R64): A GUARD entry marks symbols as lendable on its quadrants. -/
  | guard (slot : Fin 4096)
  /-- CHAN (R135): A CHAN entry is checked against the permitted ranges and the quadrant synthesisers retune and calibrate. -/
  | chan (slot : Fin 4096)
  /-- AUX_TUNE (R64): An AUX_TUNE entry retunes and calibrates the auxiliary synthesiser. -/
  | auxTune (slot : Fin 4096)
  /-- GAIN (R96): A GAIN entry sets new TX and RX attenuation codes for its paths. -/
  | gain (slot : Fin 4096)
  /-- DPD_SWAP (R208): A DPD_SWAP entry makes the inactive pre-distortion bank active from symbol N on each ready path. -/
  | dpdSwap (slot : Fin 4096)
  /-- CFIR_SWAP (R198): A CFIR_SWAP entry swaps the compensation FIR bank of a carrier. -/
  | cfirSwap (slot : Fin 4096)
  /-- WPAGE (R244): A WPAGE entry switches ready weight pages and the array correction bank for symbol N. -/
  | wpage (slot : Fin 4096)
  /-- SRS_CAP (R252): An SRS_CAP entry arranges the copy of a sounding symbol's FFT output into cluster memory. -/
  | srsCap (slot : Fin 4096)
  /-- OBS_CAP (R121): An OBS_CAP entry sets ORX_SEL and arms an observation capture on each free tile buffer. -/
  | obsCap (slot : Fin 4096)
  /-- CAL_BORROW (R85): A CAL_BORROW entry lends a window to calibration steps of its kind, after arbitration. -/
  | calBorrow (slot : Fin 4096)
  /-- ARM (R82): An ARM entry arms its paths under the gust limiter. -/
  | arm (slot : Fin 4096)
  /-- DISARM (R78): A DISARM entry disarms its paths under the gust limiter. -/
  | disarm (slot : Fin 4096)
  /-- DFE_SYNC (R194): A DFE_SYNC entry resets a carrier's chains at the first sample of its target symbol. -/
  | dfeSync (slot : Fin 4096)
  /-- MARK (R64): A MARK entry raises TL_MARK with its sequence number. -/
  | mark (slot : Fin 4096)
  /-- ENTRY_RETIRE (R68): Every addressed block acknowledges an issued entry; it retires and TL_HEAD advances. -/
  | entryRetire (slot : Fin 4096)
  /-- TL_SFN_LOAD (R58): A write to TL_SFN_LOAD sets the frame number to load at the next frame boundary. -/
  | tlSfnLoad (sfn : BitVec 10)
  /-- TL_CTRL_ALIGN (R91): A write of ALIGN to TL_CTRL arms realignment of the frame counter. -/
  | tlCtrlAlign
  /-- FRAME_ALIGN_EDGE (R397): The alignment edge arrives and the frame counter is realigned to the time counter. -/
  | frameAlignEdge
  /-- FRAME_BOUNDARY (R59): A radio frame boundary compares the frame tick with the time counter and applies per-frame work.
  The empty operand stands for the CFR figures, which the block forms itself (R204). -/
  | frameBoundary (cfr : Unit)
  /-- PIPELINE_STAGE_START (R75): A pipeline stage starts its one-symbol window for a symbol. -/
  | pipelineStageStart (stage : Fin 8) (slot : Fin 4096) (k : Fin 14) (work : List StageWork)
  /-- STAGE_DEADLINE (R76): A stage reaches its deadline unfinished, discards the symbol and blanks it. -/
  | stageDeadline (stage : Fin 6) (slot : Fin 4096) (k : Fin 14)
  /-- LOCK_CHECK (R72): At 1.50 µs before a symbol RF checks synthesiser lock and blanks the quadrant's symbol if unlocked. -/
  | lockCheck (slot : Fin 4096) (k : Fin 14)
  /-- SYMBOL_START (R110): A scheduled symbol starts and armed paths become ACTIVE, or the symbol is blanked for a turn-round or fill window. -/
  | symbolStart (slot : Fin 4096) (k : Fin 14)
  /-- SYMBOL_END (R110): The last of consecutive scheduled symbols ends and active paths return to ARMED. -/
  | symbolEnd (slot : Fin 4096) (k : Fin 14)
  /-- DISARM_GAP_EXPIRY (R78): TL_DISARM_GAP passes without a further symbol and disarming of that path direction starts. -/
  | disarmGapExpiry (path : Fin 64) (tx : Bool)
  /-- PATH_ARM_STEP (R624): A planned arming step falls due and one path is armed. -/
  | pathArmStep
  /-- PATH_DISARM_STEP (R624): A planned disarming step falls due and one path is disarmed. -/
  | pathDisarmStep
  /-- BORROW_INTERVAL_EXPIRY (R87): A calibration interval passes with no completed step. -/
  | borrowIntervalExpiry (kind : Fin 5)
  /-- SYN_CAL_DONE (R103): A synthesiser calibration ends; lock is verified, or a retry or FAILED follows. -/
  | synCalDone (syn : Fin 5) (us : BitVec 8) (lock : Bool)
  /-- SYN_CAL_TIMEOUT (R106): 250 µs pass without lock and the calibration is rerun or the synthesiser fails. -/
  | synCalTimeout (syn : Fin 5)
  /-- SYN_LOCK_LOSS (R107): The phase error stays above threshold for 16 reference cycles; the quadrant is muted and the synthesiser recalibrates. -/
  | synLockLoss (syn : Fin 5)
  /-- TDD_PIN_RISE (R112): An enable pin rises at its direction's first symbol minus its lead. -/
  | tddPinRise (tile : Fin 8) (tx : Bool)
  /-- TDD_PIN_FALL (R112): An enable pin falls at its direction's last symbol plus its lag. -/
  | tddPinFall (tile : Fin 8) (tx : Bool)
  /-- PABIAS_RAMP_START (R117): A PA bias output starts a linear ramp between its OFF and ON codes. -/
  | pabiasRampStart (path : Fin 64)
  /-- PABIAS_CHARGE_TRIP (R118): A bias ramp's charge reaches QMAX; the output goes high-impedance and the path to FAULT. -/
  | pabiasChargeTrip (path : Fin 64)
  /-- GUARD_PEAK_CLIP (R132): A sample above the peak limit is scaled to the limit. -/
  | guardPeakClip (path : Fin 64) (ipk qpk : BitVec 16)
  /-- GUARD_RMS_MUTE (R133): The sliding mean power exceeds the RMS limit and the path is muted for two windows. -/
  | guardRmsMute (path : Fin 64) (energy : BitVec 64)
  /-- GUARD_MUTE_END (R110): A guard mute ends and the path returns to ARMED at the next symbol boundary. -/
  | guardMuteEnd (path : Fin 64)
  /-- GUARD_DUTY_LIMIT (R134): A path's active-sample count reaches its duty limit and the path is muted to the end of the frame. -/
  | guardDutyLimit (path : Fin 64)
  /-- RFFE_LIST_START (R126): An RFFE list falls due at its trigger plus offset, or after the running list ends, and starts. -/
  | rffeListStart (q : Fin 4) (trig : Fin 6)
  /-- RFFE_LIST_END (R127): An RFFE list ends and the bus is free for the next list or host transfer. -/
  | rffeListEnd (q : Fin 4)
  /-- FOREGROUND_CAL_DONE (R148): ADC foreground calibration of all slices finishes at Standby entry or Thaw. -/
  | foregroundCalDone (cals : List SliceCal)
  /-- DAC_TRIM_DONE (R162): The DAC segment trim finishes. -/
  | dacTrimDone (worst : List (Fin 128 × BitVec 8))
  /-- ROT_SETTLE_END (R149): The spare's SETTLE phase ends and OFFLINE calibration starts. -/
  | rotSettleEnd (pair : Fin 72)
  /-- ROT_OFFLINE_END (R156): The spare's OFFLINE calibration ends and is checked against its limits. -/
  | rotOfflineEnd (pair : Fin 72) (ci cq : SliceCal)
  /-- ROT_SHADOW_START (R149): The spare starts converting in parallel with the incumbent of slot NEXT. -/
  | rotShadowStart (pair : Fin 72)
  /-- ROT_SHADOW_END (R151): SHADOW ends and the gate compares spare and incumbent; of the I and the Q converter:
  the refined coefficients, the differences in gain, offset and skew, and the incumbent's residuals in offset, gain and skew. -/
  | rotShadowEnd (pair : Fin 72) (usable : Bool) (ci : SliceCal) (di ri : BitVec 16 × BitVec 16 × BitVec 16) (cq : SliceCal) (dq rq : BitVec 16 × BitVec 16 × BitVec 16)
  /-- SLICE_HANDOVER (R153): At sample n₀ the spare takes over slot s, the incumbent becomes spare and a new period starts.
  The empty operands stand for the spur figures, which follow from the residuals the block holds (R159). -/
  | sliceHandover (pair : Fin 72) (gi oi gq oq : Unit)
  /-- RXQ_STATS_DONE (R160): 2²⁴ active samples are accumulated and a new RX I/Q and DC correction is computed: ε and φ, then the DC offsets of I and Q. -/
  | rxqStatsDone (path : Fin 64) (imb dc : BitVec 16 × BitVec 16)
  /-- RXQ_CORRECTION_APPLY (R160): A new RX correction takes effect at the path's next T′ tick. -/
  | rxqCorrectionApply (path : Fin 64)
  /-- TXQ_CAL_STEP_DONE (R164): A kind 3 TX leakage and I/Q step ends and new values are staged. -/
  | txqCalStepDone (path : Fin 64) (dci dcq eps phi : BitVec 18) (leak img : BitVec 8)
  /-- TXQ_VALUES_APPLY (R165): Staged TX values take effect at the next transmitted symbol of the path. -/
  | txqValuesApply (path : Fin 64)
  /-- ORX_CAL_STEP_DONE (R166): A kind 4 observation receiver calibration step ends. -/
  | orxCalStepDone (tile : Fin 8) (dc imb dev : BitVec 16) (vals : List Nat)
  /-- ACAL_STEP_DONE (R169): A kind 2 array calibration step ends and pair estimates are written. -/
  | acalStepDone (pos : Fin 16) (pairs : List PairEst)
  /-- ACAL_SOLVE_DONE (R172): The array solve finishes and its result is accepted into the inactive bank or rejected.
  The empty operands stand for its figures, which follow from the estimates the block holds (R171). -/
  | acalSolveDone (rows drop db deg words lost : Unit)
  /-- ACAL_RESULT_WRITE (R247): A waiting array result is written once every carrier uses the newest bank. -/
  | acalResultWrite
  /-- DPD_LOADER_START (R210): The control cores start the coefficient loader for a path's inactive bank. -/
  | dpdLoaderStart (path : Fin 64) (at_ : BitVec 22) (job : BitVec 16)
  /-- DPD_LOADER_DONE (R210): The loader finishes copying the bank and sets READY. -/
  | dpdLoaderDone
  /-- OBS_CAPTURE_END (R212): An observation capture finishes its samples and the drain to DRAM starts;
  the samples of the observation receiver and those of each TX stream. -/
  | obsCaptureEnd (tile : Fin 8) (samples : List (BitVec 16 × BitVec 16) × List (List (BitVec 16 × BitVec 16)))
  /-- CAPTURE_DRAIN_END (R498): The last burst of a capture record is accepted and the tile buffer is free. -/
  | captureDrainEnd (tile : Fin 8)
  /-- DPD_TRAIN_JOB_END (R218): A DPD training job finishes OK, REJECTED or NODATA, its bank at at_.
  The empty operands stand for the result, the bank and its figures, which the fit gives (R217, R218). -/
  | dpdTrainJobEnd (job : BitVec 16) (result : Unit) (at_ : BitVec 22) (bank nmse aclr gain : Unit)
  /-- BF_REGION_PUB (R243): A write to BF_REGION_PUB moves the inactive FREE page to READY. -/
  | bfRegionPub (region : Fin 64)
  /-- DRAINING_PAGE_FREE (R245): At T′₍N+2₎ the DRAINING page becomes FREE. -/
  | drainingPageFree (region : Fin 64)
  /-- WEIGHT_WRITE (R242): A write reaches the weight memory through the write port and is performed or refused. -/
  | weightWrite (ctx : Option (Fin 8)) (addr : BitVec 22) (data : List Byte)
  /-- SRS_CAPTURE_DONE (R253): A sounding capture is complete in cluster memory and its job or kernel trigger follows.
  The empty operand stands for the tones, which the block has captured (R253). -/
  | srsCaptureDone (slot : Fin 4096) (tones : Unit)
  /-- RECIP_JOB_END (R255): A reciprocity job finishes, publishing the page or nothing.
  The empty operands stand for the bad groups and the vectors, which the computation gives (R255). -/
  | recipJobEnd (job : BitVec 16) (bad vecs : Unit)
  /-- REGION_SCRUB_START (R259): The last stage reading a revoked region ends and scrubbing starts. -/
  | regionScrubStart (region : Fin 64)
  /-- REGION_SCRUB_DONE (R259): A revoked region's vectors are zero and return to the free list. -/
  | regionScrubDone (region : Fin 64)
  /-- SHRINK_SCRUB_DONE (R260): Vectors given up by a shrink are scrubbed and return to the free list. -/
  | shrinkScrubDone (region : Fin 64)
  /-- BUNDLE_ISSUE (R275): A Nalvilos core issues one bundle of four slot instructions. -/
  | bundleIssue (core : Fin 16) (o0 : Op0) (o1 o2 : OpM) (o3 : Op3) (fe be : BitVec 32)
  /-- BARRIER_RELEASE (R288): A barrier's count is reached, its waiting cores continue and it re-arms. -/
  | barrierRelease (b : Fin 8)
  /-- MAILBOX_WAIT_RELEASE (R299): In-word 15 is written and a core stalled in WAITMBX continues. -/
  | mailboxWaitRelease (core : Fin 16)
  /-- STREAM_DESCRIPTOR_DONE (R285): A stream descriptor completes and sets its completion flag. -/
  | streamDescriptorDone (core : Fin 16) (slot : Fin 4)
  /-- CONTROL_STEP_DONE (R270): A control-core step of a job writes DONE through the mailbox. -/
  | controlStepDone (job : BitVec 16)
  /-- JOB_REGISTER (R271): A tracker entry frees and Hyrno registers the next held job. -/
  | jobRegister
  /-- JOB_DISPATCH (R273): A core becomes free and Hyrno dispatches the next job in dispatch order. -/
  | jobDispatch (grp : Fin 2)
  /-- NVC_WATCHDOG_EXPIRY (R274): A core's watchdog expires and the core halts. -/
  | nvcWatchdogExpiry (core : Fin 16)
  /-- CORE_PAUSE (R296): A throttle stage pauses a group of cores at the next bundle boundary. -/
  | corePause (grp : Fin 3)
  /-- CORE_RESUME (R296): A paused core resumes after its gust step is granted. -/
  | coreResume (core : Fin 16)
  /-- CORE_REVOKE_SCRUB_DONE (R300): A revoked core's memories are scrubbed and it returns to the general group. -/
  | coreRevokeScrubDone (core : Fin 16)
  /-- NVC_CNT_WRAP (R295): A core performance counter wraps at 2⁴⁸. -/
  | nvcCntWrap (core : Fin 16) (which : Fin 6) (n : BitVec 32)
  /-- LOS_DECLARED (R317): A receiver input stays below 50 mV for 1 µs and the lane leaves UP. -/
  | losDeclared (n : Fin 16)
  /-- SIGNAL_PRESENT (R317): A receiver input stays above 80 mV for 1 µs. -/
  | signalPresent (n : Fin 16)
  /-- CDR_LOCK (R327): A lane's CDR locks to the incoming signal. -/
  | cdrLock (n : Fin 16) (peak : Fin 21) (eye : BitVec 8)
  /-- CDR_LOCK_LOSS (R317): The CDR's frequency differs by more than 1,000 ppm and the lane leaves UP. -/
  | cdrLockLoss (n : Fin 16)
  /-- BLOCK_LOCK_GAINED (R323): 64 consecutive valid headers give block lock and the lane enters LOCKED. -/
  | blockLockGained (n : Fin 16)
  /-- BLOCK_LOCK_LOST (R323): 16 invalid headers in 64 blocks lose block lock and a hunt starts. -/
  | blockLockLost (n : Fin 16) (bad : BitVec 16)
  /-- HUNT_WINDOW_EXPIRY (R319): A 16 ms hunt ends without UP and the lane enters NO_PARTNER. -/
  | huntWindowExpiry (n : Fin 16)
  /-- HUNT_START (R319): 100 ms after a failed hunt started, the next hunt starts. -/
  | huntStart (n : Fin 16)
  /-- ALIGNMENT_MARKER_LOCK (R322): An Ethernet lane gains RS-FEC alignment marker lock and deskew, and enters UP. -/
  | alignmentMarkerLock (n : Fin 16)
  /-- GALE_SYNC_BLOCK (R329): A received SYNC block loads or checks the descrambler state. -/
  | galeSyncBlock (n : Fin 16) (line : List Bool)
  /-- GALE_ALIGN_BLOCK (R331): A received ALIGN block gives the lane position and deskews a bond. -/
  | galeAlignBlock (n : Fin 16) (line : List Bool) (skew : BitVec 8)
  /-- GALE_SOM_BLOCK (R328): A received SOM block starts a message. -/
  | galeSomBlock (n : Fin 16) (line : List Bool)
  /-- GALE_DATA_BLOCK (R328): A received data block adds 16 bytes to the message in progress and may complete it. -/
  | galeDataBlock (n : Fin 16) (line : List Bool)
  /-- GALE_IDLE_BLOCK (R328): A received IDLE block carries nothing. -/
  | galeIdleBlock (n : Fin 16) (line : List Bool)
  /-- GALE_ABORT_BLOCK (R330): A received ABORT block discards the message in progress. -/
  | galeAbortBlock (n : Fin 16) (line : List Bool)
  /-- GALE_SYNC_SEND (R329): Every 1,024 blocks the transmitter sends a SYNC block. -/
  | galeSyncSend (n : Fin 16)
  /-- GALE_ALIGN_SEND (R329): Every 4,096 blocks the transmitter sends an ALIGN block. -/
  | galeAlignSend (n : Fin 16)
  /-- FEC_CODEWORD (R335): An RS-FEC codeword is decoded and corrected or marked uncorrectable. -/
  | fecCodeword (g : Fin 4) (errs : BitVec 10)
  /-- HIGH_BER (R335): The Ethernet high-BER condition takes the group out of UP. -/
  | highBer (g : Fin 4)
  /-- LANE_PLL_UNLOCK (R344): A lane PLL loses lock and every lane of the group leaves UP. -/
  | lanePllUnlock (g : Fin 4)
  /-- CTLE_LIMIT_TIMEOUT (R316): An adaptive CTLE stays at an end of its range for 1 s. -/
  | ctleLimitTimeout (n : Fin 16) (high : Bool)
  /-- LANE_POWER_EXIT_DONE (R337): A lane finishes its exit from LULL, DOLDRUMS or OFF. -/
  | lanePowerExitDone (n : Fin 16)
  /-- GROUP_CHANGE_APPLY (R311): A lane group change sent over its own in-band lane is applied 1 ms after its completion. -/
  | groupChangeApply (g : Fin 4)
  /-- PATTERN_SYNC (R342): A pattern checker matches 256 consecutive bits and synchronises. -/
  | patternSync (n : Fin 16)
  /-- PATTERN_SYNC_LOSS (R342): 64 of 1,024 bits mismatch and the checker loses sync. -/
  | patternSyncLoss (n : Fin 16) (bits : BitVec 48) (errs : BitVec 32)
  /-- LN_CNT_WRAP (R343): LN_PAT_BITS wraps at 2⁴⁸. -/
  | lnCntWrap (n : Fin 16) (errs : BitVec 32)
  /-- LN_PAT_STAT_CLR (R343): A write of CLR to LN_PAT_STAT clears both pattern counters, RESYNC and BITS_OVF. -/
  | lnPatStatClr (n : Fin 16)
  /-- ETHERNET_FRAME (R352): A received Ethernet frame is checked for acceptance, classified, dropped or forwarded. -/
  | ethernetFrame (g : Fin 4) (f : EthFrame)
  /-- U_PLANE_MESSAGE (R363): An eCPRI IQ data message is matched to C-plane sections and decompressed into the symbol store. -/
  | uPlaneMessage (g : Fin 4) (m : UMsg)
  /-- C_PLANE_MESSAGE (R362): An eCPRI real-time control message enters its sections into the section table and binds any weights. -/
  | cPlaneMessage (g : Fin 4) (m : CMsg)
  /-- DELAY_REQUEST (R381): A one-way delay Request addressed to the device is answered with a Response in class TIME. -/
  | delayRequest (g : Fin 4) (id : BitVec 8) (t2 : BitVec 32)
  /-- REMOTE_DELAY_REQUEST (R381): A Remote Request makes the device send a Request carrying its egress timestamp. -/
  | remoteDelayRequest (g : Fin 4) (id : BitVec 8)
  /-- DELAY_RESPONSE (R381): A delay Response to a device-initiated measurement goes to firmware and completes it. -/
  | delayResponse (g : Fin 4) (id : BitVec 8) (t2 comp : BitVec 32)
  /-- PTP_MESSAGE (R398): A PTP message is timestamped and handed to firmware. -/
  | ptpMessage (g : Fin 4) (num : BitVec 8) (k : PtpKind)
  /-- ESMC_FRAME (R414): An ESMC frame goes to firmware, which takes the lane's QL. -/
  | esmcFrame (g : Fin 4) (ql : BitVec 4)
  /-- ARP_OR_ND_FRAME (R354): An ARP, neighbour discovery or echo frame is answered by the control cores. -/
  | arpOrNdFrame (g : Fin 4) (len : BitVec 14)
  /-- OTHER_IP_FRAME (R357): Other IP traffic goes to the control cores and is discarded. -/
  | otherIpFrame (g : Fin 4)
  /-- HARD_LAUNCH (R371): The launch calendar reaches T′₍N+3₎ + OFS and the hard messages of symbol N start to launch. -/
  | hardLaunch (g : Fin 4) (slot : Fin 4096) (k : Fin 14) (n : Nat)
  /-- EGRESS_FRAME_START (R371): A queued frame of another class starts on a port when it fits before the next hard launch. -/
  | egressFrameStart (g : Fin 4)
  /-- FIRM_LAUNCH_EXPIRY (R370): An uplink FIRM message not launched by T′₍N+5₎ is discarded. -/
  | firmLaunchExpiry (g : Fin 4) (slot : Fin 4096) (k : Fin 14)
  /-- HARD_LAUNCH_EXPIRY (R375): A hard message not launched by T′₍N+4₎ is discarded. -/
  | hardLaunchExpiry (g : Fin 4) (slot : Fin 4096) (k : Fin 14)
  /-- FH_CNT_WRAP (R384): A port frame counter wraps at 2⁴⁸. -/
  | fhCntWrap (g : Fin 4) (tx : Bool)
  /-- TS_CTRL_STEP (R393): A write of STEP to TS_CTRL steps the counter by TS_STEP_VAL outside the radio modes. -/
  | tsCtrlStep
  /-- TS_CTRL_SEL (R408): A write to TS_CTRL.SEL switches the steering domain. -/
  | tsCtrlSel (d : Fin 2)
  /-- TS_DOM_OFS_WRITE (R402): Firmware writes a PTP offset sample for a domain. -/
  | tsDomOfsWrite (d : Fin 2) (e : BitVec 32)
  /-- SERVO_UPDATE (R403): Every 16 ticks a domain's servo processes its pending sample and updates its state. -/
  | servoUpdate (d : Fin 2)
  /-- INC_RECOMPUTE (R392): Every 16 ticks TS_INC_CUR is recomputed from f and s. -/
  | incRecompute
  /-- HOLDOVER_TIMEOUT (R404): A domain receives no sample for TMO seconds and enters HOLDOVER. -/
  | holdoverTimeout (d : Fin 2)
  /-- SECOND_EDGE (R395): TS_CNT passes TS_PPS_NEXT; the next edge is set and Hyrno advances the TAI seconds. -/
  | secondEdge
  /-- PPS_OUT_RISE (R399): PPS_OUT rises at the second edge plus ODLY. -/
  | ppsOutRise
  /-- PPS_OUT_FALL (R399): PPS_OUT falls after WIDTH ms. -/
  | ppsOutFall
  /-- PPS_IN_EDGE (R400): A rising edge on PPS_IN is stamped, filtered and sampled by its domain. -/
  | ppsInEdge (ts : BitVec 32)
  /-- PPS_IN_TIMEOUT (R400): No PPS_IN edge is accepted for 1.1 s. -/
  | ppsInTimeout
  /-- SYNCE_GATE_END (R412): A 1 s SyncE gate ends and the measurement is written and used by hybrid domains. -/
  | synceGateEnd (meas : BitVec 32)
  /-- REFCLK_LOSS (R411): No REFCLK edge for 100 ns, or loss of lock; the PLL holds its control word. -/
  | refclkLoss
  /-- REFCLK_RETURN (R411): REFCLK returns and the PLL reacquires from its held word. -/
  | refclkReturn
  /-- ESMC_SEND (R414): Once per second Hyrno sends ESMC on every fronthaul and cascade port. -/
  | esmcSend
  /-- RING_PROD_WRITE (R434): A host write of PROD on a host-produced ring posts entries, or sets ERROR. -/
  | ringProdWrite (att : Attachment) (ring : Fin 32) (v : Word)
  /-- RING_CONS_WRITE (R434): A host write of CONS on a device-produced ring frees entries. -/
  | ringConsWrite (att : Attachment) (ring : Fin 32) (v : Word)
  /-- RING_DATA_WRITE (R437): A write to HI_RING_DATA fills the next word of the entry at PROD. -/
  | ringDataWrite (att : Attachment) (ring : Fin 32) (v : Word)
  /-- RING_DATA_READ (R437): A read of HI_RING_DATA returns the next word of the entry at CONS. -/
  | ringDataRead (att : Attachment) (ring : Fin 32)
  /-- RING_ENABLE (R434): A write of EN to HI_RING_CFG enables or disables a ring and clears its indices. -/
  | ringEnable (att : Attachment) (ring : Fin 32) (v : Word)
  /-- COMMAND_CONSUME (R439): HI consumes the next command when quota and completion space allow, or completes it at once with BAD_PARAM. -/
  | commandConsume (c : Fin 8)
  /-- EVENT_RECORD_WRITE (R442): A raised event is written to each entitled context's event ring and sets sticky and alert bits. -/
  | eventRecordWrite
  /-- MSIX_ITIME_EXPIRY (R446): ITIME µs pass after an unsignalled record and the ring raises its MSI-X vector. -/
  | msixItimeExpiry (ring : Fin 32)
  /-- DEBUG_WINDOW_READ (R447): A read through a debug sub-window is checked against the context and returns data or zero. -/
  | debugWindowRead (att : Attachment × Width) (c : Fin 8) (ofs : BitVec 12)
  /-- DEBUG_WINDOW_WRITE (R448): A write through the debug window is performed only with the unlock record, else denied. -/
  | debugWindowWrite (att : Attachment × Width) (c : Fin 8) (ofs : BitVec 12) (v : Word)
  /-- SPI_TRANSACTION (R426): An SPI transaction reads or writes BAR0 words, checked by its count and CRC. -/
  | spiTransaction (b : List Byte)
  /-- INBAND_FRAME (R425): A management frame is authenticated and its operations performed. -/
  | inbandFrame (g : Fin 4) (src : BitVec 48) (vlan : BitVec 12) (b : List Byte)
  /-- ALERT_SUM_CLEAR (R445): A W1C write to HI_ALERT_SUM clears bits only from the mode-lease holder or an SPI context. -/
  | alertSumClear (att : Attachment) (idx : Fin 8) (v : Word)
  /-- BOOKS_AUDIT (R454): Every 100 ms Hyrno audits the conserved quantities and rebuilds any row that does not balance. -/
  | booksAudit
  /-- UART_RX_CHARACTER (R458): A character arrives on UART_RX and enters the receive FIFO or is dropped. -/
  | uartRxCharacter (c : BitVec 8)
  /-- UART_RXD_READ (R458): A read of HI_UART_RXD pops the oldest character. -/
  | uartRxdRead
  /-- I2C_TRANSFER_DONE (R459): An I2C master transfer ends, completed or on a missing acknowledge. -/
  | i2cTransferDone (nak : Option (BitVec 8)) (data : List Byte)
  /-- I2C_RXD_READ (R459): A read of PM_I2C_RXD pops the oldest byte. -/
  | i2cRxdRead
  /-- GPIO_TRIGGER_EDGE (R457): A qualified rising edge on a trigger GPIO starts a Thaw or a housekeeping run. -/
  | gpioTriggerEdge (k : Fin 32)
  /-- SYS_INFO (R461): Returns device, stepping, mode, firmware version and boot status. -/
  | sysInfo (c : Cmd)
  /-- SYS_SET_MODE (R41): Requests a mode transition under R41–R55. -/
  | sysSetMode (c : Cmd)
  /-- SYS_RESET (R43): Starts a warm reset. -/
  | sysReset (c : Cmd)
  /-- SYS_ECHO (R461): Returns its data, acting as a fence when ordered. -/
  | sysEcho (c : Cmd)
  /-- SYS_SERIAL (R614): Returns the fused unit serial. -/
  | sysSerial (c : Cmd)
  /-- SYS_GPIO (R457): Reads or configures a GPIO pin. -/
  | sysGpio (c : Cmd)
  /-- SYS_I2C (R459): Performs an I2C transfer to a board-record device. -/
  | sysI2c (c : Cmd)
  /-- LEASE_GRANT (R450): Grants, resizes or sets the quota of a leased resource. -/
  | leaseGrant (c : Cmd)
  /-- LEASE_REVOKE (R452): Revokes a lease and completes when work in flight has ended. -/
  | leaseRevoke (c : Cmd)
  /-- LEASE_RELEASE (R450): Releases a lease of the issuer. -/
  | leaseRelease (c : Cmd)
  /-- LEASE_QUERY (R471): Reports a context's leases. -/
  | leaseQuery (c : Cmd)
  /-- LEASE_TAKE_MODE (R451): An SPI context takes the mode lease. -/
  | leaseTakeMode (c : Cmd)
  /-- CAR_CONFIG (R184): Configures a stopped carrier's DFE, BF and TL descriptors. -/
  | carConfig (c : Cmd)
  /-- CAR_CHAIN (R191): Installs a standard or host filter chain for a stopped carrier. -/
  | carChain (c : Cmd)
  /-- CAR_CFIR (R200): Writes a carrier's inactive compensation FIR bank. -/
  | carCfir (c : Cmd)
  /-- CAR_START (R135): Starts a carrier, staging its DFE_SYNC and enabling its flows. -/
  | carStart (c : Cmd)
  /-- CAR_STOP (R478): Stops a carrier after a given symbol and removes its later staged entries. -/
  | carStop (c : Cmd)
  /-- FLOW_SET (R389): Writes a flow entry of a stopped carrier. -/
  | flowSet (c : Cmd)
  /-- FLOW_READ (R389): Returns a flow's counters. -/
  | flowRead (c : Cmd)
  /-- PORT_SET (R472): Sets a port's role, VLANs, multicast, launch or unit-address item. -/
  | portSet (c : Cmd)
  /-- FC_ENTRY (R473): Stages one forecast entry. -/
  | fcEntry (c : Cmd)
  /-- FC_BATCH (R473): Stages up to 128 forecast entries in order. -/
  | fcBatch (c : Cmd)
  /-- FC_CANCEL (R478): Removes the issuer's staged entries from a stamp onward. -/
  | fcCancel (c : Cmd)
  /-- FC_STATUS (R475): Reports forecast quota, live and staged entries. -/
  | fcStatus (c : Cmd)
  /-- BEAM_REGION_SET (R239): Configures and enables or disables a weight region. -/
  | beamRegionSet (c : Cmd)
  /-- BEAM_LOAD (R251): Loads vectors into a region and optionally publishes the page. -/
  | beamLoad (c : Cmd)
  /-- BEAM_READ (R251): Copies vectors of a region out. -/
  | beamRead (c : Cmd)
  /-- BEAM_RECIP_SET (R254): Sets or clears a carrier's reciprocity descriptor. -/
  | beamRecipSet (c : Cmd)
  /-- CAL_INTERVAL (R176): Sets a calibration kind's interval. -/
  | calInterval (c : Cmd)
  /-- CAL_ROT_SET (R179): Sets the slice rotation parameters. -/
  | calRotSet (c : Cmd)
  /-- CAL_SWEEP (R175): Runs an array calibration sweep and completes at its result or time limit. -/
  | calSweep (c : Cmd)
  /-- ACAL_REF_RECORD (R167): Records and journals an array reference point. -/
  | acalRefRecord (c : Cmd)
  /-- ACAL_REF_LOCK (R167): Permanently locks the array reference. -/
  | acalRefLock (c : Cmd)
  /-- CAL_STATUS (R183): Reports array and calibration status. -/
  | calStatus (c : Cmd)
  /-- DPD_CONFIG (R628): Configures pre-distortion and automatic training for paths. -/
  | dpdConfig (c : Cmd)
  /-- DPD_NBR (R206): Sets a path's DPD neighbours. -/
  | dpdNbr (c : Cmd)
  /-- DPD_TRAIN (R217): Dispatches a DPD training job for a path. -/
  | dpdTrain (c : Cmd)
  /-- DPD_COEF (R210): Loads or reads DPD coefficient banks. -/
  | dpdCoef (c : Cmd)
  /-- DPD_RESUME (R218): Clears HALT and REJ for paths. -/
  | dpdResume (c : Cmd)
  /-- CFR_CONFIG (R203): Sets CFR thresholds for paths from the next carrier change. -/
  | cfrConfig (c : Cmd)
  /-- CAP_GET (R481): Copies a held capture record into DRAM and frees it. -/
  | capGet (c : Cmd)
  /-- CAP_FREE (R481): Frees the issuer's held capture records on a tile. -/
  | capFree (c : Cmd)
  /-- FE_PABIAS (R117): Sets PA bias parameters for paths. -/
  | fePabias (c : Cmd)
  /-- FE_TDD (R112): Sets the TDD pin leads and lags from the next frame. -/
  | feTdd (c : Cmd)
  /-- FE_FAULT_CLEAR (R110): Moves paths in FAULT to OFF. -/
  | feFaultClear (c : Cmd)
  /-- RFFE_ACCESS (R124): Performs one RFFE transfer when it fits before the next list. -/
  | rffeAccess (c : Cmd) (fits parity : Bool) (data : BitVec 128)
  /-- RFFE_LIST (R127): Loads a master's list memory and bus settings. -/
  | rffeList (c : Cmd) (overlap : Bool)
  /-- LANE_GROUP_SET (R311): Changes a lane group's personality, width or rate. -/
  | laneGroupSet (c : Cmd)
  /-- LANE_EQ (R315): Sets a lane's equalisation and polarity. -/
  | laneEq (c : Cmd)
  /-- LANE_POWER (R337): Moves lanes to a power state. -/
  | lanePower (c : Cmd)
  /-- LANE_TEST (R340): Starts or stops pattern testing on a group. -/
  | laneTest (c : Cmd) (seen : List (BitVec 48 × BitVec 32))
  /-- LANE_STATUS (R348): Reports a lane's state and counters. -/
  | laneStatus (c : Cmd) (bits : BitVec 48) (errs : BitVec 32)
  /-- TIME_DOMAIN_SET (R402): Configures a time domain and its PTP source. -/
  | timeDomainSet (c : Cmd)
  /-- TIME_SELECT (R409): Selects the steering domain or automatic selection. -/
  | timeSelect (c : Cmd)
  /-- TIME_PPS (R421): Configures PPS_OUT and PPS_IN. -/
  | timePps (c : Cmd)
  /-- TIME_FRAME (R397): Sets α and β and realigns the frame counter. -/
  | timeFrame (c : Cmd)
  /-- TIME_SYNCE (R412): Selects the SyncE lane and selection policy. -/
  | timeSynce (c : Cmd)
  /-- TIME_GET (R396): Reports TAI time, SFN and domain states. -/
  | timeGet (c : Cmd)
  /-- TIME_DELAY (R381): Runs an eCPRI one-way delay measurement on a port. -/
  | timeDelay (c : Cmd)
  /-- TIME_PTP_STATS (R415): Reports discarded PTP message counts. -/
  | timePtpStats (c : Cmd)
  /-- PWR_FROST (R540): Asks the blocks to agree to Frost and sets the Thaw triggers. -/
  | pwrFrost (c : Cmd)
  /-- PWR_GUST (R544): Sets the gust-limiter cap. -/
  | pwrGust (c : Cmd)
  /-- PWR_STATUS (R544): Reports power, supply and throttle status. -/
  | pwrStatus (c : Cmd)
  /-- MON_HK_SEQ (R557): Arms or replaces a housekeeping sequence. -/
  | monHkSeq (c : Cmd)
  /-- MON_HK_CAL (R562): Runs one step of housekeeping channel calibration. -/
  | monHkCal (c : Cmd)
  /-- MON_HK_READ (R560): Reports a channel's last result. -/
  | monHkRead (c : Cmd)
  /-- MON_TEMP (R566): Reports the temperature sensors and throttle stage. -/
  | monTemp (c : Cmd)
  /-- MON_WEAR (R571): Reports the core set point and margins. -/
  | monWear (c : Cmd)
  /-- MON_HARVEST (R572): Starts or stops periodic counter snapshots. -/
  | monHarvest (c : Cmd)
  /-- MON_JOURNAL_READ (R584): Copies journal records of a type. -/
  | monJournalRead (c : Cmd)
  /-- REG_SET (R130): Journals and applies regulatory limits, checked against any locked set. -/
  | regSet (c : Cmd)
  /-- REG_LOCK (R130): Permanently locks the regulatory guard. -/
  | regLock (c : Cmd)
  /-- REG_STATUS (R143): Reports RF_REG_STATUS. -/
  | regStatus (c : Cmd)
  /-- FW_UPDATE_BEGIN (R41): Moves Provisioned to Update. -/
  | fwUpdateBegin (c : Cmd)
  /-- FW_UPDATE_WRITE (R532): Writes image data into the inactive flash slot. -/
  | fwUpdateWrite (c : Cmd) (good : Bool)
  /-- FW_UPDATE_COMMIT (R531): Verifies the new image, marks it for Boot and returns to Provisioned. -/
  | fwUpdateCommit (c : Cmd) (good : Bool)
  /-- FW_UPDATE_ABORT (R41): Discards the written image and returns to Provisioned. -/
  | fwUpdateAbort (c : Cmd)
  /-- CFG_RECORD (R577): Journals a configuration record for the next Boot. -/
  | cfgRecord (c : Cmd)
  /-- KERNEL_LOAD (R297): Loads a kernel image into a leased core. -/
  | kernelLoad (c : Cmd)
  /-- KERNEL_START (R297): Arms a leased core's kernel with a trigger and watchdog. -/
  | kernelStart (c : Cmd)
  /-- KERNEL_STOP (R297): Halts a leased core and discards held triggers. -/
  | kernelStop (c : Cmd)
  /-- KERNEL_MBX (R299): Writes mailbox in-words of a leased core, possibly triggering a run. -/
  | kernelMbx (c : Cmd)
  /-- KERNEL_STATUS (R305): Reports a leased core's state, flags and cycles. -/
  | kernelStatus (c : Cmd)
  /-- REFRESH_DUE (R494): A channel's refresh falls due and its balance rises, forcing a refresh at P = 4. -/
  | refreshDue (ch : Fin 2) (rt : Bool)
  /-- REFRESH_ISSUE (R494): A channel with no request waiting issues a refresh. -/
  | refreshIssue (ch : Fin 2)
  /-- RT_BURST_GRANT (R496): A real-time burst from the capture engine is granted, split around a forced refresh if needed. -/
  | rtBurstGrant (tile : Fin 8) (ns : BitVec 16)
  /-- PORT_PIECE_GRANT (R492): The arbiter grants a 256-byte piece to a waiting port. -/
  | portPieceGrant (ch : Fin 2) (reqs : List MemReq) (ecc : Fin 3)
  /-- DQS_GATHER_START (R489): Every RETRAIN ms a channel opens a DQS oscillator gather window. -/
  | dqsGatherStart (ch : Fin 2)
  /-- DQS_GATHER_END (R489): A gather window closes and the correction is applied at the next refresh. -/
  | dqsGatherEnd (ch : Fin 2) (ok : Bool) (ps : BitVec 8)
  /-- SETPOINT_CHANGE (R488): A DRAM set-point change starts after any open gather closes. -/
  | setpointChange (sp : Fin 3)
  /-- SETPOINT_CHANGE_DONE (R488): The memory PLL relocks and DRAM accesses resume at the new set point. -/
  | setpointChangeDone
  /-- MC_CNT_WRAP (R516): A port byte counter wraps at 2⁴⁸. -/
  | mcCntWrap (port : Fin 8) (wr : Bool) (n : BitVec 12)
  /-- DMA_CH_DOORBELL (R505): A write to DMA_CH_DOORBELL counts and makes a parked channel re-read its tail. -/
  | dmaChDoorbell (ch : Fin 16) (sameCycle : Bool)
  /-- DMA_CHANNEL_ENABLE (R505): A write of EN = 1 starts a channel at its head descriptor. -/
  | dmaChannelEnable (ch : Fin 16)
  /-- DMA_CHANNEL_DISABLE (R511): A write of EN = 0 disables a channel at once. -/
  | dmaChannelDisable (ch : Fin 16)
  /-- DMA_CHANNEL_RESET (R511): A write of RST frees a channel's slots and leaves it IDLE. -/
  | dmaChannelReset (ch : Fin 16)
  /-- DMA_BURST_READ_START (R509): A channel with a free slot and bucket tokens starts reading a burst. -/
  | dmaBurstReadStart
  /-- DMA_BURST_FILLED (R499): The read engine finishes filling a slot, which becomes FULL. -/
  | dmaBurstFilled (slot : Fin 64) (hostErr : Bool)
  /-- DMA_BURST_WRITE (R499): The write engine drains a FULL slot to the destination. -/
  | dmaBurstWrite (hostErr : Bool)
  /-- DMA_DESCRIPTOR_COMPLETE (R501): A descriptor's last byte is accepted; write-back, CONS advance and pulse follow. -/
  | dmaDescriptorComplete (ch : Fin 16)
  /-- DMA_REQUEST_ASSERT (R508): A peripheral request line asserts and releases one burst of a paced channel. -/
  | dmaRequestAssert (line : Fin 8)
  /-- DMA_CNT_WRAP (R517): A channel byte counter wraps at 2⁴⁸. -/
  | dmaCntWrap (ch : Fin 16) (n : BitVec 13)
  /-- HK_TIMER_EXPIRY (R557): A housekeeping sequence timer expires and triggers a run. -/
  | hkTimerExpiry (squall : Bool)
  /-- HK_STARTUP_DONE (R559): The 200 µs converter start-up ends and the run's first conversion starts. -/
  | hkStartupDone
  /-- HK_CONVERSION_DONE (R556): A housekeeping conversion ends; its result is stored and the next channel or run follows. -/
  | hkConversionDone (raw : BitVec 24)
  /-- HK_FIFO_RD_POP (R460): A read of the high word of HK_FIFO_RD pops a FIFO entry. -/
  | hkFifoRdPop (squall : Bool)
  /-- TEMP_SAMPLE (R564): Every 20 µs a sensor samples and its suspect status is checked. -/
  | tempSample (sensor : Fin 48) (t : BitVec 16)
  /-- TEMP_EVALUATE (R566): Every 1 ms the hottest reading is evaluated against the warning and throttle levels. -/
  | tempEvaluate
  /-- THROTTLE_STEP (R567): Every 50 ms the throttle stage moves up or down by one and cores pause or resume. -/
  | throttleStep
  /-- WEAR_REPORT (R569): Every 10 ms each wear sensor reports slack and age. -/
  | wearReport (sensor : Fin 24) (slack : BitVec 12) (age : BitVec 16)
  /-- MARGIN_PLANNER_RUN (R570): Once per second the margin planner adjusts the core set point and calibration factor. -/
  | marginPlannerRun (ok : Bool)
  /-- HARVEST_SNAPSHOT (R572): At each period the harvester latches all counters and writes a snapshot. -/
  | harvestSnapshot
  /-- JOURNAL_WRITE_START (R574): A write of GO to NVJ_WCMD queues a journal record write. -/
  | journalWriteStart (rec : BitVec 12) (aon : Bool)
  /-- JOURNAL_RECORD_DONE (R583): A journal record write and read-back finish, retried once on mismatch. -/
  | journalRecordDone (ok : Bool)
  /-- LANE_PLL_LOCK (R346): A lane PLL that lost lock in service regains it, and LN_GROUP_STAT.PLL_LOCK is set again. -/
  | lanePllLock (g : Fin 4)
  /-- BLOCK_SCRUB_DONE (R452): The scrub of a revoked cluster-memory or DRAM block ends, and the block returns to the free list. -/
  | blockScrubDone (dram : Bool) (block : BitVec 14)
  /-- GUST_CAP_APPLY (R544): At the next µs boundary after PWR_GUST, the new cap S takes effect on the gust limiter. -/
  | gustCapApply
  /-- REFRESH_RATE_CHANGE (R494): The DRAM's MR4 switches between normal and double refresh rate, and the channel's tREFI changes between 3.906 µs and 1.953 µs. -/
  | refreshRateChange (ch : Fin 2) (double : Bool)
  /-- PABIAS_RAMP_END (R118): A PA bias ramp reaches its target code, and the charge monitor of that transition stops. -/
  | pabiasRampEnd (path : Fin 64)
  deriving DecidableEq, Repr

end Sys2Proof
end

