-- ==== Sys2Proof/Decode.lean ====
section
/-! DEFINITION. The command that a word of the operations table spells. The table gives no row bits. -/

namespace Sys2Proof

/-- The command a word of `nbits` bits spells: none, since no row of the table has bits. -/
def decodeTableWord (nbits w : Nat) : Option Instr :=
  match nbits, w with
  | _, _ => none

end Sys2Proof
end

