-- ==== Sys2Proof/Config.lean ====
section
/-! DEFINITION. What one part fixes, and the free values (the values the spec leaves open): opaque constants, so that
nothing can be proved about which value they have. -/

namespace Sys2Proof.Config

/-- Free values of `w` bits: the `n`-th value the spec leaves open, `n` being a counter of the state (log entry 6). -/
opaque freeBits : (w n : Nat) → BitVec w

/-- The unit serial, 12 characters of 8 bits, fused at test (R614); one value for each part. -/
opaque unitSerial : BitVec 96

/-- Neighbour j of temperature sensor s, fused from the die layout (R564). -/
opaque thNeighbour : (s j : Nat) → BitVec 6

/-- The first 8 bytes of AES-CMAC over a byte string under a 128-bit key (R425), left uninterpreted (log entry 7). -/
opaque aesCmac : BitVec 128 → List Byte → BitVec 64

/-- The 16 payload bytes of an event record from the items the raising chapter puts into it: the chapters name the items
and give no byte positions, but for HI_EVT_OVERFLOW (R443) (log entry 8). -/
opaque evtPayload : (num : Nat) → (items : List Nat) → BitVec 128

/-- Payload bytes of a journal object or record whose layout the spec does not give (R577, R580), from its content
(log entry 9). -/
opaque objBytes : (type : Nat) → (items : List Nat) → List Byte

/-- What the host object's data say (R577): the spec names the content and gives no layout (log entry 9). -/
opaque hostRecord : List Byte → HostRec
/-- What the board object's data say (R577). -/
opaque boardRecord : List Byte → BoardRec
/-- What the lane object's data say (R577). -/
opaque laneRecord : List Byte → LaneRec
/-- What the lease object's data say (R577). -/
opaque leaseRecord : List Byte → List LeaseRec
/-- Does a debug-unlock record carry the maker's signature (CFG_RECORD, R577)? -/
opaque unlockSigned : List Byte → Bool

/-- The filter index configured for a carrier (R356): no command of the spec sets it. -/
opaque filterIndex : (car : Nat) → BitVec 4

/-- In-flight quota of a context at a Boot without a lease record: the spec gives none; eight of them stay within 256 (R439). -/
opaque bootQuota : (ctx : Nat) → BitVec 5

/-- tRFCab of the fitted DRAM in ns (R496). -/
opaque tRfcAb : Nat

/-- DETAIL of NOT_OWNER for an entry that names a job number it was not given: no resource code is stated for it (R468, R476). -/
opaque jobDetail : (job : BitVec 16) → BitVec 32

/-- DETAIL of NOT_OWNER for TIME_DELAY: a port is no resource of R471. -/
opaque portDetail : (port : BitVec 8) → BitVec 32

/-- A journal record of the host object with its keys as zero (R584): the spec gives the object no layout (log entry 9). -/
opaque keysHidden : (record : List Byte) → List Byte

/-- Is an inexact quotient rounded up, where the spec states no rounding (log entry 100)? -/
opaque roundUp : (num den : Int) → Bool

/-- c of a reference point where t × r is zero or c leaves Q1.14 (R167): no result is stated (log entry 100). -/
opaque refOpen : (m t r : BitVec 32) → BitVec 32

/-- ln(m / c) of a pair's measurements in a subband, in 2⁻²⁴ neper and radian, its angle wrapped about a former value (R171): how the
measurements of one sweep are joined and the logarithm is rounded is not stated (log entry 101). -/
opaque lnRatio : (m : List (BitVec 32)) → (c : BitVec 32) → (about : Int × Int) → Int × Int
/-- The a_p and b_r, 64 each, that make Σ |y − a_p − b_r|² least with Σ a_p = 0 over rows (p, r, y), in 2⁻²⁴ (R171, log entry 101). -/
opaque leastSquares : (rows : List (Nat × Nat × Int × Int)) → List (Int × Int)
/-- exp(z) as Q1.14 I and Q, z in 2⁻²⁴ neper and radian (R171, log entry 101). -/
opaque expWord : (re im : Int) → BitVec 32
/-- ln of the mean of exp over a list, in 2⁻²⁴ neper (R171, log entry 101). -/
opaque lnMeanExp : List Int → Int

/-- First entry, count and offset, in DFE cycles before its instant, of the list of a trigger in an RFFE master's list memory: the memory's
layout is not stated (R126, log entry 96). -/
opaque rffeTable : (mem : List Word) → (trig : Nat) → BitVec 8 × BitVec 9 × BitVec 16

/-- The solve of a training job (R217, R218): over the records with the bank each was taken under, the terms of the basis, the gain G once it
is held, and lam. The fractional alignment, the FP32 rounding and the order of the sums are not stated (log entry 108). -/
opaque dpdFit : (recs : List (List Byte × List (Int × Int))) → (terms : List Nat) → (gain : Option Nat) → (lam : BitVec 32) → DpdFit

/-- The estimate, SNR and solve of a reciprocity job for one PRB group (R254): from a capture as it lies in cluster memory, the layers' comb and
shift with their reference sequences, ALPHA in FP32, and the first and the last PRB of the group. The estimator, the FP32 rounding and the order of the
sums are not stated (log entry 118). -/
opaque recipFit : (capture : List Byte) → (layers : List (List Nat × List Byte)) → (alpha : BitVec 32) → (first last : Nat) → RecipFit

/-- Byte `i` of an eCPRI message's headers, and of a delay message, which the eCPRI and O-RAN specifications lay out and this one does not: from
the kind of message, its eAxC ID, sequence number, stamp, section, first PRB and PRB count, or its measurement ID and times (log entry 119). -/
opaque ecpriByte : (what : List Nat) → (i : Nat) → BitVec 8

/-- Tap `i` of a cancellation pulse for carriers at given offsets in Hz with bandwidths in kHz (R203, log entry 109), Q1.14 I and Q. -/
opaque cfrPulse : (cars : List (Int × Nat)) → (i : Nat) → BitVec 32

/-- Cosine and sine of an NCO's phase in Q1.16: the spec gives the table's spurious-free range only (R187, log entry 97). -/
opaque ncoTable : (phase : Nat) → BitVec 18 × BitVec 18

/-- The unit phasor of `num / den` of a turn in Q1.14: the rounding of its parts is not stated (R234, R235, log entry 97). -/
opaque phasor : (num den : Nat) → BitVec 16 × BitVec 16

/-- A transform of `n` points with gain 1/√n and its saturations (R234, R235): the arithmetic within it is not stated (log entry 97). -/
opaque ifft : (n : Nat) → (bins : List (Int × Int)) → List (BitVec 16 × BitVec 16) × BitVec 16
opaque fft : (n : Nat) → (samples : List (Int × Int)) → List (BitVec 16 × BitVec 16)

/-- The taps of the half-band filters in Q1.16, from the outermost to the centre: 12 of HB1 and 28 of HB2 (R190, log entry 97). -/
opaque hb1 : (i : Nat) → BitVec 18
opaque hb2 : (i : Nat) → BitVec 18

/-- The 2x interpolator between the TX I/Q correction and the DAC: its two outputs for a sample, from its last inputs (R161, log entry 97). -/
opaque dacInterp : (last : List (Int × Int)) → (Int × Int) × (Int × Int)

end Sys2Proof.Config
end

