-- ==== Sys2Proof/Machine/RegMap.lean ====
section
/-! DEFINITION. The register map of the sixteen blocks (R25 and each block's offset table) and of BAR0 (R429 to R431,
R436, R533): one address function per register, in the spec's names, and one bit range per field. The addresses are
the internal 40-bit addresses of R25; a BAR0 register stands in the same key space at `bar0` plus its offset. -/

namespace Sys2Proof.Machine

/-- The key at which BAR0 offset 0 stands in the register file of the model: above every 40-bit internal address. -/
def bar0 : Nat := 0x100000000000

namespace R

/-- R89, TL_CTRL (Run control). -/
def TL_CTRL : Nat := 0x40000000
/-- R89, TL_STATUS (State). -/
def TL_STATUS : Nat := 0x40000004
/-- R89, TL_HEAD (Oldest entry not yet retired, 0–4095, R69). -/
def TL_HEAD : Nat := 0x40000008
/-- R89, TL_TAIL (Next free entry, 0–4095). -/
def TL_TAIL : Nat := 0x4000000C
/-- R89, TL_NOW (Current stamp of numerology n, R60). -/
def TL_NOW (i : Nat) : Nat := 0x40000010 + 0x4 * i
/-- R89, TL_LEAD (Lead time in DFE cycles, R66). -/
def TL_LEAD (i : Nat) : Nat := 0x40000020 + 0x4 * i
/-- R89, TL_SFN_LOAD (SFN[9:0] to load at the next frame boundary). -/
def TL_SFN_LOAD : Nat := 0x40000030
/-- R89, TL_FRAME_ERR (Frame tick minus time counter, signed ns). -/
def TL_FRAME_ERR : Nat := 0x40000034
/-- R89, TL_DISARM_GAP (layout of R78). -/
def TL_DISARM_GAP : Nat := 0x40000038
/-- R89, TL_CAR_ULADV (ADV[15:0], R61). -/
def TL_CAR_ULADV (i : Nat) : Nat := 0x40000040 + 0x4 * i
/-- R89, TL_PART_QUOTA (QUOTA[12:0], 0–4096). -/
def TL_PART_QUOTA (i : Nat) : Nat := 0x40000080 + 0x4 * i
/-- R89, TL_PART_USED (USED[12:0]). -/
def TL_PART_USED (i : Nat) : Nat := 0x400000A0 + 0x4 * i
/-- R89, TL_OVERRUN_CNT (Per stage). -/
def TL_OVERRUN_CNT (i : Nat) : Nat := 0x40000100 + 0x4 * i
/-- R89, TL_LATE_LO_CNT (Per quadrant). -/
def TL_LATE_LO_CNT (i : Nat) : Nat := 0x40000120 + 0x4 * i
/-- R89, TL_FILL_BLANK_CNT (layout of R74). -/
def TL_FILL_BLANK_CNT : Nat := 0x40000130
/-- R89, TL_JOB_LATE_CNT (layout of R70). -/
def TL_JOB_LATE_CNT : Nat := 0x40000134
/-- R89, TL_LEASE_BLANK_CNT (layout of R70). -/
def TL_LEASE_BLANK_CNT : Nat := 0x40000138
/-- R89, TL_LATE_ENTRY_CNT (layout of R65). -/
def TL_LATE_ENTRY_CNT : Nat := 0x4000013C
/-- R89, TL_DEFER_CNT (Per borrower kind, k = KIND − 1). -/
def TL_DEFER_CNT (i : Nat) : Nat := 0x40000140 + 0x4 * i
/-- R89, TL_TURN_BLANK_CNT (layout of R79). -/
def TL_TURN_BLANK_CNT : Nat := 0x40000150
/-- R138, RF_CTRL (Block enables and test modes). -/
def RF_CTRL : Nat := 0x40100000
/-- R138, RF_STATUS (Summary of faults and guard state). -/
def RF_STATUS : Nat := 0x40100004
/-- R138, RF_SYN_STATUS (layout of R139). -/
def RF_SYN_STATUS (i : Nat) : Nat := 0x40100010 + 0x4 * i
/-- R138, RF_SYN_FREQ (FKHZ[23:0], current LO in kHz). -/
def RF_SYN_FREQ (i : Nat) : Nat := 0x40100030 + 0x4 * i
/-- R138, RF_TDD_LEAD (layout of R141). -/
def RF_TDD_LEAD : Nat := 0x40100050
/-- R138, RF_TDD_LAG (layout of R141). -/
def RF_TDD_LAG : Nat := 0x40100054
/-- R138, RF_PATH_AVAIL (64 bits over two words, R97). -/
def RF_PATH_AVAIL : Nat := 0x40100058
/-- The second word of RF_PATH_AVAIL. -/
def RF_PATH_AVAIL_HI : Nat := 0x40100058 + 4
/-- R138, RF_RFFE_CFG (Bus rate, half-rate reads, bus supply level). -/
def RF_RFFE_CFG (i : Nat) : Nat := 0x40100060 + 0x4 * i
/-- R138, RF_PATH_STATE (layout of R140). -/
def RF_PATH_STATE (i : Nat) : Nat := 0x40100100 + 0x4 * i
/-- R138, RF_PABIAS_LVL (layout of R142). -/
def RF_PABIAS_LVL (i : Nat) : Nat := 0x40100200 + 0x4 * i
/-- R138, RF_PABIAS_CFG (layout of R142). -/
def RF_PABIAS_CFG (i : Nat) : Nat := 0x40100300 + 0x4 * i
/-- R138, RF_REG_PEAK (layout of R143). -/
def RF_REG_PEAK (i : Nat) : Nat := 0x40100400 + 0x4 * i
/-- R138, RF_REG_RMS (layout of R143). -/
def RF_REG_RMS (i : Nat) : Nat := 0x40100500 + 0x4 * i
/-- R138, RF_REG_DUTY (layout of R143). -/
def RF_REG_DUTY (i : Nat) : Nat := 0x40100600 + 0x4 * i
/-- R138, RF_REG_RANGE_LO (layout of R143). -/
def RF_REG_RANGE_LO (i : Nat) : Nat := 0x40100700 + 0x8 * i
/-- R138, RF_REG_RANGE_HI (layout of R143). -/
def RF_REG_RANGE_HI (i : Nat) : Nat := 0x40100704 + 0x8 * i
/-- R138, RF_REG_STATUS (layout of R143). -/
def RF_REG_STATUS : Nat := 0x40100780
/-- R138, RF_REG_PEAK_CNT (layout of R132). -/
def RF_REG_PEAK_CNT (i : Nat) : Nat := 0x40100800 + 0x4 * i
/-- R138, RF_REG_RMS_CNT (layout of R133). -/
def RF_REG_RMS_CNT (i : Nat) : Nat := 0x40100900 + 0x4 * i
/-- R138, RF_REG_DUTY_CNT (layout of R134). -/
def RF_REG_DUTY_CNT (i : Nat) : Nat := 0x40100A00 + 0x4 * i
/-- R138, RF_LO_UNLOCK_CNT (layout of R107). -/
def RF_LO_UNLOCK_CNT (i : Nat) : Nat := 0x40100B00 + 0x4 * i
/-- R138, RF_RFFE_LATE_CNT (layout of R127). -/
def RF_RFFE_LATE_CNT (i : Nat) : Nat := 0x40100B20 + 0x4 * i
/-- R138, RF_PATH_SKIP_CNT (layout of R631). -/
def RF_PATH_SKIP_CNT (i : Nat) : Nat := 0x40100C00 + 0x4 * i
/-- R138, RF_RFFE_MEM (256 command entries and the list table, 4 KiB). -/
def RF_RFFE_MEM (i j : Nat) : Nat := 0x40101000 + 0x1000 * i + 0x4 * j
/-- R178, CV_CTRL (Block enables and test modes). -/
def CV_CTRL : Nat := 0x40200000
/-- R178, CV_STATUS (Foreground calibration done; summary of faults). -/
def CV_STATUS : Nat := 0x40200004
/-- R178, CV_ROT_CFG (layout of R179). -/
def CV_ROT_CFG : Nat := 0x40200010
/-- R178, CV_SPUR_THR (layout of R179). -/
def CV_SPUR_THR : Nat := 0x40200014
/-- R178, CV_ADC_STATUS (layout of R180). -/
def CV_ADC_STATUS (i : Nat) : Nat := 0x40200100 + 0x4 * i
/-- R178, CV_ADC_MAP (layout of R180). -/
def CV_ADC_MAP (i : Nat) : Nat := 0x40200400 + 0x4 * i
/-- R178, CV_ADC_SPUR (layout of R180). -/
def CV_ADC_SPUR (i : Nat) : Nat := 0x40200700 + 0x4 * i
/-- R178, CV_GATE_FAIL_CNT (layout of R154). -/
def CV_GATE_FAIL_CNT (i : Nat) : Nat := 0x40200A00 + 0x4 * i
/-- R178, CV_RXQ (RX correction: EPS[15:0] and PHI[31:16], Q0.15). -/
def CV_RXQ (i : Nat) : Nat := 0x40200D00 + 0x4 * i
/-- R178, CV_ORX_QUAL (Age of the last observation calibration in s, saturating at 65,535). -/
def CV_ORX_QUAL (i : Nat) : Nat := 0x40200E00 + 0x4 * i
/-- R178, CV_SLICE_COEF (layout of R181). -/
def CV_SLICE_COEF (i j : Nat) : Nat := 0x40210000 + 0x100 * i + 0x10 * j
/-- R178, CV_SLICE_TRIM (layout of R181). -/
def CV_SLICE_TRIM (i j : Nat) : Nat := 0x40210004 + 0x100 * i + 0x10 * j
/-- R178, CV_SLICE_QUAL (layout of R181). -/
def CV_SLICE_QUAL (i j : Nat) : Nat := 0x40210008 + 0x100 * i + 0x10 * j
/-- R178, CV_TXQ_DC (layout of R182). -/
def CV_TXQ_DC (i : Nat) : Nat := 0x40220000 + 0x10 * i
/-- R178, CV_TXQ_IMB (layout of R182). -/
def CV_TXQ_IMB (i : Nat) : Nat := 0x40220004 + 0x10 * i
/-- R178, CV_TXQ_QUAL (layout of R182). -/
def CV_TXQ_QUAL (i : Nat) : Nat := 0x40220008 + 0x10 * i
/-- R178, CV_DAC_STATUS (Segment trim: WORST[7:0] in 0.01 LSB; bit 8 FAIL). -/
def CV_DAC_STATUS (i : Nat) : Nat := 0x40221000 + 0x4 * i
/-- R178, CV_ACAL_STATUS (layout of R183). -/
def CV_ACAL_STATUS : Nat := 0x40230000
/-- R178, CV_ACAL_RESID (layout of R183). -/
def CV_ACAL_RESID : Nat := 0x40230004
/-- R178, CV_ACBANK (Path p, direction d (0 TX, 1 RX), subband k at +0x80p + 0x40d + 4k; I[15:0] and Q[31:16], Q1.14). -/
def CV_ACBANK (i j : Nat) : Nat := 0x40240000 + 0x2000 * i + 0x4 * j
/-- R224, DFE_CTRL (Block enables and test modes). -/
def DFE_CTRL : Nat := 0x40300000
/-- R224, DFE_STATUS (Summary of faults). -/
def DFE_STATUS : Nat := 0x40300004
/-- R224, DFE_CAR_CFG (Bandwidth, numerology, mode, D, h, state, R627). -/
def DFE_CAR_CFG (i : Nat) : Nat := 0x40300100 + 0x20 * i
/-- R224, DFE_CAR_NCO_TX (FHZ, signed, in Hz). -/
def DFE_CAR_NCO_TX (i : Nat) : Nat := 0x40300104 + 0x20 * i
/-- R224, DFE_CAR_NCO_RX (FHZ, signed, in Hz). -/
def DFE_CAR_NCO_RX (i : Nat) : Nat := 0x40300108 + 0x20 * i
/-- R224, DFE_CAR_CIC (Two words: NST, Lᵢ, RX SHᵢ, Rc, R627). -/
def DFE_CAR_CIC (i : Nat) : Nat := 0x4030010C + 0x20 * i
/-- The second word of DFE_CAR_CIC. -/
def DFE_CAR_CIC_HI (i : Nat) : Nat := 0x4030010C + 0x20 * i + 4
/-- R224, DFE_CAR_GAIN (CGAIN, PHASE0, R627). -/
def DFE_CAR_GAIN (i : Nat) : Nat := 0x40300114 + 0x20 * i
/-- R224, DFE_CAR_STAT (layout of R225). -/
def DFE_CAR_STAT (i : Nat) : Nat := 0x40300118 + 0x20 * i
/-- R224, DFE_CAR_TXSH (TX shifts, R627). -/
def DFE_CAR_TXSH (i : Nat) : Nat := 0x4030011C + 0x20 * i
/-- R224, DFE_CAR_PMASK (64-bit path mask, R627). -/
def DFE_CAR_PMASK (i : Nat) : Nat := 0x40300600 + 0x8 * i
/-- The second word of DFE_CAR_PMASK. -/
def DFE_CAR_PMASK_HI (i : Nat) : Nat := 0x40300600 + 0x8 * i + 4
/-- R224, DFE_CFR_CFG (layout of R226). -/
def DFE_CFR_CFG (i : Nat) : Nat := 0x40300800 + 0x4 * i
/-- R224, DFE_CFR_STAT (layout of R226). -/
def DFE_CFR_STAT (i : Nat) : Nat := 0x40300900 + 0x4 * i
/-- R224, DFE_DPD_STATUS (layout of R227). -/
def DFE_DPD_STATUS (i : Nat) : Nat := 0x40300A00 + 0x4 * i
/-- R224, DFE_DPD_NBR (layout of R228). -/
def DFE_DPD_NBR (i : Nat) : Nat := 0x40300B00 + 0x4 * i
/-- R224, DFE_DPD_QUAL (layout of R227). -/
def DFE_DPD_QUAL (i : Nat) : Nat := 0x40300C00 + 0x4 * i
/-- R224, DFE_DPD_CFG (EN, AUTO, K, REJ_N, LEN, unused terms, R628). -/
def DFE_DPD_CFG (i : Nat) : Nat := 0x40300D00 + 0x4 * i
/-- R224, DFE_SAT_CNT (layout of R192). -/
def DFE_SAT_CNT (i : Nat) : Nat := 0x40300E00 + 0x4 * i
/-- R224, DFE_CFR_EXH_CNT (layout of R202). -/
def DFE_CFR_EXH_CNT (i : Nat) : Nat := 0x40300F00 + 0x4 * i
/-- R224, DFE_DPD_SAT_CNT (layout of R192). -/
def DFE_DPD_SAT_CNT (i : Nat) : Nat := 0x40301000 + 0x4 * i
/-- R224, DFE_CAP_SKIP_CNT (layout of R213). -/
def DFE_CAP_SKIP_CNT (i : Nat) : Nat := 0x40301100 + 0x4 * i
/-- R224, DFE_CFIR_EXTRA_CNT (layout of R200). -/
def DFE_CFIR_EXTRA_CNT : Nat := 0x40301120
/-- R224, DFE_DPD_NOTREADY_CNT (layout of R209). -/
def DFE_DPD_NOTREADY_CNT : Nat := 0x40301124
/-- R224, DFE_CAP_STATUS (layout of R229). -/
def DFE_CAP_STATUS (i : Nat) : Nat := 0x40301200 + 0x4 * i
/-- R224, DFE_OBS_DLY (DLY[9:0], R212). -/
def DFE_OBS_DLY (i : Nat) : Nat := 0x40301220 + 0x4 * i
/-- R224, DFE_CAP_BASE (Ring base in DRAM and slot count, R216). -/
def DFE_CAP_BASE (i : Nat) : Nat := 0x40301240 + 0x8 * i
/-- The second word of DFE_CAP_BASE. -/
def DFE_CAP_BASE_HI (i : Nat) : Nat := 0x40301240 + 0x8 * i + 4
/-- R224, DFE_CFIR (32 taps, H[17:0] in Q1.16 per word). -/
def DFE_CFIR (i j : Nat) : Nat := 0x40310000 + 0x80 * i + 0x4 * j
/-- R224, DFE_CFR_PULSE (255 taps, I[15:0] and Q[31:16] in Q1.14). -/
def DFE_CFR_PULSE (i j : Nat) : Nat := 0x40320000 + 0x400 * i + 0x4 * j
/-- R224, DFE_DPD_BANK (256 slots of 8 bytes, R207; written only by the loader). -/
def DFE_DPD_BANK (i j : Nat) : Nat := 0x40340000 + 0x800 * i + 0x4 * j
/-- R262, BF_CTRL (Block enables and test modes). -/
def BF_CTRL : Nat := 0x40400000
/-- R262, BF_STATUS (Revocation and scrubbing state, R629). -/
def BF_STATUS : Nat := 0x40400004
/-- R262, BF_FREE_VEC (FREE[14:0], vectors on the free list, R260). -/
def BF_FREE_VEC : Nat := 0x40400010
/-- R262, BF_CAR_CFG (layout of R263). -/
def BF_CAR_CFG (i : Nat) : Nat := 0x40400100 + 0x20 * i
/-- R262, BF_CAR_F0 (F0[23:0], carrier centre in kHz, R234). -/
def BF_CAR_F0 (i : Nat) : Nat := 0x40400104 + 0x20 * i
/-- R262, BF_CAR_STAT (layout of R264). -/
def BF_CAR_STAT (i : Nat) : Nat := 0x40400108 + 0x20 * i
/-- R262, BF_REGION_BASE (layout of R265). -/
def BF_REGION_BASE (i : Nat) : Nat := 0x40400800 + 0x10 * i
/-- R262, BF_REGION_CFG (layout of R265). -/
def BF_REGION_CFG (i : Nat) : Nat := 0x40400804 + 0x10 * i
/-- R262, BF_REGION_STAT (layout of R266). -/
def BF_REGION_STAT (i : Nat) : Nat := 0x40400808 + 0x10 * i
/-- R262, BF_REGION_PUB (Bit 0: publish the inactive page, R243). -/
def BF_REGION_PUB (i : Nat) : Nat := 0x4040080C + 0x10 * i
/-- R262, BF_LEASE_DROP_CNT (layout of R240). -/
def BF_LEASE_DROP_CNT (i : Nat) : Nat := 0x40400C00 + 0x4 * i
/-- R262, BF_POOL_FULL_CNT (layout of R250). -/
def BF_POOL_FULL_CNT (i : Nat) : Nat := 0x40400C20 + 0x4 * i
/-- R262, BF_WRITE_BLOCK_CNT (R238, R242). -/
def BF_WRITE_BLOCK_CNT (i : Nat) : Nat := 0x40400C40 + 0x4 * i
/-- R262, BF_WEIGHT_LATE_CNT (layout of R250). -/
def BF_WEIGHT_LATE_CNT (i : Nat) : Nat := 0x40400C60 + 0x4 * i
/-- R262, BF_WPAGE_NOTREADY_CNT (layout of R244). -/
def BF_WPAGE_NOTREADY_CNT : Nat := 0x40400C80
/-- R262, BF_RECIP_BADGRP_CNT (layout of R255). -/
def BF_RECIP_BADGRP_CNT : Nat := 0x40400C84
/-- R262, BF_SAT_CNT (layout of R234). -/
def BF_SAT_CNT (i : Nat) : Nat := 0x40400D00 + 0x4 * i
/-- R304, NVC_CTRL (Cluster enables and test modes). -/
def NVC_CTRL : Nat := 0x40500000
/-- R304, NVC_STATUS (Leased-core mask in bits 15:12; paused-core mask in bits 31:16). -/
def NVC_STATUS : Nat := 0x40500004
/-- R304, NVC_CORE_STAT (layout of R305). -/
def NVC_CORE_STAT (i : Nat) : Nat := 0x40500100 + 0x4 * i
/-- R304, NVC_CORE_FLAGS (layout of R306). -/
def NVC_CORE_FLAGS (i : Nat) : Nat := 0x40500140 + 0x4 * i
/-- R304, NVC_WDOG (Watchdog limit in units of 16 core cycles, R274). -/
def NVC_WDOG (i : Nat) : Nat := 0x40500180 + 0x4 * i
/-- R304, NVC_TRIG_DROP_CNT (layout of R297). -/
def NVC_TRIG_DROP_CNT (i : Nat) : Nat := 0x405001C0 + 0x4 * i
/-- R304, NVC_JOB_DONE (layout of R307). -/
def NVC_JOB_DONE (i : Nat) : Nat := 0x40501000 + 0x4 * i
/-- R304, NVC_PERF_CYCLES (64-bit, R294). -/
def NVC_PERF_CYCLES (i : Nat) : Nat := 0x40502000 + 0x40 * i
/-- The second word of NVC_PERF_CYCLES. -/
def NVC_PERF_CYCLES_HI (i : Nat) : Nat := 0x40502000 + 0x40 * i + 4
/-- R304, NVC_PERF_RETIRED (64-bit). -/
def NVC_PERF_RETIRED (i : Nat) : Nat := 0x40502008 + 0x40 * i
/-- The second word of NVC_PERF_RETIRED. -/
def NVC_PERF_RETIRED_HI (i : Nat) : Nat := 0x40502008 + 0x40 * i + 4
/-- R304, NVC_PERF_WASTED (64-bit). -/
def NVC_PERF_WASTED (i : Nat) : Nat := 0x40502010 + 0x40 * i
/-- The second word of NVC_PERF_WASTED. -/
def NVC_PERF_WASTED_HI (i : Nat) : Nat := 0x40502010 + 0x40 * i + 4
/-- R304, NVC_PERF_FE_STARVED (64-bit). -/
def NVC_PERF_FE_STARVED (i : Nat) : Nat := 0x40502018 + 0x40 * i
/-- The second word of NVC_PERF_FE_STARVED. -/
def NVC_PERF_FE_STARVED_HI (i : Nat) : Nat := 0x40502018 + 0x40 * i + 4
/-- R304, NVC_PERF_BE_STARVED (64-bit). -/
def NVC_PERF_BE_STARVED (i : Nat) : Nat := 0x40502020 + 0x40 * i
/-- The second word of NVC_PERF_BE_STARVED. -/
def NVC_PERF_BE_STARVED_HI (i : Nat) : Nat := 0x40502020 + 0x40 * i + 4
/-- R304, NVC_PERF_PAUSED (64-bit). -/
def NVC_PERF_PAUSED (i : Nat) : Nat := 0x40502028 + 0x40 * i
/-- The second word of NVC_PERF_PAUSED. -/
def NVC_PERF_PAUSED_HI (i : Nat) : Nat := 0x40502028 + 0x40 * i + 4
/-- R304, NVC_PERF_OVF (layout of R308). -/
def NVC_PERF_OVF (i : Nat) : Nat := 0x40502030 + 0x40 * i
/-- R304, NVC_MBX_IN (In-words, R299). -/
def NVC_MBX_IN (i j : Nat) : Nat := 0x40503000 + 0x80 * i + 0x4 * j
/-- R304, NVC_MBX_OUT (Out-words, R299). -/
def NVC_MBX_OUT (i j : Nat) : Nat := 0x40503040 + 0x80 * i + 0x4 * j
/-- R345, LN_CTRL (Block enables and test modes). -/
def LN_CTRL : Nat := 0x40600000
/-- R345, LN_STATUS (Lanes in UP in bits 15:0; lanes in LOS in bits 31:16). -/
def LN_STATUS : Nat := 0x40600004
/-- R345, LN_GROUP_CFG (layout of R346). -/
def LN_GROUP_CFG (i : Nat) : Nat := 0x40600010 + 0x4 * i
/-- R345, LN_GROUP_STAT (layout of R346). -/
def LN_GROUP_STAT (i : Nat) : Nat := 0x40600020 + 0x4 * i
/-- R345, LN_TXEQ (layout of R347). -/
def LN_TXEQ (i : Nat) : Nat := 0x40600100 + 0x4 * i
/-- R345, LN_CTLE (layout of R347). -/
def LN_CTLE (i : Nat) : Nat := 0x40600140 + 0x4 * i
/-- R345, LN_STATE (layout of R348). -/
def LN_STATE (i : Nat) : Nat := 0x40600180 + 0x4 * i
/-- R345, LN_PAT_CFG (layout of R349). -/
def LN_PAT_CFG (i : Nat) : Nat := 0x40600200 + 0x4 * i
/-- R345, LN_PAT_STAT (layout of R349). -/
def LN_PAT_STAT (i : Nat) : Nat := 0x40600240 + 0x4 * i
/-- R345, LN_PAT_BITS (64-bit, COUNT[47:0], R343). -/
def LN_PAT_BITS (i : Nat) : Nat := 0x40600280 + 0x8 * i
/-- The second word of LN_PAT_BITS. -/
def LN_PAT_BITS_HI (i : Nat) : Nat := 0x40600280 + 0x8 * i + 4
/-- R345, LN_PAT_USER (64-bit user pattern, R341). -/
def LN_PAT_USER (i : Nat) : Nat := 0x40600300 + 0x8 * i
/-- The second word of LN_PAT_USER. -/
def LN_PAT_USER_HI (i : Nat) : Nat := 0x40600300 + 0x8 * i + 4
/-- R345, LN_PAT_ERR_CNT (layout of R342). -/
def LN_PAT_ERR_CNT (i : Nat) : Nat := 0x40600380 + 0x4 * i
/-- R345, LN_HDR_ERR_CNT (Invalid headers while LOCKED or UP). -/
def LN_HDR_ERR_CNT (i : Nat) : Nat := 0x406003C0 + 0x4 * i
/-- R345, LN_LOCK_LOSS_CNT (Losses of block lock). -/
def LN_LOCK_LOSS_CNT (i : Nat) : Nat := 0x40600400 + 0x4 * i
/-- R345, LN_LOS_CNT (layout of R317). -/
def LN_LOS_CNT (i : Nat) : Nat := 0x40600440 + 0x4 * i
/-- R345, LN_STUFF_ERR_CNT (layout of R326). -/
def LN_STUFF_ERR_CNT (i : Nat) : Nat := 0x40600480 + 0x4 * i
/-- R345, LN_RESYNC_CNT (layout of R329). -/
def LN_RESYNC_CNT (i : Nat) : Nat := 0x406004C0 + 0x4 * i
/-- R345, LN_FRAME_ERR_CNT (layout of R330). -/
def LN_FRAME_ERR_CNT (i : Nat) : Nat := 0x40600500 + 0x4 * i
/-- R345, LN_FEC_CORR_CNT (layout of R335). -/
def LN_FEC_CORR_CNT (i : Nat) : Nat := 0x40600510 + 0x4 * i
/-- R345, LN_FEC_UNCORR_CNT (layout of R335). -/
def LN_FEC_UNCORR_CNT (i : Nat) : Nat := 0x40600520 + 0x4 * i
/-- R386, FH_CTRL (Block enables and test modes). -/
def FH_CTRL : Nat := 0x40700000
/-- R386, FH_STATUS (Summary of faults; ports with a cascade). -/
def FH_STATUS : Nat := 0x40700004
/-- R386, FH_UADDR_CFG (layout of R387). -/
def FH_UADDR_CFG : Nat := 0x40700010
/-- R386, FH_MGMT_ETYPE (ETYPE[15:0], reset 0x88B5). -/
def FH_MGMT_ETYPE : Nat := 0x40700014
/-- R386, FH_PORT_CFG (layout of R388). -/
def FH_PORT_CFG (i : Nat) : Nat := 0x40700020 + 0x4 * i
/-- R386, FH_PORT_STAT (Bit 0 RX_OVF, bit 1 TX_OVF: frame counters wrapped; write 1 to clear). -/
def FH_PORT_STAT (i : Nat) : Nat := 0x40700030 + 0x4 * i
/-- R386, FH_LAUNCH (layout of R388). -/
def FH_LAUNCH (i : Nat) : Nat := 0x40700040 + 0x4 * i
/-- R386, FH_RESV (HARD[13:0]: reservation of R373 in 0.01 %). -/
def FH_RESV (i : Nat) : Nat := 0x40700050 + 0x4 * i
/-- R386, FH_PORT_MAC (64-bit; MAC address in bits 47:0). -/
def FH_PORT_MAC (i : Nat) : Nat := 0x40700060 + 0x8 * i
/-- The second word of FH_PORT_MAC. -/
def FH_PORT_MAC_HI (i : Nat) : Nat := 0x40700060 + 0x8 * i + 4
/-- R386, FH_SECT_QUOTA (QUOTA[15:0], 0–32,768). -/
def FH_SECT_QUOTA (i : Nat) : Nat := 0x40700080 + 0x4 * i
/-- R386, FH_SECT_USED (USED[15:0]). -/
def FH_SECT_USED (i : Nat) : Nat := 0x407000A0 + 0x4 * i
/-- R386, FH_VLAN (VID[11:0]; bit 31 EN). -/
def FH_VLAN (i j : Nat) : Nat := 0x40700100 + 0x20 * i + 0x4 * j
/-- R386, FH_MCAST (64-bit; address in bits 47:0; bit 63 EN; bits 59:56 port mask). -/
def FH_MCAST (i : Nat) : Nat := 0x40700180 + 0x8 * i
/-- The second word of FH_MCAST. -/
def FH_MCAST_HI (i : Nat) : Nat := 0x40700180 + 0x8 * i + 4
/-- R386, FH_DROP_CNT (layout of R383). -/
def FH_DROP_CNT (i j : Nat) : Nat := 0x40700400 + 0x40 * i + 0x4 * j
/-- R386, FH_RX_FRAMES (64-bit, COUNT[47:0], R384). -/
def FH_RX_FRAMES (i : Nat) : Nat := 0x40700600 + 0x10 * i
/-- The second word of FH_RX_FRAMES. -/
def FH_RX_FRAMES_HI (i : Nat) : Nat := 0x40700600 + 0x10 * i + 4
/-- R386, FH_TX_FRAMES (64-bit, COUNT[47:0], R384). -/
def FH_TX_FRAMES (i : Nat) : Nat := 0x40700608 + 0x10 * i
/-- The second word of FH_TX_FRAMES. -/
def FH_TX_FRAMES_HI (i : Nat) : Nat := 0x40700608 + 0x10 * i + 4
/-- R386, FH_FLOW (32-byte flow entry, R389). -/
def FH_FLOW (i w : Nat) : Nat := 0x40710000 + 0x20 * i + 4 * w
/-- R418, TS_CTRL (layout of R419). -/
def TS_CTRL : Nat := 0x40800000
/-- R418, TS_STATUS (layout of R419). -/
def TS_STATUS : Nat := 0x40800004
/-- R418, TS_CNT (64-bit, R390). -/
def TS_CNT : Nat := 0x40800008
/-- The second word of TS_CNT. -/
def TS_CNT_HI : Nat := 0x40800008 + 4
/-- R418, TS_INC_NOM (64-bit, R391). -/
def TS_INC_NOM : Nat := 0x40800010
/-- The second word of TS_INC_NOM. -/
def TS_INC_NOM_HI : Nat := 0x40800010 + 4
/-- R418, TS_INC_CUR (64-bit, R392). -/
def TS_INC_CUR : Nat := 0x40800018
/-- The second word of TS_INC_CUR. -/
def TS_INC_CUR_HI : Nat := 0x40800018 + 4
/-- R418, TS_STEP_VAL (ADD[31:0], signed ns, R393). -/
def TS_STEP_VAL : Nat := 0x40800020
/-- R418, TS_PLL_CFG (FSLEW[13:0], 1–10,000 ppb/s, reset 1,000). -/
def TS_PLL_CFG : Nat := 0x40800024
/-- R418, TS_PLL_STEER (PPB[31:0], s in signed 0.01 ppb). -/
def TS_PLL_STEER : Nat := 0x40800028
/-- R418, TS_PPS_NEXT (NS[31:0], reset 0x3B9A_CA00, R395). -/
def TS_PPS_NEXT : Nat := 0x40800030
/-- R418, TS_PPS_CFG (layout of R421). -/
def TS_PPS_CFG : Nat := 0x40800034
/-- R418, TS_PPS_DLY (layout of R421). -/
def TS_PPS_DLY : Nat := 0x40800038
/-- R418, TS_PPS_IN_TS (NS[31:0], last accepted PPS_IN edge). -/
def TS_PPS_IN_TS : Nat := 0x4080003C
/-- R418, TS_FRAME_OFS (ALPHA[23:0], α in ns, R397). -/
def TS_FRAME_OFS : Nat := 0x40800040
/-- R418, TS_SYNCE_CFG (layout of R422). -/
def TS_SYNCE_CFG : Nat := 0x40800044
/-- R418, TS_SYNCE_MEAS (PPB[31:0], signed 0.01 ppb, R412). -/
def TS_SYNCE_MEAS : Nat := 0x40800048
/-- R418, TS_DOM_CFG (layout of R420). -/
def TS_DOM_CFG (i : Nat) : Nat := 0x40800100 + 0x40 * i
/-- R418, TS_DOM_GAIN (layout of R420). -/
def TS_DOM_GAIN (i : Nat) : Nat := 0x40800104 + 0x40 * i
/-- R418, TS_DOM_LIM (OUTLIER[15:0] in ns, reset 1,000). -/
def TS_DOM_LIM (i : Nat) : Nat := 0x40800108 + 0x40 * i
/-- R418, TS_DOM_STAT (layout of R420). -/
def TS_DOM_STAT (i : Nat) : Nat := 0x4080010C + 0x40 * i
/-- R418, TS_DOM_OFS (E[31:0], sample in Q27.4 ns, R402). -/
def TS_DOM_OFS (i : Nat) : Nat := 0x40800110 + 0x40 * i
/-- R418, TS_DOM_LAST (E[31:0], last accepted sample, Q27.4 ns). -/
def TS_DOM_LAST (i : Nat) : Nat := 0x40800114 + 0x40 * i
/-- R418, TS_DOM_FREQ (PPB[31:0], −I in signed 0.01 ppb). -/
def TS_DOM_FREQ (i : Nat) : Nat := 0x40800118 + 0x40 * i
/-- R418, TS_DOM_VOFS (64-bit; signed ns in the high word, 2⁻³² ns in the low word, R406). -/
def TS_DOM_VOFS (i : Nat) : Nat := 0x40800120 + 0x40 * i
/-- The second word of TS_DOM_VOFS. -/
def TS_DOM_VOFS_HI (i : Nat) : Nat := 0x40800120 + 0x40 * i + 4
/-- R418, TS_SAMPLE_REJ_CNT (R404, R405). -/
def TS_SAMPLE_REJ_CNT (i : Nat) : Nat := 0x40800200 + 0x4 * i
/-- R418, TS_STEP_REFUSED_CNT (layout of R393). -/
def TS_STEP_REFUSED_CNT : Nat := 0x40800208
/-- R418, TS_PPS_GLITCH_CNT (layout of R400). -/
def TS_PPS_GLITCH_CNT : Nat := 0x4080020C
/-- R430, HI_ID (DEV[15:0] = 0x6464; STEP[23:16] = 0xA0 for A0). -/
def HI_ID : Nat := bar0 + 0x0
/-- R430, HI_FW_VER (MINOR[15:0], MAJOR[31:16]; 0x0001_0002 for Hyrno 1.2). -/
def HI_FW_VER : Nat := bar0 + 0x4
/-- R430, HI_ATTACH (ATT[1:0]: the accessing attachment; CTX[15:8]: mask of its contexts). -/
def HI_ATTACH : Nat := bar0 + 0x8
/-- R430, HI_MODE (Copy of PM_MODE, R47). -/
def HI_MODE : Nat := bar0 + 0xC
/-- R430, HI_MODE_LEASE (HOLDER[2:0]; bit 31 NONE when no context holds it). -/
def HI_MODE_LEASE : Nat := bar0 + 0x10
/-- R430, HI_BOOT_STAT (Boot status, as *Power, Reset, Self-Test and Boot* defines it). -/
def HI_BOOT_STAT : Nat := bar0 + 0x14
/-- R430, HI_ALERT_SUM (Bit e of word i for event 32i + e, R445). -/
def HI_ALERT_SUM (i : Nat) : Nat := bar0 + 0x20 + 0x4 * i
/-- R431, HI_CTX_STAT (layout of R432). -/
def HI_CTX_STAT (i : Nat) : Nat := bar0 + 0x1000 + 0x800 * i
/-- R431, HI_CTX_HOLD (R428, seconds, 0–600). -/
def HI_CTX_HOLD (i : Nat) : Nat := bar0 + 0x1004 + 0x800 * i
/-- R431, HI_EVT_MASK (Subscription, bit per event, R442). -/
def HI_EVT_MASK (i j : Nat) : Nat := bar0 + 0x1010 + 0x800 * i + 0x4 * j
/-- R431, HI_EVT_STICKY (Sticky fault bits, R444). -/
def HI_EVT_STICKY (i j : Nat) : Nat := bar0 + 0x1030 + 0x800 * i + 0x4 * j
/-- R431, HI_DBG_BASE (64-bit; internal address of the sub-window, 4 KiB aligned, bits 39:12). -/
def HI_DBG_BASE (i : Nat) : Nat := bar0 + 0x1050 + 0x800 * i
/-- The second word of HI_DBG_BASE. -/
def HI_DBG_BASE_HI (i : Nat) : Nat := bar0 + 0x1050 + 0x800 * i + 4
/-- R431, HI_EVT_LOST_CNT (layout of R443). -/
def HI_EVT_LOST_CNT (i : Nat) : Nat := bar0 + 0x1060 + 0x800 * i
/-- R431, HI_CMP_LOST_CNT (layout of R428). -/
def HI_CMP_LOST_CNT (i : Nat) : Nat := bar0 + 0x1064 + 0x800 * i
/-- R431, HI_DBG_DENY_CNT (layout of R447). -/
def HI_DBG_DENY_CNT (i : Nat) : Nat := bar0 + 0x1068 + 0x800 * i
/-- R431, HI_CMD_BAD_CNT (Commands completed with BAD_PARAM by HI itself, R438). -/
def HI_CMD_BAD_CNT (i : Nat) : Nat := bar0 + 0x106C + 0x800 * i
/-- R436, HI_RING_BASE (64-bit base, 4 KiB aligned; host address for LOC = 0, internal address for LOC = 1). -/
def HI_RING_BASE (i : Nat) : Nat := bar0 + 0x6000 + 0x40 * i
/-- The second word of HI_RING_BASE. -/
def HI_RING_BASE_HI (i : Nat) : Nat := bar0 + 0x6000 + 0x40 * i + 4
/-- R436, HI_RING_CFG (Fields below). -/
def HI_RING_CFG (i : Nat) : Nat := bar0 + 0x6008 + 0x40 * i
/-- R436, HI_RING_STAT (Fields below). -/
def HI_RING_STAT (i : Nat) : Nat := bar0 + 0x600C + 0x40 * i
/-- R436, HI_RING_PROD (Producer index). -/
def HI_RING_PROD (i : Nat) : Nat := bar0 + 0x6010 + 0x40 * i
/-- R436, HI_RING_CONS (Consumer index). -/
def HI_RING_CONS (i : Nat) : Nat := bar0 + 0x6014 + 0x40 * i
/-- R436, HI_RING_DATA (Entry port for LOC = 1, R437). -/
def HI_RING_DATA (i : Nat) : Nat := bar0 + 0x6018 + 0x40 * i
/-- R456, HI_CTRL (Block enables and test modes). -/
def HI_CTRL : Nat := 0x40B00000
/-- R456, HI_DECODE_ERR_CNT (layout of R29). -/
def HI_DECODE_ERR_CNT : Nat := 0x40B00004
/-- R456, HI_INBAND_REJ_CNT (layout of R425). -/
def HI_INBAND_REJ_CNT : Nat := 0x40B00008
/-- R456, HI_SPI_CRC_CNT (layout of R426). -/
def HI_SPI_CRC_CNT : Nat := 0x40B0000C
/-- R456, HI_INFL_TOTAL (INFL[8:0]: commands in flight over all contexts). -/
def HI_INFL_TOTAL : Nat := 0x40B00010
/-- R456, HI_CTX_BIND (ATT[1:0]; bit 31 BOUND, R427). -/
def HI_CTX_BIND (i : Nat) : Nat := 0x40B00100 + 0x4 * i
/-- R457, PM_GPIO_CFG (FUNC[1:0]; bit 2 OUT, reset 0; bit 3 PD, reset 1; SEL[5:4], reset 0; other bits reserved). -/
def PM_GPIO_CFG (i : Nat) : Nat := 0x40C00100 + 0x4 * i
/-- R457, PM_GPIO_IN (Bit k: sampled level of GPIO[k]). -/
def PM_GPIO_IN : Nat := 0x40C00180
/-- R458, HI_UART_CFG (BAUD[2:0]: 0 115,200 (reset), 1 9,600, 2 57,600, 3 230,400, 4 921,600 bit/s; 5–7 refused). -/
def HI_UART_CFG : Nat := 0x40B00200
/-- R458, HI_UART_TXD (Bits 7:0: character to send). -/
def HI_UART_TXD : Nat := 0x40B00204
/-- R458, HI_UART_RXD (Bits 7:0: oldest character; bit 31 EMPTY; a read pops the character). -/
def HI_UART_RXD : Nat := 0x40B00208
/-- R458, HI_UART_OVF_CNT (Characters dropped on a full receive FIFO). -/
def HI_UART_OVF_CNT : Nat := 0x40B0020C
/-- R459, PM_I2C_CFG (Bit 0 FAST: 400 kHz; set from the board record). -/
def PM_I2C_CFG : Nat := 0x40C00190
/-- R459, PM_I2C_TXD (Bits 7:0: byte to send). -/
def PM_I2C_TXD : Nat := 0x40C00194
/-- R459, PM_I2C_RXD (Bits 7:0: oldest byte; bit 31 EMPTY; a read pops the byte). -/
def PM_I2C_RXD : Nat := 0x40C00198
/-- R459, PM_I2C_NAK_CNT (Transfers ended on a missing acknowledge). -/
def PM_I2C_NAK_CNT : Nat := 0x40C0019C
/-- R514, MC_CTRL (Block enables, RETRAIN[7:0] in ms, link ECC enable). -/
def MC_CTRL : Nat := 0x40900000
/-- R514, MC_STATUS (layout of R515). -/
def MC_STATUS : Nat := 0x40900004
/-- R514, MC_REFRESH (P[3:0] signed balance; bit 4 double rate). -/
def MC_REFRESH (i : Nat) : Nat := 0x40900010 + 0x4 * i
/-- R514, MC_PORT_CFG (layout of R515). -/
def MC_PORT_CFG (i : Nat) : Nat := 0x40900100 + 0x10 * i
/-- R514, MC_PORT_STAT (TOKENS[15:0] in 64 bytes; bit 16 in profile). -/
def MC_PORT_STAT (i : Nat) : Nat := 0x40900104 + 0x10 * i
/-- R514, MC_PORT_RD_BYTES (64-bit, COUNT[47:0], R516). -/
def MC_PORT_RD_BYTES (i : Nat) : Nat := 0x40900200 + 0x10 * i
/-- The second word of MC_PORT_RD_BYTES. -/
def MC_PORT_RD_BYTES_HI (i : Nat) : Nat := 0x40900200 + 0x10 * i + 4
/-- R514, MC_PORT_WR_BYTES (64-bit, COUNT[47:0], R516). -/
def MC_PORT_WR_BYTES (i : Nat) : Nat := 0x40900208 + 0x10 * i
/-- The second word of MC_PORT_WR_BYTES. -/
def MC_PORT_WR_BYTES_HI (i : Nat) : Nat := 0x40900208 + 0x10 * i + 4
/-- R514, MC_SPLIT_CNT (layout of R495). -/
def MC_SPLIT_CNT : Nat := 0x40900300
/-- R514, MC_ECC_CORR_CNT (Link ECC corrections on read). -/
def MC_ECC_CORR_CNT : Nat := 0x40900304
/-- R514, MC_ECC_UNCORR_CNT (Uncorrectable reads). -/
def MC_ECC_UNCORR_CNT : Nat := 0x40900308
/-- R514, MC_RT_LATE_CNT (layout of R496). -/
def MC_RT_LATE_CNT : Nat := 0x4090030C
/-- R514, MC_GATHER_DEFER_CNT (layout of R490). -/
def MC_GATHER_DEFER_CNT : Nat := 0x40900310
/-- R514, MC_PERF_OVF (Bit 2i read, bit 2i + 1 write counter of port i wrapped). -/
def MC_PERF_OVF : Nat := 0x40900314
/-- R517, DMA_CTRL (Block enables). -/
def DMA_CTRL : Nat := 0x40A00000
/-- R517, DMA_STATUS (FREE[6:0] free slots; bits 31:16 channels holding slots). -/
def DMA_STATUS : Nat := 0x40A00004
/-- R517, DMA_CH_CFG (layout of R518). -/
def DMA_CH_CFG (i : Nat) : Nat := 0x40A00100 + 0x40 * i
/-- R517, DMA_CH_STAT (layout of R518). -/
def DMA_CH_STAT (i : Nat) : Nat := 0x40A00104 + 0x40 * i
/-- R517, DMA_CH_HEAD (64-bit; first descriptor, bits 39:5). -/
def DMA_CH_HEAD (i : Nat) : Nat := 0x40A00108 + 0x40 * i
/-- The second word of DMA_CH_HEAD. -/
def DMA_CH_HEAD_HI (i : Nat) : Nat := 0x40A00108 + 0x40 * i + 4
/-- R517, DMA_CH_CUR (64-bit; descriptor in progress, or the old tail while parked). -/
def DMA_CH_CUR (i : Nat) : Nat := 0x40A00110 + 0x40 * i
/-- The second word of DMA_CH_CUR. -/
def DMA_CH_CUR_HI (i : Nat) : Nat := 0x40A00110 + 0x40 * i + 4
/-- R517, DMA_CH_DOORBELL (Any write adds one to DBC, R505). -/
def DMA_CH_DOORBELL (i : Nat) : Nat := 0x40A00118 + 0x40 * i
/-- R517, DMA_CH_RATE (RATE[15:0] in MB/s, 0 unlimited, R509). -/
def DMA_CH_RATE (i : Nat) : Nat := 0x40A0011C + 0x40 * i
/-- R517, DMA_CH_BYTES (64-bit, COUNT[47:0]; bytes accepted at the destination). -/
def DMA_CH_BYTES (i : Nat) : Nat := 0x40A00120 + 0x40 * i
/-- The second word of DMA_CH_BYTES. -/
def DMA_CH_BYTES_HI (i : Nat) : Nat := 0x40A00120 + 0x40 * i + 4
/-- R517, DMA_CH_ERR_CNT (layout of R510). -/
def DMA_CH_ERR_CNT (i : Nat) : Nat := 0x40A00128 + 0x40 * i
/-- R551, PM_MODE (layout of R47). -/
def PM_MODE : Nat := 0x40C00000
/-- R551, PM_BIST_STAT (layout of R552). -/
def PM_BIST_STAT : Nat := 0x40C00004
/-- R551, PM_RET_LOST (layout of R553). -/
def PM_RET_LOST : Nat := 0x40C00008
/-- R551, PM_DOM_STAT (ON[23:0]: domain on, R537). -/
def PM_DOM_STAT : Nat := 0x40C0000C
/-- R551, PM_GUST_CFG (layout of R554). -/
def PM_GUST_CFG : Nat := 0x40C00010
/-- R551, PM_GUST_STEP (layout of R554). -/
def PM_GUST_STEP : Nat := 0x40C00014
/-- R551, PM_VCORE (MV[9:0]: confirmed core set point in mV; bit 31 FROZEN, R523). -/
def PM_VCORE : Nat := 0x40C00018
/-- R551, PM_WAKE (Bit 0: Thaw trigger from SPI, R542). -/
def PM_WAKE : Nat := 0x40C0001C
/-- R551, PM_FROST_STAT (REFUSER[3:0], k of the last refusal; REASON[11:8], R540). -/
def PM_FROST_STAT : Nat := 0x40C00020
/-- R551, PM_AON_TEMP (Always-on sensors, R549). -/
def PM_AON_TEMP : Nat := 0x40C00030
/-- R551, PM_SHUT_INFO (Last thermal shutdown, R548 and R549). -/
def PM_SHUT_INFO : Nat := 0x40C00034
/-- R551, PM_GUST_WAIT_CNT (layout of R545). -/
def PM_GUST_WAIT_CNT : Nat := 0x40C00040
/-- R551, PM_ROLLBACK_CNT (Frost rollbacks). -/
def PM_ROLLBACK_CNT : Nat := 0x40C00044
/-- R551, PM_RET_LOST_CNT (Banks lost over all Thaws). -/
def PM_RET_LOST_CNT : Nat := 0x40C00048
/-- R586, HK_CTRL (Bit 0 EN; bit 1 PDOWN, R559). -/
def HK_CTRL : Nat := 0x40D00000
/-- R586, HK_STAT (layout of R587). -/
def HK_STAT : Nat := 0x40D00004
/-- R586, HK_SEQ_CFG (i = 0 regular, 1 Squall: COUNT[4:0], trigger byte in bits 15:8; bits 31:16 reserved). -/
def HK_SEQ_CFG (i : Nat) : Nat := 0x40D00010 + 0x4 * i
/-- R586, HK_SEQ_OSR (OSR[20:0], 125–1,250,000, R556; other values refused). -/
def HK_SEQ_OSR (i : Nat) : Nat := 0x40D00018 + 0x4 * i
/-- R586, HK_SEQ_LIST (Four words, one channel code per byte). -/
def HK_SEQ_LIST (i w : Nat) : Nat := 0x40D00020 + 0x10 * i + 4 * w
/-- R586, HK_TIMER (PERIOD[31:0] in µs). -/
def HK_TIMER (i : Nat) : Nat := 0x40D00040 + 0x4 * i
/-- R586, HK_FIFO_CFG (WM[5:0]: regular watermark, 1–63; WMS[11:8]: Squall watermark, 1–15, R560). -/
def HK_FIFO_CFG : Nat := 0x40D00050
/-- R586, HK_FIFO_LVL (Regular entries in bits 6:0; Squall entries in bits 20:16). -/
def HK_FIFO_LVL : Nat := 0x40D00054
/-- R586, HK_FIFO_RD (64-bit; reading the high word pops the entry, R560). -/
def HK_FIFO_RD (i : Nat) : Nat := 0x40D00058 + 0x8 * i
/-- The second word of HK_FIFO_RD. -/
def HK_FIFO_RD_HI (i : Nat) : Nat := 0x40D00058 + 0x8 * i + 4
/-- R586, HK_DATA (Value in bits 23:0). -/
def HK_DATA (i : Nat) : Nat := 0x40D00100 + 0x4 * i
/-- R586, HK_CAL (64-bit: O, signed 24-bit, in the low word; G in UQ2.22 in the high word). -/
def HK_CAL (i : Nat) : Nat := 0x40D00200 + 0x8 * i
/-- The second word of HK_CAL. -/
def HK_CAL_HI (i : Nat) : Nat := 0x40D00200 + 0x8 * i + 4
/-- R586, HK_LIM (64-bit: lower limit in the low word, upper limit in the high word, signed 24-bit). -/
def HK_LIM (i : Nat) : Nat := 0x40D00400 + 0x8 * i
/-- The second word of HK_LIM. -/
def HK_LIM_HI (i : Nat) : Nat := 0x40D00400 + 0x8 * i + 4
/-- R586, HK_IGN_REG_CNT (layout of R558). -/
def HK_IGN_REG_CNT : Nat := 0x40D00600
/-- R586, HK_IGN_SQ_CNT (layout of R558). -/
def HK_IGN_SQ_CNT : Nat := 0x40D00604
/-- R586, HK_FIFO_OVF_CNT (layout of R560). -/
def HK_FIFO_OVF_CNT : Nat := 0x40D00608
/-- R586, HK_ABORT_CNT (layout of R558). -/
def HK_ABORT_CNT : Nat := 0x40D0060C
/-- R588, TH_CTRL (Block enables and test modes). -/
def TH_CTRL : Nat := 0x40E00000
/-- R588, TH_STAT (layout of R589). -/
def TH_STAT : Nat := 0x40E00004
/-- R588, TH_SENSOR (layout of R589). -/
def TH_SENSOR (i : Nat) : Nat := 0x40E00100 + 0x4 * i
/-- R588, TH_NBR (Neighbour j in bits 8j+5:8j, j = 0–3). -/
def TH_NBR (i : Nat) : Nat := 0x40E00200 + 0x4 * i
/-- R588, TH_WEAR (layout of R589). -/
def TH_WEAR (i : Nat) : Nat := 0x40E00300 + 0x4 * i
/-- R588, TH_MARGIN (K[1:0]: 0 for k = 1, 1 for 0.5, 2 for 0.25; MV[25:16]: planner set point). -/
def TH_MARGIN : Nat := 0x40E00400
/-- R588, TH_SUSPECT_CNT (layout of R564). -/
def TH_SUSPECT_CNT : Nat := 0x40E00500
/-- R588, TH_THROTTLE_CNT (Entries into stage 1). -/
def TH_THROTTLE_CNT : Nat := 0x40E00504
/-- R590, NVJ_CTRL (Block enables). -/
def NVJ_CTRL : Nat := 0x40F00000
/-- R590, NVJ_STAT (Fields below). -/
def NVJ_STAT : Nat := 0x40F00004
/-- R590, NVJ_TAI_SHADOW (64-bit; TAI seconds in bits 47:0, R580). -/
def NVJ_TAI_SHADOW : Nat := 0x40F00010
/-- The second word of NVJ_TAI_SHADOW. -/
def NVJ_TAI_SHADOW_HI : Nat := 0x40F00010 + 4
/-- R590, NVJ_WBUF (Record to write). -/
def NVJ_WBUF (i : Nat) : Nat := 0x40F00040 + 0x4 * i
/-- R590, NVJ_WCMD (REC[11:0]; bit 31 GO). -/
def NVJ_WCMD : Nat := 0x40F00080
/-- R590, NVJ_TORN_CNT (Torn records at this Boot, R582). -/
def NVJ_TORN_CNT : Nat := 0x40F00100
/-- R590, NVJ_WFAIL_CNT (layout of R583). -/
def NVJ_WFAIL_CNT : Nat := 0x40F00104
/-- R533, HI_BOOT_CTRL (Boot mailbox). -/
def HI_BOOT_CTRL : Nat := bar0 + 0x100
/-- R533, HI_BOOT_ACK (Boot mailbox). -/
def HI_BOOT_ACK : Nat := bar0 + 0x104
/-- R533, HI_BOOT_WIN (Boot mailbox). -/
def HI_BOOT_WIN (i : Nat) : Nat := bar0 + 0x800 + 0x4 * i

end R

namespace F

-- TL_CTRL, R89
def TL_CTRL_RUN : Fld := ⟨0, 1⟩
def TL_CTRL_ALIGN : Fld := ⟨1, 1⟩
def TL_CTRL_NUM_EN : Fld := ⟨2, 4⟩
-- TL_STATUS, R89
def TL_STATUS_RUNNING : Fld := ⟨0, 1⟩
def TL_STATUS_ALIGNED : Fld := ⟨1, 1⟩
def TL_STATUS_FULL : Fld := ⟨2, 1⟩
def TL_STATUS_BOUND_OK : Fld := ⟨3, 1⟩
def TL_STATUS_LIVE : Fld := ⟨16, 13⟩
-- TL_HEAD, R89
def TL_HEAD_IDX : Fld := ⟨0, 12⟩
-- TL_TAIL, R89
def TL_TAIL_IDX : Fld := ⟨0, 12⟩
-- TL_NOW, R89
def TL_NOW_STAMP : Fld := ⟨0, 23⟩
-- TL_SFN_LOAD, R89
def TL_SFN_LOAD_SFN : Fld := ⟨0, 10⟩
-- TL_CAR_ULADV, R89
def TL_CAR_ULADV_ADV : Fld := ⟨0, 16⟩
-- TL_PART_QUOTA, R89
def TL_PART_QUOTA_QUOTA : Fld := ⟨0, 13⟩
-- TL_PART_USED, R89
def TL_PART_USED_USED : Fld := ⟨0, 13⟩
-- RF_SYN_STATUS, R138
def RF_SYN_STATUS_STATE : Fld := ⟨0, 3⟩
def RF_SYN_STATUS_RANGE : Fld := ⟨4, 2⟩
def RF_SYN_STATUS_AUTO : Fld := ⟨6, 1⟩
def RF_SYN_STATUS_CAL_US : Fld := ⟨8, 10⟩
def RF_SYN_STATUS_RELOCK : Fld := ⟨24, 8⟩
-- RF_SYN_FREQ, R138
def RF_SYN_FREQ_FKHZ : Fld := ⟨0, 24⟩
-- RF_TDD_LEAD, R138
def RF_TDD_LEAD_TX_LEAD : Fld := ⟨0, 10⟩
def RF_TDD_LEAD_RX_LEAD : Fld := ⟨16, 10⟩
-- RF_TDD_LAG, R138
def RF_TDD_LAG_TX_LAG : Fld := ⟨0, 8⟩
def RF_TDD_LAG_RX_LAG : Fld := ⟨16, 8⟩
-- RF_PATH_AVAIL, R138
def RF_PATH_AVAIL_LO : Fld := ⟨0, 32⟩
def RF_PATH_AVAIL_HI : Fld := ⟨0, 32⟩
-- RF_PATH_STATE, R138
def RF_PATH_STATE_TX : Fld := ⟨0, 3⟩
def RF_PATH_STATE_RX : Fld := ⟨4, 2⟩
def RF_PATH_STATE_AVAIL : Fld := ⟨7, 1⟩
def RF_PATH_STATE_TXATT : Fld := ⟨8, 8⟩
def RF_PATH_STATE_RXATT : Fld := ⟨16, 7⟩
def RF_PATH_STATE_MUTE : Fld := ⟨24, 2⟩
-- RF_PABIAS_LVL, R138
def RF_PABIAS_LVL_ON : Fld := ⟨0, 12⟩
def RF_PABIAS_LVL_OFF : Fld := ⟨16, 12⟩
-- RF_PABIAS_CFG, R138
def RF_PABIAS_CFG_MODE : Fld := ⟨0, 2⟩
def RF_PABIAS_CFG_SLEW : Fld := ⟨8, 8⟩
def RF_PABIAS_CFG_ILIM : Fld := ⟨16, 5⟩
def RF_PABIAS_CFG_QMAX : Fld := ⟨24, 8⟩
-- RF_REG_PEAK, R138
def RF_REG_PEAK_LVL : Fld := ⟨0, 10⟩
-- RF_REG_RMS, R138
def RF_REG_RMS_LVL : Fld := ⟨0, 10⟩
def RF_REG_RMS_WIN : Fld := ⟨12, 2⟩
-- RF_REG_DUTY, R138
def RF_REG_DUTY_DUTY : Fld := ⟨0, 10⟩
-- RF_REG_RANGE_LO, R138
def RF_REG_RANGE_LO_F : Fld := ⟨0, 21⟩
def RF_REG_RANGE_LO_EN : Fld := ⟨31, 1⟩
-- RF_REG_RANGE_HI, R138
def RF_REG_RANGE_HI_F : Fld := ⟨0, 21⟩
-- RF_REG_STATUS, R138
def RF_REG_STATUS_LOADED : Fld := ⟨0, 1⟩
def RF_REG_STATUS_LOCKED : Fld := ⟨1, 1⟩
def RF_REG_STATUS_TORN : Fld := ⟨2, 1⟩
def RF_REG_STATUS_NRANGE : Fld := ⟨4, 5⟩
-- CV_ROT_CFG, R178
def CV_ROT_CFG_EN : Fld := ⟨0, 1⟩
def CV_ROT_CFG_ALIGN : Fld := ⟨1, 1⟩
def CV_ROT_CFG_PERIOD : Fld := ⟨8, 6⟩
def CV_ROT_CFG_FORCE_N : Fld := ⟨16, 3⟩
-- CV_SPUR_THR, R178
def CV_SPUR_THR_THR : Fld := ⟨0, 10⟩
-- CV_ADC_STATUS, R178
def CV_ADC_STATUS_SPARE : Fld := ⟨0, 4⟩
def CV_ADC_STATUS_PHASE : Fld := ⟨4, 3⟩
def CV_ADC_STATUS_FAILS : Fld := ⟨8, 3⟩
def CV_ADC_STATUS_NEXT : Fld := ⟨12, 3⟩
def CV_ADC_STATUS_ROT : Fld := ⟨16, 16⟩
-- CV_ADC_MAP, R178
def CV_ADC_MAP_SLOT0 : Fld := ⟨0, 4⟩
def CV_ADC_MAP_SLOT1 : Fld := ⟨4, 4⟩
def CV_ADC_MAP_SLOT2 : Fld := ⟨8, 4⟩
def CV_ADC_MAP_SLOT3 : Fld := ⟨12, 4⟩
def CV_ADC_MAP_SLOT4 : Fld := ⟨16, 4⟩
def CV_ADC_MAP_SLOT5 : Fld := ⟨20, 4⟩
def CV_ADC_MAP_SLOT6 : Fld := ⟨24, 4⟩
def CV_ADC_MAP_SLOT7 : Fld := ⟨28, 4⟩
-- CV_ADC_SPUR, R178
def CV_ADC_SPUR_GSPUR : Fld := ⟨0, 10⟩
def CV_ADC_SPUR_OSPUR : Fld := ⟨16, 10⟩
def CV_ADC_SPUR_FROZEN : Fld := ⟨31, 1⟩
-- CV_RXQ, R178
def CV_RXQ_EPS : Fld := ⟨0, 16⟩
def CV_RXQ_PHI : Fld := ⟨16, 16⟩
-- CV_ORX_QUAL, R178
def CV_ORX_QUAL_AGE : Fld := ⟨0, 16⟩
-- CV_SLICE_COEF, R178
def CV_SLICE_COEF_GAIN : Fld := ⟨0, 16⟩
def CV_SLICE_COEF_OFS : Fld := ⟨16, 16⟩
-- CV_SLICE_TRIM, R178
def CV_SLICE_TRIM_THR : Fld := ⟨0, 6⟩
def CV_SLICE_TRIM_DLY : Fld := ⟨8, 8⟩
-- CV_SLICE_QUAL, R178
def CV_SLICE_QUAL_DG : Fld := ⟨0, 8⟩
def CV_SLICE_QUAL_DO : Fld := ⟨8, 8⟩
def CV_SLICE_QUAL_DT : Fld := ⟨16, 8⟩
def CV_SLICE_QUAL_RET : Fld := ⟨24, 1⟩
def CV_SLICE_QUAL_SLOT : Fld := ⟨25, 4⟩
-- CV_TXQ_DC, R178
def CV_TXQ_DC_DCI : Fld := ⟨0, 16⟩
def CV_TXQ_DC_DCQ : Fld := ⟨16, 16⟩
-- CV_TXQ_IMB, R178
def CV_TXQ_IMB_EPS : Fld := ⟨0, 16⟩
def CV_TXQ_IMB_PHI : Fld := ⟨16, 16⟩
-- CV_TXQ_QUAL, R178
def CV_TXQ_QUAL_LEAK : Fld := ⟨0, 8⟩
def CV_TXQ_QUAL_IMG : Fld := ⟨8, 8⟩
def CV_TXQ_QUAL_AGE : Fld := ⟨16, 16⟩
-- CV_DAC_STATUS, R178
def CV_DAC_STATUS_WORST : Fld := ⟨0, 8⟩
def CV_DAC_STATUS_FAIL : Fld := ⟨8, 1⟩
-- CV_ACAL_STATUS, R178
def CV_ACAL_STATUS_STATE : Fld := ⟨0, 3⟩
def CV_ACAL_STATUS_POINT : Fld := ⟨4, 2⟩
def CV_ACAL_STATUS_BANK : Fld := ⟨6, 1⟩
def CV_ACAL_STATUS_LOCKED : Fld := ⟨7, 1⟩
def CV_ACAL_STATUS_ROWS : Fld := ⟨8, 10⟩
def CV_ACAL_STATUS_DROP : Fld := ⟨18, 10⟩
def CV_ACAL_STATUS_SWEEP : Fld := ⟨28, 4⟩
-- CV_ACAL_RESID, R178
def CV_ACAL_RESID_RMS_DB : Fld := ⟨0, 16⟩
def CV_ACAL_RESID_RMS_DEG : Fld := ⟨16, 16⟩
-- CV_ACBANK, R178
def CV_ACBANK_I : Fld := ⟨0, 16⟩
def CV_ACBANK_Q : Fld := ⟨16, 16⟩
-- DFE_CAR_CFG, R224
def DFE_CAR_CFG_BW : Fld := ⟨0, 20⟩
def DFE_CAR_CFG_NUM : Fld := ⟨20, 2⟩
def DFE_CAR_CFG_PATHM : Fld := ⟨22, 1⟩
def DFE_CAR_CFG_RUN : Fld := ⟨23, 1⟩
def DFE_CAR_CFG_LOGD : Fld := ⟨24, 4⟩
def DFE_CAR_CFG_H : Fld := ⟨28, 2⟩
def DFE_CAR_CFG_CFG : Fld := ⟨30, 1⟩
-- DFE_CAR_CIC, R224
def DFE_CAR_CIC_L1 : Fld := ⟨0, 6⟩
def DFE_CAR_CIC_L2 : Fld := ⟨8, 6⟩
def DFE_CAR_CIC_L3 : Fld := ⟨16, 6⟩
def DFE_CAR_CIC_L4 : Fld := ⟨24, 6⟩
def DFE_CAR_CIC_SH1 : Fld := ⟨0, 5⟩
def DFE_CAR_CIC_SH2 : Fld := ⟨5, 5⟩
def DFE_CAR_CIC_SH3 : Fld := ⟨10, 5⟩
def DFE_CAR_CIC_SH4 : Fld := ⟨15, 5⟩
def DFE_CAR_CIC_NST : Fld := ⟨20, 2⟩
def DFE_CAR_CIC_LOGRC : Fld := ⟨24, 3⟩
-- DFE_CAR_GAIN, R224
def DFE_CAR_GAIN_CGAIN : Fld := ⟨0, 16⟩
def DFE_CAR_GAIN_PHASE0 : Fld := ⟨16, 16⟩
-- DFE_CAR_STAT, R224
def DFE_CAR_STAT_FILL_LEN : Fld := ⟨0, 9⟩
def DFE_CAR_STAT_CSPAN : Fld := ⟨16, 6⟩
def DFE_CAR_STAT_CBANK_TX : Fld := ⟨24, 1⟩
def DFE_CAR_STAT_CBANK_RX : Fld := ⟨25, 1⟩
def DFE_CAR_STAT_FILLING : Fld := ⟨26, 1⟩
-- DFE_CAR_TXSH, R224
def DFE_CAR_TXSH_TSH1 : Fld := ⟨0, 5⟩
def DFE_CAR_TXSH_TSH2 : Fld := ⟨5, 5⟩
def DFE_CAR_TXSH_TSH3 : Fld := ⟨10, 5⟩
def DFE_CAR_TXSH_TSH4 : Fld := ⟨15, 5⟩
-- DFE_CAR_PMASK, R224
def DFE_CAR_PMASK_LO : Fld := ⟨0, 32⟩
def DFE_CAR_PMASK_HI : Fld := ⟨0, 32⟩
-- DFE_CFR_CFG, R224
def DFE_CFR_CFG_THR1 : Fld := ⟨0, 8⟩
def DFE_CFR_CFG_THR2 : Fld := ⟨8, 8⟩
def DFE_CFR_CFG_THR3 : Fld := ⟨16, 8⟩
def DFE_CFR_CFG_SLOT : Fld := ⟨24, 4⟩
def DFE_CFR_CFG_EVM_MAX : Fld := ⟨28, 4⟩
-- DFE_CFR_STAT, R224
def DFE_CFR_STAT_PAPR : Fld := ⟨0, 8⟩
def DFE_CFR_STAT_EVM : Fld := ⟨8, 8⟩
def DFE_CFR_STAT_PAPR_IN : Fld := ⟨16, 8⟩
-- DFE_DPD_STATUS, R224
def DFE_DPD_STATUS_EN : Fld := ⟨0, 1⟩
def DFE_DPD_STATUS_ACT : Fld := ⟨1, 1⟩
def DFE_DPD_STATUS_READY : Fld := ⟨2, 1⟩
def DFE_DPD_STATUS_LOADING : Fld := ⟨3, 1⟩
def DFE_DPD_STATUS_HALT : Fld := ⟨4, 1⟩
def DFE_DPD_STATUS_REJ : Fld := ⟨8, 8⟩
def DFE_DPD_STATUS_SWAPS : Fld := ⟨16, 16⟩
-- DFE_DPD_NBR, R224
def DFE_DPD_NBR_PATH1 : Fld := ⟨0, 6⟩
def DFE_DPD_NBR_EN1 : Fld := ⟨6, 1⟩
def DFE_DPD_NBR_PATH2 : Fld := ⟨8, 6⟩
def DFE_DPD_NBR_EN2 : Fld := ⟨14, 1⟩
def DFE_DPD_NBR_PATH3 : Fld := ⟨16, 6⟩
def DFE_DPD_NBR_EN3 : Fld := ⟨22, 1⟩
def DFE_DPD_NBR_PATH4 : Fld := ⟨24, 6⟩
def DFE_DPD_NBR_EN4 : Fld := ⟨30, 1⟩
-- DFE_DPD_QUAL, R224
def DFE_DPD_QUAL_NMSE : Fld := ⟨0, 8⟩
def DFE_DPD_QUAL_ACLR : Fld := ⟨8, 8⟩
def DFE_DPD_QUAL_AGE : Fld := ⟨16, 16⟩
-- DFE_DPD_CFG, R224
def DFE_DPD_CFG_EN : Fld := ⟨0, 1⟩
def DFE_DPD_CFG_AUTO : Fld := ⟨1, 1⟩
def DFE_DPD_CFG_K : Fld := ⟨4, 5⟩
def DFE_DPD_CFG_REJ_N : Fld := ⟨16, 8⟩
def DFE_DPD_CFG_LEN : Fld := ⟨24, 2⟩
def DFE_DPD_CFG_UNUSED : Fld := ⟨28, 4⟩
-- DFE_CAP_STATUS, R224
def DFE_CAP_STATUS_STATE : Fld := ⟨0, 2⟩
def DFE_CAP_STATUS_PATH : Fld := ⟨8, 6⟩
def DFE_CAP_STATUS_FLAGS : Fld := ⟨16, 4⟩
def DFE_CAP_STATUS_DONE : Fld := ⟨24, 8⟩
-- DFE_OBS_DLY, R224
def DFE_OBS_DLY_DLY : Fld := ⟨0, 10⟩
-- DFE_CAP_BASE, R224
def DFE_CAP_BASE_LO : Fld := ⟨0, 32⟩
def DFE_CAP_BASE_HI : Fld := ⟨0, 32⟩
-- DFE_CFIR, R224
def DFE_CFIR_H : Fld := ⟨0, 18⟩
-- DFE_CFR_PULSE, R224
def DFE_CFR_PULSE_I : Fld := ⟨0, 16⟩
def DFE_CFR_PULSE_Q : Fld := ⟨16, 16⟩
-- BF_STATUS, R262
def BF_STATUS_REVOKING : Fld := ⟨0, 1⟩
def BF_STATUS_SCRUB : Fld := ⟨1, 1⟩
def BF_STATUS_NREV : Fld := ⟨8, 7⟩
-- BF_FREE_VEC, R262
def BF_FREE_VEC_FREE : Fld := ⟨0, 15⟩
-- BF_CAR_CFG, R262
def BF_CAR_CFG_NRB : Fld := ⟨0, 11⟩
def BF_CAR_CFG_NUM : Fld := ⟨12, 2⟩
def BF_CAR_CFG_PHCOMP : Fld := ⟨14, 1⟩
def BF_CAR_CFG_WADV : Fld := ⟨16, 8⟩
def BF_CAR_CFG_DLSH : Fld := ⟨24, 4⟩
def BF_CAR_CFG_ULSH : Fld := ⟨28, 4⟩
-- BF_CAR_F0, R262
def BF_CAR_F0_F0 : Fld := ⟨0, 24⟩
-- BF_CAR_STAT, R262
def BF_CAR_STAT_LOGN : Fld := ⟨0, 4⟩
def BF_CAR_STAT_ACBANK : Fld := ⟨4, 1⟩
def BF_CAR_STAT_PATHMODE : Fld := ⟨5, 1⟩
def BF_CAR_STAT_LDL : Fld := ⟨8, 6⟩
def BF_CAR_STAT_LUL : Fld := ⟨16, 6⟩
-- BF_REGION_BASE, R262
def BF_REGION_BASE_BASE : Fld := ⟨0, 14⟩
def BF_REGION_BASE_LEN : Fld := ⟨16, 14⟩
-- BF_REGION_CFG, R262
def BF_REGION_CFG_OWNER : Fld := ⟨0, 3⟩
def BF_REGION_CFG_EN : Fld := ⟨3, 1⟩
def BF_REGION_CFG_TYPE : Fld := ⟨4, 2⟩
def BF_REGION_CFG_PAGED : Fld := ⟨6, 1⟩
def BF_REGION_CFG_CONJ : Fld := ⟨7, 1⟩
def BF_REGION_CFG_PGLOG : Fld := ⟨8, 3⟩
def BF_REGION_CFG_CAR : Fld := ⟨12, 4⟩
-- BF_REGION_STAT, R262
def BF_REGION_STAT_ACT : Fld := ⟨0, 1⟩
def BF_REGION_STAT_P0 : Fld := ⟨1, 2⟩
def BF_REGION_STAT_P1 : Fld := ⟨3, 2⟩
def BF_REGION_STAT_REVOKING : Fld := ⟨5, 1⟩
def BF_REGION_STAT_CNT : Fld := ⟨16, 16⟩
-- BF_REGION_PUB, R262
def BF_REGION_PUB_PUB : Fld := ⟨0, 1⟩
-- NVC_STATUS, R304
def NVC_STATUS_LEASED : Fld := ⟨12, 4⟩
def NVC_STATUS_PAUSED : Fld := ⟨16, 16⟩
-- NVC_CORE_STAT, R304
def NVC_CORE_STAT_STATE : Fld := ⟨0, 3⟩
def NVC_CORE_STAT_GROUP : Fld := ⟨4, 2⟩
def NVC_CORE_STAT_OWNER : Fld := ⟨7, 3⟩
def NVC_CORE_STAT_PC : Fld := ⟨12, 12⟩
def NVC_CORE_STAT_FCAUSE : Fld := ⟨24, 4⟩
def NVC_CORE_STAT_RB : Fld := ⟨28, 4⟩
-- NVC_CORE_FLAGS, R304
def NVC_CORE_FLAGS_SAT : Fld := ⟨0, 1⟩
def NVC_CORE_FLAGS_OVF : Fld := ⟨1, 1⟩
def NVC_CORE_FLAGS_FINV : Fld := ⟨2, 1⟩
def NVC_CORE_FLAGS_FOVF : Fld := ⟨3, 1⟩
def NVC_CORE_FLAGS_FUFL : Fld := ⟨4, 1⟩
def NVC_CORE_FLAGS_SERR : Fld := ⟨5, 1⟩
-- NVC_JOB_DONE, R304
def NVC_JOB_DONE_JOB : Fld := ⟨0, 16⟩
def NVC_JOB_DONE_RES : Fld := ⟨16, 2⟩
def NVC_JOB_DONE_CORES : Fld := ⟨24, 8⟩
-- NVC_PERF_CYCLES, R304
def NVC_PERF_CYCLES_LO : Fld := ⟨0, 32⟩
def NVC_PERF_CYCLES_HI : Fld := ⟨0, 16⟩
-- NVC_PERF_RETIRED, R304
def NVC_PERF_RETIRED_LO : Fld := ⟨0, 32⟩
def NVC_PERF_RETIRED_HI : Fld := ⟨0, 16⟩
-- NVC_PERF_WASTED, R304
def NVC_PERF_WASTED_LO : Fld := ⟨0, 32⟩
def NVC_PERF_WASTED_HI : Fld := ⟨0, 16⟩
-- NVC_PERF_FE_STARVED, R304
def NVC_PERF_FE_STARVED_LO : Fld := ⟨0, 32⟩
def NVC_PERF_FE_STARVED_HI : Fld := ⟨0, 16⟩
-- NVC_PERF_BE_STARVED, R304
def NVC_PERF_BE_STARVED_LO : Fld := ⟨0, 32⟩
def NVC_PERF_BE_STARVED_HI : Fld := ⟨0, 16⟩
-- NVC_PERF_PAUSED, R304
def NVC_PERF_PAUSED_LO : Fld := ⟨0, 32⟩
def NVC_PERF_PAUSED_HI : Fld := ⟨0, 16⟩
-- NVC_PERF_OVF, R304
def NVC_PERF_OVF_CYCLES : Fld := ⟨0, 1⟩
def NVC_PERF_OVF_RETIRED : Fld := ⟨1, 1⟩
def NVC_PERF_OVF_WASTED : Fld := ⟨2, 1⟩
def NVC_PERF_OVF_FE : Fld := ⟨3, 1⟩
def NVC_PERF_OVF_BE : Fld := ⟨4, 1⟩
def NVC_PERF_OVF_PAUSED : Fld := ⟨5, 1⟩
-- LN_STATUS, R345
def LN_STATUS_UP : Fld := ⟨0, 16⟩
def LN_STATUS_LOS : Fld := ⟨16, 16⟩
-- LN_GROUP_CFG, R345
def LN_GROUP_CFG_PERS : Fld := ⟨0, 2⟩
def LN_GROUP_CFG_WIDTH : Fld := ⟨2, 2⟩
def LN_GROUP_CFG_RATE : Fld := ⟨16, 15⟩
-- LN_GROUP_STAT, R345
def LN_GROUP_STAT_PLL_LOCK : Fld := ⟨0, 1⟩
def LN_GROUP_STAT_LINK : Fld := ⟨1, 1⟩
def LN_GROUP_STAT_SKEW : Fld := ⟨8, 7⟩
-- LN_TXEQ, R345
def LN_TXEQ_PRE : Fld := ⟨0, 4⟩
def LN_TXEQ_POST : Fld := ⟨4, 6⟩
def LN_TXEQ_AMP : Fld := ⟨10, 4⟩
def LN_TXEQ_TXINV : Fld := ⟨14, 1⟩
-- LN_CTLE, R345
def LN_CTLE_PEAK : Fld := ⟨0, 5⟩
def LN_CTLE_MODE : Fld := ⟨5, 1⟩
def LN_CTLE_DFE_EN : Fld := ⟨6, 1⟩
def LN_CTLE_RXINV : Fld := ⟨7, 1⟩
def LN_CTLE_PK_NOW : Fld := ⟨8, 5⟩
def LN_CTLE_LIM : Fld := ⟨13, 1⟩
def LN_CTLE_EYE : Fld := ⟨16, 8⟩
-- LN_STATE, R345
def LN_STATE_RX : Fld := ⟨0, 3⟩
def LN_STATE_TX : Fld := ⟨4, 3⟩
def LN_STATE_LOS : Fld := ⟨7, 1⟩
def LN_STATE_CDR : Fld := ⟨8, 1⟩
def LN_STATE_BLOCK : Fld := ⟨9, 1⟩
def LN_STATE_POS : Fld := ⟨10, 2⟩
def LN_STATE_CAUSE : Fld := ⟨12, 2⟩
def LN_STATE_HUNTS : Fld := ⟨16, 16⟩
-- LN_PAT_CFG, R345
def LN_PAT_CFG_GPAT : Fld := ⟨0, 3⟩
def LN_PAT_CFG_GINV : Fld := ⟨3, 1⟩
def LN_PAT_CFG_CPAT : Fld := ⟨4, 3⟩
def LN_PAT_CFG_CINV : Fld := ⟨7, 1⟩
def LN_PAT_CFG_HALF : Fld := ⟨8, 4⟩
def LN_PAT_CFG_GEN_EN : Fld := ⟨12, 1⟩
def LN_PAT_CFG_CHK_EN : Fld := ⟨13, 1⟩
-- LN_PAT_STAT, R345
def LN_PAT_STAT_SYNC : Fld := ⟨0, 1⟩
def LN_PAT_STAT_BITS_OVF : Fld := ⟨1, 1⟩
def LN_PAT_STAT_RESYNC : Fld := ⟨8, 8⟩
def LN_PAT_STAT_CLR : Fld := ⟨31, 1⟩
-- LN_PAT_BITS, R345
def LN_PAT_BITS_LO : Fld := ⟨0, 32⟩
def LN_PAT_BITS_HI : Fld := ⟨0, 16⟩
-- LN_PAT_USER, R345
def LN_PAT_USER_LO : Fld := ⟨0, 32⟩
def LN_PAT_USER_HI : Fld := ⟨0, 32⟩
-- FH_UADDR_CFG, R386
def FH_UADDR_CFG_MASK : Fld := ⟨0, 16⟩
def FH_UADDR_CFG_UA : Fld := ⟨16, 12⟩
def FH_UADDR_CFG_BCAST_EN : Fld := ⟨28, 1⟩
-- FH_MGMT_ETYPE, R386
def FH_MGMT_ETYPE_ETYPE : Fld := ⟨0, 16⟩
-- FH_PORT_CFG, R386
def FH_PORT_CFG_ROLE : Fld := ⟨0, 2⟩
def FH_PORT_CFG_CASC : Fld := ⟨2, 2⟩
def FH_PORT_CFG_CASC_EN : Fld := ⟨4, 1⟩
def FH_PORT_CFG_UNTAG : Fld := ⟨5, 1⟩
def FH_PORT_CFG_MTU : Fld := ⟨8, 14⟩
def FH_PORT_CFG_HPCP : Fld := ⟨22, 3⟩
-- FH_PORT_STAT, R386
def FH_PORT_STAT_RX_OVF : Fld := ⟨0, 1⟩
def FH_PORT_STAT_TX_OVF : Fld := ⟨1, 1⟩
-- FH_LAUNCH, R386
def FH_LAUNCH_OFS : Fld := ⟨0, 12⟩
def FH_LAUNCH_NHMTU : Fld := ⟨16, 14⟩
-- FH_RESV, R386
def FH_RESV_HARD : Fld := ⟨0, 14⟩
-- FH_PORT_MAC, R386
def FH_PORT_MAC_LO : Fld := ⟨0, 32⟩
def FH_PORT_MAC_HI : Fld := ⟨0, 16⟩
-- FH_SECT_QUOTA, R386
def FH_SECT_QUOTA_QUOTA : Fld := ⟨0, 16⟩
-- FH_SECT_USED, R386
def FH_SECT_USED_USED : Fld := ⟨0, 16⟩
-- FH_VLAN, R386
def FH_VLAN_VID : Fld := ⟨0, 12⟩
def FH_VLAN_EN : Fld := ⟨31, 1⟩
-- FH_MCAST, R386
def FH_MCAST_LO : Fld := ⟨0, 32⟩
def FH_MCAST_HI : Fld := ⟨0, 16⟩
def FH_MCAST_PORTS : Fld := ⟨24, 4⟩
def FH_MCAST_EN : Fld := ⟨31, 1⟩
-- FH_RX_FRAMES, R386
def FH_RX_FRAMES_LO : Fld := ⟨0, 32⟩
def FH_RX_FRAMES_HI : Fld := ⟨0, 16⟩
-- FH_TX_FRAMES, R386
def FH_TX_FRAMES_LO : Fld := ⟨0, 32⟩
def FH_TX_FRAMES_HI : Fld := ⟨0, 16⟩
-- FH_FLOW, R386
def FH_FLOW_LOCAL : Fld := ⟨0, 16⟩
def FH_FLOW_DIR : Fld := ⟨16, 1⟩
def FH_FLOW_EN : Fld := ⟨17, 1⟩
def FH_FLOW_HARD : Fld := ⟨18, 1⟩
def FH_FLOW_PATHM : Fld := ⟨19, 1⟩
def FH_FLOW_CAR : Fld := ⟨20, 4⟩
def FH_FLOW_LAYER : Fld := ⟨24, 6⟩
def FH_FLOW_OWNER : Fld := ⟨0, 3⟩
def FH_FLOW_IQW : Fld := ⟨4, 4⟩
def FH_FLOW_METH : Fld := ⟨8, 2⟩
def FH_FLOW_UDHDR : Fld := ⟨10, 1⟩
def FH_FLOW_WFMT : Fld := ⟨11, 1⟩
def FH_FLOW_PORTS : Fld := ⟨12, 4⟩
def FH_FLOW_PORT : Fld := ⟨16, 2⟩
def FH_FLOW_SPLIT_EN : Fld := ⟨18, 1⟩
def FH_FLOW_PORT2 : Fld := ⟨19, 2⟩
def FH_FLOW_SPLIT : Fld := ⟨21, 11⟩
def FH_FLOW_VID : Fld := ⟨0, 12⟩
def FH_FLOW_PCP : Fld := ⟨12, 3⟩
def FH_FLOW_EARLY : Fld := ⟨0, 16⟩
def FH_FLOW_LATE : Fld := ⟨16, 16⟩
def FH_FLOW_SEQGAP : Fld := ⟨0, 16⟩
def FH_FLOW_NOCP : Fld := ⟨16, 16⟩
def FH_FLOW_SEQ : Fld := ⟨0, 8⟩
-- TS_CTRL, R418
def TS_CTRL_EN : Fld := ⟨0, 1⟩
def TS_CTRL_SEL : Fld := ⟨1, 1⟩
def TS_CTRL_STEP : Fld := ⟨2, 1⟩
-- TS_STATUS, R418
def TS_STATUS_VALID : Fld := ⟨0, 1⟩
def TS_STATUS_REF_LOCK : Fld := ⟨1, 1⟩
def TS_STATUS_PPS_IN_OK : Fld := ⟨2, 1⟩
def TS_STATUS_SYNCE_OK : Fld := ⟨3, 1⟩
def TS_STATUS_SEL_NOW : Fld := ⟨4, 1⟩
def TS_STATUS_REF245 : Fld := ⟨5, 1⟩
-- TS_CNT, R418
def TS_CNT_FRAC : Fld := ⟨0, 32⟩
def TS_CNT_NS : Fld := ⟨0, 32⟩
-- TS_INC_NOM, R418
def TS_INC_NOM_LO : Fld := ⟨0, 32⟩
def TS_INC_NOM_HI : Fld := ⟨0, 32⟩
-- TS_INC_CUR, R418
def TS_INC_CUR_LO : Fld := ⟨0, 32⟩
def TS_INC_CUR_HI : Fld := ⟨0, 32⟩
-- TS_PLL_CFG, R418
def TS_PLL_CFG_FSLEW : Fld := ⟨0, 14⟩
-- TS_PPS_CFG, R418
def TS_PPS_CFG_OUT_EN : Fld := ⟨0, 1⟩
def TS_PPS_CFG_GATE : Fld := ⟨1, 1⟩
def TS_PPS_CFG_IN_EN : Fld := ⟨2, 1⟩
def TS_PPS_CFG_WIDTH : Fld := ⟨8, 9⟩
-- TS_PPS_DLY, R418
def TS_PPS_DLY_ODLY : Fld := ⟨0, 16⟩
def TS_PPS_DLY_IDLY : Fld := ⟨16, 16⟩
-- TS_FRAME_OFS, R418
def TS_FRAME_OFS_ALPHA : Fld := ⟨0, 24⟩
-- TS_SYNCE_CFG, R418
def TS_SYNCE_CFG_LANE : Fld := ⟨0, 4⟩
def TS_SYNCE_CFG_EN : Fld := ⟨4, 1⟩
-- TS_DOM_CFG, R418
def TS_DOM_CFG_SRC : Fld := ⟨0, 2⟩
def TS_DOM_CFG_HYBRID : Fld := ⟨2, 1⟩
def TS_DOM_CFG_PSLEW : Fld := ⟨4, 10⟩
def TS_DOM_CFG_LOCK_NS : Fld := ⟨16, 10⟩
def TS_DOM_CFG_TMO : Fld := ⟨26, 4⟩
-- TS_DOM_GAIN, R418
def TS_DOM_GAIN_KP : Fld := ⟨0, 16⟩
def TS_DOM_GAIN_KI : Fld := ⟨16, 16⟩
-- TS_DOM_LIM, R418
def TS_DOM_LIM_OUTLIER : Fld := ⟨0, 16⟩
-- TS_DOM_STAT, R418
def TS_DOM_STAT_STATE : Fld := ⟨0, 3⟩
def TS_DOM_STAT_STEER : Fld := ⟨3, 1⟩
def TS_DOM_STAT_SLEWING : Fld := ⟨4, 1⟩
def TS_DOM_STAT_FLIM : Fld := ⟨5, 1⟩
def TS_DOM_STAT_SAMPLES : Fld := ⟨16, 16⟩
-- TS_DOM_VOFS, R418
def TS_DOM_VOFS_FRAC : Fld := ⟨0, 32⟩
def TS_DOM_VOFS_NS : Fld := ⟨0, 32⟩
-- HI_ID, R430
def HI_ID_DEV : Fld := ⟨0, 16⟩
def HI_ID_STEP : Fld := ⟨16, 8⟩
-- HI_FW_VER, R430
def HI_FW_VER_MINOR : Fld := ⟨0, 16⟩
def HI_FW_VER_MAJOR : Fld := ⟨16, 16⟩
-- HI_ATTACH, R430
def HI_ATTACH_ATT : Fld := ⟨0, 2⟩
def HI_ATTACH_CTX : Fld := ⟨8, 8⟩
-- HI_MODE_LEASE, R430
def HI_MODE_LEASE_HOLDER : Fld := ⟨0, 3⟩
def HI_MODE_LEASE_NONE : Fld := ⟨31, 1⟩
-- HI_BOOT_STAT, R430
def HI_BOOT_STAT_SRC : Fld := ⟨0, 2⟩
def HI_BOOT_STAT_FALLBACK : Fld := ⟨2, 1⟩
def HI_BOOT_STAT_STAGE : Fld := ⟨3, 3⟩
def HI_BOOT_STAT_AUTH : Fld := ⟨6, 2⟩
def HI_BOOT_STAT_TORN : Fld := ⟨8, 8⟩
def HI_BOOT_STAT_DRAM : Fld := ⟨16, 3⟩
def HI_BOOT_STAT_REF : Fld := ⟨19, 1⟩
def HI_BOOT_STAT_SHUTDOWN : Fld := ⟨20, 1⟩
def HI_BOOT_STAT_SUPPLY : Fld := ⟨21, 1⟩
def HI_BOOT_STAT_SVN : Fld := ⟨24, 6⟩
-- HI_CTX_STAT, R431
def HI_CTX_STAT_STATE : Fld := ⟨0, 2⟩
def HI_CTX_STAT_ATT : Fld := ⟨2, 2⟩
def HI_CTX_STAT_MODE_LEASE : Fld := ⟨4, 1⟩
def HI_CTX_STAT_INFL : Fld := ⟨8, 9⟩
def HI_CTX_STAT_QUOTA : Fld := ⟨18, 9⟩
-- HI_CTX_HOLD, R431
def HI_CTX_HOLD_S : Fld := ⟨0, 10⟩
-- HI_DBG_BASE, R431
def HI_DBG_BASE_LO : Fld := ⟨12, 20⟩
def HI_DBG_BASE_HI : Fld := ⟨0, 8⟩
-- HI_RING_BASE, R436
def HI_RING_BASE_LO : Fld := ⟨12, 20⟩
def HI_RING_BASE_HI : Fld := ⟨0, 32⟩
-- HI_RING_CFG, R436
def HI_RING_CFG_SIZE : Fld := ⟨0, 4⟩
def HI_RING_CFG_EN : Fld := ⟨4, 1⟩
def HI_RING_CFG_LOC : Fld := ⟨5, 1⟩
def HI_RING_CFG_VEC : Fld := ⟨8, 5⟩
def HI_RING_CFG_ICNT : Fld := ⟨16, 8⟩
def HI_RING_CFG_ITIME : Fld := ⟨24, 8⟩
-- HI_RING_STAT, R436
def HI_RING_STAT_STATE : Fld := ⟨0, 2⟩
def HI_RING_STAT_ERR : Fld := ⟨2, 4⟩
def HI_RING_STAT_OWNER : Fld := ⟨8, 3⟩
def HI_RING_STAT_PURP : Fld := ⟨12, 2⟩
-- HI_RING_PROD, R436
def HI_RING_PROD_IDX : Fld := ⟨0, 16⟩
-- HI_RING_CONS, R436
def HI_RING_CONS_IDX : Fld := ⟨0, 16⟩
-- HI_INFL_TOTAL, R456
def HI_INFL_TOTAL_INFL : Fld := ⟨0, 9⟩
-- HI_CTX_BIND, R456
def HI_CTX_BIND_ATT : Fld := ⟨0, 2⟩
def HI_CTX_BIND_BOUND : Fld := ⟨31, 1⟩
-- PM_GPIO_CFG, R457
def PM_GPIO_CFG_FUNC : Fld := ⟨0, 2⟩
def PM_GPIO_CFG_OUT : Fld := ⟨2, 1⟩
def PM_GPIO_CFG_PD : Fld := ⟨3, 1⟩
def PM_GPIO_CFG_SEL : Fld := ⟨4, 2⟩
-- HI_UART_CFG, R458
def HI_UART_CFG_BAUD : Fld := ⟨0, 3⟩
-- HI_UART_TXD, R458
def HI_UART_TXD_CH : Fld := ⟨0, 8⟩
-- HI_UART_RXD, R458
def HI_UART_RXD_CH : Fld := ⟨0, 8⟩
def HI_UART_RXD_EMPTY : Fld := ⟨31, 1⟩
-- PM_I2C_CFG, R459
def PM_I2C_CFG_FAST : Fld := ⟨0, 1⟩
-- PM_I2C_TXD, R459
def PM_I2C_TXD_B : Fld := ⟨0, 8⟩
-- PM_I2C_RXD, R459
def PM_I2C_RXD_B : Fld := ⟨0, 8⟩
def PM_I2C_RXD_EMPTY : Fld := ⟨31, 1⟩
-- MC_CTRL, R514
def MC_CTRL_RETRAIN : Fld := ⟨0, 8⟩
def MC_CTRL_EN : Fld := ⟨8, 24⟩
-- MC_STATUS, R514
def MC_STATUS_SP : Fld := ⟨0, 2⟩
def MC_STATUS_TRAINED : Fld := ⟨2, 3⟩
def MC_STATUS_SELFREF : Fld := ⟨5, 1⟩
def MC_STATUS_CHANGING : Fld := ⟨6, 1⟩
def MC_STATUS_GATHER : Fld := ⟨7, 1⟩
def MC_STATUS_SIZE : Fld := ⟨8, 5⟩
-- MC_REFRESH, R514
def MC_REFRESH_P : Fld := ⟨0, 4⟩
def MC_REFRESH_DBL : Fld := ⟨4, 1⟩
-- MC_PORT_CFG, R514
def MC_PORT_CFG_RATE : Fld := ⟨0, 16⟩
def MC_PORT_CFG_DEPTH : Fld := ⟨16, 12⟩
def MC_PORT_CFG_PRIO : Fld := ⟨28, 3⟩
def MC_PORT_CFG_HARD : Fld := ⟨31, 1⟩
-- MC_PORT_STAT, R514
def MC_PORT_STAT_TOKENS : Fld := ⟨0, 16⟩
def MC_PORT_STAT_INPROF : Fld := ⟨16, 1⟩
-- MC_PORT_RD_BYTES, R514
def MC_PORT_RD_BYTES_LO : Fld := ⟨0, 32⟩
def MC_PORT_RD_BYTES_HI : Fld := ⟨0, 16⟩
-- MC_PORT_WR_BYTES, R514
def MC_PORT_WR_BYTES_LO : Fld := ⟨0, 32⟩
def MC_PORT_WR_BYTES_HI : Fld := ⟨0, 16⟩
-- MC_PERF_OVF, R514
def MC_PERF_OVF_OVF : Fld := ⟨0, 16⟩
-- DMA_STATUS, R517
def DMA_STATUS_FREE : Fld := ⟨0, 7⟩
def DMA_STATUS_HOLD : Fld := ⟨16, 16⟩
-- DMA_CH_CFG, R517
def DMA_CH_CFG_EN : Fld := ⟨0, 1⟩
def DMA_CH_CFG_RST : Fld := ⟨1, 1⟩
def DMA_CH_CFG_MODE : Fld := ⟨2, 1⟩
def DMA_CH_CFG_PRIO : Fld := ⟨4, 2⟩
def DMA_CH_CFG_SLOTS : Fld := ⟨8, 5⟩
def DMA_CH_CFG_REQ : Fld := ⟨16, 4⟩
def DMA_CH_CFG_REQ_EN : Fld := ⟨20, 1⟩
def DMA_CH_CFG_OWNER : Fld := ⟨24, 3⟩
-- DMA_CH_STAT, R517
def DMA_CH_STAT_STATE : Fld := ⟨0, 3⟩
def DMA_CH_STAT_HELD : Fld := ⟨3, 5⟩
def DMA_CH_STAT_ERR : Fld := ⟨8, 3⟩
def DMA_CH_STAT_BOVF : Fld := ⟨11, 1⟩
def DMA_CH_STAT_DBC : Fld := ⟨16, 16⟩
-- DMA_CH_HEAD, R517
def DMA_CH_HEAD_LO : Fld := ⟨5, 27⟩
def DMA_CH_HEAD_HI : Fld := ⟨0, 8⟩
-- DMA_CH_CUR, R517
def DMA_CH_CUR_LO : Fld := ⟨0, 32⟩
def DMA_CH_CUR_HI : Fld := ⟨0, 8⟩
-- DMA_CH_RATE, R517
def DMA_CH_RATE_RATE : Fld := ⟨0, 16⟩
-- DMA_CH_BYTES, R517
def DMA_CH_BYTES_LO : Fld := ⟨0, 32⟩
def DMA_CH_BYTES_HI : Fld := ⟨0, 16⟩
-- PM_MODE, R551
def PM_MODE_CUR : Fld := ⟨0, 4⟩
def PM_MODE_TGT : Fld := ⟨4, 4⟩
def PM_MODE_BUSY : Fld := ⟨8, 1⟩
def PM_MODE_PREV : Fld := ⟨12, 4⟩
def PM_MODE_CAUSE : Fld := ⟨16, 8⟩
def PM_MODE_BIST_PASS : Fld := ⟨24, 1⟩
def PM_MODE_BIST_VALID : Fld := ⟨25, 1⟩
def PM_MODE_RADIO_LOCK : Fld := ⟨26, 1⟩
-- PM_BIST_STAT, R551
def PM_BIST_STAT_FAIL : Fld := ⟨0, 18⟩
def PM_BIST_STAT_VALID : Fld := ⟨18, 1⟩
def PM_BIST_STAT_RERUN : Fld := ⟨19, 1⟩
def PM_BIST_STAT_VOUT : Fld := ⟨20, 1⟩
def PM_BIST_STAT_OSCOUT : Fld := ⟨21, 1⟩
def PM_BIST_STAT_OSC_REF : Fld := ⟨22, 1⟩
-- PM_RET_LOST, R551
def PM_RET_LOST_BANK : Fld := ⟨0, 29⟩
-- PM_DOM_STAT, R551
def PM_DOM_STAT_ON : Fld := ⟨0, 24⟩
-- PM_GUST_CFG, R551
def PM_GUST_CFG_CAP : Fld := ⟨0, 5⟩
def PM_GUST_CFG_DEBT : Fld := ⟨16, 8⟩
-- PM_GUST_STEP, R551
def PM_GUST_STEP_TX_STEP : Fld := ⟨0, 8⟩
def PM_GUST_STEP_RX_STEP : Fld := ⟨8, 8⟩
-- PM_VCORE, R551
def PM_VCORE_MV : Fld := ⟨0, 10⟩
def PM_VCORE_FROZEN : Fld := ⟨31, 1⟩
-- PM_WAKE, R551
def PM_WAKE_WAKE : Fld := ⟨0, 1⟩
-- PM_FROST_STAT, R551
def PM_FROST_STAT_REFUSER : Fld := ⟨0, 4⟩
def PM_FROST_STAT_REASON : Fld := ⟨8, 4⟩
-- PM_AON_TEMP, R551
def PM_AON_TEMP_T0 : Fld := ⟨0, 16⟩
def PM_AON_TEMP_T1 : Fld := ⟨16, 16⟩
-- PM_SHUT_INFO, R551
def PM_SHUT_INFO_SENSOR : Fld := ⟨0, 6⟩
def PM_SHUT_INFO_PEAK : Fld := ⟨16, 16⟩
-- HK_CTRL, R586
def HK_CTRL_EN : Fld := ⟨0, 1⟩
def HK_CTRL_PDOWN : Fld := ⟨1, 1⟩
-- HK_STAT, R586
def HK_STAT_BUSY_REG : Fld := ⟨0, 1⟩
def HK_STAT_BUSY_SQ : Fld := ⟨1, 1⟩
def HK_STAT_PWRD : Fld := ⟨2, 1⟩
def HK_STAT_STARTUP : Fld := ⟨3, 1⟩
def HK_STAT_REG_IGN : Fld := ⟨4, 1⟩
def HK_STAT_SQ_IGN : Fld := ⟨5, 1⟩
def HK_STAT_ABORTED : Fld := ⟨6, 1⟩
def HK_STAT_OVF : Fld := ⟨7, 1⟩
def HK_STAT_CH : Fld := ⟨8, 6⟩
def HK_STAT_HELD : Fld := ⟨14, 1⟩
-- HK_SEQ_CFG, R586
def HK_SEQ_CFG_COUNT : Fld := ⟨0, 5⟩
def HK_SEQ_CFG_TRIG : Fld := ⟨8, 8⟩
-- HK_SEQ_OSR, R586
def HK_SEQ_OSR_OSR : Fld := ⟨0, 21⟩
-- HK_SEQ_LIST, R586
def HK_SEQ_LIST_W0 : Fld := ⟨0, 32⟩
def HK_SEQ_LIST_W1 : Fld := ⟨0, 32⟩
def HK_SEQ_LIST_W2 : Fld := ⟨0, 32⟩
def HK_SEQ_LIST_W3 : Fld := ⟨0, 32⟩
-- HK_FIFO_CFG, R586
def HK_FIFO_CFG_WM : Fld := ⟨0, 6⟩
def HK_FIFO_CFG_WMS : Fld := ⟨8, 4⟩
-- HK_FIFO_LVL, R586
def HK_FIFO_LVL_REG : Fld := ⟨0, 7⟩
def HK_FIFO_LVL_SQ : Fld := ⟨16, 5⟩
-- HK_FIFO_RD, R586
def HK_FIFO_RD_LO : Fld := ⟨0, 32⟩
def HK_FIFO_RD_HI : Fld := ⟨0, 32⟩
-- HK_DATA, R586
def HK_DATA_V : Fld := ⟨0, 24⟩
-- HK_CAL, R586
def HK_CAL_O : Fld := ⟨0, 24⟩
def HK_CAL_G : Fld := ⟨0, 24⟩
-- HK_LIM, R586
def HK_LIM_LOW : Fld := ⟨0, 24⟩
def HK_LIM_UP : Fld := ⟨0, 24⟩
-- TH_STAT, R588
def TH_STAT_HOT : Fld := ⟨0, 16⟩
def TH_STAT_HOTIDX : Fld := ⟨16, 6⟩
def TH_STAT_STAGE : Fld := ⟨22, 2⟩
def TH_STAT_WARN : Fld := ⟨24, 1⟩
def TH_STAT_LOST : Fld := ⟨25, 1⟩
def TH_STAT_NSUSP : Fld := ⟨26, 6⟩
-- TH_SENSOR, R588
def TH_SENSOR_T : Fld := ⟨0, 16⟩
def TH_SENSOR_SUSPECT : Fld := ⟨16, 1⟩
def TH_SENSOR_SUSP_N : Fld := ⟨24, 8⟩
-- TH_NBR, R588
def TH_NBR_N0 : Fld := ⟨0, 6⟩
def TH_NBR_N1 : Fld := ⟨8, 6⟩
def TH_NBR_N2 : Fld := ⟨16, 6⟩
def TH_NBR_N3 : Fld := ⟨24, 6⟩
-- TH_WEAR, R588
def TH_WEAR_SLACK : Fld := ⟨0, 12⟩
def TH_WEAR_AGE : Fld := ⟨16, 16⟩
-- TH_MARGIN, R588
def TH_MARGIN_K : Fld := ⟨0, 2⟩
def TH_MARGIN_MV : Fld := ⟨16, 10⟩
-- NVJ_STAT, R590
def NVJ_STAT_BUSY : Fld := ⟨0, 1⟩
def NVJ_STAT_QUEUED : Fld := ⟨1, 1⟩
def NVJ_STAT_LAST : Fld := ⟨2, 12⟩
def NVJ_STAT_FAIL : Fld := ⟨14, 1⟩
def NVJ_STAT_LOCK_REG : Fld := ⟨15, 1⟩
def NVJ_STAT_LOCK_REF : Fld := ⟨16, 1⟩
-- NVJ_TAI_SHADOW, R590
def NVJ_TAI_SHADOW_LO : Fld := ⟨0, 32⟩
def NVJ_TAI_SHADOW_HI : Fld := ⟨0, 16⟩
-- NVJ_WCMD, R590
def NVJ_WCMD_REC : Fld := ⟨0, 12⟩
def NVJ_WCMD_GO : Fld := ⟨31, 1⟩
-- HI_BOOT_CTRL, R533
def HI_BOOT_CTRL_OFS : Fld := ⟨0, 20⟩
def HI_BOOT_CTRL_LEN : Fld := ⟨20, 11⟩
def HI_BOOT_CTRL_GO : Fld := ⟨31, 1⟩
-- HI_BOOT_ACK, R533
def HI_BOOT_ACK_ACK : Fld := ⟨0, 16⟩
def HI_BOOT_ACK_ERR : Fld := ⟨31, 1⟩

end F

end Sys2Proof.Machine
end

