-- ==== Sys2Proof/Machine/RegTable.lean ====
section
/-! DEFINITION. What each register accepts and holds at reset (R13, R15 to R17): for every register of the offset tables
the bits a write sets (RW and RWS), the bits a write of one clears (W1C), the bits kept through a warm reset (RWS),
whether it is a 32-bit error counter (R90), and its reset value. A register whose reset value the spec does not state
reads zero at reset (DESIGN CHOICE, log entry 3). -/

namespace Sys2Proof.Machine

/-- One row of an offset table: `n1` times `n2` words, at `base + s1 * i + s2 * j`. -/
structure RegSpec where
  base : Nat
  n1 : Nat
  s1 : Nat
  n2 : Nat
  s2 : Nat
  rw : Nat
  w1c : Nat
  rws : Nat
  cnt : Bool
  rst : Nat
  deriving DecidableEq, Repr

/-- Does address `a` lie in the row: `a = base + s1 * i + s2 * j` for some indices in range. -/
def RegSpec.covers (r : RegSpec) (a : Nat) : Bool :=
  r.base ≤ a &&
    (let d := a - r.base
     let i := if r.s1 = 0 then 0 else d / r.s1
     let e := if r.s1 = 0 then d else d % r.s1
     let j := if r.s2 = 0 then 0 else e / r.s2
     let f := if r.s2 = 0 then e else e % r.s2
     decide (i < r.n1) && decide (j < r.n2) && decide (f = 0))

/-- The registers of block TL (k = 0). -/
def regTableTL : List RegSpec := [
  ⟨0x40000000, 1, 0x0, 1, 0x0, 0x3D, 0x0, 0x0, false, 0x0⟩,
  ⟨0x40000004, 1, 0x0, 1, 0x0, 0x0, 0x0, 0x0, false, 0x8⟩,
  ⟨0x40000008, 1, 0x0, 1, 0x0, 0x0, 0x0, 0x0, false, 0x0⟩,
  ⟨0x4000000C, 1, 0x0, 1, 0x0, 0xFFF, 0x0, 0x0, false, 0x0⟩,
  ⟨0x40000010, 4, 0x4, 1, 0x0, 0x0, 0x0, 0x0, false, 0x0⟩,
  ⟨0x40000020, 1, 0x0, 1, 0x0, 0x0, 0x0, 0x0, false, 0x30000⟩,
  ⟨0x40000024, 3, 0x4, 1, 0x0, 0x0, 0x0, 0x0, false, 0x1E000⟩,
  ⟨0x40000030, 1, 0x0, 1, 0x0, 0x0, 0x0, 0x0, false, 0x0⟩,
  ⟨0x40000034, 1, 0x0, 1, 0x0, 0x0, 0x0, 0x0, false, 0x0⟩,
  ⟨0x40000038, 1, 0x0, 1, 0x0, 0xFFFFFFFF, 0x0, 0x0, false, 0x78000⟩,
  ⟨0x40000040, 16, 0x4, 1, 0x0, 0xFFFF, 0x0, 0x0, false, 0x0⟩,
  ⟨0x40000080, 8, 0x4, 1, 0x0, 0x1FFF, 0x0, 0x0, false, 0x0⟩,
  ⟨0x400000A0, 8, 0x4, 1, 0x0, 0x0, 0x0, 0x0, false, 0x0⟩,
  ⟨0x40000100, 6, 0x4, 1, 0x0, 0x0, 0x0, 0x0, true, 0x0⟩,
  ⟨0x40000120, 4, 0x4, 1, 0x0, 0x0, 0x0, 0x0, true, 0x0⟩,
  ⟨0x40000130, 1, 0x0, 1, 0x0, 0x0, 0x0, 0x0, true, 0x0⟩,
  ⟨0x40000134, 1, 0x0, 1, 0x0, 0x0, 0x0, 0x0, true, 0x0⟩,
  ⟨0x40000138, 1, 0x0, 1, 0x0, 0x0, 0x0, 0x0, true, 0x0⟩,
  ⟨0x4000013C, 1, 0x0, 1, 0x0, 0x0, 0x0, 0x0, true, 0x0⟩,
  ⟨0x40000140, 4, 0x4, 1, 0x0, 0x0, 0x0, 0x0, true, 0x0⟩,
  ⟨0x40000150, 1, 0x0, 1, 0x0, 0x0, 0x0, 0x0, true, 0x0⟩]

/-- The registers of block RF (k = 1). -/
def regTableRF : List RegSpec := [
  ⟨0x40100000, 1, 0x0, 1, 0x0, 0xFFFFFFFF, 0x0, 0x0, false, 0x0⟩,
  ⟨0x40100004, 1, 0x0, 1, 0x0, 0x0, 0x0, 0x0, false, 0x0⟩,
  ⟨0x40100010, 5, 0x4, 1, 0x0, 0x0, 0x0, 0x0, false, 0x0⟩,
  ⟨0x40100030, 5, 0x4, 1, 0x0, 0x0, 0x0, 0x0, false, 0x3567E0⟩,
  ⟨0x40100050, 1, 0x0, 1, 0x0, 0x3FF03FF, 0x0, 0x0, false, 0x1710171⟩,
  ⟨0x40100054, 1, 0x0, 1, 0x0, 0xFF00FF, 0x0, 0x0, false, 0x0⟩,
  ⟨0x40100058, 1, 0x0, 1, 0x0, 0x0, 0x0, 0x0, false, 0x0⟩,
  ⟨0x4010005C, 1, 0x0, 1, 0x0, 0x0, 0x0, 0x0, false, 0x0⟩,
  ⟨0x40100060, 4, 0x4, 1, 0x0, 0xFFFFFFFF, 0x0, 0x0, false, 0x0⟩,
  ⟨0x40100100, 64, 0x4, 1, 0x0, 0x0, 0x0, 0x0, false, 0x0⟩,
  ⟨0x40100200, 64, 0x4, 1, 0x0, 0xFFF0FFF, 0x0, 0x0, false, 0x0⟩,
  ⟨0x40100300, 64, 0x4, 1, 0x0, 0xFF1FFF03, 0x0, 0x0, false, 0x14050A00⟩,
  ⟨0x40100400, 64, 0x4, 1, 0x0, 0x0, 0x0, 0x0, false, 0x0⟩,
  ⟨0x40100500, 64, 0x4, 1, 0x0, 0x0, 0x0, 0x0, false, 0x0⟩,
  ⟨0x40100600, 64, 0x4, 1, 0x0, 0x0, 0x0, 0x0, false, 0x0⟩,
  ⟨0x40100700, 16, 0x8, 1, 0x0, 0x0, 0x0, 0x0, false, 0x0⟩,
  ⟨0x40100704, 16, 0x8, 1, 0x0, 0x0, 0x0, 0x0, false, 0x0⟩,
  ⟨0x40100780, 1, 0x0, 1, 0x0, 0x0, 0x0, 0x0, false, 0x0⟩,
  ⟨0x40100800, 64, 0x4, 1, 0x0, 0x0, 0x0, 0x0, true, 0x0⟩,
  ⟨0x40100900, 64, 0x4, 1, 0x0, 0x0, 0x0, 0x0, true, 0x0⟩,
  ⟨0x40100A00, 64, 0x4, 1, 0x0, 0x0, 0x0, 0x0, true, 0x0⟩,
  ⟨0x40100B00, 5, 0x4, 1, 0x0, 0x0, 0x0, 0x0, true, 0x0⟩,
  ⟨0x40100B20, 4, 0x4, 1, 0x0, 0x0, 0x0, 0x0, true, 0x0⟩,
  ⟨0x40100C00, 64, 0x4, 1, 0x0, 0x0, 0x0, 0x0, true, 0x0⟩,
  ⟨0x40101000, 4, 0x1000, 1024, 0x4, 0xFFFFFFFF, 0x0, 0x0, false, 0x0⟩]

/-- The registers of block CV (k = 2). -/
def regTableCV : List RegSpec := [
  ⟨0x40200000, 1, 0x0, 1, 0x0, 0xFFFFFFFF, 0x0, 0x0, false, 0x0⟩,
  ⟨0x40200004, 1, 0x0, 1, 0x0, 0x0, 0x0, 0x0, false, 0x0⟩,
  ⟨0x40200010, 1, 0x0, 1, 0x0, 0x73F03, 0x0, 0x0, false, 0x40203⟩,
  ⟨0x40200014, 1, 0x0, 1, 0x0, 0x3FF, 0x0, 0x0, false, 0x140⟩,
  ⟨0x40200100, 144, 0x4, 1, 0x0, 0x0, 0x0, 0x0, false, 0x8⟩,
  ⟨0x40200400, 144, 0x4, 1, 0x0, 0x0, 0x0, 0x0, false, 0x76543210⟩,
  ⟨0x40200700, 144, 0x4, 1, 0x0, 0x0, 0x0, 0x0, false, 0x0⟩,
  ⟨0x40200A00, 144, 0x4, 1, 0x0, 0x0, 0x0, 0x0, true, 0x0⟩,
  ⟨0x40200D00, 64, 0x4, 1, 0x0, 0x0, 0x0, 0x0, false, 0x0⟩,
  ⟨0x40200E00, 8, 0x4, 1, 0x0, 0x0, 0x0, 0x0, false, 0x0⟩,
  ⟨0x40210000, 144, 0x100, 9, 0x10, 0x0, 0x0, 0x0, false, 0x8000⟩,
  ⟨0x40210004, 144, 0x100, 9, 0x10, 0x0, 0x0, 0x0, false, 0x0⟩,
  ⟨0x40210008, 144, 0x100, 1, 0x0, 0x0, 0x0, 0x0, false, 0x0⟩,
  ⟨0x40210018, 144, 0x100, 1, 0x0, 0x0, 0x0, 0x0, false, 0x2000000⟩,
  ⟨0x40210028, 144, 0x100, 1, 0x0, 0x0, 0x0, 0x0, false, 0x4000000⟩,
  ⟨0x40210038, 144, 0x100, 1, 0x0, 0x0, 0x0, 0x0, false, 0x6000000⟩,
  ⟨0x40210048, 144, 0x100, 1, 0x0, 0x0, 0x0, 0x0, false, 0x8000000⟩,
  ⟨0x40210058, 144, 0x100, 1, 0x0, 0x0, 0x0, 0x0, false, 0xA000000⟩,
  ⟨0x40210068, 144, 0x100, 1, 0x0, 0x0, 0x0, 0x0, false, 0xC000000⟩,
  ⟨0x40210078, 144, 0x100, 1, 0x0, 0x0, 0x0, 0x0, false, 0xE000000⟩,
  ⟨0x40210088, 144, 0x100, 1, 0x0, 0x0, 0x0, 0x0, false, 0x10000000⟩,
  ⟨0x40220000, 64, 0x10, 1, 0x0, 0x0, 0x0, 0x0, false, 0x0⟩,
  ⟨0x40220004, 64, 0x10, 1, 0x0, 0x0, 0x0, 0x0, false, 0x0⟩,
  ⟨0x40220008, 64, 0x10, 1, 0x0, 0x0, 0x0, 0x0, false, 0xFFFF0000⟩,
  ⟨0x40221000, 128, 0x4, 1, 0x0, 0x0, 0x0, 0x0, false, 0x0⟩,
  ⟨0x40230000, 1, 0x0, 1, 0x0, 0x0, 0x0, 0x0, false, 0x0⟩,
  ⟨0x40230004, 1, 0x0, 1, 0x0, 0x0, 0x0, 0x0, false, 0x0⟩,
  ⟨0x40240000, 2, 0x2000, 2048, 0x4, 0x0, 0x0, 0x0, false, 0x0⟩]

/-- The registers of block DFE (k = 3). -/
def regTableDFE : List RegSpec := [
  ⟨0x40300000, 1, 0x0, 1, 0x0, 0xFFFFFFFF, 0x0, 0x0, false, 0x0⟩,
  ⟨0x40300004, 1, 0x0, 1, 0x0, 0x0, 0x0, 0x0, false, 0x0⟩,
  ⟨0x40300100, 16, 0x20, 1, 0x0, 0x7FFFFFFF, 0x0, 0x0, false, 0x0⟩,
  ⟨0x40300104, 16, 0x20, 1, 0x0, 0xFFFFFFFF, 0x0, 0x0, false, 0x0⟩,
  ⟨0x40300108, 16, 0x20, 1, 0x0, 0xFFFFFFFF, 0x0, 0x0, false, 0x0⟩,
  ⟨0x4030010C, 16, 0x20, 1, 0x0, 0x3F3F3F3F, 0x0, 0x0, false, 0x0⟩,
  ⟨0x40300110, 16, 0x20, 1, 0x0, 0x73FFFFF, 0x0, 0x0, false, 0x0⟩,
  ⟨0x40300114, 16, 0x20, 1, 0x0, 0xFFFFFFFF, 0x0, 0x0, false, 0x8000⟩,
  ⟨0x40300118, 16, 0x20, 1, 0x0, 0x0, 0x0, 0x0, false, 0x0⟩,
  ⟨0x4030011C, 16, 0x20, 1, 0x0, 0xFFFFF, 0x0, 0x0, false, 0x0⟩,
  ⟨0x40300600, 16, 0x8, 1, 0x0, 0xFFFFFFFF, 0x0, 0x0, false, 0x0⟩,
  ⟨0x40300604, 16, 0x8, 1, 0x0, 0xFFFFFFFF, 0x0, 0x0, false, 0x0⟩,
  ⟨0x40300800, 64, 0x4, 1, 0x0, 0xFFFFFFFF, 0x0, 0x0, false, 0x60404040⟩,
  ⟨0x40300900, 64, 0x4, 1, 0x0, 0x0, 0x0, 0x0, false, 0x0⟩,
  ⟨0x40300A00, 64, 0x4, 1, 0x0, 0x0, 0x0, 0x0, false, 0x0⟩,
  ⟨0x40300B00, 64, 0x4, 1, 0x0, 0x7F7F7F7F, 0x0, 0x0, false, 0x0⟩,
  ⟨0x40300C00, 64, 0x4, 1, 0x0, 0x0, 0x0, 0x0, false, 0xFFFF0000⟩,
  ⟨0x40300D00, 64, 0x4, 1, 0x0, 0xF3FF01F3, 0x0, 0x0, false, 0x3030080⟩,
  ⟨0x40300E00, 64, 0x4, 1, 0x0, 0x0, 0x0, 0x0, true, 0x0⟩,
  ⟨0x40300F00, 64, 0x4, 1, 0x0, 0x0, 0x0, 0x0, true, 0x0⟩,
  ⟨0x40301000, 64, 0x4, 1, 0x0, 0x0, 0x0, 0x0, true, 0x0⟩,
  ⟨0x40301100, 8, 0x4, 1, 0x0, 0x0, 0x0, 0x0, true, 0x0⟩,
  ⟨0x40301120, 1, 0x0, 1, 0x0, 0x0, 0x0, 0x0, true, 0x0⟩,
  ⟨0x40301124, 1, 0x0, 1, 0x0, 0x0, 0x0, 0x0, true, 0x0⟩,
  ⟨0x40301200, 8, 0x4, 1, 0x0, 0x0, 0x0, 0x0, false, 0x0⟩,
  ⟨0x40301220, 8, 0x4, 1, 0x0, 0x3FF, 0x0, 0x0, false, 0x0⟩,
  ⟨0x40301240, 8, 0x8, 1, 0x0, 0xFFFFFFFF, 0x0, 0x0, false, 0x0⟩,
  ⟨0x40301244, 8, 0x8, 1, 0x0, 0xFFFFFFFF, 0x0, 0x0, false, 0x0⟩,
  ⟨0x40310000, 64, 0x80, 32, 0x4, 0x3FFFF, 0x0, 0x0, false, 0x0⟩,
  ⟨0x40320000, 16, 0x400, 255, 0x4, 0xFFFFFFFF, 0x0, 0x0, false, 0x0⟩,
  ⟨0x40340000, 128, 0x800, 512, 0x4, 0x0, 0x0, 0x0, false, 0x0⟩]

/-- The registers of block BF (k = 4). -/
def regTableBF : List RegSpec := [
  ⟨0x40400000, 1, 0x0, 1, 0x0, 0xFFFFFFFF, 0x0, 0x0, false, 0x0⟩,
  ⟨0x40400004, 1, 0x0, 1, 0x0, 0x0, 0x0, 0x0, false, 0x0⟩,
  ⟨0x40400010, 1, 0x0, 1, 0x0, 0x0, 0x0, 0x0, false, 0x4000⟩,
  ⟨0x40400100, 16, 0x20, 1, 0x0, 0xFFFF77FF, 0x0, 0x0, false, 0x0⟩,
  ⟨0x40400104, 16, 0x20, 1, 0x0, 0xFFFFFF, 0x0, 0x0, false, 0x0⟩,
  ⟨0x40400108, 16, 0x20, 1, 0x0, 0x0, 0x0, 0x0, false, 0x0⟩,
  ⟨0x40400800, 64, 0x10, 1, 0x0, 0x3FFF3FFF, 0x0, 0x0, false, 0x0⟩,
  ⟨0x40400804, 64, 0x10, 1, 0x0, 0xF7FF, 0x0, 0x0, false, 0x0⟩,
  ⟨0x40400808, 64, 0x10, 1, 0x0, 0x0, 0x0, 0x0, false, 0x0⟩,
  ⟨0x4040080C, 64, 0x10, 1, 0x0, 0x0, 0x0, 0x0, false, 0x0⟩,
  ⟨0x40400C00, 8, 0x4, 1, 0x0, 0x0, 0x0, 0x0, true, 0x0⟩,
  ⟨0x40400C20, 8, 0x4, 1, 0x0, 0x0, 0x0, 0x0, true, 0x0⟩,
  ⟨0x40400C40, 8, 0x4, 1, 0x0, 0x0, 0x0, 0x0, true, 0x0⟩,
  ⟨0x40400C60, 8, 0x4, 1, 0x0, 0x0, 0x0, 0x0, true, 0x0⟩,
  ⟨0x40400C80, 1, 0x0, 1, 0x0, 0x0, 0x0, 0x0, true, 0x0⟩,
  ⟨0x40400C84, 1, 0x0, 1, 0x0, 0x0, 0x0, 0x0, true, 0x0⟩,
  ⟨0x40400D00, 64, 0x4, 1, 0x0, 0x0, 0x0, 0x0, true, 0x0⟩]

/-- The registers of block NVC (k = 5). -/
def regTableNVC : List RegSpec := [
  ⟨0x40500000, 1, 0x0, 1, 0x0, 0xFFFFFFFF, 0x0, 0x0, false, 0x0⟩,
  ⟨0x40500004, 1, 0x0, 1, 0x0, 0x0, 0x0, 0x0, false, 0x0⟩,
  ⟨0x40500100, 8, 0x4, 1, 0x0, 0x0, 0x0, 0x0, false, 0x1⟩,
  ⟨0x40500120, 8, 0x4, 1, 0x0, 0x0, 0x0, 0x0, false, 0x11⟩,
  ⟨0x40500140, 16, 0x4, 1, 0x0, 0x0, 0x3F, 0x0, false, 0x0⟩,
  ⟨0x40500180, 16, 0x4, 1, 0x0, 0xFFFFFFFF, 0x0, 0x0, false, 0x0⟩,
  ⟨0x405001C0, 16, 0x4, 1, 0x0, 0x0, 0x0, 0x0, true, 0x0⟩,
  ⟨0x40501000, 256, 0x4, 1, 0x0, 0x0, 0x0, 0x0, false, 0x0⟩,
  ⟨0x40502000, 16, 0x40, 1, 0x0, 0x0, 0x0, 0x0, false, 0x0⟩,
  ⟨0x40502004, 16, 0x40, 1, 0x0, 0x0, 0x0, 0x0, false, 0x0⟩,
  ⟨0x40502008, 16, 0x40, 1, 0x0, 0x0, 0x0, 0x0, false, 0x0⟩,
  ⟨0x4050200C, 16, 0x40, 1, 0x0, 0x0, 0x0, 0x0, false, 0x0⟩,
  ⟨0x40502010, 16, 0x40, 1, 0x0, 0x0, 0x0, 0x0, false, 0x0⟩,
  ⟨0x40502014, 16, 0x40, 1, 0x0, 0x0, 0x0, 0x0, false, 0x0⟩,
  ⟨0x40502018, 16, 0x40, 1, 0x0, 0x0, 0x0, 0x0, false, 0x0⟩,
  ⟨0x4050201C, 16, 0x40, 1, 0x0, 0x0, 0x0, 0x0, false, 0x0⟩,
  ⟨0x40502020, 16, 0x40, 1, 0x0, 0x0, 0x0, 0x0, false, 0x0⟩,
  ⟨0x40502024, 16, 0x40, 1, 0x0, 0x0, 0x0, 0x0, false, 0x0⟩,
  ⟨0x40502028, 16, 0x40, 1, 0x0, 0x0, 0x0, 0x0, false, 0x0⟩,
  ⟨0x4050202C, 16, 0x40, 1, 0x0, 0x0, 0x0, 0x0, false, 0x0⟩,
  ⟨0x40502030, 16, 0x40, 1, 0x0, 0x0, 0x3F, 0x0, false, 0x0⟩,
  ⟨0x40503000, 16, 0x80, 16, 0x4, 0x0, 0x0, 0x0, false, 0x0⟩,
  ⟨0x40503040, 16, 0x80, 16, 0x4, 0x0, 0x0, 0x0, false, 0x0⟩]

/-- The registers of block LN (k = 6). -/
def regTableLN : List RegSpec := [
  ⟨0x40600000, 1, 0x0, 1, 0x0, 0xFFFFFFFF, 0x0, 0x0, false, 0x0⟩,
  ⟨0x40600004, 1, 0x0, 1, 0x0, 0x0, 0x0, 0x0, false, 0x0⟩,
  ⟨0x40600010, 4, 0x4, 1, 0x0, 0x7FFF000F, 0x0, 0x0, false, 0x60000000⟩,
  ⟨0x40600020, 4, 0x4, 1, 0x0, 0x0, 0x0, 0x0, false, 0x0⟩,
  ⟨0x40600100, 16, 0x4, 1, 0x0, 0x7FFF, 0x0, 0x0, false, 0x2084⟩,
  ⟨0x40600140, 16, 0x4, 1, 0x0, 0xFF, 0x0, 0x0, false, 0x4A⟩,
  ⟨0x40600180, 16, 0x4, 1, 0x0, 0x0, 0x0, 0x0, false, 0x0⟩,
  ⟨0x40600200, 16, 0x4, 1, 0x0, 0x3FFF, 0x0, 0x0, false, 0x44⟩,
  ⟨0x40600240, 16, 0x4, 1, 0x0, 0x0, 0x0, 0x0, false, 0x0⟩,
  ⟨0x40600280, 16, 0x8, 1, 0x0, 0x0, 0x0, 0x0, false, 0x0⟩,
  ⟨0x40600284, 16, 0x8, 1, 0x0, 0x0, 0x0, 0x0, false, 0x0⟩,
  ⟨0x40600300, 16, 0x8, 1, 0x0, 0xFFFFFFFF, 0x0, 0x0, false, 0x0⟩,
  ⟨0x40600304, 16, 0x8, 1, 0x0, 0xFFFFFFFF, 0x0, 0x0, false, 0x0⟩,
  ⟨0x40600380, 16, 0x4, 1, 0x0, 0x0, 0x0, 0x0, true, 0x0⟩,
  ⟨0x406003C0, 16, 0x4, 1, 0x0, 0x0, 0x0, 0x0, true, 0x0⟩,
  ⟨0x40600400, 16, 0x4, 1, 0x0, 0x0, 0x0, 0x0, true, 0x0⟩,
  ⟨0x40600440, 16, 0x4, 1, 0x0, 0x0, 0x0, 0x0, true, 0x0⟩,
  ⟨0x40600480, 16, 0x4, 1, 0x0, 0x0, 0x0, 0x0, true, 0x0⟩,
  ⟨0x406004C0, 16, 0x4, 1, 0x0, 0x0, 0x0, 0x0, true, 0x0⟩,
  ⟨0x40600500, 4, 0x4, 1, 0x0, 0x0, 0x0, 0x0, true, 0x0⟩,
  ⟨0x40600510, 4, 0x4, 1, 0x0, 0x0, 0x0, 0x0, true, 0x0⟩,
  ⟨0x40600520, 4, 0x4, 1, 0x0, 0x0, 0x0, 0x0, true, 0x0⟩]

/-- The registers of block FH (k = 7). -/
def regTableFH : List RegSpec := [
  ⟨0x40700000, 1, 0x0, 1, 0x0, 0xFFFFFFFF, 0x0, 0x0, false, 0x0⟩,
  ⟨0x40700004, 1, 0x0, 1, 0x0, 0x0, 0x0, 0x0, false, 0x0⟩,
  ⟨0x40700010, 1, 0x0, 1, 0x0, 0x1FFFFFFF, 0x0, 0x0, false, 0x0⟩,
  ⟨0x40700014, 1, 0x0, 1, 0x0, 0xFFFF, 0x0, 0x0, false, 0x88B5⟩,
  ⟨0x40700020, 4, 0x4, 1, 0x0, 0x1FFFF3F, 0x0, 0x0, false, 0x1E32800⟩,
  ⟨0x40700030, 4, 0x4, 1, 0x0, 0x0, 0x3, 0x0, false, 0x0⟩,
  ⟨0x40700040, 4, 0x4, 1, 0x0, 0x3FFF0FFF, 0x0, 0x0, false, 0x5DC0000⟩,
  ⟨0x40700050, 4, 0x4, 1, 0x0, 0x0, 0x0, 0x0, false, 0x0⟩,
  ⟨0x40700060, 4, 0x8, 1, 0x0, 0xFFFFFFFF, 0x0, 0x0, false, 0x0⟩,
  ⟨0x40700064, 4, 0x8, 1, 0x0, 0xFFFF, 0x0, 0x0, false, 0x0⟩,
  ⟨0x40700080, 8, 0x4, 1, 0x0, 0xFFFF, 0x0, 0x0, false, 0x0⟩,
  ⟨0x407000A0, 8, 0x4, 1, 0x0, 0x0, 0x0, 0x0, false, 0x0⟩,
  ⟨0x40700100, 4, 0x20, 8, 0x4, 0x80000FFF, 0x0, 0x0, false, 0x0⟩,
  ⟨0x40700180, 16, 0x8, 1, 0x0, 0xFFFFFFFF, 0x0, 0x0, false, 0x0⟩,
  ⟨0x40700184, 16, 0x8, 1, 0x0, 0x8F00FFFF, 0x0, 0x0, false, 0x0⟩,
  ⟨0x40700400, 4, 0x40, 16, 0x4, 0x0, 0x0, 0x0, true, 0x0⟩,
  ⟨0x40700600, 4, 0x10, 1, 0x0, 0x0, 0x0, 0x0, false, 0x0⟩,
  ⟨0x40700604, 4, 0x10, 1, 0x0, 0x0, 0x0, 0x0, false, 0x0⟩,
  ⟨0x40700608, 4, 0x10, 1, 0x0, 0x0, 0x0, 0x0, false, 0x0⟩,
  ⟨0x4070060C, 4, 0x10, 1, 0x0, 0x0, 0x0, 0x0, false, 0x0⟩,
  ⟨0x40710000, 1024, 0x20, 1, 0x0, 0x3FFFFFFF, 0x0, 0x0, false, 0x0⟩,
  ⟨0x40710004, 1024, 0x20, 1, 0x0, 0xFFFFFFF7, 0x0, 0x0, false, 0x0⟩,
  ⟨0x40710008, 1024, 0x20, 1, 0x0, 0x7FFF, 0x0, 0x0, false, 0x0⟩,
  ⟨0x4071000C, 1024, 0x20, 1, 0x0, 0x0, 0x0, 0x0, false, 0x0⟩,
  ⟨0x40710010, 1024, 0x20, 1, 0x0, 0x0, 0x0, 0x0, false, 0x0⟩,
  ⟨0x40710014, 1024, 0x20, 1, 0x0, 0x0, 0x0, 0x0, false, 0x0⟩,
  ⟨0x40710018, 1024, 0x20, 1, 0x0, 0x0, 0x0, 0x0, false, 0x0⟩]

/-- The registers of block TS (k = 8). -/
def regTableTS : List RegSpec := [
  ⟨0x40800000, 1, 0x0, 1, 0x0, 0x3, 0x0, 0x0, false, 0x1⟩,
  ⟨0x40800004, 1, 0x0, 1, 0x0, 0x0, 0x0, 0x0, false, 0x0⟩,
  ⟨0x40800008, 1, 0x0, 1, 0x0, 0x0, 0x0, 0x0, false, 0x0⟩,
  ⟨0x4080000C, 1, 0x0, 1, 0x0, 0x0, 0x0, 0x0, false, 0x0⟩,
  ⟨0x40800010, 1, 0x0, 1, 0x0, 0xFFFFFFFF, 0x0, 0x0, false, 0x11AAAAAB⟩,
  ⟨0x40800014, 1, 0x0, 1, 0x0, 0xFFFFFFFF, 0x0, 0x0, false, 0x4⟩,
  ⟨0x40800018, 1, 0x0, 1, 0x0, 0x0, 0x0, 0x0, false, 0x11AAAAAB⟩,
  ⟨0x4080001C, 1, 0x0, 1, 0x0, 0x0, 0x0, 0x0, false, 0x4⟩,
  ⟨0x40800020, 1, 0x0, 1, 0x0, 0xFFFFFFFF, 0x0, 0x0, false, 0x0⟩,
  ⟨0x40800024, 1, 0x0, 1, 0x0, 0x3FFF, 0x0, 0x0, false, 0x3E8⟩,
  ⟨0x40800028, 1, 0x0, 1, 0x0, 0x0, 0x0, 0x0, false, 0x0⟩,
  ⟨0x40800030, 1, 0x0, 1, 0x0, 0xFFFFFFFF, 0x0, 0x0, false, 0x3B9ACA00⟩,
  ⟨0x40800034, 1, 0x0, 1, 0x0, 0x1FF07, 0x0, 0x0, false, 0x6402⟩,
  ⟨0x40800038, 1, 0x0, 1, 0x0, 0xFFFFFFFF, 0x0, 0x0, false, 0x0⟩,
  ⟨0x4080003C, 1, 0x0, 1, 0x0, 0x0, 0x0, 0x0, false, 0x0⟩,
  ⟨0x40800040, 1, 0x0, 1, 0x0, 0xFFFFFF, 0x0, 0x0, false, 0x0⟩,
  ⟨0x40800044, 1, 0x0, 1, 0x0, 0x1F, 0x0, 0x0, false, 0x0⟩,
  ⟨0x40800048, 1, 0x0, 1, 0x0, 0x0, 0x0, 0x0, false, 0x0⟩,
  ⟨0x40800100, 2, 0x40, 1, 0x0, 0x3FFF3FF7, 0x0, 0x0, false, 0xC640140⟩,
  ⟨0x40800104, 2, 0x40, 1, 0x0, 0xFFFFFFFF, 0x0, 0x0, false, 0x10000800⟩,
  ⟨0x40800108, 2, 0x40, 1, 0x0, 0xFFFF, 0x0, 0x0, false, 0x3E8⟩,
  ⟨0x4080010C, 2, 0x40, 1, 0x0, 0x0, 0x0, 0x0, false, 0x0⟩,
  ⟨0x40800110, 2, 0x40, 1, 0x0, 0x0, 0x0, 0x0, false, 0x0⟩,
  ⟨0x40800114, 2, 0x40, 1, 0x0, 0x0, 0x0, 0x0, false, 0x0⟩,
  ⟨0x40800118, 2, 0x40, 1, 0x0, 0x0, 0x0, 0x0, false, 0x0⟩,
  ⟨0x40800120, 2, 0x40, 1, 0x0, 0x0, 0x0, 0x0, false, 0x0⟩,
  ⟨0x40800124, 2, 0x40, 1, 0x0, 0x0, 0x0, 0x0, false, 0x0⟩,
  ⟨0x40800200, 2, 0x4, 1, 0x0, 0x0, 0x0, 0x0, true, 0x0⟩,
  ⟨0x40800208, 1, 0x0, 1, 0x0, 0x0, 0x0, 0x0, true, 0x0⟩,
  ⟨0x4080020C, 1, 0x0, 1, 0x0, 0x0, 0x0, 0x0, true, 0x0⟩]

/-- The registers of block MC (k = 9). -/
def regTableMC : List RegSpec := [
  ⟨0x40900000, 1, 0x0, 1, 0x0, 0xFFFFFFFF, 0x0, 0x0, false, 0x10⟩,
  ⟨0x40900004, 1, 0x0, 1, 0x0, 0x0, 0x0, 0x0, false, 0x2⟩,
  ⟨0x40900010, 2, 0x4, 1, 0x0, 0x0, 0x0, 0x0, false, 0x0⟩,
  ⟨0x40900100, 1, 0x0, 1, 0x0, 0xFFFFFFFF, 0x0, 0x0, false, 0x801900⟩,
  ⟨0x40900110, 1, 0x0, 1, 0x0, 0xFFFFFFFF, 0x0, 0x0, false, 0x21001400⟩,
  ⟨0x40900120, 1, 0x0, 1, 0x0, 0xFFFFFFFF, 0x0, 0x0, false, 0x30800400⟩,
  ⟨0x40900130, 1, 0x0, 1, 0x0, 0xFFFFFFFF, 0x0, 0x0, false, 0x30800960⟩,
  ⟨0x40900140, 1, 0x0, 1, 0x0, 0xFFFFFFFF, 0x0, 0x0, false, 0x30800960⟩,
  ⟨0x40900150, 1, 0x0, 1, 0x0, 0xFFFFFFFF, 0x0, 0x0, false, 0x104004B0⟩,
  ⟨0x40900160, 1, 0x0, 1, 0x0, 0xFFFFFFFF, 0x0, 0x0, false, 0x20400320⟩,
  ⟨0x40900170, 1, 0x0, 1, 0x0, 0xFFFFFFFF, 0x0, 0x0, false, 0x402000C8⟩,
  ⟨0x40900104, 1, 0x0, 1, 0x0, 0x0, 0x0, 0x0, false, 0x10080⟩,
  ⟨0x40900114, 1, 0x0, 1, 0x0, 0x0, 0x0, 0x0, false, 0x10100⟩,
  ⟨0x40900124, 1, 0x0, 1, 0x0, 0x0, 0x0, 0x0, false, 0x10080⟩,
  ⟨0x40900134, 1, 0x0, 1, 0x0, 0x0, 0x0, 0x0, false, 0x10080⟩,
  ⟨0x40900144, 1, 0x0, 1, 0x0, 0x0, 0x0, 0x0, false, 0x10080⟩,
  ⟨0x40900154, 1, 0x0, 1, 0x0, 0x0, 0x0, 0x0, false, 0x10040⟩,
  ⟨0x40900164, 1, 0x0, 1, 0x0, 0x0, 0x0, 0x0, false, 0x10040⟩,
  ⟨0x40900174, 1, 0x0, 1, 0x0, 0x0, 0x0, 0x0, false, 0x10020⟩,
  ⟨0x40900200, 8, 0x10, 1, 0x0, 0x0, 0x0, 0x0, false, 0x0⟩,
  ⟨0x40900204, 8, 0x10, 1, 0x0, 0x0, 0x0, 0x0, false, 0x0⟩,
  ⟨0x40900208, 8, 0x10, 1, 0x0, 0x0, 0x0, 0x0, false, 0x0⟩,
  ⟨0x4090020C, 8, 0x10, 1, 0x0, 0x0, 0x0, 0x0, false, 0x0⟩,
  ⟨0x40900300, 1, 0x0, 1, 0x0, 0x0, 0x0, 0x0, true, 0x0⟩,
  ⟨0x40900304, 1, 0x0, 1, 0x0, 0x0, 0x0, 0x0, true, 0x0⟩,
  ⟨0x40900308, 1, 0x0, 1, 0x0, 0x0, 0x0, 0x0, true, 0x0⟩,
  ⟨0x4090030C, 1, 0x0, 1, 0x0, 0x0, 0x0, 0x0, true, 0x0⟩,
  ⟨0x40900310, 1, 0x0, 1, 0x0, 0x0, 0x0, 0x0, true, 0x0⟩,
  ⟨0x40900314, 1, 0x0, 1, 0x0, 0x0, 0xFFFF, 0x0, false, 0x0⟩]

/-- The registers of block DMA (k = 10). -/
def regTableDMA : List RegSpec := [
  ⟨0x40A00000, 1, 0x0, 1, 0x0, 0xFFFFFFFF, 0x0, 0x0, false, 0x0⟩,
  ⟨0x40A00004, 1, 0x0, 1, 0x0, 0x0, 0x0, 0x0, false, 0x40⟩,
  ⟨0x40A00100, 8, 0x40, 1, 0x0, 0x1F1F31, 0x0, 0x0, false, 0x420⟩,
  ⟨0x40A00300, 8, 0x40, 1, 0x0, 0x1F1F31, 0x0, 0x0, false, 0x424⟩,
  ⟨0x40A00104, 16, 0x40, 1, 0x0, 0x0, 0x800, 0x0, false, 0x0⟩,
  ⟨0x40A00108, 16, 0x40, 1, 0x0, 0xFFFFFFE0, 0x0, 0x0, false, 0x0⟩,
  ⟨0x40A0010C, 16, 0x40, 1, 0x0, 0xFF, 0x0, 0x0, false, 0x0⟩,
  ⟨0x40A00110, 16, 0x40, 1, 0x0, 0x0, 0x0, 0x0, false, 0x0⟩,
  ⟨0x40A00114, 16, 0x40, 1, 0x0, 0x0, 0x0, 0x0, false, 0x0⟩,
  ⟨0x40A00118, 16, 0x40, 1, 0x0, 0x0, 0x0, 0x0, false, 0x0⟩,
  ⟨0x40A0011C, 16, 0x40, 1, 0x0, 0xFFFF, 0x0, 0x0, false, 0x0⟩,
  ⟨0x40A00120, 16, 0x40, 1, 0x0, 0x0, 0x0, 0x0, false, 0x0⟩,
  ⟨0x40A00124, 16, 0x40, 1, 0x0, 0x0, 0x0, 0x0, false, 0x0⟩,
  ⟨0x40A00128, 16, 0x40, 1, 0x0, 0x0, 0x0, 0x0, true, 0x0⟩]

/-- The registers of block HI (k = 11). -/
def regTableHI : List RegSpec := [
  ⟨0x40B00000, 1, 0x0, 1, 0x0, 0xFFFFFFFF, 0x0, 0x0, false, 0x0⟩,
  ⟨0x40B00004, 1, 0x0, 1, 0x0, 0x0, 0x0, 0x0, true, 0x0⟩,
  ⟨0x40B00008, 1, 0x0, 1, 0x0, 0x0, 0x0, 0x0, true, 0x0⟩,
  ⟨0x40B0000C, 1, 0x0, 1, 0x0, 0x0, 0x0, 0x0, true, 0x0⟩,
  ⟨0x40B00010, 1, 0x0, 1, 0x0, 0x0, 0x0, 0x0, false, 0x0⟩,
  ⟨0x40B00100, 8, 0x4, 1, 0x0, 0x0, 0x0, 0x0, false, 0x0⟩,
  ⟨0x40B00200, 1, 0x0, 1, 0x0, 0x7, 0x0, 0x0, false, 0x0⟩,
  ⟨0x40B00204, 1, 0x0, 1, 0x0, 0x0, 0x0, 0x0, false, 0x0⟩,
  ⟨0x40B00208, 1, 0x0, 1, 0x0, 0x0, 0x0, 0x0, false, 0x80000000⟩,
  ⟨0x40B0020C, 1, 0x0, 1, 0x0, 0x0, 0x0, 0x0, true, 0x0⟩]

/-- The registers of block PM (k = 12). -/
def regTablePM : List RegSpec := [
  ⟨0x40C00100, 32, 0x4, 1, 0x0, 0x3F, 0x0, 0x0, false, 0x8⟩,
  ⟨0x40C00180, 1, 0x0, 1, 0x0, 0x0, 0x0, 0x0, false, 0x0⟩,
  ⟨0x40C00190, 1, 0x0, 1, 0x0, 0x1, 0x0, 0x0, false, 0x0⟩,
  ⟨0x40C00194, 1, 0x0, 1, 0x0, 0x0, 0x0, 0x0, false, 0x0⟩,
  ⟨0x40C00198, 1, 0x0, 1, 0x0, 0x0, 0x0, 0x0, false, 0x80000000⟩,
  ⟨0x40C0019C, 1, 0x0, 1, 0x0, 0x0, 0x0, 0x0, true, 0x0⟩,
  ⟨0x40C00000, 1, 0x0, 1, 0x0, 0xFFF000, 0x0, 0xFFF000, false, 0x1144⟩,
  ⟨0x40C00004, 1, 0x0, 1, 0x0, 0x0, 0x0, 0x0, false, 0x0⟩,
  ⟨0x40C00008, 1, 0x0, 1, 0x0, 0x0, 0x1FFFFFFF, 0x0, false, 0x0⟩,
  ⟨0x40C0000C, 1, 0x0, 1, 0x0, 0x0, 0x0, 0x0, false, 0xE1FFFF⟩,
  ⟨0x40C00010, 1, 0x0, 1, 0x0, 0x1F, 0x0, 0x0, false, 0x4⟩,
  ⟨0x40C00014, 1, 0x0, 1, 0x0, 0xFFFF, 0x0, 0x0, false, 0x408⟩,
  ⟨0x40C00018, 1, 0x0, 1, 0x0, 0x0, 0x0, 0x0, false, 0x2EE⟩,
  ⟨0x40C0001C, 1, 0x0, 1, 0x0, 0x0, 0x0, 0x0, false, 0x0⟩,
  ⟨0x40C00020, 1, 0x0, 1, 0x0, 0x0, 0x0, 0x0, false, 0x0⟩,
  ⟨0x40C00030, 1, 0x0, 1, 0x0, 0x0, 0x0, 0x0, false, 0x0⟩,
  ⟨0x40C00034, 1, 0x0, 1, 0x0, 0x0, 0x0, 0x0, false, 0x0⟩,
  ⟨0x40C00040, 1, 0x0, 1, 0x0, 0x0, 0x0, 0x0, true, 0x0⟩,
  ⟨0x40C00044, 1, 0x0, 1, 0x0, 0x0, 0x0, 0x0, true, 0x0⟩,
  ⟨0x40C00048, 1, 0x0, 1, 0x0, 0x0, 0x0, 0x0, true, 0x0⟩]

/-- The registers of block HK (k = 13). -/
def regTableHK : List RegSpec := [
  ⟨0x40D00000, 1, 0x0, 1, 0x0, 0x3, 0x0, 0x0, false, 0x0⟩,
  ⟨0x40D00004, 1, 0x0, 1, 0x0, 0x0, 0xF0, 0x0, false, 0x4⟩,
  ⟨0x40D00010, 2, 0x4, 1, 0x0, 0xFF1F, 0x0, 0x0, false, 0x0⟩,
  ⟨0x40D00018, 2, 0x4, 1, 0x0, 0x1FFFFF, 0x0, 0x0, false, 0x0⟩,
  ⟨0x40D00020, 2, 0x10, 1, 0x0, 0xFFFFFFFF, 0x0, 0x0, false, 0x0⟩,
  ⟨0x40D00024, 2, 0x10, 1, 0x0, 0xFFFFFFFF, 0x0, 0x0, false, 0x0⟩,
  ⟨0x40D00028, 2, 0x10, 1, 0x0, 0xFFFFFFFF, 0x0, 0x0, false, 0x0⟩,
  ⟨0x40D0002C, 2, 0x10, 1, 0x0, 0xFFFFFFFF, 0x0, 0x0, false, 0x0⟩,
  ⟨0x40D00040, 2, 0x4, 1, 0x0, 0xFFFFFFFF, 0x0, 0x0, false, 0x0⟩,
  ⟨0x40D00050, 1, 0x0, 1, 0x0, 0xF3F, 0x0, 0x0, false, 0x0⟩,
  ⟨0x40D00054, 1, 0x0, 1, 0x0, 0x0, 0x0, 0x0, false, 0x0⟩,
  ⟨0x40D00058, 2, 0x8, 1, 0x0, 0x0, 0x0, 0x0, false, 0x0⟩,
  ⟨0x40D0005C, 2, 0x8, 1, 0x0, 0x0, 0x0, 0x0, false, 0x0⟩,
  ⟨0x40D00100, 43, 0x4, 1, 0x0, 0x0, 0x0, 0x0, false, 0x0⟩,
  ⟨0x40D00200, 43, 0x8, 1, 0x0, 0xFFFFFF, 0x0, 0x0, false, 0x0⟩,
  ⟨0x40D00204, 43, 0x8, 1, 0x0, 0xFFFFFF, 0x0, 0x0, false, 0x400000⟩,
  ⟨0x40D00400, 43, 0x8, 1, 0x0, 0xFFFFFF, 0x0, 0x0, false, 0x0⟩,
  ⟨0x40D00404, 43, 0x8, 1, 0x0, 0xFFFFFF, 0x0, 0x0, false, 0x0⟩,
  ⟨0x40D00600, 1, 0x0, 1, 0x0, 0x0, 0x0, 0x0, true, 0x0⟩,
  ⟨0x40D00604, 1, 0x0, 1, 0x0, 0x0, 0x0, 0x0, true, 0x0⟩,
  ⟨0x40D00608, 1, 0x0, 1, 0x0, 0x0, 0x0, 0x0, true, 0x0⟩,
  ⟨0x40D0060C, 1, 0x0, 1, 0x0, 0x0, 0x0, 0x0, true, 0x0⟩]

/-- The registers of block TH (k = 14). -/
def regTableTH : List RegSpec := [
  ⟨0x40E00000, 1, 0x0, 1, 0x0, 0xFFFFFFFF, 0x0, 0x0, false, 0x0⟩,
  ⟨0x40E00004, 1, 0x0, 1, 0x0, 0x0, 0x0, 0x0, false, 0x0⟩,
  ⟨0x40E00100, 48, 0x4, 1, 0x0, 0x0, 0x0, 0x0, false, 0x0⟩,
  ⟨0x40E00200, 48, 0x4, 1, 0x0, 0x0, 0x0, 0x0, false, 0x0⟩,
  ⟨0x40E00300, 24, 0x4, 1, 0x0, 0x0, 0x0, 0x0, false, 0x0⟩,
  ⟨0x40E00400, 1, 0x0, 1, 0x0, 0x0, 0x0, 0x0, false, 0x2EE0000⟩,
  ⟨0x40E00500, 1, 0x0, 1, 0x0, 0x0, 0x0, 0x0, true, 0x0⟩,
  ⟨0x40E00504, 1, 0x0, 1, 0x0, 0x0, 0x0, 0x0, true, 0x0⟩]

/-- The registers of block NVJ (k = 15). -/
def regTableNVJ : List RegSpec := [
  ⟨0x40F00000, 1, 0x0, 1, 0x0, 0xFFFFFFFF, 0x0, 0x0, false, 0x0⟩,
  ⟨0x40F00004, 1, 0x0, 1, 0x0, 0x0, 0x0, 0x0, false, 0x0⟩,
  ⟨0x40F00010, 1, 0x0, 1, 0x0, 0xFFFFFFFF, 0x0, 0x0, false, 0x0⟩,
  ⟨0x40F00014, 1, 0x0, 1, 0x0, 0xFFFF, 0x0, 0x0, false, 0x0⟩,
  ⟨0x40F00040, 16, 0x4, 1, 0x0, 0xFFFFFFFF, 0x0, 0x0, false, 0x0⟩,
  ⟨0x40F00080, 1, 0x0, 1, 0x0, 0x0, 0x0, 0x0, false, 0x0⟩,
  ⟨0x40F00100, 1, 0x0, 1, 0x0, 0x0, 0x0, 0x0, true, 0x0⟩,
  ⟨0x40F00104, 1, 0x0, 1, 0x0, 0x0, 0x0, 0x0, true, 0x0⟩]

/-- The registers of BAR0. -/
def regTableBar0 : List RegSpec := [
  ⟨bar0 + 0x0, 1, 0x0, 1, 0x0, 0x0, 0x0, 0x0, false, 0xA06464⟩,
  ⟨bar0 + 0x4, 1, 0x0, 1, 0x0, 0x0, 0x0, 0x0, false, 0x10002⟩,
  ⟨bar0 + 0x8, 1, 0x0, 1, 0x0, 0x0, 0x0, 0x0, false, 0x0⟩,
  ⟨bar0 + 0xC, 1, 0x0, 1, 0x0, 0x0, 0x0, 0x0, false, 0x0⟩,
  ⟨bar0 + 0x10, 1, 0x0, 1, 0x0, 0x0, 0x0, 0x0, false, 0x80000000⟩,
  ⟨bar0 + 0x14, 1, 0x0, 1, 0x0, 0x0, 0x0, 0x0, false, 0x0⟩,
  ⟨bar0 + 0x20, 8, 0x4, 1, 0x0, 0x0, 0xFFFFFFFF, 0x0, false, 0x0⟩,
  ⟨bar0 + 0x1000, 8, 0x800, 1, 0x0, 0x0, 0x0, 0x0, false, 0x0⟩,
  ⟨bar0 + 0x1004, 8, 0x800, 1, 0x0, 0x3FF, 0x0, 0x0, false, 0xA⟩,
  ⟨bar0 + 0x1010, 8, 0x800, 8, 0x4, 0xFFFFFFFF, 0x0, 0x0, false, 0x0⟩,
  ⟨bar0 + 0x1030, 8, 0x800, 8, 0x4, 0x0, 0xFFFFFFFF, 0x0, false, 0x0⟩,
  ⟨bar0 + 0x1050, 8, 0x800, 1, 0x0, 0xFFFFF000, 0x0, 0x0, false, 0x0⟩,
  ⟨bar0 + 0x1054, 8, 0x800, 1, 0x0, 0xFF, 0x0, 0x0, false, 0x0⟩,
  ⟨bar0 + 0x1060, 8, 0x800, 1, 0x0, 0x0, 0x0, 0x0, true, 0x0⟩,
  ⟨bar0 + 0x1064, 8, 0x800, 1, 0x0, 0x0, 0x0, 0x0, true, 0x0⟩,
  ⟨bar0 + 0x1068, 8, 0x800, 1, 0x0, 0x0, 0x0, 0x0, true, 0x0⟩,
  ⟨bar0 + 0x106C, 8, 0x800, 1, 0x0, 0x0, 0x0, 0x0, true, 0x0⟩,
  ⟨bar0 + 0x6000, 32, 0x40, 1, 0x0, 0xFFFFF000, 0x0, 0x0, false, 0x0⟩,
  ⟨bar0 + 0x6004, 32, 0x40, 1, 0x0, 0xFFFFFFFF, 0x0, 0x0, false, 0x0⟩,
  ⟨bar0 + 0x6008, 32, 0x40, 1, 0x0, 0xFFFF1F3F, 0x0, 0x0, false, 0x10000⟩,
  ⟨bar0 + 0x600C, 32, 0x40, 1, 0x0, 0x0, 0x0, 0x0, false, 0x0⟩,
  ⟨bar0 + 0x6010, 32, 0x40, 1, 0x0, 0xFFFF, 0x0, 0x0, false, 0x0⟩,
  ⟨bar0 + 0x6014, 32, 0x40, 1, 0x0, 0xFFFF, 0x0, 0x0, false, 0x0⟩,
  ⟨bar0 + 0x6018, 32, 0x40, 1, 0x0, 0x0, 0x0, 0x0, false, 0x0⟩,
  ⟨bar0 + 0x100, 1, 0x0, 1, 0x0, 0x7FFFFFFF, 0x0, 0x0, false, 0x0⟩,
  ⟨bar0 + 0x104, 1, 0x0, 1, 0x0, 0x0, 0x0, 0x0, false, 0x0⟩,
  ⟨bar0 + 0x800, 512, 0x4, 1, 0x0, 0xFFFFFFFF, 0x0, 0x0, false, 0x0⟩]

/-- The table of the block that address `a` belongs to (R25). -/
def regTable (a : Nat) : List RegSpec :=
  if bar0 ≤ a then regTableBar0 else if a < 0x40000000 || 0x41000000 ≤ a then [] else
  match a / 0x100000 % 16 with
  | 0 => regTableTL
  | 1 => regTableRF
  | 2 => regTableCV
  | 3 => regTableDFE
  | 4 => regTableBF
  | 5 => regTableNVC
  | 6 => regTableLN
  | 7 => regTableFH
  | 8 => regTableTS
  | 9 => regTableMC
  | 10 => regTableDMA
  | 11 => regTableHI
  | 12 => regTablePM
  | 13 => regTableHK
  | 14 => regTableTH
  | _ => regTableNVJ

/-- The row of the register at address `a`, if the spec names one there. -/
def regSpec (a : Nat) : Option RegSpec := (regTable a).find? (fun r => r.covers a)

/-- The value the register at `a` holds after power-on reset (R16). -/
def resetVal (a : Nat) : Word :=
  match regSpec a with
  | some r => BitVec.ofNat 32 r.rst
  | none => 0

end Sys2Proof.Machine
end

