-- ==== Sys2Proof/Machine/Events.lean ====
section
/-! DEFINITION. The events by name and number, their severities (R22, R441 and each chapter's event table) and the block
each one comes from (R25). FW_RESTARTED, FW_FATAL and HI_HARVEST_DUMP carry the block index of HI, whose chapter or name
they bear (DEDUCED, log entry 4). -/

namespace Sys2Proof.Machine

namespace Ev

/-- R550, severity note: Provisioned reached from Boot; payload holds HI_BOOT_STAT and PM_BIST_STAT. -/
def PM_BOOT_DONE : Nat := 0
/-- R550, severity note: R46. -/
def PM_MODE_CHANGE : Nat := 1
/-- R550, severity warning: Frost rolled back, R540. -/
def PM_FROST_REFUSED : Nat := 2
/-- R550, severity fault: A retained bank failed its check, R543. -/
def PM_RET_LOST : Nat := 3
/-- R550, severity fault: A domain gave no ready, R538. -/
def PM_DOM_FAIL : Nat := 4
/-- R550, severity fault: A core regulator transfer failed, R523. -/
def PM_VREG_ERR : Nat := 5
/-- R550, severity warning: The core set point reached 0.85 V. -/
def PM_VCORE_MAX : Nat := 6
/-- R550, severity fault: At PM_BOOT_DONE, if BIST failed or was invalid twice. -/
def PM_BIST_FAIL : Nat := 7
/-- R550, severity warning: Boot used a second source, R532. -/
def PM_AUTH_FALLBACK : Nat := 8
/-- R550, severity warning: At PM_BOOT_DONE, if TORN > 0. -/
def PM_TORN : Nat := 9
/-- R550, severity warning: At PM_BOOT_DONE, if the journal holds a shutdown record not yet reported. -/
def PM_PREV_SHUTDOWN : Nat := 10
/-- R550, severity warning: At PM_BOOT_DONE, if the journal holds a supply record not yet reported. -/
def PM_PREV_SUPPLY : Nat := 11
/-- R88, severity warning: A stage overran, R76. -/
def TL_OVERRUN : Nat := 16
/-- R88, severity warning: A symbol was blanked on an unlocked LO, R72. -/
def TL_LATE_LO : Nat := 17
/-- R88, severity warning: An entry missed its lead time at commit. -/
def TL_LATE_ENTRY : Nat := 18
/-- R88, severity warning: A receive symbol was blanked in a fill window, R74. -/
def TL_FILL_BLANK : Nat := 19
/-- R88, severity note: Entries were discarded, R55. -/
def TL_DISCARDED : Nat := 20
/-- R88, severity note: Work was deferred, R87. -/
def TL_GUARD_CONFLICT : Nat := 21
/-- R88, severity warning: A calibration interval passed, R87. -/
def TL_BORROW_STARVED : Nat := 22
/-- R88, severity warning: A job was incomplete at issue, R70. -/
def TL_JOB_LATE : Nat := 23
/-- R88, severity warning: A lease was no longer held, R70. -/
def TL_LEASE_BLANK : Nat := 24
/-- R88, severity fault: An entry was malformed or out of order at commit. -/
def TL_ORDER_ERR : Nat := 25
/-- R88, severity note: A partition was at its quota at commit. -/
def TL_PART_FULL : Nat := 26
/-- R88, severity warning: A turn-round was violated, R79. -/
def TL_TURN_BLANK : Nat := 27
/-- R88, severity warning: The hard-class bound was suspended, R77. -/
def TL_BOUND_VOID : Nat := 28
/-- R88, severity note: The hard-class bound was restored. -/
def TL_BOUND_RESTORED : Nat := 29
/-- R88, severity warning: The frame tick drifted more than 1,000 ns, R59. -/
def TL_FRAME_DRIFT : Nat := 30
/-- R88, severity note: A MARK entry was reached. -/
def TL_MARK : Nat := 31
/-- R137, severity fault: A quadrant synthesiser, SYN0–SYN3, lost lock, R107. -/
def RF_LO_UNLOCK : Nat := 48
/-- R137, severity fault: A synthesiser entered FAILED, R106. -/
def RF_SYN_CAL_FAIL : Nat := 49
/-- R137, severity warning: A CHAN or AUX_TUNE reached RF with an invalid frequency or range and was not applied; checked before the permitted ranges, R135. -/
def RF_CHAN_REJECT : Nat := 50
/-- R137, severity fault: A CHAN with a valid frequency and range was not applied because of the permitted ranges, R135. -/
def RF_REG_RANGE : Nat := 51
/-- R137, severity note: Samples were clipped, R132. -/
def RF_REG_PEAK : Nat := 52
/-- R137, severity warning: A path was muted on its RMS limit, R133. -/
def RF_REG_RMS : Nat := 53
/-- R137, severity warning: A path was muted on its duty limit, R134. -/
def RF_REG_DUTY : Nat := 54
/-- R137, severity note: REG_LOCK completed. -/
def RF_REG_LOCKED : Nat := 55
/-- R137, severity fault: A bias output tripped its charge monitor, R118. -/
def RF_PABIAS_FAULT : Nat := 56
/-- R137, severity warning: An RFFE list started late, R127. -/
def RF_RFFE_LATE : Nat := 57
/-- R137, severity warning: RFFE read data failed parity, R124. -/
def RF_RFFE_PARITY : Nat := 58
/-- R137, severity fault: SYN4 lost lock; the capture or calibration step in progress is marked invalid, R107. -/
def RF_AUX_UNLOCK : Nat := 59
/-- R137, severity warning: A DL_SYM or UL_SYM skipped a path direction that cannot be armed, R631. -/
def RF_PATH_SKIP : Nat := 60
/-- R177, severity warning: A handover was forced after failed gates, R154. -/
def CV_ROT_FORCED : Nat := 80
/-- R177, severity fault: A slice was retired, R156. -/
def CV_SLICE_RETIRED : Nat := 81
/-- R177, severity fault: An ADC has fewer than eight usable slices, R157. -/
def CV_ADC_FAIL : Nat := 82
/-- R177, severity warning: GSPUR fell below CV_SPUR_THR, R159. -/
def CV_SPUR_LIMIT : Nat := 83
/-- R177, severity fault: A DAC segment trim failed, R162. -/
def CV_DAC_CAL_FAIL : Nat := 84
/-- R177, severity warning: A TX correction was clamped, R165. -/
def CV_TXQ_LIMIT : Nat := 85
/-- R177, severity warning: An RX correction reached its range, R160. -/
def CV_RXQ_LIMIT : Nat := 86
/-- R177, severity warning: An observation calibration step was discarded, R166. -/
def CV_ORX_CAL_FAIL : Nat := 87
/-- R177, severity note: An array result was staged, R173. -/
def CV_ACAL_DONE : Nat := 88
/-- R177, severity warning: An array result was rejected, R172. -/
def CV_ACAL_REJECT : Nat := 89
/-- R177, severity warning: More than 10 % of the rows were dropped, R172. -/
def CV_ACAL_SUSPECT : Nat := 90
/-- R177, severity fault: A path kept its old array correction, R172. -/
def CV_ACAL_PATH_LOST : Nat := 91
/-- R177, severity warning: No reference point matches the quadrant LO, R170. -/
def CV_ACAL_NOREF : Nat := 92
/-- R177, severity note: A calibration step was cut short and discarded. -/
def CV_CAL_ABORT : Nat := 93
/-- R223, severity note: A chain or path sum saturated, R192. -/
def DFE_SAT : Nat := 112
/-- R223, severity note: A peak found no free engine, R202. -/
def DFE_CFR_EXH : Nat := 113
/-- R223, severity warning: CFR error estimate above EVM_MAX, R204. -/
def DFE_CFR_EVM : Nat := 114
/-- R223, severity note: DPD output saturated, R207. -/
def DFE_DPD_SAT : Nat := 115
/-- R223, severity note: A DPD bank swap took effect, R208. -/
def DFE_DPD_SWAPPED : Nat := 116
/-- R223, severity warning: A path did not swap, R209. -/
def DFE_DPD_NOTREADY : Nat := 117
/-- R223, severity warning: A training result was rejected, R218. -/
def DFE_DPD_REJECT : Nat := 118
/-- R223, severity fault: Training halted on a path, R218. -/
def DFE_DPD_DIVERGE : Nat := 119
/-- R223, severity warning: Too few usable samples, R218. -/
def DFE_DPD_NODATA : Nat := 120
/-- R223, severity warning: A capture was skipped, R213 and R216. -/
def DFE_CAP_SKIP : Nat := 121
/-- R223, severity note: A record was flagged, R214. -/
def DFE_CAP_INVALID : Nat := 122
/-- R223, severity note: A record was drained to DRAM. -/
def DFE_CAP_DONE : Nat := 123
/-- R223, severity note: An extra FIR swap was ignored, R200. -/
def DFE_CFIR_EXTRA : Nat := 124
/-- R223, severity warning: The TX part of a DFE_SYNC was not performed, R196. -/
def DFE_SYNC_TX_SKIP : Nat := 125
/-- R261, severity note: Stage 1, 2 or 4 saturated, R234. -/
def BF_SAT : Nat := 144
/-- R261, severity warning: A region did not switch, R244. -/
def BF_WPAGE_NOTREADY : Nat := 145
/-- R261, severity warning: A weight write was refused, R242. -/
def BF_WRITE_BLOCKED : Nat := 146
/-- R261, severity warning: A section was dropped, R240. -/
def BF_LEASE_DROP : Nat := 147
/-- R261, severity warning: No free pool slot, R250. -/
def BF_POOL_FULL : Nat := 148
/-- R261, severity warning: C-plane weights arrived after their stage began, R250. -/
def BF_WEIGHT_LATE : Nat := 149
/-- R261, severity note: A sounding capture completed, R253. -/
def BF_SRS_DONE : Nat := 150
/-- R261, severity note: A sounding capture was flagged, R253. -/
def BF_SRS_INVALID : Nat := 151
/-- R261, severity warning: A reciprocity job published nothing, R255. -/
def BF_RECIP_FAIL : Nat := 152
/-- R261, severity note: Groups kept their previous weights, R255. -/
def BF_RECIP_GROUPS : Nat := 153
/-- R261, severity note: A carrier took up a new correction bank, R247. -/
def BF_ACBANK : Nat := 154
/-- R261, severity note: A revoked region returned to the free list, R259. -/
def BF_REGION_FREED : Nat := 155
/-- R303, severity fault: A core halted on a fault, R302. -/
def NVC_CORE_FAULT : Nat := 160
/-- R303, severity warning: A watchdog expired, R274. -/
def NVC_WDOG_EXP : Nat := 161
/-- R303, severity note: A group was paused, R296. -/
def NVC_PAUSED : Nat := 162
/-- R303, severity note: A group resumed, R296. -/
def NVC_RESUMED : Nat := 163
/-- R303, severity warning: A kernel trigger was dropped, R297. -/
def NVC_TRIG_DROP : Nat := 164
/-- R303, severity note: Out-word 15 was written, R299. -/
def NVC_MBX : Nat := 165
/-- R303, severity warning: A descriptor access was refused, R287. -/
def NVC_ACCESS_ERR : Nat := 166
/-- R303, severity note: A leased core was revoked and scrubbed, R300. -/
def NVC_CORE_REVOKED : Nat := 167
/-- R303, severity warning: A publication request was refused, R298. -/
def NVC_PUB_REFUSED : Nat := 168
/-- R303, severity note: A performance counter wrapped, R295. -/
def NVC_CNT_WRAP : Nat := 169
/-- R303, severity warning: Firmware jobs were aborted at Frost entry, R301. -/
def NVC_JOB_ABORTED : Nat := 170
/-- R344, severity note: A lane entered UP, R320. -/
def LN_UP : Nat := 176
/-- R344, severity warning: A lane left UP, with cause, R320. -/
def LN_DOWN : Nat := 177
/-- R344, severity warning: A lane entered NO_PARTNER, R320. -/
def LN_NO_PARTNER : Nat := 178
/-- R344, severity fault: A lane PLL lost lock; every lane of the group leaves UP. -/
def LN_PLL_UNLOCK : Nat := 179
/-- R344, severity warning: A Gale bond failed to deskew, R331. -/
def LN_DESKEW_FAIL : Nat := 180
/-- R344, severity warning: Ethernet high-BER condition, R335. -/
def LN_HI_BER : Nat := 181
/-- R344, severity warning: Uncorrectable codewords, R335. -/
def LN_FEC_UNCORR : Nat := 182
/-- R344, severity warning: The CTLE stayed at an end of its range, R316. -/
def LN_ADAPT_LIMIT : Nat := 183
/-- R344, severity note: A checker synchronised, R342. -/
def LN_PAT_LOCK : Nat := 184
/-- R344, severity warning: A checker lost sync, R342. -/
def LN_PAT_LOST : Nat := 185
/-- R344, severity note: LN_PAT_BITS wrapped, R343. -/
def LN_CNT_WRAP : Nat := 186
/-- R344, severity note: A lane entered or left LULL. -/
def LN_LULL : Nat := 187
/-- R344, severity note: A group changed personality, rate or width, R311. -/
def LN_GROUP_CHANGE : Nat := 188
/-- R385, severity note: A drop cause first counted on a port in a one-second interval, R383. -/
def FH_DROP : Nat := 200
/-- R385, severity warning: A section arrived after its window, R367. -/
def FH_LATE : Nat := 201
/-- R385, severity warning: A section arrived before its window, R367. -/
def FH_EARLY : Nat := 202
/-- R385, severity warning: U-plane PRBs had no C-plane section, R363. -/
def FH_NOCP : Nat := 203
/-- R385, severity warning: A section partition was full, R362. -/
def FH_FULL : Nat := 204
/-- R385, severity warning: Forwarded hard traffic was demoted, R379. -/
def FH_POLICE : Nat := 205
/-- R385, severity fault: A hard message missed its window, R375. -/
def FH_LAUNCH_LATE : Nat := 206
/-- R385, severity note: A flow's sequence had a gap, R382. -/
def FH_SEQ_GAP : Nat := 207
/-- R385, severity note: A flow was revoked, R361. -/
def FH_FLOW_REVOKED : Nat := 208
/-- R385, severity note: A delay measurement completed, R381. -/
def FH_DELAY_DONE : Nat := 209
/-- R385, severity note: Decompression saturated, R365. -/
def FH_DECOMP_SAT : Nat := 210
/-- R385, severity note: A frame counter wrapped, R384. -/
def FH_CNT_WRAP : Nat := 211
/-- R417, severity note: A domain entered LOCKED, R404. -/
def TS_LOCKED : Nat := 212
/-- R417, severity warning: A domain entered HOLDOVER, R404. -/
def TS_HOLDOVER : Nat := 213
/-- R417, severity note: The steering domain changed, R408. -/
def TS_SWITCH : Nat := 214
/-- R417, severity warning: The counter was stepped, R393. -/
def TS_STEP : Nat := 215
/-- R417, severity warning: A servo reached ±20,000 ppb, R403. -/
def TS_FREQ_LIMIT : Nat := 216
/-- R417, severity fault: REFCLK was lost, R411. -/
def TS_REF_LOSS : Nat := 217
/-- R417, severity warning: PPS_IN stopped, R400. -/
def TS_PPS_IN_LOSS : Nat := 218
/-- R417, severity warning: The SyncE lane left UP, R412. -/
def TS_SYNCE_LOSS : Nat := 219
/-- R513, severity fault: A set point failed training, R486. -/
def MC_TRAIN_FAIL : Nat := 220
/-- R513, severity warning: A timing correction exceeded 8 ps, R489. -/
def MC_DRIFT : Nat := 221
/-- R513, severity note: The set point changed, R488. -/
def MC_SETPOINT : Nat := 222
/-- R513, severity fault: Link ECC found an uncorrectable read. -/
def MC_ECC_UNCORR : Nat := 223
/-- R513, severity warning: An RT burst exceeded its bound, R496. -/
def MC_RT_LATE : Nat := 224
/-- R513, severity note: A port byte counter wrapped, R516. -/
def MC_CNT_WRAP : Nat := 225
/-- R513, severity fault: A firmware channel entered ERROR, or a bulk ring entered ERROR, R510. -/
def DMA_CH_ERROR : Nat := 226
/-- R513, severity note: A channel was disabled, R511. -/
def DMA_CH_DISABLED : Nat := 227
/-- R513, severity note: A channel byte counter wrapped, R517. -/
def DMA_CNT_WRAP : Nat := 228
/-- R585, severity warning: The warning level was set, R566. -/
def TH_WARN : Nat := 232
/-- R585, severity warning: The throttle stage changed, R567. -/
def TH_THROTTLE : Nat := 233
/-- R585, severity note: The warning level cleared, R566. -/
def TH_NORMAL : Nat := 234
/-- R585, severity warning: A sensor changed suspect status, R564. -/
def TH_SUSPECT : Nat := 235
/-- R585, severity fault: Too many sensors are suspect, R565. -/
def TH_SENSORS_LOST : Nat := 236
/-- R585, severity note: The planner changed the core set point, R570. -/
def TH_VSTEP : Nat := 237
/-- R585, severity fault: Slack below 4 % at 0.85 V, R570. -/
def TH_MARGIN_LOW : Nat := 238
/-- R585, severity note: A housekeeping trigger was ignored, R558. -/
def HK_TRIG_IGNORED : Nat := 239
/-- R585, severity warning: A result left its window, R561. -/
def HK_LIMIT : Nat := 240
/-- R585, severity warning: A housekeeping FIFO overflowed, R560. -/
def HK_FIFO_OVF : Nat := 241
/-- R585, severity fault: A journal record failed its read-back twice, R583. -/
def NVJ_WRITE_FAIL : Nat := 242
/-- R585, severity note: A dump snapshot was written, R573. -/
def HI_HARVEST_DUMP : Nat := 243
/-- R455, severity warning: An access hit no region, R29. -/
def HI_DECODE_ERR : Nat := 244
/-- R455, severity warning: Records were lost on a full event ring, R443. -/
def HI_EVT_OVERFLOW : Nat := 245
/-- R455, severity fault: A ring entered ERROR, R434 and R436. -/
def HI_RING_ERR : Nat := 246
/-- R455, severity note: A context became ATTACHED, R428. -/
def HI_CTX_ATTACH : Nat := 247
/-- R455, severity warning: A context became HELD or EXPIRED, R428. -/
def HI_CTX_DETACH : Nat := 248
/-- R455, severity note: A lease was granted, R450. -/
def HI_LEASE_GRANTED : Nat := 249
/-- R455, severity warning: A lease was revoked, R450. -/
def HI_LEASE_REVOKED : Nat := 250
/-- R455, severity note: The mode lease moved, R451. -/
def HI_MODE_LEASE : Nat := 251
/-- R455, severity warning: A debug-window write was performed, R448. -/
def HI_DBG_WRITE : Nat := 252
/-- R455, severity fault: A book did not balance, R454. -/
def HI_BOOKS_ERR : Nat := 253
/-- R455, severity note: Firmware came up after a warm reset; the payload carries PM_MODE.CAUSE. -/
def FW_RESTARTED : Nat := 254
/-- R455, severity fatal: Firmware found a fatal fault and starts a warm reset. -/
def FW_FATAL : Nat := 255

end Ev

/-- The events of severity warning. -/
def evOfWarning : List Nat :=
  [Ev.PM_FROST_REFUSED, Ev.PM_VCORE_MAX, Ev.PM_AUTH_FALLBACK, Ev.PM_TORN, Ev.PM_PREV_SHUTDOWN, Ev.PM_PREV_SUPPLY] ++
  [Ev.TL_OVERRUN, Ev.TL_LATE_LO, Ev.TL_LATE_ENTRY, Ev.TL_FILL_BLANK, Ev.TL_BORROW_STARVED, Ev.TL_JOB_LATE] ++
  [Ev.TL_LEASE_BLANK, Ev.TL_TURN_BLANK, Ev.TL_BOUND_VOID, Ev.TL_FRAME_DRIFT, Ev.RF_CHAN_REJECT, Ev.RF_REG_RMS] ++
  [Ev.RF_REG_DUTY, Ev.RF_RFFE_LATE, Ev.RF_RFFE_PARITY, Ev.RF_PATH_SKIP, Ev.CV_ROT_FORCED, Ev.CV_SPUR_LIMIT] ++
  [Ev.CV_TXQ_LIMIT, Ev.CV_RXQ_LIMIT, Ev.CV_ORX_CAL_FAIL, Ev.CV_ACAL_REJECT, Ev.CV_ACAL_SUSPECT, Ev.CV_ACAL_NOREF] ++
  [Ev.DFE_CFR_EVM, Ev.DFE_DPD_NOTREADY, Ev.DFE_DPD_REJECT, Ev.DFE_DPD_NODATA, Ev.DFE_CAP_SKIP, Ev.DFE_SYNC_TX_SKIP] ++
  [Ev.BF_WPAGE_NOTREADY, Ev.BF_WRITE_BLOCKED, Ev.BF_LEASE_DROP, Ev.BF_POOL_FULL, Ev.BF_WEIGHT_LATE, Ev.BF_RECIP_FAIL] ++
  [Ev.NVC_WDOG_EXP, Ev.NVC_TRIG_DROP, Ev.NVC_ACCESS_ERR, Ev.NVC_PUB_REFUSED, Ev.NVC_JOB_ABORTED, Ev.LN_DOWN] ++
  [Ev.LN_NO_PARTNER, Ev.LN_DESKEW_FAIL, Ev.LN_HI_BER, Ev.LN_FEC_UNCORR, Ev.LN_ADAPT_LIMIT, Ev.LN_PAT_LOST] ++
  [Ev.FH_LATE, Ev.FH_EARLY, Ev.FH_NOCP, Ev.FH_FULL, Ev.FH_POLICE, Ev.TS_HOLDOVER] ++
  [Ev.TS_STEP, Ev.TS_FREQ_LIMIT, Ev.TS_PPS_IN_LOSS, Ev.TS_SYNCE_LOSS, Ev.MC_DRIFT, Ev.MC_RT_LATE] ++
  [Ev.TH_WARN, Ev.TH_THROTTLE, Ev.TH_SUSPECT, Ev.HK_LIMIT, Ev.HK_FIFO_OVF, Ev.HI_DECODE_ERR] ++
  [Ev.HI_EVT_OVERFLOW, Ev.HI_CTX_DETACH, Ev.HI_LEASE_REVOKED, Ev.HI_DBG_WRITE]
/-- The events of severity fault. -/
def evOfFault : List Nat :=
  [Ev.PM_RET_LOST, Ev.PM_DOM_FAIL, Ev.PM_VREG_ERR, Ev.PM_BIST_FAIL, Ev.TL_ORDER_ERR, Ev.RF_LO_UNLOCK] ++
  [Ev.RF_SYN_CAL_FAIL, Ev.RF_REG_RANGE, Ev.RF_PABIAS_FAULT, Ev.RF_AUX_UNLOCK, Ev.CV_SLICE_RETIRED, Ev.CV_ADC_FAIL] ++
  [Ev.CV_DAC_CAL_FAIL, Ev.CV_ACAL_PATH_LOST, Ev.DFE_DPD_DIVERGE, Ev.NVC_CORE_FAULT, Ev.LN_PLL_UNLOCK, Ev.FH_LAUNCH_LATE] ++
  [Ev.TS_REF_LOSS, Ev.MC_TRAIN_FAIL, Ev.MC_ECC_UNCORR, Ev.DMA_CH_ERROR, Ev.TH_SENSORS_LOST, Ev.TH_MARGIN_LOW] ++
  [Ev.NVJ_WRITE_FAIL, Ev.HI_RING_ERR, Ev.HI_BOOKS_ERR]

/-- The severity of an event, coded as in byte 3 of its record (R442): 0 note, 1 warning, 2 fault, 3 fatal. -/
def evSev (n : Nat) : Nat :=
  if n = Ev.FW_FATAL then 3 else if evOfFault.contains n then 2 else if evOfWarning.contains n then 1 else 0

/-- The block index k (R25) an event of number `n` comes from, for byte 12 of its record (R442). -/
def evBlock (n : Nat) : Nat :=
  if n ≤ 11 then 12 else
  if n ≤ 31 then 0 else
  if n ≤ 60 then 1 else
  if n ≤ 93 then 2 else
  if n ≤ 125 then 3 else
  if n ≤ 155 then 4 else
  if n ≤ 170 then 5 else
  if n ≤ 188 then 6 else
  if n ≤ 211 then 7 else
  if n ≤ 219 then 8 else
  if n ≤ 225 then 9 else
  if n ≤ 228 then 10 else
  if n ≤ 238 then 14 else
  if n ≤ 241 then 13 else
  if n ≤ 242 then 15 else
  11

end Sys2Proof.Machine
end

