-- ==== Sys2Proof/Machine/Sparse.lean ====
section
/-! DEFINITION. Sparse tables in one canonical form: keys strictly rising, and no entry equal to what an unlisted key reads
as. The register file and the memory are both held so. -/

namespace Sys2Proof.Machine

/-- What key `k` reads as: its entry, or the default of an unlisted key. -/
def sparseGet {α : Type} (dflt : Nat → α) : List (Nat × α) → Nat → α
  | [], k => dflt k
  | (a, v) :: m, k => if a = k then v else sparseGet dflt m k

/-- Enter `v` at key `k`, keeping the keys rising. -/
def sparseIns {α : Type} (k : Nat) (v : α) : List (Nat × α) → List (Nat × α)
  | [] => [(k, v)]
  | (a, w) :: m => if k < a then (k, v) :: (a, w) :: m else if k = a then (k, v) :: m else (a, w) :: sparseIns k v m

/-- Take the entry of key `k` out. -/
def sparseDel {α : Type} (k : Nat) : List (Nat × α) → List (Nat × α)
  | [] => []
  | (a, w) :: m => if a = k then sparseDel k m else (a, w) :: sparseDel k m

/-- Set key `k` to `v`: writing what an unlisted key reads as removes the entry. -/
def sparseSet {α : Type} [DecidableEq α] (dflt : Nat → α) (m : List (Nat × α)) (k : Nat) (v : α) : List (Nat × α) :=
  if v = dflt k then sparseDel k m else sparseIns k v m

/-- Set the `n` keys from `k` to what an unlisted key reads as. -/
def sparseClear {α : Type} (m : List (Nat × α)) (k n : Nat) : List (Nat × α) :=
  m.filter (fun p => !(decide (k ≤ p.1) && decide (p.1 < k + n)))

/-- Keys strictly rising, all above `lo` where `lo` is given. -/
def sparseRising {α : Type} : Option Nat → List (Nat × α) → Bool
  | _, [] => true
  | none, (a, _) :: m => sparseRising (some a) m
  | some lo, (a, _) :: m => decide (lo < a) && sparseRising (some a) m

/-- The canonical form. -/
def sparseWf {α : Type} [DecidableEq α] (dflt : Nat → α) (m : List (Nat × α)) : Bool :=
  sparseRising none m && m.all (fun p => decide (p.2 ≠ dflt p.1))

end Sys2Proof.Machine
end

