-- ==== Sys2Proof/Machine/State.lean ====
section
/-! DEFINITION. The state of the block: every register (in `regs`, by address), every memory (in `mem`, by address), and
what the spec gives the block beside them (FIFOs, sequencers, pins, the firmware's books), all as plain data. -/

namespace Sys2Proof.Machine

/-- Who may receive an event (R442): every subscribed context, one resource's owner, a set of owners, or the firmware. -/
inductive Audience where
  | all
  | ctx (c : Nat)
  | ctxs (l : List Nat)
  | firmware
  deriving DecidableEq, Repr

/-- A raised event on its way to the aggregator in HI (R442): its number, its audience, TS_CNT.NS and the stamp when it
was raised, whether the forecast core was running, and the items of its payload. -/
structure Event where
  num : Nat
  aud : Audience
  ns : Nat
  stamp : Nat
  stampOk : Bool
  items : List Nat
  deriving DecidableEq, Repr

/-- A completion (R438): the context and command it answers, its status, DETAIL and the sixteen result bytes (byte 16 in
bits 7:0). -/
structure Completion where
  ctx : Nat
  tag : Nat
  opcode : Nat
  status : Nat
  detail : Nat
  results : BitVec 128
  deriving DecidableEq, Repr

/-- The device's output and input pins that the spec gives a level (R20, R111, R122, R399, R526, R548). -/
structure Pins where
  /-- TDD_TXEN[0..7], R111. -/
  txen : List Bool := List.replicate 8 false
  /-- TDD_RXEN[0..7], R111. -/
  rxen : List Bool := List.replicate 8 false
  /-- ORX_SEL as eight 3-bit groups, one per tile, R19. -/
  orxSel : List Nat := List.replicate 8 0
  /-- THERMTRIP_N is driven low, R548. -/
  thermtripLow : Bool := false
  /-- PPS_OUT, R399. -/
  ppsOut : Bool := false
  /-- The output driver stages of the tiles whose drivers a kind 3 step turns off (R164). -/
  drvOff : List Bool := List.replicate 8 false
  /-- PERST0_N and PERST1_N levels, R424. -/
  perst : List Bool := [true, true]
  deriving DecidableEq, Repr

/-- What a started command waits for before its completion is written. -/
inductive Until where
  /-- PM_MODE reports this mode with no transition running (SYS_SET_MODE and its kin, R41). -/
  | mode (m : Mode)
  /-- Every block has answered the Frost request (R540). -/
  | frost
  /-- The journal write group of this number is committed (R574). -/
  | journal (id : Nat)
  /-- Every row of R452 that applies has ended: the resources, by code and index, that have not been freed yet. -/
  | revoked (rest : List (Nat × Nat))
  /-- A carrier's reservation is released (R373, CAR_STOP). -/
  | carStopped (c : Nat)
  /-- The array sweep ends (CAL_SWEEP). -/
  | sweep
  /-- A path's inactive pre-distortion bank is READY (DPD_COEF). -/
  | dpdReady (p : Nat)
  /-- A lane group has changed (LANE_GROUP_SET). -/
  | groupChange (g : Nat)
  /-- Every lane of the mask has entered the state (LANE_POWER). -/
  | lanes (mask : Nat) (st : Nat)
  /-- The frame counter is realigned (TIME_FRAME). -/
  | aligned
  /-- A delay measurement completes (TIME_DELAY). -/
  | delay (port : Nat) (id : Nat)
  /-- A housekeeping calibration step ends (MON_HK_CAL). -/
  | hkCal
  /-- An I2C transfer ends (SYS_I2C). -/
  | i2c
  deriving DecidableEq, Repr

/-- A command that has started and whose completion has not been written: what it waits for, the resources it names
(R466), what is to be done at its end, and the results known so far. -/
structure Job where
  cmd : Cmd
  wait : Until
  res : List (Nat × Nat)
  data : List Nat
  deriving DecidableEq, Repr

/-- A lease (R449): resource code and index of R471, and the context that holds it. Quotas are registers. -/
structure Lease where
  res : Nat
  idx : Nat
  ctx : Nat
  /-- The first block of the grant this block came with (LEASE_GRANT); else the index. -/
  run : Nat
  deriving DecidableEq, Repr

/-- A forecast entry Hyrno has staged (R473): the eight words of its image after staging, its owner's context, its target
start in DFE cycles, and whether it is one of the held-back entries of R475. -/
structure Staged where
  ctx : Nat
  target : Nat
  words : List Word
  held : Bool
  deriving DecidableEq, Repr

/-- What Hyrno, the firmware, keeps. -/
structure HyState where
  /-- Commands consumed and not yet completed, oldest first (R439, R440), with whether each has started. -/
  inflight : List (Cmd × Bool) := []
  /-- Started commands that wait for something. -/
  jobs : List Job := []
  /-- The leases held, R449. -/
  leases : List Lease := []
  /-- Carriers on their way to a stop, and why: 0 CAR_STOP, 1 revoked, 2 revoked and being disarmed (R452, R478). -/
  stopping : List (Nat × Nat) := []
  /-- In-flight quotas on their way down: context, target (R452). -/
  inflTo : List (Nat × Nat) := []
  /-- Blocks being scrubbed after a revocation: resource code 6 or 7 and block number, R452. -/
  scrub : List (Nat × Nat) := []
  /-- The staging queue, in consumption order, R473. -/
  staged : List Staged := []
  /-- The next SEQ that Hyrno assigns, R476. -/
  nextSeq : Nat := 0
  /-- The next job number, R269. -/
  nextJob : Nat := 1
  /-- Job numbers returned to a context, with what made them (R476): context, job, path or 64 + region. -/
  jobOwner : List (Nat × Nat × Nat) := []
  /-- Jobs allocated to staged SRS_CAP entries: `SEQ`, job (R477). -/
  srsJobs : List (Nat × Nat) := []
  /-- Per context, the target stamp of its entry committed last (R473, FC_CANCEL). -/
  lastStamp : List (Nat × Nat) := []
  /-- TAI seconds S₀ and the counter value C₀ at the latest second edge (R395, R396). -/
  taiSec : Nat := 0
  c0 : Nat := 0
  /-- Cycle of the last audit of the books (R454). -/
  auditAt : Option Nat := none
  deriving DecidableEq, Repr

/-- The host interface's state that is no register. -/
structure HiState where
  /-- Word position of HI_RING_DATA per ring, R437. -/
  ringPos : List Nat := List.replicate 32 0
  /-- Records written since the ring's last interrupt, R446. -/
  unsig : List Nat := List.replicate 32 0
  /-- Instant of the first record not yet signalled, per ring, R446. -/
  unsigAt : List Nat := List.replicate 32 0
  /-- Vectors held pending because the function masked them, and the masked vectors: (function, vector), R446. -/
  msixMask : List (Nat × Nat) := []
  msixPend : List (Nat × Nat) := []
  /-- The MSI-X message sent last: (function, vector). -/
  msixLast : Option (Nat × Nat) := none
  /-- Event records lost since the last overflow record, per context, R443. -/
  lost : List Nat := List.replicate 8 0
  /-- PCIe links up with bus mastering, functions A and B, R428. -/
  linkUp : List Bool := [false, false]
  /-- Bifurcation x2 + x2 (R424). -/
  x2 : Bool := false
  /-- In-band data of the host record per context (R425). -/
  inband : List InbandRec := []
  /-- In-band session: next expected and next sent frame counter per context, none before the session, R425. -/
  inbandRx : List (Option Nat) := List.replicate 8 none
  inbandTx : List Nat := List.replicate 8 0
  /-- Instant at which each context became HELD (R428), moved on while the timers stand still (R541), and of its last valid in-band
  frame. -/
  heldAt : List Nat := List.replicate 8 0
  inbandAt : List Nat := List.replicate 8 0
  /-- Records written to rings of in-band contexts and not yet sent in a RECORDS frame, the oldest first: ring and bytes (R425). -/
  records : List (Nat × List Byte) := []
  /-- What the device sent last on SPIS_MISO in answer to a read (R426), and the last in-band frame it sent (R425). -/
  spiOut : List Byte := []
  inbandOut : List Byte := []
  /-- UART FIFOs, oldest first, R458. -/
  uartTx : List Byte := []
  /-- The cycle in which the character being sent on UART_TX began, and the one sent last. -/
  uartAt : Nat := 0
  uartOut : Option Byte := none
  uartRx : List Byte := []
  /-- I2C FIFOs, oldest first, R459. -/
  i2cTx : List Byte := []
  i2cRx : List Byte := []
  /-- Device addresses the board record names, and the core regulator's, R459, R523. -/
  i2cAddrs : List Nat := []
  pmbusAddr : Nat := 0
  /-- The context R49 names at Boot as holder of the mode lease. -/
  bootHolder : Nat := 0
  /-- The journal holds the debug-unlock record, R448. -/
  unlock : Bool := false
  /-- Harvester: its period, span base, span bytes, next slot, next sequence number, context that started it, R572. -/
  harvPeriod : Nat := 0
  harvBase : Nat := 0
  harvSpan : Nat := 0
  harvSlot : Nat := 0
  harvSeq : Nat := 0
  harvCtx : Nat := 0
  harvAt : Nat := 0
  deriving DecidableEq, Repr

/-- One record write queued at the journal engine (R574, R581): record, its 64 bytes, whether the power and safety core
asked for it, the write group it belongs to, and whether it is the group's last record. -/
structure JWrite where
  num : Nat
  data : List Byte
  aon : Bool
  group : Nat
  final : Bool
  deriving DecidableEq, Repr

/-- The journal engine. The MRAM itself stands in memory at the journal window (R28). -/
structure NvjState where
  /-- Writes in order; the head is the record in flight, R581. -/
  queue : List JWrite := []
  /-- The record in flight is being written a second time, R583. -/
  retry : Bool := false
  /-- The next write group. -/
  nextGroup : Nat := 1
  /-- Contents of objects whose byte layout the spec does not give, as the firmware knows them, by TYPE (log entry 9). -/
  objs : List (Nat × List Nat) := []
  /-- Contents on their way into the journal: group, TYPE, content. -/
  staged : List (Nat × Nat × List Nat) := []
  deriving DecidableEq, Repr

/-- A step of housekeeping calibration in progress (R562): channel, step, conversions done, their sum. -/
structure HkCal where
  ch : Nat
  step : Nat
  n : Nat
  sum : Int
  deriving DecidableEq, Repr

/-- The housekeeping converter's state that is no register (R557 to R562). -/
structure HkState where
  /-- Sequences armed: regular, Squall. -/
  armReg : Bool := false
  armSq : Bool := false
  /-- List position being converted by the regular and the Squall run in progress. -/
  regRun : Option Nat := none
  sqRun : Option Nat := none
  /-- Calibration step running, or waiting for a regular run to end. -/
  cal : Option HkCal := none
  calWait : Option HkCal := none
  /-- Channels with a stored zero of step 0. -/
  zero : List (Nat × Int) := []
  /-- The FIFOs, oldest first: regular (64) and Squall (16); an entry is its two words. -/
  fifoReg : List (Word × Word) := []
  fifoSq : List (Word × Word) := []
  /-- Channels whose last result lay outside the window (HK_LIMIT already raised), R561. -/
  outside : List Nat := []
  /-- Per channel: TS_CNT.NS of the last result, results taken (wrapping at 16 bits). -/
  stampNs : List (Nat × Nat) := []
  samples : List (Nat × Nat) := []
  /-- Instants of the last HK_TRIG_IGNORED per sequence and of the last HK_FIFO_OVF, R558, R560. -/
  ignAt : List (Option Nat) := [none, none]
  ovfAt : Option Nat := none
  /-- Cycle from which the timer of each sequence runs (R557). -/
  timerAt : List Nat := [0, 0]
  deriving DecidableEq, Repr

/-- The thermal and wear monitor's state that is no register (R563 to R570). -/
structure ThState where
  /-- The last samples of each sensor, newest first, at most 50, in 0.01 degrees C. -/
  hist : List (List Int) := List.replicate 48 []
  /-- Consecutive samples outside and inside 8 degrees C of the median. -/
  outN : List Nat := List.replicate 48 0
  inN : List Nat := List.replicate 48 0
  /-- The throttle level is set (R566). -/
  level : Bool := false
  /-- Consecutive planner runs with slack above 1200 (R570). -/
  slackRuns : Nat := 0
  /-- The planner has run since Boot, and the set point the margin object gave. -/
  planned : Bool := false
  /-- Where the hottest reading lies, 0 below 100 °C, 1 up to 105 °C, 2 from there on, and since when it has, or the stage has changed
  since (R567). -/
  zone : Nat := 0
  zoneAt : Nat := 0
  /-- Cycle of the planner's last run (R570), and of the last transfer to the core regulator that failed (R523). -/
  planAt : Option Nat := none
  askedAt : Option Nat := none
  deriving DecidableEq, Repr

/-- A current step waiting for the gust limiter (R544, R545): its rank (0 first), a code of what waits, its index, its
size in 1/320 A, and when it was requested. -/
structure GustReq where
  rank : Nat
  what : Nat
  idx : Nat
  size : Nat
  at_ : Nat
  deriving DecidableEq, Repr

/-- A power-domain sequence in progress (R538): the domain, wake or power-down, and the step running, 1 to 5. -/
structure DomStep where
  dom : Nat
  wake : Bool
  step : Nat
  deriving DecidableEq, Repr

/-- A Frost entry in progress (R540): answers so far, in order, the powered-down domains still to come, and the lane
choices and Thaw triggers of PWR_FROST. -/
structure FrostReq where
  answered : Nat
  agreed : Bool
  lanes : Nat
  trig : Nat
  gpio : Nat
  timerMs : Nat
  latched : Bool
  deriving DecidableEq, Repr

/-- The power manager's state that is no register. -/
structure PmState where
  /-- Rails in range, in the row order of R519. -/
  rails : List Bool := List.replicate 12 true
  /-- The reset in force or last was a power-on reset. -/
  powerOn : Bool := true
  /-- PORST_N is high. -/
  porst : Bool := true
  /-- BIST runs since Self-test was entered, R527. -/
  bistRuns : Nat := 0
  /-- REFCLK present and the reference PLL locked is TS_STATUS.REF_LOCK; control cores on PLL clocks, R33. -/
  pllClocks : Bool := false
  /-- The mode Lane test or Frost was entered from, R41. -/
  enteredFrom : Mode := Mode.provisioned
  /-- Cause code of the transition in progress, R48. -/
  cause : Nat := 0
  /-- SYS_SET_MODE to Standby is under way from a radio mode, R42; and its ramp-down proper has begun, as that of a reset or of a
  thermal shutdown has. -/
  ramp : Bool := false
  rampOn : Bool := false
  /-- A warm reset from a radio mode is ramping paths down, R43: its cause. -/
  resetTo : Option Nat := none
  /-- Frost entry in progress, or the request under which Frost was entered. -/
  frost : Option FrostReq := none
  /-- A Thaw is in progress. -/
  thaw : Bool := false
  /-- Domain sequence in progress, R538. -/
  dom : Option DomStep := none
  /-- Exact debt of the gust limiter, in 1/320 A over 49,152 (R544), a cap that applies at the next microsecond, and the
  steps that wait. -/
  debt : Nat := 0
  capNext : Option Nat := none
  wait : List GustReq := []
  /-- Steps granted and not yet taken by what asked: code and index. -/
  granted : List (Nat × Nat) := []
  /-- Thermal shutdown running: the tripping sensor, R548. -/
  shut : Option Nat := none
  /-- Core set point asked of the regulator and not confirmed, R523. -/
  vTarget : Nat := 750
  /-- Image update: the length FW_UPDATE_BEGIN named (R41). -/
  updLen : Nat := 0
  /-- Slot active for the next Boot and slot running, 0 A, 1 B, R532. -/
  slot : Nat := 0
  /-- Last reported shutdown and supply sequence numbers, R630. -/
  repShut : Nat := 0
  repSup : Nat := 0
  /-- Cycles in which the mode was entered, the current step of a domain began (R538), a block was asked to agree to Frost (R540), and
  PWR_FROST started its timer (R542). -/
  modeAt : Nat := 0
  stepAt : Nat := 0
  askAt : Nat := 0
  frostAt : Nat := 0
  deriving DecidableEq, Repr

/-- The memory controller's state that is no register (R483 to R496). -/
structure McState where
  /-- Tokens of each port's bucket, in bytes over 12,288 (R492). -/
  tok : List Nat := List.replicate 8 0
  /-- Port granted last on each channel, for the round robin (R492). -/
  last : List Nat := [7, 7]
  /-- A gather window is open on each channel (R489). -/
  window : List Bool := [false, false]
  /-- Corrections waiting for the channel's next refresh: channel, set point, picoseconds (R489). -/
  corr : List (Nat × Nat × Int) := []
  /-- Corrections applied so far, channel 0 SP0 to SP2, then channel 1, in picoseconds. -/
  trim : List Int := List.replicate 6 0
  /-- A correction beyond ±24 ps was met: firmware retrains at the next Standby entry (R489). -/
  retrain : Bool := false
  /-- Set point of a change under way or waiting for a gather window (R490). -/
  target : Option Nat := none
  /-- Each port's rate at SP0 (R488, R491). -/
  nominal : List Nat := [6400, 5120, 1024, 2400, 2400, 1200, 800, 200]
  /-- The board record enables link ECC (R483). -/
  linkEcc : Bool := false
  /-- Data of the last piece or load that was read. -/
  rdata : List Byte := []
  /-- Cycle in which each channel's refresh last fell due (R494), and in which it last opened a gather window (R489). -/
  dueAt : List (Option Nat) := [none, none]
  gatherAt : List (Option Nat) := [none, none]
  deriving DecidableEq, Repr
/-- One of the 64 DMA slots (R499) that is not FREE: its number, its channel, the state (1 FILLING, 2 FULL), the burst's
source, destination and length, its data once filled, its descriptor, and its place in filling order. -/
structure DmaSlot where
  slot : Nat
  ch : Nat
  state : Nat
  src : Nat
  dst : Nat
  n : Nat
  data : List Byte
  desc : Nat
  order : Nat
  deriving DecidableEq, Repr

/-- What the read engine holds of a channel's descriptor (R501, R502). -/
structure DmaDesc where
  id : Nat
  /-- Where the descriptor stands, as a key of memory, and its 32 bytes' fields. -/
  at_ : Nat
  src : Nat
  dst : Nat
  len : Nat
  ctrl : Nat
  nxt : Nat
  /-- Bytes read so far, and bytes accepted at the destination. -/
  readN : Nat
  doneN : Nat
  /-- Error met, 0 none (R510). -/
  err : Nat
  deriving DecidableEq, Repr

/-- The DMA block's state that is no register (R499 to R512). -/
structure DmaState where
  slots : List DmaSlot := []
  /-- Per channel: the descriptors read and not complete, oldest first. -/
  descs : List (List DmaDesc) := List.replicate 16 []
  /-- Per channel: `DBC` recorded at parking (R505). -/
  recDbc : List Nat := List.replicate 16 0
  /-- Per channel: the bucket of R509 in bytes over 12,288. -/
  bucket : List Nat := List.replicate 16 (4096 * 12288)
  /-- Per channel: a request assertion is waiting to be served (R508). -/
  req : List Bool := List.replicate 16 false
  /-- The next filling number and the next descriptor number. -/
  fill : Nat := 0
  nextId : Nat := 0
  /-- Channel drained last, channel read last: the two round robins (R499). -/
  lastWr : Nat := 15
  lastRd : Nat := 15
  /-- PUSH data received for a bulk ring of an in-band context, oldest first (R503), per channel. -/
  pushed : List (List Byte) := List.replicate 16 []
  /-- Levels of DMA_PULSE[0..3]: pulses driven so far (R508). -/
  pulses : List Nat := List.replicate 4 0
  deriving DecidableEq, Repr

/-- One symbol of an issued DL_SYM or UL_SYM entry. -/
structure Sym where
  slot : Nat
  k : Nat
  /-- The downlink tick at its start, in DFE cycles of the 1,024-frame count, and its stamp. -/
  start : Nat
  stamp : Nat
  ul : Bool
  ctx : Nat
  car : Nat
  pmask : Nat
  /-- Quadrants whose lock check passed, and quadrants blanked on an unlocked LO (R72). -/
  okQ : List Nat
  lateQ : List Nat
  /-- Blanked by a stage overrun (R76), and absent for a turn-round or fill window (R74, R79). -/
  blank : Bool
  absent : Bool
  /-- It has started and not ended. -/
  active : Bool
  /-- Pipeline stages of R75 that have started for it: one more than the number of the latest. -/
  stage : Nat
  deriving DecidableEq, Repr

/-- One planned arming or disarming step (R624): direction, path, the start of the symbol it serves (Tₙ, or T′ₙ for receive), and the
downlink tick Tₙ of that symbol, which orders the steps (R82). -/
structure ArmStep where
  tx : Bool
  path : Nat
  start : Nat
  key : Nat
  deriving DecidableEq, Repr

/-- A window lent to a borrower (R85): quadrant, kind, ring slot of the entry, and its first and last cycle in the time of
`State.now`. -/
structure Lent where
  q : Nat
  kind : Nat
  slot : Nat
  from_ : Nat
  until_ : Nat
  deriving DecidableEq, Repr

/-- A gain that RF holds to its instant (R64): path, direction, code, and the instant in the time of `State.now`. -/
structure HeldGain where
  path : Nat
  tx : Bool
  code : Nat
  at_ : Nat
  deriving DecidableEq, Repr

/-- The forecast core's state that is no register (R56 to R92). The ring's images stand in the register file at TL
offset 0x8_0000 (R62). -/
structure TlState where
  /-- The frame counter: cycle in the frame, frame number. -/
  cyc : Nat := 0
  sfn : Nat := 0
  /-- The frame number to load at the next boundary, and an armed realignment. -/
  sfnLoad : Option Nat := none
  alignArmed : Bool := false
  /-- Slots of accepted entries not issued, and issued but not retired (R68, R69). -/
  pend : List Nat := []
  issued : List Nat := []
  /-- Target start of the latest accepted entry, in the time of `State.now` (R65). -/
  lastTarget : Option Int := none
  /-- Slots whose entry came from a context's staging, not from Hyrno itself (R475, R481). -/
  hostSlots : List Nat := []
  /-- Symbols scheduled or running. -/
  syms : List Sym := []
  /-- Arming steps that ARM entries asked for, and disarming steps to come, in their order (R82, R624). -/
  plan : List ArmStep := []
  dis : List ArmStep := []
  /-- End of the last downlink and uplink symbol of each tile (R79), in the time of `State.now`. -/
  endDl : List (Option Nat) := List.replicate 8 none
  endUl : List (Option Nat) := List.replicate 8 none
  /-- Consecutive deferrals of kinds 1 to 4 (R87). -/
  aged : List Nat := List.replicate 4 0
  /-- Lendable spans: quadrant mask, first and last cycle in the time of `Sym.start`, and the context (R85). -/
  guards : List (Nat × Nat × Nat × Nat) := []
  /-- Windows lent (R85). -/
  lent : List Lent := []
  /-- Slots of entries whose first issue instant has passed and that wait for a later window or for an AUX_TUNE (R86, R87). -/
  waits : List Nat := []
  /-- Entries issued in the running DFE cycle (R69). -/
  nIssue : Nat := 0
  /-- Gains that RF holds to their instants (R64). -/
  gains : List HeldGain := []
  /-- End of the last symbol scheduled on each path, transmit and receive (R78), in the time of `State.now`. -/
  endTx : List (Option Nat) := List.replicate 64 none
  endRx : List (Option Nat) := List.replicate 64 none
  /-- Start of the latest symbol covered by an issued entry, in the time of `State.now` (R55). -/
  lastIssued : Int := 0
  /-- Kinds that completed a step in the running interval (R87). -/
  stepDone : List Nat := []
  /-- Latest RX synchronising reset per carrier: carrier and target start (R74, R195). -/
  rxSync : List (Nat × Nat) := []
  /-- Pending slots whose forecast quota has been revoked, and the quotas on their way down: context, target (R452). -/
  revSlots : List Nat := []
  quotaTo : List (Nat × Nat) := []
  deriving DecidableEq, Repr

/-- RF's state that is no register (R93 to R143). -/
structure RfState where
  /-- The calibration under way is the second run (R106), per synthesiser. -/
  retry : List Bool := List.replicate 5 false
  /-- Microseconds the calibration under way has taken, retry included. -/
  calUs : List Nat := List.replicate 5 0
  /-- Range asked for: 0 automatic, 1 L, 2 M, 3 H (R101, R103). -/
  rng : List Nat := List.replicate 5 0
  /-- Bias outputs: 0 high-impedance, 1 at OFF, 2 at ON, 3 ramping to ON, 4 ramping to OFF, 5 driven to 0 V (R97, R116
  to R119). -/
  bias : List Nat := List.replicate 64 0
  /-- The ramp runs at the larger of SLEW and 1,000 mV/µs (R119). -/
  biasFast : List Bool := List.replicate 64 false
  /-- DAC full-scale current of each TX path in eighths (R546), and those being lowered: path, start and length in the time of
  `State.now`. -/
  dac : List Nat := List.replicate 64 0
  dacRamp : List (Nat × Nat × Nat) := []
  /-- Paths for which RF_REG_PEAK was raised in the current symbol (R132). -/
  peaked : List Nat := []
  /-- TX paths muted by a loss of lock and not yet back (R107, R110). -/
  loMute : List Nat := []
  /-- Guard mutes that run: path, and the end in the time of `State.now`, none for the end of the frame (R133, R134). -/
  hold : List (Nat × Option Nat) := []
  /-- Paths whose duty limit was reached and reported in this frame (R134). -/
  dutyDone : List Nat := []
  /-- ACTIVE samples of each path in the frame (R134). -/
  dutyN : List Nat := List.replicate 64 0
  /-- Path and direction (0 TX, 1 RX) with RF_PATH_SKIP raised in this frame (R631). -/
  skipped : List (Nat × Nat) := []
  /-- Guard values that take effect at the next frame boundary (R129): 64 peak, 64 RMS, 64 duty, 16 low, 16 high. -/
  regNext : Option (List Nat) := none
  /-- TDD leads and lags that take effect at the next frame (FE_TDD): TX lead, RX lead, TX lag, RX lag. -/
  tddNext : Option (List Nat) := none
  /-- PABIAS settings that wait for their path to reach OFF (FE_PABIAS): path, configuration word, level word. -/
  biasNext : List (Nat × Word × Word) := []
  /-- The list running on each RFFE master (its trigger), and the lists due and waiting (R127). -/
  rffeRun : List (Option Nat) := List.replicate 4 none
  rffeDue : List (List Nat) := List.replicate 4 []
  /-- What each RFFE bus carried last (R123): for a command its type, USID, address and data bytes; for a list 16, the list's first
  entry and its count. -/
  rffeSent : List (List Nat) := List.replicate 4 []
  deriving DecidableEq, Repr

/-- CV's state that is no register (R144 to R183). -/
structure CvState where
  /-- Slices outside their limits at their last OFFLINE (R156): ADC and slice. -/
  out1 : List (Nat × Nat) := []
  /-- RX corrections computed and not yet in effect (R160): path, imbalance word, DC offset; and the DC offsets in force. -/
  rxqNext : List (Nat × Word × Int × Int) := []
  rxDc : List (Nat × Int × Int) := []
  /-- Cycles each path has been ACTIVE in the statistics under way (R160). -/
  rxqN : List Nat := List.replicate 64 0
  /-- TX values staged (R165): path, DC word, imbalance word. -/
  txqNext : List (Nat × Word × Word) := []
  /-- ADCs whose spur limit was raised and has not recovered (R159). -/
  spurred : List Nat := []
  /-- Residuals of the slots at their last SHADOW (R159): ADC, slot, offset in 1/16 LSB, gain in 2⁻¹⁶, skew in fs. -/
  resid : List (Nat × Nat × Int × Int × Int) := []
  /-- Reference instants of the handovers that wait (R152, R155), in the time of `State.now`, by pair. -/
  rotEnd : List (Nat × Nat) := []
  /-- Handover sample n₀ of each pair's last handover (R152): pair and sample of the 1,024-frame count at 1966.08 MSPS. -/
  handAt : List (Nat × Nat) := []
  /-- Observation receivers: calibration steps done of the run in progress and what they found, values staged, values in force (R166). -/
  orxStep : List Nat := List.replicate 8 0
  orxGot : List (Nat × List Nat) := []
  orxNext : List (Nat × List Nat) := []
  orxVal : List (Nat × List Nat) := []
  /-- Calibration steps running: kind, and the path (kind 3), tile (kind 4) or position (kind 2) they work on. -/
  steps : List (Nat × Nat) := []
  /-- Differences found at the last SHADOW, per ADC: gain in 2⁻¹⁶, offset in 1/16 LSB, skew in fs (R151). -/
  shadow : List (Nat × Nat × Nat × Nat) := []
  /-- The foreground calibration has ended since Standby was entered or the Thaw (R148), and the DAC trim (R162). -/
  fgDone : Bool := false
  dacDone : Bool := false
  /-- Pair estimates of the sweep under way, which stand in cluster memory (R169, R174; log entry 99). -/
  meas : List PairEst := []
  /-- a_p and b_r of the last solve in 2⁻²⁴ neper and radian, 128 to a subband, about which the next one wraps (R171). -/
  lastAb : List (Int × Int) := []
  /-- A CAL_SWEEP or the calibration plan has a sweep under way (R175). -/
  sweeping : Bool := false
  /-- Transmissions of each path in the sweep under way (R171), REPEAT, and the sweep's job. -/
  sent : List Nat := List.replicate 64 0
  repeat_ : Nat := 4
  sweepJob : Option Nat := none
  /-- Quadrants for which CV_ACAL_NOREF was raised at the CHAN in force (R170). -/
  noref : List Nat := []
  /-- An accepted array result that waits for the inactive bank (R247): words by position. -/
  acalWait : Option (List Nat × Nat) := none
  /-- Rotation pairs that still run on former settings, until their next period (CAL_ROT_SET): pair, CV_ROT_CFG, CV_SPUR_THR. -/
  rotOld : List (Nat × Word × Word) := []
  /-- Intervals in seconds that the host set for the kinds 2 to 4 (CAL_INTERVAL, R176). -/
  every : List Nat := [60, 60, 10]
  /-- When the interval under way of the kinds 2 to 4 began, in DFE cycles (R87, R176). -/
  since : List Nat := [0, 0, 0]
  deriving DecidableEq, Repr

/-- A capture in a tile's buffer (R212 to R216): its header fields, its samples, and where it goes. -/
structure Cap where
  /-- Ring slot of the OBS_CAP entry. -/
  slot : Nat
  path : Nat
  stamp : Nat
  tag : Nat
  n : Nat
  dly : Nat
  att : Nat
  flags : Nat
  bank : Nat
  freq : Nat
  nbr : Nat
  ctx : Nat
  ringSlot : Nat
  /-- The entry came from the context's own staging, not from Hyrno (R481). -/
  host : Bool
  /-- The samples, once captured (R215). -/
  data : List Byte
  /-- Bytes accepted by the memory controller so far. -/
  drained : Nat
  deriving DecidableEq, Repr

/-- A record held in a tile's ring (R216, R481): tile, ring slot, path, tag, context it was taken for, whether a training
job may use it. -/
structure CapRec where
  tile : Nat
  slot : Nat
  path : Nat
  tag : Nat
  ctx : Nat
  host : Bool
  bytes : Nat
  flags : Nat
  deriving DecidableEq, Repr

/-- One chain of a carrier on a path (R187 to R195): its active FIR bank, the number of its next sample in the 1,024-frame count at 1966.08
Msps once it has one, its NCO accumulator, its delay lines (newest first), the samples that each decimator still drops before it keeps one,
and the outputs that are still invalid. -/
structure ChainSt where
  car : Nat
  path : Nat
  ul : Bool
  bank : Nat
  next : Option Nat
  acc : Nat
  /-- The moving-average stages. -/
  ma : List (List (Int × Int))
  fir : List (Int × Int)
  /-- HB1 and HB2. -/
  hb1 : List (Int × Int)
  hb2 : List (Int × Int)
  skipRc : Nat
  skip1 : Nat
  skip2 : Nat
  fill : Nat
  deriving DecidableEq, Repr

/-- One CFR stage of a path (R201, R202): samples taken, the last of them (newest first), and its engines: the peak's place and what it
subtracts there. -/
structure CfrSt where
  path : Nat
  st : Nat
  n : Nat
  hist : List (Int × Int)
  eng : List (Nat × Int × Int)
  deriving DecidableEq, Repr

/-- The DFE's state that is no register (R184 to R229), with what Hyrno keeps for pre-distortion. -/
structure DfeState where
  /-- FIR swaps issued whose symbol has not come (R198 to R200): carrier, direction (0 TX, 1 RX), target start. -/
  cfirSwap : List (Nat × Nat × Nat) := []
  /-- FIR swaps and synchronising resets that a chain still takes, at the first sample of their symbol (R194 to R199): carrier, UL, path,
  stamp. -/
  firNext : List (Nat × Bool × Nat × Nat) := []
  syncNext : List (Nat × Bool × Nat × Nat) := []
  /-- Changes of DPD EN waiting for the path's next transmitted symbol (R207). -/
  enNext : List (Nat × Bool) := []
  /-- The loader's queue (R210): path, cluster address, job number (0 none); the head is loading. -/
  loader : List (Nat × Nat × Nat) := []
  /-- Tile buffers, and the next slot and the slots in use of each tile's ring. -/
  cap : List (Option Cap) := List.replicate 8 none
  ringNext : List Nat := List.replicate 8 0
  recs : List CapRec := []
  /-- Tiles whose capture in progress will be discarded: its right was revoked (R452). -/
  capDrop : List Nat := []
  /-- Events raised once per path and symbol (R192, R202, R207): code, path, symbol start. -/
  once : List (Nat × Nat × Nat) := []
  /-- CFR settings that take effect after the next carrier change (R203): path and word, and whether the change has
  come. -/
  cfrNext : List (Nat × Word × Bool) := []
  /-- MU and lambda per path in FP32 (R217, R628), the gain G once measured. -/
  mu : List (Nat × Word) := []
  lam : List (Nat × Word) := []
  gain : List (Nat × Nat) := []
  /-- Training jobs: job number, path; those that ended OK, and those a load of which has ended (R210). -/
  train : List (Nat × Nat) := []
  trained : List Nat := []
  loaded : List Nat := []
  /-- CFR in the frame under way (R204): by path, the energies of the signal and of the cancellation, and |x|² of the samples in and out. -/
  cfrSeen : List (Nat × Nat × Nat × List Nat × List Nat) := []
  /-- Pulse slots that wait to be designed anew until no ARMED path selects them (R203). -/
  pulseNext : List Nat := []
  /-- Chains that have run, and CFR stages. -/
  chains : List ChainSt := []
  cfr : List CfrSt := []
  /-- The last output of each element: 0 a carrier's interpolation chain (place 64 × carrier + path), 1 its IFFT or path-mode samples, 2 CFR
  of a path with the samples before it, 3 pre-distorter, 4 DAC input, 5 TX I/Q correction with the samples before it, 6 DAC,
  7 the last inputs of CFR. -/
  out : List (Nat × Nat × List (Int × Int)) := []
  deriving DecidableEq, Repr

/-- A hardware loop in progress (R289): the first and last bundle of its body, iterations left, and whether it rotates. -/
structure NvLoop where
  first : Nat
  last : Nat
  left : Nat
  rot : Bool
  deriving DecidableEq, Repr

/-- One of the four descriptor slots of a stream engine (R285) once started: what it moves, the local data of an outward
move as they stood at the start, its completion flag and its `ERR` flag (R287). -/
structure NvStream where
  slot : Nat
  desc : StreamDesc
  out : List Byte
  done : Bool
  err : Bool
  deriving DecidableEq, Repr

/-- What a core stalls on (R294). -/
inductive NvWait where
  | none
  | stream (slot : Nat)
  | barrier (b : Nat)
  | mailbox
  deriving DecidableEq, Repr

/-- A pointer with its modifier and its circular base and length (R276). -/
structure NvPtr where
  p : BitVec 17 := 0
  md : BitVec 17 := 0
  base : BitVec 17 := 0
  len : BitVec 17 := 0
  deriving DecidableEq, Repr

/-- A core's architectural state beside its registers of R305 (PC and RB stand there) and its memories (R276). -/
structure NvCore where
  v : List (BitVec 512) := List.replicate 32 0
  acc : List (List (BitVec 48 × BitVec 48)) := List.replicate 8 (List.replicate 16 (0, 0))
  /-- M1 to M3; M0 reads all ones. -/
  m : List (BitVec 16) := List.replicate 4 0
  /-- S1 to S15; S0 reads zero. -/
  r : List Word := List.replicate 16 0
  x : List NvPtr := List.replicate 4 {}
  y : List NvPtr := List.replicate 4 {}
  /-- Active loops, innermost first. -/
  loops : List NvLoop := []
  /-- Return addresses, newest first. -/
  calls : List (BitVec 12) := []
  cond : Bool := false
  streams : List NvStream := []
  wait : NvWait := .none
  /-- In-word 15 was written and no WAITMBX has passed on it (R299). -/
  in15 : Bool := false
  /-- Trigger of a leased kernel (R297): 0 none, 1 immediate, 2 mailbox, 3 sounding; its carrier; one held trigger. -/
  trig : Nat := 0
  trigCar : Nat := 0
  held : Bool := false
  loaded : Bool := false
  /-- The state to which a paused core resumes (R296). -/
  was : Nat := 1
  /-- The firmware job whose part runs here, 0 none. -/
  job : Nat := 0
  /-- What the watchdog has counted (R274), in DFE cycles: before the present stretch of running, and when that began. -/
  ran : Nat := 0
  since : Nat := 0
  deriving DecidableEq, Repr

/-- A firmware job (R269 to R273): number, kind (0 reciprocity, 1 DPD training, 2 array solve, 3 other), what it works on,
the cores it needs, its part count, DONEs so far, the cores its parts ended on, faults met, and its state: 0 held by
Hyrno, 1 registered, 2 running. -/
structure NvJob where
  num : Nat
  kind : Nat
  args : List Nat
  need : Nat
  parts : Nat
  dones : Nat
  ended : Nat
  faults : Nat
  st : Nat
  deriving DecidableEq, Repr

/-- The cluster's state that is no register (R267 to R302). -/
structure NvcState where
  cores : List NvCore := List.replicate 16 {}
  /-- Barriers (R288): the number armed, 0 before the first arming, and the cores that wait. -/
  bars : List (Nat × List Nat) := List.replicate 8 (0, [])
  /-- Jobs submitted and not ended, in submission order. -/
  jobs : List NvJob := []
  deriving DecidableEq, Repr

/-- A reciprocity descriptor (R254): carrier, region, α and minimum SNR as the command gave them, cores, and per layer the
beam ID, comb, offset, shift and sequence address. -/
structure Recip where
  car : Nat
  ctx : Nat
  region : Nat
  alpha : Nat
  snr : Nat
  cores : Nat
  layers : List (List Nat)
  deriving DecidableEq, Repr

/-- A sounding capture arranged by an SRS_CAP entry and not complete (R252, R253): its ring slot, what its header carries,
and whether its symbol was blanked or a path left ACTIVE. -/
structure Srs where
  slot : Nat
  stamp : Nat
  car : Nat
  ctx : Nat
  pmask : Nat
  param : Nat
  bad : Bool
  /-- The tone cells as the FFT gave them (R235, R253), once it has. -/
  cells : Option (List Byte)
  deriving DecidableEq, Repr

/-- Twelve subcarriers that a stage of the beamformer gave (R233, R235): the symbol's ring slot and place, the path (or, from stage 4,
the flow and section ID), whether it is a layer, and the PRB. Section 1 of a path holds its received samples (R186). -/
structure BfOut where
  slot : Nat
  k : Nat
  layer : Bool
  idx : Nat
  sect : Nat
  prb : Nat
  x : List (Int × Int)
  deriving DecidableEq, Repr

/-- The beamformer's state that is no register, and what Hyrno keeps for it. The weight memory stands in memory (R238). -/
structure BfState where
  /-- Pool bindings (R249): region, beam ID, slot. -/
  binds : List (Nat × Nat × Nat) := []
  /-- Slots that a symbol not past its stage still reads (R250): region, slot, end of that stage. -/
  reading : List (Nat × Nat × Nat) := []
  /-- The next slot in ring order of each region. -/
  nextSlot : List Nat := List.replicate 64 0
  /-- Vectors given up by a shrink and being scrubbed: first, count, region, context (R260). -/
  shrink : List (Nat × Nat × Nat × Nat) := []
  /-- Regions REVOKING, whether their scrub runs, and whether a stage still reads them is the sender's (R259). -/
  scrub : List Nat := []
  /-- The newest switch of each paged region: region, start of its first symbol (R244), and the cycle at which the other page becomes FREE
  (R245). -/
  switchAt : List (Nat × Nat × Nat) := []
  /-- Regions disabled while a stage may still read them (R241). -/
  leaving : List Nat := []
  recip : List Recip := []
  srs : List Srs := []
  /-- Events raised once per carrier (or region, or path) and symbol: event, number, symbol start (R234, R240, R242). -/
  once : List (Nat × Nat × Nat) := []
  /-- What the stages gave for the symbols in progress. -/
  out : List BfOut := []
  /-- Carriers that took up a correction bank for a symbol whose earlier ones are still in the pipeline (R247): carrier, former bank, stamp
  of the first symbol on the new one. -/
  acFrom : List (Nat × Nat × Nat) := []
  /-- Symbols that need more vectors than their window gives (R236): entry, symbol of the entry, stage; they overrun at its deadline. -/
  late : List (Nat × Nat × Nat) := []
  deriving DecidableEq, Repr

/-- A lane's state that is no register (R318 to R343). -/
structure Lane where
  /-- The power state asked for (R337): 0 active, 1 LULL with TX asleep, 2 LULL with RX asleep, 3 DOLDRUMS, 4 OFF; and
  whether an exit towards it runs. -/
  goal : Nat := 4
  exiting : Bool := false
  /-- The hunt under way started from NO_PARTNER (R320). -/
  again : Bool := false
  /-- The descrambler has loaded a SYNC block in this hunt (R329), and its state. -/
  loaded : Bool := false
  lfsr : BitVec 58 := BitVec.allOnes 58
  /-- An ALIGN block that fits has been seen in this hunt (R331), and its sequence number; for Ethernet, alignment marker
  lock (R322). -/
  aligned : Bool := false
  seq : Nat := 0
  /-- Length and value of the run of identical line bits received (R326). -/
  run : Nat := 0
  runBit : Bool := false
  /-- Start of the hunt under way or last failed (R319). -/
  huntAt : Nat := 0
  /-- Blocks sent since lane start, the ALIGN sequence number, whether a SYNC gave way to an ALIGN (R325, R329), and the payload of the
  last SYNC or ALIGN sent. -/
  txN : Nat := 0
  txSeq : Nat := 0
  txOwe : Bool := false
  txLast : BitVec 128 := 0
  /-- The transmitter's scrambler, the run of identical line bits sent (R325, R326), and the line bits of the last row that sent any. -/
  txLfsr : BitVec 58 := BitVec.allOnes 58
  txRun : Nat := 0
  txBit : Bool := false
  txLine : List Bool := []
  deriving DecidableEq, Repr

/-- A lane group's state that is no register. -/
structure LaneGroup where
  /-- The message in progress (R328): its length and its bytes so far; and data blocks of a refused SOM still to come. -/
  msg : Option (Nat × List Byte) := none
  drop : Nat := 0
  /-- The message delivered to the packet engine last. -/
  last : List Byte := []
  /-- LN_DESKEW_FAIL was raised in this hunt (R331). -/
  failed : Bool := false
  /-- Instant of the last LN_FEC_UNCORR (R335). -/
  fecAt : Option Nat := none
  /-- LANE_GROUP_SET accepted over the group's own lane and not applied (R311), and whether a change is under way. -/
  waits : Option Word := none
  changing : Bool := false
  /-- The group's exit step (R544): 0 none, 1 asked of the gust limiter, 2 granted. -/
  step : Nat := 0
  deriving DecidableEq, Repr

/-- The lanes' state that is no register. -/
structure LnState where
  lanes : List Lane := List.replicate 16 {}
  grps : List LaneGroup := List.replicate 4 {}
  /-- The power states the lanes had before Frost (R339). -/
  before : List Nat := []
  deriving DecidableEq, Repr


/-- An entry of the section table (R362): its flow and the context whose partition holds it, direction, section ID, the symbols it
covers (the index of the first, counted from frame 0 in the flow's numerology, and how many), its PRB spans and its beam ID. -/
structure Sect where
  flow : Nat
  ctx : Nat
  ul : Bool
  num : Nat
  id : Nat
  first : Nat
  nsym : Nat
  prbs : List (Nat × Nat)
  beam : Nat
  deriving DecidableEq, Repr

/-- One PRB, or one block of 12 path-mode samples, in the symbol store (R364): carrier, flow, layer or path, stamp of the symbol, PRB
(or offset of the first sample), the section ID it arrived under, and the 12 complex samples. -/
structure Cell where
  car : Nat
  flow : Nat
  layer : Nat
  stamp : Nat
  prb : Nat
  sect : Nat
  x : List (Int × Int)
  deriving DecidableEq, Repr

/-- What an egress frame is. -/
inductive TxKind where
  /-- An uplink message: flow, section ID, first PRB, PRB count, ring slot and place of its symbol, stamp, and payload. -/
  | uplink (flow sect prb n slot k stamp : Nat) (data : List Byte)
  /-- A forwarded frame; whether its residence time is added to a correction (R380), and its ingress timestamp. -/
  | fwd (corrected : Bool) (ts : Nat)
  /-- A delay Response with the measurement ID and t2, a Request with its ID (R381). -/
  | delayResp (id t2 : Nat)
  | delayReq (id : Nat)
  /-- An answer of the control cores, an ESMC frame with its QL, in-band traffic. -/
  | answer
  | esmc (ql : Nat)
  | host
  deriving DecidableEq, Repr

/-- A frame waiting for egress (R369, R370): port, class, bytes of Ethernet payload, and what it is. -/
structure TxFrame where
  port : Nat
  cls : Nat
  len : Nat
  kind : TxKind
  deriving DecidableEq, Repr

/-- A frame in an ingress buffer (R370): port, class 2 to 4, bytes, and what it carries. -/
structure RxFrame where
  port : Nat
  cls : Nat
  len : Nat
  kind : FrameKind
  deriving DecidableEq, Repr

/-- A delay measurement that the device began (R381): port, ID, t1 once sent, and whether TIME_DELAY asked for it. -/
structure DelayReq where
  port : Nat
  id : Nat
  t1 : Option Nat
  ctx : Option Nat
  deriving DecidableEq, Repr

/-- The packet engine's state that is no register. -/
structure FhState where
  sects : List Sect := []
  store : List Cell := []
  /-- Ingress buffers and egress queues, oldest first. -/
  rx : List RxFrame := []
  tx : List TxFrame := []
  /-- Events raised once per radio frame: event, number, frame; once per flow and symbol: flow, stamp (R365). -/
  once : List (Nat × Nat × Nat) := []
  sat : List (Nat × Nat) := []
  /-- Instant at which FH_DROP was last raised for a port and cause (R383). -/
  dropAt : List (Nat × Nat × Nat) := []
  /-- Declared forwarded hard rates per port, in and out, in Mbit/s (R379); launch settings that apply from the next symbol
  (R472): port, FH_LAUNCH word, rates. -/
  fwdIn : List Nat := List.replicate 4 0
  fwdOut : List Nat := List.replicate 4 0
  launchNext : List (Nat × Word × Nat × Nat) := []
  /-- Token bucket of each port's forwarded hard traffic, in 1/49,152 bit, and when it was brought up to date. -/
  bucket : List (Nat × Nat) := List.replicate 4 (0, 0)
  delays : List DelayReq := []
  /-- The frame that left last: what it was, and the correction or timestamp it left with. -/
  last : Option (TxFrame × Nat) := none
  deriving DecidableEq, Repr


/-- One time domain's servo (R402 to R408). Frequencies are whole numbers of 1 / (2²⁰ × 491,520,000) ppb, in which the products of
R403 are exact; VOFS is a whole number of 2⁻³² ns / (10⁹ × 2²⁰ × 491,520,000), in which the advance of R406 is exact. -/
structure TimeDom where
  i : Int := 0
  p : Int := 0
  f : Int := 0
  vofs : Int := 0
  /-- The sample that waits, in 1/16 ns (R405). -/
  pend : Option Int := none
  /-- Instant of the last accepted sample (R403), and the cycle in which the servo last took one (R405). -/
  last : Option Nat := none
  took : Option Nat := none
  /-- Consecutive samples within LOCK_NS, and consecutive rejections (R404). -/
  good : Nat := 0
  rej : Nat := 0
  /-- Phase of a switch in a radio mode is being removed (R408). -/
  slew : Bool := false
  /-- What TIME_DOMAIN_SET says of PTP (R415): port, domain number, profile, priority, VLAN, asymmetry. -/
  ptp : List Nat := List.replicate 6 0
  /-- Messages discarded (R415): over the rate, peer delay, other; and the second in which messages are being counted. -/
  overCnt : Nat := 0
  peer : Nat := 0
  other : Nat := 0
  rate : Nat × Nat := (0, 0)
  deriving DecidableEq, Repr

/-- The time block's state that is no register. -/
structure TsState where
  doms : List TimeDom := [{}, {}]
  /-- The correction applied to the reference PLL (R410), before it is cut to steps of 0.01 ppb. -/
  steer : Int := 0
  /-- Frame number offset β (R397), and the selection policy of TIME_SELECT. -/
  beta : Nat := 0
  auto : Bool := false
  /-- Last accepted PPS_IN edge (R400): its stamp, and whether the loss has been reported. -/
  pps : Option Nat := none
  ppsLost : Bool := false
  /-- QL of each lane as ESMC last gave it (R414), and whether Hyrno selects the SyncE lane. -/
  ql : List (Option Nat) := List.replicate 16 none
  qlAuto : Bool := true
  /-- Cycle of the last computation of TS_INC_CUR (R392), of the last SyncE gate's end (R412), and of the last ESMC sent (R414). -/
  incAt : Option Nat := none
  gateAt : Option Nat := none
  esmcAt : Option Nat := none
  deriving DecidableEq, Repr


/-- Why the machine stops. -/
inductive Fault where
  /-- Raised by no meaning at present: every command the spec gives an effect has one; stopping is safe. -/
  | noEffectGiven (mnemonic : String)
  deriving DecidableEq, Repr

/-- Why a command has no meaning. -/
inductive Refusal where
  /-- Raised by the dispatch for a command that has no meaning yet; safe. -/
  | notModelled (mnemonic : String)
  deriving DecidableEq, Repr

/-- The state. -/
structure State where
  /-- Registers, by address, in canonical form: no entry equal to its reset value (R16). BAR0 registers stand at `bar0`
  plus their offset. -/
  regs : List (Nat × Word) := []
  /-- Memory, by address, in canonical form. Host memory of functions A and B stands above the internal space. -/
  mem : List Host.Cell := []
  /-- Holding copies of the high words of 64-bit registers, by address of the high word (R12). -/
  latch : List (Nat × Word) := []
  /-- Bits that hardware set, and counters it counted up, in the running DFE cycle: address and bits (R14, R90). -/
  marks : List (Nat × Word) := []
  /-- Events raised and not yet taken up by the aggregator, oldest first (R442). -/
  raised : List Event := []
  pins : Pins := {}
  hy : HyState := {}
  hi : HiState := {}
  nvj : NvjState := {}
  hk : HkState := {}
  th : ThState := {}
  pm : PmState := {}
  tl : TlState := {}
  rf : RfState := {}
  cv : CvState := {}
  dfe : DfeState := {}
  nvc : NvcState := {}
  bf : BfState := {}
  ln : LnState := {}
  fh : FhState := {}
  ts : TsState := {}
  mc : McState := {}
  dma : DmaState := {}
  /-- DFE cycles (491.52 MHz) passed, R31. -/
  now : Nat := 0
  /-- The model's own: how many free values have been taken (log entry 6). -/
  free : Nat := 0
  /-- The model's own: the value the last read row answered, and the completion written last. -/
  lastRead : Option Word := none
  lastCpl : Option Completion := none
  /-- Commands that wait, first in, first out. -/
  pending : List Instr := []
  deriving DecidableEq, Repr

/-- The machine right after a power-on reset, when its registers first become readable, in Boot (R16, R47): every
register at its reset value, nothing in memory, no command waiting. -/
def State.reset : State := {}

end Sys2Proof.Machine
end

