-- ==== Sys2Proof/Machine/Ops.lean ====
section
/-! DEFINITION. The named operations every meaning is written over: register fields, memory, free values, events, modes. -/

namespace Sys2Proof.Machine

/-! ### Bit ranges -/

/-- The value of a field in a word. -/
def fldGet (f : Fld) (w : Word) : Nat := w.toNat / 2 ^ f.lo % 2 ^ f.w

/-- The word with a field set; a value too wide for the field loses its upper bits. -/
def fldSet (f : Fld) (w : Word) (v : Nat) : Word :=
  let m : Word := BitVec.ofNat 32 ((2 ^ f.w - 1) * 2 ^ f.lo)
  (w &&& ~~~m) ||| (BitVec.ofNat 32 (v % 2 ^ f.w * 2 ^ f.lo))

/-- The whole word as a field. -/
def fAll : Fld := ⟨0, 32⟩

/-- A number of `w` bits read as two's complement (R9). -/
def signed (w n : Nat) : Int := if n % 2 ^ w < 2 ^ (w - 1) then (n % 2 ^ w : Nat) else ((n % 2 ^ w : Nat) : Int) - (2 ^ w : Nat)

/-- A whole number as `w` bits of two's complement. -/
def unsigned (w : Nat) (i : Int) : Nat := (i % ((2 ^ w : Nat) : Int)).toNat

/-- A whole number limited to `w` bits of two's complement (saturation). -/
def satS (w : Nat) (i : Int) : Int :=
  if i < -((2 ^ (w - 1) : Nat) : Int) then -((2 ^ (w - 1) : Nat) : Int)
  else if ((2 ^ (w - 1) : Nat) : Int) - 1 < i then ((2 ^ (w - 1) : Nat) : Int) - 1 else i

/-- Element `i` of a list, or `d` past its end. -/
def nth {α : Type} (l : List α) (i : Nat) (d : α) : α := (l[i]?).getD d

/-- The bits of a mask that are set, below `n`. -/
def bitsOf (mask n : Nat) : List Nat := (List.range n).filter (fun i => mask.testBit i)

/-- The mask with the bits of a list set. -/
def maskOf (l : List Nat) : Nat := l.foldl (fun m i => m ||| 2 ^ i) 0

/-- The `n` bytes of a number, least significant first (R6). -/
def leBytes : (n v : Nat) → List Byte
  | 0, _ => []
  | n + 1, v => BitVec.ofNat 8 v :: leBytes n (v / 256)

/-- The number a byte string spells, least significant byte first (R6). -/
def leNum : List Byte → Nat
  | [] => 0
  | b :: l => b.toNat + 256 * leNum l

/-! ### Registers -/

/-- The word a register holds. -/
def State.rd (s : State) (a : Nat) : Word := sparseGet resetVal s.regs a

/-- Set a register word. -/
def State.wr (s : State) (a : Nat) (v : Word) : State := { s with regs := sparseSet resetVal s.regs a v }

/-- A field of a register. -/
def State.get (s : State) (a : Nat) (f : Fld) : Nat := fldGet f (s.rd a)

/-- Set a field of a register, leaving its other bits. -/
def State.put (s : State) (a : Nat) (f : Fld) (v : Nat) : State := s.wr a (fldSet f (s.rd a) v)

/-- A field read as a truth value. -/
def State.flag (s : State) (a : Nat) (f : Fld) : Bool := s.get a f != 0

/-- Set a one-bit field to a truth value. -/
def State.setFlag (s : State) (a : Nat) (f : Fld) (b : Bool) : State := s.put a f (if b then 1 else 0)

/-- Write a whole register from a number. -/
def State.wrN (s : State) (a n : Nat) : State := s.wr a (BitVec.ofNat 32 n)

/-- Set every register of a list of addresses through one function. -/
def State.each {α : Type} (s : State) (l : List α) (f : State → α → State) : State := l.foldl f s

/-- A 64-bit register as one number (R12). -/
def State.get64 (s : State) (a : Nat) : Nat := (s.rd a).toNat + 2 ^ 32 * (s.rd (a + 4)).toNat

/-- Set a 64-bit register. -/
def State.put64 (s : State) (a n : Nat) : State := (s.wrN a n).wrN (a + 4) (n / 2 ^ 32)

/-- Note bits that hardware sets in this DFE cycle: a clear that comes in the same cycle does not undo them (R14, R90). -/
def State.mark (s : State) (a : Nat) (m : Word) : State := { s with marks := (a, m) :: s.marks }

/-- The bits of a register that hardware has set in this DFE cycle. -/
def State.marked (s : State) (a : Nat) : Word := s.marks.foldl (fun m x => if x.1 = a then m ||| x.2 else m) 0

/-- Hardware sets sticky bits of a register (R13, R14). -/
def State.stick (s : State) (a : Nat) (m : Word) : State := (s.wr a (s.rd a ||| m)).mark a m

/-- Hardware sets a sticky one-bit field. -/
def State.stickFlag (s : State) (a : Nat) (f : Fld) : State := s.stick a (BitVec.ofNat 32 (2 ^ f.lo))

/-- Count one occurrence in a 32-bit error counter, which saturates (R90). -/
def State.count (s : State) (a : Nat) : State :=
  (s.wr a (if (s.rd a).toNat = 2 ^ 32 - 1 then s.rd a else s.rd a + 1)).mark a 1

/-- Count `n` occurrences in a 32-bit error counter (R90). -/
def State.countN (s : State) (a n : Nat) : State :=
  (s.wrN a (min ((s.rd a).toNat + n) (2 ^ 32 - 1))).mark a (if n = 0 then 0 else 1)

/-- Add one to a field that saturates. -/
def State.incSat (s : State) (a : Nat) (f : Fld) : State := s.put a f (min (s.get a f + 1) (2 ^ f.w - 1))

/-- Add one to a field that wraps. -/
def State.incWrap (s : State) (a : Nat) (f : Fld) : State := s.put a f (s.get a f + 1)

/-! ### Memory -/

/-- The key at which byte 0 of the host memory of function `f` (0 A, 1 B) stands. -/
def hostMem (f : Nat) : Nat := (f + 1) * 2 ^ 64

/-- What a byte that nothing has written reads as: a free journal record is all ones (R575); every SRAM is zero when
Boot starts (R527); DRAM, flash and host memory are taken to hold zero (DESIGN CHOICE, log entry 5). -/
def unlisted (a : Nat) : Byte := if 0x50000000 ≤ a ∧ a < 0x50040000 then 0xFF else 0

/-- One byte of memory. -/
def State.byte (s : State) (a : Nat) : Byte := sparseGet unlisted s.mem a

/-- Store one byte. -/
def State.setByte (s : State) (a : Nat) (b : Byte) : State := { s with mem := sparseSet unlisted s.mem a b }

/-- The `n` bytes from `a`. -/
def State.bytes (s : State) (a n : Nat) : List Byte := (List.range n).map (fun i => s.byte (a + i))

/-- Store a byte string from `a` up. -/
def State.setBytes (s : State) (a : Nat) : List Byte → State
  | [] => s
  | b :: l => State.setBytes (s.setByte a b) (a + 1) l

/-- The little-endian number of `n` bytes at `a`. -/
def State.memN (s : State) (a n : Nat) : Nat := leNum (s.bytes a n)

/-- Store a number as `n` little-endian bytes. -/
def State.setMemN (s : State) (a n v : Nat) : State := s.setBytes a (leBytes n v)

/-- Set `n` bytes from `a` back to what an unlisted byte reads as (a scrub to zero, R259, R452). -/
def State.scrubMem (s : State) (a n : Nat) : State := { s with mem := sparseClear s.mem a n }

/-- The regions of the internal address space (R28). -/
inductive Region where
  | ctl | cluster | weight | local_ | regs | journal | flash | dram | none
  deriving DecidableEq, Repr

/-- Bytes of installed DRAM (MC_STATUS.SIZE, in GiB). -/
def State.dramSize (s : State) : Nat := s.get R.MC_STATUS F.MC_STATUS_SIZE * 2 ^ 30

/-- The region an address lies in (R28). -/
def State.region (s : State) (a : Nat) : Region :=
  if a < 0x400000 then .ctl
  else if 0x10000000 ≤ a ∧ a < 0x10400000 then .cluster
  else if 0x20000000 ≤ a ∧ a < 0x20400000 then .weight
  else if 0x30000000 ≤ a ∧ a < 0x30800000 then .local_
  else if 0x40000000 ≤ a ∧ a < 0x41000000 then .regs
  else if 0x50000000 ≤ a ∧ a < 0x50040000 then .journal
  else if 0x60000000 ≤ a ∧ a < 0x70000000 then .flash
  else if 0x1000000000 ≤ a ∧ a < 0x1000000000 + s.dramSize then .dram
  else .none

/-- Does every byte of a span lie in a region (R29)? The regions are intervals, so the two ends decide unless the span
leaves one region for another, which no two adjoining regions allow. -/
def State.spanOk (s : State) (a n : Nat) : Bool :=
  n = 0 || (s.region a != .none && s.region a == s.region (a + n - 1))

/-- The base address of DRAM. -/
def dramBase : Nat := 0x1000000000

/-! ### Free values -/

/-- Take a free value of `w` bits (log entry 6). -/
def State.fresh (s : State) (w : Nat) : BitVec w × State := (Config.freeBits w s.free, { s with free := s.free + 1 })

/-- The quotient of a division whose rounding the spec does not give: exact where it is exact, else the value below or
the value above, which of them being free (log entry 10). -/
def State.divFree (s : State) (n : Int) (d : Nat) : Int × State :=
  if d = 0 then (((s.fresh 32).1.toNat : Int), (s.fresh 32).2)
  else if n % (d : Int) = 0 then (n / (d : Int), s)
  else (n / (d : Int) + ((s.fresh 1).1.toNat : Int), (s.fresh 1).2)

/-! ### Modes (R35) -/

/-- The code of a mode. -/
def modeCode : Mode → Nat
  | .unpowered => 1 | .resetHold => 2 | .selfTest => 3 | .boot => 4 | .provisioned => 5 | .standby => 6 | .tdd => 7
  | .fdd => 8 | .listen => 9 | .calibration => 10 | .laneTest => 11 | .frost => 12 | .thermalHold => 13 | .update => 14

/-- The mode of a code; a code R35 does not list names none. -/
def modeOf? (n : Nat) : Option Mode :=
  match n with
  | 1 => some .unpowered | 2 => some .resetHold | 3 => some .selfTest | 4 => some .boot | 5 => some .provisioned
  | 6 => some .standby | 7 => some .tdd | 8 => some .fdd | 9 => some .listen | 10 => some .calibration
  | 11 => some .laneTest | 12 => some .frost | 13 => some .thermalHold | 14 => some .update | _ => none

/-- The current mode (R47): codes 0 and 15 are never reported (R35). -/
def State.mode (s : State) : Mode := (modeOf? (s.get R.PM_MODE F.PM_MODE_CUR)).getD .unpowered

/-- The four radio modes (R41). -/
def isRadio : Mode → Bool
  | .tdd | .fdd | .listen | .calibration => true
  | _ => false

/-- The modes in which R35 lists firmware as running (R465). -/
def fwRuns : Mode → Bool
  | .provisioned | .standby | .tdd | .fdd | .listen | .calibration | .laneTest | .update => true
  | _ => false

/-- The modes in which the regulatory guard lets TX paths transmit (R36). -/
def mayTxIn : Mode → Bool
  | .tdd | .fdd | .calibration => true
  | _ => false

/-- Firmware runs: a mode that R35 lists so, with no reset and no thermal shutdown under way (R51, R548). -/
def State.fwUp (s : State) : Bool := fwRuns s.mode && s.pm.resetTo.isNone && s.pm.shut.isNone

/-- A transition is in progress (R47, R50). -/
def State.busy (s : State) : Bool := s.flag R.PM_MODE F.PM_MODE_BUSY

/-! ### Events -/

/-- TS_CNT.NS, the nanoseconds of the time counter (R390). -/
def State.ns (s : State) : Nat := (s.rd R.TS_CNT_HI).toNat

/-- Raise an event: it goes to the aggregator with the time, the stamp of numerology `num` and whether the forecast core
runs (R442). -/
def State.raiseAs (s : State) (e : Nat) (aud : Audience) (num : Nat) (items : List Nat) : State :=
  { s with raised := s.raised ++ [⟨e, aud, s.ns, s.get (R.TL_NOW num) F.TL_NOW_STAMP,
      s.flag R.TL_CTRL F.TL_CTRL_RUN, items⟩] }

/-- Raise an event to every subscribed context, with the stamp of numerology 1 (R442). -/
def State.raise (s : State) (e : Nat) (items : List Nat) : State := s.raiseAs e .all 1 items

/-- Raise an event to the owner of a resource (R442). -/
def State.raiseTo (s : State) (e : Nat) (owner : Option Nat) (items : List Nat) : State :=
  match owner with
  | some c => s.raiseAs e (.ctx c) 1 items
  | none => s.raiseAs e .all 1 items

/-- DFE cycles in one second (R31). -/
def cyclesPerSecond : Nat := 491520000

/-- Has at least a second passed since an instant, if there was one (rules of the kind "at most once per second")? -/
def State.secondSince (s : State) (t : Option Nat) : Bool :=
  match t with
  | none => true
  | some t => t + cyclesPerSecond ≤ s.now

/-! ### Current steps (R544, R545) -/

/-- A request for a current step joins the queue (R545). -/
def State.gustAsk (s : State) (rank what idx size : Nat) : State :=
  { s with pm := { s.pm with wait := s.pm.wait ++ [⟨rank, what, idx, size, s.now⟩] } }

/-- Takes a granted step, where it is granted (R544). -/
def State.gustTake (s : State) (what idx : Nat) : Option State :=
  if s.pm.granted.contains (what, idx) then some { s with pm := { s.pm with granted := s.pm.granted.erase (what, idx) } } else none

/-! ### Outcomes -/

/-- An event that has its effect only where the spec lets it occur: elsewhere the command changes nothing (log
entry 1). -/
def when_ (g : Bool) (t s : State) : Host.Outcome State Fault Refusal := .next (if g then t else s)

/-- As many cycles have passed since an instant, or there was none. -/
def State.spanPast (s : State) (n : Nat) (at_ : Option Nat) : Bool := match at_ with
  | some t => decide (t + n ≤ s.now)
  | none => true

/-- A time of the always-on clock has passed since a cycle: that clock lies within ±5 % of its nominal rate, so that at least 95 % of the
nominal time has (R31, R556). -/
def State.aonPast (s : State) (n at_ : Nat) : Bool := decide (95 * n ≤ 100 * (s.now - at_))

/-- A command's effect as part of another: the state it answers. -/
def State.act (s : State) (o : Host.Outcome State Fault Refusal) : State :=
  match o with
  | .next t => t
  | _ => s

end Sys2Proof.Machine
end

