-- ==== Sys2Proof/Machine/Rings.lean ====
section
/-! DEFINITION. Rings (R433 to R437), MSI-X (R446), and the checks of an access by address (R29, R30). -/

namespace Sys2Proof.Machine

/-- The context a command, completion or event ring belongs to (R433); for a bulk ring, the owner it was leased to. -/
def State.ringCtx (s : State) (r : Nat) : Nat := if r < 24 then r % 8 else s.get (R.HI_RING_STAT r) F.HI_RING_STAT_OWNER

/-- The state of a context (R428): 0 UNBOUND, 1 ATTACHED, 2 HELD, 3 EXPIRED. -/
def State.ctxState (s : State) (c : Nat) : Nat := s.get (R.HI_CTX_STAT c) F.HI_CTX_STAT_STATE

/-- The attachment a context is bound to (R423): 0 and 1 the PCIe functions, 2 in-band, 3 SPI. -/
def State.ctxAtt (s : State) (c : Nat) : Nat := s.get (R.HI_CTX_STAT c) F.HI_CTX_STAT_ATT

/-- Entries a ring can hold. -/
def State.ringSize (s : State) (r : Nat) : Nat := 2 ^ s.get (R.HI_RING_CFG r) F.HI_RING_CFG_SIZE

/-- Entries a ring holds: (PROD − CONS) mod 2¹⁶ (R434). -/
def State.ringUsed (s : State) (r : Nat) : Nat :=
  (s.get (R.HI_RING_PROD r) F.HI_RING_PROD_IDX + 2 ^ 16 - s.get (R.HI_RING_CONS r) F.HI_RING_CONS_IDX) % 2 ^ 16

/-- A ring takes or gives entries: enabled, and running or held back (R436). -/
def State.ringRuns (s : State) (r : Nat) : Bool :=
  s.flag (R.HI_RING_CFG r) F.HI_RING_CFG_EN &&
    (s.get (R.HI_RING_STAT r) F.HI_RING_STAT_STATE = 1 || s.get (R.HI_RING_STAT r) F.HI_RING_STAT_STATE = 2)

/-- Bytes of an entry (R433). -/
def ringEntry (r : Nat) : Nat := if r < 8 then 64 else 32

/-- Where the entry at index `i` of ring `r` lies (R434, R436): in device DRAM for LOC = 1, else in the host memory of the
owner's function. -/
def State.ringAddr (s : State) (r i : Nat) : Nat :=
  (if s.flag (R.HI_RING_CFG r) F.HI_RING_CFG_LOC then 0 else hostMem (s.ctxAtt (s.ringCtx r))) +
    s.get64 (R.HI_RING_BASE r) + i % s.ringSize r * ringEntry r

/-- A ring enters ERROR (R434, R436). -/
def State.ringError (s : State) (r err : Nat) : State :=
  ((s.put (R.HI_RING_STAT r) F.HI_RING_STAT_STATE 3).put (R.HI_RING_STAT r) F.HI_RING_STAT_ERR err).raiseTo
    Ev.HI_RING_ERR (some (s.ringCtx r)) [r, err]

/-- Send a vector of a function, or hold it pending where the function masked it (R446). -/
def State.msix (s : State) (fn vec : Nat) : State :=
  if s.hi.msixMask.contains (fn, vec) then
    { s with hi := { s.hi with msixPend := if s.hi.msixPend.contains (fn, vec) then s.hi.msixPend else s.hi.msixPend ++ [(fn, vec)] } }
  else { s with hi := { s.hi with msixLast := some (fn, vec) } }

/-- The ring's vector is raised and its count of unsignalled records starts again (R446). -/
def State.ringSignal (s : State) (r : Nat) : State :=
  let t := { s with hi := { s.hi with unsig := s.hi.unsig.set r 0 } }
  if s.ctxAtt (s.ringCtx r) < 2 then t.msix (s.ctxAtt (s.ringCtx r)) (s.get (R.HI_RING_CFG r) F.HI_RING_CFG_VEC) else t

/-- A record has been written: after ICNT records since the last interrupt the vector is raised (R446). -/
def State.ringWrote (s : State) (r : Nat) : State :=
  let n := nth s.hi.unsig r 0 + 1
  let icnt := s.get (R.HI_RING_CFG r) F.HI_RING_CFG_ICNT
  let s := if n = 1 then { s with hi := { s.hi with unsigAt := s.hi.unsigAt.set r s.now } } else s
  if icnt != 0 && icnt ≤ n then s.ringSignal r else { s with hi := { s.hi with unsig := s.hi.unsig.set r n } }

/-- Write one record into a device-produced ring and publish it (R434, R435); an in-band host gets it in a RECORDS frame (R425). -/
def State.ringPush (s : State) (r : Nat) (rec : List Byte) : State :=
  let p := s.get (R.HI_RING_PROD r) F.HI_RING_PROD_IDX
  let s := if s.ctxAtt (s.ringCtx r) = 2 then { s with hi := { s.hi with records := s.hi.records ++ [(r, rec)] } } else s
  ((s.setBytes (s.ringAddr r p) rec).put (R.HI_RING_PROD r) F.HI_RING_PROD_IDX (p + 1)).ringWrote r

/-- An access hit no region (R29): counted and reported. -/
def State.decodeErr (s : State) : State := (s.count R.HI_DECODE_ERR_CNT).raise Ev.HI_DECODE_ERR []

/-- Read `n` bytes through the interconnect, checked whole (R29): outside every region, zeros and a decode error. -/
def State.load (s : State) (a n : Nat) : List Byte × State :=
  if s.spanOk a n then (s.bytes a n, s) else (List.replicate n 0, s.decodeErr)

/-- Write bytes through the interconnect, checked whole (R29): outside every region, nothing and a decode error. -/
def State.store (s : State) (a : Nat) (b : List Byte) : State :=
  if s.spanOk a b.length then s.setBytes a b else s.decodeErr

end Sys2Proof.Machine
end

