-- ==== Sys2Proof/Machine/Dram.lean ====
section
/-! DEFINITION. The memory controller (R483 to R496): training, set points, gather windows, refresh, the arbiter and its
regulators, the port counters. A write is visible from its acceptance to every later read (R493), so that the 64-line
queue needs no state beside the memory. -/

namespace Sys2Proof.Machine

/-- The balance P of a channel (R494). -/
def State.mcP (s : State) (ch : Nat) : Int := signed 4 (s.get (R.MC_REFRESH ch) F.MC_REFRESH_P)

/-- Is P at +4? The field shows −4 to +4 in four bits. -/
def State.setP (s : State) (ch : Nat) (p : Int) : State := s.put (R.MC_REFRESH ch) F.MC_REFRESH_P (unsigned 4 p)

/-- The set point in use (R484). -/
def State.sp (s : State) : Nat := s.get R.MC_STATUS F.MC_STATUS_SP

/-- DRAM can be accessed: trained, not in self-refresh and not between set points (R488, R512). -/
def State.dramUp (s : State) : Bool :=
  s.get R.MC_STATUS F.MC_STATUS_TRAINED != 0 && !s.flag R.MC_STATUS F.MC_STATUS_SELFREF && !s.flag R.MC_STATUS F.MC_STATUS_CHANGING

/-- DRAM training ends (R486): `trained` says which set points trained, `step0` to `step2` at which step each failed,
`size` is the installed DRAM in GiB; a device with unequal channels or one that requires RFM (`unfit`) fails training
(R483). The patterns overwrite the top 1 MiB (R487), whose bytes read afterwards as memory that nothing has written. -/
def execDramTrainingDone (trained : BitVec 3) (step0 step1 step2 : Fin 4) (size : BitVec 5) (unfit : Bool) (s : State) :
    Host.Outcome State Fault Refusal :=
  if !(s.mode = .boot && s.get R.HI_BOOT_STAT F.HI_BOOT_STAT_STAGE = 3) then .next s
  else
    let m := if unfit then 0 else trained.toNat
    let fails := ([(2, step2.val), (1, step1.val), (0, step0.val)]).filter (fun p => !m.testBit p.1)
    let t := fails.foldl (fun (t : State) p => t.raise Ev.MC_TRAIN_FAIL [p.1, p.2]) s
    let t := ((t.put R.MC_STATUS F.MC_STATUS_TRAINED m).put R.MC_STATUS F.MC_STATUS_SIZE size.toNat).put R.HI_BOOT_STAT F.HI_BOOT_STAT_DRAM m
    let t := t.setFlag R.MC_STATUS F.MC_STATUS_SELFREF false
    let t := t.scrubMem (dramBase + t.dramSize - 2 ^ 20) (2 ^ 20)
    match [0, 1, 2].find? (fun k => m.testBit k) with
    | some k => .next ((t.put R.MC_STATUS F.MC_STATUS_SP k).put R.HI_BOOT_STAT F.HI_BOOT_STAT_STAGE 4)
    | none => .next (t.put R.HI_BOOT_STAT F.HI_BOOT_STAT_STAGE 6)

/-! ### Refresh (R494, R495) -/

/-- Corrections of a channel are applied during its next refresh; one beyond ±24 ps is not applied and asks for a full
retraining (R489). -/
def State.applyCorr (s : State) (ch : Nat) : State :=
  let mine := s.mc.corr.filter (fun c => c.1 = ch)
  let t := { s with mc := { s.mc with corr := s.mc.corr.filter (fun c => c.1 != ch) } }
  mine.foldl (fun (t : State) c =>
    if 24 < c.2.2.natAbs then { t with mc := { t.mc with retrain := true } }
    else { t with mc := { t.mc with trim := t.mc.trim.set (3 * ch + c.2.1) (nth t.mc.trim (3 * ch + c.2.1) 0 + c.2.2) } }) t

/-- One refresh of a channel: P falls by one. -/
def State.refresh (s : State) (ch : Nat) : State := (s.setP ch (s.mcP ch - 1)).applyCorr ch

/-- A refresh falls due every tREFI, 1,920 DFE cycles or half of them at double rate (R494, R495): P rises. At P = 4 it takes the next grant boundary; where a real-time burst holds
the channel (`rt`), that burst is split and the refresh goes in. In self-refresh the device refreshes itself. -/
def execRefreshDue (ch : Fin 2) (rt : Bool) (s : State) : Host.Outcome State Fault Refusal :=
  let period := if s.flag (R.MC_REFRESH ch) F.MC_REFRESH_DBL then 960 else 1920
  if !s.dramUp || 4 ≤ s.mcP ch || !s.spanPast period (nth s.mc.dueAt ch none) then .next s
  else
    let t := { s with mc := { s.mc with dueAt := s.mc.dueAt.set ch (some s.now) } }.setP ch (s.mcP ch + 1)
    if rt && t.mcP ch = 4 then .next ((t.refresh ch).count R.MC_SPLIT_CNT) else .next t

/-- A channel with no request waiting issues a refresh while P > −4 (R494). -/
def execRefreshIssue (ch : Fin 2) (s : State) : Host.Outcome State Fault Refusal :=
  when_ (s.dramUp && decide (-4 < s.mcP ch)) (s.refresh ch) s

/-- MR4 reports another refresh rate (R494). -/
def execRefreshRateChange (ch : Fin 2) (double : Bool) (s : State) : Host.Outcome State Fault Refusal :=
  .next (s.setFlag (R.MC_REFRESH ch) F.MC_REFRESH_DBL double)

/-! ### Regulators and the arbiter (R491 to R493) -/

/-- Tokens are held in 1/12,288 byte: `RATE` MB/s is `RATE` × 25 of them in each DFE cycle, exactly. -/
def tokUnit : Nat := 12288

/-- A port's bucket depth (R515). -/
def State.tokCap (s : State) (p : Nat) : Nat := s.get (R.MC_PORT_CFG p) F.MC_PORT_CFG_DEPTH * 64 * tokUnit

/-- Show a port's tokens in units of 64 bytes, and whether an access of `n` bytes finds it in profile (R492). -/
def State.tokShow (s : State) (p n : Nat) : State :=
  (s.put (R.MC_PORT_STAT p) F.MC_PORT_STAT_TOKENS (nth s.mc.tok p 0 / (64 * tokUnit))).setFlag (R.MC_PORT_STAT p)
    F.MC_PORT_STAT_INPROF (decide (n * tokUnit ≤ nth s.mc.tok p 0))

/-- One DFE cycle fills each bucket at its rate up to its depth (R492). -/
def State.mcTick (s : State) : State :=
  { s with mc := { s.mc with tok := (List.range 8).map (fun p =>
      min (s.tokCap p) (nth s.mc.tok p 0 + 25 * s.get (R.MC_PORT_CFG p) F.MC_PORT_CFG_RATE)) } }

/-- An access takes its bytes from its port's bucket. -/
def State.tokTake (s : State) (p n : Nat) : State :=
  ({ s with mc := { s.mc with tok := s.mc.tok.set p (nth s.mc.tok p 0 - n * tokUnit) } }).tokShow p n

/-- In profile (R492). -/
def State.inProfile (s : State) (p n : Nat) : Bool := decide (n * tokUnit ≤ nth s.mc.tok p 0)

/-- Add bytes to a 48-bit counter; on a wrap the flag bit `f` of register `fa` is set and the event raised (R516,
R517, R384, R343). -/
def State.count48 (s : State) (a n : Nat) (onWrap : State → State) : State :=
  let c := s.get64 a % 2 ^ 48 + n
  if 2 ^ 48 ≤ c then onWrap (s.put64 a (c % 2 ^ 48)) else s.put64 a c

/-- The byte counter of a port and direction. -/
def mcCounter (p : Nat) (wr : Bool) : Nat := if wr then R.MC_PORT_WR_BYTES p else R.MC_PORT_RD_BYTES p

/-- Count bytes of a port (R516). -/
def State.mcCount (s : State) (p : Nat) (wr : Bool) (n : Nat) : State :=
  s.count48 (mcCounter p wr) n (fun t =>
    (t.stick R.MC_PERF_OVF (BitVec.ofNat 32 (2 ^ (2 * p + if wr then 1 else 0)))).raise Ev.MC_CNT_WRAP
      [p, if wr then 1 else 0])

/-- A port byte counter wraps at 2⁴⁸ as `n` further bytes are counted (R516). -/
def execMcCntWrap (port : Fin 8) (wr : Bool) (n : BitVec 12) (s : State) : Host.Outcome State Fault Refusal :=
  when_ (2 ^ 48 ≤ s.get64 (mcCounter port wr) % 2 ^ 48 + n.toNat) (s.mcCount port wr n.toNat) s

/-- The bytes of one piece of a request: at most 256, up to the next 256-byte boundary (R492; log entry 13). -/
def pieceLen (q : MemReq) : Nat := min q.len (256 - q.addr.toNat % 256)

/-- The channel of an address: bit 11 of the DRAM offset (R485). -/
def dramCh (a : Nat) : Nat := (a - dramBase) / 2048 % 2

/-- Position of a port in the round robin of a channel: the port after the last granted comes first. -/
def State.rrRank (s : State) (ch p : Nat) : Nat := (p + 8 - (nth s.mc.last ch 7 + 1)) % 8

/-- A port's priority; port 0 is fixed at 0 (R515). -/
def State.portPrio (s : State) (p : Nat) : Nat := if p = 0 then 0 else s.get (R.MC_PORT_CFG p) F.MC_PORT_CFG_PRIO

/-- The request the arbiter grants (R492): in profile first, out of profile only without `HARD` and only while no request
in profile waits; lowest priority number, then round robin. -/
def State.arbiter (s : State) (ch : Nat) (l : List MemReq) : Option MemReq :=
  let mine := l.filter (fun q => dramCh q.addr.toNat = ch)
  let ins := mine.filter (fun q => s.inProfile q.port (pieceLen q))
  let outs := mine.filter (fun q => !s.flag (R.MC_PORT_CFG q.port) F.MC_PORT_CFG_HARD)
  (if ins.isEmpty then outs else ins).foldl (fun m q => match m with
    | none => some q
    | some b =>
      let k (x : MemReq) : Nat := 8 * s.portPrio x.port + s.rrRank ch x.port
      if k q < k b then some q else some b) none

/-- Read or write a span of installed DRAM; outside it nothing is accessed (R29). -/
def State.dramAccess (s : State) (a n : Nat) (data : Option (List Byte)) : State :=
  if s.spanOk a n && s.region a == .dram then
    match data with
    | some d => s.setBytes a (d.take n)
    | none => { s with mc := { s.mc with rdata := s.bytes a n } }
  else match data with
    | some _ => s.decodeErr
    | none => { s.decodeErr with mc := { s.mc with rdata := List.replicate n 0 } }

/-- The arbiter of a channel grants one piece (R492): a forced refresh first (R495), then the piece of the request it
chooses among those waiting. `ecc` says what link ECC found on a read: 0 nothing, 1 a corrected error, 2 an uncorrectable
one, whose data are open (R483, R513). -/
def execPortPieceGrant (ch : Fin 2) (reqs : List MemReq) (ecc : Fin 3) (s : State) : Host.Outcome State Fault Refusal :=
  if !s.dramUp then .next s
  else
    let s := if s.mcP ch = 4 then s.refresh ch else s
    match s.arbiter ch (reqs.filter (fun q => q.port != 0 && q.len != 0)) with
    | none => .next s
    | some q =>
      let n := pieceLen q
      let t := (s.dramAccess q.addr.toNat n q.data).tokTake q.port n
      let t := { t with mc := { t.mc with last := t.mc.last.set ch q.port } }
      let t := t.mcCount q.port q.data.isSome n
      let eccOn := s.mc.linkEcc && s.sp = 0 && q.data.isNone
      if eccOn && ecc = 1 then .next (t.count R.MC_ECC_CORR_CNT)
      else if eccOn && ecc = 2 then
        let (v, t) := t.fresh 2048
        let t := { t with mc := { t.mc with rdata := leBytes n v.toNat } }
        .next ((t.count R.MC_ECC_UNCORR_CNT).raise Ev.MC_ECC_UNCORR [ch, q.addr.toNat % 2 ^ 32, q.addr.toNat / 2 ^ 32])
      else .next t

/-! ### Gather windows and set points (R488 to R490) -/

/-- MC_STATUS.GATHER shows an open window. -/
def State.gatherShow (s : State) : State := s.setFlag R.MC_STATUS F.MC_STATUS_GATHER (s.mc.window.any id)

/-- A channel opens a gather window every RETRAIN ms (R489), and anew after a set-point change; none starts while a change waits or runs
(R490). -/
def execDqsGatherStart (ch : Fin 2) (s : State) : Host.Outcome State Fault Refusal :=
  when_ (s.dramUp && s.mc.target.isNone && !nth s.mc.window ch false &&
      s.spanPast (s.get R.MC_CTRL F.MC_CTRL_RETRAIN * (cyclesPerSecond / 1000)) (nth s.mc.gatherAt ch none))
    ({ s with mc := { s.mc with window := s.mc.window.set ch true, gatherAt := s.mc.gatherAt.set ch (some s.now) } }).gatherShow s

/-- A set-point change starts: DRAM accesses stop (R488). -/
def State.spStart (s : State) : State := s.setFlag R.MC_STATUS F.MC_STATUS_CHANGING true

/-- A gather window closes (R489, R490): a gather that failed updates nothing; a waiting set-point change starts when no
window is open. `ps` is the correction in picoseconds. -/
def execDqsGatherEnd (ch : Fin 2) (ok : Bool) (ps : BitVec 8) (s : State) : Host.Outcome State Fault Refusal :=
  if !nth s.mc.window ch false then .next s
  else
    let t := ({ s with mc := { s.mc with window := s.mc.window.set ch false } }).gatherShow
    let t := if ok then
        let u := { t with mc := { t.mc with corr := t.mc.corr ++ [(ch.val, t.sp, ps.toInt)] } }
        if 8 < ps.toInt.natAbs then u.raise Ev.MC_DRIFT [ch.val, ps.toNat] else u
      else t
    .next (if t.mc.target.isSome && !t.mc.window.any id then t.spStart else t)

/-- May firmware change the set point now (R484, R488)? -/
def State.spAllowed (s : State) (sp : Nat) : Bool :=
  (s.get R.MC_STATUS F.MC_STATUS_TRAINED).testBit sp &&
    (s.mode = .provisioned || s.mode = .update || (s.mode = .standby && sp != 2) || s.pm.frost.isSome || s.pm.thaw)

/-- Firmware asks for a set-point change (R488); while a gather window is open it is deferred and counted (R490). -/
def execSetpointChange (sp : Fin 3) (s : State) : Host.Outcome State Fault Refusal :=
  if !(s.dramUp && s.spAllowed sp && s.mc.target.isNone) then .next s
  else
    let t := { s with mc := { s.mc with target := some sp.val } }
    .next (if s.mc.window.any id then t.count R.MC_GATHER_DEFER_CNT else t.spStart)

/-- The memory PLL has relocked (R488): MC_SETPOINT, and each port's rate is scaled by the new data rate over 6400 MT/s. -/
def execSetpointChangeDone (s : State) : Host.Outcome State Fault Refusal :=
  match s.mc.target, s.flag R.MC_STATUS F.MC_STATUS_CHANGING with
  | some sp, true =>
    let t := (s.put R.MC_STATUS F.MC_STATUS_SP sp).setFlag R.MC_STATUS F.MC_STATUS_CHANGING false
    let t := { t with mc := { t.mc with target := none, gatherAt := [none, none] } }
    let t := (List.range 8).foldl (fun (t : State) p =>
      let (q, t) := t.divFree (nth t.mc.nominal p 0 : Nat) (2 ^ sp)
      t.put (R.MC_PORT_CFG p) F.MC_PORT_CFG_RATE q.toNat) t
    .next (t.raise Ev.MC_SETPOINT [sp])
  | _, _ => .next s

/-- The DRAM goes into self-refresh at its set point, or leaves it (R487, R512). -/
def State.selfRefresh (s : State) (b : Bool) : State := s.setFlag R.MC_STATUS F.MC_STATUS_SELFREF b

end Sys2Proof.Machine
end

