-- ==== Sys2Proof/Machine/Hyrno.lean ====
section
/-! DEFINITION. How the firmware runs a command: its parameters (R462), who may issue it (R464), the order of the checks
(R469), its completion (R438, R468), and what waits for what (R440, R465, R466). -/

namespace Sys2Proof.Machine

/-! ### Statuses (R468) -/
namespace St
def ok : Nat := 0
def badParam : Nat := 1
def badState : Nat := 2
def notOwner : Nat := 3
def busy : Nat := 4
def badTiming : Nat := 5
def locked : Nat := 6
def refused : Nat := 7
def ioError : Nat := 8
def noSpace : Nat := 9
def notFound : Nat := 10
def authFail : Nat := 11
def aborted : Nat := 12
def timeout : Nat := 13
def failed : Nat := 14
end St

/-! ### Parameters -/

/-- The parameter of `n` bytes at byte `off` of the command, little-endian (R462). -/
def arg (c : Cmd) (off n : Nat) : Nat := c.params.toNat / 2 ^ (8 * (off - 8)) % 2 ^ (8 * n)

/-- Bits `lo` to `lo + w − 1` of the byte at `off`. -/
def argBits (c : Cmd) (off lo w : Nat) : Nat := arg c off 1 / 2 ^ lo % 2 ^ w

/-- One bit of the byte at `off`. -/
def argBit (c : Cmd) (off b : Nat) : Bool := argBits c off b 1 = 1

/-! ### Leases (R449, R471) -/

/-- The context that holds a leased resource. -/
def State.leaseOf (s : State) (res idx : Nat) : Option Nat :=
  (s.hy.leases.find? (fun l => l.res = res && l.idx = idx)).map Lease.ctx

/-- Does a context hold a resource? -/
def State.holds (s : State) (c res idx : Nat) : Bool := s.leaseOf res idx = some c

/-- Does a context hold the mode lease (R49)? -/
def State.isML (s : State) (c : Nat) : Bool :=
  !s.flag R.HI_MODE_LEASE F.HI_MODE_LEASE_NONE && s.get R.HI_MODE_LEASE F.HI_MODE_LEASE_HOLDER = c

/-- The quadrant of a path (R19). -/
def quadOf (p : Nat) : Nat := p / 16

/-- The tile of a path (R19). -/
def tileOf (p : Nat) : Nat := p / 8

/-- The quadrants a path mask touches. -/
def quadsOf (pmask : Nat) : List Nat := (List.range 4).filter (fun q => pmask / 2 ^ (16 * q) % 2 ^ 16 ≠ 0)

/-- Does a context hold every quadrant its path mask touches (R464)? -/
def State.ownsPaths (s : State) (c pmask : Nat) : Bool := (quadsOf pmask).all (fun q => s.holds c 1 q)

/-- The 1 MiB DRAM blocks a span touches. -/
def dramBlocks (a n : Nat) : List Nat :=
  if n = 0 then [] else (List.range ((a - dramBase + n - 1) / 2 ^ 20 - (a - dramBase) / 2 ^ 20 + 1)).map
    (fun i => (a - dramBase) / 2 ^ 20 + i)

/-- Does a span lie inside installed DRAM and inside a context's DRAM lease (R463)? -/
def State.ownsDram (s : State) (c a n : Nat) : Bool :=
  decide (dramBase ≤ a) && decide (a + n ≤ dramBase + s.dramSize) && (dramBlocks a n).all (fun b => s.holds c 7 b)

/-! ### Checks -/

/-- One check of a command: whether it fails, and the status and DETAIL it then gives. -/
structure Check where
  bad : Bool
  status : Nat
  detail : Nat
  deriving DecidableEq, Repr

/-- The place of a status in the order of R469. -/
def checkRank (st : Nat) : Nat :=
  if st = St.notOwner then 0 else if st = St.busy then 1 else if st = St.badState then 2 else if st = St.locked then 3
  else if st = St.badParam then 4 else if st = St.badTiming then 5 else if st = St.noSpace then 6 else 7

/-- The failing check a command returns: the first in the order of R469. -/
def firstFail (l : List Check) : Option Check :=
  (List.range 8).findSome? (fun r => l.find? (fun k => k.bad && checkRank k.status = r))

/-- DETAIL of BAD_STATE: the mode, a condition code of R626 and the index of the resource (R468). -/
def State.stateDetail (s : State) (cond idx : Nat) : Nat := s.get R.PM_MODE F.PM_MODE_CUR + 2 ^ 8 * cond + 2 ^ 16 * idx

/-- A BAD_STATE check with its condition. -/
def State.badState (s : State) (bad : Bool) (cond idx : Nat) : Check := ⟨bad, St.badState, s.stateDetail cond idx⟩

/-- A BAD_PARAM check: DETAIL is the byte offset of the parameter. -/
def badParam (bad : Bool) (off : Nat) : Check := ⟨bad, St.badParam, off⟩

/-- A NOT_OWNER check: resource code and index (R468). -/
def notOwner (bad : Bool) (res idx : Nat) : Check := ⟨bad, St.notOwner, res + 2 ^ 8 * idx⟩

/-- A BAD_TIMING check: DETAIL is the byte offset of the failing field. -/
def badTiming (bad : Bool) (off : Nat) : Check := ⟨bad, St.badTiming, off⟩

/-- A BUSY check: DETAIL is the block index. -/
def busyCheck (bad : Bool) (blk : Nat) : Check := ⟨bad, St.busy, blk⟩

/-- The checks of an ADDR parameter (R463): aligned to `al` bytes, the whole span in the issuer's DRAM lease. -/
def State.spanChecks (s : State) (c : Cmd) (off al n : Nat) : List Check :=
  [badParam (arg c off 8 % al != 0) off, notOwner (!s.ownsDram c.ctx (arg c off 8) n) 7 ((arg c off 8 - dramBase) / 2 ^ 20)]

/-! ### Completions -/

/-- The 32 bytes of a completion record (R438). -/
def cplBytes (seq ns : Nat) (k : Completion) : List Byte :=
  leBytes 2 seq ++ leBytes 2 k.tag ++ leBytes 2 k.opcode ++ leBytes 2 k.status ++ leBytes 4 k.detail ++ leBytes 4 ns ++
    leBytes 16 k.results.toNat

/-- Write a completion: into the context's completion ring while it is ATTACHED (R438), and counted as lost while it is
HELD or EXPIRED (R428). -/
def State.postCpl (s : State) (k : Completion) : State :=
  let t := { s with lastCpl := some k }
  if s.ctxState k.ctx = 2 || s.ctxState k.ctx = 3 then t.count (R.HI_CMP_LOST_CNT k.ctx)
  else if s.ringRuns (8 + k.ctx) then
    t.ringPush (8 + k.ctx) (cplBytes (s.get (R.HI_RING_PROD (8 + k.ctx)) F.HI_RING_PROD_IDX) s.ns k)
  else t

/-- Commands a context has in flight (R432). -/
def State.inflOf (s : State) (x : Nat) : Nat := s.get (R.HI_CTX_STAT x) F.HI_CTX_STAT_INFL

/-- A revoked in-flight quota falls as commands complete (R452). -/
def State.inflFall (s : State) (x : Nat) : State :=
  match s.hy.inflTo.find? (fun q => q.1 = x) with
  | none => s
  | some (_, n) =>
    let t := s.put (R.HI_CTX_STAT x) F.HI_CTX_STAT_QUOTA (max n (s.inflOf x))
    if s.inflOf x ≤ n then { t with hy := { t.hy with inflTo := t.hy.inflTo.filter (fun q => q.1 != x) } } else t

/-- Take a command out of the books of commands in flight (R439). -/
def State.retireCmd (s : State) (c : Cmd) : State :=
  if s.hy.inflight.any (fun e => e.1.ctx = c.ctx && e.1.tag = c.tag) then
    ((({ s with hy := { s.hy with inflight := s.hy.inflight.filter (fun e => !(e.1.ctx = c.ctx && e.1.tag = c.tag)) } }).put
      (R.HI_CTX_STAT c.ctx) F.HI_CTX_STAT_INFL (s.inflOf c.ctx - 1)).put
      R.HI_INFL_TOTAL F.HI_INFL_TOTAL_INFL (s.get R.HI_INFL_TOTAL F.HI_INFL_TOTAL_INFL - 1)).inflFall c.ctx
  else s

/-- A command completes: its record is written and it leaves the books. -/
def State.complete (s : State) (c : Cmd) (status detail results : Nat) : State :=
  (s.postCpl ⟨c.ctx, c.tag.toNat, c.opcode.toNat, status, detail, BitVec.ofNat 128 results⟩).retireCmd c

/-- A command that ends without a completion (R51): it only leaves the books. -/
def State.dropCmd (s : State) (c : Cmd) : State := s.retireCmd c

/-- Complete every started command whose wait satisfies `p`. -/
def State.finish (s : State) (p : Until → Bool) (status detail results : Nat) : State :=
  ((s.hy.jobs.filter (fun j => p j.wait)).foldl (fun t j => t.complete j.cmd status detail results)
    { s with hy := { s.hy with jobs := s.hy.jobs.filter (fun j => !p j.wait) } })

/-- Complete every started command whose wait satisfies `p`, with the result its data hold (value, then its width in bytes at
byte 16). -/
def State.finishOwn (s : State) (p : Until → Bool) (status : Nat) : State :=
  ((s.hy.jobs.filter (fun j => p j.wait)).foldl (fun t j => t.complete j.cmd status 0 (nth j.data 0 0))
    { s with hy := { s.hy with jobs := s.hy.jobs.filter (fun j => !p j.wait) } })

/-! ### Running a command -/

/-- How a command that passed its checks goes on: it completes, with a status, DETAIL and results, or it waits. -/
inductive CmdEnd where
  | done (s : State) (status detail results : Nat)
  | wait (s : State) (u : Until) (data : List Nat)
  /-- It ends and gets no completion (SYS_RESET). -/
  | silent (s : State)

/-- May a command start (R440)? An ORDERED command starts only after every earlier command of its context has completed,
and nothing of the context starts past an ORDERED one. -/
def State.canStart (s : State) (c : Cmd) : Bool :=
  let mine := s.hy.inflight.filter (fun e => e.1.ctx = c.ctx)
  let before := mine.takeWhile (fun e => e.1.tag != c.tag)
  (!c.ordered || before.isEmpty) && before.all (fun e => !e.1.ordered)

/-- A started command names one of these resources, so that the next one waits (R466). -/
def State.resBusy (s : State) (res : List (Nat × Nat)) : Bool := s.hy.jobs.any (fun j => j.res.any (fun r => res.contains r))

/-- Group of an opcode (R461). -/
def opGroup (c : Cmd) : Nat := c.opcode.toNat / 256

/-- In Update only groups 0x01, 0x02, 0x0D and 0x0F are executed (R465). -/
def updateRefuses (c : Cmd) : Bool := !([1, 2, 13, 15].contains (opGroup c))

/-- The failing check that a command returns, the Update rule of R465 among its checks. -/
def State.cmdFail (s : State) (c : Cmd) (checks : List Check) : Option Check :=
  firstFail (s.badState (s.mode = .update && updateRefuses c) 8 0 :: checks)

/-- Does a command that was consumed wait now: firmware not running, a transition under way that its row's modes depend
on (R465), an ORDERED neighbour (R440), or a command on the same resource (R466)? -/
def State.cmdWaits (s : State) (c : Cmd) (needsMode : Bool) (res : List (Nat × Nat)) : Bool :=
  !s.fwUp || (needsMode && s.busy) || !s.canStart c || s.resBusy res

/-- Run a command: nothing while it has to wait; the first failing check (R469), which changes nothing else (R470); else
its action. -/
def runCmd (s : State) (c : Cmd) (needsMode : Bool) (res : List (Nat × Nat)) (checks : List Check) (act : CmdEnd) :
    Host.Outcome State Fault Refusal :=
  if s.cmdWaits c needsMode res then .next s
  else match s.cmdFail c checks with
    | some k => .next (s.complete c k.status k.detail 0)
    | none => match act with
      | .done t st d r => .next (t.complete c st d r)
      | .silent t => .next (t.dropCmd c)
      | .wait t u d => .next { t with hy := { t.hy with jobs := t.hy.jobs ++ [⟨c, u, res, d⟩] } }

/-- The mode lease is needed (R464, ML). -/
def State.needML (s : State) (c : Cmd) : Check := notOwner (!s.isML c.ctx) 0 0

/-- Results: value `v` of any width at completion byte `off` (R462). -/
def res (off v : Nat) : Nat := v * 2 ^ (8 * (off - 16))

/-- Results: value `v` of `n` bytes at completion byte `off`, truncated to its field. -/
def resN (off n v : Nat) : Nat := v % 2 ^ (8 * n) * 2 ^ (8 * (off - 16))

end Sys2Proof.Machine
end

