-- ==== Sys2Proof/Machine/Symbols.lean ====
section
/-! DEFINITION. Symbol stamps and ticks (R56 to R61), the forecast ring (R62, R63), carrier descriptors (R184, R627). -/

namespace Sys2Proof.Machine

/-! ### Stamps (R57, R60) -/

/-- DFE cycles in a frame and in the 1,024 frames after which stamps repeat. -/
def frameCycles : Nat := 4915200
def hyper : Nat := 1024 * frameCycles

/-- Fields of a stamp. -/
def stSfn (t : Nat) : Nat := t % 1024
def stSubf (t : Nat) : Nat := t / 2 ^ 10 % 16
def stSlot (t : Nat) : Nat := t / 2 ^ 14 % 8
def stSym (t : Nat) : Nat := t / 2 ^ 17 % 16
def stNum (t : Nat) : Nat := t / 2 ^ 21 % 4

/-- Every field of a stamp is in range (R60). -/
def stValid (t : Nat) : Bool := t < 2 ^ 23 && stSubf t < 10 && stSlot t < 2 ^ stNum t && stSym t < 14

/-- A normal and a long symbol of a numerology (R57). -/
def normalSym (num : Nat) : Nat := 35072 / 2 ^ num
def longSym (num : Nat) : Nat := normalSym num + 256
/-- The normal cyclic prefix in DFE cycles (R57). -/
def normalCp (num : Nat) : Nat := 2304 / 2 ^ num
/-- Symbols in a half-subframe. -/
def halfSyms (num : Nat) : Nat := 7 * 2 ^ num

/-- The instant of symbol `i` of numerology `num` counted from frame 0, in DFE cycles: the first symbol of every
half-subframe is long (R57). -/
def symStart (num i : Nat) : Nat :=
  let k := i % halfSyms num
  i / halfSyms num * 245760 + (if k = 0 then 0 else longSym num + (k - 1) * normalSym num)

/-- Symbols of a frame. -/
def frameSyms (num : Nat) : Nat := 140 * 2 ^ num

/-- The number of a stamp's symbol, counted from frame 0. -/
def symIndex (t : Nat) : Nat :=
  stSfn t * frameSyms (stNum t) + stSubf t * (14 * 2 ^ stNum t) + stSlot t * 14 + stSym t

/-- The stamp of symbol `i` (modulo 1,024 frames). -/
def stampOf (num i : Nat) : Nat :=
  let sfn := i / frameSyms num % 1024
  let r := i % frameSyms num
  let subf := r / (14 * 2 ^ num)
  let q := r % (14 * 2 ^ num)
  sfn + subf * 2 ^ 10 + q / 14 * 2 ^ 14 + q % 14 * 2 ^ 17 + num * 2 ^ 21

/-- The downlink tick of a stamp, in DFE cycles of the 1,024-frame count. -/
def stStart (t : Nat) : Nat := symStart (stNum t) (symIndex t)

/-- The stamp `n` symbols later or earlier, modulo 1,024 frames. -/
def stAdd (t : Nat) (n : Int) : Nat :=
  let m : Int := (1024 * frameSyms (stNum t) : Nat)
  stampOf (stNum t) (((symIndex t : Int) + n) % m).toNat

/-- The length of a stamp's symbol. -/
def stLen (t : Nat) : Nat := if symIndex t % halfSyms (stNum t) = 0 then longSym (stNum t) else normalSym (stNum t)

/-- Distance from `b` to `a` modulo 1,024 frames: a target is in the future when this is below half of them (R60). -/
def ahead (a b : Nat) : Nat := (a + hyper - b % hyper) % hyper
def inFuture (a now : Nat) : Bool := ahead a now < hyper / 2

/-- The symbol of numerology `num` that runs at cycle `t` of the count, by its number. -/
def symAt (num t : Nat) : Nat :=
  let half := t / 245760
  let r := t % 245760
  half * halfSyms num + (if r < longSym num then 0 else 1 + (r - longSym num) / normalSym num)

/-- The frame counter in DFE cycles of the 1,024-frame count (R58). -/
def State.tlNow (s : State) : Nat := s.tl.sfn * frameCycles + s.tl.cyc

/-- The signed distance in DFE cycles from now to an instant of the 1,024-frame count (R60). -/
def State.rel (s : State) (t : Nat) : Int :=
  if inFuture t s.tlNow then (ahead t s.tlNow : Int) else (ahead t s.tlNow : Int) - (hyper : Int)

/-- An instant of the 1,024-frame count, `d` cycles from another. -/
def shiftBy (t : Nat) (d : Int) : Nat := (((t : Int) + d) % (hyper : Int)).toNat

/-- An instant of the count has come. -/
def State.come (s : State) (t : Nat) : Bool := decide (s.rel t ≤ 0)

/-- The same instant in the time of `State.now`. -/
def State.atNow (s : State) (t : Nat) : Nat := ((s.now : Int) + s.rel t).toNat

/-- The tick generator of a numerology runs and its ticks reach the action bus (R91). -/
def State.ticks (s : State) (num : Nat) : Bool := s.flag R.TL_CTRL F.TL_CTRL_RUN && (s.get R.TL_CTRL F.TL_CTRL_NUM_EN).testBit num

/-- TL_NOW shows the current stamp of each numerology (R89). -/
def State.showNow (s : State) : State :=
  (List.range 4).foldl (fun (t : State) n => t.put (R.TL_NOW n) F.TL_NOW_STAMP (stampOf n (symAt n s.tlNow))) s

/-! ### The ring (R62, R63) -/

/-- Address of word `w` of ring slot `i`. -/
def ringWord (i w : Nat) : Nat := 0x40080000 + 32 * (i % 4096) + 4 * w

/-- Fields of the entry in a slot. -/
def State.eTgt (s : State) (i : Nat) : Nat := (s.rd (ringWord i 0)).toNat % 2 ^ 23
def State.eCtx (s : State) (i : Nat) : Nat := (s.rd (ringWord i 0)).toNat / 2 ^ 23 % 8
def State.eValid (s : State) (i : Nat) : Bool := (s.rd (ringWord i 0)).toNat.testBit 31
def State.eAct (s : State) (i : Nat) : Nat := (s.rd (ringWord i 1)).toNat % 2 ^ 8
def State.eCar (s : State) (i : Nat) : Nat := (s.rd (ringWord i 1)).toNat / 2 ^ 8 % 16
def State.eQmask (s : State) (i : Nat) : Nat := (s.rd (ringWord i 1)).toNat / 2 ^ 12 % 16
def State.eTmask (s : State) (i : Nat) : Nat := (s.rd (ringWord i 1)).toNat / 2 ^ 16 % 256
def State.eNsym (s : State) (i : Nat) : Nat := (s.rd (ringWord i 1)).toNat / 2 ^ 24 % 16
def State.eKind (s : State) (i : Nat) : Nat := (s.rd (ringWord i 1)).toNat / 2 ^ 28
def State.ePmask (s : State) (i : Nat) : Nat := (s.rd (ringWord i 2)).toNat + 2 ^ 32 * (s.rd (ringWord i 3)).toNat
def State.eParam (s : State) (i : Nat) : Nat := (s.rd (ringWord i 4)).toNat + 2 ^ 32 * (s.rd (ringWord i 5)).toNat
def State.eJob (s : State) (i : Nat) : Nat := (s.rd (ringWord i 6)).toNat % 2 ^ 16
def State.eSeq (s : State) (i : Nat) : Nat := (s.rd (ringWord i 7)).toNat % 2 ^ 16
def State.eStat (s : State) (i : Nat) : Nat := (s.rd (ringWord i 7)).toNat / 2 ^ 16 % 256

/-- `STAT` and `DEFER` of the entry in a slot (R63, R67). -/
def fStat : Fld := ⟨16, 8⟩
def fDefer : Fld := ⟨24, 8⟩
def State.setStat (s : State) (i v : Nat) : State := s.put (ringWord i 7) fStat v

/-- Slots whose entries are live: accepted and not retired (R68). -/
def State.live (s : State) : List Nat := s.tl.pend ++ s.tl.issued

/-- An entry as eight words (R63), from its fields. -/
def mkEntry (tgt ctx act car qmask tmask nsym kind pmask param job seq : Nat) : List Word :=
  let w (n : Nat) : Word := BitVec.ofNat 32 n
  [w (tgt % 2 ^ 23 + ctx % 8 * 2 ^ 23), w (act % 256 + car % 16 * 2 ^ 8 + qmask % 16 * 2 ^ 12 + tmask % 256 * 2 ^ 16 + nsym % 16 * 2 ^ 24 + kind % 16 * 2 ^ 28),
   w pmask, w (pmask / 2 ^ 32), w param, w (param / 2 ^ 32), w (job % 2 ^ 16), w (seq % 2 ^ 16)]

-- The action codes (R64).
namespace Act
def dlSym : Nat := 1
def ulSym : Nat := 2
def guard_ : Nat := 3
def chan : Nat := 4
def auxTune : Nat := 5
def gain : Nat := 6
def dpdSwap : Nat := 7
def cfirSwap : Nat := 8
def wpage : Nat := 9
def srsCap : Nat := 10
def obsCap : Nat := 11
def calBorrow : Nat := 12
def arm : Nat := 13
def disarm : Nat := 14
def dfeSync : Nat := 15
def mark : Nat := 16
end Act

/-- The carrier entries: those of the actions DL_SYM, UL_SYM, CFIR_SWAP, WPAGE, SRS_CAP and DFE_SYNC (R64). -/
def isCarrierAct (a : Nat) : Bool := [1, 2, 8, 9, 10, 15].contains a

/-! ### Carriers (R184, R627) -/

/-- Fields of a carrier's descriptor. -/
def State.carBw (s : State) (c : Nat) : Nat := s.get (R.DFE_CAR_CFG c) F.DFE_CAR_CFG_BW
def State.carNum (s : State) (c : Nat) : Nat := s.get (R.DFE_CAR_CFG c) F.DFE_CAR_CFG_NUM
def State.carPathMode (s : State) (c : Nat) : Bool := s.flag (R.DFE_CAR_CFG c) F.DFE_CAR_CFG_PATHM
def State.carRun (s : State) (c : Nat) : Bool := s.flag (R.DFE_CAR_CFG c) F.DFE_CAR_CFG_RUN
def State.carCfg (s : State) (c : Nat) : Bool := s.flag (R.DFE_CAR_CFG c) F.DFE_CAR_CFG_CFG
def State.carPmask (s : State) (c : Nat) : Nat := s.get64 (R.DFE_CAR_PMASK c)
def State.carTxHz (s : State) (c : Nat) : Int := (s.rd (R.DFE_CAR_NCO_TX c)).toInt
def State.carRxHz (s : State) (c : Nat) : Int := (s.rd (R.DFE_CAR_NCO_RX c)).toInt
def State.ulAdv (s : State) (c : Nat) : Nat := s.get (R.TL_CAR_ULADV c) F.TL_CAR_ULADV_ADV

/-- A carrier has a TX part when it carries downlink layers (R230), or streams in path mode with any (DEDUCED, log entry
14). -/
def State.carHasTx (s : State) (c : Nat) : Bool := s.get (R.BF_CAR_STAT c) F.BF_CAR_STAT_LDL != 0 || s.carPathMode c

/-- The context that holds a carrier (R449; resource code of R471). -/
def State.carOwner (s : State) (c : Nat) : Option Nat := s.leaseOf 2 c

/-- Paths of a tile, of a quadrant. -/
def tilePaths (t : Nat) : List Nat := (List.range 8).map (· + 8 * t)
def quadPaths (q : Nat) : List Nat := (List.range 16).map (· + 16 * q)

/-- Is a path available (R97)? -/
def State.avail (s : State) (p : Nat) : Bool := (s.get64 R.RF_PATH_AVAIL).testBit p

/-- Available paths of a mask, ascending: bits of unavailable paths are ignored (R97). -/
def State.paths (s : State) (pmask : Nat) : List Nat := (bitsOf pmask 64).filter s.avail

end Sys2Proof.Machine
end

