-- ==== Sys2Proof/Machine/Beam.lean ====
section
/-! DEFINITION. The beamformer's regions, pages and pool slots (R237 to R250), writes to the weight memory (R238, R242),
revocation (R259) and the book of vectors (R260). -/

namespace Sys2Proof.Machine

/-! ### Regions (R239, R265, R266) -/

def State.rgBase (s : State) (r : Nat) : Nat := s.get (R.BF_REGION_BASE r) F.BF_REGION_BASE_BASE
def State.rgLen (s : State) (r : Nat) : Nat := s.get (R.BF_REGION_BASE r) F.BF_REGION_BASE_LEN
def State.rgOwner (s : State) (r : Nat) : Nat := s.get (R.BF_REGION_CFG r) F.BF_REGION_CFG_OWNER
def State.rgEn (s : State) (r : Nat) : Bool := s.flag (R.BF_REGION_CFG r) F.BF_REGION_CFG_EN
/-- 0 SINGLE, 1 MAP, 2 POOL. -/
def State.rgType (s : State) (r : Nat) : Nat := s.get (R.BF_REGION_CFG r) F.BF_REGION_CFG_TYPE
def State.rgPaged (s : State) (r : Nat) : Bool := s.flag (R.BF_REGION_CFG r) F.BF_REGION_CFG_PAGED
def State.rgCar (s : State) (r : Nat) : Nat := s.get (R.BF_REGION_CFG r) F.BF_REGION_CFG_CAR
def State.rgAct (s : State) (r : Nat) : Nat := s.get (R.BF_REGION_STAT r) F.BF_REGION_STAT_ACT
def State.rgRevoking (s : State) (r : Nat) : Bool := s.flag (R.BF_REGION_STAT r) F.BF_REGION_STAT_REVOKING

/-- A region is granted: it has vectors and is not being revoked. -/
def State.rgGranted (s : State) (r : Nat) : Bool := s.rgLen r != 0 && !s.rgRevoking r

-- Page states (R241).
namespace Pg
def free : Nat := 0
def ready : Nat := 1
def active : Nat := 2
def draining : Nat := 3
end Pg

/-- State of page `k` of a region as BF_REGION_STAT reports it. -/
def State.page (s : State) (r k : Nat) : Nat :=
  s.get (R.BF_REGION_STAT r) (if k = 0 then F.BF_REGION_STAT_P0 else F.BF_REGION_STAT_P1)
def State.setPage (s : State) (r k v : Nat) : State :=
  s.put (R.BF_REGION_STAT r) (if k = 0 then F.BF_REGION_STAT_P0 else F.BF_REGION_STAT_P1) v

/-- The carrier is beamformed: transforms are set and it is not in path mode (R230, R264). -/
def State.carBeam (s : State) (c : Nat) : Bool := s.get (R.BF_CAR_STAT c) F.BF_CAR_STAT_LOGN != 0

/-- A context has a running beamformed carrier (R241). -/
def State.runsBeam (s : State) (x : Nat) : Bool :=
  (List.range 16).any (fun c => s.carRun c && s.carBeam c && s.carOwner c = some x)

/-- BF_STATUS, and the single page of every unpaged region, shown afresh (R241, R629). -/
def State.bfShow (s : State) : State :=
  let t := (List.range 64).foldl (fun (t : State) r =>
    if s.rgLen r != 0 && !s.rgPaged r && s.rgType r != 2 then
      t.setPage r 0 (if s.rgEn r && s.runsBeam (s.rgOwner r) then Pg.active else Pg.free) else t) s
  let n := ((List.range 64).filter s.rgRevoking).length
  ((t.setFlag R.BF_STATUS F.BF_STATUS_REVOKING (n != 0)).put R.BF_STATUS F.BF_STATUS_NREV n).setFlag R.BF_STATUS F.BF_STATUS_SCRUB
    (!(s.bf.scrub.isEmpty && s.bf.shrink.isEmpty))

/-- PRB groups of a MAP region (R239). -/
def State.rgGroups (s : State) (r : Nat) : Nat :=
  let p := 2 ^ s.get (R.BF_REGION_CFG r) F.BF_REGION_CFG_PGLOG
  (s.get (R.BF_CAR_CFG (s.rgCar r)) F.BF_CAR_CFG_NRB + p - 1) / p

/-- Beams of a region: its valid beam IDs start at `BASE` (R240). -/
def State.rgBeams (s : State) (r : Nat) : Nat :=
  let n := if s.rgPaged r then s.rgLen r / 2 else s.rgLen r
  if s.rgType r = 1 then (if s.rgGroups r = 0 then 0 else n / s.rgGroups r) else n

/-- The page a symbol reads: the new page from the switch onward, the DRAINING page before it (R241, R244). -/
def State.pageFor (s : State) (r sym : Nat) : Nat :=
  match s.bf.switchAt.find? (fun x => x.1 = r) with
  | some (_, t, _) => if s.page r (1 - s.rgAct r) = Pg.draining && !inFuture sym t then 1 - s.rgAct r else s.rgAct r
  | none => s.rgAct r

/-- What a section resolves to (R240): the identity of beam 0, or a vector. -/
inductive Weights where
  | identity
  | vector (v : Nat)
  deriving DecidableEq, Repr

/-- The POOL region of a carrier (R239): at most one. -/
def State.poolOf (s : State) (c : Nat) : Option Nat :=
  (List.range 64).find? (fun r => s.rgEn r && s.rgGranted r && s.rgType r = 2 && s.rgCar r = c)

/-- The slot a beam ID is bound to in a region (R249). -/
def State.bound (s : State) (r b : Nat) : Option Nat := (s.bf.binds.find? (fun x => x.1 = r && x.2.1 = b)).map (fun x => x.2.2)

/-- Resolve beam ID `b` of a section of carrier `c` owned by context `x`, for a PRB of the symbol that starts at `sym`
(R240). -/
def State.resolve (s : State) (c x b prb sym : Nat) : Option Weights :=
  if b = 0 then some .identity
  else
    let pool := match s.poolOf c with
      | some r => (s.bound r b).map (fun k => Weights.vector (s.rgBase r + k))
      | none => none
    match pool with
    | some w => some w
    | none =>
      match (List.range 64).find? (fun r => s.rgEn r && s.rgGranted r && s.rgType r != 2 && s.rgOwner r = x &&
        decide (s.rgBase r ≤ b) && decide (b < s.rgBase r + s.rgBeams r)) with
      | none => none
      | some r =>
        let a := if s.rgPaged r then s.pageFor r sym * (s.rgLen r / 2) else 0
        if s.rgType r = 0 then some (.vector (b + a))
        else some (.vector (s.rgBase r + a + (b - s.rgBase r) * s.rgGroups r + prb / 2 ^ s.get (R.BF_REGION_CFG r) F.BF_REGION_CFG_PGLOG))

/-- Raise an event at most once per number and symbol (R192, R202, R234, R240, R250): the last eight symbols it was raised for are kept, more
than the pipeline holds at once. -/
def State.raiseOnce (s : State) (e n sym : Nat) (owner : Option Nat) (items : List Nat) : State :=
  if s.bf.once.contains (e, n, sym) then s
  else
    let same (x : Nat × Nat × Nat) : Bool := x.1 = e && x.2.1 = n
    ({ s with bf := { s.bf with once := (e, n, sym) :: (s.bf.once.filter same).take 7 ++ s.bf.once.filter (fun x => !same x) } }).raiseTo e owner items

/-- A section is dropped (R237, R240). -/
def State.dropSection (s : State) (c x sym : Nat) : State :=
  (s.count (R.BF_LEASE_DROP_CNT x)).raiseOnce Ev.BF_LEASE_DROP c sym (some x) [c]

/-! ### Pages (R241 to R245) -/

/-- Publish a region's inactive page: FREE becomes READY; else nothing (R243). -/
def State.publish (s : State) (r : Nat) : State :=
  if s.rgPaged r && s.rgEn r && !s.rgRevoking r && s.page r (1 - s.rgAct r) = Pg.free then s.setPage r (1 - s.rgAct r) Pg.ready else s

/-- A write to BF_REGION_PUB (R243). -/
def execBfRegionPub (region : Fin 64) (s : State) : Host.Outcome State Fault Refusal := .next (s.publish region)

/-- A WPAGE switches a region for the symbol that starts at `sym` (R244); its other page drains until the cycle `free` (R245). -/
def State.switchRegion (s : State) (r sym free : Nat) : State :=
  let a := s.rgAct r
  if s.rgPaged r && s.rgEn r && s.rgType r != 2 && s.page r (1 - a) = Pg.ready then
    let t := ((s.setPage r (1 - a) Pg.active).setPage r a Pg.draining).put (R.BF_REGION_STAT r) F.BF_REGION_STAT_ACT (1 - a)
    let t := t.incWrap (R.BF_REGION_STAT r) F.BF_REGION_STAT_CNT
    { t with bf := { t.bf with switchAt := (r, sym, free) :: t.bf.switchAt.filter (fun x => x.1 != r) } }
  else (s.count R.BF_WPAGE_NOTREADY_CNT).raiseTo Ev.BF_WPAGE_NOTREADY (some (s.rgOwner r)) [r]

/-- At T′₍N+2₎ the DRAINING page becomes FREE (R245). -/
def execDrainingPageFree (region : Fin 64) (s : State) : Host.Outcome State Fault Refusal :=
  let k := 1 - s.rgAct region
  let due := match s.bf.switchAt.find? (fun x => x.1 = region.val) with
    | some (_, _, n) => decide (n ≤ s.now)
    | none => true
  when_ (s.page region k = Pg.draining && due) (s.setPage region k Pg.free) s

/-! ### Writes to the weight memory (R238, R242) -/

/-- The region a vector lies in. -/
def State.regionOf (s : State) (v : Nat) : Option Nat :=
  (List.range 64).find? (fun r => decide (s.rgBase r ≤ v) && decide (v < s.rgBase r + s.rgLen r))

/-- May a vector be written: its page is FREE and no revocation runs; an enabled paged region has two pages, the upper half
being page 1 (R239, R241, R259). A region that is not enabled has both pages FREE. -/
def State.vecFree (s : State) (r v : Nat) : Bool :=
  !s.rgRevoking r &&
    (s.rgType r = 2 || s.page r (if s.rgPaged r && decide (s.rgBase r + s.rgLen r / 2 ≤ v) then 1 else 0) = Pg.free)

/-- May this writer write this vector (R30, R242)? `x` is the context whose lease the writer acts under, none for firmware,
which may write every vector of the free page of a region. -/
def State.mayWriteVec (s : State) (x : Option Nat) (v : Nat) : Bool :=
  match s.regionOf v with
  | none => false
  | some r => s.vecFree r v && (match x with
      | some c => s.rgOwner r = c
      | none => true)

/-- A refused write to the weight memory is counted for the writer's context and reported once per region and symbol of the
region's carrier (R242); one outside the writer's leases is a decode error too (R29, R30). Which symbol counts where there is no
region, or no single carrier, is the model's choice (DESIGN CHOICE, log entry 113). -/
def State.blockWrite (s : State) (x : Option Nat) (v : Nat) : State :=
  let t := match x with
    | some c => s.count (R.BF_WRITE_BLOCK_CNT c)
    | none => s
  let t := if x.any (fun c => !(s.regionOf v).any (fun r => s.rgOwner r = c)) then t.decodeErr else t
  match s.regionOf v with
  | some r => t.raiseOnce Ev.BF_WRITE_BLOCKED r (symAt (s.carNum (s.rgCar r)) s.tlNow) x [r]
  | none => t.raiseOnce Ev.BF_WRITE_BLOCKED 64 (symAt 1 s.tlNow) x []

/-- Address of a vector. -/
def vecAddr (v : Nat) : Nat := 0x20000000 + 256 * v

/-- A write of a wrong size or alignment is only counted (R238). The alignment is taken as 4 bytes, the size as a multiple of 4
(DEDUCED, log entry 112). -/
def weightShape (a n : Nat) : Bool := decide (4 ≤ n) && decide (n ≤ 256) && n % 4 = 0 && a % 4 = 0

/-- A write to the weight memory at byte `a` of it (R238, R242): performed, or refused and counted. -/
def State.weightWrite (s : State) (x : Option Nat) (a : Nat) (data : List Byte) : State :=
  if !weightShape a data.length then (match x with
    | some c => s.count (R.BF_WRITE_BLOCK_CNT c)
    | none => s)
  else
    let vs := (List.range ((a + data.length - 1) / 256 - a / 256 + 1)).map (· + a / 256)
    match vs.find? (fun v => !s.mayWriteVec x v) with
    | some v => s.blockWrite x v
    | none => s.setBytes (0x20000000 + a) data

/-- WEIGHT_WRITE: a write reaches the weight memory (R242). `ctx` is the context the writer acts for, none for firmware. -/
def execWeightWrite (ctx : Option (Fin 8)) (addr : BitVec 22) (data : List Byte) (s : State) : Host.Outcome State Fault Refusal :=
  .next (s.weightWrite (ctx.map Fin.val) addr.toNat data)

/-! ### Pool slots (R249, R250) -/

/-- A slot is free: no beam ID is bound to it and no symbol before its stage reads it (R250). -/
def State.slotFree (s : State) (r k : Nat) : Bool :=
  !(s.bf.binds.any (fun x => x.1 = r && x.2.2 = k)) && !(s.bf.reading.any (fun x => x.1 = r && x.2.1 = k))

/-- CNT of a POOL region counts the slots that are not free (R266). -/
def State.poolShow (s : State) (r : Nat) : State :=
  s.put (R.BF_REGION_STAT r) F.BF_REGION_STAT_CNT ((List.range (s.rgLen r)).filter (fun k => !s.slotFree r k)).length

/-- The next free slot in ring order (R250). -/
def State.takeSlot (s : State) (r : Nat) : Option Nat :=
  ((List.range (s.rgLen r)).map (fun i => (nth s.bf.nextSlot r 0 + i) % s.rgLen r)).find? (s.slotFree r)

/-- Write weights into the next free slot and bind the beam ID to it (R249): 64 cells, zero outside the carrier's mask.
None when no slot is free. -/
def State.poolBind (s : State) (r beam : Nat) (cells : List Byte) : Option State :=
  match s.takeSlot r with
  | none => none
  | some k =>
    let t := s.setBytes (vecAddr (s.rgBase r + k)) cells
    some (({ t with bf := { t.bf with
      binds := (r, beam, k) :: t.bf.binds.filter (fun x => !(x.1 = r && x.2.1 = beam))
      nextSlot := t.bf.nextSlot.set r ((k + 1) % t.rgLen r) } }).poolShow r)

/-- A stage starts to read a slot for a symbol, and has passed (R250). -/
def State.slotRead (s : State) (r k sym : Nat) : State :=
  if s.bf.reading.contains (r, k, sym) then s else { s with bf := { s.bf with reading := (r, k, sym) :: s.bf.reading } }
def State.slotPassed (s : State) (sym : Nat) : State :=
  { s with bf := { s.bf with reading := s.bf.reading.filter (fun x => x.2.2 != sym) } }

/-! ### Revocation and the free list (R257 to R260) -/

/-- A region enters REVOKING (R259): EN reads 0, its pool bindings and its reciprocity descriptors end. -/
def State.revokeRegion (s : State) (r : Nat) : State :=
  let t := (s.setFlag (R.BF_REGION_CFG r) F.BF_REGION_CFG_EN false).setFlag (R.BF_REGION_STAT r) F.BF_REGION_STAT_REVOKING true
  ({ t with bf := { t.bf with binds := t.bf.binds.filter (fun x => x.1 != r), recip := t.bf.recip.filter (fun d => d.region != r) } }).bfShow

/-- A stage of the owner's carriers reads weights now: stage 1 of a downlink symbol or stage 4 of an uplink symbol (R75). -/
def State.weightsRead (s : State) (x : Nat) : Bool :=
  s.tl.syms.any (fun (y : Sym) => s.carBeam y.car && y.ctx = x && y.stage = (if y.ul then 5 else 2))

/-- The last stage that reads a revoked region ends and its scrub starts (R259). -/
def execRegionScrubStart (region : Fin 64) (s : State) : Host.Outcome State Fault Refusal :=
  when_ (s.rgRevoking region && !s.bf.scrub.contains region.val && !s.weightsRead (s.rgOwner region))
    ({ s with bf := { s.bf with scrub := region.val :: s.bf.scrub, reading := s.bf.reading.filter (fun x => x.1 != region.val) } }).bfShow s

/-- Vectors return to the free list (R260). -/
def State.freeVec (s : State) (n : Nat) : State := s.put R.BF_FREE_VEC F.BF_FREE_VEC_FREE (s.get R.BF_FREE_VEC F.BF_FREE_VEC_FREE + n)

/-- A resource that a revocation or a shrink waited for has become free; a command that waits for nothing more completes
(R452). -/
def stripWait (res : Nat × Nat) (j : Job) : Job :=
  match j.wait with
  | .revoked l => { j with wait := .revoked (l.filter (fun x => x != res)) }
  | _ => j

def State.revokeDone (s : State) (res : Nat × Nat) : State :=
  let t := { s with hy := { s.hy with jobs := s.hy.jobs.map (stripWait res) } }
  t.finish (fun u => u = .revoked []) St.ok 0 0

/-- A revoked region's scrub ends (R259): vectors zero, back on the free list, BF_REGION_FREED to the former owner. -/
def execRegionScrubDone (region : Fin 64) (s : State) : Host.Outcome State Fault Refusal :=
  if !s.bf.scrub.contains region.val then .next s
  else
    let x := s.rgOwner region
    let n := s.rgLen region
    let t := (s.scrubMem (vecAddr (s.rgBase region)) (256 * n)).freeVec n
    let t := ((t.wr (R.BF_REGION_BASE region) 0).wr (R.BF_REGION_CFG region) 0).wr (R.BF_REGION_STAT region) 0
    let t := ({ t with bf := { t.bf with scrub := t.bf.scrub.filter (· != region.val), switchAt := t.bf.switchAt.filter (fun y => y.1 != region.val) } }).bfShow
    .next ((t.raiseTo Ev.BF_REGION_FREED (some x) [region]).revokeDone (3, region.val))

/-- The vectors given up by the shrink of a region are zero and return to the free list (R260). -/
def execShrinkScrubDone (region : Fin 64) (s : State) : Host.Outcome State Fault Refusal :=
  match s.bf.shrink.find? (fun x => x.2.2.1 = region.val) with
  | none => .next s
  | some e =>
    let t := ({ (s.scrubMem (vecAddr e.1) (256 * e.2.1)) with bf := { s.bf with shrink := s.bf.shrink.erase e } }).freeVec e.2.1
    .next (t.bfShow.revokeDone (3, region.val))

/-! ### Disabling (R241) -/

/-- Regions that were disabled take both pages to FREE and `ACT` to 0 once no stage reads them. -/
def State.pagesLeave (s : State) : State :=
  let gone := s.bf.leaving.filter (fun r => !s.weightsRead (s.rgOwner r))
  let t := gone.foldl (fun (t : State) r => ((t.setPage r 0 Pg.free).setPage r 1 Pg.free).put (R.BF_REGION_STAT r) F.BF_REGION_STAT_ACT 0) s
  { t with bf := { t.bf with leaving := t.bf.leaving.filter (fun r => !gone.contains r) } }

end Sys2Proof.Machine
end

