-- ==== Sys2Proof/Machine/Jobs.lean ====
section
/-! DEFINITION. The Nalvilos cluster outside its instructions: core states (R305), jobs and the tracker (R269 to R274),
triggers and runs of leased cores (R297, R298), pausing (R296), revocation (R300). -/

namespace Sys2Proof.Machine

/-! ### Cores (R268, R305) -/

-- Core states.
namespace Co
def off : Nat := 0
def idle : Nat := 1
def running : Nat := 2
def paused : Nat := 3
def fault : Nat := 4
def scrubbing : Nat := 5
def halted : Nat := 6
end Co

def State.core (s : State) (c : Nat) : NvCore := nth s.nvc.cores c {}
def State.setCore (s : State) (c : Nat) (k : NvCore) : State := { s with nvc := { s.nvc with cores := s.nvc.cores.set c k } }
def State.coreSt (s : State) (c : Nat) : Nat := s.get (R.NVC_CORE_STAT c) F.NVC_CORE_STAT_STATE
def State.setCoreSt (s : State) (c v : Nat) : State := s.put (R.NVC_CORE_STAT c) F.NVC_CORE_STAT_STATE v
def State.coreGroup (s : State) (c : Nat) : Nat := s.get (R.NVC_CORE_STAT c) F.NVC_CORE_STAT_GROUP
def State.coreOwner (s : State) (c : Nat) : Nat := s.get (R.NVC_CORE_STAT c) F.NVC_CORE_STAT_OWNER

/-- The core is leased (R268). -/
def State.coreLeased (s : State) (c : Nat) : Bool := s.coreGroup c = 2

/-- The context a core acts for: the holder of a leased core (R287, R303). -/
def State.coreCtx (s : State) (c : Nat) : Option Nat := if s.coreLeased c then some (s.coreOwner c) else none

/-- An event about a core goes to its owner only, or to firmware (R302, R303). -/
def State.raiseCore (s : State) (e c : Nat) (items : List Nat) : State :=
  if s.coreGroup c = 2 || s.coreGroup c = 3 then s.raiseTo e (some (s.coreOwner c)) items else s.raiseAs e .firmware 1 items

/-- NVC_STATUS: the leased and the paused cores (R304). -/
def State.nvcShow (s : State) : State :=
  (s.put R.NVC_STATUS F.NVC_STATUS_LEASED (maskOf ((List.range 4).filter (fun i => s.coreLeased (12 + i))))).put R.NVC_STATUS
    F.NVC_STATUS_PAUSED (maskOf ((List.range 16).filter (fun c => s.coreSt c = Co.paused)))

/-- Addresses of a core's memories (R28): PM, X and Y. -/
def nvPm (c : Nat) : Nat := 0x30000000 + 0x80000 * c
def nvX (c : Nat) : Nat := nvPm c + 0x20000
def nvY (c : Nat) : Nat := nvPm c + 0x40000

/-- Core performance counters (R294), in the order of R308. -/
def nvCounter (c k : Nat) : Nat := R.NVC_PERF_CYCLES c + 8 * k

/-- Add to a core's counter; a wrap sets its bit and raises NVC_CNT_WRAP (R295). -/
def State.nvCount (s : State) (c k n : Nat) : State :=
  s.count48 (nvCounter c k) n (fun t =>
    (t.stick (R.NVC_PERF_OVF c) (BitVec.ofNat 32 (2 ^ k))).raiseCore Ev.NVC_CNT_WRAP c [c, k])

/-- A core counter wraps as `n` further events are counted (R295). -/
def execNvcCntWrap (core : Fin 16) (which : Fin 6) (n : BitVec 32) (s : State) : Host.Outcome State Fault Refusal :=
  when_ (2 ^ 48 ≤ s.get64 (nvCounter core which) % 2 ^ 48 + n.toNat) (s.nvCount core which n.toNat) s

/-- A core is reloaded: IDLE, no fault, and its counters reset (R274, R304). -/
def State.reloadCore (s : State) (c : Nat) : State :=
  let t := ((s.setCoreSt c Co.idle).put (R.NVC_CORE_STAT c) F.NVC_CORE_STAT_FCAUSE 0).put (R.NVC_CORE_STAT c) F.NVC_CORE_STAT_PC 0
  let t := (List.range 6).foldl (fun (t : State) k => t.put64 (nvCounter c k) 0) t
  t.setCore c { t.core c with job := 0, wait := .none, loops := [], calls := [] }

/-! ### Job numbers (R269) -/

/-- Job numbers that pending forecast entries name, staged ones among them. -/
def State.namedJobs (s : State) : List Nat :=
  (s.tl.pend.map s.eJob ++ s.hy.staged.map (fun (e : Staged) => (nth e.words 6 0).toNat % 2 ^ 16)).filter (· != 0)

/-- The next job number: ascending, 0 skipped, no residue modulo 256 that a pending entry names; none when every residue is
named. -/
def State.allocJob (s : State) : Option (Nat × State) :=
  let named := s.namedJobs.map (· % 256)
  match ((List.range 514).map (fun i => (s.hy.nextJob + i) % 65536)).find? (fun j => j != 0 && !named.contains (j % 256)) with
  | none => none
  | some j => some (j, { s with hy := { s.hy with nextJob := (j + 1) % 65536 } })

/-- A job number belongs to a context and what it was made for: a path, or 64 + a region (R476). -/
def State.giveJob (s : State) (x num what : Nat) : State :=
  { s with hy := { s.hy with jobOwner := (x, num, what) :: s.hy.jobOwner.filter (fun j => j.2.1 != num) } }

/-! ### The tracker (R269 to R273) -/

/-- The 64 tracker entries are occupied (R271). -/
def State.trackerFull (s : State) : Bool := decide (64 ≤ (s.nvc.jobs.filter (fun j => j.st != 0)).length)

/-- Submit a job: registered, or held while the tracker is full (R271). One part for each core and one for the control-core
step that publishes, loads or writes its result. -/
def State.submitJob (s : State) (num kind : Nat) (args : List Nat) (need : Nat) : State :=
  { s with nvc := { s.nvc with jobs := s.nvc.jobs ++ [⟨num, kind, args, need, need + 1, 0, 0, 0, if s.trackerFull then 0 else 1⟩] } }

def State.jobOf (s : State) (num : Nat) : Option NvJob := s.nvc.jobs.find? (fun j => j.num = num)

/-- Cores free of a job become IDLE. -/
def State.releaseCores (s : State) (num : Nat) : State :=
  (List.range 16).foldl (fun (t : State) c =>
    if (t.core c).job = num && num != 0 then
      let u := t.setCore c { t.core c with job := 0, wait := .none, was := Co.idle }
      if u.coreSt c = Co.running then u.setCoreSt c Co.idle else u
    else t) s

/-- A job leaves the tracker without being signalled: aborted, halted by its watchdog, failed twice, or without a usable
result (R272). -/
def State.dropJob (s : State) (num : Nat) : State :=
  ({ s with nvc := { s.nvc with jobs := s.nvc.jobs.filter (fun j => j.num != num) } }).releaseCores num

/-- A job is signalled complete (R270, R272): NVC_JOB_DONE of its residue. `res` is 0 OK or 1 FAILED. -/
def State.signalJob (s : State) (num res : Nat) : State :=
  match s.jobOf num with
  | none => s
  | some j =>
    let d := R.NVC_JOB_DONE (num % 256)
    let ended := j.ended ||| maskOf ((List.range 16).filter (fun c => (s.core c).job = num) |>.map (· % 8))
    (((s.put d F.NVC_JOB_DONE_JOB num).put d F.NVC_JOB_DONE_RES res).put d F.NVC_JOB_DONE_CORES ended).dropJob num

/-- Is a job complete at an issue instant (R270)? -/
def State.jobDone (s : State) (num : Nat) : Bool := s.get (R.NVC_JOB_DONE (num % 256)) F.NVC_JOB_DONE_JOB = num

/-- A part of a job ends (R270). When all have, the job is signalled: a DPD training job only once the loader has set READY
(R272). `c` is the core, none for the control-core step. -/
def State.partDone (s : State) (num : Nat) (c : Option Nat) : State :=
  match s.jobOf num with
  | none => s
  | some j =>
    let j' := { j with dones := j.dones + 1, ended := match c with
      | some c => j.ended ||| 2 ^ (c % 8)
      | none => j.ended }
    let t := { s with nvc := { s.nvc with jobs := s.nvc.jobs.map (fun x => if x.num = num then j' else x) } }
    if j'.parts ≤ j'.dones && j'.kind != 1 then t.signalJob num 0 else t

/-- A control-core step of a job writes DONE through the mailbox (R270). -/
def execControlStepDone (job : BitVec 16) (s : State) : Host.Outcome State Fault Refusal :=
  when_ (s.nvc.jobs.any (fun j => j.num = job.toNat && j.st = 2)) (s.partDone job.toNat none) s

/-- DFE cycles from now to the earliest issue instant of the pending entries that name a job: its place in dispatch order
(R273). -/
def State.jobKey (s : State) (num : Nat) : Nat :=
  ((s.tl.pend.filter (fun i => s.eJob i = num)).map (fun i => ahead (stStart (stAdd (s.eTgt i) (-4))) s.tlNow)).foldl min hyper

/-- The job of least key, the first submitted among equals (R273). -/
def State.nextJob (s : State) (l : List NvJob) : Option NvJob :=
  l.foldl (fun m j => match m with
    | none => some j
    | some b => if s.jobKey j.num < s.jobKey b.num then some j else some b) none

/-- A tracker entry frees: Hyrno registers the next held job, in the dispatch order (R271). -/
def execJobRegister (s : State) : Host.Outcome State Fault Refusal :=
  if s.trackerFull then .next s
  else match s.nextJob (s.nvc.jobs.filter (fun j => j.st = 0)) with
  | none => .next s
  | some j => .next { s with nvc := { s.nvc with jobs := s.nvc.jobs.map (fun x => if x.num = j.num then { x with st := 1 } else x) } }

/-- A reciprocity descriptor exists, so that NVC0 to NVC7 run reciprocity jobs only (R268). -/
def State.recipOn (s : State) : Bool := !s.bf.recip.isEmpty

/-- The cores that may run general jobs (R268). -/
def State.generalCores (s : State) : List Nat :=
  (List.range 16).filter (fun c => s.coreGroup c = 1 || (s.coreGroup c = 0 && !s.recipOn))

/-- A firmware core is free: IDLE, or halted and to be reloaded first (R274, R302). -/
def State.coreFree (s : State) (c : Nat) : Bool :=
  s.coreSt c = Co.idle || s.coreSt c = Co.fault || s.coreSt c = Co.halted

/-- Watchdog of a job in units of 16 core cycles: twice its cost (R274), by R256 and R219; the cost of an array solve is not
given, and its watchdog is a free value (log entry 6). -/
def State.jobWdog (s : State) (j : NvJob) : Nat × State :=
  if j.kind = 2 then ((s.fresh 32).1.toNat, (s.fresh 32).2)
  else (2 * nth j.args 0 0 / 16, s)

/-- A core starts at bundle 0 (R290, R297): RB is 0. -/
def State.startCore (s : State) (c : Nat) : State :=
  let t := ((s.setCoreSt c Co.running).put (R.NVC_CORE_STAT c) F.NVC_CORE_STAT_PC 0).put (R.NVC_CORE_STAT c) F.NVC_CORE_STAT_RB 0
  t.setCore c { t.core c with wait := .none, loops := [], calls := [], acc := ({} : NvCore).acc, ran := 0, since := t.now }

/-- A core becomes free and Hyrno dispatches the next job of a group (R273): 0 the reciprocity group's jobs, 1 general
jobs. It runs on as many cores as it needs, once they are free. -/
def execJobDispatch (grp : Fin 2) (s : State) : Host.Outcome State Fault Refusal :=
  let mine (j : NvJob) : Bool := j.st = 1 && (if grp = 0 then j.kind = 0 else j.kind != 0)
  let cores := (if grp = 0 then (List.range 16).filter (fun c => s.coreGroup c = 0) else s.generalCores).filter s.coreFree
  match s.nextJob (s.nvc.jobs.filter mine) with
  | none => .next s
  | some j =>
    if cores.length < j.need then .next s
    else
      let (w, t) := s.jobWdog j
      let t := { t with nvc := { t.nvc with jobs := t.nvc.jobs.map (fun x => if x.num = j.num then { x with st := 2 } else x) } }
      .next ((cores.take j.need).foldl (fun (t : State) c =>
        let u := (if t.coreSt c = Co.idle then t else t.reloadCore c).startCore c
        (u.setCore c { u.core c with job := j.num }).wrN (R.NVC_WDOG c) w) t)

/-! ### Faults and watchdogs (R274, R302) -/

/-- A firmware job's core has faulted: the job is resubmitted once, and dropped at its second fault (R302). -/
def State.jobFault (s : State) (num : Nat) : State :=
  match s.jobOf num with
  | none => s
  | some j =>
    if 1 ≤ j.faults then s.dropJob num
    else
      let t := s.releaseCores num
      { t with nvc := { t.nvc with jobs := t.nvc.jobs.filter (fun x => x.num != num) ++
        [{ j with faults := 1, dones := 0, ended := 0, st := 1 }] } }

/-- A core halts: state and cause; PC stays (R274, R302). -/
def State.haltCore (s : State) (c st cause : Nat) : State :=
  let j := (s.core c).job
  let t := (s.setCoreSt c st).put (R.NVC_CORE_STAT c) F.NVC_CORE_STAT_FCAUSE cause
  let t := t.setCore c { t.core c with job := 0, wait := .none }
  if j = 0 then t else if cause = 6 then t.dropJob j else t.jobFault j

/-- A fault halts the core at the faulting bundle (R302). -/
def State.faultCore (s : State) (c cause : Nat) : State :=
  (s.haltCore c Co.fault cause).raiseCore Ev.NVC_CORE_FAULT c [c, cause]

/-- A running core's watchdog has counted to its limit (R274): units of 16 core cycles, 2.5 of which make a DFE cycle. -/
def State.wdogOut (s : State) (c : Nat) : Bool :=
  let k := s.core c
  decide (32 * (s.rd (R.NVC_WDOG c)).toNat ≤ 5 * (k.ran + (s.now - k.since)))

/-- A running core's watchdog expires (R274). -/
def execNvcWatchdogExpiry (core : Fin 16) (s : State) : Host.Outcome State Fault Refusal :=
  when_ (s.coreSt core = Co.running && s.wdogOut core) ((s.haltCore core Co.halted 6).raiseCore Ev.NVC_WDOG_EXP core [core]) s

/-! ### Runs of leased cores (R297, R298) -/

/-- A trigger reaches a leased core: a run starts, or one trigger is held, or it is dropped and reported (R297). -/
def State.trigger (s : State) (c : Nat) : State :=
  let k := s.core c
  if s.coreSt c = Co.idle then (if k.loaded then s.startCore c else s)
  else if s.coreSt c = Co.running || s.coreSt c = Co.paused then
    (if k.held then (s.count (R.NVC_TRIG_DROP_CNT c)).raiseCore Ev.NVC_TRIG_DROP c [c]
     else s.setCore c { k with held := true })
  else s

/-- A run ends at DONE (R297): a held trigger starts the next one. -/
def State.runEnd (s : State) (c : Nat) : State :=
  let k := s.core c
  let t := (s.setCoreSt c Co.idle).setCore c { k with held := false, wait := .none }
  if k.held then t.startCore c else t

/-- A kernel asks for a region's publication (R298). -/
def State.kernelPublish (s : State) (c r : Nat) : State :=
  if r < 64 && s.rgGranted r && s.rgOwner r = s.coreOwner c then s.publish r
  else s.raiseCore Ev.NVC_PUB_REFUSED c [c, r]

/-! ### Pausing (R296, R567, R568) -/

/-- The throttle groups in pause order. -/
def pauseGroup (g : Nat) : List Nat := if g = 0 then [12, 13, 14, 15] else if g = 1 then [8, 9, 10, 11] else List.range 8
def pauseGroupOf (c : Nat) : Nat := if 12 ≤ c then 0 else if 8 ≤ c then 1 else 2

/-- A throttle stage pauses a group at the next bundle boundary (R296): only in order, and only a group the stage names
(R567). Cores that neither run nor wait for work are left. -/
def execCorePause (grp : Fin 3) (s : State) : Host.Outcome State Fault Refusal :=
  let may (c : Nat) : Bool := s.coreSt c = Co.idle || s.coreSt c = Co.running
  let before := (List.range grp.val).all (fun g => (pauseGroup g).all (fun c => !may c))
  if !(decide (grp.val < s.get R.TH_STAT F.TH_STAT_STAGE) && before && (pauseGroup grp).any may) then .next s
  else
    let t := ((pauseGroup grp).filter may).foldl (fun (t : State) c =>
      let k := t.core c
      (t.setCore c { k with was := t.coreSt c, ran := k.ran + (t.now - k.since) }).setCoreSt c Co.paused) s
    .next (t.nvcShow.raise Ev.NVC_PAUSED [grp])

/-- The next core to resume: groups in reverse order of pausing (R296). -/
def State.nextResume (s : State) : Option Nat :=
  ([2, 1, 0].flatMap pauseGroup).find? (fun c => s.coreSt c = Co.paused && decide (s.get R.TH_STAT F.TH_STAT_STAGE ≤ pauseGroupOf c))

/-- One core at a time asks the gust limiter for its step of 0.4 A (R296, R544). -/
def State.askResume (s : State) : State :=
  if s.pm.wait.any (fun r => r.what = 4) || s.pm.granted.any (fun g => g.1 = 4) then s
  else match s.nextResume with
  | some c => s.gustAsk 4 4 c 128
  | none => s

/-- A paused core resumes after its step is granted (R296); the group's last raises NVC_RESUMED. A stage raised meanwhile
keeps it paused (R568). -/
def execCoreResume (core : Fin 16) (s : State) : Host.Outcome State Fault Refusal :=
  match s.gustTake 4 core with
  | none => .next s.askResume
  | some t =>
    if !(t.coreSt core = Co.paused && decide (t.get R.TH_STAT F.TH_STAT_STAGE ≤ pauseGroupOf core)) then .next t.askResume
    else
      let t := ((t.setCore core { t.core core with since := t.now }).setCoreSt core (t.core core).was).nvcShow
      let t := if (pauseGroup (pauseGroupOf core)).any (fun c => t.coreSt c = Co.paused) then t
        else t.raise Ev.NVC_RESUMED [pauseGroupOf core]
      .next t.askResume

/-! ### Revocation of a core lease (R300) -/

/-- A core's lease ends: it halts at the next bundle boundary, held triggers and the mailbox are cleared, and its memories
are scrubbed. The streams in flight complete under the revoked lease: their remote writes are refused. An arrival of the core at a
barrier stays counted (DESIGN CHOICE, log entry 116). -/
def State.revokeCore (s : State) (c : Nat) : State :=
  let t := (s.setCoreSt c Co.scrubbing).put (R.NVC_CORE_STAT c) F.NVC_CORE_STAT_GROUP 3
  let t := (List.range 16).foldl (fun (t : State) i => (t.wr (R.NVC_MBX_IN c i) 0).wr (R.NVC_MBX_OUT c i) 0) t
  (t.setCore c { t.core c with held := false, in15 := false, trig := 0, loaded := false, wait := .none }).nvcShow

/-- PM, X and Y are zero, and the core returns to the general group (R300). -/
def execCoreRevokeScrubDone (core : Fin 16) (s : State) : Host.Outcome State Fault Refusal :=
  if s.coreSt core ≠ Co.scrubbing then .next s
  else
    let x := s.coreOwner core
    let t := ((s.scrubMem (nvPm core) 0x10000).scrubMem (nvX core) 0x20000).scrubMem (nvY core) 0x20000
    let t := (((t.setCoreSt core Co.idle).put (R.NVC_CORE_STAT core) F.NVC_CORE_STAT_GROUP 1).put (R.NVC_CORE_STAT core)
      F.NVC_CORE_STAT_OWNER 0).put (R.NVC_CORE_STAT core) F.NVC_CORE_STAT_FCAUSE 0
    let t := (t.setCore core { t.core core with streams := [], loops := [], calls := [] }).nvcShow
    .next ((t.raiseTo Ev.NVC_CORE_REVOKED (some x) [core]).revokeDone (9, core.val))

/-! ### Frost (R301) -/

/-- The NVC block agrees to Frost only when every leased core is IDLE. -/
def State.nvcAgrees (s : State) : Bool := (List.range 16).all (fun c => !s.coreLeased c || s.coreSt c = Co.idle)

/-- Queued and running firmware jobs are aborted at Frost entry; they are resubmitted after Thaw. -/
def State.abortJobs (s : State) : State :=
  if s.nvc.jobs.isEmpty then s
  else
    let t := s.nvc.jobs.foldl (fun (t : State) j => t.releaseCores j.num) s
    let held := t.nvc.jobs.map (fun (j : NvJob) => { j with st := 0, dones := 0, ended := 0 })
    ({ t with nvc := { t.nvc with jobs := held } }).raise Ev.NVC_JOB_ABORTED (s.nvc.jobs.map NvJob.num)

end Sys2Proof.Machine
end

