-- ==== Sys2Proof/Machine/Journal.lean ====
section
/-! DEFINITION. The journal (R574 to R584): records, commit words, objects, the engine's queue. -/

namespace Sys2Proof.Machine

/-- One bit step of the CRC-32 of IEEE 802.3 in its reflected form. -/
def crcBit (r : Nat) : Nat := if r % 2 = 1 then (r / 2) ^^^ 0xEDB88320 else r / 2

/-- One byte into the CRC-32. -/
def crcByte (r : Nat) (b : Byte) : Nat :=
  crcBit (crcBit (crcBit (crcBit (crcBit (crcBit (crcBit (crcBit (r ^^^ b.toNat))))))))

/-- CRC-32 (IEEE 802.3) of a byte string (R575). -/
def crc32 (l : List Byte) : Nat := (l.foldl crcByte 0xFFFFFFFF) ^^^ 0xFFFFFFFF

/-- Address of record `n` in the journal window (R28, R574). -/
def recAddr (n : Nat) : Nat := 0x50000000 + 64 * n

/-- The 64 bytes of record `n`. -/
def State.jrec (s : State) (n : Nat) : List Byte := s.bytes (recAddr n) 64

/-- A record is free when all its bytes are ones (R575). -/
def jFree (b : List Byte) : Bool := b.all (fun x => x = 0xFF)

/-- A record is committed when its commit word matches (R575). -/
def jCommitted (b : List Byte) : Bool := !jFree b && crc32 (b.take 60) = leNum (b.drop 60)

/-- Any other record is torn (R575). -/
def jTorn (b : List Byte) : Bool := !jFree b && !jCommitted b

/-- The 64 bytes of a record: TYPE, INST, PART, 56 payload bytes and the commit word (R575). -/
def mkRec (type inst part : Nat) (payload : List Byte) : List Byte :=
  let h := leBytes 1 type ++ leBytes 1 inst ++ leBytes 2 part ++ (payload ++ List.replicate 56 0).take 56
  h ++ leBytes 4 (crc32 h)

/-- May this writer write this record (R576, R579)? The power and safety core only the shutdown and supply slots, the
control cores only the rest, and nobody a committed lock record. -/
def State.jAllowed (s : State) (aon : Bool) (n : Nat) : Bool :=
  if n < 32 then aon
  else !aon && decide (n < 4096) && (decide (40 ≤ n) || (decide (n < 34) && !jCommitted (s.jrec n)))

/-- The flags of NVJ_STAT that show the queue (R590). -/
def State.jShow (s : State) : State :=
  (s.setFlag R.NVJ_STAT F.NVJ_STAT_BUSY (!s.nvj.queue.isEmpty)).setFlag R.NVJ_STAT F.NVJ_STAT_QUEUED (decide (1 < s.nvj.queue.length))

/-- Queue record writes: in arrival order, a record of the power and safety core ahead of every queued record at the next
record boundary (R581). A write the area table does not allow is refused and not performed (R576). -/
def State.jQueue (s : State) (ws : List JWrite) : State :=
  let ok := ws.filter (fun w => s.jAllowed w.aon w.num)
  let q := s.nvj.queue
  let q' := if ok.any JWrite.aon then q.take 1 ++ ok ++ q.drop 1 else q ++ ok
  ({ s with nvj := { s.nvj with queue := q' } }).jShow

/-- Objects of the journal (R577, R578): TYPE, INST, first record of copy A, distance of copy B (0 for one copy), records
in a copy. -/
structure ObjPlace where
  type : Nat
  inst : Nat
  base : Nat
  other : Nat
  parts : Nat
  deriving DecidableEq, Repr

/-- The configuration objects (R577). -/
def objPlace (type : Nat) : ObjPlace :=
  let mk (off n : Nat) : ObjPlace := ⟨type, 0, 40 + off, 192, n⟩
  match type with
  | 0x10 => mk 0 2 | 0x11 => mk 2 8 | 0x12 => mk 10 16 | 0x13 => mk 26 8 | 0x14 => mk 34 16 | 0x15 => mk 50 4
  | 0x16 => mk 54 16 | 0x17 => mk 70 4 | 0x18 => mk 74 8 | 0x19 => mk 82 8 | _ => mk 90 16

/-- Reference point `i` (R578): one copy of 596 records. -/
def pointPlace (i : Nat) : ObjPlace := ⟨0x20, i, 424 + 596 * i, 0, 596⟩

/-- Array result of point `i` (R578): two copies of 147 records. -/
def resultPlace (i : Nat) : ObjPlace := ⟨0x21, i, 2808 + 294 * i, 147, 147⟩

/-- The payload of part `k` in a copy that starts at record `b`. -/
def State.jPart (s : State) (b k : Nat) : List Byte := ((s.jrec (b + k)).drop 4).take 56

/-- Generation and length of a copy: bytes 0 to 7 of part 0 (R577). -/
def State.copyGen (s : State) (b : Nat) : Nat := leNum ((s.jPart b 0).take 4)
def State.copyLen (s : State) (b : Nat) : Nat := leNum (((s.jPart b 0).drop 4).take 4)

/-- The data of a copy: after the 12-byte head of part 0, then part 1 onward (R577). -/
def State.copyData (s : State) (p : ObjPlace) (b : Nat) : List Byte :=
  (((s.jPart b 0).drop 12) ++ ((List.range (p.parts - 1)).map (fun k => s.jPart b (k + 1))).flatten).take (s.copyLen b)

/-- Parts that an object of this length takes: 44 bytes in part 0, 56 in each further part. -/
def partsFor (len : Nat) : Nat := if len ≤ 44 then 1 else 1 + (len - 44 + 55) / 56

/-- A copy is valid when every part is committed and the CRC matches (R577). -/
def State.copyValid (s : State) (p : ObjPlace) (b : Nat) : Bool :=
  jCommitted (s.jrec b) && decide (partsFor (s.copyLen b) ≤ p.parts) &&
    (List.range (partsFor (s.copyLen b))).all (fun k => jCommitted (s.jrec (b + k))) &&
    crc32 (s.copyData p b) = leNum (((s.jPart b 0).drop 8).take 4)

/-- Is generation `a` higher than `b`, modulo 2³² (R577)? -/
def genAfter (a b : Nat) : Bool := (a + 2 ^ 32 - b) % 2 ^ 32 < 2 ^ 31 && a != b

/-- First record of the copy that is the object: the valid copy with the higher generation (R577). -/
def State.current (s : State) (p : ObjPlace) : Option Nat :=
  let a := p.base
  let b := p.base + p.other
  if p.other = 0 then (if s.copyValid p a then some a else none)
  else match s.copyValid p a, s.copyValid p b with
    | true, true => some (if genAfter (s.copyGen b) (s.copyGen a) then b else a)
    | true, false => some a
    | false, true => some b
    | false, false => none

/-- The data of an object, if it is present. -/
def State.objData (s : State) (p : ObjPlace) : Option (List Byte) := (s.current p).map (s.copyData p)

/-- An absent object with a torn or incomplete copy (R577). -/
def State.objTorn (s : State) (p : ObjPlace) : Bool :=
  (s.current p).isNone && !((List.range p.parts).all (fun k => jFree (s.jrec (p.base + k)) && jFree (s.jrec (p.base + p.other + k))))

/-- The records that write an object: to the other copy, parts 1 onward first and part 0 last, which carries the next
generation, the length and the CRC (R577). -/
def State.objRecords (s : State) (p : ObjPlace) (data : List Byte) (group : Nat) : List JWrite :=
  let cur := s.current p
  let b := if p.other = 0 then p.base else if cur = some p.base then p.base + p.other else p.base
  let gen := match cur with
    | some c => (s.copyGen c + 1) % 2 ^ 32
    | none => 1
  let part0 := leBytes 4 gen ++ leBytes 4 data.length ++ leBytes 4 (crc32 data) ++ data.take 44
  ((List.range (partsFor data.length - 1)).map (fun k =>
      (⟨b + k + 1, mkRec p.type p.inst (k + 1) ((data.drop (44 + 56 * k)).take 56), false, group, false⟩ : JWrite))) ++
    [⟨b, mkRec p.type p.inst 0 part0, false, group, true⟩]

/-- Journal an object; answers its write group. -/
def State.journalObj (s : State) (p : ObjPlace) (data : List Byte) : Nat × State :=
  let g := s.nvj.nextGroup
  (g, ({ s with nvj := { s.nvj with nextGroup := g + 1 } }).jQueue (s.objRecords p data g))

/-- Journal an object of the firmware's own whose layout the spec does not give: the bytes are opaque and the content is
kept beside them until the group commits (log entry 9). -/
def State.journalOwn (s : State) (type : Nat) (items : List Nat) : Nat × State :=
  let g := s.nvj.nextGroup
  let t := (s.journalObj (objPlace type) (Config.objBytes type items)).2
  (g, { t with nvj := { t.nvj with staged := t.nvj.staged ++ [(g, type, items)] } })

/-- The content of one of the firmware's own objects. -/
def State.ownObj (s : State) (type : Nat) : Option (List Nat) := ((s.nvj.objs.find? (fun p => p.1 = type)).map (·.2))

/-- The highest sequence number in an area of sixteen slots, with its slot (R580). -/
def State.areaMax (s : State) (base : Nat) : Option (Nat × Nat) :=
  (List.range 16).foldl (fun m i =>
    let b := s.jrec (base + i)
    if jCommitted b then
      let q := leNum ((b.drop 4).take 4)
      match m with
      | none => some (q, i)
      | some (x, j) => if genAfter q x then some (q, i) else some (x, j)
    else m) none

/-- Queue a shutdown (area 0) or supply (area 16) record: the next slot, the next sequence number (R580). -/
def State.slotRecord (s : State) (base type : Nat) (rest : List Byte) : State :=
  let m := s.areaMax base
  let slot := match m with
    | some (_, j) => (j + 1) % 16
    | none => 0
  let seq := match m with
    | some (q, _) => (q + 1) % 2 ^ 32
    | none => 1
  s.jQueue [⟨base + slot, mkRec type slot 0 (leBytes 4 seq ++ rest), true, 0, true⟩]

/-- Ring position of the next log record (R580): one after the newest, or 0. The ring is read in record order; the newest
is the committed record whose successor is not newer, which the firmware keeps as content of TYPE 0x30. -/
def State.logPos (s : State) : Nat := match s.ownObj 0x30 with
  | some (p :: _) => p
  | _ => 0

/-- Queue a log ring record (R580); its payload has no layout in the spec (log entry 9). -/
def State.logRecord (s : State) (items : List Nat) : State :=
  let p := s.logPos
  let t := s.jQueue [⟨3984 + p % 112, mkRec 0x30 0 (p % 65536) (Config.objBytes 0x30 items), false, 0, true⟩]
  { t with nvj := { t.nvj with objs := (0x30, [(p + 1) % 112]) :: t.nvj.objs.filter (fun q => q.1 != 0x30) } }

/-- On thermal shutdown, PORST_N low or the loss of a rail, the record in flight is completed and the queued writes are
dropped (R581). -/
def State.jCut (s : State) : State :=
  match s.nvj.queue with
  | [] => s
  | w :: _ => ({ (s.setBytes (recAddr w.num) w.data) with
      nvj := { s.nvj with queue := [], retry := false, staged := [] } }).jShow

/-- Write the power and safety core's queued records at once, after the record in flight (R581). -/
def State.jFlushAon (s : State) : State :=
  ({ (s.nvj.queue.filter JWrite.aon).foldl (fun (t : State) (w : JWrite) => t.setBytes (recAddr w.num) w.data) s with
      nvj := { s.nvj with queue := s.nvj.queue.filter (fun w => !w.aon) } }).jShow

/-- NVJ_STAT shows the two locks: lock record 32 and lock record 33 committed (R579, R590). -/
def State.jLocks (s : State) : State :=
  (s.setFlag R.NVJ_STAT F.NVJ_STAT_LOCK_REG (jCommitted (s.jrec 32))).setFlag R.NVJ_STAT F.NVJ_STAT_LOCK_REF (jCommitted (s.jrec 33))

/-- A write of GO to NVJ_WCMD queues the record in NVJ_WBUF for the record REC names (R574, R590). -/
def execJournalWriteStart (rec : BitVec 12) (aon : Bool) (s : State) : Host.Outcome State Fault Refusal :=
  .next (s.jQueue [⟨rec.toNat, ((List.range 16).map (fun i => leBytes 4 (s.rd (R.NVJ_WBUF i)).toNat)).flatten, aon, 0, true⟩])

end Sys2Proof.Machine
end

