-- ==== Sys2Proof/Machine/Housekeeping.lean ====
section
/-! DEFINITION. The housekeeping converter (R555 to R562): sequences, triggers, conversions, FIFOs, calibration. -/

namespace Sys2Proof.Machine

/-- A second has not passed since HK_TRIG_IGNORED of this sequence; else it is raised (R558). -/
def State.hkIgnored (s : State) (sq : Bool) : State :=
  let i := if sq then 1 else 0
  let t := if sq then (s.stickFlag R.HK_STAT F.HK_STAT_SQ_IGN).count R.HK_IGN_SQ_CNT
    else (s.stickFlag R.HK_STAT F.HK_STAT_REG_IGN).count R.HK_IGN_REG_CNT
  if s.secondSince (nth s.hk.ignAt i none) then
    { (t.raise Ev.HK_TRIG_IGNORED [i]) with hk := { s.hk with ignAt := s.hk.ignAt.set i (some s.now) } }
  else t

/-- Channel code `k` of the list of sequence `i` (R586): one code a byte. -/
def State.hkCode (s : State) (i k : Nat) : Nat := (s.rd (R.HK_SEQ_LIST i (k / 4))).toNat / 2 ^ (8 * (k % 4)) % 256

/-- Entries of sequence `i`. -/
def State.hkCount (s : State) (i : Nat) : Nat := s.get (R.HK_SEQ_CFG i) F.HK_SEQ_CFG_COUNT

/-- The channel converting: of the Squall run, else of a calibration step, else of the regular run. -/
def State.hkChannel (s : State) : Option Nat :=
  match s.hk.sqRun, s.hk.cal, s.hk.regRun with
  | some k, _, _ => some (s.hkCode 1 k)
  | none, some c, _ => some c.ch
  | none, none, some k => some (s.hkCode 0 k)
  | none, none, none => none

/-- Show the converter's occupation in HK_STAT (R587). -/
def State.hkShow (s : State) : State :=
  let a := s.setFlag R.HK_STAT F.HK_STAT_BUSY_REG (s.hk.regRun.isSome || s.hk.cal.isSome)
  let b := a.setFlag R.HK_STAT F.HK_STAT_BUSY_SQ s.hk.sqRun.isSome
  b.put R.HK_STAT F.HK_STAT_CH (s.hkChannel.getD 0)

/-- A run starts: on a powered-down converter the 200 µs start-up comes first (R559). -/
def State.hkPower (s : State) : State :=
  if s.flag R.HK_STAT F.HK_STAT_PWRD then
    (s.setFlag R.HK_STAT F.HK_STAT_PWRD false).setFlag R.HK_STAT F.HK_STAT_STARTUP true
  else s

/-- With PDOWN the modulator powers down whenever no run is in progress and none is held (R559). -/
def State.hkIdle (s : State) : State :=
  if s.flag R.HK_CTRL F.HK_CTRL_PDOWN && s.hk.regRun.isNone && s.hk.sqRun.isNone && s.hk.cal.isNone &&
      !s.flag R.HK_STAT F.HK_STAT_HELD then
    (s.setFlag R.HK_STAT F.HK_STAT_PWRD true).setFlag R.HK_STAT F.HK_STAT_STARTUP false
  else s

/-- Start a regular run, or the calibration step that waits (R562). -/
def State.hkStartReg (s : State) : State :=
  (({ s with hk := { s.hk with regRun := some 0 } }).hkPower).hkShow

/-- A trigger of the regular sequence (R558). -/
def State.hkTrigReg (s : State) : State :=
  if s.hk.regRun.isSome || s.hk.cal.isSome then s.hkIgnored false
  else if s.hk.sqRun.isSome then
    (if s.flag R.HK_STAT F.HK_STAT_HELD then s.hkIgnored false else s.setFlag R.HK_STAT F.HK_STAT_HELD true)
  else s.hkStartReg

/-- A trigger of the Squall sequence (R558, R559): it aborts a regular or calibration conversion, or inherits a start-up. -/
def State.hkTrigSq (s : State) : State :=
  if s.hk.sqRun.isSome then s.hkIgnored true
  else
    let t := { s with hk := { s.hk with sqRun := some 0 } }
    if s.hk.regRun.isSome || s.hk.cal.isSome then
      (((t.count R.HK_ABORT_CNT).stickFlag R.HK_STAT F.HK_STAT_ABORTED).hkPower).hkShow
    else t.hkPower.hkShow

/-- A trigger of a sequence that is armed (R557). -/
def State.hkTrig (s : State) (sq : Bool) : State :=
  if sq then (if s.hk.armSq then s.hkTrigSq else s) else (if s.hk.armReg then s.hkTrigReg else s)

/-- The trigger source of a sequence, bits 2:0 of its trigger byte, and its GPIO, bits 7:3 (R557). -/
def State.hkSrc (s : State) (i : Nat) : Nat := s.get (R.HK_SEQ_CFG i) F.HK_SEQ_CFG_TRIG % 8
def State.hkGpio (s : State) (i : Nat) : Nat := s.get (R.HK_SEQ_CFG i) F.HK_SEQ_CFG_TRIG / 8

/-- Both sequences with this source, and this GPIO for source 2, are triggered; Squall first, which never waits. -/
def State.hkSource (s : State) (src gpio : Nat) : State :=
  let go (t : State) (sq : Bool) : State :=
    let i := if sq then 1 else 0
    if t.hkSrc i = src && (src != 2 || t.hkGpio i = gpio) then t.hkTrig sq else t
  go (go s true) false

/-- A housekeeping sequence timer expires, PERIOD µs after the command or its last expiry (R557). -/
def execHkTimerExpiry (squall : Bool) (s : State) : Host.Outcome State Fault Refusal :=
  let i := if squall then 1 else 0
  let t := { s with hk := { s.hk with timerAt := s.hk.timerAt.set i s.now } }
  when_ (s.hkSrc i = 1 && s.aonPast ((s.rd (R.HK_TIMER i)).toNat * 49152 / 100) (nth s.hk.timerAt i 0)) (t.hkTrig squall) s

/-- The start-up delay ends and the run's first conversion starts (R559). -/
def execHkStartupDone (s : State) : Host.Outcome State Fault Refusal :=
  when_ (s.flag R.HK_STAT F.HK_STAT_STARTUP) ((s.setFlag R.HK_STAT F.HK_STAT_STARTUP false).hkShow) s

/-- HK_FIFO_LVL shows both FIFOs (R586). -/
def State.hkLevels (s : State) : State :=
  (s.put R.HK_FIFO_LVL F.HK_FIFO_LVL_REG s.hk.fifoReg.length).put R.HK_FIFO_LVL F.HK_FIFO_LVL_SQ s.hk.fifoSq.length

/-- HK_FIFO_RD shows the oldest entry of each FIFO, or zero (R560). -/
def State.hkHeads (s : State) : State :=
  let a := (s.hk.fifoReg.head?).getD (0, 0)
  let b := (s.hk.fifoSq.head?).getD (0, 0)
  (((s.wr (R.HK_FIFO_RD 0) a.1).wr (R.HK_FIFO_RD_HI 0) a.2).wr (R.HK_FIFO_RD 1) b.1).wr (R.HK_FIFO_RD_HI 1) b.2

/-- A result enters its FIFO, or is lost on a full one (R560): 64 entries regular, 16 Squall. -/
def State.hkPush (s : State) (sq : Bool) (e : Word × Word) : State :=
  let full := if sq then decide (16 ≤ s.hk.fifoSq.length) else decide (64 ≤ s.hk.fifoReg.length)
  if full then
    let t := (s.count R.HK_FIFO_OVF_CNT).stickFlag R.HK_STAT F.HK_STAT_OVF
    if s.secondSince s.hk.ovfAt then { (t.raise Ev.HK_FIFO_OVF []) with hk := { s.hk with ovfAt := some s.now } } else t
  else if sq then ({ s with hk := { s.hk with fifoSq := s.hk.fifoSq ++ [e] } }).hkLevels.hkHeads
  else ({ s with hk := { s.hk with fifoReg := s.hk.fifoReg ++ [e] } }).hkLevels.hkHeads

/-- The corrected value sat₂₄((raw − O) × G), G in UQ2.22 (R562). -/
def State.hkValue (s : State) (ch : Nat) (raw : BitVec 24) : Int × State :=
  let o := signed 24 (s.get (R.HK_CAL ch) F.HK_CAL_O)
  let g := s.get (R.HK_CAL_HI ch) F.HK_CAL_G
  let q := s.divFree ((raw.toInt - o) * (g : Int)) (2 ^ 22)
  (satS 24 q.1, q.2)

/-- A result lies outside its channel's window; a window with its lower limit above its upper is disabled (R561). -/
def State.hkOutside (s : State) (ch : Nat) (v : Int) : Bool :=
  let lo := signed 24 (s.get (R.HK_LIM ch) F.HK_LIM_LOW)
  let up := signed 24 (s.get (R.HK_LIM_HI ch) F.HK_LIM_UP)
  decide (lo ≤ up) && (decide (v < lo) || decide (up < v))

/-- The time a result carries: 0 while the counter is off or the TS domain is down (R560). -/
def State.hkTime (s : State) : Nat :=
  if s.flag R.TS_CTRL F.TS_CTRL_EN && (s.get R.PM_DOM_STAT F.PM_DOM_STAT_ON).testBit 23 then s.ns else 0

/-- A result of a run: HK_DATA, the window, the FIFO (R560, R561). -/
def State.hkResult (s : State) (sq : Bool) (ch : Nat) (raw : BitVec 24) : State :=
  let (v, t) := s.hkValue ch raw
  let out := t.hkOutside ch v
  let w0 : Word := BitVec.ofNat 32 (unsigned 24 v + 2 ^ 24 * (ch % 64) + (if sq then 2 ^ 30 else 0) + (if out then 2 ^ 31 else 0))
  let t := t.put (R.HK_DATA ch) F.HK_DATA_V (unsigned 24 v)
  let t := { t with hk := { t.hk with
    stampNs := sparseSet (fun _ => 0) t.hk.stampNs ch t.hkTime
    samples := sparseSet (fun _ => 0) t.hk.samples ch ((sparseGet (fun _ => 0) t.hk.samples ch + 1) % 2 ^ 16)
    outside := if out then (if t.hk.outside.contains ch then t.hk.outside else ch :: t.hk.outside)
      else t.hk.outside.filter (· != ch) } }
  let t := if out && !s.hk.outside.contains ch then t.raise Ev.HK_LIMIT [ch, unsigned 24 v] else t
  t.hkPush sq (w0, BitVec.ofNat 32 t.hkTime)

/-- A regular run ends: a waiting calibration step starts, a continuous sequence starts again, else the converter rests. -/
def State.hkRegEnd (s : State) : State :=
  let t := { s with hk := { s.hk with regRun := none } }
  match s.hk.calWait with
  | some c => ({ t with hk := { t.hk with cal := some c, calWait := none } }).hkShow
  | none => if s.hk.armReg && s.hkSrc 0 = 4 then t.hkStartReg else t.hkIdle.hkShow

/-- The coefficients of a finished calibration step (R562): step 0 stores the average as O; step 1 sets G, or fails when
it would leave 0.5 to 2.0 (with a free DETAIL, log entry 11). The stored pair is journalled and applies when the step completes. -/
def State.hkCalEnd (s : State) (c : HkCal) : State :=
  let (avg, t) := s.divFree c.sum 256
  let t := { t with hk := { t.hk with cal := none } }
  let t := if t.hk.armReg && t.hkSrc 0 = 4 then t.hkStartReg else t.hkIdle.hkShow
  if c.step = 0 then
    ({ t with hk := { t.hk with zero := (c.ch, avg) :: t.hk.zero.filter (fun z => z.1 != c.ch) } }).finish (· == Until.hkCal) St.ok 0 0
  else
    let o := ((t.hk.zero.find? (fun z => z.1 = c.ch)).map (·.2)).getD 0
    let den := avg - o
    let num : Int := (2 ^ 23 - 1) * 2 ^ 22
    if den ≤ 0 || decide (num < 2 ^ 21 * den) || decide (2 ^ 23 * den < num) then
      (t.fresh 32).2.finish (· == Until.hkCal) St.failed (t.fresh 32).1.toNat 0
    else
      let (g, t) := t.divFree num den.toNat
      let cal := (List.range 43).map (fun k =>
        if k = c.ch then [unsigned 24 o, g.toNat] else [t.get (R.HK_CAL k) F.HK_CAL_O, t.get (R.HK_CAL_HI k) F.HK_CAL_G])
      let (grp, t) := t.journalOwn 0x18 cal.flatten
      { t with hk := { t.hk with zero := t.hk.zero.filter (fun z => z.1 != c.ch) }
               hy := { t.hy with jobs := t.hy.jobs.map (fun j =>
                 if j.wait == Until.hkCal then { j with wait := .journal grp, data := [0x18, c.ch, unsigned 24 o, g.toNat] } else j) } }

/-- A conversion ends (R556): its result is stored, and the next channel or run follows (R557, R558). -/
def execHkConversionDone (raw : BitVec 24) (s : State) : Host.Outcome State Fault Refusal :=
  if s.flag R.HK_STAT F.HK_STAT_STARTUP then .next s
  else match s.hk.sqRun, s.hk.cal, s.hk.regRun with
  | some k, _, _ =>
    let t := s.hkResult true (s.hkCode 1 k) raw
    if k + 1 < s.hkCount 1 then .next ({ t with hk := { t.hk with sqRun := some (k + 1) } }).hkShow
    else
      let t := { t with hk := { t.hk with sqRun := none } }
      if t.flag R.HK_STAT F.HK_STAT_HELD then .next (t.setFlag R.HK_STAT F.HK_STAT_HELD false).hkStartReg
      else .next t.hkIdle.hkShow
  | none, some c, _ =>
    let c := { c with n := c.n + 1, sum := c.sum + raw.toInt }
    if c.n < 256 then .next { s with hk := { s.hk with cal := some c } } else .next (s.hkCalEnd c)
  | none, none, some k =>
    let t := s.hkResult false (s.hkCode 0 k) raw
    if k + 1 < s.hkCount 0 then .next ({ t with hk := { t.hk with regRun := some (k + 1) } }).hkShow
    else .next t.hkRegEnd
  | none, none, none => .next s

/-- Take the oldest entry out of a housekeeping FIFO (R560). -/
def State.hkPop (s : State) (sq : Bool) : State :=
  (if sq then { s with hk := { s.hk with fifoSq := s.hk.fifoSq.drop 1 } }
   else { s with hk := { s.hk with fifoReg := s.hk.fifoReg.drop 1 } }).hkLevels.hkHeads

/-- A read of the high word of HK_FIFO_RD answers it and pops the entry (R460, R560). -/
def execHkFifoRdPop (squall : Bool) (s : State) : Host.Outcome State Fault Refusal :=
  let i := if squall then 1 else 0
  .next { (s.hkPop squall) with lastRead := some (s.rd (R.HK_FIFO_RD_HI i)) }

end Sys2Proof.Machine
end

