-- ==== Sys2Proof/Machine/Periph.lean ====
section
/-! DEFINITION. The UART and I2C FIFOs (R458 to R460). -/

namespace Sys2Proof.Machine

/-- A receive FIFO as its register shows it: the oldest character in bits 7:0, bit 31 EMPTY (R458, R459). -/
def fifoWord (l : List Byte) : Word := match l with
  | [] => 0x80000000
  | b :: _ => b.setWidth 32

/-- HI_UART_RXD and PM_I2C_RXD show the oldest characters. -/
def State.fifoShow (s : State) : State := (s.wr R.HI_UART_RXD (fifoWord s.hi.uartRx)).wr R.PM_I2C_RXD (fifoWord s.hi.i2cRx)

/-- A character for the transmitter; one that finds the 64-place FIFO full is lost (log entry 21). -/
def State.uartPut (s : State) (b : Byte) : State :=
  if 64 ≤ s.hi.uartTx.length then s
  else { s with hi := { s.hi with uartTx := s.hi.uartTx ++ [b], uartAt := if s.hi.uartTx.isEmpty then s.now else s.hi.uartAt } }

/-- Bits a second of the UART (R458). -/
def State.baud (s : State) : Nat := nth [115200, 9600, 57600, 230400, 921600] (s.get R.HI_UART_CFG F.HI_UART_CFG_BAUD) 115200

/-- The UART sends its oldest character in ten bits: a start bit, eight data bits, a stop bit (R458). -/
def State.uartTick (s : State) : State :=
  match s.hi.uartTx with
  | [] => s
  | b :: l => if (s.now - s.hi.uartAt) * s.baud < 10 * cyclesPerSecond then s
    else { s with hi := { s.hi with uartTx := l, uartAt := s.now, uartOut := some b } }
def State.i2cPut (s : State) (b : Byte) : State :=
  if 64 ≤ s.hi.i2cTx.length then s else { s with hi := { s.hi with i2cTx := s.hi.i2cTx ++ [b] } }

/-- A read of a receive FIFO's register pops its oldest character. -/
def State.uartPop (s : State) : State := ({ s with hi := { s.hi with uartRx := s.hi.uartRx.drop 1 } }).fifoShow
def State.i2cPop (s : State) : State := ({ s with hi := { s.hi with i2cRx := s.hi.i2cRx.drop 1 } }).fifoShow

/-- A character arrives on UART_RX (R458): one that finds the FIFO full is dropped and counted. -/
def execUartRxCharacter (c : Byte) (s : State) : Host.Outcome State Fault Refusal :=
  if 64 ≤ s.hi.uartRx.length then .next (s.count R.HI_UART_OVF_CNT)
  else .next ({ s with hi := { s.hi with uartRx := s.hi.uartRx ++ [c] } }).fifoShow

/-- A read of HI_UART_RXD answers the oldest character and pops it (R458). -/
def execUartRxdRead (s : State) : Host.Outcome State Fault Refusal :=
  .next { s.uartPop with lastRead := some (fifoWord s.hi.uartRx) }

/-- A read of PM_I2C_RXD answers the oldest byte and pops it (R459). -/
def execI2cRxdRead (s : State) : Host.Outcome State Fault Refusal :=
  .next { s.i2cPop with lastRead := some (fifoWord s.hi.i2cRx) }

/-- One element of a source FIFO as DMA reads it (R460): its bytes, and the state with the element popped. -/
def State.periphRead (s : State) (a : Nat) : List Byte × State :=
  if a = R.HK_FIFO_RD 0 then (leBytes 4 (s.rd (R.HK_FIFO_RD 0)).toNat ++ leBytes 4 (s.rd (R.HK_FIFO_RD_HI 0)).toNat, s.hkPop false)
  else if a = R.HK_FIFO_RD 1 then (leBytes 4 (s.rd (R.HK_FIFO_RD 1)).toNat ++ leBytes 4 (s.rd (R.HK_FIFO_RD_HI 1)).toNat, s.hkPop true)
  else if a = R.HI_UART_RXD then (leBytes 4 (fifoWord s.hi.uartRx).toNat, s.uartPop)
  else (leBytes 4 (fifoWord s.hi.i2cRx).toNat, s.i2cPop)

/-- The source and destination FIFOs of R460, and the bytes of an element. -/
def periphSource (a : Nat) : Bool := a = R.HK_FIFO_RD 0 || a = R.HK_FIFO_RD 1 || a = R.HI_UART_RXD || a = R.PM_I2C_RXD
def periphSink (a : Nat) : Bool := a = R.HI_UART_TXD || a = R.PM_I2C_TXD
def periphElem (a : Nat) : Nat := if a = R.HK_FIFO_RD 0 || a = R.HK_FIFO_RD 1 then 8 else 4

/-- `n` elements of a source FIFO. -/
def State.periphBurst (s : State) (a : Nat) : Nat → List Byte × State
  | 0 => ([], s)
  | n + 1 =>
    let r := s.periphRead a
    let q := r.2.periphBurst a n
    (r.1 ++ q.1, q.2)

/-- Write 4-byte elements into a destination FIFO, one character in bits 7:0 each. -/
def State.periphWrite (s : State) (a : Nat) (data : List Byte) : State :=
  (List.range (data.length / 4)).foldl (fun (t : State) i =>
    let b := nth data (4 * i) 0
    if a = R.HI_UART_TXD then t.uartPut b else t.i2cPut b) s

end Sys2Proof.Machine
end

