-- ==== Sys2Proof/Machine/Dma.lean ====
section
/-! DEFINITION. DMA: channels, descriptors, bursts (R499 to R512). Channels 0 to 7 are firmware's and run chains; channels 8
to 15 serve bulk rings 24 to 31 (R500). -/

namespace Sys2Proof.Machine

/-! ### Channels -/

/-- A channel's state (R518): 0 IDLE, 1 RUNNING, 2 PARKED, 3 WAIT_REQ, 4 DISABLED, 5 ERROR. -/
def State.chSt (s : State) (c : Nat) : Nat := s.get (R.DMA_CH_STAT c) F.DMA_CH_STAT_STATE
def State.setChSt (s : State) (c v : Nat) : State := s.put (R.DMA_CH_STAT c) F.DMA_CH_STAT_STATE v
def State.chEn (s : State) (c : Nat) : Bool := s.flag (R.DMA_CH_CFG c) F.DMA_CH_CFG_EN

/-- A bulk channel, its ring, and the context it acts for (R500). -/
def isBulk (c : Nat) : Bool := decide (8 ≤ c)
def chRing (c : Nat) : Nat := c + 16
def State.chOwner (s : State) (c : Nat) : Option Nat := if isBulk c then some (s.ringCtx (chRing c)) else none

/-- A channel is paced by its request line (R508): firmware channels only. -/
def State.paced (s : State) (c : Nat) : Bool := !isBulk c && s.flag (R.DMA_CH_CFG c) F.DMA_CH_CFG_REQ_EN

/-- Slots a channel holds. -/
def State.chHeld (s : State) (c : Nat) : Nat := (s.dma.slots.filter (fun x => x.ch = c)).length

/-- DMA_STATUS and HELD show the slots (R517, R518). -/
def State.dmaShow (s : State) : State :=
  let t := (List.range 16).foldl (fun (t : State) c => t.put (R.DMA_CH_STAT c) F.DMA_CH_STAT_HELD (s.chHeld c)) s
  (t.put R.DMA_STATUS F.DMA_STATUS_FREE (64 - s.dma.slots.length)).put R.DMA_STATUS F.DMA_STATUS_HOLD
    (maskOf ((List.range 16).filter (fun c => decide (0 < s.chHeld c))))

/-- The descriptors of a channel. -/
def State.chDescs (s : State) (c : Nat) : List DmaDesc := nth s.dma.descs c []
def State.setDescs (s : State) (c : Nat) (l : List DmaDesc) : State := { s with dma := { s.dma with descs := s.dma.descs.set c l } }
def State.setDesc (s : State) (c : Nat) (d : DmaDesc) : State := s.setDescs c ((s.chDescs c).map (fun x => if x.id = d.id then d else x))

/-! ### Descriptors (R502 to R504) -/

def DmaDesc.bit (d : DmaDesc) (b : Nat) : Bool := d.ctrl.testBit b
def DmaDesc.srcHost (d : DmaDesc) : Bool := d.bit 0
def DmaDesc.dstHost (d : DmaDesc) : Bool := d.bit 1
def DmaDesc.srcFix (d : DmaDesc) : Bool := d.bit 2
def DmaDesc.dstFix (d : DmaDesc) : Bool := d.bit 3
def DmaDesc.burst (d : DmaDesc) : Nat := d.ctrl / 2 ^ 8 % 16
def DmaDesc.ptgt (d : DmaDesc) : Nat := d.ctrl / 2 ^ 12 % 16

/-- A pulse target R508 names. -/
def ptgtOk (p : Nat) : Bool := decide (p < 6) || (decide (8 ≤ p) && decide (p < 12))

/-- A span of the weight memory. -/
def inWeight (a : Nat) : Bool := decide (0x20000000 ≤ a) && decide (a < 0x20400000)

/-- A malformed descriptor (R502, R508): alignment, `LEN`, `BURST`, a reserved field or a reserved pulse target. -/
def descBad (bulk : Bool) (d : DmaDesc) : Bool :=
  d.src % 4 != 0 || d.dst % 4 != 0 || d.len % 4 != 0 || d.len = 0 || decide (2 ^ 28 ≤ d.len) || decide (d.burst < 2) || decide (12 < d.burst) ||
    d.ctrl / 2 ^ 16 % 2 ^ 8 != 0 || (!bulk && d.bit 5 && !ptgtOk d.ptgt) ||
    (!d.dstHost && inWeight d.dst && (d.dst % 256 != 0 || d.len % 256 != 0))

/-- The attachment of a channel's owner can reach its host side (R503). -/
def State.hostReach (s : State) (c : Nat) : Bool :=
  match s.chOwner c with
  | none => false
  | some x => if s.ctxAtt x < 2 then nth s.hi.linkUp (s.ctxAtt x) false else s.ctxAtt x = 2

/-- A bulk descriptor lies outside its ring's purpose (R504). -/
def State.offPurpose (s : State) (c : Nat) (d : DmaDesc) : Bool :=
  let dev (a : Nat) (l : List Region) : Bool := l.contains (s.region a)
  match s.get (R.HI_RING_STAT (chRing c)) F.HI_RING_STAT_PURP with
  | 0 => d.srcHost || !d.dstHost || !dev d.src [.dram, .cluster]
  | 1 => !d.srcHost || d.dstHost || !dev d.dst [.dram]
  | 2 => !d.srcHost || d.dstHost || !dev d.dst [.dram, .weight]
  | _ => d.srcHost && d.dstHost

/-- The error a descriptor has when it is read (R502 to R504, R510), 0 for none. -/
def State.descErr (s : State) (c : Nat) (d : DmaDesc) : Nat :=
  if descBad (isBulk c) d then 3
  else if (d.srcHost || d.dstHost) && !s.hostReach c then 4
  else if isBulk c && s.offPurpose c d then 4
  else if !d.dstHost && s.region d.dst == .flash then 5
  else 0

/-! ### Leases (R30) -/

/-- 64 KiB cluster blocks of a span. -/
def clusterBlocks (a n : Nat) : List Nat :=
  if n = 0 then [] else (List.range ((a - 0x10000000 + n - 1) / 65536 - (a - 0x10000000) / 65536 + 1)).map (· + (a - 0x10000000) / 65536)

/-- Vectors of a span of the weight memory. -/
def weightVecs (a n : Nat) : List Nat :=
  (List.range ((a % 2 ^ 22 + n - 1) / 256 - a % 2 ^ 22 / 256 + 1)).map (· + a % 2 ^ 22 / 256)

/-- May a DMA channel access a span on the device's side (R29, R30)? Firmware's channels reach every region that R30 opens to
DMA; a bulk channel only what its ring's owner holds. -/
def State.dmaMay (s : State) (own : Option Nat) (a n : Nat) (write : Bool) : Bool :=
  s.spanOk a n && (match s.region a with
    | .dram => (match own with
      | some x => (dramBlocks a n).all (fun b => s.holds x 7 b)
      | none => true)
    | .cluster => (match own with
      | some x => (clusterBlocks a n).all (fun b => s.holds x 6 b)
      | none => true)
    | .weight => write || (match own with
      | some x => (weightVecs a n).all (fun v => (s.regionOf v).any (fun r => s.rgOwner r = x && s.rgGranted r))
      | none => true)
    | .local_ => (match own with
      | some x => (List.range ((a + n - 1) / 0x80000 - a / 0x80000 + 1)).all (fun i => s.holds x 9 ((a - 0x30000000) / 0x80000 + i))
      | none => true)
    | .flash => !write
    | _ => false)

/-- May a channel access this span of its descriptors: on the host side, or where R29 and R30 let it? -/
def State.descMay (s : State) (c a n : Nat) (write : Bool) : Bool := decide (2 ^ 64 ≤ a) || s.dmaMay (s.chOwner c) a n write

/-- Read a descriptor at a key of memory: zeros and a decode error where the access is refused (R29). -/
def State.readDesc (s : State) (c a : Nat) : DmaDesc × State :=
  let may := s.descMay c a 32 false
  let n (o k : Nat) : Nat := if may then s.memN (a + o) k else 0
  let s := if may then s else s.decodeErr
  let d : DmaDesc := ⟨s.dma.nextId, a, n 0 8, n 8 8, n 16 4, n 20 4, n 24 8 % 2 ^ 40, 0, 0, 0⟩
  let d := { d with src := if d.srcHost then d.src else d.src % 2 ^ 40, dst := if d.dstHost then d.dst else d.dst % 2 ^ 40 }
  ({ d with err := s.descErr c d }, { s with dma := { s.dma with nextId := s.dma.nextId + 1 } })

/-- A channel takes up the descriptor at `a`: it becomes the newest of those read and not complete. -/
def State.takeDesc (s : State) (c a : Nat) : State :=
  let r := s.readDesc c a
  let t := r.2.setDescs c (r.2.chDescs c ++ [r.1])
  (if (s.chDescs c).isEmpty then t.put64 (R.DMA_CH_CUR c) a else t).setChSt c (if s.paced c then 3 else 1)

/-- `NEXT` of the descriptor at `a` as memory holds it now. -/
def State.nextOf (s : State) (a : Nat) : Nat := if s.dmaMay none (a + 24) 8 false then s.memN (a + 24) 8 % 2 ^ 40 else 0

/-- The channel parks (R505, R507): a firmware channel records `DBC`. -/
def State.park (s : State) (c : Nat) : State :=
  let n := s.get (R.DMA_CH_STAT c) F.DMA_CH_STAT_DBC
  ({ s with dma := { s.dma with recDbc := s.dma.recDbc.set c n } }).setChSt c 2

/-- The address of the descriptor after those read, if there is one (R505, R507). -/
def State.nextDescAt (s : State) (c : Nat) : Option Nat :=
  if isBulk c then
    let r := chRing c
    let k := (s.chDescs c).length
    if s.ringRuns r && decide (k < s.ringUsed r) then some (s.ringAddr r (s.get (R.HI_RING_CONS r) F.HI_RING_CONS_IDX + k)) else none
  else match (s.chDescs c).getLast? with
    | some d => if s.nextOf d.at_ = 0 then none else some (s.nextOf d.at_)
    | none => if s.nextOf (s.get64 (R.DMA_CH_CUR c)) = 0 then none else some (s.nextOf (s.get64 (R.DMA_CH_CUR c)))

/-- Go on to the next descriptor, or park (R505, R507). -/
def State.chNext (s : State) (c : Nat) : State :=
  match s.nextDescAt c with
  | some a => s.takeDesc c a
  | none => s.park c

/-- A channel is enabled (R505, R511): an IDLE one starts; any other needs RST first. -/
def State.chStart (s : State) (c : Nat) : State :=
  if s.chSt c ≠ 0 || s.chEn c then s
  else
    let t := s.setFlag (R.DMA_CH_CFG c) F.DMA_CH_CFG_EN true
    if isBulk c then t.chNext c else t.takeDesc c (s.get64 (R.DMA_CH_HEAD c) / 32 * 32 % 2 ^ 40)

def execDmaChannelEnable (ch : Fin 16) (s : State) : Host.Outcome State Fault Refusal := .next (s.chStart ch)

/-- A write to DMA_CH_DOORBELL (R505): `DBC` counts it, and a parked firmware channel re-reads its old tail. In A0 a
doorbell in the fabric cycle in which a firmware channel parks is not counted (R619, A0-M1). -/
def execDmaChDoorbell (ch : Fin 16) (sameCycle : Bool) (s : State) : Host.Outcome State Fault Refusal :=
  if sameCycle && !isBulk ch then .next s
  else
    let t := s.incWrap (R.DMA_CH_STAT ch) F.DMA_CH_STAT_DBC
    if s.chSt ch = 2 && s.chEn ch && !isBulk ch && t.get (R.DMA_CH_STAT ch) F.DMA_CH_STAT_DBC != nth s.dma.recDbc ch 0 then .next (t.chNext ch)
    else .next t

/-- PROD of a bulk ring has moved: its parked channel continues (R507). -/
def State.bulkBell (s : State) (c : Nat) : State := if s.chSt c = 2 && s.chEn c then s.chNext c else s

/-- Writing EN = 0 disables a channel at once (R511): descriptors in progress get no write-back; filled slots stay held. -/
def State.chDisable (s : State) (c : Nat) : State :=
  if !s.chEn c then s
  else
    let t := ((s.setFlag (R.DMA_CH_CFG c) F.DMA_CH_CFG_EN false).setChSt c 4).setDescs c []
    t.raiseTo Ev.DMA_CH_DISABLED (s.chOwner c) [c]

def execDmaChannelDisable (ch : Fin 16) (s : State) : Host.Outcome State Fault Refusal := .next (s.chDisable ch)

/-- RST frees a channel's slots, clears its state and `DBC`, and leaves it IDLE (R511). -/
def State.chReset (s : State) (c : Nat) : State :=
  let t := s.setFlag (R.DMA_CH_CFG c) F.DMA_CH_CFG_EN false
  let t := ((t.setChSt c 0).put (R.DMA_CH_STAT c) F.DMA_CH_STAT_ERR 0).put (R.DMA_CH_STAT c) F.DMA_CH_STAT_DBC 0
  let dma := { t.dma with slots := t.dma.slots.filter (fun x => x.ch != c), req := t.dma.req.set c false,
                          recDbc := t.dma.recDbc.set c 0, pushed := t.dma.pushed.set c [] }
  (({ t with dma := dma }).setDescs c []).dmaShow

def execDmaChannelReset (ch : Fin 16) (s : State) : Host.Outcome State Fault Refusal := .next (s.chReset ch)

/-! ### Bursts (R499, R501, R508, R509) -/

/-- The bytes of a descriptor's next burst (R501): to `BURST` bytes, the end of the descriptor, or a 4 KiB boundary of the
source address. -/
def burstLen (d : DmaDesc) : Nat :=
  let src := if d.srcFix then d.src else d.src + d.readN
  min (min (2 ^ d.burst) (d.len - d.readN)) (if d.srcFix then 4096 else 4096 - src % 4096)

/-- A channel's rate limit in MB/s, 0 for none (R509); from throttle stage 1 on a bulk channel has 128 MB/s at most (R567). -/
def State.chRate (s : State) (c : Nat) : Nat :=
  let r := s.get (R.DMA_CH_RATE c) F.DMA_CH_RATE_RATE
  if isBulk c && s.get R.TH_STAT F.TH_STAT_STAGE != 0 then (if r = 0 then 128 else min r 128) else r

/-- The descriptor whose next burst a channel would read: the first with bytes left and no error. -/
def State.readable (s : State) (c : Nat) : Option DmaDesc := (s.chDescs c).find? (fun d => d.err = 0 && decide (d.readN < d.len))

/-- A channel takes up its next descriptor before the current ones complete, unless that one has `FENCE` (R501). -/
def State.readAhead (s : State) (c : Nat) : State :=
  if (s.readable c).isSome || (s.chDescs c).isEmpty || (s.chDescs c).any (fun d => d.err != 0) || s.paced c then s
  else match s.nextDescAt c with
    | some a => if (s.readDesc c a).1.bit 7 then s else s.takeDesc c a
    | none => s

/-- The burst is ready for the read engine: running, a slot to hold it, its bytes in the bucket (R499, R509), data there for
an in-band source (R503). -/
def State.burstReady (s : State) (c : Nat) : Bool :=
  let t := s.readAhead c
  s.chEn c && s.chSt c = 1 && decide (s.chHeld c < s.get (R.DMA_CH_CFG c) F.DMA_CH_CFG_SLOTS) &&
    (!s.paced c || nth s.dma.req c false) && (match t.readable c with
    | none => false
    | some d =>
      (s.chRate c = 0 || decide (burstLen d * 12288 ≤ nth s.dma.bucket c 0)) &&
        (!d.srcHost || (match s.chOwner c with
          | some x => s.ctxAtt x != 2 || decide (burstLen d ≤ (nth s.dma.pushed c []).length)
          | none => true)))

/-- The channel that gets a free slot: lowest `PRIO`, then round robin (R499). -/
def State.readChannel (s : State) : Option Nat :=
  let k (c : Nat) : Nat := 16 * s.get (R.DMA_CH_CFG c) F.DMA_CH_CFG_PRIO + (c + 16 - (s.dma.lastRd + 1)) % 16
  ((List.range 16).filter s.burstReady).foldl (fun (m : Option Nat) c => match m with
    | none => some c
    | some b => if k c < k b then some c else some b) none

/-- The lowest FREE slot. -/
def State.freeSlot (s : State) : Option Nat := (List.range 64).find? (fun i => !s.dma.slots.any (fun x => x.slot = i))

/-- The read engine starts a burst into a free slot (R499). -/
def execDmaBurstReadStart (s : State) : Host.Outcome State Fault Refusal :=
  match s.readChannel, s.freeSlot with
  | some c, some k =>
    let t := s.readAhead c
    match t.readable c with
    | none => .next s
    | some d =>
      let n := burstLen d
      let x : DmaSlot := ⟨k, c, 1, if d.srcFix then d.src else d.src + d.readN, if d.dstFix then d.dst else d.dst + d.readN, n, [], d.id, 0⟩
      let rate := s.chRate c
      let b := nth t.dma.bucket c 0
      let dma := { t.dma with slots := t.dma.slots ++ [x], lastRd := c, req := t.dma.req.set c false,
                              bucket := t.dma.bucket.set c (if rate = 0 then b else b - n * 12288) }
      .next (({ t with dma := dma }).setDesc c { d with readN := d.readN + n }).dmaShow
  | _, _ => .next s

/-- A descriptor meets an error (R510): the first one stands; its FULL slots are freed unwritten. -/
def State.descFail (s : State) (c id err : Nat) : State :=
  match (s.chDescs c).find? (fun d => d.id = id) with
  | none => s
  | some d =>
    let t := if d.err = 0 then s.setDesc c { d with err := err } else s
    ({ t with dma := { t.dma with slots := t.dma.slots.filter (fun x => !(x.ch = c && x.desc = id && x.state = 2)) } }).dmaShow

/-- The bytes of a burst from its source (R29, R30, R503, R460): none where the access is refused. -/
def State.burstData (s : State) (c : Nat) (d : DmaDesc) (x : DmaSlot) : Option (List Byte) × State :=
  if d.srcHost then
    (match s.chOwner c with
    | some y =>
      if s.ctxAtt y = 2 then
        (some ((nth s.dma.pushed c []).take x.n),
          { s with dma := { s.dma with pushed := s.dma.pushed.set c ((nth s.dma.pushed c []).drop x.n) } })
      else (some (s.bytes (hostMem (s.ctxAtt y) + x.src) x.n), s)
    | none => (none, s))
  else if !isBulk c && d.srcFix && periphSource d.src then
    (let r := s.periphBurst d.src (x.n / periphElem d.src)
     (some r.1, r.2))
  else if s.region x.src == .regs then (none, s)
  else if s.dmaMay (s.chOwner c) x.src x.n false then (some (s.bytes x.src x.n), s)
  else (none, s.decodeErr)

/-- The read engine has filled a slot (R499, R510). `hostErr` is a completer abort or unsupported request on host memory. -/
def execDmaBurstFilled (slot : Fin 64) (hostErr : Bool) (s : State) : Host.Outcome State Fault Refusal :=
  match s.dma.slots.find? (fun x => x.slot = slot.val && x.state = 1) with
  | none => .next s
  | some x =>
    let drop (t : State) : State := ({ t with dma := { t.dma with slots := t.dma.slots.filter (fun y => y.slot != slot.val) } }).dmaShow
    let full (t : State) (b : List Byte) : State :=
      { t with dma := { t.dma with fill := t.dma.fill + 1, slots := t.dma.slots.map (fun y =>
          if y.slot = slot.val then { y with state := 2, data := b, order := t.dma.fill } else y) } }
    match (s.chDescs x.ch).find? (fun d => d.id = x.desc) with
    | none => .next (full s [])
    | some d =>
      if d.err ≠ 0 then .next (drop s)
      else if d.srcHost && hostErr then .next (drop (s.descFail x.ch d.id 2))
      else
        let r := s.burstData x.ch d x
        match r.1 with
        | some b => .next (full r.2 b)
        | none => .next (drop (r.2.descFail x.ch d.id 1))

/-- The slot the write engine drains: of each channel the one filled first, the channels round robin (R499). -/
def State.drainSlot (s : State) : Option DmaSlot :=
  let live (x : DmaSlot) : Bool := x.state = 2 && (s.chDescs x.ch).any (fun d => d.id = x.desc)
  let k (x : DmaSlot) : Nat := (x.ch + 16 - (s.dma.lastWr + 1)) % 16
  (s.dma.slots.filter live).foldl (fun (m : Option DmaSlot) (x : DmaSlot) => match m with
    | none => some x
    | some y => if k x < k y || (x.ch = y.ch && decide (x.order < y.order)) then some x else some y) none

/-- Bytes accepted at the destination (R517). -/
def State.dmaCount (s : State) (c n : Nat) : State :=
  s.count48 (R.DMA_CH_BYTES c) n (fun t => (t.stickFlag (R.DMA_CH_STAT c) F.DMA_CH_STAT_BOVF).raiseTo Ev.DMA_CNT_WRAP (t.chOwner c) [c])

/-- A channel byte counter wraps at 2⁴⁸ as `n` further bytes are counted (R517). -/
def execDmaCntWrap (ch : Fin 16) (n : BitVec 13) (s : State) : Host.Outcome State Fault Refusal :=
  when_ (2 ^ 48 ≤ s.get64 (R.DMA_CH_BYTES ch) % 2 ^ 48 + n.toNat) (s.dmaCount ch n.toNat) s

/-- Data of a bulk ring for an in-band host leave in RECORDS operations of at most 1,024 bytes (R503). -/
def State.recordsOut (s : State) (r : Nat) (b : List Byte) : State :=
  { s with hi := { s.hi with records := s.hi.records ++ (List.range ((b.length + 1023) / 1024)).map (fun i => (r, (b.drop (1024 * i)).take 1024)) } }

/-- Write a burst to its destination: none where it is refused (R30, R242, R460, R503). In-band data leave as RECORDS
operations. -/
def State.burstStore (s : State) (c : Nat) (d : DmaDesc) (x : DmaSlot) : Option State × State :=
  if d.dstHost then
    (match s.chOwner c with
    | some y => (some (if s.ctxAtt y = 2 then s.recordsOut (chRing c) x.data else s.setBytes (hostMem (s.ctxAtt y) + x.dst) x.data), s)
    | none => (none, s))
  else if !isBulk c && d.dstFix && periphSink d.dst then (some (s.periphWrite d.dst x.data), s)
  else if s.region x.dst == .regs then (none, s)
  else if !s.dmaMay (s.chOwner c) x.dst x.n true then (none, s.decodeErr)
  else if s.region x.dst == .weight then
    (match (weightVecs x.dst x.n).find? (fun v => !s.mayWriteVec (s.chOwner c) v) with
     | none => (some (s.setBytes x.dst x.data), s)
     | some v => (none, s.blockWrite (s.chOwner c) v))
  else (some (s.setBytes x.dst x.data), s)

/-- A paced channel's burst is done: it waits for the next assertion (R508). -/
def State.burstEnd (s : State) (c : Nat) : State := if s.paced c && s.chSt c = 1 && s.chHeld c = 0 then s.setChSt c 3 else s

/-- The write engine drains a FULL slot to its destination (R499, R510). -/
def execDmaBurstWrite (hostErr : Bool) (s : State) : Host.Outcome State Fault Refusal :=
  match s.drainSlot with
  | none => .next s
  | some x =>
    match (s.chDescs x.ch).find? (fun d => d.id = x.desc) with
    | none => .next s
    | some d =>
      let free (t : State) : State :=
        (({ t with dma := { t.dma with lastWr := x.ch, slots := t.dma.slots.filter (fun y => y.slot != x.slot) } }).dmaShow).burstEnd x.ch
      if d.dstHost && hostErr then .next (free (s.descFail x.ch d.id 2))
      else match s.burstStore x.ch d x with
        | (some t, _) => .next (free ((t.setDesc x.ch { d with doneN := d.doneN + x.n }).dmaCount x.ch x.n))
        | (none, t) => .next (free (t.descFail x.ch d.id 1))

/-! ### Completion (R501, R507, R508, R510) -/

/-- The status byte, control bits 31:24, of a descriptor (R502), where R29, R30 and R238 let it be written. -/
def State.writeBack (s : State) (c : Nat) (d : DmaDesc) : State :=
  if !s.descMay c (d.at_ + 23) 1 true then s.decodeErr
  else if d.at_ < 2 ^ 64 && s.region d.at_ == .weight then (match s.chOwner c with
    | some x => s.count (R.BF_WRITE_BLOCK_CNT x)
    | none => s)
  else s.setByte (d.at_ + 23) (BitVec.ofNat 8 (128 + d.err))

/-- A pulse (R508): an arrival at a barrier (a pulse stands as core 16), or a pulse on an output. -/
def State.pulse (s : State) (p : Nat) : State :=
  if p < 6 then
    let e := nth s.nvc.bars p (0, [])
    { s with nvc := { s.nvc with bars := s.nvc.bars.set p (e.1, e.2 ++ [16]) } }
  else { s with dma := { s.dma with pulses := s.dma.pulses.set (p - 8) (nth s.dma.pulses (p - 8) 0 + 1) } }

/-- A bulk descriptor is consumed: CONS advances, and `ICNT` counts it (R507). -/
def State.bulkCons (s : State) (c : Nat) : State := (s.incWrap (R.HI_RING_CONS (chRing c)) F.HI_RING_CONS_IDX).ringWrote (chRing c)

/-- The descriptor in progress ended with an error (R510). -/
def State.descErrEnd (s : State) (c : Nat) (d : DmaDesc) : State :=
  let t := (s.writeBack c d).put (R.DMA_CH_STAT c) F.DMA_CH_STAT_ERR d.err
  let t := t.count (R.DMA_CH_ERR_CNT c)
  if !isBulk c then (t.setChSt c 5).raise Ev.DMA_CH_ERROR [c, d.err]
  else if d.err = 2 then ((t.ringError (chRing c) 2).park c).raiseTo Ev.DMA_CH_ERROR (s.chOwner c) [c, d.err]
  else
    let u := t.bulkCons c
    if (u.chDescs c).isEmpty then u.chNext c else u

/-- A descriptor's last byte is accepted, or its error has stopped it (R501, R510). -/
def execDmaDescriptorComplete (ch : Fin 16) (s : State) : Host.Outcome State Fault Refusal :=
  match s.chDescs ch with
  | [] => .next s
  | d :: l =>
    let held := s.dma.slots.any (fun x => x.ch = ch.val && x.desc = d.id)
    if held || (d.err = 0 && decide (d.doneN < d.len)) then .next s
    else
      let t := s.setDescs ch l
      let t := match l with
        | e :: _ => t.put64 (R.DMA_CH_CUR ch) e.at_
        | [] => t
      if d.err ≠ 0 then .next (t.descErrEnd ch d)
      else
        let t := if d.bit 6 then t.writeBack ch d else t
        let t := if isBulk ch then t.bulkCons ch else if d.bit 5 then t.pulse d.ptgt else t
        .next (if l.isEmpty then t.chNext ch else t)

/-- A request line can assert (R458 to R460, R560): its FIFO holds its watermark, or has its free places. Lines 6 and 7 follow the flash
controller and the harvester. -/
def State.lineHigh (s : State) (line : Nat) : Bool :=
  if line = 0 then decide (s.get R.HK_FIFO_CFG F.HK_FIFO_CFG_WM ≤ s.hk.fifoReg.length)
  else if line = 1 then decide (s.get R.HK_FIFO_CFG F.HK_FIFO_CFG_WMS ≤ s.hk.fifoSq.length)
  else if line = 2 then decide (16 ≤ s.hi.uartRx.length) else if line = 3 then decide (s.hi.uartTx.length + 16 ≤ 64)
  else if line = 4 then decide (16 ≤ s.hi.i2cRx.length) else if line = 5 then decide (s.hi.i2cTx.length + 16 ≤ 64) else true

/-- A request line asserts (R508): every paced channel on it may move one burst. -/
def execDmaRequestAssert (line : Fin 8) (s : State) : Host.Outcome State Fault Refusal :=
  if !s.lineHigh line then .next s
  else .next ((List.range 8).foldl (fun (t : State) c =>
    if t.paced c && t.chSt c = 3 && t.chEn c && t.get (R.DMA_CH_CFG c) F.DMA_CH_CFG_REQ = line.val then
      ({ t with dma := { t.dma with req := t.dma.req.set c true } }).setChSt c 1
    else t) s)

/-- DMA agrees to Frost: no channel RUNNING or WAIT_REQ, none holding a slot (R512). -/
def State.dmaAgrees (s : State) : Bool := (List.range 16).all (fun c => s.chSt c != 1 && s.chSt c != 3 && s.chHeld c = 0)

/-- One DFE cycle fills the channels' buckets: 4 KiB at most (R509). -/
def State.dmaTick (s : State) : State :=
  { s with dma := { s.dma with bucket := (List.range 16).map (fun c =>
      min (4096 * 12288) (nth s.dma.bucket c 0 + 25 * s.chRate c)) } }

end Sys2Proof.Machine
end

