-- ==== Sys2Proof/Machine/Float.lean ====
section
/-! DEFINITION. FP32 as the Nalvilos cores compute it (R283): IEEE 754 binary32, rounding to nearest even, subnormal
inputs and results flushed to zero, no traps. Values are computed exactly and rounded once. -/

namespace Sys2Proof.Machine

/-- What an operation met: invalid, overflow, flush (R283). -/
structure FFlags where
  inv : Bool
  ovf : Bool
  ufl : Bool
  deriving DecidableEq, Repr

def FFlags.none : FFlags := ⟨false, false, false⟩
def FFlags.or (a b : FFlags) : FFlags := ⟨a.inv || b.inv, a.ovf || b.ovf, a.ufl || b.ufl⟩

/-- A value before rounding: not a number, an infinity, a zero with its sign, or m × 2^e. -/
inductive FVal where
  | nan
  | inf (neg : Bool)
  | zero (neg : Bool)
  | fin (m e : Int)
  deriving DecidableEq, Repr

/-- Read a binary32 word; a subnormal is flushed to zero with its sign, and reported. -/
def fUnpack (w : Word) : FVal × FFlags :=
  let neg := w.toNat.testBit 31
  let e : Nat := w.toNat / 2 ^ 23 % 256
  let f : Nat := w.toNat % 2 ^ 23
  if e = 255 then ((if f = 0 then .inf neg else .nan), .none)
  else if e = 0 then (.zero neg, ⟨false, false, f != 0⟩)
  else (.fin (if neg then -((f + 2 ^ 23 : Nat) : Int) else ((f + 2 ^ 23 : Nat) : Int)) ((e : Int) - 150), .none)

/-- The word of a sign, a biased exponent and a fraction. -/
def fPack (neg : Bool) (e f : Nat) : Word := BitVec.ofNat 32 ((if neg then 2 ^ 31 else 0) + e * 2 ^ 23 + f)

/-- The quotient by 2^k rounded to nearest, ties to even. -/
def shiftRne (n k : Nat) : Nat :=
  let q := n / 2 ^ k
  let r := 2 * (n % 2 ^ k)
  if 2 ^ k < r || (r = 2 ^ k && k != 0 && q % 2 = 1) then q + 1 else q

/-- Round m × 2^e to a binary32 word: tiny results are flushed, too large ones become infinite. -/
def fRound (m e : Int) : Word × FFlags :=
  if m = 0 then (fPack false 0 0, .none)
  else
    let n := m.natAbs
    let l := Nat.log2 n + 1
    let q := if l ≤ 24 then n * 2 ^ (24 - l) else shiftRne n (l - 24)
    let x : Int := e + (l : Int) - 24
    let (q, x) := if q = 2 ^ 24 then (2 ^ 23, x + 1) else (q, x)
    let b : Int := x + 150
    let neg := decide (m < 0)
    if b ≤ 0 then (fPack neg 0 0, ⟨false, false, true⟩)
    else if 255 ≤ b then (fPack neg 255 0, ⟨false, true, false⟩)
    else (fPack neg b.toNat (q - 2 ^ 23), .none)

/-- The word of a value; a NaN that no invalid operation made has a payload the spec does not give: `free` (log
entry 6). -/
def fOut (v : FVal) (fl : FFlags) (free : Word) : Word × FFlags :=
  match v with
  | .nan => ((if fl.inv then 0x7FC00000#32 else free ||| 0x7FC00000#32), fl)
  | .inf neg => (fPack neg 255 0, fl)
  | .zero neg => (fPack neg 0 0, fl)
  | .fin m e => ((fRound m e).1, fl.or (fRound m e).2)

/-- Sign of a value that is not NaN. -/
def FVal.neg : FVal → Bool
  | .nan => false
  | .inf n => n
  | .zero n => n
  | .fin m _ => decide (m < 0)

/-- The exact product. -/
def fMul (a b : FVal) : FVal × FFlags :=
  let s := a.neg != b.neg
  match a, b with
  | .nan, _ => (.nan, .none)
  | _, .nan => (.nan, .none)
  | .inf _, .zero _ => (.nan, ⟨true, false, false⟩)
  | .zero _, .inf _ => (.nan, ⟨true, false, false⟩)
  | .inf _, _ => (.inf s, .none)
  | _, .inf _ => (.inf s, .none)
  | .zero _, _ => (.zero s, .none)
  | _, .zero _ => (.zero s, .none)
  | .fin m e, .fin n f => (.fin (m * n) (e + f), .none)

/-- The exact sum of two values. An exact zero is positive unless both terms are negative zeros. -/
def fAdd (a b : FVal) : FVal × FFlags :=
  match a, b with
  | .nan, _ => (.nan, .none)
  | _, .nan => (.nan, .none)
  | .inf x, .inf y => if x = y then (.inf x, .none) else (.nan, ⟨true, false, false⟩)
  | .inf x, _ => (.inf x, .none)
  | _, .inf y => (.inf y, .none)
  | .zero x, .zero y => (.zero (x && y), .none)
  | .zero _, v => (v, .none)
  | v, .zero _ => (v, .none)
  | .fin m e, .fin n f =>
    let k := min e f
    let z := m * 2 ^ (e - k).toNat + n * 2 ^ (f - k).toNat
    if z = 0 then (.zero false, .none) else (.fin z k, .none)

/-- The negated value. -/
def FVal.negate : FVal → FVal
  | .nan => .nan
  | .inf n => .inf (!n)
  | .zero n => .zero (!n)
  | .fin m e => .fin (-m) e

/-- a × b + c, rounded once. -/
def fFma (a b c free : Word) : Word × FFlags :=
  let (x, fx) := fUnpack a
  let (y, fy) := fUnpack b
  let (z, fz) := fUnpack c
  let (p, fp) := fMul x y
  let (r, fr) := fAdd p z
  fOut r (fx.or (fy.or (fz.or (fp.or fr)))) free

/-- a × b. -/
def fMulW (a b free : Word) : Word × FFlags :=
  let (x, fx) := fUnpack a
  let (y, fy) := fUnpack b
  let (p, fp) := fMul x y
  fOut p (fx.or (fy.or fp)) free

/-- a + b. -/
def fAddW (a b free : Word) : Word × FFlags :=
  let (x, fx) := fUnpack a
  let (y, fy) := fUnpack b
  let (r, fr) := fAdd x y
  fOut r (fx.or (fy.or fr)) free

/-- p ± q + c with p = a × b and q = d × f, one component of a complex multiply-add, rounded once (DEDUCED, log
entry 17). -/
def fPair (a b d f : Word) (minus : Bool) (c free : Word) : Word × FFlags :=
  let (x, fx) := fUnpack a
  let (y, fy) := fUnpack b
  let (u, fu) := fUnpack d
  let (v, fv) := fUnpack f
  let (z, fz) := fUnpack c
  let (p, fp) := fMul x y
  let (q, fq) := fMul u v
  let (r, fr) := fAdd p (if minus then q.negate else q)
  let (t, ft) := fAdd r z
  fOut t (fx.or (fy.or (fu.or (fv.or (fz.or (fp.or (fq.or (fr.or ft)))))))) free

/-- The first twelve bits of an exact significand, the rest free (R283, log entry 17). -/
def estBits (t : Nat) (free : Word) : Nat :=
  let k := Nat.log2 t + 1 - 12
  t / 2 ^ k * 2 ^ k + free.toNat % 2 ^ k

/-- The reciprocal estimate. -/
def fRcp (a free : Word) : Word × FFlags :=
  let (x, fx) := fUnpack a
  match x with
  | .nan => fOut .nan fx free
  | .inf n => fOut (.zero n) fx free
  | .zero n => fOut (.inf n) fx free
  | .fin m e => fOut (.fin ((if m < 0 then -1 else 1) * (estBits (2 ^ 47 / m.natAbs) free : Nat)) (-47 - e)) fx free

/-- The reciprocal square root estimate. -/
def fRsqrt (a free : Word) : Word × FFlags :=
  let (x, fx) := fUnpack a
  match x with
  | .nan => fOut .nan fx free
  | .zero n => fOut (.inf n) fx free
  | .inf false => fOut (.zero false) fx free
  | .inf true => fOut .nan (fx.or ⟨true, false, false⟩) free
  | .fin m e =>
    if m < 0 then fOut .nan (fx.or ⟨true, false, false⟩) free
    else
      let n := if e % 2 = 0 then m.natAbs else 2 * m.natAbs
      let e := if e % 2 = 0 then e else e - 1
      fOut (.fin (estBits (Nat.sqrt (2 ^ 72 / n)) free : Nat) (-36 - e / 2)) fx free

/-- The order of two values: less, equal or greater; none with a NaN. -/
def fCompare (a b : Word) : Option Ordering :=
  match (fUnpack a).1, (fUnpack b).1 with
  | .nan, _ => none
  | _, .nan => none
  | x, y =>
    let big (v : FVal) : Int := match v with
      | .inf true => -1
      | .inf false => 1
      | _ => 0
    if big x != 0 || big y != 0 then some (compare (big x) (big y))
    else
      let z := (fAdd x y.negate).1
      some (match z with
        | .fin m _ => if m < 0 then .lt else .gt
        | _ => .eq)

/-- An integer component times 2^k. -/
def fOfInt (i : Int) (k : Int) : Word × FFlags := fRound i k

/-- A value times 2^k rounded to an integer, ties to even: none where there is none to round to. -/
def fToInt (w : Word) (k : Int) : Option Int × FFlags :=
  let (x, fx) := fUnpack w
  match x with
  | .nan => (none, fx.or ⟨true, false, false⟩)
  | .inf _ => (none, fx.or ⟨true, false, false⟩)
  | .zero _ => (some 0, fx)
  | .fin m e =>
    let x := e + k
    let n := if 0 ≤ x then m.natAbs * 2 ^ (min x.toNat 400) else shiftRne m.natAbs (min (-x).toNat 400)
    (some (if m < 0 then -(n : Int) else n), fx)

end Sys2Proof.Machine
end

