-- ==== Sys2Proof/Machine/Flags.lean ====
section
/-! DEFINITION. Rounding, saturation and wrapping, and the flags that tell of them: the four roundings of R281, the sticky
flags of R282 and R283, and the DFE's shift with rounding (R188). -/

namespace Sys2Proof.Machine

/-- An integer shifted right by `n` bits and rounded by `rnd` (R281): 0 towards minus infinity, 1 half up, 2 half to even,
3 half away from zero. -/
def roundShift (rnd n : Nat) (x : Int) : Int :=
  let d : Int := (2 ^ n : Nat)
  if n = 0 then x
  else match rnd with
    | 0 => x / d
    | 1 => (x + (2 ^ (n - 1) : Nat)) / d
    | 2 =>
      let q := x / d
      let r := 2 * (x % d)
      if d < r || (r = d && q % 2 = 1) then q + 1 else q
    | _ => if 0 ≤ x then (x + (2 ^ (n - 1) : Nat)) / d else -((-x + (2 ^ (n - 1) : Nat)) / d)

/-- The sticky flags an instruction sets (R306). -/
structure NvFlags where
  sat : Bool
  ovf : Bool
  inv : Bool
  fovf : Bool
  ufl : Bool
  deriving DecidableEq, Repr

def NvFlags.none : NvFlags := ⟨false, false, false, false, false⟩
def NvFlags.or (a b : NvFlags) : NvFlags :=
  ⟨a.sat || b.sat, a.ovf || b.ovf, a.inv || b.inv, a.fovf || b.fovf, a.ufl || b.ufl⟩

/-- A result in a `w`-bit destination: clamped with `S` = 1, wrapped with `S` = 0, with the flag that tells (R282). -/
def fitS (w : Nat) (sat : Bool) (x : Int) : Nat × NvFlags :=
  if satS w x = x then (unsigned w x, .none)
  else if sat then (unsigned w (satS w x), { NvFlags.none with sat := true })
  else (unsigned w x, { NvFlags.none with ovf := true })

/-- Set the sticky flags of a core (R282, R283, R306). -/
def State.nvFlags (s : State) (c : Nat) (f : NvFlags) : State :=
  let m := maskOf ((if f.sat then [0] else []) ++ (if f.ovf then [1] else []) ++ (if f.inv then [2] else []) ++
    (if f.fovf then [3] else []) ++ (if f.ufl then [4] else []))
  if m = 0 then s else s.stick (R.NVC_CORE_FLAGS c) (BitVec.ofNat 32 m)

/-- A saturation of the DFE or of the beamformer (R188, R233): the 16-bit value, and whether it was clamped. -/
def sat16 (x : Int) : Int × Bool := (satS 16 x, satS 16 x != x)

end Sys2Proof.Machine
end

