-- ==== Sys2Proof/Machine/Operands.lean ====
section
/-! DEFINITION. The operands of Nalvilos slot words (R276, R280, R284, R290, R293): registers, rotation, lanes, masks,
pointers and their four addressing modes. -/

namespace Sys2Proof.Machine

/-- Bits `lo` to `lo + w − 1` of a slot word. -/
def wf (lo w : Nat) (x : Word) : Nat := fldGet ⟨lo, w⟩ x

/-- The class of a slot word (R292). -/
def wClass (x : Word) : Nat := wf 28 4 x

/-- The physical register that Vk names with rotating base `rb` (R290). -/
def physV (rb k : Nat) : Nat := if k < 16 then k else 16 + (k - 16 + rb) % 16

/-- Lane `i` of a vector register as a word. -/
def laneW (v : BitVec 512) (i : Nat) : Word := BitVec.ofNat 32 (v.toNat / 2 ^ (32 * i))

/-- A vector register from its sixteen lanes, lane 0 lowest. -/
def ofLanes (l : List Word) : BitVec 512 := BitVec.ofNat 512 (l.foldr (fun w n => w.toNat + 2 ^ 32 * n) 0)

/-- I and Q of a CI16 lane (R280). -/
def laneI (w : Word) : Int := signed 16 w.toNat
def laneQ (w : Word) : Int := signed 16 (w.toNat / 2 ^ 16)
def mkLane (i q : Nat) : Word := BitVec.ofNat 32 (i % 2 ^ 16 + 2 ^ 16 * (q % 2 ^ 16))

/-- A mask: M0 reads all ones (R276). -/
def NvCore.mask (k : NvCore) (i : Nat) : BitVec 16 := if i = 0 then 0xFFFF else nth k.m i 0

/-- A scalar register: S0 reads zero (R276). -/
def NvCore.sr (k : NvCore) (i : Nat) : Word := if i = 0 then 0 else nth k.r i 0

/-- A scalar register written: S0 discards it. -/
def NvCore.setSr (k : NvCore) (i : Nat) (w : Word) : NvCore := if i = 0 then k else { k with r := k.r.set i w }

/-- A mask written: M0 discards it. -/
def NvCore.setMask (k : NvCore) (i : Nat) (b : BitVec 16) : NvCore := if i = 0 then k else { k with m := k.m.set i b }

/-- The vector that an operand code names (R293): a V register, XD or YD; a slot that loads no operand leaves zero
(R278). -/
def NvCore.opnd (k : NvCore) (rb : Nat) (xd yd : Option (BitVec 512)) (code : Nat) : BitVec 512 :=
  if code < 32 then nth k.v (physV rb code) 0
  else if code = 32 then xd.getD 0
  else if code = 33 then yd.getD 0
  else 0

/-- A pointer of X (`y` = false) or Y. -/
def NvCore.ptr (k : NvCore) (y : Bool) (i : Nat) : NvPtr := nth (if y then k.y else k.x) i {}
def NvCore.setPtr (k : NvCore) (y : Bool) (i : Nat) (p : NvPtr) : NvCore :=
  if y then { k with y := k.y.set i p } else { k with x := k.x.set i p }

/-- A pointer moved on (R284): mode 0 not, mode 1 by the immediate, mode 2 by the modifier, mode 3 by the immediate inside
the circular buffer; length 0 disables the circular mode (R276). -/
def NvPtr.next (p : NvPtr) (mode : Nat) (imm : BitVec 12) (size : Nat) : NvPtr :=
  let step : BitVec 17 := BitVec.ofInt 17 (imm.toInt * (size : Int))
  if mode = 0 then p
  else if mode = 2 then { p with p := p.p + p.md }
  else if mode = 1 || p.len = 0 then { p with p := p.p + step }
  else
    let at_ : Int := ((p.p.toNat : Int) - (p.base.toNat : Int) + imm.toInt * (size : Int)) % (p.len.toNat : Int)
    { p with p := BitVec.ofInt 17 ((p.base.toNat : Int) + at_) }

/-- The access size of a slot 1 or 2 class (R284): vector 64, scalar pair 8, broadcast 4; a pointer update counts in the
size its word means. -/
def memSize (cls : Nat) (o : OpM) : Nat :=
  if cls = 4 || cls = 5 then 8 else if cls = 7 then 4 else if cls = 6 then (if o.unit = 0 then 64 else if o.unit = 1 then 8 else 4) else 64

end Sys2Proof.Machine
end

