-- ==== Sys2Proof/Machine/Nvc.lean ====
section
/-! DEFINITION. Nalvilos bundles (R275 to R293, R302): a bundle is fetched from PM at PC; the classes and fields that R292 and
R293 place are read from its words, and what they do not place comes with the command (log entry 16). -/

namespace Sys2Proof.Machine

/-! ### Which words an operation fits (R292) -/

def op0Class (o : Op0) : Nat :=
  match o with
  | .plain => 0
  | .reg .. => 1
  | .imm .. => 2
  | .movi .. => 2
  | .br => 3
  | .brc _ => 3
  | .call => 4
  | .ret => 4
  | .start .. => 6
  | .waitFlag _ => 6
  | .status .. => 6
  | .done _ => 7
  | .rot => 7
  | .bsync .. => 7
  | .mbxr .. => 7
  | .mbxw .. => 7
  | .waitmbx => 7
  | .flags _ => 7
  | .halt => 7
  | .addr .. => 8

def op3Class (o : Op3) : Nat :=
  match o with
  | .plain => 0
  | .cmac | .cmacc | .cmsu | .cmsuc | .clr => 1
  | .int .. => 2
  | .ext | .cmul | .cmulc => 3
  | .fp _ => 4
  | .perm _ => 5
  | .cmp .. => 6
  | .rcp | .rsqrt | .lsum .. | .lmax .. => 7

/-- The classes of slot 0 that need an operation from the command. -/
def op0Fits (w : Word) (o : Op0) : Bool :=
  if wClass w = 0 || wClass w = 5 || 9 ≤ wClass w then o = .plain else op0Class o = wClass w
def op3Fits (w : Word) (o : Op3) : Bool := if wClass w = 0 || 8 ≤ wClass w then o = .plain else op3Class o = wClass w

/-! ### Reserved words (R292, R293) -/

/-- Class 0 is the NOP word alone. -/
def nopOnly (w : Word) : Bool := wClass w = 0 && w != 0

/-- Reserved words of slot 0. An immediate count of 0 and a body of 0 lie outside the ranges of R289 and R293 and are taken as reserved
(DESIGN CHOICE, log entry 117). -/
def bad0 (w : Word) : Bool :=
  nopOnly w || decide (9 ≤ wClass w) || (wClass w = 5 && (wf 15 10 w = 0 || (wf 27 1 w = 0 && wf 0 15 w = 0)))

def badM (w : Word) : Bool :=
  nopOnly w || decide (8 ≤ wClass w) || (wClass w != 0 && wf 0 7 w != 0) ||
    ((wClass w = 4 || wClass w = 5) && decide (16 ≤ wf 7 5 w)) || (wClass w = 6 && wf 24 2 w = 0)

/-- Operand codes: 34 to 39 only for EXT, its `SB` a shift of 0 to 47; with bit 5 of `OP` the first two name ACC6 and
ACC7. -/
def bad3 (w : Word) (o : Op3) : Bool :=
  nopOnly w || decide (8 ≤ wClass w) ||
    (wClass w != 0 && (if o = .ext then
        !(decide (34 ≤ wf 10 6 w) && decide (wf 10 6 w ≤ (if wf 27 1 w = 1 then 35 else 39))) || decide (48 ≤ wf 4 6 w)
      else decide (34 ≤ wf 10 6 w) || decide (34 ≤ wf 4 6 w)))

/-! ### Slot 3 -/

/-- What a compute instruction writes: a V register, an accumulator or a mask, and its flags. -/
structure NvRes where
  v : Option (Nat × BitVec 512)
  acc : Option (Nat × List (BitVec 48 × BitVec 48))
  m : Option (Nat × BitVec 16)
  fl : NvFlags

def NvRes.none : NvRes := ⟨.none, .none, .none, .none⟩

/-- Sixteen lanes with their flags joined; a lane whose mask bit is 0 keeps its destination value (R293). -/
def lanes16 (m : BitVec 16) (old : BitVec 512) (f : Nat → Word × NvFlags) : BitVec 512 × NvFlags :=
  let l := (List.range 16).map (fun i => if m.toNat.testBit i then f i else (laneW old i, NvFlags.none))
  (ofLanes (l.map Prod.fst), (l.map Prod.snd).foldl NvFlags.or .none)

/-- The two 16-bit components of a lane fitted to their width (R282). -/
def fit2 (s : Bool) (i q : Int) : Word × NvFlags :=
  let a := fitS 16 s i
  let b := fitS 16 s q
  (mkLane a.1 b.1, a.2.or b.2)

/-- The exact complex product of two CI16 lanes, the second conjugated or not (R281). -/
def cprod (a b : Word) (conj : Bool) : Int × Int :=
  let c := laneI b
  let d := if conj then -laneQ b else laneQ b
  (laneI a * c - laneQ a * d, laneI a * d + laneQ a * c)

/-- One component of an integer vector operation: `w` bits wide. A shift by the width or more has a result the spec does not
give (log entry 6). -/
def intOp (op : IOp) (w : Nat) (a b : Int) (free : Nat) : Int :=
  let u (x : Int) : Nat := unsigned w x
  match op with
  | .add => a + b
  | .sub => a - b
  | .abs2 => a * a
  | .min => min a b
  | .max => max a b
  | .and_ => signed w (u a &&& u b)
  | .or_ => signed w (u a ||| u b)
  | .xor_ => signed w (u a ^^^ u b)
  | .sll => if u b < w then a * (2 ^ u b : Nat) else signed w free
  | .sra => if u b < w then a / (2 ^ u b : Nat) else signed w free

/-- One lane of an integer vector operation (R282, R292): on CI16 both components, ABS2 the sum of their squares in 32
bits; else a 32-bit lane. -/
def intLane (op : IOp) (e : Elem) (s : Bool) (a b free : Word) : Word × NvFlags :=
  if e = .ci16 then
    (if op = .abs2 then
      let x := fitS 32 s (laneI a * laneI a + laneQ a * laneQ a)
      (BitVec.ofNat 32 x.1, x.2)
     else fit2 s (intOp op 16 (laneI a) (laneI b) free.toNat) (intOp op 16 (laneQ a) (laneQ b) (free.toNat / 2 ^ 16)))
  else
    let x := fitS 32 s (intOp op 32 a.toInt b.toInt free.toNat)
    (BitVec.ofNat 32 x.1, x.2)

/-- FP flags as sticky flags (R306). -/
def ofF (f : FFlags) : NvFlags := ⟨false, false, f.inv, f.ovf, f.ufl⟩

/-- An FP32 lane pair of CF32 element `i`: real and imaginary words. -/
def cpair (v : BitVec 512) (i : Nat) : Word × Word := (laneW v (2 * i), laneW v (2 * i + 1))

/-- One word of an FP32 instruction (R283); `d` is the destination, the addend of a multiply-add. -/
def fpWord (op : FOp) (s : Bool) (d a b free : BitVec 512) (i : Nat) : Word × NvFlags :=
  let z := laneW free i
  let re := i % 2 = 0
  let x := cpair a (i / 2)
  let y := cpair b (i / 2)
  let out (r : Word × FFlags) : Word × NvFlags := (r.1, ofF r.2)
  match op with
  | .fma _ => out (fFma (laneW a i) (laneW b i) (laneW d i) z)
  | .fmul _ => out (fMulW (laneW a i) (laneW b i) z)
  | .fadd _ => out (fAddW (laneW a i) (laneW b i) z)
  | .cfma => out (if re then fPair x.1 y.1 x.2 y.2 true (laneW d i) z else fPair x.1 y.2 x.2 y.1 false (laneW d i) z)
  | .cfmul => out (if re then fPair x.1 y.1 x.2 y.2 true 0x80000000#32 z else fPair x.1 y.2 x.2 y.1 false 0x80000000#32 z)
  | .toC hi k =>
    let w := laneW a (i / 2 + (if hi then 8 else 0))
    out (fOfInt (if re then laneI w else laneQ w) k.toInt)
  | .toI hi k =>
    if (8 ≤ i) = hi then
      let e := cpair a (i % 8)
      let p := fToInt e.1 k.toInt
      let q := fToInt e.2 k.toInt
      let r := fit2 s (p.1.getD (signed 16 z.toNat)) (q.1.getD (signed 16 (z.toNat / 2 ^ 16)))
      (r.1, r.2.or ((ofF p.2).or (ofF q.2)))
    else (laneW d i, .none)

/-- Is word `i` written: 8-lane F32 forms leave the upper lanes. -/
def fpWrites (op : FOp) (i : Nat) : Bool :=
  match op with
  | .fma e => !e || decide (i < 8)
  | .fmul e => !e || decide (i < 8)
  | .fadd e => !e || decide (i < 8)
  | .toI hi _ => decide (8 ≤ i) = hi
  | _ => true

/-- The mask bit that governs word `i`: CF32 elements are lanes of two words (R280). -/
def fpMaskBit (op : FOp) (i : Nat) : Nat :=
  match op with
  | .cfma | .cfmul | .toC .. => i / 2
  | _ => i

/-- A permute (R292). -/
def permLane (op : POp) (s : Bool) (a b : BitVec 512) (i : Nat) : Word × NvFlags :=
  match op with
  | .bcast l => (laneW a l, .none)
  | .ilv hi =>
    let k := i / 2 + (if hi then 8 else 0)
    (laneW (if i % 2 = 0 then a else b) k, .none)
  | .dilv odd =>
    let k := 2 * (i % 8) + (if odd then 1 else 0)
    (laneW (if i < 8 then a else b) k, .none)
  | .conj => fit2 s (laneI (laneW a i)) (-laneQ (laneW a i))
  | .rev => (laneW a (15 - i), .none)

/-- A lane compare: F32 lanes by value, else 32-bit signed (CI16 lanes componentwise have no order the spec gives; they
compare as 32-bit lanes). A compare with a NaN holds only for "not equal". -/
def cmpLane (op : COp) (e : Elem) (a b : Word) : Bool :=
  let o : Option Ordering := if e = .f32 || e = .cf32 then fCompare a b else some (compare a.toInt b.toInt)
  match op, o with
  | .eq, some r => r = .eq
  | .ne, some r => r != .eq
  | .lt, some r => r = .lt
  | .le, some r => r != .gt
  | .ne, none => true
  | _, none => false

/-- Lanes that a lane sum or maximum reads. -/
def onLanes (m : BitVec 16) : List Nat := bitsOf m.toNat 16

/-- The sum over the lanes (R292): CI16 by component, I32 by lane; the order in which FP32 lanes are added is not given, so
their sum is a free value (log entry 6). -/
def laneSum (e : Elem) (s : Bool) (m : BitVec 16) (a : BitVec 512) (free : Word) : Word × NvFlags :=
  let l := (onLanes m).map (laneW a)
  match e with
  | .ci16 => fit2 s (l.foldl (fun n w => n + laneI w) 0) (l.foldl (fun n w => n + laneQ w) 0)
  | .i32 =>
    let x := fitS 32 s (l.foldl (fun n w => n + w.toInt) 0)
    (BitVec.ofNat 32 x.1, x.2)
  | _ => (free, .none)

/-- The lane that holds the maximum (R292): among equal lanes, and for complex elements, which one is not given. -/
def laneMax (e : Elem) (m : BitVec 16) (a : BitVec 512) (free : Nat) : Nat :=
  let l := onLanes m
  let top := l.filter (fun i => l.all (fun j => match e with
    | .i32 => decide ((laneW a j).toInt ≤ (laneW a i).toInt)
    | .f32 => fCompare (laneW a j) (laneW a i) != some .gt
    | _ => true))
  nth top (free % max 1 top.length) 0

/-- A compute instruction: word, operation, the core, rotating base, XD and YD, and the open values it may need. -/
def compute (w : Word) (o : Op3) (k : NvCore) (rb : Nat) (xd yd : Option (BitVec 512)) (free : BitVec 512) : NvRes :=
  let s := wf 21 1 w = 1
  let dst := wf 16 5 w
  let rnd := wf 2 2 w
  let m := k.mask (wf 0 2 w)
  let a := k.opnd rb xd yd (wf 10 6 w)
  let b := k.opnd rb xd yd (wf 4 6 w)
  let pd := physV rb dst
  let d := nth k.v pd 0
  let vec (f : Nat → Word × NvFlags) : NvRes :=
    let r := lanes16 m d f
    { NvRes.none with v := some (pd, r.1), fl := r.2 }
  let ai := dst % 8
  let old := nth k.acc ai []
  let accOp (sgn : Int) (conj : Bool) : NvRes :=
    let l := (List.range 16).map (fun i =>
      let x := nth old i (0, 0)
      if m.toNat.testBit i then
        let p := cprod (laneW a i) (laneW b i) conj
        let re := fitS 48 s (x.1.toInt + sgn * p.1)
        let im := fitS 48 s (x.2.toInt + sgn * p.2)
        ((BitVec.ofNat 48 re.1, BitVec.ofNat 48 im.1), re.2.or im.2)
      else (x, NvFlags.none))
    { NvRes.none with acc := some (ai, l.map Prod.fst), fl := (l.map Prod.snd).foldl NvFlags.or .none }
  match o with
  | .plain => .none
  | .cmac => accOp 1 false
  | .cmacc => accOp 1 true
  | .cmsu => accOp (-1) false
  | .cmsuc => accOp (-1) true
  | .clr => { NvRes.none with acc := some (ai, (List.range 16).map (fun i =>
      if m.toNat.testBit i then ((0 : BitVec 48), (0 : BitVec 48)) else nth old i (0, 0))) }
  | .int op e => vec (fun i => intLane op e s (laneW a i) (laneW b i) (laneW free i))
  | .ext =>
    let src := nth k.acc (wf 10 6 w - 34 + (if wf 27 1 w = 1 then 6 else 0)) []
    vec (fun i =>
      let x := nth src i (0, 0)
      fit2 s (roundShift rnd (wf 4 6 w) x.1.toInt) (roundShift rnd (wf 4 6 w) x.2.toInt))
  | .cmul => vec (fun i =>
      let p := cprod (laneW a i) (laneW b i) false
      fit2 s (roundShift rnd 15 p.1) (roundShift rnd 15 p.2))
  | .cmulc => vec (fun i =>
      let p := cprod (laneW a i) (laneW b i) true
      fit2 s (roundShift rnd 15 p.1) (roundShift rnd 15 p.2))
  | .fp op => vec (fun i =>
      if fpWrites op i && m.toNat.testBit (fpMaskBit op i) then fpWord op s d a b free i else (laneW d i, .none))
  | .perm op => vec (fun i => permLane op s a b i)
  | .cmp op e =>
    let mi := dst % 4
    let bits := maskOf ((List.range 16).filter (fun i =>
      if m.toNat.testBit i then cmpLane op e (laneW a i) (laneW b i) else (k.mask mi).toNat.testBit i))
    { NvRes.none with m := some (mi, BitVec.ofNat 16 bits) }
  | .rcp => vec (fun i => let r := fRcp (laneW a i) (laneW free i); (r.1, ofF r.2))
  | .rsqrt => vec (fun i => let r := fRsqrt (laneW a i) (laneW free i); (r.1, ofF r.2))
  | .lsum e lane =>
    let r := laneSum e s m a (laneW free 0)
    { NvRes.none with v := some (pd, ofLanes ((List.range 16).map (fun i => if i = lane.val then r.1 else laneW d i))), fl := r.2 }
  | .lmax e lane idx =>
    let t := laneMax e m a free.toNat
    { NvRes.none with v := some (pd, ofLanes ((List.range 16).map (fun i =>
        if i = lane.val then laneW a t else if i = idx.val then BitVec.ofNat 32 t else laneW d i))) }

/-! ### Slots 1 and 2 -/

/-- What a memory slot does: the operand it loads, V and S writes, bytes stored, and the pointer after. -/
structure NvMem where
  opd : Option (BitVec 512)
  v : Option (Nat × BitVec 512)
  sr : List (Nat × Word)
  st : Option (Nat × List Byte)
  ptr : Option (Nat × NvPtr)

/-- The access address of a slot word inside its memory. -/
def memAt (w : Word) (k : NvCore) (y : Bool) : Nat := (k.ptr y (wf 26 2 w)).p.toNat

/-- An unaligned access (R284): a pointer update makes none. -/
def memMisaligned (w : Word) (o : OpM) (k : NvCore) (y : Bool) : Bool :=
  wClass w != 0 && wClass w != 6 && memAt w k y % memSize (wClass w) o != 0

/-- A slot 1 or 2 instruction (R284, R292) on memory base `base`. -/
def memSlot (s : State) (base : Nat) (w : Word) (o : OpM) (k : NvCore) (rb : Nat) (y : Bool) : NvMem :=
  let cls := wClass w
  let i := wf 26 2 w
  let reg := wf 7 5 w
  let a := base + memAt w k y
  let p := (k.ptr y i).next (wf 24 2 w) (BitVec.ofNat 12 (wf 12 12 w)) (memSize cls o)
  let z : NvMem := ⟨none, none, [], none, if cls = 0 then none else some (i, p)⟩
  let vec : BitVec 512 := BitVec.ofNat 512 (s.memN a 64)
  let bc : BitVec 512 := ofLanes (List.replicate 16 (BitVec.ofNat 32 (s.memN a 4)))
  match cls with
  | 1 => { z with opd := some vec }
  | 2 => { z with v := some (physV rb reg, vec) }
  | 3 => { z with st := some (a, leBytes 64 (nth k.v (physV rb reg) 0).toNat) }
  | 4 => { z with sr := [(reg, BitVec.ofNat 32 (s.memN a 4)), ((reg + 1) % 16, BitVec.ofNat 32 (s.memN (a + 4) 4))] }
  | 5 => { z with st := some (a, leBytes 4 (k.sr reg).toNat ++ leBytes 4 (k.sr ((reg + 1) % 16)).toNat) }
  | 7 => if o.toV then { z with v := some (physV rb reg, bc) } else { z with opd := some bc }
  | _ => z

/-! ### Slot 0 -/

/-- A scalar operation: result, none for a compare; and the condition bit of a compare. A shift by 32 or more has a result
the spec does not give. -/
def scalarOp (op : SOp) (a b free : Word) : Option Word × Option Bool :=
  let n := b.toNat
  match op with
  | .add => (some (a + b), none)
  | .sub => (some (a - b), none)
  | .and_ => (some (a &&& b), none)
  | .or_ => (some (a ||| b), none)
  | .xor_ => (some (a ^^^ b), none)
  | .sll => (some (if n < 32 then a <<< n else free), none)
  | .srl => (some (if n < 32 then a >>> n else free), none)
  | .sra => (some (if n < 32 then a.sshiftRight n else free), none)
  | .ceq => (none, some (a = b))
  | .cne => (none, some (a ≠ b))
  | .clt => (none, some (decide (a.toInt < b.toInt)))
  | .cge => (none, some (decide (b.toInt ≤ a.toInt)))
  | .cltu => (none, some (decide (a.toNat < b.toNat)))
  | .cgeu => (none, some (decide (b.toNat ≤ a.toNat)))

/-- Is the slot 0 word a control transfer or a LOOP, which the last bundle of a body may not hold (R289)? -/
def isControl (w : Word) : Bool := wClass w = 3 || wClass w = 4 || wClass w = 5

/-- A branch that is taken: always, or on the condition bit. -/
def taken (o : Op0) (k : NvCore) : Bool :=
  match o with
  | .br => true
  | .brc on => k.cond == on
  | _ => false

/-- The cause with which a bundle halts its core, or none (R302). Where several apply, the least code is reported (log entry
18). -/
def bundleFault (w0 w1 w2 w3 : Word) (o0 : Op0) (o1 o2 : OpM) (o3 : Op3) (k : NvCore) (pc : Nat) : Option Nat :=
  if bad0 w0 || badM w1 || badM w2 || bad3 w3 o3 then some 1
  else if memMisaligned w1 o1 k false || memMisaligned w2 o2 k true then some 2
  else if (o0 = .call && decide (16 ≤ k.calls.length)) || (o0 = .ret && k.calls.isEmpty) then some 3
  else if wClass w0 = 5 && decide (3 ≤ k.loops.length) then some 4
  else if isControl w0 && k.loops.any (fun l => l.last = pc) then some 5
  else if o0 = .halt then some 7
  else none

/-- The end of a bundle at `pc`: a loop whose body ends here starts its next iteration, or is spent and the loop around it
is asked (R289); every iteration of a rotating loop decrements the rotating base (R290). Answers the loops, the next PC and
the decrements. -/
def loopEnd (pc : Nat) : List NvLoop → Nat → List NvLoop × Nat × Nat
  | [], n => ([], (pc + 1) % 4096, n)
  | l :: ls, n =>
    if l.last = pc then
      let n := if l.rot then n + 1 else n
      if 1 < l.left then ({ l with left := l.left - 1 } :: ls, l.first, n) else loopEnd pc ls n
    else (l :: ls, (pc + 1) % 4096, n)

/-- A taken branch to `tgt` ends every loop whose body it leaves, and those nested in it (R289). -/
def branchLoops (tgt : Nat) (ls : List NvLoop) : List NvLoop :=
  match (ls.reverse.findIdx? (fun l => !(decide (l.first ≤ tgt) && decide (tgt ≤ l.last)))) with
  | some i => (ls.reverse.take i).reverse
  | none => ls

/-- The loop a LOOP word starts (R289, R293): none for a count of 0. -/
def loopOf (w : Word) (k : NvCore) (pc : Nat) : Option NvLoop :=
  let n := if wf 27 1 w = 1 then (k.sr (wf 0 4 w)).toNat % 2 ^ 16 else wf 0 15 w
  if n = 0 then none else some ⟨(pc + 1) % 4096, (pc + wf 15 10 w) % 4096, n, wf 26 1 w = 1⟩

/-- Address of a core memory in a stream descriptor. -/
def streamBase (c : Nat) (d : StreamDesc) : Nat := if d.mem = 0 then nvPm c else if d.mem = 1 then nvX c else nvY c

/-- The local bytes that a descriptor names, row by row. -/
def State.streamLocal (s : State) (c : Nat) (d : StreamDesc) : List Byte :=
  ((List.range d.rows).map (fun r => s.bytes (streamBase c d + (d.loc.toNat + r * d.locStride.toNat) % 0x20000) d.row)).flatten

/-- The status word of a descriptor slot: bit 0 the completion flag, bit 1 `ERR`; its layout is the model's (log entry
16). -/
def NvCore.streamStat (k : NvCore) (slot : Nat) : Word :=
  match k.streams.find? (fun x => x.slot = slot) with
  | some x => BitVec.ofNat 32 ((if x.done then 1 else 0) + (if x.err then 2 else 0))
  | none => 0

/-- A descriptor slot runs and is not complete. -/
def NvCore.streamBusy (k : NvCore) (slot : Nat) : Bool := k.streams.any (fun x => x.slot = slot && !x.done)

/-- A core arrives at a barrier (R288): the first arrival arms it with its number; barriers 0 to 5 count firmware cores, 6
and 7 leased cores of one context. A core at a barrier that is not its own stalls and is not counted (DESIGN CHOICE, log entry 115). -/
def State.arrive (s : State) (c b n : Nat) : State :=
  let e := nth s.nvc.bars b (0, [])
  let ok := if b < 6 then !s.coreLeased c else s.coreLeased c && e.2.all (fun d => s.coreCtx d = s.coreCtx c)
  if ok then { s with nvc := { s.nvc with bars := s.nvc.bars.set b (if e.1 = 0 then n else e.1, e.2 ++ [c]) } } else s

/-- What slot 0 does to the core and to what stands around it, control flow apart. A descriptor started in a slot whose descriptor still
runs replaces it (DESIGN CHOICE, log entry 114). -/
def State.slot0 (s : State) (c : Nat) (o : Op0) (free : Word) : State :=
  let k := s.core c
  match o with
  | .reg op d a b =>
    let r := scalarOp op (k.sr a) (k.sr b) free
    s.setCore c { (match r.1 with
      | some w => k.setSr d w
      | none => k) with cond := r.2.getD k.cond }
  | .imm op d a v =>
    let r := scalarOp op (k.sr a) v free
    s.setCore c { (match r.1 with
      | some w => k.setSr d w
      | none => k) with cond := r.2.getD k.cond }
  | .movi d v => s.setCore c (k.setSr d v)
  | .start slot d =>
    let e : NvStream := ⟨slot, d, if d.toLocal then [] else s.streamLocal c d, false, false⟩
    s.setCore c { k with streams := e :: k.streams.filter (fun x => x.slot != slot.val) }
  | .waitFlag slot => if k.streamBusy slot then s.setCore c { k with wait := .stream slot } else s
  | .status slot d => s.setCore c (k.setSr d (k.streamStat slot))
  | .bsync b n => (s.setCore c { k with wait := .barrier b }).arrive c b n
  | .mbxr i d => s.setCore c (k.setSr d (s.rd (R.NVC_MBX_IN c i)))
  | .mbxw i a =>
    let t := s.wr (R.NVC_MBX_OUT c i) (k.sr a)
    if i = 15 then t.raiseCore Ev.NVC_MBX c [c] else t
  | .waitmbx => if k.in15 then s.setCore c { k with in15 := false } else s.setCore c { k with wait := .mailbox }
  | .flags d => s.setCore c (k.setSr d (s.rd (R.NVC_CORE_FLAGS c)))
  | .addr y what idx a =>
    let v : BitVec 17 := BitVec.ofNat 17 (k.sr a).toNat
    let p := k.ptr y idx
    s.setCore c (k.setPtr y idx (match what.val with
      | 0 => { p with p := v }
      | 1 => { p with md := v }
      | 2 => { p with base := v }
      | _ => { p with len := v }))
  | _ => s

/-- The PC, the loops, the calls and the rotating base after a bundle (R279, R289, R290). -/
def State.flow (s : State) (c : Nat) (w : Word) (o : Op0) (pc : Nat) : State :=
  let k := s.core c
  let tgt := wf 0 12 w
  let e := loopEnd pc k.loops 0
  let (ls, pc', n, calls) : List NvLoop × Nat × Nat × List (BitVec 12) :=
    if taken o k then (branchLoops tgt k.loops, tgt, 0, k.calls)
    else if o = .call then (k.loops, tgt, 0, BitVec.ofNat 12 (pc + 1) :: k.calls)
    else if o = .ret then (k.loops, (k.calls.headD 0).toNat, 0, k.calls.tail)
    else if wClass w = 5 then
      (match loopOf w k pc with
       | some l => (l :: k.loops, (pc + 1) % 4096, if wf 25 1 w = 1 then 1 else 0, k.calls)
       | none => (k.loops, (pc + 1 + wf 15 10 w) % 4096, if wf 25 1 w = 1 then 1 else 0, k.calls))
    else (e.1, e.2.1, e.2.2 + (if o = .rot then 1 else 0), k.calls)
  let rb := s.get (R.NVC_CORE_STAT c) F.NVC_CORE_STAT_RB
  ((s.setCore c { k with loops := ls, calls := calls }).put (R.NVC_CORE_STAT c) F.NVC_CORE_STAT_PC pc').put (R.NVC_CORE_STAT c)
    F.NVC_CORE_STAT_RB ((rb + 16 * n - n) % 16)

/-- Writes of V registers; two to one register in one bundle leave a value the spec does not give (log entry 6). -/
def setVs (v : List (BitVec 512)) (l : List (Nat × BitVec 512)) (free : BitVec 512) : List (BitVec 512) :=
  l.foldl (fun v x => v.set x.1 (if 1 < (l.filter (fun y => y.1 = x.1)).length then free else x.2)) v

/-- Slots that hold an instruction. -/
def slotsOn (ws : List Word) : Nat := (ws.filter (· != 0)).length

/-- A bundle issues with no fault: the memory slots, the compute slot, slot 0, control flow, counters (R275, R294). -/
def State.bundle (s : State) (c pc : Nat) (w0 w1 w2 w3 : Word) (o0 : Op0) (o1 o2 : OpM) (o3 : Op3) (fe be : Nat) : State :=
  let (free, s) := s.fresh 512
  let (free', s) := s.fresh 512
  let k := s.core c
  let rb := s.get (R.NVC_CORE_STAT c) F.NVC_CORE_STAT_RB
  let a := memSlot s (nvX c) w1 o1 k rb false
  let b := memSlot s (nvY c) w2 o2 k rb true
  let r := compute w3 o3 k rb a.opd b.opd free
  let t := s.slot0 c o0 (laneW free 0)
  let k := t.core c
  let k := { k with v := setVs k.v (a.v.toList ++ b.v.toList ++ r.v.toList) free' }
  let k := (a.sr ++ b.sr).foldl (fun (k : NvCore) x => k.setSr x.1 x.2) k
  let k := match a.ptr with
    | some x => k.setPtr false x.1 { k.ptr false x.1 with p := x.2.p }
    | none => k
  let k := match b.ptr with
    | some x => k.setPtr true x.1 { k.ptr true x.1 with p := x.2.p }
    | none => k
  let k := match r.acc with
    | some x => { k with acc := k.acc.set x.1 x.2 }
    | none => k
  let k := match r.m with
    | some x => k.setMask x.1 x.2
    | none => k
  let t := t.setCore c k
  let t := match a.st with
    | some x => t.setBytes x.1 x.2
    | none => t
  let t := match b.st with
    | some x => t.setBytes x.1 x.2
    | none => t
  let t := t.nvFlags c r.fl
  let t := t.flow c w0 o0 pc
  let n := slotsOn [w0, w1, w2, w3]
  let t := ((((t.nvCount c 0 (1 + fe + be)).nvCount c 1 n).nvCount c 2 (4 - n)).nvCount c 3 (4 * fe)).nvCount c 4 (4 * be)
  match o0 with
  | .done reg =>
    if (s.core c).job != 0 then
      let j := (s.core c).job
      (((t.setCore c { t.core c with job := 0, wait := .none }).setCoreSt c Co.idle)).partDone j (some c)
    else
      let t := match reg with
        | some i => t.kernelPublish c ((s.core c).sr i).toNat
        | none => t
      t.runEnd c
  | _ => t

/-- BUNDLE_ISSUE: a running core that waits for nothing fetches and issues the bundle at PC (R275). `o0` to `o3` say what the
encoding leaves open; `fe` and `be` are the cycles the front end had no bundle and the bundle stalled (R278, R279, R286). -/
def execBundleIssue (core : Fin 16) (o0 : Op0) (o1 o2 : OpM) (o3 : Op3) (fe be : BitVec 32) (s : State) :
    Host.Outcome State Fault Refusal :=
  let pc := s.get (R.NVC_CORE_STAT core) F.NVC_CORE_STAT_PC
  let w (i : Nat) : Word := BitVec.ofNat 32 (s.memN (nvPm core + 16 * pc + 4 * i) 4)
  let k := s.core core
  if !(s.coreSt core = Co.running && k.wait = .none && op0Fits (w 0) o0 && op3Fits (w 3) o3) then .next s
  else match bundleFault (w 0) (w 1) (w 2) (w 3) o0 o1 o2 o3 k pc with
    | some cause => .next (s.faultCore core cause)
    | none => .next (s.bundle core pc (w 0) (w 1) (w 2) (w 3) o0 o1 o2 o3 fe.toNat be.toNat)

/-! ### Releases and streams -/

/-- A barrier's count is reached: its cores continue and it re-arms (R288). -/
def execBarrierRelease (b : Fin 8) (s : State) : Host.Outcome State Fault Refusal :=
  let e := nth s.nvc.bars b (0, [])
  if e.1 = 0 || e.2.length < e.1 then .next s
  else
    let t := e.2.foldl (fun (t : State) c => if (t.core c).wait = .barrier b then t.setCore c { t.core c with wait := .none } else t) s
    .next { t with nvc := { t.nvc with bars := t.nvc.bars.set b (e.1, []) } }

/-- In-word 15 is written and a core stalled in WAITMBX continues (R299). -/
def execMailboxWaitRelease (core : Fin 16) (s : State) : Host.Outcome State Fault Refusal :=
  let k := s.core core
  when_ (k.wait = .mailbox && k.in15) (s.setCore core { k with wait := .none, in15 := false }) s

/-- May a core reach this remote span (R30, R287)? A firmware core reaches cluster memory, weight memory and DRAM; a leased
core only what its context leases; a core whose lease was revoked nothing. -/
def State.coreMayReach (s : State) (c a n : Nat) : Bool :=
  let reg := s.region a
  let open_ := reg == .cluster || reg == .weight || reg == .dram
  if s.coreGroup c = 3 then false
  else match s.coreCtx c with
    | none => open_
    | some x => match reg with
      | .cluster => (List.range ((a + n - 1) / 65536 - a / 65536 + 1)).all (fun i => s.holds x 6 ((a - 0x10000000) / 65536 + i))
      | .weight => true
      | .dram => s.ownsDram x a n
      | _ => false

/-- One transfer of a stream: up to 64 bytes (R29). Answers the state and whether it was refused. -/
def State.streamPiece (s : State) (c loc rem : Nat) (d : StreamDesc) (data : List Byte) : State × Bool :=
  if !s.spanOk rem 64 || !s.coreMayReach c rem 64 then
    ((if d.toLocal then s.decodeErr.setBytes loc (List.replicate 64 0) else s.decodeErr), true)
  else if d.toLocal then
    (if s.region rem == .weight && !(match s.coreCtx c with
        | none => true
        | some x => (s.regionOf ((rem - 0x20000000) / 256)).any (fun r => s.rgOwner r = x)) then
      (s.decodeErr.setBytes loc (List.replicate 64 0), true)
     else (s.setBytes loc (s.bytes rem 64), false))
  else if s.region rem == .weight then
    (if s.mayWriteVec (s.coreCtx c) ((rem - 0x20000000) / 256) then (s.setBytes rem data, false)
     else (s.blockWrite (s.coreCtx c) ((rem - 0x20000000) / 256), true))
  else (s.setBytes rem data, false)

/-- Everything a descriptor moves, piece by piece (R285). -/
def State.streamMove (s : State) (c : Nat) (x : NvStream) : State × Bool :=
  let d := x.desc
  let per := d.row / 64
  (List.range (d.rows * per)).foldl (fun (acc : State × Bool) i =>
    let loc := streamBase c d + (d.loc.toNat + i / per * d.locStride.toNat + 64 * (i % per)) % 0x20000
    let rem := d.remote.toNat + i / per * d.remStride.toNat + 64 * (i % per)
    let r := acc.1.streamPiece c loc rem d ((x.out.drop (64 * i)).take 64)
    (r.1, acc.2 || r.2)) (s, false)

/-- A stream descriptor completes (R285, R287): its data have moved and its flag is set; a refused access sets `ERR` and is
reported, and the core runs on. -/
def execStreamDescriptorDone (core : Fin 16) (slot : Fin 4) (s : State) : Host.Outcome State Fault Refusal :=
  match (s.core core).streams.find? (fun x => x.slot = slot.val && !x.done) with
  | none => .next s
  | some x =>
    let (t, err) := s.streamMove core x
    let k := t.core core
    let fin := k.streams.map (fun (y : NvStream) => if y.slot = slot.val then { y with done := true, err := err, out := [] } else y)
    let t := t.setCore core { k with streams := fin, wait := if k.wait = .stream slot then .none else k.wait }
    .next (if err then (t.stickFlag (R.NVC_CORE_FLAGS core) F.NVC_CORE_FLAGS_SERR).raiseCore Ev.NVC_ACCESS_ERR core [core, slot] else t)

end Sys2Proof.Machine
end

