-- ==== Sys2Proof/Machine/Rf.lean ====
section
/-! DEFINITION. RF: synthesisers (R98 to R108), path states (R109, R110), TDD pins (R111 to R114), PA bias (R115 to R119),
RFFE lists (R123 to R127) and the regulatory guard (R128 to R136). -/

namespace Sys2Proof.Machine

/-! ### Path states (R109, R110, R140) -/

-- States of a path direction.
namespace Ps
def off : Nat := 0
def armed : Nat := 1
def active : Nat := 2
def muted : Nat := 3
def fault : Nat := 4
end Ps

/-- State of a path's transmitter and receiver. -/
def State.tx (s : State) (p : Nat) : Nat := s.get (R.RF_PATH_STATE p) F.RF_PATH_STATE_TX
def State.rx (s : State) (p : Nat) : Nat := s.get (R.RF_PATH_STATE p) F.RF_PATH_STATE_RX

/-- Set a flag bit in the captures that run on tiles satisfying `p` (R214). -/
def State.capFlag (s : State) (bit : Nat) (p : Nat → Cap → Bool) : State :=
  { s with dfe := { s.dfe with cap := s.dfe.cap.mapIdx (fun t c => c.map (fun k =>
      if s.get (R.DFE_CAP_STATUS t) F.DFE_CAP_STATUS_STATE = 1 && p t k then { k with flags := k.flags ||| 2 ^ bit } else k)) } }

/-- PABIAS settings that waited for the path to reach OFF (FE_PABIAS). -/
def State.biasTake (s : State) (p : Nat) : State :=
  match s.rf.biasNext.find? (fun x => x.1 = p) with
  | some (_, cfg, lvl) =>
    ({ s with rf := { s.rf with biasNext := s.rf.biasNext.filter (fun x => x.1 != p) } }.wr (R.RF_PABIAS_CFG p) cfg).wr (R.RF_PABIAS_LVL p) lvl
  | none => s
def State.setTx (s : State) (p v : Nat) : State :=
  let s := if s.get (R.RF_PATH_STATE p) F.RF_PATH_STATE_TX = Ps.active && v != Ps.active then s.capFlag 2 (fun _ k => k.path = p) else s
  let t := s.put (R.RF_PATH_STATE p) F.RF_PATH_STATE_TX v
  if v = Ps.off then t.biasTake p else t
def State.setRx (s : State) (p v : Nat) : State := s.put (R.RF_PATH_STATE p) F.RF_PATH_STATE_RX v
def State.setMute (s : State) (p v : Nat) : State := s.put (R.RF_PATH_STATE p) F.RF_PATH_STATE_MUTE v

/-- State of a path direction. -/
def State.pathSt (s : State) (tx : Bool) (p : Nat) : Nat := if tx then s.tx p else s.rx p
def State.setPath (s : State) (tx : Bool) (p v : Nat) : State := if tx then s.setTx p v else s.setRx p v

/-- Every path is off: none is armed, active or muted. -/
def State.allOff (s : State) : Bool :=
  (List.range 64).all (fun p => [Ps.armed, Ps.active, Ps.muted].all (fun v => s.tx p != v && s.rx p != v))

/-- A receive path whose ADC pair has FAILED (R157) or a transmit path in FAULT (R118) cannot be armed (R631). -/
def State.adcFailed (s : State) (c : Nat) : Bool := s.get (R.CV_ADC_STATUS c) F.CV_ADC_STATUS_PHASE = 6
def State.rxFailed (s : State) (p : Nat) : Bool := s.adcFailed (2 * p) || s.adcFailed (2 * p + 1)
/-- The observation receiver of a tile is out of service (R157). -/
def State.obsFailed (s : State) (t : Nat) : Bool := s.adcFailed (128 + 2 * t) || s.adcFailed (129 + 2 * t)
def State.cannotArm (s : State) (p : Nat) (txDir : Bool) : Bool := if txDir then s.tx p = Ps.fault else s.rxFailed p

/-! ### Synthesisers -/

/-- State of a synthesiser (R108): 0 OFF, 1 CALIBRATING, 2 LOCKED, 3 LOST, 4 FAILED. -/
def State.syn (s : State) (n : Nat) : Nat := s.get (R.RF_SYN_STATUS n) F.RF_SYN_STATUS_STATE
def State.locked (s : State) (n : Nat) : Bool := s.syn n = 2
def State.lo (s : State) (n : Nat) : Nat := s.get (R.RF_SYN_FREQ n) F.RF_SYN_FREQ_FKHZ

/-- Does a range contain a frequency in kHz (R98)? -/
def inRange (r f : Nat) : Bool :=
  match r with
  | 1 => 400000 ≤ f && f ≤ 3000000
  | 2 => 2500000 ≤ f && f ≤ 7200000
  | 3 => 6800000 ≤ f && f ≤ 15400000
  | _ => 400000 ≤ f && f ≤ 15400000

/-- The lowest range that contains a frequency (R102). -/
def autoRange (f : Nat) : Nat := if inRange 1 f then 1 else if inRange 2 f then 2 else 3

/-- A frequency and range that firmware accepts (R102). -/
def tuneOk (f r : Nat) : Bool := inRange 0 f && inRange r f

/-- A calibration starts at the synthesiser's stored frequency and range (R103). -/
def State.synStart (s : State) (n : Nat) : State :=
  let r := nth s.rf.rng n 0
  let t := ((s.put (R.RF_SYN_STATUS n) F.RF_SYN_STATUS_STATE 1).put (R.RF_SYN_STATUS n) F.RF_SYN_STATUS_RANGE
    (if r = 0 then autoRange (s.lo n) else r)).setFlag (R.RF_SYN_STATUS n) F.RF_SYN_STATUS_AUTO (r = 0)
  { t with rf := { t.rf with retry := t.rf.retry.set n false, calUs := t.rf.calUs.set n 0 } }

/-- Every synthesiser calibrates: at an entry into Standby and at a Thaw (R103). -/
def State.synAll (s : State) : State := (List.range 5).foldl State.synStart s

/-- A synthesiser goes OFF; its frequency and range stay (R103, R108). -/
def State.synOff (s : State) (n : Nat) : State :=
  (s.put (R.RF_SYN_STATUS n) F.RF_SYN_STATUS_STATE 0).put (R.RF_SYN_STATUS n) F.RF_SYN_STATUS_RANGE 0

/-- A CHAN or AUX_TUNE reaches a synthesiser (R103, R105): in OFF its frequency and range are stored; else a calibration
starts, abandoning one that runs. A capture that runs at its frequency is marked (R214). -/
def State.tune (s : State) (n f r : Nat) : State :=
  let t := s.put (R.RF_SYN_FREQ n) F.RF_SYN_FREQ_FKHZ f
  let t := { t with rf := { t.rf with rng := t.rf.rng.set n r } }
  let t := t.put (R.RF_SYN_STATUS n) F.RF_SYN_STATUS_RELOCK 0
  let t := if s.syn n = 2 then t.capFlag 0 (fun tile _ => n = 4 || tile / 2 = n) else t
  if s.syn n = 0 then t else t.synStart n

/-- A synthesiser in LOST goes on to CALIBRATING after one DFE cycle (R108). -/
def State.lostTick (s : State) : State := (List.range 5).foldl (fun (t : State) n => if t.syn n = 3 then t.synStart n else t) s

/-- A calibration run ends without lock: it is run once more, then the synthesiser enters FAILED (R106). -/
def State.synFail (s : State) (n us : Nat) : State :=
  let total := nth s.rf.calUs n 0 + us
  let t := { s with rf := { s.rf with calUs := s.rf.calUs.set n total } }
  if nth s.rf.retry n false then
    ((t.put (R.RF_SYN_STATUS n) F.RF_SYN_STATUS_STATE 4).put (R.RF_SYN_STATUS n) F.RF_SYN_STATUS_CAL_US (min total 1023)).raise
      Ev.RF_SYN_CAL_FAIL [n]
  else { t with rf := { t.rf with retry := t.rf.retry.set n true } }

/-- A calibration run ends after `us` microseconds with lock verified or not (R103, R106). -/
def execSynCalDone (syn : Fin 5) (us : BitVec 8) (lock : Bool) (s : State) : Host.Outcome State Fault Refusal :=
  if s.syn syn ≠ 1 then .next s
  else if lock then
    .next ((s.put (R.RF_SYN_STATUS syn) F.RF_SYN_STATUS_STATE 2).put (R.RF_SYN_STATUS syn) F.RF_SYN_STATUS_CAL_US
      (min (nth s.rf.calUs syn 0 + us.toNat) 1023))
  else .next (s.synFail syn us.toNat)

/-- 250 µs pass without lock (R106). -/
def execSynCalTimeout (syn : Fin 5) (s : State) : Host.Outcome State Fault Refusal :=
  when_ (s.syn syn = 1) (s.synFail syn 250) s

/-- Tile that a step of kind 3 or 4 works on. -/
def stepTile (g : Nat × Nat) : Nat := if g.1 = 3 then tileOf g.2 else g.2

/-- The calibration steps that run: of those a window took up, the first of kind 2, and the first of kind 3 and of kind 4 on each tile. -/
def State.running (s : State) : List (Nat × Nat) :=
  (s.cv.steps.find? (fun g => g.1 = 2)).toList ++ ((List.range 8).map (fun t =>
    (s.cv.steps.find? (fun g => g.1 = 3 && stepTile g = t)).toList ++ (s.cv.steps.find? (fun g => g.1 = 4 && stepTile g = t)).toList)).flatten

/-- The running steps that satisfy `p` are cut short and discarded (R165, R174); the steps `p` names that have not begun are not run. -/
def State.calAbort (s : State) (p : Nat × Nat → Bool) : State :=
  (s.running.filter p).foldl (fun (t : State) g => t.raise Ev.CV_CAL_ABORT [g.1, g.2])
    { s with cv := { s.cv with steps := s.cv.steps.filter (fun x => !p x) } }

/-- A calibration step that a quadrant's loss of lock cuts short (R107): one of kind 3 on the quadrant, one of kind 2 to which the quadrant
is lent. -/
def State.stepLost (s : State) (q : Nat) (g : Nat × Nat) : Bool :=
  (g.1 = 3 && quadOf g.2 = q) || (g.1 = 2 && s.tl.lent.any (fun (l : Lent) => l.kind = 2 && l.q = q))

/-- Drive an enable pin. -/
def State.txen (s : State) (t : Nat) (b : Bool) : State := { s with pins := { s.pins with txen := s.pins.txen.set t b } }
def State.rxen (s : State) (t : Nat) (b : Bool) : State := { s with pins := { s.pins with rxen := s.pins.rxen.set t b } }

/-- A transmit path is armed, active or muted. -/
def State.txUp (s : State) (p : Nat) : Bool := s.tx p = Ps.armed || s.tx p = Ps.active || s.tx p = Ps.muted

/-- A path direction that is armed or active is muted (R110). -/
def State.muteTx (s : State) (p cause : Nat) : State :=
  if s.tx p = Ps.armed || s.tx p = Ps.active then (s.setTx p Ps.muted).setMute p cause else s
def State.muteRx (s : State) (p cause : Nat) : State :=
  if s.rx p = Ps.armed || s.rx p = Ps.active then (s.setRx p Ps.muted).setMute p cause else s

/-- A locked synthesiser loses lock (R107). A quadrant's loss mutes its paths, drops its enable pins, blanks its uplink
symbols in progress and marks its captures; SYN4's only marks the capture or step in progress. It is LOST for one DFE cycle and then
recalibrates at the same frequency (R108). -/
def execSynLockLoss (syn : Fin 5) (s : State) : Host.Outcome State Fault Refusal :=
  if s.syn syn ≠ 2 then .next s
  else
    let t := (s.incSat (R.RF_SYN_STATUS syn) F.RF_SYN_STATUS_RELOCK).count (R.RF_LO_UNLOCK_CNT syn)
    let t := t.put (R.RF_SYN_STATUS syn) F.RF_SYN_STATUS_STATE 3
    if syn = 4 then
      .next (((t.capFlag 0 (fun _ _ => true)).calAbort (fun _ => true)).raise Ev.RF_AUX_UNLOCK [])
    else
      let q := syn.val
      let t := { t with rf := { t.rf with loMute := t.rf.loMute ++ (quadPaths q).filter (fun p => t.txUp p && !t.rf.loMute.contains p) } }
      let t := (quadPaths q).foldl (fun (t : State) p => (t.muteTx p 1).muteRx p 1) t
      let t := (t.txen (2 * q) false).txen (2 * q + 1) false
      let t := { t with tl := { t.tl with syms := t.tl.syms.map (fun (y : Sym) =>
        if y.ul && y.active && (quadsOf y.pmask).contains q then { y with blank := true } else y) } }
      let t := (t.capFlag 0 (fun tile _ => tile / 2 = q)).calAbort (s.stepLost q)
      .next (t.raise Ev.RF_LO_UNLOCK [q])

/-! ### TDD pins (R111 to R114) -/

/-- A guard mute of a path runs (R133, R134). -/
def State.guardHeld (s : State) (p : Nat) : Bool := s.rf.hold.any (fun h => h.1 = p && h.2.elim true (fun e => decide (s.now < e)))

/-- A symbol stands on a path direction (R110, R111): not absent (R79), its LO locked at the check (R72), or for reception the path muted by a
loss of lock, and the path able to take it (R631). A transmit path muted by a loss of lock is cut (R107, R114). -/
def State.stands (s : State) (y : Sym) (p : Nat) : Bool :=
  !y.absent && y.pmask.testBit p && !s.cannotArm p (!y.ul) &&
    (y.okQ.contains (quadOf p) || (y.ul && s.rx p = Ps.muted)) && !(!y.ul && s.rf.loMute.contains p)

/-- A symbol of a direction holds the enable pin of a tile (R111, R114). -/
def State.symHolds (s : State) (t : Nat) (ul : Bool) (y : Sym) : Bool := y.ul == ul && (tilePaths t).any (s.stands y)

/-- Transmission is allowed by the mode (R36). -/
def State.mayTx (s : State) : Bool := mayTxIn s.mode

/-- Lead and lag of an enable pin (R112, R141). -/
def State.pinLead (s : State) (tx : Bool) : Nat := s.get R.RF_TDD_LEAD (if tx then F.RF_TDD_LEAD_TX_LEAD else F.RF_TDD_LEAD_RX_LEAD)
def State.pinLag (s : State) (tx : Bool) : Nat := s.get R.RF_TDD_LAG (if tx then F.RF_TDD_LAG_TX_LAG else F.RF_TDD_LAG_RX_LAG)

/-- A kind 2 step drives an enable pin of a tile (R113, R169): TDD_TXEN of the tiles of the transmitting paths, TDD_RXEN of the other lent
tiles. A step of kind 3 holds both low (R164). -/
def State.calPin (s : State) (t : Nat) (tx : Bool) : Bool :=
  match s.running.find? (fun g => g.1 = 2) with
  | some (_, pos) =>
    let q := t / 2
    let sends := s.avail (16 * q + pos) && tileOf (16 * q + pos) = t
    s.tl.lent.any (fun (l : Lent) => l.kind = 2 && l.q = q) && (sends == tx)
  | none => false

/-- An enable pin is wanted high (R111 to R113): a symbol that holds it runs or starts within the lead, or a calibration step drives it. -/
def State.pinWant (s : State) (t : Nat) (tx : Bool) : Bool :=
  (!tx || s.mayTx) && (s.calPin t tx || (s.mode != .calibration &&
    s.tl.syms.any (fun (y : Sym) => s.symHolds t (!tx) y && (y.active || decide (s.rel y.start ≤ (s.pinLead tx : Int))) && !(y.ul && decide (4 ≤ y.stage)))))

/-- An enable pin rises (R112): at the start of its direction's first symbol minus its lead. In TDD service the two pins of a tile are never
high together. -/
def execTddPinRise (tile : Fin 8) (tx : Bool) (s : State) : Host.Outcome State Fault Refusal :=
  let other := s.mode = .tdd && nth (if tx then s.pins.rxen else s.pins.txen) tile false
  when_ (s.pinWant tile tx && !other) (if tx then s.txen tile true else s.rxen tile true) s

/-- An enable pin falls (R112): at the end of its direction's last symbol plus its lag, unless it is to be high again by then; a symbol that is
cut or absent does not keep it (R114). -/
def execTddPinFall (tile : Fin 8) (tx : Bool) (s : State) : Host.Outcome State Fault Refusal :=
  let lagged := match nth (if tx then s.tl.endDl else s.tl.endUl) tile none with
    | some e => decide (e + s.pinLag tx ≤ s.now)
    | none => true
  when_ (lagged && !s.pinWant tile tx) (if tx then s.txen tile false else s.rxen tile false) s

/-! ### PA bias (R115 to R119) -/

/-- Is the bias output of a path wanted at its ON code (R116)? In mode 3 only symbols that passed the lock check and are
not absent count. -/
def State.biasWant (s : State) (p : Nat) : Bool :=
  match s.get (R.RF_PABIAS_CFG p) F.RF_PABIAS_CFG_MODE with
  | 1 => s.mode = .standby || s.mode = .tdd || s.mode = .fdd || s.mode = .calibration
  | 2 => s.tx p = Ps.armed || s.tx p = Ps.active || s.tx p = Ps.muted
  | 3 => s.tl.syms.any (fun (y : Sym) => !y.ul && !y.absent && y.pmask.testBit p && y.okQ.contains (quadOf p) && decide (s.rel y.start ≤ 738))
  | _ => false

/-- State of a path's bias output. -/
def State.bias (s : State) (p : Nat) : Nat := nth s.rf.bias p 0
def State.setBias (s : State) (p v : Nat) (fast : Bool) : State :=
  { s with rf := { s.rf with bias := s.rf.bias.set p v, biasFast := s.rf.biasFast.set p fast } }

/-- A bias output starts a ramp between its codes (R117), towards what R116 wants. An output that is high-impedance or at
0 V does not move. -/
def execPabiasRampStart (path : Fin 64) (s : State) : Host.Outcome State Fault Refusal :=
  let want := s.biasWant path && s.avail path && s.tx path ≠ Ps.fault && !s.pm.rampOn && s.pm.shut.isNone
  let b := s.bias path
  if want && (b = 1 || b = 4) then .next (s.setBias path 3 false)
  else if !want && (b = 2 || b = 3) then .next (s.setBias path 4 false) else .next s

/-- A ramp reaches its target and the charge monitor of the transition stops (R118). -/
def execPabiasRampEnd (path : Fin 64) (s : State) : Host.Outcome State Fault Refusal :=
  if s.bias path = 3 then .next (s.setBias path 2 false)
  else if s.bias path = 4 then .next (s.setBias path 1 false) else .next s

/-- The charge of a transition reaches QMAX first (R118): high-impedance, FAULT, RF_PABIAS_FAULT. -/
def execPabiasChargeTrip (path : Fin 64) (s : State) : Host.Outcome State Fault Refusal :=
  when_ (s.bias path = 3 || s.bias path = 4)
    (((s.setBias path 0 false).setTx path Ps.fault).raise Ev.RF_PABIAS_FAULT [path]) s

/-- At a ramp-down every output ramps to OFF at the larger of its SLEW and 1,000 mV/µs (R119). -/
def State.biasDown (s : State) : State :=
  (List.range 64).foldl (fun (t : State) p => if t.bias p = 2 || t.bias p = 3 then t.setBias p 4 true else t) s

/-- From Provisioned each output drives its OFF code, an unavailable path's 0 V (R97, R119). -/
def State.biasDrive (s : State) : State :=
  (List.range 64).foldl (fun (t : State) p => t.setBias p (if t.avail p then 1 else 5) false) s

/-! ### The guard (R128 to R136) -/

/-- Is a power `num / den`, against full scale 1, above the limit of code `lvl`: −`lvl`/8 dBFS (R143)? Exactly: the
80th powers are compared. -/
def aboveLimit (num den lvl : Nat) : Bool := decide (den ^ 80 < num ^ 80 * 10 ^ lvl)

/-- Captures of a path, or that name it as neighbour, are marked when the guard changes it (R214). -/
def State.guardMark (s : State) (p : Nat) : State :=
  s.capFlag 1 (fun _ k => k.path = p || (List.range 4).any (fun j =>
    (k.nbr / 2 ^ (8 * j + 6)) % 2 = 1 && k.nbr / 2 ^ (8 * j) % 64 = p))

/-- Keep what an element gave. -/
def State.keepOut (s : State) (el p : Nat) (x : List (Int × Int)) : State :=
  { s with dfe := { s.dfe with out := (el, p, x) :: s.dfe.out.filter (fun o => !(o.1 = el && o.2.1 = p)) } }

/-- The greatest whole number below 2ⁿ that satisfies a downward closed test; 0 where none does. -/
def greatest (ok : Nat → Bool) : Nat → Nat
  | 0 => 0
  | n + 1 => let k := greatest (fun i => ok (2 * i)) n
             if ok (2 * k + 1) then 2 * k + 1 else 2 * k

/-- A component of a sample of energy `e` brought to −`lvl`/8 dBFS with the sample's phase (R132): |v| × 2¹⁵ × 10^(−lvl/160) / √e, its
fraction dropped or rounded up, which is open (log entry 10). -/
def State.clipTo (s : State) (lvl e : Nat) (v : Int) : Int × State :=
  let k := greatest (fun i => decide (i ^ 160 * e ^ 80 * 10 ^ lvl ≤ v.natAbs ^ 160 * 2 ^ (15 * 160))) 16
  let m : Nat := if k ^ 160 * e ^ 80 * 10 ^ lvl = v.natAbs ^ 160 * 2 ^ (15 * 160) then k else k + (s.fresh 1).1.toNat
  (if v < 0 then -(m : Int) else (m : Int), (s.fresh 1).2)

/-- A sample at the DAC input of a path meets the peak limit (R132): one that exceeds it is scaled to the limit, counted, and reported at most
once per path and symbol. -/
def State.clipPeak (s : State) (p : Nat) (x : Int × Int) : State :=
  let e := (x.1 * x.1 + x.2 * x.2).toNat
  let l := s.get (R.RF_REG_PEAK p) F.RF_REG_PEAK_LVL
  if !aboveLimit e (2 ^ 30) l then s
  else
    let a := s.clipTo l e x.1
    let b := a.2.clipTo l e x.2
    let t := ((b.2.keepOut 4 p [(a.1, b.1)]).count (R.RF_REG_PEAK_CNT p)).guardMark p
    if s.rf.peaked.contains p then t
    else ({ t with rf := { t.rf with peaked := p :: t.rf.peaked } }).raise Ev.RF_REG_PEAK [p]

/-- A sample at the DAC input of a transmitting path meets the peak limit (R132). -/
def execGuardPeakClip (path : Fin 64) (i q : BitVec 16) (s : State) : Host.Outcome State Fault Refusal :=
  when_ (s.tx path = Ps.active) (s.clipPeak path (i.toInt, q.toInt)) s

/-- Samples in the guard's window: one normal symbol of the numerology WIN (R133). -/
def guardWindow (num : Nat) : Nat := 140288 / 2 ^ num

/-- The sliding mean of `energy` over the window exceeds the RMS limit (R133): the path is muted for two windows. -/
def execGuardRmsMute (path : Fin 64) (energy : BitVec 64) (s : State) : Host.Outcome State Fault Refusal :=
  let w := guardWindow (s.get (R.RF_REG_RMS path) F.RF_REG_RMS_WIN)
  if !((s.tx path = Ps.active || s.tx path = Ps.armed) &&
      aboveLimit energy.toNat (w * 2 ^ 30) (s.get (R.RF_REG_RMS path) F.RF_REG_RMS_LVL)) then .next s
  else
    let t := { s with rf := { s.rf with hold := s.rf.hold ++ [(path.val, some (s.now + w / 2))] } }
    .next (((t.muteTx path 2).count (R.RF_REG_RMS_CNT path)).guardMark path |>.raise Ev.RF_REG_RMS [path])

/-- Muted directions of a path return to ARMED (R110): the LO is locked, and for transmission no guard mute runs. -/
def State.unmutePath (s : State) (p : Nat) : State :=
  if !s.locked (quadOf p) then s
  else
    let t := if s.rx p = Ps.muted then s.setRx p Ps.armed else s
    let t := { t with rf := { t.rf with loMute := t.rf.loMute.filter (· != p) } }
    if s.tx p = Ps.muted && !s.guardHeld p then
      ({ t with rf := { t.rf with hold := t.rf.hold.filter (fun h => h.1 != p) } }).setTx p Ps.armed
    else t

/-- A symbol boundary of a numerology lies at this cycle, `adv` cycles early. -/
def State.boundary (s : State) (num adv : Nat) : Bool := symAt num (s.tlNow + adv) != symAt num (s.tlNow + adv - 1)

/-- A symbol boundary of a path: of the running carriers on it, on T and T′; of the finest numerology where it has none (log entry 91). -/
def State.pathBoundary (s : State) (p : Nat) : Bool :=
  let cs := (List.range 16).filter (fun c => s.carRun c && (s.carPmask c).testBit p)
  if cs.isEmpty then s.boundary 3 0 else cs.any (fun c => s.boundary (s.carNum c) 0 || s.boundary (s.carNum c) (s.ulAdv c))

/-- Muted paths come back at the first symbol boundary that lets them (R110). -/
def State.muteTick (s : State) : State :=
  ((List.range 64).filter (fun p => (s.tx p = Ps.muted || s.rx p = Ps.muted) && s.pathBoundary p)).foldl State.unmutePath s

/-- A guard mute has ended and a symbol boundary comes with the LO locked (R110). -/
def execGuardMuteEnd (path : Fin 64) (s : State) : Host.Outcome State Fault Refusal :=
  when_ (s.tx path = Ps.muted && s.rf.hold.any (fun h => h.1 = path.val)) (s.unmutePath path) s

/-- The duty limit in samples, times ten: DUTY × 196,608 (R134). -/
def State.dutyLimit10 (s : State) (p : Nat) : Nat := s.get (R.RF_REG_DUTY p) F.RF_REG_DUTY_DUTY * 196608

/-- DUTY = 1000 sets no limit (R134). -/
def State.dutyFree (s : State) (p : Nat) : Bool := decide (1000 ≤ s.get (R.RF_REG_DUTY p) F.RF_REG_DUTY_DUTY)

/-- The duty count of a frame reaches its limit: counted and reported (R134). -/
def State.dutyHit (s : State) (p : Nat) : State := (s.count (R.RF_REG_DUTY_CNT p)).raise Ev.RF_REG_DUTY [p]

/-- The count of ACTIVE samples reaches the duty limit inside the running symbol (R134): muted to the end of the frame. -/
def execGuardDutyLimit (path : Fin 64) (s : State) : Host.Outcome State Fault Refusal :=
  let running := (s.tl.syms.filter (fun (y : Sym) => y.active && !y.ul && y.pmask.testBit path)).map (fun (y : Sym) => 4 * stLen y.stamp)
  let most := nth s.rf.dutyN path 0 + running.foldl max 0
  if !(s.tx path = Ps.active && !s.dutyFree path && !s.rf.dutyDone.contains path.val && decide (s.dutyLimit10 path ≤ 10 * most)) then .next s
  else
    let t := { s with rf := { s.rf with dutyN := s.rf.dutyN.set path ((s.dutyLimit10 path + 9) / 10),
                                        dutyDone := path.val :: s.rf.dutyDone, hold := s.rf.hold ++ [(path.val, none)] } }
    .next (((t.muteTx path 3).dutyHit path).guardMark path)

/-- An enabled range: valid only when its lower edge lies below its upper (R143). -/
def State.regRange (s : State) (i : Nat) : Option (Nat × Nat) :=
  let lo := s.get (R.RF_REG_RANGE_LO i) F.RF_REG_RANGE_LO_F
  let hi := s.get (R.RF_REG_RANGE_HI i) F.RF_REG_RANGE_HI_F
  if s.flag (R.RF_REG_RANGE_LO i) F.RF_REG_RANGE_LO_EN && decide (lo < hi) then some (lo, hi) else none

/-- The enabled ranges, in 10 kHz. -/
def State.regRanges (s : State) : List (Nat × Nat) := (List.range 16).filterMap s.regRange

/-- The occupied band of carrier `c` at an LO in kHz, transmit side, in Hz: LO + offset ± bandwidth / 2 (R135). -/
def State.txBand (s : State) (c lo : Nat) : Int × Int :=
  (1000 * (lo : Int) + s.carTxHz c - 500 * (s.carBw c : Int), 1000 * (lo : Int) + s.carTxHz c + 500 * (s.carBw c : Int))

/-- Does a carrier's band lie within one enabled range (R135)? -/
def State.bandOk (s : State) (c lo : Nat) : Bool :=
  let b := s.txBand c lo
  s.regRanges.any (fun r => decide (10000 * (r.1 : Int) ≤ b.1) && decide (b.2 ≤ 10000 * (r.2 : Int)))

/-- May quadrant `q` move to this LO: every running carrier with a TX part on it stays inside one range (R135)? -/
def State.chanPermitted (s : State) (q lo : Nat) : Bool :=
  (List.range 16).all (fun c => !(s.carRun c && s.carHasTx c && (quadsOf (s.carPmask c)).contains q) || s.bandOk c lo)

/-- Every quadrant of a carrier's mask keeps it within one range at the quadrant's LO (R41, R135). -/
def State.carPermitted (s : State) (c : Nat) : Bool :=
  !s.carHasTx c || (quadsOf (s.carPmask c)).all (fun q => s.bandOk c (s.lo q))

/-- RF_REG_STATUS shows the enabled ranges (R143). -/
def State.regCount (s : State) : State := s.put R.RF_REG_STATUS F.RF_REG_STATUS_NRANGE s.regRanges.length

/-- Install guard values: 64 peak, 64 RMS, 64 duty, 16 lower edges with their enable bit, 16 upper edges (R128, R143). -/
def State.regApply (s : State) (v : List Nat) : State :=
  let t := (List.range 64).foldl (fun (t : State) p =>
    ((t.put (R.RF_REG_PEAK p) F.RF_REG_PEAK_LVL (nth v p 0)).put (R.RF_REG_RMS p) F.RF_REG_RMS_LVL (nth v (64 + p) 0)).put
      (R.RF_REG_DUTY p) F.RF_REG_DUTY_DUTY (nth v (128 + p) 0)) s
  ((List.range 16).foldl (fun (t : State) i =>
    (t.wrN (R.RF_REG_RANGE_LO i) (nth v (192 + i) 0)).wrN (R.RF_REG_RANGE_HI i) (nth v (208 + i) 0)) t).regCount

/-! ### RFFE lists (R126, R127) -/

/-- A list starts late: event and count (R127). -/
def State.rffeLate (s : State) (q trig : Nat) : State := (s.count (R.RF_RFFE_LATE_CNT q)).raise Ev.RF_RFFE_LATE [q, trig]

/-- The list of a trigger as the master's list memory holds it (R126): first entry, count, and the cycles of its offset before the trigger
instant. How the list memory lays them out is open (log entry 96). -/
def State.rffeTable (s : State) (q trig : Nat) : Nat × Nat × Nat :=
  let r := Config.rffeTable ((List.range 1024).map (fun j => s.rd (R.RF_RFFE_MEM q j))) trig
  (r.1.toNat, r.2.1.toNat, min r.2.2.toNat 32768)

/-- The master of a quadrant runs the list of a trigger: its entries go out on the bus (R123, R126). -/
def State.rffeBegin (s : State) (q trig : Nat) : State :=
  let l := s.rffeTable q trig
  { s with rf := { s.rf with rffeRun := s.rf.rffeRun.set q (some trig), rffeSent := s.rf.rffeSent.set q [16, l.1, l.2.1] } }

/-- The symbols of a direction on a quadrant. -/
def State.quadSyms (s : State) (q : Nat) (ul : Bool) : List Sym := s.tl.syms.filter (fun (y : Sym) => y.ul == ul && (quadsOf y.pmask).contains q)

/-- The instant of a trigger with its offset has come (R126). Triggers 0 to 5 are TX_ON, RX_ON, TX_OFF, RX_OFF, CHAN_LOCK and GAIN. -/
def State.rffeCome (s : State) (q trig : Nat) : Bool :=
  let o : Int := ((s.rffeTable q trig).2.2 : Nat)
  let starts (ul : Bool) : Bool :=
    let l := s.quadSyms q ul
    !l.any Sym.active && l.any (fun y => decide (s.rel y.start ≤ 738 + o))
  let ends (ul : Bool) : Bool := (s.quadSyms q ul).all (fun y => y.active && decide (s.rel y.start + (stLen y.stamp : Int) ≤ o))
  match trig with
  | 0 => starts false
  | 1 => starts true
  | 2 => ends false
  | 3 => ends true
  | 4 => s.locked q
  | _ => s.live.any (fun i => s.eAct i = Act.gain && (quadsOf (s.ePmask i)).contains q && decide (s.rel (stStart (s.eTgt i)) ≤ 738 + o))

/-- A list falls due (R126): it starts, or waits for the running list. A list of no entries is none. -/
def execRffeListStart (q : Fin 4) (trig : Fin 6) (s : State) : Host.Outcome State Fault Refusal :=
  if (s.rffeTable q trig).2.1 = 0 || !s.rffeCome q trig then .next s
  else match nth s.rf.rffeRun q none with
  | none => .next (s.rffeBegin q trig)
  | some _ => .next { s with rf := { s.rf with rffeDue := s.rf.rffeDue.set q (nth s.rf.rffeDue q [] ++ [trig.val]) } }

/-- A list ends (R127): the next list that is due starts, late. -/
def execRffeListEnd (q : Fin 4) (s : State) : Host.Outcome State Fault Refusal :=
  match nth s.rf.rffeRun q none, nth s.rf.rffeDue q [] with
  | none, _ => .next s
  | some _, [] => .next { s with rf := { s.rf with rffeRun := s.rf.rffeRun.set q none } }
  | some _, d :: l => .next ((({ s with rf := { s.rf with rffeDue := s.rf.rffeDue.set q l } }).rffeBegin q d).rffeLate q d)

end Sys2Proof.Machine
end

