-- ==== Sys2Proof/Machine/Capture.lean ====
section
/-! DEFINITION. Observation captures and their drain to DRAM (R211 to R216, R496 to R498), sounding captures and
reciprocity jobs (R252 to R256). -/

namespace Sys2Proof.Machine

/-! ### Captures (R212 to R216) -/

/-- Base and slot count of a tile's ring of records: base in bits 39:0 and count in bits 63:40 of DFE_CAP_BASE (log entry
15). -/
def State.capBase (s : State) (t : Nat) : Nat := s.get64 (R.DFE_CAP_BASE t) % 2 ^ 40
def State.capSlots (s : State) (t : Nat) : Nat := s.get64 (R.DFE_CAP_BASE t) / 2 ^ 40

/-- Address of a slot of a tile's ring: the stride is 0x3_1000 (R216). -/
def State.capAddr (s : State) (t slot : Nat) : Nat := s.capBase t + slot * 0x31000

/-- A ring slot is free: no record held in it (R216). -/
def State.capFree (s : State) (t slot : Nat) : Bool := !s.dfe.recs.any (fun r => r.tile = t && r.slot = slot)

/-- The state of a tile's capture buffer (R229): 0 idle, 1 capturing, 2 draining. -/
def State.capSt (s : State) (t : Nat) : Nat := s.get (R.DFE_CAP_STATUS t) F.DFE_CAP_STATUS_STATE

/-- The 64 header bytes of a record (R215). -/
def capHeader (k : Cap) : List Byte :=
  leBytes 4 (k.stamp % 2 ^ 23) ++ leBytes 2 k.tag ++ leBytes 1 k.path ++ leBytes 1 (k.flags % 16 + 128 * (k.bank % 2)) ++
    leBytes 2 k.n ++ leBytes 2 k.dly ++ leBytes 1 k.att ++ leBytes 3 0 ++ leBytes 4 k.freq ++ leBytes 4 k.nbr ++ leBytes 40 0

/-- A record as it goes to DRAM. -/
def capRecord (k : Cap) : List Byte := capHeader k ++ k.data

/-- Observation samples at full scale (R214, OVLD): a component at either end of Q0.15. -/
def fullScale (d : List Byte) (n : Nat) : Nat :=
  ((List.range n).filter (fun i =>
    let v (o : Nat) : Nat := leNum ((d.drop (24 * i + o)).take 2)
    v 0 = 0x7FFF || v 0 = 0x8000 || v 2 = 0x7FFF || v 2 = 0x8000)).length

/-- Sample `i` of a record (R212, R215): the observation receiver's output, then x_p and x₁ to x₄, each delayed by DLY samples against it,
with zeros for neighbours not enabled. The five streams begin 1,023 samples before the capture. -/
def capSample (k : Cap) (obs : List (BitVec 16 × BitVec 16)) (tx : List (List (BitVec 16 × BitVec 16))) (i : Nat) : List Byte :=
  let iq (x : BitVec 16 × BitVec 16) : List Byte := leBytes 2 x.1.toNat ++ leBytes 2 x.2.toNat
  let on (j : Nat) : Bool := j = 0 || k.nbr.testBit (8 * (j - 1) + 6)
  iq (nth obs i (0, 0)) ++ (List.range 5).flatMap (fun j => iq (if on j then nth (nth tx j []) (1023 + i - k.dly) (0, 0) else (0, 0)))

/-- The samples of a capture are in and the drain starts (R212 to R214): what the observation receiver gave, and the CFR outputs of the path
and its four neighbours. -/
def execObsCaptureEnd (tile : Fin 8) (samples : List (BitVec 16 × BitVec 16) × List (List (BitVec 16 × BitVec 16))) (s : State) :
    Host.Outcome State Fault Refusal :=
  match nth s.dfe.cap tile none, s.capSt tile with
  | some k, 1 =>
    let d := (List.range k.n).flatMap (capSample k samples.1 samples.2)
    let flags := k.flags ||| (if s.tx k.path = Ps.active then 0 else 4) ||| (if 16 ≤ fullScale d k.n then 8 else 0)
    let k := { k with data := d, flags := flags }
    let t := { s with dfe := { s.dfe with cap := s.dfe.cap.set tile (some k) } }
    let t := ((t.put (R.DFE_CAP_STATUS tile) F.DFE_CAP_STATUS_STATE 2).put (R.DFE_CAP_STATUS tile) F.DFE_CAP_STATUS_PATH k.path).put
      (R.DFE_CAP_STATUS tile) F.DFE_CAP_STATUS_FLAGS flags
    .next (if flags = 0 then t else t.raiseTo Ev.DFE_CAP_INVALID (some k.ctx) [tile, k.path, flags])
  | _, _ => .next s

/-- One 2 KiB-aligned burst of a draining record is granted at the real-time port (R496 to R498): a forced refresh splits it
at its first 512-byte boundary (R495). `ns` is the time from its request to its acceptance. -/
def execRtBurstGrant (tile : Fin 8) (ns : BitVec 16) (s : State) : Host.Outcome State Fault Refusal :=
  match nth s.dfe.cap tile none, s.capSt tile with
  | some k, 2 =>
    let r := capRecord k
    let a := s.capAddr tile k.ringSlot + k.drained
    let n := min (r.length - k.drained) (2048 - a % 2048)
    if n = 0 || !s.dramUp then .next s
    else
      let ch : Fin 2 := ⟨dramCh a % 2, Nat.mod_lt _ (by decide)⟩
      let split := s.mcP ch = 4 && decide (512 - a % 512 < n)
      let t := if s.mcP ch = 4 then s.refresh ch else s
      let t := if split then t.count R.MC_SPLIT_CNT else t
      let t := ((t.dramAccess a n (some ((r.drop k.drained).take n))).tokTake 0 n).mcCount 0 true n
      let t := { t with dfe := { t.dfe with cap := t.dfe.cap.set tile (some { k with drained := k.drained + n }) } }
      .next (if ns.toNat ≤ 240 + Config.tRfcAb then t else (t.count R.MC_RT_LATE_CNT).raise Ev.MC_RT_LATE [ch, ns.toNat])
  | _, _ => .next s

/-! ### Sounding (R252 to R256) -/

/-- Fields of an SRS_CAP's `PARAM` (R252). -/
def srsBuf (q : Nat) : Nat := q % 2 ^ 10
def srsComb (q : Nat) : Nat := 2 ^ (q / 2 ^ 10 % 4)
def srsOfs (q : Nat) : Nat := q / 2 ^ 12 % 2 ^ 8
def srsPrb0 (q : Nat) : Nat := q / 2 ^ 20 % 2 ^ 11
def srsNprb (q : Nat) : Nat := q / 2 ^ 31 % 2 ^ 11

/-- The tones of a capture: subcarriers of its PRBs whose place in the comb is kept. -/
def srsTones (q : Nat) : Nat :=
  ((List.range (12 * srsNprb q)).filter (fun i => (srsOfs q).testBit ((12 * srsPrb0 q + i) % srsComb q))).length

/-- Bytes of a capture (R252). -/
def srsBytes (q : Nat) : Nat := 64 + 256 * srsTones q

/-- The header of a capture buffer (R253). -/
def srsHeader (k : Srs) : List Byte :=
  leBytes 4 (k.stamp % 2 ^ 23) ++ leBytes 1 k.car ++ leBytes 1 (if k.bad then 1 else 0) ++ leBytes 2 (srsTones k.param) ++
    leBytes 8 k.pmask ++ leBytes 8 k.param ++ leBytes 40 0

/-- The kernel of a leased core is triggered by a sounding of its carrier into its context's cluster lease (R297). -/
def State.srsTrigger (s : State) (k : Srs) : State :=
  let a := 4096 * srsBuf k.param
  let blocks := (List.range ((a + srsBytes k.param - 1) / 65536 - a / 65536 + 1)).map (· + a / 65536)
  ([12, 13, 14, 15] : List Nat).foldl (fun (t : State) c =>
    if t.coreLeased c && (t.core c).trig = 3 && (t.core c).trigCar = k.car && blocks.all (fun b => t.holds (t.coreOwner c) 6 b) then t.trigger c else t) s

/-- Cost of a reciprocity job in core cycles (R256). -/
def State.recipCost (s : State) (d : Recip) : Nat :=
  let l := d.layers.length
  9000 + s.rgGroups d.region * (6 * l ^ 2 + l ^ 3 / 4 + 64 * l) / max 1 d.cores

/-- The job of a sounding capture tied to a descriptor is submitted (R254, R477); one whose descriptor has ended submits
none (R259). -/
def State.srsJob (s : State) (k : Srs) : State :=
  match s.hy.srsJobs.find? (fun x => x.1 = s.eSeq k.slot), s.bf.recip.find? (fun d => d.car = k.car && d.ctx = k.ctx) with
  | some (_, j), some d =>
    ({ s with hy := { s.hy with srsJobs := s.hy.srsJobs.filter (fun x => x.2 != j) } }).submitJob j 0
      [s.recipCost d, k.car, d.region, 0x10000000 + 4096 * srsBuf k.param, if k.bad then 1 else 0] d.cores
  | _, _ => s

/-- A sounding capture is complete in cluster memory (R253). The cells of a buffer with INVALID set are open. -/
def execSrsCaptureDone (slot : Fin 4096) (_tones : Unit) (s : State) : Host.Outcome State Fault Refusal :=
  match s.bf.srs.find? (fun k => k.slot = slot.val) with
  | none => .next s
  | some k =>
    if decide ((s.ulAdv k.car : Int) < s.rel (stStart (stAdd k.stamp 1))) then .next s else
    let n := 256 * srsTones k.param
    let open_ : List Byte × State := (leBytes n (s.fresh (8 * n)).1.toNat, (s.fresh (8 * n)).2)
    let (d, t) := if k.bad then open_ else match k.cells with
      | some l => ((l ++ List.replicate n 0).take n, s)
      | none => open_
    let t := t.setBytes (0x10000000 + 4096 * srsBuf k.param) (srsHeader k ++ d)
    let t := { t with bf := { t.bf with srs := t.bf.srs.filter (fun x => x.slot != slot.val) } }
    let t := t.raiseTo Ev.BF_SRS_DONE (some k.ctx) [k.car, k.stamp]
    let t := if k.bad then t.raiseTo Ev.BF_SRS_INVALID (some k.ctx) [k.car, k.stamp] else t
    .next ((t.srsJob k).srsTrigger k)

/-- The vector of beam and group on a page of a paged MAP region (R240). -/
def State.mapVec (s : State) (r page beam g : Nat) : Nat :=
  s.rgBase r + page * (s.rgLen r / 2) + (beam - s.rgBase r) * s.rgGroups r + g

/-- Bytes of a layer's reference sequence (R479). -/
def State.seqBytes (s : State) (k : Nat) (l : List Nat) : Nat :=
  let m := 2 ^ (nth l 3 0 % 4)
  4 * ((12 * s.get (R.BF_CAR_CFG k) F.BF_CAR_CFG_NRB - nth l 1 0 + m - 1) / m)

/-- What a job finds for PRB group `g` from the capture at an address (R254). -/
def State.recipGroup (s : State) (d : Recip) (at_ g : Nat) : RecipFit :=
  let p := 2 ^ s.get (R.BF_REGION_CFG d.region) F.BF_REGION_CFG_PGLOG
  Config.recipFit (s.bytes at_ (64 + 256 * s.memN (at_ + 6) 2)) (d.layers.map (fun l => (l, s.bytes (nth l 4 0) (s.seqBytes d.car l))))
    (BitVec.ofNat 32 d.alpha) (g * p) (g * p + p - 1)

/-- Groups below SNR_MIN (R254). -/
def State.recipBad (s : State) (d : Recip) (at_ : Nat) : List Nat :=
  (List.range (s.rgGroups d.region)).filter (fun g => decide ((s.recipGroup d at_ g).snr < 100 * signed 16 d.snr))

/-- The vectors of a job on the region's inactive page: the solved columns; those of the groups in `bad` copied from the active page (R254). -/
def State.recipWrite (s : State) (d : Recip) (at_ : Nat) (bad : List Nat) : State :=
  let r := d.region
  (List.range d.layers.length).foldl (fun (t : State) l =>
    (List.range (s.rgGroups r)).foldl (fun (t : State) i =>
      let beam := nth (nth d.layers l []) 0 0
      let to_ := s.mapVec r (1 - s.rgAct r) beam i
      if !s.mayWriteVec none to_ then t
      else t.setBytes (vecAddr to_) (if bad.contains i then s.bytes (vecAddr (s.mapVec r (s.rgAct r) beam i)) 256
        else (List.range 64).flatMap (fun p => leBytes 4 (nth (nth (s.recipGroup d at_ i).cols l []) p 0).toNat))) t) s

/-- A reciprocity job finishes (R254, R255). With an invalid capture, or more than half the groups below SNR_MIN, it publishes nothing. -/
def execRecipJobEnd (job : BitVec 16) (_bad _vecs : Unit) (s : State) : Host.Outcome State Fault Refusal :=
  match s.jobOf job.toNat with
  | none => .next s
  | some j =>
    if !(j.kind = 0 && j.st = 2) then .next s
    else
      let car := nth j.args 1 0
      let r := nth j.args 2 0
      match s.bf.recip.find? (fun d => d.car = car && d.region = r) with
      | none => .next (s.signalJob j.num 1)
      | some d =>
        if nth j.args 4 0 = 1 then .next ((s.raiseTo Ev.BF_RECIP_FAIL (some d.ctx) [car, j.num]).signalJob j.num 1)
        else
          let bads := s.recipBad d (nth j.args 3 0)
          let t := s.recipWrite d (nth j.args 3 0) bads
          let t := if bads.isEmpty then t
            else (t.countN R.BF_RECIP_BADGRP_CNT bads.length).raiseTo Ev.BF_RECIP_GROUPS (some d.ctx) [car, bads.length]
          if s.rgGroups r < 2 * bads.length then .next ((t.raiseTo Ev.BF_RECIP_FAIL (some d.ctx) [car, j.num]).signalJob j.num 1)
          else .next ((t.publish r).signalJob j.num 0)

end Sys2Proof.Machine
end

