-- ==== Sys2Proof/Machine/Converters.lean ====
section
/-! DEFINITION. The converters: slice calibration and rotation (R144 to R159), receive and transmit corrections (R160 to
R165), the observation receivers (R166). The two ADCs of a path or of an observation receiver are a pair: pair `a` is ADCs
2a and 2a + 1 (R144). -/

namespace Sys2Proof.Machine

/-- Do these values leave a slice's limits (R156)? In A0 the delay tap is limited to ±120 (R157, A0-E1). -/
def sliceOut (c : SliceCal) : Bool :=
  c.thr.toInt = -32 || c.thr.toInt = 31 || decide (1024 < c.ofs.toInt.natAbs) || decide (10 * c.gain.toNat < 9 * 2 ^ 15) ||
    decide (11 * 2 ^ 15 < 10 * c.gain.toNat) || decide (120 ≤ c.dly.toInt.natAbs)

/-- The delay tap as clamped in A0 (R157). -/
def clampDly (d : BitVec 8) : Nat := unsigned 8 (max (-120) (min 120 d.toInt))

/-- Write a slice's coefficients (R181). -/
def State.sliceSet (s : State) (c : SliceCal) : State :=
  let t := (s.put (R.CV_SLICE_COEF c.adc c.slice) F.CV_SLICE_COEF_GAIN c.gain.toNat).put (R.CV_SLICE_COEF c.adc c.slice)
    F.CV_SLICE_COEF_OFS c.ofs.toNat
  (t.put (R.CV_SLICE_TRIM c.adc c.slice) F.CV_SLICE_TRIM_THR c.thr.toNat).put (R.CV_SLICE_TRIM c.adc c.slice)
    F.CV_SLICE_TRIM_DLY (clampDly c.dly)

/-- Is a slice retired? -/
def State.retired (s : State) (c k : Nat) : Bool := s.flag (R.CV_SLICE_QUAL c k) F.CV_SLICE_QUAL_RET

/-- The retired slices, one bit per slice of every ADC: the content of the journal's object 0x17 (R156, R577). -/
def State.retiredList (s : State) : List Nat :=
  (List.range 144).map (fun c => maskOf ((List.range 9).filter (s.retired c)))

/-- The retired-slice object is journalled when it differs from what the journal holds (R156, R617). -/
def State.journalRetired (s : State) : State :=
  if s.ownObj 0x17 = some s.retiredList || (s.ownObj 0x17 = none && s.retiredList.all (· = 0)) then s
  else (s.journalOwn 0x17 s.retiredList).2

/-- The slot fields of CV_ADC_MAP (R180). -/
def fSlot (j : Nat) : Fld := ⟨4 * j, 4⟩

/-- Give slot `j` of an ADC to a slice (R153, R180). -/
def State.mapSlot (s : State) (c j k : Nat) : State :=
  (s.put (R.CV_ADC_MAP c) (fSlot j) k).put (R.CV_SLICE_QUAL c k) F.CV_SLICE_QUAL_SLOT j

/-- The phase of an ADC (R149): 0 to 4, 5 NOSPARE, 6 FAILED. -/
def State.phase (s : State) (c : Nat) : Nat := s.get (R.CV_ADC_STATUS c) F.CV_ADC_STATUS_PHASE
def State.setPhase (s : State) (c v : Nat) : State := s.put (R.CV_ADC_STATUS c) F.CV_ADC_STATUS_PHASE v

/-- Set the phase of both ADCs of a pair: at SETTLE its next period starts. -/
def State.pairPhase (s : State) (a v : Nat) : State :=
  let t := (s.setPhase (2 * a) v).setPhase (2 * a + 1) v
  if v = 0 then { t with cv := { t.cv with rotOld := t.cv.rotOld.filter (fun x => x.1 != a) } }
  else if v = 4 then { t with cv := { t.cv with rotEnd := (a, s.now) :: t.cv.rotEnd.filter (fun x => x.1 != a) } }
  else t

/-- The settings a pair runs on: those of its period's start (CAL_ROT_SET). -/
def State.rotCfg (s : State) (a : Nat) : Word × Word :=
  ((s.cv.rotOld.find? (fun x => x.1 = a)).map (·.2)).getD (s.rd R.CV_ROT_CFG, s.rd R.CV_SPUR_THR)

/-- An ADC without a spare: rotation stops and its coefficients are frozen (R156). -/
def State.noSpare (s : State) (c : Nat) : State :=
  ((s.setPhase c 5).put (R.CV_ADC_STATUS c) F.CV_ADC_STATUS_SPARE 15).setFlag (R.CV_ADC_SPUR c) F.CV_ADC_SPUR_FROZEN true

/-- The slices of an ADC after a foreground calibration (R148, R156, R157): usable slices take the slots in order, the ninth
is the spare; with eight the pair has no spare; with fewer the ADC has FAILED. -/
def State.fgAdc (s : State) (c : Nat) : State :=
  let ok := (List.range 9).filter (fun k => !s.retired c k)
  let t := (((s.put (R.CV_ADC_STATUS c) F.CV_ADC_STATUS_NEXT 0).put (R.CV_ADC_STATUS c) F.CV_ADC_STATUS_FAILS 0).put
    (R.CV_ADC_STATUS c) F.CV_ADC_STATUS_ROT 0).setFlag (R.CV_ADC_SPUR c) F.CV_ADC_SPUR_FROZEN false
  let t := (List.range 9).foldl (fun (t : State) k => t.put (R.CV_SLICE_QUAL c k) F.CV_SLICE_QUAL_SLOT 8) t
  let t := (List.range 8).foldl (fun (t : State) j => match ok[j]? with
    | some k => t.mapSlot c j k
    | none => t) t
  if ok.length < 8 then ((t.setPhase c 6).put (R.CV_ADC_STATUS c) F.CV_ADC_STATUS_SPARE 15).raise Ev.CV_ADC_FAIL [c]
  else if ok.length = 8 then t.noSpare c
  else (t.put (R.CV_ADC_STATUS c) F.CV_ADC_STATUS_SPARE (nth ok 8 8)).setPhase c 0

/-- When one ADC of a pair has no spare, rotation stops for both (R156). -/
def State.pairFreeze (s : State) (a : Nat) : State :=
  let c := 2 * a
  if s.phase c = 5 && s.phase (c + 1) = 0 then s.noSpare (c + 1)
  else if s.phase (c + 1) = 5 && s.phase c = 0 then s.noSpare c else s

/-- The pairs that are calibrated: those of available paths and of the observation receivers (R147). -/
def State.pairs (s : State) : List Nat := ((List.range 64).filter s.avail) ++ (List.range 8).map (· + 64)

/-- Foreground calibration ends (R148, R156, R157): `cals` gives what it found for each slice. A slice outside its limits is
retired, one that fits again returns to service. R156 asks for OFFLINE twice in succession and does not say what one result of the
foreground calibration does: that it retires a slice at once is this model's choice (DESIGN CHOICE, log entry 102). -/
def execForegroundCalDone (cals : List SliceCal) (s : State) : Host.Outcome State Fault Refusal :=
  if s.cv.fgDone then .next s
  else
    let one (t : State) (c : SliceCal) : State :=
      if sliceOut c then
        (if t.retired c.adc c.slice then t.sliceSet c
         else ((t.sliceSet c).setFlag (R.CV_SLICE_QUAL c.adc c.slice) F.CV_SLICE_QUAL_RET true).raise Ev.CV_SLICE_RETIRED [c.adc, c.slice])
      else (t.sliceSet c).setFlag (R.CV_SLICE_QUAL c.adc c.slice) F.CV_SLICE_QUAL_RET false
    let t := (cals.filter (fun c => c.adc < 144 && c.slice < 9)).foldl one s
    let t := s.pairs.foldl (fun (t : State) a => ((t.fgAdc (2 * a)).fgAdc (2 * a + 1)).pairFreeze a) t
    .next ({ t with cv := { t.cv with fgDone := true, out1 := [], spurred := [], shadow := [], rotOld := [], resid := [], rotEnd := [] } }).journalRetired

/-- The DAC segment trim ends (R162): `worst` gives each DAC's worst segment in 0.01 LSB; above 0.05 LSB it failed. -/
def execDacTrimDone (worst : List (Fin 128 × BitVec 8)) (s : State) : Host.Outcome State Fault Refusal :=
  if s.cv.dacDone then .next s
  else
    let one (t : State) (w : Fin 128 × BitVec 8) : State :=
      let t := (t.put (R.CV_DAC_STATUS w.1) F.CV_DAC_STATUS_WORST w.2.toNat).setFlag (R.CV_DAC_STATUS w.1) F.CV_DAC_STATUS_FAIL (decide (5 < w.2.toNat))
      if 5 < w.2.toNat then t.raise Ev.CV_DAC_CAL_FAIL [w.1] else t
    let t := worst.foldl one s
    .next { t with cv := { t.cv with dacDone := true } }

/-! ### Rotation (R149 to R159) -/

/-- Rotation is enabled and the pair is in this phase. -/
def State.rotIn (s : State) (a ph : Nat) : Bool := fldGet F.CV_ROT_CFG_EN (s.rotCfg a).1 = 1 && s.phase (2 * a) = ph && s.phase (2 * a + 1) = ph

/-- SETTLE ends (R149). -/
def execRotSettleEnd (pair : Fin 72) (s : State) : Host.Outcome State Fault Refusal :=
  when_ (s.rotIn pair 0) (s.pairPhase pair 1) s

/-- The spare slice of an ADC. -/
def State.spare (s : State) (c : Nat) : Nat := s.get (R.CV_ADC_STATUS c) F.CV_ADC_STATUS_SPARE

/-- The delay tap a slice has. -/
def State.tapOf (s : State) (c k : Nat) : BitVec 8 := BitVec.ofNat 8 (s.get (R.CV_SLICE_TRIM c k) F.CV_SLICE_TRIM_DLY)

/-- OFFLINE ends for both ADCs of a pair (R149, R156): `ci` and `cq` give the threshold, the offset and the gain that it found for the
spares of I and Q, whose delay taps stay. A slice outside its limits twice in succession is retired. -/
def execRotOfflineEnd (pair : Fin 72) (ci cq : SliceCal) (s : State) : Host.Outcome State Fault Refusal :=
  if !s.rotIn pair 1 then .next s
  else
    let k (c : Nat) (x : SliceCal) : SliceCal := { x with adc := c, slice := s.spare c, dly := s.tapOf c (s.spare c) }
    let l := [k (2 * pair.val) ci, k (2 * pair.val + 1) cq]
    let t := l.foldl State.sliceSet s
    let again := l.filter (fun c => sliceOut c && s.cv.out1.contains (c.adc, c.slice))
    let out1 := (s.cv.out1.filter (fun x => !l.any (fun c => (c.adc, c.slice) = x))) ++ (l.filter sliceOut).map (fun c => (c.adc, c.slice))
    let t := { t with cv := { t.cv with out1 := out1 } }
    if again.isEmpty then .next (t.pairPhase pair 2)
    else
      let t := again.foldl (fun (t : State) c => (t.setFlag (R.CV_SLICE_QUAL c.adc c.slice) F.CV_SLICE_QUAL_RET true).raise
        Ev.CV_SLICE_RETIRED [c.adc, c.slice]) t
      .next ((t.noSpare (2 * pair)).noSpare (2 * pair + 1)).journalRetired

/-- SHADOW starts (R149). -/
def execRotShadowStart (pair : Fin 72) (s : State) : Host.Outcome State Fault Refusal :=
  when_ (s.rotIn pair 2) (s.pairPhase pair 3) s

/-- The gate of R151 on one ADC: gain and skew only with enough usable samples. -/
def gateOk (usable : Bool) (x : Shadow) : Bool :=
  decide (x.dO.toInt.natAbs ≤ 4) && (!usable || (decide (x.dg.toInt.natAbs ≤ 8) && decide (x.dt.toInt.natAbs ≤ 30)))

/-- SHADOW has refined the spare of an ADC (R150): without 2¹⁶ usable samples only its offset, for the gain of OFFLINE and the delay tap
stay. The differences, and the residuals of the incumbent of slot NEXT (R159), are kept. -/
def State.shadowed (s : State) (usable : Bool) (c : Nat) (x : Shadow) : State :=
  let k := s.spare c
  let coef := R.CV_SLICE_COEF c k
  let t := s.put coef F.CV_SLICE_COEF_OFS x.cal.ofs.toNat
  let t := if usable then (t.put coef F.CV_SLICE_COEF_GAIN x.cal.gain.toNat).put (R.CV_SLICE_TRIM c k) F.CV_SLICE_TRIM_DLY (clampDly x.cal.dly) else t
  let j := s.get (R.CV_ADC_STATUS c) F.CV_ADC_STATUS_NEXT
  let sk := if usable then x.dt.toInt.natAbs else 0
  { t with cv := { t.cv with
      shadow := (c, x.dg.toInt.natAbs, x.dO.toInt.natAbs, sk) :: t.cv.shadow.filter (fun y => y.1 != c)
      resid := (c, j, x.resO.toInt, x.resG.toInt, x.resT.toInt) :: t.cv.resid.filter (fun y => !(y.1 = c && y.2.1 = j)) } }

/-- SHADOW's finding on one ADC, from its coefficients, the gate's differences and the residuals (R150, R151, R159). -/
def shadowOf (c : SliceCal) (d r : BitVec 16 × BitVec 16 × BitVec 16) : Shadow := ⟨c, d.1, d.2.1, d.2.2, r.1, r.2.1, r.2.2⟩

/-- SHADOW ends (R150, R151, R154): both ADCs must pass; after FORCE_N failures on the slot the next period hands over if
the spares passed OFFLINE. `usable` says that SHADOW had 2¹⁶ usable samples. R154 does not say which ADC of a pair a failed gate counts
for: that FAILS and CV_GATE_FAIL_CNT of both count it, whichever failed, is this model's choice (DESIGN CHOICE, log entry 103). -/
def execRotShadowEnd (pair : Fin 72) (usable : Bool) (ci : SliceCal) (di ri : BitVec 16 × BitVec 16 × BitVec 16) (cq : SliceCal)
    (dq rq : BitVec 16 × BitVec 16 × BitVec 16) (s : State) : Host.Outcome State Fault Refusal :=
  let i := shadowOf ci di ri
  let q := shadowOf cq dq rq
  if !s.rotIn pair 3 then .next s
  else
    let c := 2 * pair.val
    let t := (s.shadowed usable c i).shadowed usable (c + 1) q
    let fails := s.get (R.CV_ADC_STATUS c) F.CV_ADC_STATUS_FAILS
    let offOk := !(s.cv.out1.contains (c, s.spare c) || s.cv.out1.contains (c + 1, s.spare (c + 1)))
    if gateOk usable i && gateOk usable q then .next (t.pairPhase pair 4)
    else if fldGet F.CV_ROT_CFG_FORCE_N (s.rotCfg pair).1 ≤ fails && offOk then
      .next ((t.pairPhase pair 4).raise Ev.CV_ROT_FORCED [pair, i.dg.toNat, i.dO.toNat, i.dt.toNat, q.dg.toNat, q.dO.toNat, q.dt.toNat])
    else
      let t := ((t.incSat (R.CV_ADC_STATUS c) F.CV_ADC_STATUS_FAILS).incSat (R.CV_ADC_STATUS (c + 1)) F.CV_ADC_STATUS_FAILS)
      .next (((t.count (R.CV_GATE_FAIL_CNT c)).count (R.CV_GATE_FAIL_CNT (c + 1))).pairPhase pair 0)

/-! ### The spur figures (R159) -/

/-- √½ and 2π in units of 10⁻³⁰. -/
def rootHalf : Int := 707106781186547524400844362105
def twoPi : Int := 6283185307179586476925286766559

/-- cos and sin of m eighths of a turn in units of 10⁻³⁰. -/
def eighth (m : Nat) : Int × Int :=
  let l : List Int := [10 ^ 30, rootHalf, 0, -rootHalf, -(10 ^ 30), -rootHalf, 0, rootHalf]
  (nth l (m % 8) 0, nth l ((m + 6) % 8) 0)

/-- Σ z_j e^(−j2πjk/8) over eight complex values: its squared magnitude, in the square of the values' unit times 10⁻⁶⁰. -/
def dftMag (z : List (Int × Int)) (k : Nat) : Nat :=
  let r := (z.zipIdx).foldl (fun (m : Int × Int) x =>
    let e := eighth (x.2 * k)
    (m.1 + x.1.1 * e.1 + x.1.2 * e.2, m.2 + x.1.2 * e.1 - x.1.1 * e.2)) ((0 : Int), (0 : Int))
  (r.1 * r.1 + r.2 * r.2).natAbs

/-- −20 log₁₀ of √(num / den) in steps of 0.25 dB, within a 10-bit field; the rounding of a figure between two steps is open (log entry
100). -/
def quarterDb (num den : Nat) : Nat :=
  let le (m : Nat) : Bool := decide (10 ^ m * num ^ 40 ≤ den ^ 40)
  let n := (List.range 10).foldl (fun n i => if le (n + 2 ^ (9 - i)) then n + 2 ^ (9 - i) else n) 0
  if le n && 10 ^ n * num ^ 40 != den ^ 40 && Config.roundUp num den then min 1023 (n + 1) else n

/-- The residuals of an ADC's eight slots (R159): offset, gain, skew. -/
def State.residOf (s : State) (c : Nat) : List (Int × Int × Int) :=
  (List.range 8).map (fun j => ((s.cv.resid.find? (fun x => x.1 = c && x.2.1 = j)).map (·.2.2)).getD (0, 0, 0))

/-- GSPUR and OSPUR of an ADC (R159): f_ref is 400 MHz at an RX ADC, 800 MHz at an observation ADC. -/
def State.spurs (s : State) (c : Nat) : Nat × Nat :=
  let l := s.residOf c
  let f : Int := if c < 128 then 400 else 800
  let g := l.map (fun x => (x.2.1 * 10 ^ 39, twoPi * f * x.2.2 * 2 ^ 16))
  let o := l.map (fun x => (x.1, (0 : Int)))
  let worst (z : List (Int × Int)) : Nat := (List.range 7).foldl (fun m k => max m (dftMag z (k + 1))) 0
  (quarterDb (worst g) ((8 * 2 ^ 16 * 10 ^ 69) ^ 2), quarterDb (worst o) ((8 * 16 * 2048 * 10 ^ 30) ^ 2))

/-- One ADC hands slot NEXT to its spare (R153), and CV_ADC_SPUR takes the figures of R159; CV_SPUR_LIMIT is raised again only once GSPUR
has been above the threshold. -/
def State.handover (s : State) (c : Nat) : State :=
  let j := s.get (R.CV_ADC_STATUS c) F.CV_ADC_STATUS_NEXT
  let old := s.get (R.CV_ADC_MAP c) (fSlot j)
  let new := s.spare c
  let d := ((s.cv.shadow.find? (fun x => x.1 = c)).map (·.2)).getD (0, 0, 0)
  let t := (s.mapSlot c j new).put (R.CV_SLICE_QUAL c old) F.CV_SLICE_QUAL_SLOT 8
  let t := ((t.put (R.CV_SLICE_QUAL c new) F.CV_SLICE_QUAL_DG (min d.1 255)).put (R.CV_SLICE_QUAL c new) F.CV_SLICE_QUAL_DO (min d.2.1 255)).put
    (R.CV_SLICE_QUAL c new) F.CV_SLICE_QUAL_DT (min d.2.2 255)
  let t := (((t.put (R.CV_ADC_STATUS c) F.CV_ADC_STATUS_SPARE old).put (R.CV_ADC_STATUS c) F.CV_ADC_STATUS_NEXT ((j + 1) % 8)).put
    (R.CV_ADC_STATUS c) F.CV_ADC_STATUS_FAILS 0).incWrap (R.CV_ADC_STATUS c) F.CV_ADC_STATUS_ROT
  let (gs, os) := s.spurs c
  let thr := fldGet F.CV_SPUR_THR_THR (s.rotCfg (c / 2)).2
  let t := (t.put (R.CV_ADC_SPUR c) F.CV_ADC_SPUR_GSPUR gs).put (R.CV_ADC_SPUR c) F.CV_ADC_SPUR_OSPUR os
  if gs < thr && !s.cv.spurred.contains c then ({ t with cv := { t.cv with spurred := c :: t.cv.spurred } }).raise Ev.CV_SPUR_LIMIT [c, gs]
  else if thr < gs then { t with cv := { t.cv with spurred := t.cv.spurred.filter (· != c) } }
  else t

/-- An observation pair's receiver is in use by a capture or a step of kind 3 or 4 (R155). -/
def State.obsBusy (s : State) (t : Nat) : Bool :=
  s.get (R.DFE_CAP_STATUS t) F.DFE_CAP_STATUS_STATE = 1 || s.cv.steps.any (fun g => (g.1 = 4 && g.2 = t) || (g.1 = 3 && tileOf g.2 = t))

/-- The tick that a pair's handover waits for (R152): the lowest numerology among the running carriers of the path, with the advance of
T′, or among those that transmit on the observation receiver's tile. None, where there is no such carrier. -/
def State.handTick (s : State) (a : Nat) : Option (Nat × Nat) :=
  let rx := a < 64
  let cars := (List.range 16).filter (fun c => s.carRun c && (if rx then (s.carPmask c).testBit a
    else s.carHasTx c && (tilePaths (a - 64)).any (fun p => (s.carPmask c).testBit p)))
  (cars.foldl (fun (m : Option Nat) c => match m with
    | none => some c
    | some d => if s.carNum c < s.carNum d then some c else some d) none).map (fun c => (s.carNum c, if rx then s.ulAdv c else 0))

/-- The reference instant of a pair's handover, in the time of `State.now` (R152, R155). -/
def State.handRef (s : State) (a : Nat) : Nat := ((s.cv.rotEnd.find? (fun x => x.1 = a)).map (·.2)).getD 0

/-- The DFE cycle, as a distance before now, at which a pair hands over once it may (R152): its reference instant, or with ALIGN the last
tick if that came at the reference instant or after it. -/
def State.handBack (s : State) (a : Nat) : Option Nat :=
  let back := s.now - s.handRef a
  match s.handTick a, fldGet F.CV_ROT_CFG_ALIGN (s.rotCfg a).1 with
  | some (num, adv), 1 =>
    let x := s.tlNow + adv
    let d := x - symStart num (symAt num x)
    if d ≤ back then some d else none
  | _, _ => some back

/-- The first sample of slot `j` at or after DFE cycle `k`: 4K + ((s − 4K) mod 8) (R152). -/
def handSample (k j : Nat) : Nat := 4 * k + (j + 8 - 4 * k % 8) % 8

/-- The handover sample n₀ comes (R152, R153, R155). -/
def execSliceHandover (pair : Fin 72) (_gi _oi _gq _oq : Unit) (s : State) : Host.Outcome State Fault Refusal :=
  if !s.rotIn pair 4 || (64 ≤ pair.val && s.obsBusy (pair.val - 64)) then .next s
  else match s.handBack pair with
    | none => .next s
    | some d =>
      let n := handSample (s.tlNow - d) (s.get (R.CV_ADC_STATUS (2 * pair.val)) F.CV_ADC_STATUS_NEXT)
      let t := { s with cv := { s.cv with handAt := (pair.val, n) :: s.cv.handAt.filter (fun x => x.1 != pair.val)
                                          rotEnd := s.cv.rotEnd.filter (fun x => x.1 != pair.val) } }
      .next ((((t.handover (2 * pair)).handover (2 * pair + 1))).pairPhase pair 0)

/-- What CV counts in a cycle: the reference instant of an observation pair moves on while its receiver is in use (R155), the statistics of
the RX paths that are ACTIVE grow (R160), and the drivers of a tile are off during a step of kind 3 (R164). -/
def State.cvTick (s : State) : State :=
  let ends := s.cv.rotEnd.map (fun x => if 64 ≤ x.1 && s.obsBusy (x.1 - 64) then (x.1, s.now) else x)
  let n := (List.range 64).map (fun p => nth s.cv.rxqN p 0 + (if s.rx p = Ps.active then 1 else 0))
  let off := (List.range 8).map (fun t => s.running.any (fun g => g.1 = 3 && stepTile g = t))
  { s with cv := { s.cv with rotEnd := ends, rxqN := n }, pins := { s.pins with drvOff := off } }

/-! ### Receive and transmit corrections (R160 to R166) -/

/-- A correction at an end of its range (R160). -/
def q15End (v : BitVec 16) : Bool := v.toInt = 32767 || v.toInt = -32768

/-- 2²⁴ samples of an ACTIVE path are in, 2²² DFE cycles of them, and a new RX correction is computed (R160): imbalance and DC offset. The
range of the DC offset is not stated; its ends are those of its 16 bits (log entry 104). -/
def execRxqStatsDone (path : Fin 64) (imb dc : BitVec 16 × BitVec 16) (s : State) : Host.Outcome State Fault Refusal :=
  let (eps, phi) := imb
  let (dci, dcq) := dc
  if s.rx path ≠ Ps.active || decide (nth s.cv.rxqN path 0 < 2 ^ 22) then .next s
  else
    let w : Word := BitVec.ofNat 32 (eps.toNat + 2 ^ 16 * phi.toNat)
    let t := { s with cv := { s.cv with rxqNext := (path.val, w, dci.toInt, dcq.toInt) :: s.cv.rxqNext.filter (fun x => x.1 != path.val)
                                        rxqN := s.cv.rxqN.set path 0 } }
    .next (if q15End eps || q15End phi || q15End dci || q15End dcq then t.raise Ev.CV_RXQ_LIMIT [path] else t)

/-- The correction takes effect at the path's next T′ tick (R160). -/
def execRxqCorrectionApply (path : Fin 64) (s : State) : Host.Outcome State Fault Refusal :=
  match s.cv.rxqNext.find? (fun x => x.1 = path.val) with
  | none => .next s
  | some (_, w, dc) =>
    .next { (s.wr (R.CV_RXQ path) w) with cv := { s.cv with rxqNext := s.cv.rxqNext.filter (fun x => x.1 != path.val)
                                                            rxDc := (path.val, dc) :: s.cv.rxDc.filter (fun x => x.1 != path.val) } }

/-- Clamp a value to ± `m` (R163, R165). -/
def clampTo (m : Nat) (v : Int) : Int := max (-(m : Int)) (min (m : Int) v)

/-- A calibration step of kind `k` completed: the interval of R87 has seen one. -/
def State.stepEnd (s : State) (k x : Nat) : State :=
  { s with cv := { s.cv with steps := s.cv.steps.erase (k, x) }
           tl := { s.tl with stepDone := if s.tl.stepDone.contains k then s.tl.stepDone else k :: s.tl.stepDone } }

/-- A kind 3 step ends (R164, R165): the values computed are clamped to |ε|, |sin φ| ≤ 0.125 and |DCI|, |DCQ| ≤ 2,048 LSB
(R163) and staged. -/
def execTxqCalStepDone (path : Fin 64) (dci dcq eps phi : BitVec 18) (leak img : BitVec 8) (s : State) :
    Host.Outcome State Fault Refusal :=
  if !s.running.contains (3, path.val) then .next s
  else
    let c (m : Nat) (v : BitVec 18) : Nat := unsigned 16 (clampTo m v.toInt)
    let out (m : Nat) (v : BitVec 18) : Bool := decide (m < v.toInt.natAbs)
    let dc : Word := BitVec.ofNat 32 (c 8192 dci + 2 ^ 16 * c 8192 dcq)
    let im : Word := BitVec.ofNat 32 (c 4096 eps + 2 ^ 16 * c 4096 phi)
    let t := ({ s with cv := { s.cv with txqNext := (path.val, dc, im) :: s.cv.txqNext.filter (fun x => x.1 != path.val) } }).stepEnd 3 path
    let t := ((t.put (R.CV_TXQ_QUAL path) F.CV_TXQ_QUAL_LEAK leak.toNat).put (R.CV_TXQ_QUAL path) F.CV_TXQ_QUAL_IMG img.toNat).put
      (R.CV_TXQ_QUAL path) F.CV_TXQ_QUAL_AGE 0
    .next (if out 8192 dci || out 8192 dcq || out 4096 eps || out 4096 phi then t.raise Ev.CV_TXQ_LIMIT [path] else t)

/-- Staged TX values take effect at the path's next transmitted symbol (R165). -/
def execTxqValuesApply (path : Fin 64) (s : State) : Host.Outcome State Fault Refusal :=
  match s.cv.txqNext.find? (fun x => x.1 = path.val) with
  | none => .next s
  | some (_, dc, im) =>
    .next { ((s.wr (R.CV_TXQ_DC path) dc).wr (R.CV_TXQ_IMB path) im) with cv := { s.cv with txqNext := s.cv.txqNext.filter (fun x => x.1 != path.val) } }

/-- A kind 4 step ends (R166): `dc` in 0.1 dBFS, `imb` in Q0.15, `dev` a code step's deviation in 0.01 dB. An implausible
result is discarded and its step is to be repeated; after the four steps what they found is staged for the receiver's next capture. -/
def execOrxCalStepDone (tile : Fin 8) (dc imb dev : BitVec 16) (vals : List Nat) (s : State) : Host.Outcome State Fault Refusal :=
  if !s.running.contains (4, tile.val) then .next s
  else
    let t := s.stepEnd 4 tile
    if decide (-300 < dc.toInt) || decide (4096 < imb.toInt.natAbs) || decide (50 < dev.toInt.natAbs) then
      .next (t.raise Ev.CV_ORX_CAL_FAIL [tile])
    else
      let n := nth s.cv.orxStep tile 0
      let got := ((s.cv.orxGot.find? (fun x => x.1 = tile.val)).map (·.2)).getD [] ++ vals
      let rest := s.cv.orxGot.filter (fun x => x.1 != tile.val)
      if n < 3 then .next { t with cv := { t.cv with orxStep := t.cv.orxStep.set tile (n + 1), orxGot := (tile.val, got) :: rest } }
      else
        let nx := (tile.val, got) :: t.cv.orxNext.filter (fun x => x.1 != tile.val)
        let t := { t with cv := { t.cv with orxStep := t.cv.orxStep.set tile 0, orxNext := nx, orxGot := rest } }
        .next (t.put (R.CV_ORX_QUAL tile) F.CV_ORX_QUAL_AGE 0)

/-- One second passes: the ages of calibrations and of DPD banks count up, saturating (R178, R182, R227). The spec does not say how the
seconds since a step or a swap are rounded: that AGE counts the boundaries of one running second, so that it may read 1 at once, is this
model's choice (DESIGN CHOICE, log entry 105). -/
def State.agesTick (s : State) : State :=
  let t := (List.range 64).foldl (fun (t : State) p =>
    (t.incSat (R.CV_TXQ_QUAL p) F.CV_TXQ_QUAL_AGE).incSat (R.DFE_DPD_QUAL p) F.DFE_DPD_QUAL_AGE) s
  (List.range 8).foldl (fun (t : State) i => t.incSat (R.CV_ORX_QUAL i) F.CV_ORX_QUAL_AGE) t

end Sys2Proof.Machine
end

