-- ==== Sys2Proof/Machine/EventPath.lean ====
section
/-! DEFINITION. The event aggregator (R442 to R446): records, sticky bits, the alert summary, lost records. -/

namespace Sys2Proof.Machine

/-- May context `c` receive the event (R442)? Fatal events go to every context. -/
def evMay (e : Event) (c : Nat) : Bool :=
  evSev e.num = 3 || (match e.aud with
    | .all => true
    | .ctx d => c = d
    | .ctxs l => l.contains c
    | .firmware => false)

/-- The event is about a resource the receiving context leases (`OWNED`, R442). -/
def evOwned (e : Event) : Bool := match e.aud with
  | .all => false
  | .firmware => false
  | _ => true

/-- The 16 payload bytes. HI_EVT_OVERFLOW carries its count in the first four (R443); the others' places are not given
(log entry 8). -/
def evPayloadBits (num : Nat) (items : List Nat) : Nat :=
  if num = Ev.HI_EVT_OVERFLOW then items.headD 0 % 2 ^ 32 else (Config.evtPayload num items).toNat

/-- The 32 bytes of an event record (R442). -/
def evBytes (seq : Nat) (e : Event) : List Byte :=
  leBytes 2 seq ++ leBytes 1 e.num ++ leBytes 1 (evSev e.num + (if evOwned e then 4 else 0)) ++ leBytes 4 e.ns ++
    leBytes 4 (e.stamp % 2 ^ 23 + (if e.stampOk then 2 ^ 31 else 0)) ++ leBytes 1 (evBlock e.num) ++ leBytes 3 0 ++
    leBytes 16 (evPayloadBits e.num e.items)

/-- The event's bit in a bank of eight words that starts at the address `a 0` (R442, R444, R445). -/
def State.evBit (s : State) (a : Nat → Nat) (n : Nat) : Bool := (s.rd (a (n / 32))).toNat.testBit (n % 32)

/-- Set an event's bit in such a bank. -/
def State.setEvBit (s : State) (a : Nat → Nat) (n : Nat) : State :=
  s.stick (a (n / 32)) (BitVec.ofNat 32 (2 ^ (n % 32)))

/-- Once the ring has a free entry, one HI_EVT_OVERFLOW record tells how many records were lost since the last one
(R443). -/
def State.overflowRecord (s : State) (c : Nat) : State :=
  let r := 16 + c
  let n := nth s.hi.lost c 0
  if n != 0 && s.ringRuns r && decide (s.ringUsed r < s.ringSize r) then
    let e : Event := ⟨Ev.HI_EVT_OVERFLOW, .ctx c, s.ns, s.get (R.TL_NOW 1) F.TL_NOW_STAMP, s.flag R.TL_CTRL F.TL_CTRL_RUN, [n]⟩
    let t := s.ringPush r (evBytes (s.get (R.HI_RING_PROD r) F.HI_RING_PROD_IDX) e)
    { t with hi := { t.hi with lost := t.hi.lost.set c 0 } }
  else s

/-- Write the event's record to the event ring of one context, or count it as lost on a full ring (R442, R443). -/
def State.evWrite (s : State) (e : Event) (c : Nat) : State :=
  let r := 16 + c
  if !(evMay e c && s.ctxState c = 1 && (s.evBit (R.HI_EVT_MASK c) e.num || evSev e.num = 3) && s.ringRuns r) then s
  else
    let s := s.overflowRecord c
    if s.ringUsed r < s.ringSize r then s.ringPush r (evBytes (s.get (R.HI_RING_PROD r) F.HI_RING_PROD_IDX) e)
    else
      let t := s.count (R.HI_EVT_LOST_CNT c)
      { t with hi := { t.hi with lost := t.hi.lost.set c (nth t.hi.lost c 0 + 1) } }

/-- The event's sticky bit in one context's page, for a fault or fatal event it may receive (R444). -/
def State.evSticky (s : State) (e : Event) (c : Nat) : State :=
  if 2 ≤ evSev e.num && evMay e c && s.ctxState c != 0 then s.setEvBit (R.HI_EVT_STICKY c) e.num else s

/-- Take an event to every context it goes to, and into the alert summary (R442 to R445). -/
def State.deliver (s : State) (e : Event) : State :=
  let t := (List.range 8).foldl (fun (t : State) c => (t.evWrite e c).evSticky e c) s
  if 2 ≤ evSev e.num then t.setEvBit R.HI_ALERT_SUM e.num else t

/-- ALERT_N is driven low while any bit of HI_ALERT_SUM is set (R445). -/
def State.alertLow (s : State) : Bool := (List.range 8).any (fun i => s.rd (R.HI_ALERT_SUM i) != 0)

/-- The aggregator takes up the oldest raised event (R442). -/
def execEventRecordWrite (s : State) : Host.Outcome State Fault Refusal :=
  match s.raised with
  | [] => .next s
  | e :: l => .next (({ s with raised := l }).deliver e)

/-- ITIME microseconds after the first record not yet signalled, the ring raises its vector (R446). -/
def execMsixItimeExpiry (ring : Fin 32) (s : State) : Host.Outcome State Fault Refusal :=
  let n := s.get (R.HI_RING_CFG ring) F.HI_RING_CFG_ITIME
  when_ (nth s.hi.unsig ring 0 != 0 && n != 0 && decide (n * cyclesPerSecond ≤ 1000000 * (s.now - nth s.hi.unsigAt ring 0))) (s.ringSignal ring) s

end Sys2Proof.Machine
end

