-- ==== Sys2Proof/Machine/Thermal.lean ====
section
/-! DEFINITION. Temperature sensors, throttling, wear and the margin planner, and the counter harvester (R563 to R573). -/

namespace Sys2Proof.Machine

/-- Is a sensor marked suspect (R564)? -/
def State.suspect (s : State) (i : Nat) : Bool := s.flag (R.TH_SENSOR i) F.TH_SENSOR_SUSPECT

/-- The latest sample of a sensor, in 0.01 degrees C, if it has one. -/
def State.lastT (s : State) (i : Nat) : Option Int := (nth s.th.hist i []).head?

/-- Latest samples of a sensor's non-suspect neighbours that have one, rising (R563, R564). -/
def State.nbrSamples (s : State) (i : Nat) : List Int :=
  (((List.range 4).map (fun j => (Config.thNeighbour i j).toNat)).filterMap
    (fun n => if s.suspect n then none else s.lastT n)).mergeSort (fun a b => decide (a ≤ b))

/-- Twice the median; for an even count the mean of the middle two counts (R564). -/
def twiceMedian (l : List Int) : Int :=
  let n := l.length
  if n % 2 = 1 then 2 * nth l (n / 2) 0 else nth l (n / 2 - 1) 0 + nth l (n / 2) 0

/-- Suspect sensors in all. -/
def State.suspects (s : State) : Nat := ((List.range 48).filter s.suspect).length

/-- A sensor changes its suspect status: TH_SUSPECT at every change, the counters at entries (R564). -/
def State.setSuspect (s : State) (i : Nat) (b : Bool) : State :=
  if s.suspect i == b then s
  else
    let t := s.setFlag (R.TH_SENSOR i) F.TH_SENSOR_SUSPECT b
    let t := if b then (t.incSat (R.TH_SENSOR i) F.TH_SENSOR_SUSP_N).count R.TH_SUSPECT_CNT else t
    (t.put R.TH_STAT F.TH_STAT_NSUSP t.suspects).raise Ev.TH_SUSPECT [i, if b then 1 else 0]

/-- The status check of a sample (R564): outside −60 to +160 °C is suspect at once; 4 consecutive samples more than 8 °C
from the median make it suspect; 50,000 consecutive within 8 °C clear it; with fewer than two neighbours it is not
checked. -/
def State.checkSensor (s : State) (i : Nat) (x : Int) : State :=
  if x < -6000 || 16000 < x then
    (({ s with th := { s.th with outN := s.th.outN.set i 0, inN := s.th.inN.set i 0 } })).setSuspect i true
  else
    let l := s.nbrSamples i
    if l.length < 2 then s
    else if 1600 < (2 * x - twiceMedian l).natAbs then
      let n := nth s.th.outN i 0 + 1
      let t := { s with th := { s.th with outN := s.th.outN.set i n, inN := s.th.inN.set i 0 } }
      if 4 ≤ n then t.setSuspect i true else t
    else
      let n := nth s.th.inN i 0 + 1
      let t := { s with th := { s.th with outN := s.th.outN.set i 0, inN := s.th.inN.set i n } }
      if s.suspect i && decide (50000 ≤ n) then t.setSuspect i false else t

/-- A sample enters the 1 ms mean: the last 50 samples, or those taken so far (R563). -/
def State.meanSensor (s : State) (i : Nat) (x : Int) : State :=
  let h := (x :: nth s.th.hist i []).take 50
  let t := { s with th := { s.th with hist := s.th.hist.set i h } }
  let (m, t) := t.divFree (h.foldl (· + ·) 0) h.length
  let t := t.put (R.TH_SENSOR i) F.TH_SENSOR_T (unsigned 16 m)
  if i = 46 then t.put R.PM_AON_TEMP F.PM_AON_TEMP_T0 (unsigned 16 m)
  else if i = 47 then t.put R.PM_AON_TEMP F.PM_AON_TEMP_T1 (unsigned 16 m) else t

/-- While a thermal shutdown runs, PEAK keeps the highest raw sample of the tripping sensor (R548). -/
def State.shutPeak (s : State) (i : Nat) (x : Int) : State :=
  if s.pm.shut = some i && decide (signed 16 (s.get R.PM_SHUT_INFO F.PM_SHUT_INFO_PEAK) < x) then
    s.put R.PM_SHUT_INFO F.PM_SHUT_INFO_PEAK (unsigned 16 x) else s

/-- A sensor samples (R563, R564); the raw value is in 0.01 degrees C. -/
def execTempSample (sensor : Fin 48) (t : BitVec 16) (s : State) : Host.Outcome State Fault Refusal :=
  .next (((s.meanSensor sensor t.toInt).checkSensor sensor t.toInt).shutPeak sensor t.toInt)

/-- The sensors that take part in the hottest reading: non-suspect, with a sample (R563, R566). -/
def State.hotSensors (s : State) : List Nat :=
  (List.range 48).filter (fun i => !s.suspect i && !(nth s.th.hist i []).isEmpty)

/-- The reported mean of a sensor. -/
def State.sensorT (s : State) (i : Nat) : Int := signed 16 (s.get (R.TH_SENSOR i) F.TH_SENSOR_T)

/-- The hottest of a list of sensors, the first of equals. -/
def State.hottest (s : State) : Option Nat :=
  s.hotSensors.foldl (fun m i => match m with
    | none => some i
    | some j => if s.sensorT j < s.sensorT i then some i else some j) none

/-- The throttle stage (R567). -/
def State.stage (s : State) : Nat := s.get R.TH_STAT F.TH_STAT_STAGE

/-- Counters the harvester latches (R572), in its order, each with its overflow bit: address and overflow flag. -/
def State.harvestList (s : State) : List (Nat × Bool) :=
  ((List.range 16).map (fun c =>
    [(R.NVC_PERF_CYCLES c, s.flag (R.NVC_PERF_OVF c) F.NVC_PERF_OVF_CYCLES), (R.NVC_PERF_RETIRED c, s.flag (R.NVC_PERF_OVF c) F.NVC_PERF_OVF_RETIRED),
     (R.NVC_PERF_WASTED c, s.flag (R.NVC_PERF_OVF c) F.NVC_PERF_OVF_WASTED), (R.NVC_PERF_FE_STARVED c, s.flag (R.NVC_PERF_OVF c) F.NVC_PERF_OVF_FE),
     (R.NVC_PERF_BE_STARVED c, s.flag (R.NVC_PERF_OVF c) F.NVC_PERF_OVF_BE), (R.NVC_PERF_PAUSED c, s.flag (R.NVC_PERF_OVF c) F.NVC_PERF_OVF_PAUSED)])).flatten ++
  (List.range 16).map (fun n => (R.LN_PAT_BITS n, s.flag (R.LN_PAT_STAT n) F.LN_PAT_STAT_BITS_OVF)) ++
  ((List.range 4).map (fun g => [(R.FH_RX_FRAMES g, s.flag (R.FH_PORT_STAT g) F.FH_PORT_STAT_RX_OVF),
    (R.FH_TX_FRAMES g, s.flag (R.FH_PORT_STAT g) F.FH_PORT_STAT_TX_OVF)])).flatten ++
  ((List.range 8).map (fun i => [(R.MC_PORT_RD_BYTES i, (s.get R.MC_PERF_OVF F.MC_PERF_OVF_OVF).testBit (2 * i)),
    (R.MC_PORT_WR_BYTES i, (s.get R.MC_PERF_OVF F.MC_PERF_OVF_OVF).testBit (2 * i + 1))])).flatten ++
  (List.range 16).map (fun ch => (R.DMA_CH_BYTES ch, s.flag (R.DMA_CH_STAT ch) F.DMA_CH_STAT_BOVF))

/-- May a context read a counter (R295, R447, R517)? The counters of a leased core and of a bulk channel belong to their
holder. -/
def State.mayReadCounter (s : State) (c a : Nat) : Bool :=
  let core := (a - R.NVC_PERF_CYCLES 0) / 0x40
  let ch := (a - R.DMA_CH_BYTES 0) / 0x40
  if R.NVC_PERF_CYCLES 0 ≤ a ∧ a < R.NVC_PERF_CYCLES 16 then
    (if s.get (R.NVC_CORE_STAT core) F.NVC_CORE_STAT_GROUP = 2 then s.get (R.NVC_CORE_STAT core) F.NVC_CORE_STAT_OWNER = c else true)
  else if R.DMA_CH_BYTES 8 ≤ a ∧ a < R.DMA_CH_BYTES 16 then
    (match s.leaseOf 10 (ch + 16) with
     | some o => o = c
     | none => true)
  else true

/-- The 1,280 bytes of a snapshot: a 64-byte header and 152 entries (R572). -/
def State.snapshot (s : State) (dump : Bool) : List Byte :=
  leBytes 4 s.hi.harvSeq ++ leBytes 4 s.ns ++ leBytes 6 s.hy.taiSec ++
    leBytes 1 ((if dump then 1 else 0) + (if s.stage = 0 then 0 else 2)) ++ leBytes 1 s.stage ++ leBytes 2 152 ++
    List.replicate 46 0 ++
    (s.harvestList.map (fun p => if s.mayReadCounter s.hi.harvCtx p.1 then
      leBytes 8 (s.get64 p.1 % 2 ^ 48 + (if p.2 then 2 ^ 63 else 0)) else List.replicate 8 0)).flatten

/-- Write a snapshot into the next slot of the span; the slots form a ring (R572). -/
def State.harvest (s : State) (dump : Bool) : State :=
  let slots := s.hi.harvSpan / 1280
  if slots = 0 then s
  else
    let t := s.setBytes (s.hi.harvBase + 1280 * s.hi.harvSlot) (s.snapshot dump)
    { t with hi := { t.hi with harvSlot := (s.hi.harvSlot + 1) % slots, harvSeq := (s.hi.harvSeq + 1) % 2 ^ 32 } }

/-- A harvester period ends (R572): one snapshot. While throttled the period is at least 1 s (R567). -/
def execHarvestSnapshot (s : State) : Host.Outcome State Fault Refusal :=
  let ms := if s.stage = 0 then s.hi.harvPeriod else max 1000 s.hi.harvPeriod
  when_ (s.hi.harvPeriod != 0 && decide (s.hi.harvAt + ms * 491520 ≤ s.now)) { (s.harvest false) with hi := { (s.harvest false).hi with harvAt := s.now } } s

/-- The throttle stage changes (R567): TH_THROTTLE with the stage and the hottest sensor; TL_BOUND_VOID and
TL_BOUND_RESTORED as the stage leaves and reaches 0 (R77); a dump snapshot and a log record on entry into stage 3
(R573, R580). -/
def State.setStage (s : State) (n : Nat) : State :=
  let old := s.stage
  if old = n then s
  else
    let t := { s with th := { s.th with zoneAt := s.now } }.put R.TH_STAT F.TH_STAT_STAGE n
    let t := if old = 0 then t.count R.TH_THROTTLE_CNT else t
    let t := t.raise Ev.TH_THROTTLE [n, t.get R.TH_STAT F.TH_STAT_HOTIDX]
    let t := if old = 0 then (t.setFlag R.TL_STATUS F.TL_STATUS_BOUND_OK false).raise Ev.TL_BOUND_VOID [] else t
    let t := if n = 0 then (t.setFlag R.TL_STATUS F.TL_STATUS_BOUND_OK true).raise Ev.TL_BOUND_RESTORED [] else t
    let t := if n = 3 then ((t.harvest true).raise Ev.HI_HARVEST_DUMP []).logRecord [0xE3, t.ns] else t
    if n < old then t.askResume else t

/-- R565 applies: more than 12 suspect sensors, or both always-on sensors suspect. -/
def State.sensorsLost (s : State) : Bool := decide (12 < s.suspects) || (s.suspect 46 && s.suspect 47)

/-- The levels of R566 and the sensor loss of R565, evaluated once per millisecond, from the first tick at which sensors
46 and 47 have samples (R563). -/
def State.evaluate (s : State) : State :=
  match s.hottest with
  | none => s
  | some i =>
    let h := s.sensorT i
    let t := (s.put R.TH_STAT F.TH_STAT_HOT (unsigned 16 h)).put R.TH_STAT F.TH_STAT_HOTIDX i
    let z := if h < 10000 then 0 else if h < 10500 then 1 else 2
    let t := if z = t.th.zone then t else { t with th := { t.th with zone := z, zoneAt := t.now } }
    let t := if decide (10000 ≤ h) && !t.flag R.TH_STAT F.TH_STAT_WARN then
      (t.setFlag R.TH_STAT F.TH_STAT_WARN true).raise Ev.TH_WARN [i, unsigned 16 h] else t
    let t := if decide (10500 ≤ h) && !t.th.level then
        (let u := { t with th := { t.th with level := true } }
         if u.stage = 0 then u.setStage 1 else u)
      else if decide (h < 10000) && t.th.level then { t with th := { t.th with level := false } } else t
    if decide (h < 9500) && t.flag R.TH_STAT F.TH_STAT_WARN && t.stage = 0 then
      (t.setFlag R.TH_STAT F.TH_STAT_WARN false).raise Ev.TH_NORMAL [i, unsigned 16 h] else t

/-- TEMP_EVALUATE: R565, then R566. -/
def execTempEvaluate (s : State) : Host.Outcome State Fault Refusal :=
  if (s.lastT 46).isSome && (s.lastT 47).isSome then
    let t := s.evaluate
    if t.sensorsLost then
      .next ((if t.flag R.TH_STAT F.TH_STAT_LOST then t
        else (t.setFlag R.TH_STAT F.TH_STAT_LOST true).raise Ev.TH_SENSORS_LOST [t.suspects]).setStage 3)
    else .next (t.setFlag R.TH_STAT F.TH_STAT_LOST false)
  else .next s

/-- Every 50 ms in which the reading stays there the stage moves by one (R567): up at or above 105 °C, down below 100 °C, held between;
R565 holds it. -/
def execThrottleStep (s : State) : Host.Outcome State Fault Refusal :=
  let h := signed 16 (s.get R.TH_STAT F.TH_STAT_HOT)
  if s.flag R.TH_STAT F.TH_STAT_LOST || !s.aonPast 24576000 s.th.zoneAt then .next s
  else if s.th.level && decide (10500 ≤ h) && decide (s.stage < 3) then .next (s.setStage (s.stage + 1))
  else if decide (h < 10000) && decide (0 < s.stage) then .next (s.setStage (s.stage - 1))
  else .next s

/-- A wear sensor reports slack and age (R569). -/
def execWearReport (sensor : Fin 24) (slack : BitVec 12) (age : BitVec 16) (s : State) : Host.Outcome State Fault Refusal :=
  .next ((s.put (R.TH_WEAR sensor) F.TH_WEAR_SLACK slack.toNat).put (R.TH_WEAR sensor) F.TH_WEAR_AGE age.toNat)

/-- The least slack and the greatest age over the wear sensors (R570). -/
def State.minSlack (s : State) : Nat := (List.range 24).foldl (fun m w => min m (s.get (R.TH_WEAR w) F.TH_WEAR_SLACK)) 4095
def State.maxAge (s : State) : Nat := (List.range 24).foldl (fun m w => max m (s.get (R.TH_WEAR w) F.TH_WEAR_AGE)) 0

/-- The core regulator is asked for a set point (R523): confirmed, it shows in PM_VCORE; failed, or read back wrong, the
set point freezes at the last confirmed value. -/
def State.askVcore (s : State) (mv : Nat) (ok : Bool) : State :=
  let t := { s with pm := { s.pm with vTarget := mv }, th := { s.th with askedAt := some s.now } }
  if ok then (t.put R.PM_VCORE F.PM_VCORE_MV mv).setFlag R.PM_VCORE F.PM_VCORE_FROZEN false
  else (t.setFlag R.PM_VCORE F.PM_VCORE_FROZEN true).raise Ev.PM_VREG_ERR [mv]

/-- The planner changes the set point: TH_VSTEP, the regulator, the margin object and the log (R570, R580). -/
def State.planV (s : State) (mv : Nat) (ok : Bool) : State :=
  let t := (s.put R.TH_MARGIN F.TH_MARGIN_MV mv).raise Ev.TH_VSTEP [mv]
  let t := t.askVcore mv ok
  let t := if mv = 850 then t.raise Ev.PM_VCORE_MAX [mv] else t
  ((t.journalOwn 0x19 [mv, t.get R.TH_MARGIN F.TH_MARGIN_K]).2).logRecord [0x70, mv]

/-- The planner's k: 1, 0.5 or 0.25 by the greatest age (R570), as TH_MARGIN.K codes it. -/
def kOf (age : Nat) : Nat := if age < 10000 then 0 else if age < 20000 then 1 else 2

/-- The margin planner runs (R570); `ok` says whether the regulator took the set point, where one is sent. Its first run
after Boot moves to the journalled set point. -/
def execMarginPlannerRun (ok : Bool) (s : State) : Host.Outcome State Fault Refusal :=
  if !fwRuns s.mode || !s.spanPast cyclesPerSecond s.th.planAt then .next s
  else
    let v := s.get R.TH_MARGIN F.TH_MARGIN_MV
    let sl := s.minSlack
    let runs := if 1200 < sl then s.th.slackRuns + 1 else 0
    let t := { s with th := { s.th with slackRuns := runs, planned := true, planAt := some s.now } }
    let t := if !s.th.planned then
        (match s.ownObj 0x19 with
         | some (mv :: _) => if mv != v then t.planV mv ok else t
         | _ => t)
      else if s.flag R.PM_VCORE F.PM_VCORE_FROZEN then t
      else if decide (sl < 800) && decide (v < 850) then t.planV (v + 5) ok
      else if decide (600 ≤ runs) && decide (700 < v) then t.planV (v - 5) ok
      else t
    let t := if decide (sl < 400) && t.get R.TH_MARGIN F.TH_MARGIN_MV = 850 then t.raise Ev.TH_MARGIN_LOW [sl] else t
    let k := kOf t.maxAge
    if k != t.get R.TH_MARGIN F.TH_MARGIN_K then
      .next (((t.put R.TH_MARGIN F.TH_MARGIN_K k).journalOwn 0x19 [t.get R.TH_MARGIN F.TH_MARGIN_MV, k]).2.logRecord [0x71, k])
    else .next t

/-- Once per second after a failed transfer the regulator's set point is retried (R523). -/
def execPmbusRetry (ok : Bool) (s : State) : Host.Outcome State Fault Refusal :=
  when_ (s.flag R.PM_VCORE F.PM_VCORE_FROZEN && s.spanPast cyclesPerSecond s.th.askedAt) (s.askVcore s.pm.vTarget ok) s

end Sys2Proof.Machine
end

