-- ==== Sys2Proof/Machine/Power.lean ====
section
/-! DEFINITION. Supplies, resets, self-test, the boot ROM, power domains, the gust limiter and thermal shutdown (R519 to
R549), and what every reset leaves (R15, R16, R524). -/

namespace Sys2Proof.Machine

/-- Blocks of the always-on domain, which a warm reset leaves alone (R524, R537): PM, HK, TH, NVJ. -/
def alwaysOn (a : Nat) : Bool := 0x40C00000 ≤ a && a < 0x41000000

/-- A GPIO configuration register: every reset makes the pins inputs again (R457, R526). -/
def isGpio (a : Nat) : Bool := R.PM_GPIO_CFG 0 ≤ a && a < R.PM_GPIO_CFG 32

/-- Bytes that outlast a reset: journal, flash and host memory; DRAM where the reset keeps it (R524). -/
def keepsByte (dram : Bool) (a : Nat) : Bool :=
  (0x50000000 ≤ a && a < 0x70000000) || decide (2 ^ 64 ≤ a) || (dram && dramBase ≤ a)

/-- The cores are OFF in Frost and in the modes in which R35 lists NVC as off, and IDLE after them (R305). -/
def State.coresOff (s : State) (m : Mode) : State :=
  (List.range 16).foldl (fun (t : State) c =>
    let st := t.get (R.NVC_CORE_STAT c) F.NVC_CORE_STAT_STATE
    if !fwRuns m then t.put (R.NVC_CORE_STAT c) F.NVC_CORE_STAT_STATE 0
    else if st = 0 then t.put (R.NVC_CORE_STAT c) F.NVC_CORE_STAT_STATE 1 else t) s

/-- Set the fields of PM_MODE that name the mode, with no transition shown (R47), and the states of the Nalvilos cores. -/
def State.setMode (s : State) (m : Mode) : State :=
  (({ s with pm := { s.pm with modeAt := s.now } }.put R.PM_MODE F.PM_MODE_CUR (modeCode m)).put R.PM_MODE F.PM_MODE_TGT (modeCode m)).coresOff m

/-- Record the mode left and the cause (R622). -/
def State.recordCause (s : State) (cause : Nat) : State :=
  (s.put R.PM_MODE F.PM_MODE_PREV (modeCode s.mode)).put R.PM_MODE F.PM_MODE_CAUSE cause

/-- The state after a power-on reset has taken hold, in mode `m`: every register at its reset value, RWS fields included
(R524). What the journal holds, and what the firmware knows of it, stays. -/
def State.powerOnState (s : State) (m : Mode) : State :=
  let t : State := { State.reset with
    mem := s.mem.filter (fun p => keepsByte false p.1)
    pins := { State.reset.pins with perst := s.pins.perst }
    nvj := { State.reset.nvj with objs := s.nvj.objs, nextGroup := s.nvj.nextGroup }
    pm := { State.reset.pm with rails := s.pm.rails, powerOn := true, porst := s.pm.porst }
    now := s.now
    free := s.free
    lastRead := s.lastRead
    lastCpl := s.lastCpl
    pending := s.pending }
  (t.setMode m).jLocks

/-- The state after a warm reset has taken hold (R524): the always-on domain and DRAM are kept, DRAM not after Thermal
hold; everything else is reset. PREV and CAUSE are written as the reset begins (R44, R622). -/
def State.warmReset (s : State) (cause : Nat) : State :=
  let u := s.recordCause cause
  let hold : Bool := s.mode = .thermalHold
  let t : State := { State.reset with
    regs := u.regs.filter (fun p => alwaysOn p.1 && !isGpio p.1 && p.1 != R.PM_DOM_STAT)
    mem := s.mem.filter (fun p => keepsByte (!hold) p.1)
    pins := { State.reset.pins with perst := s.pins.perst }
    nvj := s.nvj
    hk := s.hk
    th := { s.th with planned := false, slackRuns := 0 }
    pm := { State.reset.pm with rails := s.pm.rails, powerOn := false, porst := s.pm.porst, debt := s.pm.debt, slot := s.pm.slot }
    now := s.now
    free := s.free
    lastRead := s.lastRead
    lastCpl := s.lastCpl
    pending := s.pending }
  (t.setMode .resetHold).setFlag R.PM_MODE F.PM_MODE_BUSY true

/-- Every path that is not OFF is to be disarmed, in the order of R82: the sequence of the forecast core ends (R624). -/
def State.disarmAll (s : State) : State :=
  let ps := (List.range 64).filter s.avail
  let d := ps.map (fun p => (⟨true, p, s.tlNow, s.tlNow⟩ : ArmStep)) ++ ps.map (fun p => (⟨false, p, s.tlNow, s.tlNow⟩ : ArmStep))
  { s with tl := { s.tl with plan := [], dis := d.filter (fun a => s.pathSt a.tx a.path != Ps.off && s.pathSt a.tx a.path != Ps.fault) } }

/-- Symbols end where they stand: nothing is transmitted or received any more, and the pins fall (R43, R548). -/
def State.cutSymbols (s : State) : State :=
  let one (tx : Bool) (t : State) (p : Nat) : State := if t.pathSt tx p = Ps.active then t.setPath tx p Ps.armed else t
  let t := (List.range 64).foldl (one false) ((List.range 64).foldl (one true) s)
  { t with tl := { t.tl with syms := [], pend := [], gains := [] }
           pins := { t.pins with txen := List.replicate 8 false, rxen := List.replicate 8 false } }

/-- A warm reset begins (R43): from a radio mode the paths are ramped down first, without completing committed symbols. PREV and CAUSE
are written as it begins (R44). -/
def State.toReset (s : State) (cause : Nat) : State :=
  if isRadio s.mode && !s.allOff then
    let t := ((s.recordCause cause).put R.PM_MODE F.PM_MODE_TGT (modeCode .resetHold)).setFlag R.PM_MODE F.PM_MODE_BUSY true
    ({ t with pm := { t.pm with ramp := false, rampOn := true, resetTo := some cause } }).cutSymbols.biasDown.disarmAll
  else s.warmReset cause

/-- Every rail in its range, and the device leaves Unpowered (R41, R520). -/
def execSuppliesInRange (s : State) : Host.Outcome State Fault Refusal :=
  when_ (s.mode = .unpowered)
    (({ s with pm := { s.pm with rails := List.replicate 12 true, powerOn := true } }).setMode .resetHold) s

/-- The record in flight when VDD_AON or VDDIO_18 fails (R575): any number of its eight words are written, and the word
being written may hold any value. -/
def State.tearRecord (s : State) : State :=
  match s.nvj.queue with
  | [] => s
  | w :: _ =>
    let (k, t) := s.fresh 4
    let (v, t) := t.fresh 64
    let k := min k.toNat 8
    let old := s.jrec w.num
    t.setBytes (recAddr w.num) (w.data.take (8 * k) ++ (if k = 8 then [] else leBytes 8 v.toNat ++ old.drop (8 * k + 8)))

/-- The 26 fixed bytes after the sequence number that a supply record carries (R580): NS, TAI seconds, the rail at byte
14, and PM_MODE.CUR at byte 24. -/
def State.supplyBytes (s : State) (rail : Nat) : List Byte :=
  leBytes 4 s.ns ++ leBytes 6 (s.get64 R.NVJ_TAI_SHADOW) ++ leBytes 1 rail ++ leBytes 9 0 ++
    leBytes 1 (s.get R.PM_MODE F.PM_MODE_CUR)

/-- A rail is lost (R522): Unpowered; while VDD_AON and VDDIO_18 remain, the record in flight is finished and a supply
record names the rail. -/
def execSupplyLoss (rail : Fin 12) (s : State) : Host.Outcome State Fault Refusal :=
  if s.mode = .unpowered then .next { s with pm := { s.pm with rails := s.pm.rails.set rail false } }
  else
    let t := if rail.val < 2 then s.tearRecord
      else ((s.jCut).slotRecord 16 0x02 (s.supplyBytes rail)).jFlushAon
    .next (({ t with pm := { t.pm with rails := t.pm.rails.set rail false } }).powerOnState .unpowered)

/-- A qualified low pulse on PORST_N (R524): a power-on reset; the record in flight is completed and queued writes are
dropped (R581). -/
def execPorstNAssert (s : State) : Host.Outcome State Fault Refusal :=
  when_ (s.mode ≠ .unpowered) (({ s.jCut with pm := { s.pm with porst := false } }).powerOnState .resetHold) s

/-- PORST_N rises after a power-on reset, the supplies being valid: Self-test (R41, R521). -/
def execPorstNRelease (s : State) : Host.Outcome State Fault Refusal :=
  let t := { s with pm := { s.pm with porst := true } }
  when_ (s.mode = .resetHold && s.pm.powerOn && s.pm.rails.all id)
    (({ t with pm := { t.pm with bistRuns := 0 } }).setMode .selfTest) t

/-- The end of the 1 ms warm-reset pulse: Boot (R41). -/
def execWarmResetHoldEnd (s : State) : Host.Outcome State Fault Refusal :=
  when_ (s.mode = .resetHold && !s.pm.powerOn && s.pm.rails.all id && s.aonPast 491520 s.pm.modeAt) (s.setMode .boot) s

/-- A BIST run ends (R527, R528). An invalid first run is repeated once (R40); else the result that counts is recorded and
Boot starts, with RADIO_LOCK after a failure or a second invalid result (R39). -/
def execBistComplete (fail : BitVec 18) (vout oscout oscRef : Bool) (s : State) : Host.Outcome State Fault Refusal :=
  if s.mode ≠ .selfTest then .next s
  else
    let keep (t : State) (f : Fld) (b : Bool) : State := if b then t.setFlag R.PM_BIST_STAT f true else t
    let t := keep (keep (keep s F.PM_BIST_STAT_VOUT vout) F.PM_BIST_STAT_OSCOUT oscout) F.PM_BIST_STAT_OSC_REF oscRef
    let valid := !(vout || oscout)
    if !valid && s.pm.bistRuns = 0 then
      .next (({ t with pm := { t.pm with bistRuns := 1 } }).setFlag R.PM_BIST_STAT F.PM_BIST_STAT_RERUN true)
    else
      let t := (t.put R.PM_BIST_STAT F.PM_BIST_STAT_FAIL fail.toNat).setFlag R.PM_BIST_STAT F.PM_BIST_STAT_VALID valid
      let pass := valid && fail = 0
      let t := (t.setFlag R.PM_MODE F.PM_MODE_BIST_PASS pass).setFlag R.PM_MODE F.PM_MODE_BIST_VALID valid
      .next ((t.setFlag R.PM_MODE F.PM_MODE_RADIO_LOCK (!pass)).setMode .boot)

/-- What the boot object says (R630): the active slot, the last reported shutdown and supply sequence numbers. -/
def State.bootObject (s : State) : Nat × Nat × Nat :=
  match s.objData (objPlace 0x10) with
  | some d => (leNum (d.take 1) % 2, leNum ((d.drop 4).take 4), leNum ((d.drop 8).take 4))
  | none => (0, 0, 0)

/-- The data of the boot object (R630). -/
def bootBytes (slot sh su : Nat) : List Byte := leBytes 1 slot ++ leBytes 3 0 ++ leBytes 4 sh ++ leBytes 4 su

/-- Every torn record is rewritten as free, and counted in TORN and NVJ_TORN_CNT (R582). -/
def State.scanTorn (s : State) : State :=
  let torn := (List.range 4096).filter (fun n => jTorn (s.jrec n))
  let t := torn.foldl (fun (t : State) n => t.scrubMem (recAddr n) 64) s
  (t.put R.HI_BOOT_STAT F.HI_BOOT_STAT_TORN (min torn.length 255)).wrN R.NVJ_TORN_CNT torn.length

/-- Unreported records of an area (R582): its highest sequence number exceeds the reported one. -/
def State.unreported (s : State) (base rep : Nat) : Bool := match s.areaMax base with
  | some (q, _) => genAfter q rep
  | none => false

/-- Where the first stage came from, and whether it verified (R531 to R533): the two flash slots, or a host image over
PCIe or SPI. -/
def State.firstStage (s : State) (slot : Nat) (fallback : Bool) : State :=
  let t := ((s.put R.HI_BOOT_STAT F.HI_BOOT_STAT_SRC slot).setFlag R.HI_BOOT_STAT F.HI_BOOT_STAT_FALLBACK fallback).put
    R.HI_BOOT_STAT F.HI_BOOT_STAT_STAGE (if s.flag R.TS_STATUS F.TS_STATUS_REF_LOCK then 3 else 2)
  { t with pm := { t.pm with slot := slot % 2 } }

/-- The boot ROM has read the journal and tried the images (R529, R532, R582): `active` and `other` say whether the active
slot's and the other slot's header and first stage verified, `host` a host image's and over which attachment (SPI or
not). -/
def execBootRomDone (active other : Bool) (host : Option Bool) (s : State) : Host.Outcome State Fault Refusal :=
  if !(s.mode = .boot && s.get R.HI_BOOT_STAT F.HI_BOOT_STAT_STAGE = 0) then .next s
  else
    let t := s.scanTorn.jLocks
    let (slot, sh, su) := t.bootObject
    let t := { t with pm := { t.pm with repShut := sh, repSup := su } }
    let t := (t.setFlag R.HI_BOOT_STAT F.HI_BOOT_STAT_SHUTDOWN (t.unreported 0 sh)).setFlag R.HI_BOOT_STAT
      F.HI_BOOT_STAT_SUPPLY (t.unreported 16 su)
    if active then .next (t.firstStage slot false)
    else if other then .next (t.firstStage (1 - slot) true)
    else match host with
      | some spi => .next (t.firstStage (if spi then 3 else 2) true)
      | none => .next (t.put R.HI_BOOT_STAT F.HI_BOOT_STAT_AUTH 3)

/-- The reference PLL can be locked: firmware runs, or the first stage of Boot does (R33, R529), or a Thaw whose domain 1 is awake and
whose retention check is done (R543). -/
def State.pllMay (s : State) : Bool :=
  fwRuns s.mode || (s.mode = .boot && decide (2 ≤ s.get R.HI_BOOT_STAT F.HI_BOOT_STAT_STAGE)) ||
    (s.mode = .frost && s.pm.thaw && (s.get R.PM_DOM_STAT F.PM_DOM_STAT_ON).testBit 1)

/-- REFCLK locks the reference PLL (R529, R543): the control cores move to PLL clocks, and Boot goes on to DRAM
training. -/
def execReferencePllLock (s : State) : Host.Outcome State Fault Refusal :=
  if !s.pllMay then .next s
  else
    let t := (s.setFlag R.TS_STATUS F.TS_STATUS_REF_LOCK true).setFlag R.HI_BOOT_STAT F.HI_BOOT_STAT_REF true
    let t := { t with pm := { t.pm with pllClocks := true } }
    .next (if s.mode = .boot && s.get R.HI_BOOT_STAT F.HI_BOOT_STAT_STAGE = 2 then t.put R.HI_BOOT_STAT F.HI_BOOT_STAT_STAGE 3 else t)

/-- GO of the boot mailbox (R533): the chunk in the window is copied to its place in the image, and ACK counts. The image
is gathered where the first stage loads it: at the bottom of DRAM once DRAM is trained; its place is the model's (log
entry 12). A length outside 1 to 512 words sets ERR. Outside Boot the offsets ignore writes; the mailbox is reached
through function A or SPI. -/
def execHiBootGo (att : Attachment) (ofs : BitVec 20) (len : BitVec 11) (s : State) : Host.Outcome State Fault Refusal :=
  if !(s.mode = .boot && (att = .pcieA || att = .spi)) then .next s
  else
    let t := (s.put R.HI_BOOT_CTRL F.HI_BOOT_CTRL_OFS ofs.toNat).put R.HI_BOOT_CTRL F.HI_BOOT_CTRL_LEN len.toNat
    if 1 ≤ len.toNat ∧ len.toNat ≤ 512 then
      let data := ((List.range len.toNat).map (fun i => leBytes 4 (s.rd (R.HI_BOOT_WIN i)).toNat)).flatten
      .next ((((t.setBytes (dramBase + 256 * ofs.toNat) data).incWrap R.HI_BOOT_ACK F.HI_BOOT_ACK_ACK).setFlag R.HI_BOOT_ACK F.HI_BOOT_ACK_ERR false).put
        R.HI_BOOT_STAT F.HI_BOOT_STAT_SRC (if att = .spi then 3 else 2))
    else .next (t.setFlag R.HI_BOOT_ACK F.HI_BOOT_ACK_ERR true)

/-- A control core misses its kick for 500 ms (R525): a warm reset with CAUSE 0x03. The watchdog stops in Frost, Thermal
hold and Update, and firmware runs from Boot onward. -/
def execFirmwareWatchdogExpiry (s : State) : Host.Outcome State Fault Refusal :=
  when_ (((fwRuns s.mode && s.mode ≠ .update) || s.mode = .boot) && s.pm.resetTo.isNone && s.pm.shut.isNone) (s.toReset 3) s

/-- The modes in which firmware can find a fatal fault: those it runs in, Boot, and Frost while a Thaw has started the control cores
(R41, R543). -/
def State.fwMayFail (s : State) : Bool :=
  (fwRuns s.mode || s.mode = .boot || (s.mode = .frost && s.pm.thaw && (s.get R.PM_DOM_STAT F.PM_DOM_STAT_ON).testBit 1)) &&
    s.pm.resetTo.isNone && s.pm.shut.isNone

/-- Firmware finds a fatal fault (R525): FW_FATAL reaches the rings, the dump snapshot is written (R573), and a warm reset
follows with CAUSE 0x04. -/
def execFatalFirmwareFault (s : State) : Host.Outcome State Fault Refusal :=
  if s.fwMayFail then
    let t := (s.raise Ev.FW_FATAL []).harvest true
    let t := t.raise Ev.HI_HARVEST_DUMP []
    let t := t.raised.foldl (fun (t : State) e => t.deliver e) { t with raised := [] }
    .next (t.toReset 4)
  else .next s

/-! ### Thermal shutdown (R548) -/

/-- The shutdown record's bytes after its sequence number (R580). -/
def State.shutBytes (s : State) (sensor : Nat) (x : Int) : List Byte :=
  let inFlight := match s.nvj.queue with
    | w :: _ => (1, leNum ((w.data.drop 0).take 4))
    | [] => (0, 0xFFFFFFFF)
  let cut := if s.nvj.queue.any (fun w => w.group != 0 && !w.final) || decide (1 < s.nvj.queue.length) then 2 else 0
  leBytes 4 s.ns ++ leBytes 6 (s.get64 R.NVJ_TAI_SHADOW) ++ leBytes 1 sensor ++ leBytes 1 s.stage ++
    leBytes 2 (unsigned 16 x) ++ leBytes 4 (s.rd R.PM_AON_TEMP).toNat ++ leBytes 2 (s.get R.PM_VCORE F.PM_VCORE_MV) ++
    leBytes 1 (s.get R.PM_MODE F.PM_MODE_CUR) ++ leBytes 1 (inFlight.1 + cut) ++ leBytes 4 inFlight.2

/-- A command whose transition is preempted gets no completion (R51). -/
def State.dropMode (s : State) : State :=
  let mine (j : Job) : Bool := match j.wait with
    | .mode _ => true
    | .frost => true
    | _ => false
  (s.hy.jobs.filter mine).foldl (fun (t : State) j => t.dropCmd j.cmd) { s with hy := { s.hy with jobs := s.hy.jobs.filter (fun j => !mine j) } }

/-- A non-suspect sample reaches 120 °C (R548, R566): symbols end and the TDD pins fall, the bias outputs ramp to OFF (R119), the record
in flight is completed and the shutdown record written, the disarming of every path starts (R624), a transition under way is preempted
(R51), and PM_MODE shows the transition to Thermal hold. The sample is in 0.01 degrees C. -/
def execThermalShutdown (sensor : Fin 48) (x : BitVec 16) (s : State) : Host.Outcome State Fault Refusal :=
  if !(decide (12000 ≤ x.toInt) && !s.suspect sensor && s.pm.shut.isNone &&
      !(s.mode = .unpowered || s.mode = .resetHold || s.mode = .thermalHold)) then .next s
  else
    let t := (s.jCut.slotRecord 0 0x01 (s.shutBytes sensor x.toInt)).jFlushAon
    let t := { t with pm := { t.pm with shut := some sensor, frost := none, thaw := false, dom := none, ramp := false, rampOn := true,
                                        resetTo := none, wait := [], granted := [] } }
    let t := (t.dropMode).cutSymbols.biasDown.disarmAll
    let t := (t.put R.PM_SHUT_INFO F.PM_SHUT_INFO_SENSOR sensor).put R.PM_SHUT_INFO F.PM_SHUT_INFO_PEAK x.toNat
    .next ((t.put R.PM_MODE F.PM_MODE_TGT (modeCode .thermalHold)).setFlag R.PM_MODE F.PM_MODE_BUSY true)

/-- THERMTRIP_N falls (R548): PM_MODE reports Thermal hold, PREV and CAUSE are written (R622), domains 1 to 23 are off,
the contents of DRAM and of every memory but the journal are lost, and the contexts' links are down (R38). -/
def execThermalHoldEntry (s : State) : Host.Outcome State Fault Refusal :=
  if s.pm.shut.isNone then .next s
  else
    let u := s.recordCause 5
    let t : State := { State.reset with
      regs := u.regs.filter (fun p => alwaysOn p.1)
      mem := s.mem.filter (fun p => keepsByte false p.1)
      pins := { State.reset.pins with thermtripLow := true, perst := s.pins.perst }
      nvj := s.nvj
      hk := s.hk
      th := s.th
      pm := { State.reset.pm with rails := s.pm.rails, powerOn := false, porst := s.pm.porst, slot := s.pm.slot }
      now := s.now
      free := s.free
      lastRead := s.lastRead
      lastCpl := s.lastCpl
      pending := s.pending }
    .next (((t.setMode .thermalHold).setFlag R.PM_MODE F.PM_MODE_BUSY false).put R.PM_DOM_STAT F.PM_DOM_STAT_ON 1)

/-- Both always-on sensors read below 100 °C (R41, R549). -/
def State.aonCool (s : State) : Bool :=
  decide (signed 16 (s.get R.PM_AON_TEMP F.PM_AON_TEMP_T0) < 10000) && decide (signed 16 (s.get R.PM_AON_TEMP F.PM_AON_TEMP_T1) < 10000)

/-- The clear of Thermal hold through the always-on window (R41, R549): a warm reset with CAUSE 0x06. -/
def State.holdClear (s : State) (v : Word) : State :=
  if s.mode = .thermalHold && v = 0xC1EA && s.aonCool then
    { (s.warmReset 6) with pins := { s.pins with thermtripLow := false } } else s

/-- A write to PM_HOLD_CLEAR over SPI (R549). -/
def execPmHoldClear (v : Word) (s : State) : Host.Outcome State Fault Refusal := .next (s.holdClear v)

/-- Five TCK cycles with TMS high reset the TAP only (R524): nothing the model holds changes. -/
def execTapReset (s : State) : Host.Outcome State Fault Refusal := .next s

/-! ### Frost, Thaw and power domains (R537 to R543) -/

/-- Bits of PM_DOM_STAT. -/
def State.domOn (s : State) (d : Nat) : Bool := (s.get R.PM_DOM_STAT F.PM_DOM_STAT_ON).testBit d

/-- Set a domain's bit. -/
def State.setDom (s : State) (d : Nat) (b : Bool) : State :=
  let m := s.get R.PM_DOM_STAT F.PM_DOM_STAT_ON
  s.put R.PM_DOM_STAT F.PM_DOM_STAT_ON (if b then m ||| 2 ^ d else m &&& (2 ^ 24 - 1 - 2 ^ d))

/-- The Thaw order of the domains (R543): 1, then 21, then 2 to 20, 22 and 23; a lane domain only for a group whose lanes
were not OFF (R623). -/
def State.thawOrder (s : State) : List Nat :=
  let off (g : Nat) : Bool := match s.pm.frost with
    | some f => f.lanes / 4 ^ g % 4 = 2
    | none => false
  ([1, 21] ++ (List.range 19).map (· + 2) ++ [22, 23]).filter (fun d => !(decide (17 ≤ d) && decide (d ≤ 20) && off (d - 17)))

/-- The next domain to wake, if any is still off. -/
def State.nextWake (s : State) : Option Nat := s.thawOrder.find? (fun d => !s.domOn d)

/-- The next domain to power down at Frost entry: 23 to 1 in descending order (R540). -/
def State.nextDown (s : State) : Option Nat := ((List.range 23).map (fun i => 23 - i)).find? (fun d => s.domOn d)

/-- The wake step of a domain, in 1/320 A (R537). -/
def domSize (d : Nat) : Nat :=
  if d = 1 then 480 else if d = 2 || d = 22 then 64 else if d = 3 then 320 else if d = 4 || d = 5 then 640 else if d = 16 then 256
  else if decide (17 ≤ d) && decide (d ≤ 20) then 80 else if d = 23 then 32 else 160

/-- The steps of a sequence of a domain: a power-down stops its clocks first, a wake starts them second (R538). -/
def DomStep.clocks (d : DomStep) : Bool := d.step = (if d.wake then 2 else 1)
def DomStep.last (d : DomStep) : Nat := if d.wake then 5 else 4

/-- A step of a domain's sequence begins (R538): the clocks stop and start in stages of at most 0.5 A, which the gust limiter grants
(R544, R545). -/
def State.domBegin (s : State) (x : Option DomStep) : State :=
  let t := { s with pm := { s.pm with dom := x, stepAt := s.now } }
  match x with
  | some d => if d.clocks then (List.range ((domSize d.dom + 159) / 160)).foldl (fun (t : State) i => t.gustAsk 2 2 d.dom (min 160 (domSize d.dom - 160 * i))) t else t
  | none => t

/-- Banks that failed their check are scrubbed to zero and shown in PM_RET_LOST (R539, R543). -/
def State.loseBanks (s : State) (lost : BitVec 29) : State :=
  let clear (t : State) (b : Nat) : State :=
    if b = 0 then t
    else if b ≤ 4 then t.scrubMem (0x10000000 + 2 ^ 20 * (b - 1)) (2 ^ 20)
    else if b ≤ 8 then t.scrubMem (0x20000000 + 2 ^ 20 * (b - 5)) (2 ^ 20)
    else if b ≤ 24 then t.scrubMem (0x30000000 + 0x80000 * (b - 9)) 0x80000
    else t
  let l := (bitsOf lost.toNat 29)
  let t := l.foldl clear s
  (t.stick R.PM_RET_LOST (BitVec.ofNat 32 lost.toNat)).countN R.PM_RET_LOST_CNT l.length

/-- Once the domains are awake in a Thaw that returns to Standby, the synthesisers calibrate and the converters are to run their foreground
calibration (R543). -/
def State.thawRadio (s : State) : State :=
  if s.pm.thaw && s.pm.enteredFrom = .standby then { s.synAll with cv := { s.synAll.cv with fgDone := false, dacDone := false } } else s

/-- A domain step reports ready (R538): the next step of the sequence, or the next domain. After domain 1 wakes in a Thaw
the walker's check finds the banks `lost` (R543); losing bank 0 ends the Thaw in a warm reset with CAUSE 0x04. Banks with
a DRAM copy are restored once domain 21 is awake: their contents come back. -/
def execDomainReady (lost : BitVec 29) (s : State) : Host.Outcome State Fault Refusal :=
  match s.pm.dom with
  | none => .next s
  | some d =>
    if s.pm.wait.any (fun r => r.what = 2) then .next s
    else if d.step < d.last then
      .next ({ s with pm := { s.pm with granted := s.pm.granted.filter (fun g => g.1 != 2) } }.domBegin (some { d with step := d.step + 1 }))
    else
      let t := s.setDom d.dom d.wake
      if d.wake then
        let t := if s.pm.thaw && d.dom = 1 then
            (((t.wr R.PM_RET_LOST 0).stick R.PM_RET_LOST (BitVec.ofNat 32 lost.toNat)).countN R.PM_RET_LOST_CNT (bitsOf lost.toNat 29).length)
          else t
        let t := (bitsOf lost.toNat 25).foldl (fun (t : State) b =>
            if s.pm.thaw && d.dom = 1 && decide (9 ≤ b) then t.scrubMem (0x30000000 + 0x80000 * (b - 9)) 0x80000 else t) t
        if s.pm.thaw && d.dom = 1 && lost.toNat % 2 = 1 then .next (t.warmReset 4)
        else
          let t := if s.pm.thaw && d.dom = 21 then t.gustAsk 3 3 0 160 else t
          let u := if s.pm.thaw then t.domBegin none else t.domBegin (t.nextWake.map (fun n => ⟨n, true, 1⟩))
          .next (if t.nextWake.isNone then u.thawRadio else u)
      else .next (t.domBegin (t.nextDown.map (fun n => ⟨n, false, 1⟩)))

/-- The Thaw goes on between the domains (R543): 21 waits for the PLL clocks; its DRAM leaves self-refresh once the limiter has granted
that step, and a gather runs on both channels; the domains after it wait for the gather (R512). -/
def State.thawTick (s : State) : State :=
  if !(s.mode = .frost && s.pm.thaw && s.pm.dom.isNone) then s
  else match s.gustTake 3 0 with
  | some t => (({ t with mc := { t.mc with window := [true, true], gatherAt := [some t.now, some t.now] } }).gatherShow).selfRefresh false
  | none => match s.nextWake with
    | none => s
    | some d =>
      if d = 21 && !s.pm.pllClocks then s
      else if d != 1 && d != 21 && (s.flag R.MC_STATUS F.MC_STATUS_SELFREF || s.mc.window.any id) then s
      else s.domBegin (some ⟨d, true, 1⟩)

/-- A domain step gives no ready within 100 µs (R538): PM_DOM_FAIL with the domain; within a Thaw, a warm reset with
CAUSE 0x04. The time that a step waits for the gust limiter is not counted. -/
def execDomainReadyTimeout (s : State) : Host.Outcome State Fault Refusal :=
  match s.pm.dom with
  | none => .next s
  | some d =>
    if s.pm.wait.any (fun r => r.what = 2) || !s.aonPast 49152 s.pm.stepAt then .next s
    else
    let t := s.raise Ev.PM_DOM_FAIL [d.dom]
    .next (if s.pm.thaw then t.warmReset 4 else t)

/-- A Thaw trigger that PWR_FROST enabled (R542): in Frost the Thaw starts with domain 1; during entry it is latched. -/
def State.thawTrigger (s : State) (bit : Nat) : State :=
  match s.pm.frost with
  | none => s
  | some f =>
    if !f.trig.testBit bit then s
    else if s.mode = .frost && !s.pm.thaw then
      let t := { s with pm := { s.pm with thaw := true, cause := 7 } }.domBegin (some ⟨1, true, 1⟩)
      (t.put R.PM_MODE F.PM_MODE_TGT (modeCode s.pm.enteredFrom)).setFlag R.PM_MODE F.PM_MODE_BUSY true
    else if s.mode = .frost then s
    else { s with pm := { s.pm with frost := some { f with latched := true } } }

/-- A write to PM_WAKE over SPI in Frost (R542, R549): bit 0 is the trigger. -/
def execPmWake (v : Word) (s : State) : Host.Outcome State Fault Refusal :=
  when_ (v.toNat % 2 = 1) (s.thawTrigger 0) s

/-- The Frost timer has run since PWR_FROST for the time it named (R542). -/
def State.frostTimer (s : State) : Bool := match s.pm.frost with
  | some f => s.aonPast (f.timerMs * 491520) s.pm.frostAt
  | none => false

/-- The Frost timer expires (R542). -/
def execFrostTimerExpiry (s : State) : Host.Outcome State Fault Refusal := when_ s.frostTimer (s.thawTrigger 3) s

/-! ### The gust limiter (R544, R545) -/

/-- Debt of a step of `n` three-hundred-and-twentieths of an ampere, in the exact unit of `PmState.debt`. -/
def gustDebt (n : Nat) : Nat := n * 49152

/-- What the debt falls in one DFE cycle at cap S, in units of 0.5 A/µs: S × 0.5 A / 491.52 cycles. -/
def gustFall (cap : Nat) : Nat := cap * 16000

/-- Show the debt in PM_GUST_CFG.DEBT, rounded down to 1/64 A and saturating (R544, R554). -/
def State.showDebt (s : State) : State := s.put R.PM_GUST_CFG F.PM_GUST_CFG_DEBT (min (s.pm.debt / 245760) 255)

/-- The waiting step that is granted next: the least rank, and of equal rank the first asked (R545). -/
def gustNext (l : List GustReq) : Option GustReq :=
  l.foldl (fun m r => match m with
    | none => some r
    | some b => if r.rank < b.rank then some r else some b) none

/-- The cap of PWR_GUST takes effect at the next microsecond boundary (R453, R544). -/
def execGustCapApply (s : State) : Host.Outcome State Fault Refusal :=
  match s.pm.capNext with
  | none => .next s
  | some c => .next { (s.put R.PM_GUST_CFG F.PM_GUST_CFG_CAP c) with pm := { s.pm with capNext := none } }

end Sys2Proof.Machine
end

