-- ==== Sys2Proof/Machine/Forecast.lean ====
section
/-! DEFINITION. The forecast: commit (R62 to R68), issue with its checks (R69, R70), what each action does when it is issued
(R64), retirement (R68, R69) and the discard of R55. An action is applied in the row that issues it (log entry 20). -/

namespace Sys2Proof.Machine

/-! ### The ring (R62, R68, R69, R92) -/

def State.tlHead (s : State) : Nat := s.get R.TL_HEAD F.TL_HEAD_IDX
def State.tlTail (s : State) : Nat := s.get R.TL_TAIL F.TL_TAIL_IDX

/-- Slots from TL_HEAD up to TL_TAIL. -/
def State.ringHeld (s : State) : Nat :=
  if s.tlHead = s.tlTail then (if s.live.isEmpty then 0 else 4096) else (s.tlTail + 4096 - s.tlHead) % 4096

/-- TL_TAIL's slot has not been passed by TL_HEAD: no entry fits. -/
def State.tlFull (s : State) : Bool := s.ringHeld = 4096

/-- TL_STATUS shows the live entries (R92). -/
def State.showLive (s : State) : State :=
  (s.put R.TL_STATUS F.TL_STATUS_LIVE s.live.length).setFlag R.TL_STATUS F.TL_STATUS_FULL s.tlFull

/-- TL_HEAD advances past entries that have retired, in ring order (R69). -/
def State.headAdvance (s : State) : State :=
  match (List.range s.ringHeld).find? (fun k => s.live.contains ((s.tlHead + k) % 4096)) with
  | some k => (s.put R.TL_HEAD F.TL_HEAD_IDX (s.tlHead + k)).showLive
  | none => (s.put R.TL_HEAD F.TL_HEAD_IDX s.tlTail).showLive

/-- Live entries of a context (R68). -/
def State.partUsed (s : State) (x : Nat) : Nat := s.get (R.TL_PART_USED x) F.TL_PART_USED_USED

/-- A revoked forecast quota falls as entries retire (R452). -/
def State.quotaFall (s : State) (x : Nat) : State :=
  match s.tl.quotaTo.find? (fun q => q.1 = x) with
  | none => s
  | some (_, n) =>
    let t := s.put (R.TL_PART_QUOTA x) F.TL_PART_QUOTA_QUOTA (max n (s.partUsed x))
    if s.partUsed x ≤ n then ({ t with tl := { t.tl with quotaTo := t.tl.quotaTo.filter (fun q => q.1 != x) } }).revokeDone (4, x)
    else t

/-- An entry retires (R68): its partition count and the head. -/
def State.retireSlot (s : State) (i : Nat) : State :=
  let x := s.eCtx i
  let tl := { s.tl with pend := s.tl.pend.filter (· != i), issued := s.tl.issued.filter (· != i),
                        hostSlots := s.tl.hostSlots.filter (· != i), revSlots := s.tl.revSlots.filter (· != i),
                        waits := s.tl.waits.filter (· != i) }
  let t := { s with tl := tl }
  ((t.put (R.TL_PART_USED x) F.TL_PART_USED_USED (s.partUsed x - 1)).quotaFall x).headAdvance

/-- Every block has acknowledged the entry's issue (R68). -/
def execEntryRetire (slot : Fin 4096) (s : State) : Host.Outcome State Fault Refusal :=
  when_ (s.tl.issued.contains slot.val) (s.retireSlot slot) s

/-! ### Commit (R65, R81) -/

/-- The actions that arm, transmit on, receive on or set a path: Standby takes none of them (R35, log entry 94). -/
def pathActs : List Nat := [Act.dlSym, Act.ulSym, Act.gain, Act.srsCap, Act.obsCap, Act.calBorrow, Act.arm, Act.disarm]

/-- The actions a mode accepts (R35, R81). -/
def State.modeTakes (s : State) (act kind : Nat) : Bool :=
  match s.mode with
  | .listen => [Act.ulSym, Act.srsCap, Act.obsCap, Act.auxTune, Act.chan, Act.gain, Act.mark].contains act ||
      (act = Act.calBorrow && kind = 4)
  | .calibration => [Act.chan, Act.auxTune, Act.guard_, Act.calBorrow, Act.arm, Act.disarm, Act.mark].contains act
  | .tdd | .fdd => true
  | _ => !pathActs.contains act

/-- The entry in slot `i` is well formed (R60, R63, R64, R84, R194, R211, R252). -/
def State.formOk (s : State) (i : Nat) : Bool :=
  let a := s.eAct i
  stValid (s.eTgt i) && decide (1 ≤ a) && decide (a ≤ 16) && decide (1 ≤ s.eNsym i) && decide (s.eNsym i ≤ 14) &&
    (a != Act.srsCap && a != Act.obsCap || s.eNsym i = 1) && ((a != Act.dfeSync && a != Act.cfirSwap) || s.eParam i % 4 != 0) &&
    (a != Act.calBorrow || (decide (1 ≤ s.eKind i) && decide (s.eKind i ≤ 4))) && s.modeTakes a (s.eKind i)

/-- The lead time of a numerology (R66). -/
def State.tlLead (s : State) (n : Nat) : Nat := (s.rd (R.TL_LEAD n)).toNat

/-- The fault of an entry at commit, if any (R65): its event, in the order in which R65 lists the checks. -/
def State.commitFault (s : State) (i : Nat) : Option Nat :=
  let d := s.rel (stStart (s.eTgt i))
  if !s.formOk i then some Ev.TL_ORDER_ERR
  else if (match s.tl.lastTarget with
    | some t => decide ((s.now : Int) + d < t)
    | none => false) then some Ev.TL_ORDER_ERR
  else if d < (s.tlLead (stNum (s.eTgt i)) : Int) then some Ev.TL_LATE_ENTRY
  else if s.get (R.TL_PART_QUOTA (s.eCtx i)) F.TL_PART_QUOTA_QUOTA ≤ s.partUsed (s.eCtx i) then some Ev.TL_PART_FULL
  else none

/-- The words of an entry as they stand in the ring before the check: `VALID`, `STAT` and `DEFER` are the core's (R63). -/
def cleanEntry (w : List Word) : List Word :=
  (w.set 0 (nth w 0 0 &&& 0x7FFFFFFF)).set 7 (nth w 7 0 &&& 0x0000FFFF)

/-- Write the eight words of a slot. -/
def State.putSlot (s : State) (i : Nat) (w : List Word) : State :=
  (List.range 8).foldl (fun (t : State) k => t.wr (ringWord i k) (nth w k 0)) s

/-- Commit an entry at TL_TAIL and advance it (R65). A full ring refuses the advance (R92). `host` marks an entry that a
context staged itself. -/
def State.commit (s : State) (w : List Word) (host : Bool) : State :=
  if s.tlFull then s
  else
    let i := s.tlTail
    let t := (s.putSlot i (cleanEntry w)).put R.TL_TAIL F.TL_TAIL_IDX (i + 1)
    let x := t.eCtx i
    match t.commitFault i with
    | some e =>
      let u := (t.setStat i 9).raiseTo e (some x) [x, t.eSeq i, t.eTgt i]
      let u := if e = Ev.TL_LATE_ENTRY then u.count R.TL_LATE_ENTRY_CNT else u
      u.headAdvance
    | none =>
      let u := (t.wr (ringWord i 0) (t.rd (ringWord i 0) ||| 0x80000000)).put (R.TL_PART_USED x) F.TL_PART_USED_USED (t.partUsed x + 1)
      let tl := { u.tl with pend := u.tl.pend ++ [i], lastTarget := some ((u.now : Int) + u.rel (stStart (u.eTgt i))),
                            hostSlots := if host then u.tl.hostSlots ++ [i] else u.tl.hostSlots }
      ({ u with tl := tl }).showLive

/-- The eight words of a 32-byte image. -/
def imageWords (w : BitVec 256) : List Word := (List.range 8).map (fun k => BitVec.ofNat 32 (w.toNat / 2 ^ (32 * k)))

/-- Firmware writes an entry at TL_TAIL and advances it (R65). -/
def execForecastCommit (entry : BitVec 256) (s : State) : Host.Outcome State Fault Refusal := .next (s.commit (imageWords entry) false)

/-- The staged entry to commit next: the least target, the first consumed among equals (R473). -/
def State.nextStaged (s : State) : Option Staged :=
  s.hy.staged.foldl (fun (m : Option Staged) (e : Staged) => match m with
    | none => some e
    | some f => if e.target < f.target then some e else m) none

/-- Hyrno commits a staged entry once its target is 500 µs away or less (R473). -/
def execStagedEntryCommit (s : State) : Host.Outcome State Fault Refusal :=
  match s.nextStaged with
  | none => .next s
  | some e =>
    if s.now + 245760 < e.target || s.tlFull then .next s
    else
      let hy := { s.hy with staged := s.hy.staged.erase e,
                            lastStamp := (e.ctx, (nth e.words 0 0).toNat % 2 ^ 23) :: s.hy.lastStamp.filter (fun x => x.1 != e.ctx) }
      .next (({ s with hy := hy }).commit e.words (!e.held))

/-! ### The fields of an image (R63) -/

def wTgt (w : List Word) : Nat := (nth w 0 0).toNat % 2 ^ 23
def wCtx (w : List Word) : Nat := (nth w 0 0).toNat / 2 ^ 23 % 8
def wAct (w : List Word) : Nat := (nth w 1 0).toNat % 2 ^ 8
def wCar (w : List Word) : Nat := (nth w 1 0).toNat / 2 ^ 8 % 16
def wQmask (w : List Word) : Nat := (nth w 1 0).toNat / 2 ^ 12 % 16
def wTmask (w : List Word) : Nat := (nth w 1 0).toNat / 2 ^ 16 % 256
def wNsym (w : List Word) : Nat := (nth w 1 0).toNat / 2 ^ 24 % 16
def wKind (w : List Word) : Nat := (nth w 1 0).toNat / 2 ^ 28
def wPmask (w : List Word) : Nat := (nth w 2 0).toNat + 2 ^ 32 * (nth w 3 0).toNat
def wParam (w : List Word) : Nat := (nth w 4 0).toNat + 2 ^ 32 * (nth w 5 0).toNat
def wJob (w : List Word) : Nat := (nth w 6 0).toNat % 2 ^ 16
def wLink (w : List Word) : Bool := (nth w 6 0).toNat.testBit 16

/-- The symbols an entry covers. -/
def wStamps (w : List Word) : List Nat := (List.range (wNsym w)).map (fun (k : Nat) => stAdd (wTgt w) (k : Int))

/-- The entry in a ring slot as words. -/
def State.slotWords (s : State) (i : Nat) : List Word := (List.range 8).map (fun k => s.rd (ringWord i k))

/-! ### The arming sequence (R78, R82, R624) -/

/-- A path direction still needs its arming step: available, armable and OFF (R78, R97, R631). -/
def State.armable (s : State) (a : ArmStep) : Bool := s.avail a.path && !s.cannotArm a.path a.tx && s.pathSt a.tx a.path = Ps.off

/-- Steps of both directions for the paths of an ARM or DISARM entry: TX first, ascending (R82). -/
def State.entrySteps (s : State) (i : Nat) : List ArmStep :=
  let ps := s.paths (s.ePmask i)
  let t := stStart (s.eTgt i)
  ps.map (fun p => ⟨true, p, t, t⟩) ++ ps.map (fun p => ⟨false, p, t, t⟩)

/-- The arming steps that a committed entry asks for once its target lies within 300 µs (R69, R624). -/
def State.stepsOfEntry (s : State) (i : Nat) : List ArmStep :=
  let key := stStart (s.eTgt i)
  if 147456 < s.rel key then []
  else if s.eAct i = Act.arm then s.entrySteps i
  else if s.eAct i = Act.dlSym then (s.paths (s.ePmask i)).map (fun p => ⟨true, p, key, key⟩)
  else if s.eAct i = Act.ulSym then (s.paths (s.ePmask i)).map (fun p => ⟨false, p, shiftBy key (-(s.ulAdv (s.eCar i) : Int)), key⟩)
  else []

/-- The arming steps known: those of ARM entries issued, of pending entries, and of symbols scheduled and not started. -/
def State.armSteps (s : State) : List ArmStep :=
  let sym (y : Sym) : List ArmStep :=
    if y.active then [] else (bitsOf y.pmask 64).map (fun p => ⟨!y.ul, p, y.start, stStart y.stamp⟩)
  (s.tl.plan ++ (s.tl.pend.map s.stepsOfEntry).flatten ++ (s.tl.syms.map sym).flatten).filter s.armable

/-- The order of R82: earlier target first, TX before RX, ascending path. -/
def State.armBefore (s : State) (a b : ArmStep) : Bool :=
  let x := s.rel a.key
  let y := s.rel b.key
  decide (x < y) || (x = y && ((a.tx && !b.tx) || (a.tx = b.tx && decide (a.path < b.path))))

/-- A step takes its place in the order; of two steps of one path direction the earlier stands. -/
def State.placeStep (s : State) (a : ArmStep) : List ArmStep → List ArmStep
  | [] => [a]
  | b :: l =>
    if b.tx = a.tx && b.path = a.path && !s.armBefore a b then b :: l
    else if s.armBefore a b then a :: b :: l.filter (fun c => !(c.tx = a.tx && c.path = a.path))
    else b :: State.placeStep s a l

/-- Steps in the order of R82. -/
def State.inOrder (s : State) (l : List ArmStep) : List ArmStep := l.foldl (fun r a => s.placeStep a r) []

/-- Size of a step in 1/320 A: PM_GUST_STEP holds it in 1/64 A (R82, R544). -/
def State.armSize (s : State) (tx : Bool) : Nat :=
  5 * s.get R.PM_GUST_STEP (if tx then F.PM_GUST_STEP_TX_STEP else F.PM_GUST_STEP_RX_STEP)

/-- The wait after a step of `n` three-hundred-and-twentieths of an ampere, in DFE cycles: ⌈I × 491.52 / S⌉ (R82). -/
def State.stepWait (s : State) (n : Nat) : Nat :=
  let fall := 16000 * s.get R.PM_GUST_CFG F.PM_GUST_CFG_CAP
  (49152 * n + fall - 1) / fall

/-- Arming steps with their instants, as distances from now: placed backwards from their deadlines, 1.50 µs before their symbols, each
early enough for its wait (R82, R624). -/
def State.placed (s : State) : List ArmStep → List (ArmStep × Int)
  | [] => []
  | a :: l =>
    let r := State.placed s l
    let d := s.rel a.start - 738
    match r with
    | [] => [(a, d)]
    | (b, e) :: _ => (a, min d (e - (s.stepWait (s.armSize a.tx) : Int))) :: (b, e) :: r.drop 1

/-- The arming sequence with its instants. -/
def State.armSeq (s : State) : List (ArmStep × Int) := s.placed (s.inOrder s.armSteps)

/-- The first arming instant of the paths of an ARM entry (R64), as a distance from now; its target less 1.50 µs where no path of it
needs a step. -/
def State.armAt (s : State) (i : Nat) : Int :=
  let mine := s.entrySteps i
  (s.armSeq.find? (fun x => mine.contains x.1)).elim (s.rel (stStart (s.eTgt i)) - 738) Prod.snd

/-! ### Issue instants (R64, R69) -/

/-- The issue instant of an entry from now (R64); that of an ARM entry in ring slot `i` is its first arming instant. -/
def State.issueAt (s : State) (w : List Word) (i : Option Nat) : Int :=
  let a := wAct w
  let t (k : Int) : Int := s.rel (stStart (stAdd (wTgt w) k))
  let ul := (s.ulAdv (wCar w) : Int)
  if a = Act.dlSym || a = Act.wpage then t (-4) else if a = Act.ulSym then t 0 - ul - 738 else if a = Act.gain || a = Act.obsCap then t 0 - 738
  else if a = Act.dpdSwap || a = Act.cfirSwap || a = Act.dfeSync then t (-1) else if a = Act.srsCap then t 0 - ul
  else if a = Act.calBorrow then t 0 + 738
  else if a = Act.arm then i.elim (t 0 - 738) s.armAt else t 0

/-- The issue instant of the entry in a slot, from now. -/
def State.slotAt (s : State) (i : Nat) : Int := s.issueAt (s.slotWords i) (some i)

/-- Entry `j` is issued before entry `i`: its instant is earlier, or the same and it stands before `i` in the ring (R69). -/
def State.issuesFirst (s : State) (j i : Nat) : Bool :=
  decide (s.slotAt j < s.slotAt i) ||
    (s.slotAt j = s.slotAt i && decide ((j + 4096 - s.tlHead) % 4096 < (i + 4096 - s.tlHead) % 4096))

/-- It is the turn of slot `i` (R69): its issue instant has come and no pending entry is issued before it. An entry that waits for a later
window takes any turn. -/
def State.issueTurn (s : State) (i : Nat) : Bool :=
  s.tl.waits.contains i ||
    (decide (s.slotAt i ≤ 0) && (s.tl.pend.filter (fun j => !s.tl.waits.contains j)).all (fun j => j = i || !s.issuesFirst j i))

/-- The entry of slot `i` may be issued as an action (R69, R91): ticks run, fewer than four entries were issued in this cycle, and it is its
turn. -/
def State.mayIssue (s : State) (i act : Nat) : Bool :=
  s.ticks (stNum (s.eTgt i)) && s.tl.pend.contains i && s.eAct i = act && decide (s.tl.nIssue < 4) && s.issueTurn i

/-- 128 entries share the issue instant (R69). -/
def State.instantFull (s : State) (w : List Word) : Bool :=
  decide (128 ≤ ((s.hy.staged.map Staged.words ++ s.tl.pend.map s.slotWords).filter (fun v => s.issueAt v none = s.issueAt w none)).length)

/-! ### Issue (R69, R70) -/

/-- The blocks of cluster memory a sounding writes are the context's, or the firmware's own (R252). -/
def State.srsBlocksOk (s : State) (x q : Nat) : Bool :=
  let a := 4096 * srsBuf q
  ((List.range ((a + srsBytes q - 1) / 65536 - a / 65536 + 1)).map (· + a / 65536)).all (fun b =>
    match s.leaseOf 6 b with
    | some c => c = x
    | none => !s.hy.scrub.contains (6, b))

/-- `CTX` still holds every leased resource the entry touches (R70, R449). -/
def State.leaseOk (s : State) (i : Nat) : Bool :=
  let x := s.eCtx i
  let a := s.eAct i
  let car := s.holds x 2 (s.eCar i)
  !s.tl.revSlots.contains i && (s.eJob i = 0 || s.hy.jobOwner.any (fun j => j.1 = x && j.2.1 = s.eJob i)) && (
  if a = Act.wpage then car && (bitsOf (s.eParam i) 64).all (fun r => s.rgOwner r = x && s.rgGranted r)
  else if a = Act.srsCap then car && s.srsBlocksOk x (s.eParam i)
  else if isCarrierAct a then car
  else if a = Act.chan then (bitsOf (s.eQmask i) 4).all (fun q => s.holds x 1 q)
  else if a = Act.gain then s.ownsPaths x (s.ePmask i) && (!(s.eParam i).testBit 16 || car)
  else if a = Act.dpdSwap then s.ownsPaths x (s.ePmask i)
  else if a = Act.obsCap then
    s.ownsPaths x (s.ePmask i) && (!s.tl.hostSlots.contains i || (bitsOf (s.eTmask i) 8).all (fun t => s.holds x 8 t))
  else true)

/-- The slot leaves the pending entries for those issued and not retired. -/
def State.toIssued (s : State) (i : Nat) : State :=
  { s with tl := { s.tl with pend := s.tl.pend.filter (· != i), waits := s.tl.waits.filter (· != i), issued := s.tl.issued ++ [i],
                             nIssue := s.tl.nIssue + 1 } }

/-- An entry is issued: STAT 0x01, and the last committed symbol moves on (R55). -/
def State.issued1 (s : State) (i : Nat) : State :=
  let t := s.setStat i 1
  let last : Int := (s.now : Int) + s.rel (stStart (stAdd (s.eTgt i) ((s.eNsym i : Int) - 1)))
  { t with tl := { t.tl with lastIssued := max t.tl.lastIssued last } }

/-- Issue the entry of slot `i` (R69, R70, R91): the lease and job checks, then its effect; where `hold` answers a state the work waits
for a later window and the entry stays pending (R86, R87). -/
def State.issueOr (s : State) (i act : Nat) (hold : Option State) (eff : State → State) : Host.Outcome State Fault Refusal :=
  if !s.mayIssue i act then .next s
  else
    let x := s.eCtx i
    let t := s.toIssued i
    if !s.leaseOk i then .next (((t.setStat i 5).count R.TL_LEASE_BLANK_CNT).raiseTo Ev.TL_LEASE_BLANK (some x) [x, s.eSeq i, s.eTgt i])
    else if s.eJob i != 0 && !s.jobDone (s.eJob i) then
      .next (((t.setStat i 6).count R.TL_JOB_LATE_CNT).raiseTo Ev.TL_JOB_LATE (some x) [x, s.eSeq i, s.eJob i])
    else match hold with
      | some u => .next u
      | none => .next (eff (t.issued1 i))

/-- Issue an entry whose work never waits for a window. -/
def State.issue (s : State) (i act : Nat) (eff : State → State) : Host.Outcome State Fault Refusal := s.issueOr i act none eff

/-- The symbols of a DL_SYM or UL_SYM (R64). An uplink symbol starts at T′ (R61). -/
def State.schedule (s : State) (i : Nat) (ul : Bool) : State :=
  let one (k : Nat) : Sym :=
    let st := stAdd (s.eTgt i) k
    { slot := i, k := k, start := if ul then shiftBy (stStart st) (-(s.ulAdv (s.eCar i) : Int)) else stStart st, stamp := st, ul := ul,
      ctx := s.eCtx i, car := s.eCar i, pmask := maskOf (s.paths (s.ePmask i)), okQ := [], lateQ := [], blank := false, absent := false,
      active := false, stage := if ul then 3 else 0 }
  { s with tl := { s.tl with syms := s.tl.syms ++ (List.range (s.eNsym i)).map one } }

def execDlSym (slot : Fin 4096) (s : State) : Host.Outcome State Fault Refusal :=
  s.issue slot Act.dlSym (fun t => t.schedule slot false)

def execUlSym (slot : Fin 4096) (s : State) : Host.Outcome State Fault Refusal :=
  s.issue slot Act.ulSym (fun t => t.schedule slot true)

/-- GUARD: symbols are lendable on `QMASK` (R64, R85). -/
def execGuard (slot : Fin 4096) (s : State) : Host.Outcome State Fault Refusal :=
  s.issue slot Act.guard_ (fun t => { t with tl := { t.tl with guards := t.tl.guards ++
    [(t.eQmask slot, stStart (t.eTgt slot), stStart (stAdd (t.eTgt slot) (t.eNsym slot)), t.eCtx slot)] } })

/-! ### Synthesisers (R101 to R105, R135, R170, R234) -/

/-- Frequency and range of a CHAN or AUX_TUNE (R101). -/
def chanF (q : Nat) : Nat := q % 2 ^ 24
def chanR (q : Nat) : Nat := q / 2 ^ 24 % 4

/-- Centre frequencies in kHz of the reference points the journal holds (R167, R578): the object's first four bytes (log
entry 9). -/
def State.refCentres (s : State) : List Nat :=
  (List.range 4).filterMap (fun i => (s.objData (pointPlace i)).map (fun d => leNum (d.take 4)))

/-- A reference point is usable at a quadrant's LO: its centre lies within 25 MHz (R170). -/
def State.refUsable (s : State) (q : Nat) : Bool := s.refCentres.any (fun c => decide (c ≤ s.lo q + 25000) && decide (s.lo q ≤ c + 25000))

/-- CV_ACAL_NOREF for a quadrant, once per CHAN (R170). -/
def State.noRef (s : State) (q : Nat) : State :=
  if s.refUsable q || s.cv.noref.contains q then s
  else ({ s with cv := { s.cv with noref := q :: s.cv.noref } }).raise Ev.CV_ACAL_NOREF [q]

/-- BF_CAR_F0 of a carrier: the LO of its quadrants plus its TX offset, in kHz (R234). The rounding of an offset that is no
whole number of kHz is open (log entry 10). -/
def State.setF0 (s : State) (c : Nat) : State :=
  let (v, t) := s.divFree (s.carTxHz c) 1000
  match quadsOf (s.carPmask c) with
  | q :: _ => t.put (R.BF_CAR_F0 c) F.BF_CAR_F0_F0 (((s.lo q : Int) + v).toNat)
  | [] => t

/-- A CHAN reaches RF (R103, R135): an invalid one and one that would leave the permitted ranges are not applied. -/
def State.chan (s : State) (i : Nat) : State :=
  let f := chanF (s.eParam i)
  let r := chanR (s.eParam i)
  let qs := bitsOf (s.eQmask i) 4
  if !tuneOk f r then s.raiseTo Ev.RF_CHAN_REJECT (some (s.eCtx i)) [s.eQmask i, f, r]
  else if s.mode != .listen && !qs.all (fun q => s.chanPermitted q f) then s.raiseTo Ev.RF_REG_RANGE (some (s.eCtx i)) [s.eQmask i, f]
  else
    let t := qs.foldl (fun (t : State) q => t.tune q f r) s
    let t := { t with cv := { t.cv with noref := t.cv.noref.filter (fun q => !qs.contains q) } }
    let t := qs.foldl State.noRef t
    (List.range 16).foldl (fun (t : State) c =>
      if t.carRun c && (quadsOf (t.carPmask c)).any qs.contains then t.setF0 c else t) t

def execChan (slot : Fin 4096) (s : State) : Host.Outcome State Fault Refusal := s.issue slot Act.chan (fun t => t.chan slot)

/-- AUX_TUNE: the auxiliary synthesiser retunes (R103, R135). -/
def execAuxTune (slot : Fin 4096) (s : State) : Host.Outcome State Fault Refusal :=
  s.issue slot Act.auxTune (fun t =>
    let f := chanF (t.eParam slot)
    let r := chanR (t.eParam slot)
    if tuneOk f r then t.tune 4 f r else t.raiseTo Ev.RF_CHAN_REJECT (some (t.eCtx slot)) [16, f, r])

/-! ### Gain (R95, R96) -/

/-- RF applies the gains whose instants have come (R64). -/
def State.gainTick (s : State) : State :=
  let now := s.tl.gains.filter (fun g => decide (g.at_ ≤ s.now))
  now.foldl (fun (t : State) g => t.put (R.RF_PATH_STATE g.path) (if g.tx then F.RF_PATH_STATE_TXATT else F.RF_PATH_STATE_RXATT) g.code)
    { s with tl := { s.tl with gains := s.tl.gains.filter (fun g => !decide (g.at_ ≤ s.now)) } }

/-- GAIN: the codes of R95 for every path of `PMASK`; RF applies 240 and 72 for codes above them, and holds them to Tₙ for transmit and
T′ₙ of the carrier for receive (R64, R96). -/
def State.gain (s : State) (i : Nat) : State :=
  let q := s.eParam i
  let t := stStart (s.eTgt i)
  let ps := s.paths (s.ePmask i)
  let tx : List HeldGain := if q.testBit 15 then ps.map (fun p => ⟨p, true, min (q % 2 ^ 8) 240, s.atNow t⟩) else []
  let rx : List HeldGain := if q.testBit 16 then ps.map (fun p => ⟨p, false, min (q / 2 ^ 8 % 2 ^ 7) 72,
    s.atNow (shiftBy t (-(s.ulAdv (s.eCar i) : Int)))⟩) else []
  ({ s with tl := { s.tl with gains := s.tl.gains ++ tx ++ rx } }).gainTick

def execGain (slot : Fin 4096) (s : State) : Host.Outcome State Fault Refusal := s.issue slot Act.gain (fun t => t.gain slot)

/-! ### Pre-distortion, FIR banks, synchronising reset (R194 to R200, R208, R209) -/

/-- One path of a DPD_SWAP (R208, R209): whether it swapped, and the state. -/
def State.dpdSwapPath (s : State) (p : Nat) : Bool × State :=
  let st := R.DFE_DPD_STATUS p
  if s.flag st F.DFE_DPD_STATUS_READY then
    (true, (((s.put st F.DFE_DPD_STATUS_ACT (1 - s.get st F.DFE_DPD_STATUS_ACT)).setFlag st F.DFE_DPD_STATUS_READY false).incWrap st
      F.DFE_DPD_STATUS_SWAPS).put (R.DFE_DPD_QUAL p) F.DFE_DPD_QUAL_AGE 0)
  else (false, (s.count R.DFE_DPD_NOTREADY_CNT).raise Ev.DFE_DPD_NOTREADY [p])

/-- DPD_SWAP: each ready path swaps; DFE_DPD_SWAPPED once per entry when one did (R208, R209). -/
def State.dpdSwap (s : State) (i : Nat) : State :=
  let r := (s.paths (s.ePmask i)).foldl (fun (a : Bool × State) p =>
    let b := a.2.dpdSwapPath p
    (a.1 || b.1, b.2)) (false, s)
  if r.1 then r.2.raiseTo Ev.DFE_DPD_SWAPPED (some (s.eCtx i)) [s.eSeq i] else r.2

def execDpdSwap (slot : Fin 4096) (s : State) : Host.Outcome State Fault Refusal := s.issue slot Act.dpdSwap (fun t => t.dpdSwap slot)

/-- A chain before its first sample: its delay lines are clear, and each decimator of ratio m keeps sample (j + 1) × m − 1 (R188). -/
def State.newChain (s : State) (c p : Nat) (ul : Bool) : ChainSt :=
  { car := c, path := p, ul := ul, bank := s.get (R.DFE_CAR_STAT c) (if ul then F.DFE_CAR_STAT_CBANK_RX else F.DFE_CAR_STAT_CBANK_TX),
    next := none, acc := 0, ma := [[], [], [], []], fir := [], hb1 := [], hb2 := [],
    skipRc := 2 ^ s.get (R.DFE_CAR_CIC_HI c) F.DFE_CAR_CIC_LOGRC - 1, skip1 := 1, skip2 := 1, fill := 0 }

/-- A chain of a carrier on a path. -/
def State.chainOf (s : State) (c p : Nat) (ul : Bool) : ChainSt :=
  (s.dfe.chains.find? (fun k => k.car = c && k.path = p && k.ul = ul)).getD (s.newChain c p ul)
def State.setChain (s : State) (k : ChainSt) : State :=
  { s with dfe := { s.dfe with chains := k :: s.dfe.chains.filter (fun x => !(x.car = k.car && x.path = k.path && x.ul = k.ul)) } }

/-- One direction of a CFIR_SWAP, 0 TX and 1 RX (R198 to R200): a second one for the symbol is ignored and counted. The chains of the paths
of `PMASK` take the other bank at the first sample of the symbol, and CBANK shows it from the symbol's start (log entry 107). -/
def State.cfirSwapDir (s : State) (c dir tgt pmask : Nat) : State :=
  if s.dfe.cfirSwap.contains (c, dir, stStart tgt) then (s.count R.DFE_CFIR_EXTRA_CNT).raiseTo Ev.DFE_CFIR_EXTRA (s.carOwner c) [c, dir]
  else
    let ps := s.paths (s.carPmask c)
    let t := ps.foldl (fun (t : State) p => t.setChain (t.chainOf c p (dir = 1))) s
    { t with dfe := { t.dfe with
        cfirSwap := t.dfe.cfirSwap ++ [(c, dir, stStart tgt)]
        firNext := t.dfe.firNext ++ (ps.filter pmask.testBit).map (fun p => (c, decide (dir = 1), p, tgt)) } }

/-- CFIR_SWAP: `PARAM[1:0]` gives the directions as in R194. -/
def execCfirSwap (slot : Fin 4096) (s : State) : Host.Outcome State Fault Refusal :=
  s.issue slot Act.cfirSwap (fun t =>
    let one (u : State) (dir : Nat) : State :=
      if (t.eParam slot).testBit dir then u.cfirSwapDir (t.eCar slot) dir (t.eTgt slot) (t.ePmask slot) else u
    one (one t 0) 1)

/-- The bank of a direction changes at the start of the swap's symbol, Tₙ or T′ₙ (R64, R225). -/
def State.swapTick (s : State) : State :=
  let due (x : Nat × Nat × Nat) : Bool := decide (s.rel x.2.2 ≤ (if x.2.1 = 1 then (s.ulAdv x.1 : Int) else 0))
  (s.dfe.cfirSwap.filter due).foldl (fun (t : State) x =>
    let f := if x.2.1 = 0 then F.DFE_CAR_STAT_CBANK_TX else F.DFE_CAR_STAT_CBANK_RX
    t.put (R.DFE_CAR_STAT x.1) f (1 - t.get (R.DFE_CAR_STAT x.1) f))
    { s with dfe := { s.dfe with cfirSwap := s.dfe.cfirSwap.filter (fun x => !due x) } }

/-- Does carrier `c` transmit symbol N − 1 on a path of a mask (R196)? -/
def State.transmitsBefore (s : State) (c tgt pmask : Nat) : Bool :=
  let b := stAdd tgt (-1)
  s.tl.syms.any (fun (y : Sym) => !y.ul && y.car = c && y.stamp = b && y.pmask &&& pmask != 0) ||
    s.tl.pend.any (fun i => s.eAct i = Act.dlSym && s.eCar i = c && s.ePmask i &&& pmask != 0 &&
      (List.range (s.eNsym i)).any (fun k => stAdd (s.eTgt i) k = b))

/-- DFE_SYNC (R194 to R196): the chains of the carrier on the paths of `PMASK` are reset at the first sample of the symbol, and the first
FILL_LEN outputs of an RX chain are invalid; the TX part is not performed where the carrier transmits symbol N − 1. -/
def execDfeSync (slot : Fin 4096) (s : State) : Host.Outcome State Fault Refusal :=
  s.issue slot Act.dfeSync (fun t =>
    let c := t.eCar slot
    let d := t.eParam slot
    let tgt := t.eTgt slot
    let skip := d.testBit 0 && t.transmitsBefore c tgt (t.ePmask slot)
    let u := if skip then t.raiseTo Ev.DFE_SYNC_TX_SKIP (some (t.eCtx slot)) [c] else t
    let ps := t.paths (t.ePmask slot &&& t.carPmask c)
    let mine := (if d.testBit 0 && !skip then ps.map (fun p => (c, false, p, tgt)) else []) ++ (if d.testBit 1 then ps.map (fun p => (c, true, p, tgt)) else [])
    let u := { u with dfe := { u.dfe with syncNext := u.dfe.syncNext ++ mine } }
    if d.testBit 1 then { u with tl := { u.tl with rxSync := (c, shiftBy (stStart tgt) (-(t.ulAdv c : Int))) :: u.tl.rxSync } } else u)

/-! ### Weight pages and soundings (R244, R247, R252) -/

/-- A carrier takes up the newest correction bank for the symbol of a stamp (R247). -/
def State.takeBank (s : State) (c st : Nat) : State :=
  let b := s.get R.CV_ACAL_STATUS F.CV_ACAL_STATUS_BANK
  if !s.carBeam c || s.get (R.BF_CAR_STAT c) F.BF_CAR_STAT_ACBANK = b then s
  else
    let s := { s with bf := { s.bf with acFrom := (c, 1 - b, st) :: s.bf.acFrom.filter (fun x => x.1 != c) } }
    let t := (s.put (R.BF_CAR_STAT c) F.BF_CAR_STAT_ACBANK b).raiseTo Ev.BF_ACBANK (s.carOwner c) [c, b]
    if (List.range 16).all (fun k => !(t.carRun k && t.carBeam k) || t.get (R.BF_CAR_STAT k) F.BF_CAR_STAT_ACBANK = b) &&
        t.get R.CV_ACAL_STATUS F.CV_ACAL_STATUS_STATE = 3 then t.put R.CV_ACAL_STATUS F.CV_ACAL_STATUS_STATE 4 else t

/-- WPAGE: the regions of `PARAM` switch for symbol N, and the carrier takes up the newest correction bank. -/
def execWpage (slot : Fin 4096) (s : State) : Host.Outcome State Fault Refusal :=
  s.issue slot Act.wpage (fun t =>
    let free := ((t.now : Int) + t.rel (stStart (stAdd (t.eTgt slot) 2)) - (t.ulAdv (t.eCar slot) : Int)).toNat
    ((bitsOf (t.eParam slot) 64).foldl (fun (u : State) r => u.switchRegion r (stStart (t.eTgt slot)) free) t).takeBank (t.eCar slot) (t.eTgt slot))

/-- The former correction bank of a carrier leaves the pipeline when its last combine ends, at T′₍N+2₎ (R245, R247). -/
def State.bankTick (s : State) : State :=
  { s with bf := { s.bf with acFrom := s.bf.acFrom.filter (fun x => decide ((s.ulAdv x.1 : Int) < s.rel (stStart (stAdd x.2.2 2)))) } }

/-- SRS_CAP: the FFT output of symbol N is to be copied into cluster memory (R252, R253). -/
def execSrsCap (slot : Fin 4096) (s : State) : Host.Outcome State Fault Refusal :=
  s.issue slot Act.srsCap (fun t => { t with bf := { t.bf with srs := t.bf.srs ++
    [⟨slot, t.eTgt slot, t.eCar slot, t.eCtx slot, maskOf (t.paths (t.ePmask slot)), t.eParam slot, false, none⟩] } })

/-- The spans of an entry's symbols from now, in DFE cycles (R61). -/
def State.spansOf (s : State) (w : List Word) : List (Int × Int) :=
  (wStamps w).map (fun t =>
    let a := s.rel (stStart t) - (if wAct w = Act.ulSym then (s.ulAdv (wCar w) : Int) else 0)
    (a, a + stLen t))

/-! ### Lent windows (R84 to R87) -/

/-- Kind of an entry's work: OBS_CAP is kind 1 (R84). -/
def State.workKind (s : State) (i : Nat) : Nat := if s.eAct i = Act.obsCap then 1 else s.eKind i

/-- Span of an entry's symbols in DFE cycles. -/
def State.spanLen (s : State) (i : Nat) : Nat := ahead (stStart (stAdd (s.eTgt i) (s.eNsym i))) (stStart (s.eTgt i))

/-- Start of the span an entry asks for, from now: its target, or for one that waits for a later window the present. -/
def State.spanAt (s : State) (i : Nat) : Int := if s.tl.waits.contains i then -738 else s.rel (stStart (s.eTgt i))

/-- The symbols known to touch a quadrant: those scheduled, and those of pending DL_SYM and UL_SYM entries, on T and T′ (R61, R85). -/
def State.busySpans (s : State) (q : Nat) : List (Int × Int) :=
  ((s.tl.syms.filter (fun (y : Sym) => !y.absent && (quadsOf y.pmask).contains q)).map (fun (y : Sym) =>
      (s.rel y.start, s.rel y.start + (stLen y.stamp : Int)))) ++
    ((s.tl.pend.filter (fun i => (s.eAct i = Act.dlSym || s.eAct i = Act.ulSym) && (quadsOf (s.ePmask i)).contains q)).map (fun i =>
      s.spansOf (s.slotWords i))).flatten

/-- The part of an entry's span on a quadrant that no symbol touches, from now (R85): from the end of the symbols that stand at its start
to the next symbol's start. In Calibration every symbol is lendable (R81). -/
def State.freeSpan (s : State) (i q : Nat) : Int × Int :=
  let a := s.spanAt i
  let e := a + (s.spanLen i : Int)
  if s.mode = .calibration then (a, e)
  else
    let b := s.busySpans q
    ((b.filter (fun x => decide (x.1 ≤ a))).foldl (fun m x => max m x.2) a, (b.filter (fun x => decide (a < x.1))).foldl (fun m x => min m x.1) e)

/-- A window exists on a quadrant (R85): more than 1.50 µs at each end is left, and in FDD service a GUARD covers it. -/
def State.lendable (s : State) (i q : Nat) : Bool :=
  let w := s.freeSpan i q
  decide (w.1 + 1476 < w.2) && (s.mode != .fdd || s.tl.guards.any (fun g => g.1.testBit q &&
    decide (s.rel g.2.1 ≤ w.1) && decide (w.2 ≤ s.rel g.2.2.1)))

/-- Length of the window that an entry can have on the quadrants `qs`: without the 1.50 µs at each end (R85); for work that takes no
quadrant, its span. -/
def State.windowLen (s : State) (i : Nat) (qs : List Nat) : Nat :=
  match qs.map (fun q => ((s.freeSpan i q).2 - (s.freeSpan i q).1 - 1476).toNat) with
  | [] => s.spanLen i
  | n :: l => l.foldl min n

/-- The window lent to an entry on a quadrant. -/
def State.lentOf (s : State) (i q : Nat) : Lent :=
  let w := s.freeSpan i q
  ⟨q, s.eKind i, i, ((s.now : Int) + w.1 + 738).toNat, ((s.now : Int) + w.2 - 738).toNat⟩

/-- Steps of a kind that fit: 16, 24 and 8 µs a step for kinds 2, 3 and 4 (R84). -/
def stepsFit (kind len : Nat) : Nat := match kind with
  | 2 => 100 * len / 786432
  | 3 => 100 * len / 1179648
  | 4 => 100 * len / 393216
  | _ => 0

/-- The auxiliary frequencies that an entry's work can use, in kHz (R84, R86): the LOs of the quadrants it works on; kind 4 runs at any
(R166). -/
def State.auxNeeds (s : State) (i : Nat) : List Nat :=
  match s.workKind i with
  | 1 => (quadsOf (s.ePmask i)).map s.lo
  | 2 => (bitsOf (s.eQmask i) 4).map s.lo
  | 3 => ((bitsOf (s.eTmask i) 8).map (· / 2)).map s.lo
  | _ => []

/-- Work that waits for the auxiliary synthesiser (R86, R106): it is at another frequency, or, for a calibration, not locked. -/
def State.auxWaits (s : State) (i : Nat) : Bool :=
  let n := s.auxNeeds i
  (s.workKind i != 1 && !s.locked 4) || (s.locked 4 && !n.isEmpty && !n.contains (s.lo 4))

/-- Rank of a kind, least first: after eight deferrals in a row a kind stands before all others but sounding (R87). -/
def State.kindRank (s : State) (k : Nat) : Nat := if 8 ≤ nth s.tl.aged (k - 1) 0 then k else 10 + k

/-- Two pieces of work want the same thing (R84, R87): kinds 2 and 3 a quadrant's window, kinds 1, 3 and 4 a tile's observation
receiver, or two auxiliary frequencies at once. -/
def State.clash (s : State) (i j : Nat) : Bool :=
  let a := s.workKind i
  let b := s.workKind j
  let q (k : Nat) : Bool := k = 2 || k = 3
  let r (k : Nat) : Bool := k = 1 || k = 3 || k = 4
  let f := s.auxNeeds i
  let g := s.auxNeeds j
  a != b && ((q a && q b && s.eQmask i &&& s.eQmask j != 0) || (r a && r b && s.eTmask i &&& s.eTmask j != 0) ||
      (!f.isEmpty && !g.isEmpty && !f.any g.contains)) &&
    decide (s.spanAt i < s.spanAt j + (s.spanLen j : Int)) && decide (s.spanAt j < s.spanAt i + (s.spanLen i : Int))

/-- Does an entry's work lose to other work (R87): to a live entry of a higher rank, or to a window lent already to another kind? -/
def State.loses (s : State) (i : Nat) : Bool :=
  s.live.any (fun j => j != i && (s.eAct j = Act.calBorrow || s.eAct j = Act.obsCap) && s.clash i j &&
    decide (s.kindRank (s.workKind j) < s.kindRank (s.workKind i))) ||
  ((s.workKind i = 2 || s.workKind i = 3) && s.tl.lent.any (fun (l : Lent) => l.kind != s.workKind i && l.kind != 4 &&
    (s.eQmask i).testBit l.q && decide (s.now ≤ l.until_) &&
    decide ((l.from_ : Int) < (s.now : Int) + s.spanAt i + (s.spanLen i : Int))))

/-- An entry waits for a later window: it stays pending (R86, R87). -/
def State.toWait (s : State) (i : Nat) : State :=
  { s with tl := { s.tl with waits := s.tl.waits.filter (· != i) ++ [i] } }

/-- The work is deferred to its next eligible opportunity (R87). -/
def State.defer (s : State) (i : Nat) : State :=
  let k := s.workKind i
  let t := ((s.setStat i 7).incSat (ringWord i 7) fDefer).count (R.TL_DEFER_CNT (k - 1))
  let t := { t with tl := { t.tl with aged := t.tl.aged.set (k - 1) (nth t.tl.aged (k - 1) 0 + 1) } }
  (t.toWait i).raise Ev.TL_GUARD_CONFLICT [k, s.eSeq i]

/-- Windows that satisfy `p` are over, with the steps of kinds 2 and 3 in them (R85). -/
def State.closeWindows (s : State) (p : Lent → Bool) : State :=
  let gone := s.tl.lent.filter p
  let left := s.tl.lent.filter (fun (l : Lent) => !p l)
  let past (g : Nat × Nat) : Bool := (g.1 = 3 && gone.any (fun (l : Lent) => l.kind = 3 && l.q = quadOf g.2)) ||
    (g.1 = 2 && gone.any (fun (l : Lent) => l.kind = 2) && !left.any (fun (l : Lent) => l.kind = 2))
  { s with tl := { s.tl with lent := left }, cv := { s.cv with steps := s.cv.steps.filter (fun g => !past g) } }

/-- Windows end by themselves. -/
def State.windowTick (s : State) : State := s.closeWindows (fun l => decide (l.until_ < s.now))

/-! ### Observation captures (R121, R211 to R216, R481) -/

/-- The path an OBS_CAP names on a tile: the lowest of them (R121). -/
def State.obsPath (s : State) (i t : Nat) : Option Nat := (tilePaths t).find? (fun p => (s.ePmask i).testBit p && s.avail p)

/-- A tile takes a capture: its buffer and its next ring slot are free, and the context does not hold four records there
(R213, R216, R481). -/
def State.obsFree (s : State) (i t : Nat) : Bool :=
  s.capSt t = 0 && s.capSlots t != 0 && s.capFree t (nth s.dfe.ringNext t 0) &&
    !s.cv.steps.any (fun g => g.1 = 3 && tileOf g.2 = t) &&
    !(s.tl.hostSlots.contains i && decide (4 ≤ (s.dfe.recs.filter (fun r => r.tile = t && r.ctx = s.eCtx i && r.host)).length))

/-- The observation calibration steps that a capture displaces are discarded (R87, R166). -/
def State.orxDiscard (s : State) (t : Nat) : State :=
  if s.cv.steps.contains (4, t) then
    ({ s with cv := { s.cv with steps := s.cv.steps.filter (· != (4, t)) } }).raise Ev.CV_ORX_CAL_FAIL [t]
  else s

/-- The symbol that an OBS_CAP captures: its target, or for one that has waited the downlink symbol on a path it names that starts now. -/
def State.obsNow (s : State) (i : Nat) : Option Sym :=
  s.tl.syms.find? (fun (y : Sym) => !y.ul && y.pmask &&& s.ePmask i != 0 && decide (0 ≤ s.rel y.start) && decide (s.rel y.start ≤ 738))
def State.obsStamp (s : State) (i : Nat) : Nat :=
  if decide (s.rel (stStart (s.eTgt i)) < 0) then (s.obsNow i).elim (s.eTgt i) Sym.stamp else s.eTgt i

/-- The capture of path `p` starts on its tile: ORX_SEL is set and the header is fixed (R121, R212 to R215). -/
def State.obsStart (s : State) (i t p : Nat) : State :=
  let q := s.eParam i
  let slot := nth s.dfe.ringNext t 0
  let flags : Nat := if s.locked 4 && s.locked (quadOf p) then 0 else 1
  let cap : Cap := ⟨i, p, s.obsStamp i, q / 2 ^ 16 % 2 ^ 16, 1024 * 2 ^ (q / 2 ^ 8 % 4), s.get (R.DFE_OBS_DLY t) F.DFE_OBS_DLY_DLY,
    q % 2 ^ 5, flags, s.get (R.DFE_DPD_STATUS p) F.DFE_DPD_STATUS_ACT, s.lo 4, (s.rd (R.DFE_DPD_NBR p)).toNat, s.eCtx i, slot,
    s.tl.hostSlots.contains i, [], 0⟩
  let u := s.orxDiscard t
  let u := { u with pins := { u.pins with orxSel := u.pins.orxSel.set t (p % 8) } }
  let u := { u with dfe := { u.dfe with cap := u.dfe.cap.set t (some cap), ringNext := u.dfe.ringNext.set t ((slot + 1) % s.capSlots t) } }
  let u := match u.cv.orxNext.find? (fun x => x.1 = t) with
    | some v => { u with cv := { u.cv with orxVal := v :: u.cv.orxVal.filter (fun x => x.1 != t), orxNext := u.cv.orxNext.erase v } }
    | none => u
  (u.put (R.DFE_CAP_STATUS t) F.DFE_CAP_STATUS_STATE 1).put (R.DFE_CAP_STATUS t) F.DFE_CAP_STATUS_PATH p

/-- One tile of an OBS_CAP (R213): skipped, with STAT 0x02, or started. -/
def State.obsTile (s : State) (i t : Nat) : State :=
  match s.obsPath i t with
  | none => s
  | some p =>
    if s.obsFree i t then s.obsStart i t p
    else ((s.setStat i 2).count (R.DFE_CAP_SKIP_CNT t)).raiseTo Ev.DFE_CAP_SKIP (some (s.eCtx i)) [t, p]

/-- What keeps an OBS_CAP from its capture now (R86, R87): it waits for an AUX_TUNE, or loses a receiver or the auxiliary frequency to
aged work; later it waits for the start of a downlink symbol on a path it names. -/
def State.obsHold (s : State) (i : Nat) : Option State :=
  if s.auxWaits i then some (s.toWait i)
  else if s.tl.waits.contains i && (s.obsNow i).isNone then some s
  else if s.loses i then some (s.defer i)
  else none

/-- OBS_CAP (R121, R211 to R213): its tiles capture from the start of the symbol. -/
def execObsCap (slot : Fin 4096) (s : State) : Host.Outcome State Fault Refusal :=
  s.issueOr slot Act.obsCap (s.obsHold slot) (fun t =>
    let u := (bitsOf (t.eTmask slot) 8).foldl (fun (u : State) k => u.obsTile slot k) t
    { u with tl := { u.tl with aged := u.tl.aged.set 0 0 } })

/-! ### Arming (R78, R82, R624) -/

/-- ARM: the paths of `PMASK` are to be armed for its target (R64). -/
def execArm (slot : Fin 4096) (s : State) : Host.Outcome State Fault Refusal :=
  s.issue slot Act.arm (fun t => { t with tl := { t.tl with plan := t.tl.plan ++ t.entrySteps slot } })

/-- DISARM: the paths of `PMASK` are to be disarmed from its target (R78). -/
def execDisarm (slot : Fin 4096) (s : State) : Host.Outcome State Fault Refusal :=
  s.issue slot Act.disarm (fun t => { t with tl := { t.tl with dis := t.tl.dis ++ t.entrySteps slot } })

/-- MARK raises TL_MARK with `SEQ`. -/
def execMark (slot : Fin 4096) (s : State) : Host.Outcome State Fault Refusal :=
  s.issue slot Act.mark (fun t => t.raiseTo Ev.TL_MARK (some (t.eCtx slot)) [t.eSeq slot])

/-- The sequence takes a step: the limiter's debt becomes its size (R82, R544). -/
def State.gustStep (s : State) (tx : Bool) : State := { s with pm := { s.pm with debt := 49152 * s.armSize tx } }

/-- The DAC current of a path: full from its arming on (R546). -/
def State.dacOn (s : State) (p : Nat) : State :=
  { s with rf := { s.rf with dac := s.rf.dac.set p 8, dacRamp := s.rf.dacRamp.filter (fun x => x.1 != p) } }

/-- The DAC current of a path goes off: on a ramp-down in eight equal stages over the path's disarm spacing (R546). -/
def State.dacOff (s : State) (p : Nat) : State :=
  if s.pm.rampOn then { s with rf := { s.rf with dacRamp := s.rf.dacRamp ++ [(p, s.now, s.stepWait (s.armSize true))] } }
  else { s with rf := { s.rf with dac := s.rf.dac.set p 0 } }

/-- The eight stages of R546: stage k ends k eighths of the spacing after the disarming step. -/
def State.dacTick (s : State) : State :=
  let lvl (x : Nat × Nat × Nat) : Nat := 8 - min 8 (8 * (s.now - x.2.1) / max 1 x.2.2)
  let t := s.rf.dacRamp.foldl (fun (t : State) x => { t with rf := { t.rf with dac := t.rf.dac.set x.1 (lvl x) } }) s
  { t with rf := { t.rf with dacRamp := t.rf.dacRamp.filter (fun x => lvl x != 0) } }

/-- A step that an ARM entry not yet issued asks for. -/
def State.armWaits (s : State) (a : ArmStep) : Bool := s.tl.pend.any (fun i => s.eAct i = Act.arm && (s.entrySteps i).contains a)

/-- One arming step (R82, R624): the first of the sequence, at its instant. -/
def execPathArmStep (s : State) : Host.Outcome State Fault Refusal :=
  match s.armSeq with
  | (a, due) :: _ =>
    if s.pm.debt ≠ 0 || decide (0 < due) || s.armWaits a then .next s
    else
      let t := (s.setPath a.tx a.path Ps.armed).gustStep a.tx
      let t := if a.tx then t.dacOn a.path else t
      .next { t with tl := { t.tl with plan := t.tl.plan.filter (fun b => !(b.tx = a.tx && b.path = a.path)) } }
  | [] => .next s

/-- A disarming step may run (R78, R82): its instant has come, the path is not ACTIVE, and on a ramp-down no symbol is left (R42). -/
def State.disarmReady (s : State) (a : ArmStep) : Bool :=
  s.come a.start && s.pathSt a.tx a.path != Ps.active && !(s.pm.rampOn && !s.tl.syms.isEmpty)

/-- The disarming step that comes first, in the order of R82. -/
def State.disarmHead (s : State) : Option ArmStep := (s.inOrder (s.tl.dis.filter s.disarmReady)).head?

/-- Does a step of a size leave the next arming step its instant (R624): its wait ends before that step is due? -/
def State.fitsBefore (s : State) (n : Nat) : Bool :=
  match s.armSeq with
  | (_, due) :: _ => decide ((s.stepWait n : Int) ≤ due)
  | [] => true

/-- One disarming step (R78, R82, R624): the first of the sequence that is ready goes OFF, outside the wait of an arming step (log entry
95). -/
def execPathDisarmStep (s : State) : Host.Outcome State Fault Refusal :=
  match s.disarmHead with
  | none => .next s
  | some a =>
    let t := { s with tl := { s.tl with dis := s.tl.dis.filter (fun b => !(b.tx = a.tx && b.path = a.path)) } }
    if s.pathSt a.tx a.path ≠ Ps.armed && s.pathSt a.tx a.path ≠ Ps.muted then .next t
    else if s.pm.debt ≠ 0 || !s.fitsBefore (s.armSize a.tx) then .next s
    else
      let u := (t.setPath a.tx a.path Ps.off).gustStep a.tx
      .next (if a.tx then u.dacOff a.path else u)

/-- The debt has reached zero and the next waiting step is granted (R544): the debt becomes its size. It is fitted around the arming and
disarming of the forecast core (R83, R624): no disarming step is ready, and its debt ends before the next arming step is due. A step that
waited more than 10 µs is counted (R545). -/
def execGustStepGrant (s : State) : Host.Outcome State Fault Refusal :=
  if s.pm.debt != 0 then .next s
  else match gustNext s.pm.wait with
  | none => .next s
  | some r =>
    if s.disarmHead.isSome || !s.fitsBefore r.size then .next s
    else
      let t := if 4915 < s.now - r.at_ then s.count R.PM_GUST_WAIT_CNT else s
      .next ({ t with pm := { t.pm with wait := t.pm.wait.erase r, granted := t.pm.granted ++ [(r.what, r.idx)], debt := gustDebt r.size } }).showDebt

/-- End of the last symbol scheduled on a path direction (R78). -/
def State.lastEnd (s : State) (tx : Bool) (p : Nat) : Option Nat := nth (if tx then s.tl.endTx else s.tl.endRx) p none

/-- A later symbol of the direction needs the path before the gap ends (R78): one that stands on it, or one whose arming would fall due
by then. -/
def State.gapNeeded (s : State) (tx : Bool) (p : Nat) (gap : Int) : Bool :=
  s.tl.syms.any (fun (y : Sym) => y.ul = !tx && y.pmask.testBit p) ||
    (s.tl.plan ++ (s.tl.pend.map s.stepsOfEntry).flatten).any (fun a => a.tx = tx && a.path = p &&
      (s.placed (s.inOrder (a :: s.armSteps))).any (fun x => x.1 = a && decide (x.2 ≤ gap)))

/-- TL_DISARM_GAP passes from the end of the last symbol of a direction on a path (R78): it is to be disarmed, unless the arming for a
later symbol falls due before. -/
def execDisarmGapExpiry (path : Fin 64) (tx : Bool) (s : State) : Host.Outcome State Fault Refusal :=
  match s.lastEnd tx path with
  | none => .next s
  | some e =>
    let gap : Int := (e : Int) + ((s.rd R.TL_DISARM_GAP).toNat : Int) - (s.now : Int)
    let idle := s.pathSt tx path = Ps.armed || s.pathSt tx path = Ps.muted
    when_ (idle && decide (gap ≤ 0) && !s.gapNeeded tx path gap)
      { s with tl := { s.tl with dis := s.tl.dis ++ [⟨tx, path, s.tlNow, s.tlNow⟩] } } s

/-! ### The discard of R55 -/

/-- Start of the last committed symbol: the latest symbol covered by an issued entry, as a distance from now (R55). -/
def State.lastSymbol (s : State) : Int := s.tl.lastIssued - (s.now : Int)

/-- Staged entries are removed; a job allocated to one of them is never submitted (R473, R477, R478). -/
def State.unstage (s : State) (p : Staged → Bool) : State :=
  let gone := (s.hy.staged.filter p).map (fun (e : Staged) => (nth e.words 7 0).toNat % 2 ^ 16)
  { s with hy := { s.hy with staged := s.hy.staged.filter (fun (e : Staged) => !p e),
                             srsJobs := s.hy.srsJobs.filter (fun x => !gone.contains x.1) } }

/-- Entries whose target lies after the last committed symbol are discarded, and everything staged (R55, R478): STAT 0x08,
and one TL_DISCARDED per owning context with its count. -/
def State.discard (s : State) : State :=
  let gone := s.tl.pend.filter (fun i => s.tl.waits.contains i || decide (s.lastSymbol < s.rel (stStart (s.eTgt i))))
  let n (x : Nat) : Nat := (gone.filter (fun i => s.eCtx i = x)).length + (s.hy.staged.filter (fun (e : Staged) => e.ctx = x)).length
  let t := gone.foldl (fun (t : State) i => (t.setStat i 8).retireSlot i) s
  let t := t.unstage (fun _ => true)
  (List.range 8).foldl (fun (t : State) x => if n x = 0 then t else t.raiseTo Ev.TL_DISCARDED (some x) [x, n x]) t

end Sys2Proof.Machine
end

