-- ==== Sys2Proof/Machine/Lanes.lean ====
section
/-! DEFINITION. The fronthaul lanes: groups and rates (R309 to R314), receive states (R317 to R323), Gale (R324 to R333),
Ethernet (R334 to R336), power states (R337 to R339) and pattern checkers (R340 to R343). -/

namespace Sys2Proof.Machine

/-! ### State and groups -/

-- Receive states (R318).
namespace Rx
def off : Nat := 0
def doldrums : Nat := 1
def hunt : Nat := 2
def noPartner : Nat := 3
def locked : Nat := 4
def up : Nat := 5
def lull : Nat := 6
def test : Nat := 7
end Rx

/-- A lane's own state. -/
def State.lane (s : State) (n : Nat) : Lane := nth s.ln.lanes n {}
/-- Replace it. -/
def State.setLane (s : State) (n : Nat) (l : Lane) : State := { s with ln := { s.ln with lanes := s.ln.lanes.set n l } }
/-- A group's own state. -/
def State.grp (s : State) (g : Nat) : LaneGroup := nth s.ln.grps g {}
/-- Replace it. -/
def State.setGrp (s : State) (g : Nat) (x : LaneGroup) : State := { s with ln := { s.ln with grps := s.ln.grps.set g x } }

/-- The receive state of a lane (R318). -/
def State.laneRx (s : State) (n : Nat) : Nat := s.get (R.LN_STATE n) F.LN_STATE_RX
/-- The transmit state of a lane (R348). -/
def State.laneTx (s : State) (n : Nat) : Nat := s.get (R.LN_STATE n) F.LN_STATE_TX
/-- Personality of a group (R309). -/
def State.pers (s : State) (g : Nat) : Nat := s.get (R.LN_GROUP_CFG g) F.LN_GROUP_CFG_PERS
/-- The four lanes of a group. -/
def grpLanes (g : Nat) : List Nat := [4 * g, 4 * g + 1, 4 * g + 2, 4 * g + 3]

/-- Lanes that a group configuration uses (R309). -/
def usedOf (g pers width : Nat) : List Nat :=
  (grpLanes g).take (if pers = 0 then 0 else if pers = 1 then 1 else if pers = 2 then 4 else 2 ^ min width 2)

/-- Lanes that a group's personality uses. -/
def State.used (s : State) (g : Nat) : List Nat :=
  usedOf g (s.pers g) (s.get (R.LN_GROUP_CFG g) F.LN_GROUP_CFG_WIDTH)

/-- Lanes that move together with a lane: the four of a 100GBASE-R group, else the lane itself (R322). -/
def State.together (s : State) (n : Nat) : List Nat := if s.pers (n / 4) = 2 then grpLanes (n / 4) else [n]

/-- Is a group a Gale bond? -/
def State.bonded (s : State) (g : Nat) : Bool := s.pers g = 3 && decide (2 ≤ (s.used g).length)

/-- One bit of a sixteen-lane mask. -/
def State.laneBit (s : State) (f : Fld) (n : Nat) (b : Bool) : State :=
  let m := s.get R.LN_STATUS f
  s.put R.LN_STATUS f (if b then m ||| 2 ^ n else m &&& (2 ^ 16 - 1 - 2 ^ n))

/-- Bring LN_STATUS.UP and LN_GROUP_STAT.LINK of a lane's group up to date: every lane of the personality is UP and, in a bond,
aligned (R346). -/
def State.showLink (s : State) (n : Nat) : State :=
  let t := s.laneBit F.LN_STATUS_UP n (s.laneRx n = Rx.up)
  let u := s.used (n / 4)
  t.setFlag (R.LN_GROUP_STAT (n / 4)) F.LN_GROUP_STAT_LINK (!u.isEmpty && u.all (fun i => s.laneRx i = Rx.up && (s.lane i).aligned))

/-- SyncE loses its lane (R312, R412). -/
def State.synceLost (s : State) (n : Nat) : State :=
  if s.flag R.TS_SYNCE_CFG F.TS_SYNCE_CFG_EN && s.get R.TS_SYNCE_CFG F.TS_SYNCE_CFG_LANE = n && s.flag R.TS_STATUS F.TS_STATUS_SYNCE_OK then
    (s.setFlag R.TS_STATUS F.TS_STATUS_SYNCE_OK false).raise Ev.TS_SYNCE_LOSS [n]
  else s

/-- Set a receive state; leaving UP invalidates the recovered clock and cuts the message in progress (R312, R338). -/
def State.setLaneRx (s : State) (n st : Nat) : State :=
  let was := s.laneRx n
  let t := s.put (R.LN_STATE n) F.LN_STATE_RX st
  let t := if was = Rx.up && st ≠ Rx.up then
      ((t.setGrp (n / 4) { t.grp (n / 4) with msg := none, drop := 0 })).synceLost n
    else t
  t.showLink n

/-- Set a transmit state. -/
def State.setLaneTx (s : State) (n st : Nat) : State := s.put (R.LN_STATE n) F.LN_STATE_TX st

/-- Start a hunt (R319). -/
def State.startHunt (s : State) (n : Nat) (again : Bool) : State :=
  let t := (s.setLaneRx n Rx.hunt).incWrap (R.LN_STATE n) F.LN_STATE_HUNTS
  let t := t.setFlag (R.LN_STATE n) F.LN_STATE_BLOCK false
  let t := t.setLane n { t.lane n with again := again, loaded := false, aligned := false, run := 0, huntAt := t.now }
  (t.setGrp (n / 4) { t.grp (n / 4) with failed := false }).showLink n

/-- A lane enters UP (R320). -/
def State.laneUp (s : State) (n : Nat) : State := (s.setLaneRx n Rx.up).raise Ev.LN_UP [n]

/-- A lane in LOCKED or UP loses what it needs (R317, R319, R320): LN_DOWN with its cause if it was UP, and a hunt. -/
def State.laneDown (s : State) (n cause : Nat) : State :=
  if s.laneRx n = Rx.up then
    ((s.put (R.LN_STATE n) F.LN_STATE_CAUSE cause).startHunt n false).raise Ev.LN_DOWN [n, cause]
  else if s.laneRx n = Rx.locked then s.startHunt n false
  else s

/-- The lanes that move together all lose it. -/
def State.lanesDown (s : State) (n cause : Nat) : State := (s.together n).foldl (fun (t : State) i => t.laneDown i cause) s

/-! ### Signal, CDR and block lock -/

/-- Loss of signal (R317): counted outside LULL and DOLDRUMS. An unpowered receiver declares nothing. -/
def execLosDeclared (n : Fin 16) (s : State) : Host.Outcome State Fault Refusal :=
  let r := s.laneRx n
  if r = Rx.off then .next s
  else
    let t := (s.setFlag (R.LN_STATE n) F.LN_STATE_LOS true).laneBit F.LN_STATUS_LOS n true
    let t := if r = Rx.lull || r = Rx.doldrums then t else t.count (R.LN_LOS_CNT n)
    .next ((t.setFlag (R.LN_STATE n) F.LN_STATE_CDR false).lanesDown n 0)

/-- Signal present (R317). -/
def execSignalPresent (n : Fin 16) (s : State) : Host.Outcome State Fault Refusal :=
  when_ (s.laneRx n != Rx.off) ((s.setFlag (R.LN_STATE n) F.LN_STATE_LOS false).laneBit F.LN_STATUS_LOS n false) s

/-- The CDR is on (R318, R337). -/
def State.cdrOn (s : State) (n : Nat) : Bool := [Rx.hunt, Rx.noPartner, Rx.locked, Rx.up, Rx.test].contains (s.laneRx n)

/-- What the equaliser settled on (R316): in adaptive mode the peaking found, in fixed mode PEAK; and the eye. Off both ends LIM
clears. -/
def State.ctleNow (s : State) (n peak eye : Nat) : State :=
  let r := R.LN_CTLE n
  let p := if s.flag r F.LN_CTLE_MODE then s.get r F.LN_CTLE_PEAK else peak
  let t := (s.put r F.LN_CTLE_PK_NOW p).put r F.LN_CTLE_EYE eye
  if p = 0 || p = 20 then t else t.setFlag r F.LN_CTLE_LIM false

/-- The CDR locks (R327); the equaliser has adapted. -/
def execCdrLock (n : Fin 16) (peak : Fin 21) (eye : BitVec 8) (s : State) : Host.Outcome State Fault Refusal :=
  when_ (s.cdrOn n && !s.flag (R.LN_STATE n) F.LN_STATE_LOS)
    ((s.setFlag (R.LN_STATE n) F.LN_STATE_CDR true).ctleNow n peak eye.toNat) s

/-- The CDR loses lock (R317). -/
def execCdrLockLoss (n : Fin 16) (s : State) : Host.Outcome State Fault Refusal :=
  when_ (s.cdrOn n) ((s.setFlag (R.LN_STATE n) F.LN_STATE_CDR false).lanesDown n 1) s

/-- Block lock (R322, R323): the lane, or all four once each holds it, enter LOCKED. -/
def execBlockLockGained (n : Fin 16) (s : State) : Host.Outcome State Fault Refusal :=
  if s.laneRx n = Rx.hunt && s.flag (R.LN_STATE n) F.LN_STATE_CDR && (s.used (n / 4)).contains n.val then
    let t := s.setFlag (R.LN_STATE n) F.LN_STATE_BLOCK true
    let all := (t.together n).all (fun i => t.flag (R.LN_STATE i) F.LN_STATE_BLOCK && t.laneRx i = Rx.hunt)
    .next (if all then (t.together n).foldl (fun (u : State) i => u.setLaneRx i Rx.locked) t else t)
  else .next s

/-- Block lock is lost (R322, R323); `bad` invalid headers were seen and not yet counted. -/
def execBlockLockLost (n : Fin 16) (bad : BitVec 16) (s : State) : Host.Outcome State Fault Refusal :=
  if s.flag (R.LN_STATE n) F.LN_STATE_BLOCK then
    let t := if s.laneRx n = Rx.locked || s.laneRx n = Rx.up then s.countN (R.LN_HDR_ERR_CNT n) bad.toNat else s
    let t := (t.count (R.LN_LOCK_LOSS_CNT n)).setFlag (R.LN_STATE n) F.LN_STATE_BLOCK false
    .next (t.lanesDown n 2)
  else .next s

/-- So many milliseconds have passed since a lane's hunt began (R319). -/
def State.huntOver (s : State) (n ms : Nat) : Bool := decide ((s.lane n).huntAt + ms * 491520 ≤ s.now)

/-- A hunt ends without UP after 16 ms (R319, R320). -/
def execHuntWindowExpiry (n : Fin 16) (s : State) : Host.Outcome State Fault Refusal :=
  .next ((s.together n).foldl (fun (t : State) i =>
    if (t.laneRx i = Rx.hunt || t.laneRx i = Rx.locked) && t.huntOver i 16 then
      let u := (t.setLaneRx i Rx.noPartner).setFlag (R.LN_STATE i) F.LN_STATE_BLOCK false
      if (t.lane i).again then u else u.raise Ev.LN_NO_PARTNER [i]
    else t) s)

/-- The next hunt starts 100 ms after the start of the failed one (R319). -/
def execHuntStart (n : Fin 16) (s : State) : Host.Outcome State Fault Refusal :=
  .next ((s.together n).foldl (fun (t : State) i => if t.laneRx i = Rx.noPartner && t.huntOver i 100 then t.startHunt i true else t) s)

/-- RS-FEC alignment marker lock, and for 100GBASE-R deskew, of a lane (R322): with every lane of the group the group enters
UP. -/
def execAlignmentMarkerLock (n : Fin 16) (s : State) : Host.Outcome State Fault Refusal :=
  if (s.pers (n / 4) = 1 || s.pers (n / 4) = 2) && s.laneRx n = Rx.locked then
    let t := s.setLane n { s.lane n with aligned := true }
    let l := t.together n
    .next (if l.all (fun i => (t.lane i).aligned && t.laneRx i = Rx.locked) then l.foldl (fun (u : State) i => u.laneUp i) t else t)
  else .next s

/-! ### Gale reception -/

/-- One step of the scrambler's LFSR, feedback polynomial x⁵⁸ + x³⁹ + 1 (R325): the bit it gives and its next state. The form
(bit 57 the oldest, the fed-back bit given) is the model's (DESIGN CHOICE, log entry 30). -/
def lfsrStep (v : BitVec 58) : Bool × BitVec 58 :=
  let b := (v.getLsbD 57) != (v.getLsbD 38)
  (b, (v <<< 1) ||| (if b then 1 else 0))

/-- Scramble or descramble payload bits (R325). -/
def scramble : List Bool → BitVec 58 → List Bool × BitVec 58
  | [], v => ([], v)
  | b :: l, v => let k := lfsrStep v; let r := scramble l k.2; ((b != k.1) :: r.1, r.2)

/-- Remove stuff bits (R326): from a run so far, the bits that remain, the violations, and the run at the end. -/
def unstuff : List Bool → Nat → Bool → List Bool × Nat × Nat × Bool
  | [], run, last => ([], 0, run, last)
  | b :: l, run, last =>
    if run = 48 then
      let r := unstuff l 1 b
      (r.1, r.2.1 + (if b = last then 1 else 0), r.2.2)
    else
      let r := unstuff l (if run != 0 && b = last then run + 1 else 1) b
      (b :: r.1, r.2)

/-- The number that bits spell, first bit least significant. -/
def bitsNum : List Bool → Nat
  | [] => 0
  | b :: l => (if b then 1 else 0) + 2 * bitsNum l

/-- CRC-8 with polynomial x⁸ + x² + x + 1 and initial value 0 over bytes, most significant bit first (R328). -/
def crc8 (l : List Nat) : Nat :=
  l.foldl (fun c b => (List.range 8).foldl (fun c _ => if c.testBit 7 then (2 * c % 256) ^^^ 7 else 2 * c % 256) (c ^^^ b)) 0

/-- A received block: its header (1 data, 2 control), its payload as received and as descrambled. -/
structure GaleBlock where
  hdr : Nat
  raw : Nat
  plain : Nat
  next : BitVec 58
  deriving DecidableEq, Repr

/-- Byte i of a payload. -/
def payByte (p i : Nat) : Nat := p / 2 ^ (8 * i) % 256

/-- Receive one block from its line bits (R324 to R326): the state with the run and the violations counted, and the block, where
130 bits remain. -/
def State.galeBlock (s : State) (n : Nat) (line : List Bool) : State × Option GaleBlock :=
  let l := s.lane n
  let u := unstuff line l.run l.runBit
  let t := (s.setLane n { l with run := u.2.2.1, runBit := u.2.2.2 }).countN (R.LN_STUFF_ERR_CNT n) u.2.1
  if u.1.length = 130 then
    let sc := scramble (u.1.drop 2) l.lfsr
    (t, some ⟨bitsNum (u.1.take 2), bitsNum (u.1.drop 2), bitsNum sc.1, sc.2⟩)
  else (t, none)

/-- The receiver takes blocks: a Gale lane with block lock. -/
def State.galeOn (s : State) (n : Nat) : Bool := s.pers (n / 4) = 3 && (s.laneRx n = Rx.locked || s.laneRx n = Rx.up)

/-- A block whose header is neither: counted and discarded (R323, R345). -/
def State.badHeader (s : State) (n : Nat) (b : GaleBlock) : State :=
  (s.count (R.LN_HDR_ERR_CNT n)).setLane n { s.lane n with lfsr := b.next }

/-- The shape of every received-block row: the lane takes blocks, the bits make a block, and it is of the row's kind. -/
def State.galeRow (s : State) (n : Nat) (line : List Bool) (kind : GaleBlock → Bool) (act : State → GaleBlock → State) : State :=
  if !s.galeOn n then s
  else match s.galeBlock n line with
    | (_, none) => s
    | (t, some b) =>
      if b.hdr = 0 || b.hdr = 3 then t.badHeader n b
      else if kind b then act t b else s

/-- A lane that has loaded a SYNC and, in a bond, is deskewed with every other lane enters UP (R323, R329). -/
def State.galeUp (s : State) (g : Nat) : State :=
  let u := s.used g
  if !s.bonded g || u.all (fun i => (s.lane i).aligned) then
    u.foldl (fun (t : State) i => if t.laneRx i = Rx.locked && (t.lane i).loaded then
      (t.setLane i { t.lane i with aligned := true }).laneUp i else t) s
  else s

/-- A SYNC block (R328, R329): ignored with a bad CRC; in LOCKED it loads the descrambler; in UP it is compared, and a mismatch
reloads and counts. -/
def execGaleSyncBlock (n : Fin 16) (line : List Bool) (s : State) : Host.Outcome State Fault Refusal :=
  .next (s.galeRow n line (fun b => b.hdr = 2 && payByte b.raw 0 = 0x2D) (fun t b =>
    if crc8 ((List.range 8).map (fun i => payByte b.raw (i + 1))) ≠ payByte b.raw 9 then t
    else
      let v := BitVec.ofNat 58 (b.raw / 256)
      let l := t.lane n
      if t.laneRx n = Rx.up then
        if l.lfsr = v then t else (t.setLane n { l with lfsr := v }).count (R.LN_RESYNC_CNT n)
      else (t.setLane n { l with lfsr := v, loaded := true }).galeUp (n / 4)))

/-- The lane's descrambler passes a scrambled block. -/
def State.passed (s : State) (n : Nat) (b : GaleBlock) : State := s.setLane n { s.lane n with lfsr := b.next }

/-- Deskew fails (R331): LN_DESKEW_FAIL once per hunt; lanes of the bond that are UP lose deskew. -/
def State.deskewFail (s : State) (g : Nat) : State :=
  let t := (s.used g).foldl (fun (t : State) i => if t.laneRx i = Rx.up then t.laneDown i 3 else t) s
  if (s.grp g).failed then t.setGrp g { t.grp g with failed := true }
  else (t.setGrp g { t.grp g with failed := true }).raise Ev.LN_DESKEW_FAIL [g]

/-- An ALIGN block (R328, R331): the lane's position, and once every lane of a bond has one, the deskew; `skew` is the skew
measured, in blocks. -/
def execGaleAlignBlock (n : Fin 16) (line : List Bool) (skew : BitVec 8) (s : State) : Host.Outcome State Fault Refusal :=
  .next (s.galeRow n line (fun b => b.hdr = 2 && (s.lane n).loaded && payByte b.plain 0 = 0x36) (fun t b =>
    let g := n.val / 4
    let t := t.passed n b
    if !t.bonded g then t.put (R.LN_STATE n) F.LN_STATE_POS (payByte b.plain 1)
    else
      let t := t.put (R.LN_STATE n) F.LN_STATE_POS (payByte b.plain 1)
      let t := t.setLane n { t.lane n with seq := payByte b.plain 3 + 256 * payByte b.plain 4 }
      let t := t.put (R.LN_GROUP_STAT g) F.LN_GROUP_STAT_SKEW (if 64 < skew.toNat then 127 else skew.toNat)
      let pos (i : Nat) : Nat := t.get (R.LN_STATE i) F.LN_STATE_POS
      let twin := (t.used g).any (fun i => i != n.val && (t.lane i).aligned && pos i = pos n)
      if payByte b.plain 2 != t.get (R.LN_GROUP_CFG g) F.LN_GROUP_CFG_WIDTH || decide (64 < skew.toNat) || twin ||
          decide ((t.used g).length ≤ payByte b.plain 1) then
        (t.setLane n { t.lane n with aligned := false }).deskewFail g
      else (t.setLane n { t.lane n with aligned := true }).galeUp g))

/-- The lanes of a Gale group carry traffic (R323). -/
def State.galeCarries (s : State) (n : Nat) : Bool :=
  s.laneRx n = Rx.up && s.flag (R.LN_GROUP_STAT (n / 4)) F.LN_GROUP_STAT_LINK

/-- A framing error of a group (R330). -/
def State.frameErrLn (s : State) (g : Nat) : State := s.count (R.LN_FRAME_ERR_CNT g)

/-- The message in progress, if any, is discarded as a fragment (R330). -/
def State.cutMsg (s : State) (g : Nat) : State :=
  if (s.grp g).msg.isSome then (s.setGrp g { s.grp g with msg := none }).frameErrLn g else s

/-- Message bytes join the message in progress; at its length it goes to the packet engine (R328). -/
def State.addBytes (s : State) (g len : Nat) (l : List Byte) : State :=
  if len ≤ l.length then s.setGrp g { s.grp g with msg := none, last := l.take len }
  else s.setGrp g { s.grp g with msg := some (len, l) }

/-- The bytes of a payload from byte i up. -/
def payBytes (p i : Nat) : List Byte := (leBytes 16 p).drop i

/-- An SOM block (R328, R330). -/
def execGaleSomBlock (n : Fin 16) (line : List Bool) (s : State) : Host.Outcome State Fault Refusal :=
  .next (s.galeRow n line (fun b => b.hdr = 2 && (s.lane n).loaded && payByte b.plain 0 = 0x4E) (fun t b =>
    let g := n.val / 4
    let t := t.passed n b
    if !t.galeCarries n then t
    else
      let len := payByte b.plain 1 + 256 * payByte b.plain 2
      let t := (t.cutMsg g).setGrp g { (t.cutMsg g).grp g with drop := 0 }
      if len = 0 || 9000 < len then (t.setGrp g { t.grp g with drop := (len - 13 + 15) / 16 }).frameErrLn g
      else t.addBytes g len (payBytes b.plain 3)))

/-- A data block (R328, R330). -/
def execGaleDataBlock (n : Fin 16) (line : List Bool) (s : State) : Host.Outcome State Fault Refusal :=
  .next (s.galeRow n line (fun b => b.hdr = 1) (fun t b =>
    let g := n.val / 4
    let t := t.passed n b
    if !t.galeCarries n then t
    else match (t.grp g).msg with
      | some (len, l) => t.addBytes g len (l ++ payBytes b.plain 0)
      | none => if 0 < (t.grp g).drop then t.setGrp g { t.grp g with drop := (t.grp g).drop - 1 } else t.frameErrLn g))

/-- An IDLE block, or one of a type R328 does not list (R330). -/
def execGaleIdleBlock (n : Fin 16) (line : List Bool) (s : State) : Host.Outcome State Fault Refusal :=
  .next (s.galeRow n line (fun b => b.hdr = 2 && (s.lane n).loaded && !([0x36, 0x4E, 0x53].contains (payByte b.plain 0))) (fun t b =>
    let t := t.passed n b
    if t.galeCarries n then (t.cutMsg (n / 4)).setGrp (n / 4) { (t.cutMsg (n / 4)).grp (n / 4) with drop := 0 } else t))

/-- An ABORT block (R328, R330): each case counts, a message being in progress or not. -/
def execGaleAbortBlock (n : Fin 16) (line : List Bool) (s : State) : Host.Outcome State Fault Refusal :=
  .next (s.galeRow n line (fun b => b.hdr = 2 && (s.lane n).loaded && payByte b.plain 0 = 0x53) (fun t b =>
    let g := n.val / 4
    let t := t.passed n b
    if t.galeCarries n then t.cutMsg g else t))

/-! ### Gale transmission -/

/-- A lane's Gale transmitter sends. -/
def State.galeSends (s : State) (n : Nat) : Bool := s.pers (n / 4) = 3 && s.laneTx n = 2

/-- Insert stuff bits (R326): after 48 identical bits one of the opposite value, which starts a new run. Answers the line bits and the run. -/
def stuff : List Bool → Nat → Bool → List Bool × Nat × Bool
  | [], run, last => ([], run, last)
  | b :: l, run, last =>
    let n := if run != 0 && b = last then run + 1 else 1
    if n = 48 then
      let r := stuff l 1 (!b)
      (b :: (!b) :: r.1, r.2)
    else
      let r := stuff l n b
      (b :: r.1, r.2)

/-- The transmitter sends one block (R324 to R326): its header, then its payload, scrambled or not. -/
def Lane.sendBlock (l : Lane) (hdr p : Nat) (scrambled : Bool) : Lane :=
  let pay := (List.range 128).map p.testBit
  let sc := scramble pay l.txLfsr
  let u := stuff ((List.range 2).map hdr.testBit ++ (if scrambled then sc.1 else pay)) l.txRun l.txBit
  { l with txN := l.txN + 1, txLfsr := if scrambled then sc.2 else l.txLfsr, txRun := u.2.1, txBit := u.2.2, txLine := l.txLine ++ u.1 }

/-- The payload of a SYNC block (R328): the LFSR state for the next block, with its CRC-8. -/
def syncPayload (v : BitVec 58) : BitVec 128 :=
  let crc := crc8 ((List.range 8).map (fun i => v.toNat / 2 ^ (8 * i) % 256))
  BitVec.ofNat 128 (0x2D + 2 ^ 8 * v.toNat + 2 ^ 72 * crc)

/-- The payload of an ALIGN block (R328). -/
def alignPayload (pos width seq : Nat) : BitVec 128 := BitVec.ofNat 128 (0x36 + 2 ^ 8 * pos + 2 ^ 16 * width + 2 ^ 24 * seq)

/-- A SYNC or an ALIGN falls due on the next block (R329). -/
def Lane.txDue (l : Lane) : Bool := l.txOwe || (l.txN != 0 && l.txN % 1024 = 0)

/-- Send what falls due (R329): an ALIGN every 4,096 blocks, with the SYNC in the next block; else a SYNC. -/
def Lane.sendDue (l : Lane) (pos width : Nat) : Lane :=
  if !l.txOwe && l.txN % 4096 = 0 then
    let p := alignPayload pos width l.txSeq
    { l.sendBlock 2 p.toNat true with txSeq := (l.txSeq + 1) % 2 ^ 16, txOwe := true, txLast := p }
  else { l.sendBlock 2 (syncPayload l.txLfsr).toNat false with txOwe := false, txLast := syncPayload l.txLfsr }

/-- Between messages the transmitter sends IDLE, with SYNC and ALIGN on their schedule (R332). -/
def Lane.sendIdle (l : Lane) (pos width : Nat) : Lane := if l.txDue then l.sendDue pos width else l.sendBlock 2 0x1B true

/-- Send up to block `k`. -/
def Lane.fillTo (l : Lane) (pos width k : Nat) : Lane := (List.range (k - l.txN)).foldl (fun l _ => l.sendIdle pos width) l

/-- WIDTH of a lane's group, as an ALIGN block carries it. -/
def State.txWidth (s : State) (n : Nat) : Nat := s.get (R.LN_GROUP_CFG (n / 4)) F.LN_GROUP_CFG_WIDTH

/-- The next block number from `n` on that is a multiple of `k`, block 0 apart. -/
def nextMultiple (k n : Nat) : Nat := k * ((max n 1 + k - 1) / k)

/-- The transmitter sends a SYNC block (R329): on the next block number that is a multiple of 1,024, or after the ALIGN that takes its
place. The blocks before it are IDLE. -/
def execGaleSyncSend (n : Fin 16) (s : State) : Host.Outcome State Fault Refusal :=
  if s.galeSends n then
    let l := { s.lane n with txLine := [] }
    let at_ := if l.txOwe then l.txN else nextMultiple 1024 l.txN
    .next (s.setLane n (l.fillTo (n.val % 4) (s.txWidth n) (at_ + (if !l.txOwe && at_ % 4096 = 0 then 2 else 1))))
  else .next s

/-- The transmitter sends an ALIGN block (R328, R329): on the next block number that is a multiple of 4,096. A SYNC falls due there too and
follows. -/
def execGaleAlignSend (n : Fin 16) (s : State) : Host.Outcome State Fault Refusal :=
  if s.galeSends n then
    let l := { s.lane n with txLine := [] }
    .next (s.setLane n (l.fillTo (n.val % 4) (s.txWidth n) (nextMultiple 4096 l.txN + 1)))
  else .next s

/-- One block of the message stream goes out on a lane, after what falls due (R328, R329). -/
def State.streamBlock (s : State) (n hdr p : Nat) : State :=
  let due (l : Lane) : Lane := if l.txDue then l.sendDue (n % 4) (s.txWidth n) else l
  s.setLane n ((due (due (s.lane n))).sendBlock hdr p true)

/-- The blocks of a message (R328): an SOM with its length and first 13 bytes, then data blocks of 16 bytes, the last padded with zeros. -/
def msgBlocks (b : List Byte) : List (Nat × Nat) :=
  (2, 0x4E + 2 ^ 8 * b.length + 2 ^ 24 * leNum (b.take 13)) ::
    (List.range ((b.length - 13 + 15) / 16)).map (fun i => (1, leNum ((b.drop (13 + 16 * i)).take 16)))

/-- A Gale group sends a message (R328, R331): block i goes to lane position i mod WIDTH. The row that the message ends in is filled with
IDLE, so that the next one starts a row (DESIGN CHOICE, log entry 119). -/
def State.galeMsg (s : State) (g : Nat) (b : List Byte) : State :=
  let u := s.used g
  let m := msgBlocks b
  let m := m ++ List.replicate ((u.length - m.length % u.length) % u.length) (2, 0x1B)
  let t := u.foldl (fun (t : State) n => t.setLane n { t.lane n with txLine := [] }) s
  (m.zipIdx).foldl (fun (t : State) x => t.streamBlock (nth u (x.2 % u.length) 0) x.1.1 x.1.2) t

/-! ### Ethernet -/

/-- An RS-FEC codeword with `errs` symbols in error (R335). -/
def execFecCodeword (g : Fin 4) (errs : BitVec 10) (s : State) : Host.Outcome State Fault Refusal :=
  let r := s.laneRx (4 * g.val)
  if (s.pers g = 1 || s.pers g = 2) && (r = Rx.locked || r = Rx.up) then
    if errs.toNat = 0 then .next s
    else if errs.toNat ≤ 7 then .next (s.count (R.LN_FEC_CORR_CNT g))
    else
      let t := s.count (R.LN_FEC_UNCORR_CNT g)
      .next (if s.secondSince (s.grp g).fecAt then (t.setGrp g { t.grp g with fecAt := some s.now }).raise Ev.LN_FEC_UNCORR [g] else t)
  else .next s

/-- The high-BER condition (R335). -/
def execHighBer (g : Fin 4) (s : State) : Host.Outcome State Fault Refusal :=
  when_ ((s.pers g = 1 || s.pers g = 2) && s.laneRx (4 * g.val) = Rx.up) ((s.raise Ev.LN_HI_BER [g]).lanesDown (4 * g.val) 2) s

/-! ### Lane PLLs and the equaliser's limit -/

/-- A lane PLL runs: some lane of its group is neither OFF nor in DOLDRUMS (R337). -/
def State.pllRuns (s : State) (g : Nat) : Bool := (grpLanes g).any (fun i => decide (2 ≤ s.laneRx i) || decide (2 ≤ s.laneTx i))

/-- A lane PLL loses lock (R344): every lane of the group leaves UP. The cause LN_DOWN then carries is not given: a free value. -/
def execLanePllUnlock (g : Fin 4) (s : State) : Host.Outcome State Fault Refusal :=
  if s.flag (R.LN_GROUP_STAT g) F.LN_GROUP_STAT_PLL_LOCK then
    let c := s.fresh 2
    let t := (c.2.setFlag (R.LN_GROUP_STAT g) F.LN_GROUP_STAT_PLL_LOCK false).raise Ev.LN_PLL_UNLOCK [g]
    .next ((grpLanes g).foldl (fun (t : State) i => if t.laneRx i = Rx.up then t.laneDown i c.1.toNat else t) t)
  else .next s

/-- A lane PLL regains lock (R346). -/
def execLanePllLock (g : Fin 4) (s : State) : Host.Outcome State Fault Refusal :=
  when_ (s.pllRuns g) (s.setFlag (R.LN_GROUP_STAT g) F.LN_GROUP_STAT_PLL_LOCK true) s

/-- An adaptive CTLE stays at an end of its range, `high` the upper one, for a second (R316). -/
def execCtleLimitTimeout (n : Fin 16) (high : Bool) (s : State) : Host.Outcome State Fault Refusal :=
  let r := R.LN_CTLE n
  let p : Nat := if high then 20 else 0
  if s.flag r F.LN_CTLE_MODE || !s.cdrOn n || s.flag (R.LN_STATE n) F.LN_STATE_LOS then .next s
  else if s.flag r F.LN_CTLE_LIM && s.get r F.LN_CTLE_PK_NOW = p then .next s
  else .next (((s.put r F.LN_CTLE_PK_NOW p).setFlag r F.LN_CTLE_LIM true).raise Ev.LN_ADAPT_LIMIT [n, p])

/-! ### Power states (R337, R338) -/

/-- The lane domain of a group is on while any of its lanes is not OFF, and its PLL stops with the last lane that runs. -/
def State.grpPower (s : State) (g : Nat) : State :=
  let t := s.setDom (17 + g) ((grpLanes g).any (fun i => s.laneRx i != Rx.off || s.laneTx i != 0 || (s.lane i).exiting))
  if t.pllRuns g then t else t.setFlag (R.LN_GROUP_STAT g) F.LN_GROUP_STAT_PLL_LOCK false

/-- A lane enters DOLDRUMS or OFF for both directions, by command: no LN_DOWN (R320). Its state below block lock is gone. -/
def State.lanePark (s : State) (n : Nat) (off : Bool) : State :=
  let st : Nat := if off then 0 else 1
  let t := (s.setLaneRx n st).setLaneTx n st
  let t := ((t.put (R.LN_STATE n) F.LN_STATE_HUNTS 0).setFlag (R.LN_STATE n) F.LN_STATE_BLOCK false).setFlag (R.LN_STATE n) F.LN_STATE_CDR false
  let t := if off then (t.setFlag (R.LN_STATE n) F.LN_STATE_LOS false).laneBit F.LN_STATUS_LOS n false else t
  let t := (t.put (R.LN_CTLE n) F.LN_CTLE_PK_NOW 0).setFlag (R.LN_CTLE n) F.LN_CTLE_LIM false
  (t.setLane n { goal := if off then 4 else 3 : Lane }).grpPower (n / 4)

/-- Lane start from DOLDRUMS (R319, R325, R337): both directions as the goal says; the PLL has relocked. -/
def State.laneStart (s : State) (n : Nat) : State :=
  let l := s.lane n
  let t := s.setLane n { goal := l.goal : Lane }
  let t := (t.setLaneTx n (if l.goal = 1 then 3 else 2)).setFlag (R.LN_GROUP_STAT (n / 4)) F.LN_GROUP_STAT_PLL_LOCK true
  let t := t.put (R.LN_CTLE n) F.LN_CTLE_PK_NOW (t.get (R.LN_CTLE n) F.LN_CTLE_PEAK)
  if l.goal = 2 then t.setLaneRx n Rx.lull else t.startHunt n false

/-- The group's exit from OFF or DOLDRUMS takes one step of the gust limiter (R544, R545): asked once per group exit. -/
def State.askExit (s : State) (g : Nat) : State :=
  if (s.grp g).step = 0 then (s.setGrp g { s.grp g with step := 1 }).gustAsk 5 5 g 80 else s

/-- Ask a lane for a power state (R337, R338). DOLDRUMS, OFF and sleep are entered at once; what needs an exit starts one. A lane
that enters LULL raises LN_LULL. -/
def State.lanePower (s : State) (n st : Nat) : State :=
  let rx := s.laneRx n
  let s := s.setLane n { s.lane n with goal := st }
  if st = 4 then s.lanePark n true
  else if rx = Rx.off then (s.setLane n { s.lane n with exiting := true }).askExit (n / 4) |>.grpPower (n / 4)
  else if st = 3 then s.lanePark n false
  else if rx = Rx.doldrums then (s.setLane n { s.lane n with exiting := true }).askExit (n / 4)
  else
    let wakeTx := st != 1 && s.laneTx n = 3
    let wakeRx := st != 2 && rx = Rx.lull
    let t := if st = 1 && s.laneTx n = 2 then (s.setLaneTx n 3).raise Ev.LN_LULL [n, 1] else s
    let t := if st = 2 && rx != Rx.lull then
        (((t.setLaneRx n Rx.lull).setFlag (R.LN_STATE n) F.LN_STATE_CDR false).setFlag (R.LN_STATE n) F.LN_STATE_BLOCK false).raise Ev.LN_LULL [n, 1]
      else t
    if wakeTx || wakeRx then t.setLane n { t.lane n with exiting := true } else t

/-- A lane has entered the power state asked for, or finished the exit towards it. -/
def State.laneThere (s : State) (n : Nat) : Bool := !(s.lane n).exiting

/-- A group change under way is complete once no used lane exits (R311): LN_GROUP_CHANGE, and the command that waits for it. -/
def State.grpSettle (s : State) (g : Nat) : State :=
  let t := if (grpLanes g).all (fun i => !(s.lane i).exiting) then s.setGrp g { s.grp g with step := 0 } else s
  let t := if (t.grp g).changing && (t.used g).all (fun i => t.laneThere i) then
      ((t.setGrp g { t.grp g with changing := false }).raise Ev.LN_GROUP_CHANGE [g, t.pers g]).finish (fun u => u = .groupChange g) St.ok 0 0
    else t
  t.finish (fun u => match u with
    | .lanes m _ => (bitsOf m 16).all (fun i => t.laneThere i)
    | _ => false) St.ok 0 0

/-- Apply a group configuration (R311): every lane of the group goes through DOLDRUMS; unused lanes end OFF. -/
def State.groupApply (s : State) (g : Nat) (cfg : Word) : State :=
  let t := (grpLanes g).foldl (fun (t : State) i => if t.laneRx i = Rx.off then t else t.lanePark i false) s
  let t := (t.wr (R.LN_GROUP_CFG g) cfg).put (R.LN_GROUP_STAT g) F.LN_GROUP_STAT_SKEW 0
  let t := t.setGrp g { changing := true, fecAt := (t.grp g).fecAt, step := (t.grp g).step : LaneGroup }
  let u := t.used g
  let t := (grpLanes g).foldl (fun (t : State) i => if u.contains i then t.lanePower i 0 else t.lanePark i true) t
  t.grpSettle g

/-- A lane finishes one exit (R337): OFF to DOLDRUMS, DOLDRUMS to sending and hunting, LULL to sending or hunting. The exits from
OFF and DOLDRUMS wait for the group's current step (R544). -/
def execLanePowerExitDone (n : Fin 16) (s : State) : Host.Outcome State Fault Refusal :=
  let l := s.lane n
  let g := n.val / 4
  if !l.exiting then .next s
  else if s.laneRx n = Rx.off || s.laneRx n = Rx.doldrums then
    let granted := if (s.grp g).step = 2 then some s else (s.gustTake 5 g).map (fun t => t.setGrp g { t.grp g with step := 2 })
    match granted with
    | none => .next s
    | some t =>
      if t.laneRx n = Rx.off then
        let t := (t.setLaneRx n Rx.doldrums).setLaneTx n 1
        let t := if l.goal = 3 then t.setLane n { t.lane n with exiting := false } else t
        .next (t.grpSettle g)
      else
        let t := (t.laneStart n)
        let t := if l.goal = 1 || l.goal = 2 then t.raise Ev.LN_LULL [n, 1] else t
        .next (t.grpSettle g)
  else
    let t := s.setLane n { l with exiting := false }
    let t := if l.goal != 1 && s.laneTx n = 3 then (t.setLaneTx n 2).raise Ev.LN_LULL [n, 0] else t
    let t := if l.goal != 2 && s.laneRx n = Rx.lull then (t.startHunt n false).raise Ev.LN_LULL [n, 0] else t
    .next (t.grpSettle g)

/-- A group change that arrived over its own in-band lane is applied (R311). -/
def execGroupChangeApply (g : Fin 4) (s : State) : Host.Outcome State Fault Refusal :=
  match (s.grp g).waits with
  | none => .next s
  | some cfg => .next ((s.setGrp g { s.grp g with waits := none }).groupApply g cfg)

/-! ### Pattern checkers (R341 to R343) -/

/-- A checker compares `bits` bits and finds `errs` mismatches: its counters, and the wrap of the bit counter. -/
def State.patCount (s : State) (n bits errs : Nat) : State :=
  if !s.flag (R.LN_PAT_STAT n) F.LN_PAT_STAT_SYNC then s
  else
    let t := s.countN (R.LN_PAT_ERR_CNT n) errs
    let v := t.get64 (R.LN_PAT_BITS n) + bits
    let t := t.put64 (R.LN_PAT_BITS n) (v % 2 ^ 48)
    if 2 ^ 48 ≤ v then (t.setFlag (R.LN_PAT_STAT n) F.LN_PAT_STAT_BITS_OVF true).raise Ev.LN_CNT_WRAP [n] else t

/-- The checker of a lane under test runs. -/
def State.checks (s : State) (n : Nat) : Bool := s.laneRx n = Rx.test && s.flag (R.LN_PAT_CFG n) F.LN_PAT_CFG_CHK_EN

/-- A checker synchronises (R342). -/
def execPatternSync (n : Fin 16) (s : State) : Host.Outcome State Fault Refusal :=
  when_ (s.checks n && !s.flag (R.LN_PAT_STAT n) F.LN_PAT_STAT_SYNC)
    ((s.setFlag (R.LN_PAT_STAT n) F.LN_PAT_STAT_SYNC true).raise Ev.LN_PAT_LOCK [n]) s

/-- A checker loses sync after `bits` bits, `errs` of which mismatched, that were not counted yet (R342). -/
def execPatternSyncLoss (n : Fin 16) (bits : BitVec 48) (errs : BitVec 32) (s : State) : Host.Outcome State Fault Refusal :=
  if s.checks n && s.flag (R.LN_PAT_STAT n) F.LN_PAT_STAT_SYNC then
    let t := (s.patCount n bits.toNat errs.toNat).setFlag (R.LN_PAT_STAT n) F.LN_PAT_STAT_SYNC false
    .next ((t.incSat (R.LN_PAT_STAT n) F.LN_PAT_STAT_RESYNC).raise Ev.LN_PAT_LOST [n])
  else .next s

/-- LN_PAT_BITS wraps (R343): the bits compared up to the wrap, and the mismatches among them. -/
def execLnCntWrap (n : Fin 16) (errs : BitVec 32) (s : State) : Host.Outcome State Fault Refusal :=
  when_ (s.checks n) (s.patCount n (2 ^ 48 - s.get64 (R.LN_PAT_BITS n)) errs.toNat) s

/-- CLR of LN_PAT_STAT (R343). -/
def State.patClear (s : State) (n : Nat) : State :=
  (((s.wr (R.LN_PAT_ERR_CNT n) 0).put64 (R.LN_PAT_BITS n) 0).put (R.LN_PAT_STAT n) F.LN_PAT_STAT_RESYNC 0).setFlag
    (R.LN_PAT_STAT n) F.LN_PAT_STAT_BITS_OVF false

/-- A write of CLR to LN_PAT_STAT (R343). -/
def execLnPatStatClr (n : Fin 16) (s : State) : Host.Outcome State Fault Refusal := .next (s.patClear n)

end Sys2Proof.Machine
end

