-- ==== Sys2Proof/Machine/Ports.lean ====
section
/-! DEFINITION. The ports of the packet engine: acceptance (R350 to R353), classification (R354, R355, R358), drops (R383), ingress
buffers and egress queues (R369 to R371, R375), cascades (R376 to R380) and delay measurements (R381). -/

namespace Sys2Proof.Machine

/-! ### Drops and counters (R383, R384) -/

-- The causes of R383.
namespace Dc
def malformed : Nat := 0
def notMine : Nat := 1
def etype : Nat := 2
def msgType : Nat := 3
def frag : Nat := 4
def noFlow : Nat := 5
def mode : Nat := 6
def sectType : Nat := 7
def ext : Nat := 8
def comp : Nat := 9
def beam : Nat := 10
def early : Nat := 11
def late : Nat := 12
def noCp : Nat := 13
def full : Nat := 14
def queue : Nat := 15
end Dc

/-- Count a drop on a port (R383): FH_DROP when the cause first counts there within a second. -/
def State.drop (s : State) (g k : Nat) : State :=
  let t := s.count (R.FH_DROP_CNT g k)
  if t.secondSince ((t.fh.dropAt.find? (fun x => x.1 = g && x.2.1 = k)).map (fun x => x.2.2)) then
    let fh := { t.fh with dropAt := (g, k, t.now) :: t.fh.dropAt.filter (fun x => !(x.1 = g && x.2.1 = k)) }
    { t with fh := fh }.raise Ev.FH_DROP [g, k]
  else t

/-- Raise an event at most once per number and radio frame (R362, R367, R379, R382). -/
def State.raiseFrame (s : State) (e n : Nat) (owner : Option Nat) (items : List Nat) : State :=
  if s.fh.once.contains (e, n, s.tl.sfn) then s
  else
    let fh := { s.fh with once := (e, n, s.tl.sfn) :: s.fh.once.filter (fun x => !(x.1 = e && x.2.1 = n)) }
    { s with fh := fh }.raiseTo e owner items

/-- Count one frame on a port's 48-bit counter (R384). -/
def State.frameCount (s : State) (g : Nat) (tx : Bool) : State :=
  s.count48 (if tx then R.FH_TX_FRAMES g else R.FH_RX_FRAMES g) 1 (fun t =>
    (t.stickFlag (R.FH_PORT_STAT g) (if tx then F.FH_PORT_STAT_TX_OVF else F.FH_PORT_STAT_RX_OVF)).raise Ev.FH_CNT_WRAP
      [g, if tx then 1 else 0])

/-- A frame counter wraps (R384): the frame that carries it past its last value. -/
def execFhCntWrap (g : Fin 4) (tx : Bool) (s : State) : Host.Outcome State Fault Refusal :=
  when_ (s.get64 (if tx then R.FH_TX_FRAMES g else R.FH_RX_FRAMES g) % 2 ^ 48 = 2 ^ 48 - 1) (s.frameCount g tx) s

/-! ### Ports, addresses (R350 to R353, R358, R376) -/

def State.role (s : State) (g : Nat) : Nat := s.get (R.FH_PORT_CFG g) F.FH_PORT_CFG_ROLE
/-- A Gale port (R351). -/
def State.gale (s : State) (g : Nat) : Bool := s.pers g = 3
/-- Every lane of a port is UP (R374). -/
def State.link (s : State) (g : Nat) : Bool := s.flag (R.LN_GROUP_STAT g) F.LN_GROUP_STAT_LINK

/-- The cascade port that a fronthaul port names, and the fronthaul port that names a cascade port (R376). -/
def State.cascOf (s : State) (g : Nat) : Option Nat :=
  let c := s.get (R.FH_PORT_CFG g) F.FH_PORT_CFG_CASC
  if s.role g = 1 && s.flag (R.FH_PORT_CFG g) F.FH_PORT_CFG_CASC_EN && s.role c = 2 && !s.gale g && !s.gale c then some c else none
def State.upOf (s : State) (c : Nat) : Option Nat := (List.range 4).find? (fun g => s.cascOf g = some c)

/-- The destination is the port's address, broadcast, or an enabled multicast address of the port (R352). -/
def State.dstOk (s : State) (g dst : Nat) : Bool :=
  dst = s.get64 (R.FH_PORT_MAC g) % 2 ^ 48 || dst = 2 ^ 48 - 1 ||
    (List.range 16).any (fun i => s.flag (R.FH_MCAST_HI i) F.FH_MCAST_EN && (s.get (R.FH_MCAST_HI i) F.FH_MCAST_PORTS).testBit g &&
      s.get64 (R.FH_MCAST i) % 2 ^ 48 = dst)

/-- The frame's tag is one the port takes (R352). -/
def State.tagOk (s : State) (g : Nat) (tags : List (BitVec 12 × BitVec 3)) : Bool :=
  match tags with
  | [] => s.flag (R.FH_PORT_CFG g) F.FH_PORT_CFG_UNTAG
  | [x] => (List.range 8).any (fun i => s.flag (R.FH_VLAN g i) F.FH_VLAN_EN && s.get (R.FH_VLAN g i) F.FH_VLAN_VID = x.1.toNat)
  | _ => false

/-- Pack the bits of `v` that a mask selects, from the least significant selected bit upward (R358). -/
def packBits (v mask : Nat) : Nat :=
  ((bitsOf mask 16).zipIdx).foldl (fun n x => if v.testBit x.1 then n + 2 ^ x.2 else n) 0

/-- Unit address and local stream ID of an eAxC ID (R358). -/
def State.unitOf (s : State) (id : Nat) : Nat := packBits id (s.get R.FH_UADDR_CFG F.FH_UADDR_CFG_MASK)
def State.localOf (s : State) (id : Nat) : Nat := packBits id (2 ^ 16 - 1 - s.get R.FH_UADDR_CFG F.FH_UADDR_CFG_MASK)

/-- Is the unit address the broadcast one (R358)? -/
def State.bcast (s : State) (id : Nat) : Bool :=
  let w := (bitsOf (s.get R.FH_UADDR_CFG F.FH_UADDR_CFG_MASK) 16).length
  s.flag R.FH_UADDR_CFG F.FH_UADDR_CFG_BCAST_EN && decide (1 ≤ w) && s.unitOf id = 2 ^ w - 1

/-- Is a message with this eAxC ID for the device (R358)? -/
def State.mine (s : State) (id : Nat) (cplane : Bool) : Bool :=
  s.unitOf id = s.get R.FH_UADDR_CFG F.FH_UADDR_CFG_UA || (cplane && s.bcast id)

/-! ### Queues (R370) -/

/-- Bytes that wait in an ingress buffer, in an egress queue. -/
def State.rxBytes (s : State) (g c : Nat) : Nat := ((s.fh.rx.filter (fun f => f.port = g && f.cls = c)).map RxFrame.len).sum
def State.txBytes (s : State) (g c : Nat) : Nat := ((s.fh.tx.filter (fun f => f.port = g && f.cls = c)).map TxFrame.len).sum

/-- The size of an ingress buffer or egress queue. -/
def queueSize : Nat := 256 * 1024

/-- Put a frame into its ingress buffer, or drop it with cause QUEUE (R370). -/
def State.rxQueue (s : State) (f : RxFrame) : State :=
  if queueSize < s.rxBytes f.port f.cls + f.len then s.drop f.port Dc.queue else { s with fh := { s.fh with rx := s.fh.rx ++ [f] } }

/-- Put a frame into its egress queue, or drop it with cause QUEUE (R370). Hard messages of the calendar wait in stage 5's
store and are never refused; MGMT and BULK frames wait in HI until there is space. -/
def State.txQueue (s : State) (f : TxFrame) : State :=
  let hardUl := match f.kind with
    | .uplink .. => f.cls = 0
    | _ => false
  if !hardUl && decide (f.cls ≤ 2) && decide (queueSize < s.txBytes f.port f.cls + f.len) then s.drop f.port Dc.queue
  else { s with fh := { s.fh with tx := s.fh.tx ++ [f] } }

/-- Take the oldest frame of a port that satisfies `p` out of the ingress buffers. -/
def State.rxTake (s : State) (g : Nat) (p : FrameKind → Bool) : State :=
  match s.fh.rx.find? (fun f => f.port = g && p f.kind) with
  | some f => { s with fh := { s.fh with rx := s.fh.rx.erase f } }
  | none => s

/-! ### Forwarding (R376 to R380) -/

/-- The smallest symbol period in use, in DFE cycles (R373, R379); with no running carrier, that of 120 kHz. -/
def State.minPeriod (s : State) : Nat :=
  normalSym (((List.range 16).filter s.carRun).foldl (fun m c => max m (s.carNum c)) (if (List.range 16).any s.carRun then 0 else 3))

/-- Tokens of a port's bucket now, in 1/49,152 bit: filled at the declared rate, at most one symbol period deep (R379). -/
def State.tokens (s : State) (g : Nat) : Nat :=
  let b := nth s.fh.bucket g (0, 0)
  let r := 100 * nth s.fh.fwdIn g 0
  min (b.1 + r * (s.now - b.2)) (r * s.minPeriod)

/-- Bytes on the wire of a frame with `n` bytes of Ethernet payload (R372). -/
def wireBytes (n : Nat) : Nat := n + 42

/-- Queue a frame for forwarding (R378, R379): class HARD for eCPRI at or above HPCP within the declared rate, else FIRM. -/
def State.forward (s : State) (g out : Nat) (f : EthFrame) : State :=
  let ecpri := match f.kind with
    | .ecpri .. => true
    | _ => false
  let pcp : Nat := match f.tags with
    | x :: _ => x.2.toNat
    | [] => 0
  let corrected : Bool := match f.kind with
    | .ptp e => e
    | .ecpri _ _ ty _ _ _ _ a => ty = 5 && (a = 0 || a = 2)
    | _ => false
  let k := TxKind.fwd corrected f.ts.toNat
  if ecpri && !f.tags.isEmpty && decide (s.get (R.FH_PORT_CFG g) F.FH_PORT_CFG_HPCP ≤ pcp) then
    let cost := wireBytes f.len.toNat * 8 * 49152
    let have_ := s.tokens g
    if cost ≤ have_ then
      ({ s with fh := { s.fh with bucket := s.fh.bucket.set g (have_ - cost, s.now) } }).txQueue ⟨out, 0, f.len.toNat, k⟩
    else
      (({ s with fh := { s.fh with bucket := s.fh.bucket.set g (have_, s.now) } }).raiseFrame Ev.FH_POLICE g none [g]).txQueue
        ⟨out, 1, f.len.toNat, k⟩
  else s.txQueue ⟨out, 1, f.len.toNat, k⟩

/-! ### Acceptance and classification (R352, R354, R355) -/

/-- An eCPRI message at the device (R354, R355): the cause it is dropped with, if the header decides one. A type 5 message carries no
eAxC ID. -/
def State.ecpriDrop (s : State) (g : Nat) (k : FrameKind) : Option Nat :=
  match k with
  | .ecpri rev c ty id e sub sizeOk act =>
    if !sizeOk then some Dc.malformed
    else if (ty = 0 || ty = 2) && !s.mine id.toNat (ty = 2) then some Dc.notMine
    else if s.role g = 3 || rev != 1 || c || !(ty = 0 || ty = 2 || (ty = 5 && (act = 0 || act = 2 || act = 3))) then some Dc.msgType
    else if (ty = 0 || ty = 2) && !(e && sub = 0) then some Dc.frag
    else none
  | _ => none

/-- Classify an accepted frame (R354). Messages that stay are taken up by the row of their kind. -/
def State.classify (s : State) (g : Nat) (f : EthFrame) : State :=
  let n := f.len.toNat
  match f.kind with
  | .ecpri _ _ ty id _ _ _ _ =>
    let fwd (t : State) : State := match s.cascOf g with
      | some c => t.forward g c f
      | none => t
    match s.ecpriDrop g f.kind with
    | some k => if k = Dc.notMine && (s.cascOf g).isSome then fwd s else s.drop g k
    | none => if ty = 2 && s.bcast id.toNat && s.unitOf id.toNat != s.get R.FH_UADDR_CFG F.FH_UADDR_CFG_UA then fwd s else s
  | .ptp _ => s.rxQueue ⟨g, 2, n, f.kind⟩
  | .arp => s.rxQueue ⟨g, 3, n, f.kind⟩
  | .ip => s.rxQueue ⟨g, 3, n, f.kind⟩
  | .slow st => if st = 0x0A then s.rxQueue ⟨g, 2, n, f.kind⟩ else s.drop g Dc.etype
  | .host bulk =>
    if f.etype.toNat = s.get R.FH_MGMT_ETYPE F.FH_MGMT_ETYPE_ETYPE then s.rxQueue ⟨g, if bulk then 4 else 3, n, f.kind⟩ else s.drop g Dc.etype
  | .other => s.drop g Dc.etype

/-- A received frame, or a Gale message (R351, R352, R378): dropped, forwarded, or accepted, counted and classified. -/
def execEthernetFrame (g : Fin 4) (f : EthFrame) (s : State) : Host.Outcome State Fault Refusal :=
  if s.role g = 0 then .next s
  else if s.gale g then
    match f.kind with
    | .ecpri .. => .next ((s.frameCount g false).classify g f)
    | _ => .next s
  else
    let addr := s.dstOk g f.dst.toNat
    let other := f.bad || !s.tagOk g f.tags || decide (s.get (R.FH_PORT_CFG g) F.FH_PORT_CFG_MTU < f.len.toNat)
    if s.role g = 2 && (s.upOf g).isSome && f.dst.toNat != s.get64 (R.FH_PORT_MAC g) % 2 ^ 48 then
      if f.bad then .next (s.drop g Dc.malformed)
      else match s.upOf g with
        | some u => .next (s.forward g u f)
        | none => .next s
    else if other then .next (s.drop g Dc.malformed)
    else if !addr then
      match s.cascOf g with
      | some c => .next (s.forward g c f)
      | none => .next (s.drop g Dc.notMine)
    else .next ((s.frameCount g false).classify g f)

/-- ARP, neighbour discovery and echo are answered by the control cores, in class MGMT (R354, R369). -/
def execArpOrNdFrame (g : Fin 4) (len : BitVec 14) (s : State) : Host.Outcome State Fault Refusal :=
  if s.fh.rx.any (fun f => f.port = g.val && f.kind = .arp) then
    .next ((s.rxTake g (fun k => k = .arp)).txQueue ⟨g, 3, len.toNat, .answer⟩)
  else .next s

/-- Other IP traffic is discarded by firmware (R357). -/
def execOtherIpFrame (g : Fin 4) (s : State) : Host.Outcome State Fault Refusal := .next (s.rxTake g (fun k => k = .ip))

/-! ### Delay measurements (R381) -/

/-- Bytes of Ethernet payload of a delay message: the least an Ethernet frame carries (PRESUMED, log entry 40). -/
def delayLen : Nat := 46

/-- A Request addressed to the device is answered with t2 in class TIME (R381). -/
def execDelayRequest (g : Fin 4) (id : BitVec 8) (t2 : BitVec 32) (s : State) : Host.Outcome State Fault Refusal :=
  when_ (s.role g = 1 || s.role g = 2) (s.txQueue ⟨g, 2, delayLen, .delayResp id.toNat t2.toNat⟩) s

/-- Begin a measurement on a port: a Request waits for egress (R381). -/
def State.delayStart (s : State) (g id : Nat) (ctx : Option Nat) : State :=
  ({ s with fh := { s.fh with delays := s.fh.delays.filter (fun (d : DelayReq) => !(d.port = g && d.id = id)) ++ [(⟨g, id, none, ctx⟩ : DelayReq)] } }).txQueue
    ⟨g, 2, delayLen, .delayReq id⟩

/-- A Remote Request makes the device send a Request (R381). -/
def execRemoteDelayRequest (g : Fin 4) (id : BitVec 8) (s : State) : Host.Outcome State Fault Refusal :=
  when_ (s.role g = 1 || s.role g = 2) (s.delayStart g id.toNat none) s

/-- The Response to a Request of the device goes to firmware (R381): t2 and the compensation value in ns. A measurement that a context
asked for completes, with the one-way delay t2 − t1 less the compensation. -/
def execDelayResponse (g : Fin 4) (id : BitVec 8) (t2 comp : BitVec 32) (s : State) : Host.Outcome State Fault Refusal :=
  match s.fh.delays.find? (fun d => d.port = g.val && d.id = id.toNat) with
  | none => .next s
  | some d =>
    match d.t1 with
    | none => .next s
    | some t1 =>
      let t := { s with fh := { s.fh with delays := s.fh.delays.erase d } }
      let delay := unsigned 32 ((t2.toNat : Int) - (t1 : Int) - (comp.toNat : Int))
      match d.ctx with
      | none => .next t
      | some x =>
        .next ((t.raiseTo Ev.FH_DELAY_DONE (some x) [g, id.toNat, delay]).finish (fun u => u = .delay g id.toNat) St.ok 0
          (delay + 2 ^ 32 * comp.toNat + 2 ^ 64 * t1))

/-! ### Launch (R371, R375) -/

/-- Of a waiting uplink message, its flow, section and first PRB: the order of R371. -/
def TxFrame.key (f : TxFrame) : Nat × Nat × Nat :=
  match f.kind with
  | .uplink fl se pr _ _ _ _ _ => (fl, se, pr)
  | _ => (0, 0, 0)

/-- Is this an uplink message of a class for a symbol? -/
def TxFrame.ofSym (f : TxFrame) (g cls slot k : Nat) : Bool :=
  match f.kind with
  | .uplink _ _ _ _ sl kk _ _ => f.port = g && f.cls = cls && sl = slot && kk = k
  | _ => false

/-- The order of R371 between two messages. -/
def keyLe (a b : Nat × Nat × Nat) : Bool :=
  decide (a.1 < b.1) || (a.1 = b.1 && (decide (a.2.1 < b.2.1) || (a.2.1 = b.2.1 && decide (a.2.2 ≤ b.2.2))))

/-- Put a message into its place in the order of R371. -/
def insMsg (f : TxFrame) : List TxFrame → List TxFrame
  | [] => [f]
  | h :: l => if keyLe f.key h.key then f :: h :: l else h :: insMsg f l

/-- The eAxC ID of a flow (R358): the bits of the unit address and of the local stream ID in their places. -/
def unpackBits (v mask : Nat) : Nat := ((bitsOf mask 16).zipIdx).foldl (fun n x => if v.testBit x.2 then n + 2 ^ x.1 else n) 0
def State.eaxcOf (s : State) (f : Nat) : Nat :=
  let m := s.get R.FH_UADDR_CFG F.FH_UADDR_CFG_MASK
  unpackBits (s.get R.FH_UADDR_CFG F.FH_UADDR_CFG_UA) m + unpackBits (s.get (R.FH_FLOW f 0) F.FH_FLOW_LOCAL) (2 ^ 16 - 1 - m)

/-- An eCPRI message as it leaves: an uplink message with 18 bytes of headers (R372), or a delay message (R381). -/
def State.txMessage (s : State) (f : TxFrame) : List Byte :=
  match f.kind with
  | .uplink fl se pr n _ _ st data =>
    (List.range 18).map (Config.ecpriByte [0, s.eaxcOf fl, s.get (R.FH_FLOW fl 6) F.FH_FLOW_SEQ, st, se, pr, n]) ++ data
  | .delayResp id t2 => (List.range f.len).map (Config.ecpriByte [5, 2, id, t2])
  | .delayReq id => (List.range f.len).map (Config.ecpriByte [5, 0, id, s.ns])
  | _ => []

/-- A frame leaves a port: on Gale as blocks (R328), counted, an uplink message takes its flow's next sequence number (R382), a forwarded one its residence
time (R380), a delay Request its t1 (R381). -/
def State.launch (s : State) (f : TxFrame) : State :=
  let s := if s.gale f.port && !(s.txMessage f).isEmpty then s.galeMsg f.port (s.txMessage f) else s
  let t := ({ s with fh := { s.fh with tx := s.fh.tx.erase f } }).frameCount f.port true
  match f.kind with
  | .uplink fl .. =>
    let q := s.get (R.FH_FLOW fl 6) F.FH_FLOW_SEQ
    let u := t.incWrap (R.FH_FLOW fl 6) F.FH_FLOW_SEQ
    { u with fh := { u.fh with last := some (f, q) } }
  | .fwd true ts => { t with fh := { t.fh with last := some (f, unsigned 32 ((s.ns : Int) - (ts : Int)) * 2 ^ 16) } }
  | .delayReq id =>
    let ds := t.fh.delays.map (fun (d : DelayReq) => if d.port = f.port && d.id = id then { d with t1 := some s.ns } else d)
    { t with fh := { t.fh with delays := ds, last := some (f, s.ns) } }
  | _ => { t with fh := { t.fh with last := some (f, 0) } }

/-- The instant d symbols after its own, on its carrier's uplink clock, has come for a waiting uplink message, or came `ofs` cycles ago
(R370, R371, R375). -/
def State.upAt (s : State) (f : TxFrame) (d : Int) (ofs : Nat) : Bool :=
  match f.kind with
  | .uplink fl _ _ _ _ _ st _ => decide (s.rel (stStart (stAdd st d)) + (ofs : Int) ≤ (s.ulAdv (s.get (R.FH_FLOW fl 0) F.FH_FLOW_CAR) : Int))
  | _ => false

/-- The launch calendar reaches T′₍N+3₎ + OFS (R371): the first `n` hard messages of the symbol launch in order; what does not launch
in time is HARD_LAUNCH_EXPIRY's. -/
def execHardLaunch (g : Fin 4) (slot : Fin 4096) (k : Fin 14) (n : Nat) (s : State) : Host.Outcome State Fault Refusal :=
  if s.link g then
    let l := (s.fh.tx.filter (fun f => f.ofSym g 0 slot k && s.upAt f 3 (s.get (R.FH_LAUNCH g) F.FH_LAUNCH_OFS) && !s.upAt f 4 0)).foldr insMsg []
    .next ((l.take n).foldl (fun (t : State) f => t.launch f) s)
  else .next s

/-- The instant of the first hard launch of a symbol on a port, in the 1,024-frame count (R371). -/
def State.launchAt (s : State) (g : Nat) (y : Sym) : Nat :=
  shiftBy (stStart (stAdd y.stamp 3)) ((s.get (R.FH_LAUNCH g) F.FH_LAUNCH_OFS : Int) - (s.ulAdv y.car : Int))

/-- A carrier has a hard uplink flow that leaves on a port. -/
def State.hardOn (s : State) (g c : Nat) : Bool :=
  (List.range 1024).any (fun f => s.flag (R.FH_FLOW f 0) F.FH_FLOW_EN && s.flag (R.FH_FLOW f 0) F.FH_FLOW_DIR && s.flag (R.FH_FLOW f 0) F.FH_FLOW_HARD &&
    s.get (R.FH_FLOW f 0) F.FH_FLOW_CAR = c && (s.get (R.FH_FLOW f 1) F.FH_FLOW_PORT = g ||
      (s.flag (R.FH_FLOW f 1) F.FH_FLOW_SPLIT_EN && s.get (R.FH_FLOW f 1) F.FH_FLOW_PORT2 = g)))

/-- DFE cycles to the next calendared hard launch of a port, if one is to come. -/
def State.launchGap (s : State) (g : Nat) : Option Int :=
  ((s.tl.syms.filter (fun (y : Sym) => y.ul && !y.blank && !y.absent && decide (0 ≤ s.rel (s.launchAt g y)) && s.hardOn g y.car)).map
    (fun (y : Sym) => s.rel (s.launchAt g y))).min?

/-- The port rate in Mbit/s as a fraction (R372, R333). -/
def State.portRate (s : State) (g : Nat) : Nat × Nat :=
  match s.pers g with
  | 1 => (25000, 1)
  | 2 => (100000, 1)
  | 3 => ((s.used g).length * s.get (R.LN_GROUP_CFG g) F.LN_GROUP_CFG_RATE * (128 * 48 * 4091), 130 * 49 * 4096)
  | _ => (1, 1)

/-- A frame of a class other than HARD fits before the next hard launch (R371). -/
def State.fits (s : State) (f : TxFrame) : Bool :=
  let r := s.portRate f.port
  let intime := match s.launchGap f.port with
    | none => true
    | some d => decide (((wireBytes f.len * 8 * 49152 * r.2 : Nat) : Int) < d * ((100 * r.1 : Nat) : Int))
  intime && (decide (f.len ≤ s.get (R.FH_LAUNCH f.port) F.FH_LAUNCH_NHMTU) || decide (3 ≤ f.cls))

/-- The frame a port sends next: a forwarded hard frame, then FIRM, TIME, MGMT and BULK in strict priority (R369, R371). -/
def State.nextFrame (s : State) (g : Nat) : Option TxFrame :=
  let head (c : Nat) : Option TxFrame := s.fh.tx.find? (fun f => f.port = g && f.cls = c && (match f.kind with
    | .uplink .. => c != 0
    | _ => true))
  match head 0 with
  | some f => some f
  | none => ([1, 2, 3, 4].filterMap head).find? s.fits

/-- A queued frame other than a calendared one starts (R371). -/
def execEgressFrameStart (g : Fin 4) (s : State) : Host.Outcome State Fault Refusal :=
  if s.link g && s.role g != 0 then
    match s.nextFrame g with
    | some f => .next (s.launch f)
    | none => .next s
  else .next s

/-- Drop the messages of a symbol and class that wait `d` symbols after it, with cause QUEUE (R370, R375). -/
def State.expire (s : State) (g cls slot k : Nat) (d : Int) : State :=
  let l := s.fh.tx.filter (fun f => f.ofSym g cls slot k && s.upAt f d 0)
  l.foldl (fun (t : State) f => ({ t with fh := { t.fh with tx := t.fh.tx.erase f } }).drop g Dc.queue) s

/-- A FIRM message not launched by T′₍N+5₎ is discarded (R370). -/
def execFirmLaunchExpiry (g : Fin 4) (slot : Fin 4096) (k : Fin 14) (s : State) : Host.Outcome State Fault Refusal :=
  .next (s.expire g 1 slot k 5)

/-- A hard message not launched by T′₍N+4₎ is discarded, and FH_LAUNCH_LATE is raised (R375). -/
def execHardLaunchExpiry (g : Fin 4) (slot : Fin 4096) (k : Fin 14) (s : State) : Host.Outcome State Fault Refusal :=
  let n := (s.fh.tx.filter (fun f => f.ofSym g 0 slot k && s.upAt f 4 0)).length
  if n = 0 then .next s else .next ((s.expire g 0 slot k 4).raise Ev.FH_LAUNCH_LATE [g, slot, n])

end Sys2Proof.Machine
end

