-- ==== Sys2Proof/Machine/Packets.lean ====
section
/-! DEFINITION. Flows (R359 to R361), the section table (R362, R363), compression (R365, R366), windows (R367, R368), sequence
numbers (R382), and the C-plane and U-plane messages. -/

namespace Sys2Proof.Machine

/-! ### Flows (R359, R389) -/

def State.flEn (s : State) (f : Nat) : Bool := s.flag (R.FH_FLOW f 0) F.FH_FLOW_EN
def State.flUl (s : State) (f : Nat) : Bool := s.flag (R.FH_FLOW f 0) F.FH_FLOW_DIR
def State.flCar (s : State) (f : Nat) : Nat := s.get (R.FH_FLOW f 0) F.FH_FLOW_CAR
def State.flLayer (s : State) (f : Nat) : Nat := s.get (R.FH_FLOW f 0) F.FH_FLOW_LAYER
def State.flPathm (s : State) (f : Nat) : Bool := s.flag (R.FH_FLOW f 0) F.FH_FLOW_PATHM
def State.flHard (s : State) (f : Nat) : Bool := s.flag (R.FH_FLOW f 0) F.FH_FLOW_HARD
def State.flOwner (s : State) (f : Nat) : Nat := s.get (R.FH_FLOW f 1) F.FH_FLOW_OWNER
/-- Width of a compression field: 0 means 16 (R389). -/
def iqWidth (n : Nat) : Nat := if n = 0 then 16 else n

/-- The flow a message belongs to (R359): enabled, its local stream ID and direction, its ingress port, its carrier still its
owner's. -/
def State.flowFind (s : State) (g id : Nat) (ul : Bool) : Option Nat :=
  let l := s.localOf id
  (List.range 1024).find? (fun f => s.flEn f && s.get (R.FH_FLOW f 0) F.FH_FLOW_LOCAL = l && s.flUl f = ul &&
    (s.get (R.FH_FLOW f 1) F.FH_FLOW_PORTS).testBit g && s.carOwner (s.flCar f) = some (s.flOwner f))

/-- The flow's carrier transmits or receives now (R368, R37). -/
def State.flowRuns (s : State) (f : Nat) : Bool :=
  s.carRun (s.flCar f) && (s.mode = .tdd || s.mode = .fdd || (s.flUl f && s.mode = .listen))

/-- The sequence check (R382): a step forward counts what it leaves out; a message from behind is out of order and changes
nothing (a step of 128 or more is one back, DESIGN CHOICE, log entry 41). -/
def State.flowSeq (s : State) (f seq : Nat) : State :=
  let d := (seq + 256 - s.get (R.FH_FLOW f 6) F.FH_FLOW_SEQ) % 256
  if 128 ≤ d then s
  else
    let t := s.put (R.FH_FLOW f 6) F.FH_FLOW_SEQ (seq + 1)
    if d = 0 then t
    else
      (t.put (R.FH_FLOW f 5) F.FH_FLOW_SEQGAP (min (t.get (R.FH_FLOW f 5) F.FH_FLOW_SEQGAP + d) 65535)).raiseFrame Ev.FH_SEQ_GAP f
        (some (s.flOwner f)) [f, d]

/-! ### Time (R314, R367) -/

/-- The receive latency of a port in ns, as a fraction (R314). -/
def State.rxLatency (s : State) (g : Nat) : Nat × Nat :=
  match s.pers g with
  | 1 => (420, 1)
  | 2 => (180, 1)
  | _ =>
    let r := max (s.get (R.LN_GROUP_CFG g) F.LN_GROUP_CFG_RATE) 1
    if s.bonded g then (40 * r + s.get (R.LN_GROUP_STAT g) F.LN_GROUP_STAT_SKEW * 130000, r) else (40, 1)

/-- Arrival at the ball `age` cycles ago is at least `t_rx` + 1.000 µs before the instant `at_` (R367). -/
def State.inTime (s : State) (g at_ age : Nat) : Bool :=
  let l := s.rxLatency g
  decide ((((l.1 + 1000 * l.2) * 49152 : Nat) : Int) ≤ (s.rel at_ + (age : Int)) * ((100000 * l.2 : Nat) : Int))

/-- Arrival at the ball `age` cycles ago is before the instant `at_`. -/
def State.before (s : State) (at_ age : Nat) : Bool := decide (0 < s.rel at_ + (age : Int))

/-- The instant T of the symbol `d` symbols from a stamp's, less the uplink advance of a carrier for an uplink instant T′. -/
def State.tick (s : State) (stamp : Nat) (d : Int) (ul : Bool) (c : Nat) : Nat :=
  if ul then shiftBy (stStart (stAdd stamp d)) (-(s.ulAdv c : Int)) else stStart (stAdd stamp d)

/-- Cycles in 1 ms. -/
def cyclesPerMs : Nat := 491520

/-! ### The section table (R362, R363) -/

/-- Symbols after which stamps of a numerology repeat. -/
def symCycle (num : Nat) : Nat := 1024 * frameSyms num

/-- A section covers a symbol. -/
def Sect.covers (e : Sect) (stamp : Nat) : Bool :=
  decide ((symIndex stamp + symCycle e.num - e.first % symCycle e.num) % symCycle e.num < e.nsym)

/-- A section covers a PRB. -/
def Sect.hasPrb (e : Sect) (b : Nat) : Bool := e.prbs.any (fun x => decide (x.1 ≤ b) && decide (b < x.1 + x.2))

/-- The stamp of symbol `i` of a section. -/
def Sect.stamp (e : Sect) (i : Nat) : Nat := stampOf e.num ((e.first + i) % symCycle e.num)

/-- FH_SECT_USED counts the entries of each partition. -/
def State.showSects (s : State) : State :=
  (List.range 8).foldl (fun (t : State) x => t.put (R.FH_SECT_USED x) F.FH_SECT_USED_USED ((t.fh.sects.filter (fun e => e.ctx = x)).length)) s

/-- The carrier of a section. -/
def State.sectCar (s : State) (e : Sect) : Nat := s.flCar e.flow

/-- The last symbol of a section has passed stage 1, or stage 4 (R362). -/
def State.sectOver (s : State) (e : Sect) : Bool :=
  decide (s.rel (s.tick (e.stamp (e.nsym - 1)) (if e.ul then 3 else -2) e.ul (s.sectCar e)) ≤ 0)

/-- Entries whose last symbol has passed leave the table, and store data of symbols past stage 1 leave the store (R362, R364). -/
def State.sectPurge (s : State) : State :=
  let se := s.fh.sects.filter (fun e => !s.sectOver e)
  let st := s.fh.store.filter (fun c => decide (0 < s.rel (stStart (stAdd c.stamp (-2)))))
  if se.length = s.fh.sects.length && st.length = s.fh.store.length then s
  else ({ s with fh := { s.fh with sects := se, store := st } }).showSects

/-- The sections of a flow that match a U-plane section (R363): its ID, the symbol. -/
def State.matching (s : State) (f id stamp : Nat) : List Sect :=
  s.fh.sects.filter (fun e => e.flow = f && e.id = id && e.covers stamp)

/-- An entry keeps the symbols whose stage 0 has begun, T₍N−4₎; in the uplink, whose stage 4 has, T′₍N+2₎ (R363). -/
def State.sectKeep (s : State) (e : Sect) : Sect :=
  let begun (i : Nat) : Bool := decide (s.rel (s.tick (e.stamp i) (if e.ul then 2 else -4) e.ul (s.sectCar e)) ≤ 0)
  { e with nsym := ((List.range e.nsym).filter begun).length }

/-- A new entry replaces live ones of its flow and section ID for what their stages have not begun (R363). -/
def State.sectReplace (s : State) (f id : Nat) : State :=
  let l := s.fh.sects.map (fun (e : Sect) => if e.flow = f && e.id = id then s.sectKeep e else e)
  { s with fh := { s.fh with sects := l.filter (fun (e : Sect) => e.nsym != 0) } }

/-! ### The C-plane (R356, R362, R367) -/

/-- Downlink and uplink section counters and events of a flow (R367): EARLY or LATE. -/
def State.offWindow (s : State) (g f : Nat) (late : Bool) (stamp : Nat) : State :=
  let k := if late then Dc.late else Dc.early
  ((s.drop g k).incSat (R.FH_FLOW f 4) (if late then F.FH_FLOW_LATE else F.FH_FLOW_EARLY)).raiseFrame (if late then Ev.FH_LATE else Ev.FH_EARLY) f
    (some (s.flOwner f)) [f, stamp]

/-- Widths that BFP may have (R356). -/
def bfpWidth (w : Nat) : Bool := decide (7 ≤ w) || w = 0

/-- The method and width of U-plane data are supported (R356). -/
def compOk (meth width : Nat) : Bool := (meth = 0 && width = 0) || (meth = 1 && bfpWidth width)

/-- An extension is supported (R356): weights on a type 1 section with a supported method. -/
def extOk (type : Nat) (e : CExt) : Bool :=
  match e with
  | .weights meth width _ _ => type = 1 && compOk meth.toNat width.toNat
  | .spans _ => true
  | .other _ => false

/-- Does a section pass the checks of its type (R356)? Type 3 is for the uplink, with the carrier's numerology, FFT size and normal
cyclic prefix. -/
def State.sectTypeOk (s : State) (c : Nat) (m : CMsg) (x : CSection) : Bool :=
  !x.rb && x.reMask = 0xFFF &&
    ((m.type = 1 && m.filter = 0) ||
      (m.type = 3 && m.ul && (m.filter = 0 || m.filter = Config.filterIndex c) && m.frame.1.toNat = s.carNum c &&
        m.frame.2.1.toNat = s.get (R.BF_CAR_STAT c) F.BF_CAR_STAT_LOGN && m.frame.2.2))

/-- The spans of a section (R356): those of extension 6, else its range; a count of 0 goes to the carrier's last PRB. -/
def State.sectPrbs (s : State) (c : Nat) (x : CSection) : List (Nat × Nat) :=
  match x.exts.find? (fun e => match e with
    | .spans _ => true
    | _ => false) with
  | some (.spans l) => l.map (fun y => (y.1.toNat, y.2.toNat))
  | _ => [(x.prb.toNat, if x.nprb = 0 then s.get (R.BF_CAR_CFG c) F.BF_CAR_CFG_NRB - x.prb.toNat else x.nprb.toNat)]

/-- One C-plane weight component as Q1.14 (R365, R389): its mantissa times 2^e, taken as Q1.14, or as Q0.15 and shifted right by one
with rounding. -/
def State.weightComp (s : State) (wfmt : Bool) (meth width exp : Nat) (m : BitVec 16) : Int × State :=
  let v := satS 16 (signed (iqWidth width) m.toNat * ((if meth = 1 then 2 ^ exp else 1 : Nat) : Int))
  if wfmt then (v, s) else s.divFree v 2

/-- The 64 cells of a vector from a section's weights (R249): one for each path of the carrier's mask in ascending order, zero
elsewhere. -/
def State.weightCells (s : State) (c : Nat) (wfmt : Bool) (meth width exp : Nat) (w : List (BitVec 16 × BitVec 16)) : List Byte × State :=
  let ps := bitsOf (s.carPmask c) 64
  (List.range 64).foldl (fun (a : List Byte × State) p =>
    if ps.contains p then
      let v := nth w (ps.findIdx (· = p)) (0, 0)
      let i := a.2.weightComp wfmt meth width exp v.1
      let q := i.2.weightComp wfmt meth width exp v.2
      (a.1 ++ leBytes 2 (unsigned 16 i.1) ++ leBytes 2 (unsigned 16 q.1), q.2)
    else (a.1 ++ leBytes 4 0, a.2)) ([], s)

/-- Bind a section's weights (R249, R250): none when the section is dropped. -/
def State.bindWeights (s : State) (c owner : Nat) (ul : Bool) (stamp f beam : Nat) (meth width exp : Nat) (w : List (BitVec 16 × BitVec 16)) :
    State × Bool :=
  match s.poolOf c with
  | none => (s.dropSection c owner stamp, false)
  | some r =>
    let cells := s.weightCells c (s.flag (R.FH_FLOW f 1) F.FH_FLOW_WFMT) meth width exp w
    match cells.2.poolBind r beam cells.1 with
    | none => ((s.count (R.BF_POOL_FULL_CNT owner)).raiseOnce Ev.BF_POOL_FULL c stamp (some owner) [c], false)
    | some t =>
      if s.rel (s.tick stamp (if ul then 2 else -3) ul c) ≤ 0 then
        ((t.count (R.BF_WEIGHT_LATE_CNT owner)).raiseTo Ev.BF_WEIGHT_LATE (some owner) [c, stamp], false)
      else (t, true)

/-- The weights a section carries. -/
def secWeights (x : CSection) : Option (Nat × Nat × Nat × List (BitVec 16 × BitVec 16)) :=
  x.exts.findSome? (fun e => match e with
    | .weights m w e l => some (m.toNat, w.toNat, e.toNat, l)
    | _ => none)

/-- One section of a C-plane message (R356, R362, R363, R367). -/
def State.cSection (s : State) (g f : Nat) (m : CMsg) (stamp : Nat) (x : CSection) : State :=
  let c := s.flCar f
  let o := s.flOwner f
  if !s.sectTypeOk c m x then s.drop g Dc.sectType
  else if !x.exts.all (extOk m.type.toNat) then s.drop g Dc.ext
  else if 16384 ≤ x.beam.toNat then s.drop g Dc.beam
  else if s.before (shiftBy (s.tick stamp (if m.ul then 0 else -5) m.ul c) (-(cyclesPerMs : Int))) m.age1.toNat then s.offWindow g f false stamp
  else if !s.inTime g (s.tick stamp (if m.ul then 2 else -3) m.ul c) m.age2.toNat then s.offWindow g f true stamp
  else
    let t := (s.sectPurge).sectReplace f x.id.toNat
    if t.get (R.FH_SECT_QUOTA o) F.FH_SECT_QUOTA_QUOTA ≤ (t.fh.sects.filter (fun e => e.ctx = o)).length then
      ((s.sectPurge).drop g Dc.full).raiseFrame Ev.FH_FULL f (some o) [f]
    else
      let b : State × Bool := match secWeights x with
        | some (me, wi, ex, w) => t.bindWeights c o m.ul stamp f x.beam.toNat me wi ex w
        | none => (t, true)
      if b.2 then
        let e : Sect := ⟨f, o, m.ul, s.carNum c, x.id.toNat, symIndex stamp, x.nsym.toNat, s.sectPrbs c x, x.beam.toNat⟩
        ({ b.1 with fh := { b.1.fh with sects := b.1.fh.sects ++ [e] } }).showSects
      else b.1.showSects

/-- The stamp of a message in its carrier's numerology, if its slot and symbol are in range (R356). -/
def State.msgStamp (s : State) (c stamp : Nat) : Option Nat :=
  let v := stamp % 2 ^ 21 + s.carNum c * 2 ^ 21
  if stValid v then some v else none

/-- What a C-plane message of flow `f` does at its stamp, if that is one. -/
def State.cPlaneAt (s : State) (g : Nat) (m : CMsg) (f : Nat) : Option Nat → Host.Outcome State Fault Refusal
  | none => .next (s.drop g Dc.malformed)
  | some st =>
    if s.flPathm f then .next (s.drop g Dc.noFlow)
    else if !s.flowRuns f then .next (s.drop g Dc.mode)
    else .next (m.sections.foldl (fun (t : State) x => t.cSection g f m st x) (s.flowSeq f m.seq.toNat))

/-- What a C-plane message does for the flow it belongs to, if there is one. -/
def State.cPlaneOf (s : State) (g : Nat) (m : CMsg) : Option Nat → Host.Outcome State Fault Refusal
  | none => .next (s.drop g Dc.noFlow)
  | some f => s.cPlaneAt g m f (s.msgStamp (s.flCar f) m.stamp.toNat)

/-- A C-plane message (R355, R356, R359, R362): what its frame's row has let through. -/
def execCPlaneMessage (g : Fin 4) (m : CMsg) (s : State) : Host.Outcome State Fault Refusal :=
  if !(s.role g = 1 && s.mine m.id.toNat true) then .next s
  else if m.version != 1 then .next (s.drop g Dc.malformed)
  else s.cPlaneOf g m (s.flowFind g m.id.toNat m.ul)

/-! ### Compression (R365) -/

/-- The bits of bytes, most significant bit first. -/
def bitsMsb (l : List Byte) : List Bool := l.flatMap (fun b => (List.range 8).map (fun i => b.getLsbD (7 - i)))

/-- A number from bits, first bit most significant. -/
def numMsb (l : List Bool) : Nat := l.foldl (fun n b => 2 * n + (if b then 1 else 0)) 0

/-- The bits of a number of `w` bits, most significant first, and bytes from such bits. -/
def toMsb (w n : Nat) : List Bool := (List.range w).map (fun i => n.testBit (w - 1 - i))
def bytesMsb (n : Nat) (l : List Bool) : List Byte := (List.range n).map (fun i => BitVec.ofNat 8 (numMsb ((l.drop (8 * i)).take 8)))

/-- Bytes of 12 samples (R365). -/
def prbBytes (meth w : Nat) : Nat := if meth = 1 then 1 + 3 * w else 48

/-- Decompress 12 samples (R365): the samples, and whether one saturated. -/
def decompress (meth w : Nat) (data : List Byte) : List (Int × Int) × Bool :=
  let e := if meth = 1 then (nth data 0 0).toNat % 16 else 0
  let bits := bitsMsb (if meth = 1 then data.drop 1 else data)
  let comp (i : Nat) : Int := signed w (numMsb ((bits.drop (w * i)).take w)) * ((2 ^ e : Nat) : Int)
  ((List.range 12).map (fun i => (satS 16 (comp (2 * i)), satS 16 (comp (2 * i + 1)))),
    (List.range 24).any (fun i => satS 16 (comp i) != comp i))

/-- A component shifted right by e with round half up (R365). -/
def shiftUp (v : Int) (e : Nat) : Int := if e = 0 then v else (v + ((2 ^ (e - 1) : Nat) : Int)) / ((2 ^ e : Nat) : Int)

/-- The components of samples. -/
def comps (x : List (Int × Int)) : List Int := x.flatMap (fun c => [c.1, c.2])

/-- The exponent of a PRB: the smallest for which every component fits in m bits (R365). -/
def bfpExp (m : Nat) (x : List (Int × Int)) : Nat :=
  ((List.range 16).find? (fun e => (comps x).all (fun v => satS m (shiftUp v e) = shiftUp v e))).getD 15

/-- Compress 12 samples for the uplink (R365). -/
def compress (meth w : Nat) (x : List (Int × Int)) : List Byte :=
  if meth = 1 then
    let e := bfpExp w x
    BitVec.ofNat 8 e :: bytesMsb (3 * w) ((comps x).flatMap (fun v => toMsb w (unsigned w (shiftUp v e))))
  else bytesMsb 48 ((comps x).flatMap (fun v => toMsb 16 (unsigned 16 v)))

/-! ### The U-plane (R363 to R367) -/

/-- Put 12 samples into the symbol store; what stood there for the same flow, symbol and PRB is replaced. -/
def State.storePut (s : State) (k : Cell) : State :=
  { s with fh := { s.fh with store := k :: s.fh.store.filter (fun c => !(c.flow = k.flow && c.stamp = k.stamp && c.prb = k.prb)) } }

/-- Decompression saturated: FH_DECOMP_SAT once per flow and symbol (R365). -/
def State.decompSat (s : State) (f stamp : Nat) : State :=
  if s.fh.sat.contains (f, stamp) then s
  else
    let fh := { s.fh with sat := (f, stamp) :: s.fh.sat.filter (fun x => x.1 != f) }
    { s with fh := fh }.raiseTo Ev.FH_DECOMP_SAT (some (s.flOwner f)) [f, stamp]

/-- Decompress and store block `i` of data. -/
def State.place (s : State) (f stamp sect prb meth w i : Nat) (data : List Byte) : State :=
  let n := prbBytes meth w
  let d := decompress meth w ((data.drop (n * i)).take n)
  let t := s.storePut ⟨s.flCar f, f, s.flLayer f, stamp, prb, sect, d.1⟩
  if d.2 then t.decompSat f stamp else t

/-- The window of downlink data (R367): the check every U-plane section takes. -/
def State.dlWindow (s : State) (g f stamp age1 age2 : Nat) (ok : State → State) : State :=
  if s.before (s.tick stamp (-5) false 0) age1 then s.offWindow g f false stamp
  else if !s.inTime g (s.tick stamp (-3) false 0) age2 then s.offWindow g f true stamp
  else ok s

/-- One U-plane section (R356, R363, R365, R367). With symInc the symbol is the next one (R356). -/
def State.uSection (s : State) (g f : Nat) (m : UMsg) (stamp : Nat) (x : USection) : State :=
  let c := s.flCar f
  let cm : Nat × Nat := match x.comp with
    | some (me, wi) => (me.toNat, wi.toNat)
    | none => (s.get (R.FH_FLOW f 1) F.FH_FLOW_METH, s.get (R.FH_FLOW f 1) F.FH_FLOW_IQW)
  let w := iqWidth cm.2
  let n := if x.nprb = 0 then s.get (R.BF_CAR_CFG c) F.BF_CAR_CFG_NRB - x.prb.toNat else x.nprb.toNat
  if x.rb || m.filter != 0 then s.drop g Dc.sectType
  else if !compOk cm.1 cm.2 then s.drop g Dc.comp
  else s.dlWindow g f stamp m.age1.toNat m.age2.toNat (fun t =>
    let l := t.matching f x.id.toNat stamp
    let hit (i : Nat) : Bool := l.any (fun e => e.hasPrb (x.prb.toNat + i))
    let u := (List.range n).foldl (fun (u : State) i => if hit i then u.place f stamp x.id.toNat (x.prb.toNat + i) cm.1 w i x.data else u) t
    if (List.range n).all hit then u
    else ((u.drop g Dc.noCp).incSat (R.FH_FLOW f 5) F.FH_FLOW_NOCP).raiseFrame Ev.FH_NOCP f (some (s.flOwner f)) [f, stamp])

/-- Sections of a message in order; each symInc moves on to the next symbol. -/
def State.uSections (s : State) (g f : Nat) (m : UMsg) (stamp : Nat) : List USection → State
  | [] => s
  | x :: l =>
    let st := if x.symInc then stAdd stamp 1 else stamp
    State.uSections (s.uSection g f m st x) g f m st l

/-- What a U-plane or path-mode message of flow `f` does at its stamp, if that is one. -/
def State.uPlaneAt (s : State) (g : Nat) (m : UMsg) (f : Nat) : Option Nat → Host.Outcome State Fault Refusal
  | none => .next (s.drop g Dc.malformed)
  | some st =>
    match m.body with
    | .sections l =>
      if s.flPathm f then .next (s.drop g Dc.malformed)
      else if !s.flowRuns f then .next (s.drop g Dc.mode)
      else .next ((s.sectPurge.flowSeq f m.seq.toNat).uSections g f m st l)
    | .samples ofs n wi me data =>
      if !s.flPathm f then .next (s.drop g Dc.malformed)
      else if !s.flowRuns f then .next (s.drop g Dc.mode)
      else
        let t := s.sectPurge.flowSeq f m.seq.toNat
        if !compOk me.toNat wi.toNat then .next (t.drop g Dc.comp)
        else .next (t.dlWindow g f st m.age1.toNat m.age2.toNat (fun u =>
          (List.range (n.toNat / 12)).foldl (fun (u : State) i =>
            u.place f st 0 (ofs.toNat + 12 * i) me.toNat (iqWidth wi.toNat) i data) u))

/-- What a U-plane or path-mode message does for the flow it belongs to, if there is one. -/
def State.uPlaneOf (s : State) (g : Nat) (m : UMsg) : Option Nat → Host.Outcome State Fault Refusal
  | none => .next (s.drop g Dc.noFlow)
  | some f => if s.flUl f then .next (s.drop g Dc.noFlow) else s.uPlaneAt g m f (s.msgStamp (s.flCar f) m.stamp.toNat)

/-- A U-plane or path-mode message (R355, R356, R359, R363, R366): what its frame's row has let through. -/
def execUPlaneMessage (g : Fin 4) (m : UMsg) (s : State) : Host.Outcome State Fault Refusal :=
  if !(s.role g = 1 && s.mine m.id.toNat false) then .next s
  else if (match m.body with
    | .sections _ => m.version != 1
    | .samples _ n .. => n.toNat % 12 != 0) then .next (s.drop g Dc.malformed)
  else s.uPlaneOf g m (s.flowFind g m.id.toNat m.ul)

/-! ### Flows end (R361) -/

/-- A flow is revoked or disabled (R361): its sections go, messages not launched are discarded uncounted, data of symbols whose stage
0 has not begun go, FH_FLOW_REVOKED goes to the former owner. -/
def State.flowEnd (s : State) (f : Nat) : State :=
  let mine (x : TxFrame) : Bool := match x.kind with
    | .uplink fl .. => fl = f
    | _ => false
  let fh := { s.fh with
    sects := s.fh.sects.filter (fun e => e.flow != f)
    tx := s.fh.tx.filter (fun x => !mine x)
    store := s.fh.store.filter (fun c => !(c.flow = f && decide (0 < s.rel (stStart (stAdd c.stamp (-4)))))) }
  ({ s with fh := fh }.showSects).raiseTo Ev.FH_FLOW_REVOKED (some (s.flOwner f)) [f]

/-! ### Reservations (R364, R372, R373) -/

/-- Bytes a beamformed carrier reserves in the symbol store (R364). -/
def State.storeNeed (s : State) (c : Nat) : Nat :=
  if s.carPathMode c then 0 else 2 * s.get (R.BF_CAR_STAT c) F.BF_CAR_STAT_LDL * 12 * s.get (R.BF_CAR_CFG c) F.BF_CAR_CFG_NRB * 4

/-- PRBs, or blocks of 12 samples, that a flow sends in its longest symbol: every PRB, or every sample of a long symbol (R366,
R372). -/
def State.flowPrbs (s : State) (f : Nat) : Nat :=
  let c := s.flCar f
  if s.flPathm f then (longSym (s.carNum c) * 4 / 2 ^ s.get (R.DFE_CAR_CFG c) F.DFE_CAR_CFG_LOGD + 11) / 12
  else s.get (R.BF_CAR_CFG c) F.BF_CAR_CFG_NRB

/-- PRBs in one message of at most MTU bytes, headers of 18 bytes included (R372). -/
def State.perMsg (s : State) (g f : Nat) : Nat :=
  max 1 ((s.get (R.FH_PORT_CFG g) F.FH_PORT_CFG_MTU - 18) / prbBytes (s.get (R.FH_FLOW f 1) F.FH_FLOW_METH) (iqWidth (s.get (R.FH_FLOW f 1) F.FH_FLOW_IQW)))

/-- Bytes of a message on the wire of a port (R372): 42 bytes more on Ethernet; on Gale the SOM block and the padding (R328,
R333). -/
def State.msgWire (s : State) (g n : Nat) : Nat := if s.gale g then 16 + ((n - 13) + 15) / 16 * 16 else wireBytes n

/-- Wire bytes of `n` PRBs of a flow on a port. -/
def State.prbsWire (s : State) (g f n : Nat) : Nat :=
  let b := prbBytes (s.get (R.FH_FLOW f 1) F.FH_FLOW_METH) (iqWidth (s.get (R.FH_FLOW f 1) F.FH_FLOW_IQW))
  let k := s.perMsg g f
  n / k * s.msgWire g (k * b + 18) + (if n % k = 0 then 0 else s.msgWire g (n % k * b + 18))

/-- Wire bytes per symbol that a hard uplink flow sends on a port (R372). -/
def State.flowWire (s : State) (g f : Nat) : Nat :=
  let w1 := R.FH_FLOW f 1
  let n := s.flowPrbs f
  let split := s.get w1 F.FH_FLOW_SPLIT
  if s.flag w1 F.FH_FLOW_SPLIT_EN then
    (if s.get w1 F.FH_FLOW_PORT = g then s.prbsWire g f (min n split) else 0) + (if s.get w1 F.FH_FLOW_PORT2 = g then s.prbsWire g f (n - split) else 0)
  else if s.get w1 F.FH_FLOW_PORT = g then s.prbsWire g f n else 0

/-- The hard reservation of a port over the carriers of `cars`, as a fraction (R372, R373), in units where P is in cycles of 120 kHz's
period: Σ b / (R × P) + forwarded rate / R + OFS / P. -/
def State.portLoad (s : State) (g : Nat) (cars : List Nat) : Nat × Nat :=
  let r := s.portRate g
  -- b bytes in P cycles at r.1/r.2 Mbit/s: b × 8 × 491.52 × r.2 / (P × r.1); over the common period 35,072
  let flows := ((List.range 1024).filter (fun f => s.flEn f && s.flUl f && s.flHard f && cars.contains (s.flCar f)))
  let own := (flows.map (fun f => s.flowWire g f * 2 ^ s.carNum (s.flCar f))).sum * 8 * 49152 * r.2
  let fwd := nth s.fh.fwdOut g 0 * r.2 * 100 * 35072
  let pmin := cars.foldl (fun m c => max m (s.carNum c)) 0
  let ofs := s.get (R.FH_LAUNCH g) F.FH_LAUNCH_OFS * (if cars.isEmpty then 0 else 2 ^ pmin) * 100 * r.1
  (own + fwd + ofs, 100 * 35072 * r.1)

/-- The reservation keeps within 0.98 (R373). -/
def State.loadOk (s : State) (g : Nat) (cars : List Nat) : Bool :=
  let l := s.portLoad g cars
  decide (l.1 * 100 ≤ 98 * l.2)

/-- FH_RESV shows the sums in 0.01 % (R373); how they are rounded is open. -/
def State.showResv (s : State) : State :=
  (List.range 4).foldl (fun (t : State) g =>
    let l := t.portLoad g ((List.range 16).filter t.carRun)
    let q := t.divFree ((l.1 * 10000 : Nat) : Int) (max l.2 1)
    q.2.put (R.FH_RESV g) F.FH_RESV_HARD q.1.toNat) s

end Sys2Proof.Machine
end

