-- ==== Sys2Proof/Machine/Array.lean ====
section
/-! DEFINITION. Lent windows and their borrowers (R84 to R87) and array self-calibration (R167 to R175, R247). -/

namespace Sys2Proof.Machine

/-! ### Hyrno's own entries (R247, R473, R475) -/

/-- Hyrno stages an entry: it assigns `SEQ` (R476). `target` is in the time of `State.now`; `held` marks an entry from the
32 held back. -/
def State.stageEntry (s : State) (ctx target : Nat) (w : List Word) (held : Bool) : State :=
  let w7 : Word := BitVec.ofNat 32 (s.hy.nextSeq % 2 ^ 16)
  { s with hy := { s.hy with staged := s.hy.staged ++ [⟨ctx, target, w.set 7 w7, held⟩], nextSeq := (s.hy.nextSeq + 1) % 2 ^ 16 } }

/-- The first slot start of a numerology at or after an instant of the count: its distance from now and its stamp. -/
def State.slotFrom (s : State) (num d : Nat) : Nat × Nat :=
  let x := s.tlNow + d
  let m := symAt num x / 14 * 14
  let m := if symStart num m < x then m + 14 else m
  (symStart num m - s.tlNow, stampOf num m)

/-- 128 or fewer entries share every issue instant (R69): of the slot starts from an instant on, the first at which an entry finds room. -/
def State.slotRoom (s : State) (num d : Nat) (mk : Nat → List Word) : Nat × Nat :=
  let l := (List.range 16).map (fun i => s.slotFrom num (d + i * (491520 / 2 ^ num)))
  (l.find? (fun c => !s.instantFull (mk c.2))).getD (s.slotFrom num d)

/-- Entries of a context staged, and the room that the quota leaves for one of Hyrno's own (R475). -/
def State.stagedOf (s : State) (x : Nat) : Nat := (s.hy.staged.filter (fun (e : Staged) => e.ctx = x)).length
def State.ownRoom (s : State) (x : Nat) : Bool :=
  decide (s.partUsed x + s.stagedOf x < s.get (R.TL_PART_QUOTA x) F.TL_PART_QUOTA_QUOTA)

/-- Hyrno stages an entry of its own at the first slot start `d` or more away that has room (R69, R475). -/
def State.stageOwnAt (s : State) (x num d : Nat) (mk : Nat → List Word) : State :=
  if !s.ownRoom x then s
  else
    let c := s.slotRoom num d mk
    s.stageEntry x (s.now + c.1) (mk c.2) true

/-- A WPAGE of a carrier is staged or pending with a target within 5 ms (R247). -/
def State.pageSoon (s : State) (c : Nat) : Bool :=
  s.tl.pend.any (fun i => s.eAct i = Act.wpage && s.eCar i = c && decide (s.rel (stStart (s.eTgt i)) ≤ 2457600)) ||
    s.hy.staged.any (fun (e : Staged) => decide (e.target ≤ s.now + 2457600) && (nth e.words 1 0).toNat % 2 ^ 8 = Act.wpage &&
      (nth e.words 1 0).toNat / 2 ^ 8 % 16 = c)

/-- After CV_ACAL_DONE Hyrno commits a WPAGE with `PARAM` = 0 for every running beamformed carrier that has none within 5 ms
(R247): at the first slot start at least TL_LEAD + 1 ms away. -/
def State.acalPages (s : State) : State :=
  (List.range 16).foldl (fun (t : State) c =>
    match t.carOwner c with
    | some x =>
      if t.carRun c && t.carBeam c && !t.pageSoon c then
        t.stageOwnAt x (t.carNum c) (t.tlLead (t.carNum c) + 491520) (fun st => mkEntry st x Act.wpage c 0 0 1 0 0 0 0 0)
      else t
    | none => t) s

/-! ### Array results (R171 to R173, R247) -/

/-- Word of the correction table: path, direction (0 TX, 1 RX), subband (R178). -/
def acWord (bank p d k : Nat) : Nat := R.CV_ACBANK bank (32 * p + 16 * d + k)

/-- The result may be written: every running beamformed carrier uses the newest bank, so none reads the other (R247). -/
def State.acalFree (s : State) : Bool :=
  s.bf.acFrom.isEmpty && (List.range 16).all (fun c => !(s.carRun c && s.carBeam c) ||
    s.get (R.BF_CAR_STAT c) F.BF_CAR_STAT_ACBANK = s.get R.CV_ACAL_STATUS F.CV_ACAL_STATUS_BANK)

/-- Completion bytes of CAL_SWEEP: CV_ACAL_STATUS at 16 and CV_ACAL_RESID at 20. -/
def State.sweepResult (s : State) : Nat := resN 16 4 (s.rd R.CV_ACAL_STATUS).toNat + resN 20 4 (s.rd R.CV_ACAL_RESID).toNat

/-- An accepted result goes into the inactive bank, which becomes the newest (R173). -/
def State.acalStage (s : State) (words : List Nat) : State :=
  let b := 1 - s.get R.CV_ACAL_STATUS F.CV_ACAL_STATUS_BANK
  let t := (List.range 2048).foldl (fun (t : State) j => t.wrN (R.CV_ACBANK b j) (nth words j 0)) s
  ((t.put R.CV_ACAL_STATUS F.CV_ACAL_STATUS_BANK b).put R.CV_ACAL_STATUS F.CV_ACAL_STATUS_STATE 3).raise Ev.CV_ACAL_DONE
    [s.get R.CV_ACAL_STATUS F.CV_ACAL_STATUS_POINT]

/-- CV_ACAL_DONE has been raised: the result is journalled, a CAL_SWEEP completes, and WPAGEs follow (R173, R247). -/
def State.acalDone (s : State) (words : List Nat) (point : Nat) : State :=
  let t := (s.acalStage words)
  let t := (t.journalObj (resultPlace point) ((words.map (leBytes 4)).flatten)).2
  (t.finish (fun u => u = .sweep) St.ok 0 t.sweepResult).acalPages

/-- The result that waits is written once every carrier has moved to the newest bank (R247). -/
def execAcalResultWrite (s : State) : Host.Outcome State Fault Refusal :=
  match s.cv.acalWait with
  | some (w, p) => when_ s.acalFree (({ s with cv := { s.cv with acalWait := none } }).acalDone w p) s
  | none => .next s

/-! ### The solve (R170 to R172) -/

/-- The reference point that serves an LO: the first of the journal whose centre lies within 25 MHz of it (R170). Its subbands are 50 MHz
wide, so that a measured subband's nearest is that of its own number. -/
def State.pointFor (s : State) (lo : Nat) : Option Nat :=
  (List.range 4).find? (fun i => match s.objData (pointPlace i) with
    | some d => decide (leNum (d.take 4) ≤ lo + 25000) && decide (lo ≤ leNum (d.take 4) + 25000)
    | none => false)

/-- c(r, p) of a pair in a subband at the point that serves its LO: none where `r` is no neighbour of `p` there (R167). -/
def State.refWord (s : State) (p r k : Nat) : Option Word :=
  match (s.pointFor (s.lo (quadOf p))).bind (fun i => s.objData (pointPlace i)) with
  | none => none
  | some d => ((List.range 8).find? (fun n => (nth d (4 + 8 * p + n) 0).toNat = r)).map (fun n =>
      BitVec.ofNat 32 (leNum ((d.drop (516 + 64 * (8 * p + n) + 4 * k)).take 4)))

/-- A row of the solve in a subband: transmitting path, receiving path, real and imaginary part of y. -/
abbrev Row := Nat × Nat × Int × Int

/-- The pairs that the sweep measured. -/
def State.measured (s : State) : List (Nat × Nat) := (s.cv.meas.map (fun e => (e.tx, e.rx))).eraseDups

/-- The rows of a subband (R171): y = ln(m / c), its angle wrapped about the former a_p + b_r. -/
def State.rowsOf (s : State) (k : Nat) : List Row :=
  s.measured.filterMap (fun e => (s.refWord e.1 e.2 k).map (fun c =>
    let a := nth s.cv.lastAb (128 * k + e.1) (0, 0)
    let b := nth s.cv.lastAb (128 * k + 64 + e.2) (0, 0)
    let y := Config.lnRatio ((s.cv.meas.filter (fun x => x.tx = e.1 && x.rx = e.2)).map (fun x => nth x.m k 0)) c (a.1 + b.1, a.2 + b.2)
    (e.1, e.2, y.1, y.2)))

/-- Residual of a row under a solution of 64 a_p and 64 b_r. -/
def residual (sol : List (Int × Int)) (x : Row) : Int × Int :=
  let a := nth sol x.1 (0, 0)
  let b := nth sol (64 + x.2.1) (0, 0)
  (x.2.2.1 - a.1 - b.1, x.2.2.2 - a.2 - b.2)

/-- A residual beyond 1.5 dB or 10° drops its row (R171): 0.1727 and 0.1745 in 2⁻²⁴. -/
def rowDropped (d : Int × Int) : Bool := decide (1727 * 2 ^ 24 < 10000 * d.1.natAbs) || decide (1745 * 2 ^ 24 < 10000 * d.2.natAbs)

/-- A subband solved (R171): the rows that remain and those dropped after the first solve, and the second solution. -/
structure Solved where
  kept : List Row
  gone : List Row
  sol : List (Int × Int)

/-- The procedure of R171 in a subband. -/
def solveBand (rows : List Row) : Solved :=
  let one := Config.leastSquares rows
  let kept := rows.filter (fun x => !rowDropped (residual one x))
  ⟨kept, rows.filter (fun x => rowDropped (residual one x)), Config.leastSquares kept⟩

/-- The sixteen subbands solved. -/
def State.solve (s : State) : List Solved := (List.range 16).map (fun k => solveBand (s.rowsOf k))

/-- Sum of squares of the residuals that remain in a subband: magnitude and phase, in 2⁻⁴⁸. -/
def Solved.squares (b : Solved) : Nat × Nat :=
  b.kept.foldl (fun m x => let d := residual b.sol x; (m.1 + d.1.natAbs ^ 2, m.2 + d.2.natAbs ^ 2)) (0, 0)

/-- 20 / ln 10 dB to a neper, and 180 / π degrees to a radian, in 10⁻⁹. -/
def dbUnit : Nat := 8685889638
def degUnit : Nat := 57295779513

/-- The result passes (R172): in every subband at most 0.5 dB and 4° RMS. -/
def solveOk (l : List Solved) : Bool :=
  l.all (fun b => decide (b.squares.1 * dbUnit ^ 2 ≤ 500000000 ^ 2 * b.kept.length * 2 ^ 48) &&
    decide (b.squares.2 * degUnit ^ 2 ≤ 4000000000 ^ 2 * b.kept.length * 2 ^ 48))

/-- √(num / den) in a 16-bit field; the rounding is open (log entry 100). -/
def rootField (num den : Nat) : Nat :=
  let n := (List.range 16).foldl (fun n i => let m := n + 2 ^ (15 - i); if m * m * den ≤ num then m else n) 0
  if n * n * den != num && Config.roundUp num den then min 65535 (n + 1) else n

/-- The worst subband's RMS residuals as CV_ACAL_RESID holds them (R183): 0.001 dB and 0.01°. -/
def solveRms (l : List Solved) : Nat × Nat :=
  l.foldl (fun m b => (max m.1 (rootField (b.squares.1 * dbUnit ^ 2) (max 1 b.kept.length * 2 ^ 48 * 10 ^ 12)),
    max m.2 (rootField (b.squares.2 * degUnit ^ 2) (max 1 b.kept.length * 2 ^ 48 * 10 ^ 14)))) (0, 0)

/-- Pairs used and pairs dropped (R183; log entry 101): a pair is used when a row of it remains in a subband, dropped when one is dropped. -/
def solvePairs (f : Solved → List Row) (l : List Solved) : Nat := (((l.map f).flatten.map (fun (x : Row) => (x.1, x.2.1))).eraseDups).length

/-- More than 10 % of the rows are dropped (R172). -/
def solveSuspect (l : List Solved) : Bool :=
  decide ((l.map (fun b => b.kept.length + b.gone.length)).sum < 10 * (l.map (fun b => b.gone.length)).sum)

/-- A path has fewer than two rows left in a role (R172), in some subband (log entry 101). -/
def solveLost (l : List Solved) (p : Nat) : Bool :=
  l.any (fun b => decide ((b.kept.filter (fun x => x.1 = p)).length < 2) || decide ((b.kept.filter (fun x => x.2.1 = p)).length < 2))

/-- A correction in a subband (R171): exp(−a_p) over the largest magnitude, exp(−b_r) over the mean magnitude, of the paths with rows. -/
def solveWord (b : Solved) (p : Nat) (rx : Bool) : Nat :=
  let i := if rx then 64 + p else p
  let mine := ((List.range 64).filter (fun q => b.kept.any (fun x => (if rx then x.2.1 else x.1) = q))).map (fun q =>
    -(nth b.sol (if rx then 64 + q else q) (0, 0)).1)
  let norm := if rx then Config.lnMeanExp mine else match mine with
    | [] => 0
    | x :: l => l.foldl max x
  let a := nth b.sol i (0, 0)
  (Config.expWord (-a.1 - norm) (-a.2)).toNat

/-- The words of a result, in the order of the table: a lost path keeps its corrections of both roles (R172). -/
def State.acalWords (s : State) (l : List Solved) : List Nat :=
  let b := s.get R.CV_ACAL_STATUS F.CV_ACAL_STATUS_BANK
  (List.range 2048).map (fun j =>
    if !s.avail (j / 32) || solveLost l (j / 32) then (s.rd (R.CV_ACBANK b j)).toNat
    else solveWord (nth l (j % 16) ⟨[], [], []⟩) (j / 32) (j / 16 % 2 = 1))

/-- The array solve finishes (R171, R172). The DETAIL of FAILED is free (log entry 11). -/
def execAcalSolveDone (_rows _drop _db _deg _words _lost : Unit) (s : State) : Host.Outcome State Fault Refusal :=
  match s.cv.sweepJob with
  | none => .next s
  | some j =>
    let l := s.solve
    let (db, deg) := solveRms l
    let drop := solvePairs Solved.gone l
    let t := ((s.put R.CV_ACAL_STATUS F.CV_ACAL_STATUS_ROWS (solvePairs Solved.kept l)).put R.CV_ACAL_STATUS F.CV_ACAL_STATUS_DROP drop)
    let t := (t.put R.CV_ACAL_RESID F.CV_ACAL_RESID_RMS_DB db).put R.CV_ACAL_RESID F.CV_ACAL_RESID_RMS_DEG deg
    let t := { t with cv := { t.cv with sweepJob := none, meas := [], sweeping := false } }
    let t := if solveSuspect l then t.raise Ev.CV_ACAL_SUSPECT [drop] else t
    if !solveOk l then
      let t := ((t.put R.CV_ACAL_STATUS F.CV_ACAL_STATUS_STATE 0).raise Ev.CV_ACAL_REJECT [db, deg]).dropJob j
      .next ((t.fresh 32).2.finish (fun u => u = .sweep) St.failed (t.fresh 32).1.toNat t.sweepResult)
    else
      let w := s.acalWords l
      let p := t.get R.CV_ACAL_STATUS F.CV_ACAL_STATUS_POINT
      let t := { t with cv := { t.cv with lastAb := (l.map (fun b => (List.range 128).map (fun i => nth b.sol i (0, 0)))).flatten } }
      let t := ((List.range 64).filter (fun q => s.avail q && solveLost l q)).foldl (fun (t : State) q => t.raise Ev.CV_ACAL_PATH_LOST [q]) t
      let t := t.signalJob j 0
      .next (if t.acalFree then t.acalDone w p else { t with cv := { t.cv with acalWait := some (w, p) } })

/-! ### Steps of kind 2 (R169 to R171) -/

/-- The paths a sweep measures: available, on a quadrant with a usable reference point (R170, R171). -/
def State.sweepPaths (s : State) : List Nat := (List.range 64).filter (fun p => s.avail p && s.refUsable (quadOf p))

/-- Transmissions of a path in the sweep under way. -/
def State.sentN (s : State) (p : Nat) : Nat := nth s.cv.sent p 0

/-- Positions that still have to transmit on the lent quadrants, at most `n` (R169). -/
def State.nextPos (s : State) (qs : List Nat) (n : Nat) : List Nat :=
  ((List.range 16).filter (fun i => qs.any (fun q => s.sweepPaths.contains (16 * q + i) && decide (s.sentN (16 * q + i) < s.cv.repeat_)))).take n

/-- The reference point of a sweep: that of the first quadrant that has one. -/
def State.pointUsed (s : State) : Nat := ((List.range 4).findSome? (fun q => s.pointFor (s.lo q))).getD 0

/-- The sweep is complete (R171): the solve is submitted as a job. -/
def State.sweepEnd (s : State) : State :=
  if !s.sweepPaths.isEmpty && s.sweepPaths.all (fun p => decide (s.cv.repeat_ ≤ s.sentN p)) then
    match s.allocJob with
    | some (j, t) =>
      let t := { t with cv := { t.cv with sweepJob := some j, sent := List.replicate 64 0 } }
      let t := (t.put R.CV_ACAL_STATUS F.CV_ACAL_STATUS_STATE 2).put R.CV_ACAL_STATUS F.CV_ACAL_STATUS_POINT s.pointUsed
      (t.incWrap R.CV_ACAL_STATUS F.CV_ACAL_STATUS_SWEEP).submitJob j 2 [] 1
    | none => s
  else s

/-- A step of kind 2 ends (R169): at position `pos` one path of each lent quadrant has transmitted; `pairs` are
the estimates made at 20 dB or more, which are kept for the solve. -/
def execAcalStepDone (pos : Fin 16) (pairs : List PairEst) (s : State) : Host.Outcome State Fault Refusal :=
  if !s.running.contains (2, pos.val) then .next s
  else
    let qs := (s.tl.lent.filter (fun (l : Lent) => l.kind = 2)).map Lent.q
    let tx := (qs.filter s.refUsable).map (fun q => 16 * q + pos.val)
    let ok (e : PairEst) : Bool :=
      decide (e.rx < 64) && tx.contains e.tx && qs.contains (quadOf e.rx) && s.lo (quadOf e.tx) = s.lo (quadOf e.rx) && tileOf e.tx % 2 != tileOf e.rx % 2
    let sent := (List.range 64).map (fun p => s.sentN p + (if tx.contains p && s.avail p then 1 else 0))
    let meas := s.cv.meas ++ pairs.filter ok
    let t := ({ s with cv := { s.cv with sent := sent, meas := meas } }).stepEnd 2 pos
    .next t.sweepEnd

/-! ### Steps in lent windows (R84 to R87) -/

/-- The steps that a lent window takes up: positions for kind 2, paths for kind 3 (one per tile at a time), receivers for
kind 4 (four steps each). -/
def State.stepsFor (s : State) (i : Nat) (qs : List Nat) (n : Nat) : List (Nat × Nat) :=
  let ts := bitsOf (s.eTmask i) 8
  match s.eKind i with
  | 2 => if s.cv.sweepJob.isSome then [] else (s.nextPos (qs.filter s.refUsable) n).map (fun p => (2, p))
  | 3 => ((ts.filter (fun t => !s.obsFailed t)).map (fun t => (((tilePaths t).filter (fun p => (s.ePmask i).testBit p && s.avail p && qs.contains (quadOf p))).take n).map
      (fun p => (3, p)))).flatten
  | 4 => ((ts.filter (fun t => s.capSt t != 1 && !s.obsFailed t)).map (fun t => List.replicate (min n (4 - nth s.cv.orxStep t 0)) (4, t))).flatten
  | _ => []

/-- The quadrants that a CAL_BORROW can have lent now (R85); kind 2 borrows only those with a usable reference point (R170). -/
def State.borrowQs (s : State) (i : Nat) : List Nat :=
  (bitsOf (s.eQmask i) 4).filter (fun q => s.lendable i q && (s.eKind i != 2 || s.refUsable q))

/-- What keeps a CAL_BORROW from its window now (R85 to R87): it waits for an AUX_TUNE; other work that wants the same ranks higher; or no
window is there, which defers it at its own instant and lets it wait at later ones. -/
def State.borrowHold (s : State) (i : Nat) : Option State :=
  let k := s.eKind i
  let qs := s.borrowQs i
  let t := if k = 2 then (bitsOf (s.eQmask i) 4).foldl State.noRef s else s
  if s.auxWaits i then some (t.toWait i)
  else if k != 4 && qs.isEmpty || stepsFit k (s.windowLen i qs) = 0 then some (if s.tl.waits.contains i then t else t.defer i)
  else if s.loses i then some (t.defer i)
  else none

/-- CAL_BORROW runs (R85): the window is lent whole, and as many steps as fit are packed into it. -/
def State.borrow (s : State) (i : Nat) (qs : List Nat) (n : Nat) (win : List Lent) : State :=
  let k := s.eKind i
  let steps := s.stepsFor i qs n
  let t := { s with tl := { s.tl with lent := s.tl.lent ++ win, aged := s.tl.aged.set (k - 1) 0 } }
  let t := { t with cv := { t.cv with steps := t.cv.steps.filter (fun g => !steps.contains g) ++ steps } }
  if k = 2 && !steps.isEmpty then t.put R.CV_ACAL_STATUS F.CV_ACAL_STATUS_STATE 1 else t

def execCalBorrow (slot : Fin 4096) (s : State) : Host.Outcome State Fault Refusal :=
  let qs := s.borrowQs slot
  s.issueOr slot Act.calBorrow (s.borrowHold slot) (fun t =>
    t.borrow slot qs (stepsFit (s.eKind slot) (s.windowLen slot qs)) (qs.map (s.lentOf slot)))

/-- Length of a calibration's interval in DFE cycles (R176, R570): the host's setting, shortened by the planner's k of 1, ½ or ¼. -/
def State.interval (s : State) (k : Nat) : Nat := nth s.cv.every (k - 2) 60 * cyclesPerSecond / 2 ^ min 2 (s.get R.TH_MARGIN F.TH_MARGIN_K)

/-- A calibration's interval passes (R87, R176): without a completed step it is reported, and the next interval begins; in Calibration a
sweep is due (R175). -/
def execBorrowIntervalExpiry (kind : Fin 5) (s : State) : Host.Outcome State Fault Refusal :=
  let k := kind.val
  if k < 2 || s.now < nth s.cv.since (k - 2) 0 + s.interval k then .next s
  else
    let t := { s with tl := { s.tl with stepDone := s.tl.stepDone.filter (· != k) }
                      cv := { s.cv with since := s.cv.since.set (k - 2) s.now, sweeping := s.cv.sweeping || (k = 2 && s.mode = .calibration) } }
    .next (if s.tl.stepDone.contains k then t else t.raise Ev.TL_BORROW_STARVED [k])

/-- In Calibration every symbol is lendable, and the steps of a sweep run back to back (R175): the next one begins as soon as none is
listed, on every quadrant with a usable reference point and a locked LO. -/
def State.sweepTick (s : State) : State :=
  if s.mode != .calibration || !s.cv.sweeping || s.cv.sweepJob.isSome || !s.locked 4 || s.cv.steps.any (fun g => g.1 = 2) then s
  else
    let qs := (List.range 4).filter (fun q => s.refUsable q && s.locked q)
    match s.nextPos qs 1 with
    | [] => s
    | i :: _ =>
      let win := qs.map (fun q => (⟨q, 2, 0, s.now, s.now + cyclesPerSecond⟩ : Lent))
      ({ s with cv := { s.cv with steps := s.cv.steps ++ [(2, i)] }
                tl := { s.tl with lent := s.tl.lent.filter (fun (l : Lent) => l.kind != 2) ++ win } }).put R.CV_ACAL_STATUS F.CV_ACAL_STATUS_STATE 1

end Sys2Proof.Machine
end

