-- ==== Sys2Proof/Machine/Service.lean ====
section
/-! DEFINITION. The frame counter (R58, R59, R91, R397), the checks and states of a symbol (R72, R74, R79, R110, R631) and its
stage deadlines (R76). -/

namespace Sys2Proof.Machine

/-! ### The frame counter -/

/-- The frame starts anew: the loaded frame number, else the next one (R58). -/
def State.newFrame (s : State) : State :=
  ({ s with tl := { s.tl with cyc := 0, sfn := s.tl.sfnLoad.getD ((s.tl.sfn + 1) % 1024), sfnLoad := none } }).showNow

/-- A write to TL_SFN_LOAD (R58, R89). -/
def execTlSfnLoad (sfn : BitVec 10) (s : State) : Host.Outcome State Fault Refusal :=
  .next { s with tl := { s.tl with sfnLoad := some sfn.toNat } }

/-- A write of TL_CTRL.ALIGN arms a realignment, in Provisioned and Standby only (R91). -/
def execTlCtrlAlign (s : State) : Host.Outcome State Fault Refusal :=
  when_ (s.mode = .provisioned || s.mode = .standby) { s with tl := { s.tl with alignArmed := true } } s

/-- The alignment edge: the second edge delayed by α (R91, R397). -/
def execFrameAlignEdge (s : State) : Host.Outcome State Fault Refusal :=
  if !s.tl.alignArmed || (s.mode != .provisioned && s.mode != .standby) then .next s
  else
    let t := ({ s with tl := { s.tl with alignArmed := false } }).newFrame
    .next ((t.setFlag R.TL_STATUS F.TL_STATUS_ALIGNED true).finish (fun u => u = .aligned) St.ok 0 0)

/-- Frame tick minus time counter in ns, to the nearest frame boundary of the time counter (R59, R397): boundaries lie at
C₀ + α and every 10 ms from there. -/
def State.frameErr (s : State) : Int :=
  let x : Int := ((s.ns : Int) - (s.hy.c0 : Int)) % (2 ^ 32 : Int)
  let r := (x - (s.get R.TS_FRAME_OFS F.TS_FRAME_OFS_ALPHA : Int)) % 10000000
  if r < 5000000 then r else r - 10000000

/-- New guard values and TDD leads take effect at a frame boundary (R112, R129). -/
def State.frameApply (s : State) : State :=
  let t := match s.rf.regNext with
    | some v => ({ s with rf := { s.rf with regNext := none } }).regApply v
    | none => s
  match t.rf.tddNext with
  | some v =>
    let u := (t.put R.RF_TDD_LEAD F.RF_TDD_LEAD_TX_LEAD (nth v 0 0)).put R.RF_TDD_LEAD F.RF_TDD_LEAD_RX_LEAD (nth v 1 0)
    let u := (u.put R.RF_TDD_LAG F.RF_TDD_LAG_TX_LAG (nth v 2 0)).put R.RF_TDD_LAG F.RF_TDD_LAG_RX_LAG (nth v 3 0)
    { u with rf := { u.rf with tddNext := none } }
  | none => t

/-- The duty of the frame that ends: a limit reached on its last sample is reported too, and mutes to the end of the frame are over (R134). -/
def State.dutyEnd (s : State) : State :=
  let t := (List.range 64).foldl (fun (t : State) p =>
    if !t.dutyFree p && !t.rf.dutyDone.contains p && nth t.rf.dutyN p 0 != 0 && decide (t.dutyLimit10 p ≤ 10 * nth t.rf.dutyN p 0) then t.dutyHit p
    else t) s
  let ended (h : Nat × Option Nat) : Nat × Option Nat := (h.1, some (h.2.getD t.now))
  { t with rf := { t.rf with dutyN := List.replicate 64 0, skipped := [], dutyDone := [], hold := t.rf.hold.map ended } }

/-- A value of a list that its largest 0.01 % reach (R204): the 0.01 % point of the CCDF, and the list's mean as a sum and a count. -/
def ccdfPoint (l : List Nat) : Nat := nth (l.mergeSort (fun a b => decide (b ≤ a))) (l.length / 10000) 0

/-- A PAPR in steps of 0.0625 dB: 160 log₁₀ of the peak power over the mean power; the rounding is open (log entry 100). -/
def paprOf (l : List Nat) : Nat :=
  let pk := ccdfPoint l * l.length
  let sum := l.sum
  let le (m : Nat) : Bool := decide (10 ^ m * sum ^ 160 ≤ pk ^ 160)
  let n := (List.range 8).foldl (fun n i => if le (n + 2 ^ (7 - i)) then n + 2 ^ (7 - i) else n) 0
  if le n && 10 ^ n * sum ^ 160 != pk ^ 160 && Config.roundUp pk sum then min 255 (n + 1) else n

/-- The CFR figures of a path over the frame (R204, R226): PAPR of its output and its input, and the energy of the cancellation over that of
the signal. EVM_MAX is in steps of 0.5 %, the estimate in steps of 0.05 %; a limit of 0 disables the event. -/
def State.cfrFigure (s : State) (p : Nat) : State :=
  let (sig, can, inn, out) := ((s.dfe.cfrSeen.find? (fun x => x.1 = p)).map (·.2)).getD (0, 0, [], [])
  let r := R.DFE_CFR_STAT p
  let q := 2000 * can / max 1 sig
  let evm := min 255 (if 2000 * can % max 1 sig != 0 && Config.roundUp (2000 * can : Nat) sig then q + 1 else q)
  let t := ((s.put r F.DFE_CFR_STAT_PAPR (paprOf out)).put r F.DFE_CFR_STAT_EVM evm).put r F.DFE_CFR_STAT_PAPR_IN (paprOf inn)
  let m := s.get (R.DFE_CFR_CFG p) F.DFE_CFR_CFG_EVM_MAX
  if m != 0 && decide (10 * m * sig < 2000 * can) then t.raise Ev.DFE_CFR_EVM [p, evm] else t

/-- A radio frame boundary (R59): the frame error, the work of the frame, the figures of CFR, and the housekeeping trigger of source 3 while
the forecast core runs (R557). -/
def execFrameBoundary (_cfr : Unit) (s : State) : Host.Outcome State Fault Refusal :=
  let e := s.frameErr
  let t := if s.tl.cyc = 0 && s.tl.sfnLoad.isNone then s else s.newFrame
  let t := t.wrN R.TL_FRAME_ERR (unsigned 32 e)
  let t := if 1000 < e.natAbs then t.raise Ev.TL_FRAME_DRIFT [unsigned 32 e] else t
  let t := (t.dutyEnd).frameApply
  let t := if s.flag R.TL_STATUS F.TL_STATUS_RUNNING then t.hkSource 3 0 else t
  let t := (List.range 64).foldl State.cfrFigure t
  .next { t with dfe := { t.dfe with cfrSeen := [] } }

/-! ### Symbols -/

/-- The symbol of a slot. -/
def State.symOf (s : State) (slot k : Nat) : Option Sym := s.tl.syms.find? (fun (y : Sym) => y.slot = slot && y.k = k)

/-- Replace a symbol. -/
def State.setSym (s : State) (y : Sym) : State :=
  { s with tl := { s.tl with syms := s.tl.syms.map (fun (z : Sym) => if z.slot = y.slot && z.k = y.k then y else z) } }

/-- A quadrant's symbol is blanked on an unlocked LO: TL_LATE_LO once per quadrant and symbol (R72). -/
def State.lateLo (s : State) (q stamp : Nat) : State :=
  if s.bf.once.contains (Ev.TL_LATE_LO, q, stamp) then s
  else (s.count (R.TL_LATE_LO_CNT q)).raiseOnce Ev.TL_LATE_LO q stamp (s.leaseOf 1 q) [q, stamp]

/-- Captures that satisfy `p` are blanked (R72): their tiles record nothing, and their entry says so. -/
def State.capBlank (s : State) (p : Nat → Cap → Bool) : State :=
  (List.range 8).foldl (fun (t : State) k => match nth s.dfe.cap k none with
    | some c =>
      if s.capSt k = 1 && p k c then
        (({ t with dfe := { t.dfe with cap := t.dfe.cap.set k none } }).put (R.DFE_CAP_STATUS k) F.DFE_CAP_STATUS_STATE 0).setStat c.slot 3
      else t
    | none => t) s

/-- The captures of an OBS_CAP are blanked where SYN4 or the quadrant's synthesiser is not locked (R72). -/
def State.obsBlank (s : State) (slot : Nat) : State :=
  let bad (p : Nat) : Bool := !s.locked 4 || !s.locked (quadOf p)
  let hit (_ : Nat) (c : Cap) : Bool := c.slot = slot && bad c.path
  let ts := (List.range 8).filter (fun t => s.capSt t = 1 && (nth s.dfe.cap t none).any (hit t))
  if ts.isEmpty then s
  else ((quadsOf (s.ePmask slot)).filter (fun q => bad (16 * q))).foldl (fun (t : State) q => t.lateLo q (s.eTgt slot)) (s.capBlank hit)

/-- Tiles of a path mask. -/
def tilesOf (pmask : Nat) : List Nat := (List.range 8).filter (fun t => pmask / 2 ^ (8 * t) % 2 ^ 8 ≠ 0)

/-- A symbol is on the air on a tile (R79, R114): neither absent nor, for transmission, blanked there on an unlocked LO. -/
def onAir (y : Sym) (t : Nat) : Bool := !y.absent && (tilesOf y.pmask).contains t && (y.ul || !y.lateQ.contains (t / 2))

/-- A symbol starts less than 1.50 µs after the end of a symbol of the other direction on a tile it uses, in TDD service (R79). Of two that
start together the one checked first stands. -/
def State.turnBad (s : State) (y : Sym) : Bool :=
  s.mode = .tdd && (tilesOf y.pmask).any (fun t =>
    (match nth (if y.ul then s.tl.endDl else s.tl.endUl) t none with
      | some e => decide (s.atNow y.start < e + 738)
      | none => false) ||
    s.tl.syms.any (fun (z : Sym) => z.ul != y.ul && onAir z t &&
      (decide (s.rel z.start < s.rel y.start) || (decide (s.rel z.start = s.rel y.start) && !z.okQ.isEmpty)) &&
      decide (s.rel y.start < s.rel z.start + (stLen z.stamp : Int) + 738)))

/-- 1.50 µs before a symbol RF checks the turn-round and its quadrants' synthesisers (R72, R79, R116): a symbol too close to the other
direction is absent; on quadrants not locked it is blanked, with their captures. For an OBS_CAP it checks the auxiliary synthesiser too. -/
def execLockCheck (slot : Fin 4096) (k : Fin 14) (s : State) : Host.Outcome State Fault Refusal :=
  match s.symOf slot k with
  | none => when_ (s.eAct slot = Act.obsCap && decide (s.rel (stStart (s.eTgt slot)) ≤ 738)) (s.obsBlank slot) s
  | some y =>
    if y.active || !y.okQ.isEmpty || !y.lateQ.isEmpty || y.absent || !s.ticks (stNum y.stamp) || decide (738 < s.rel y.start) then .next s
    else if s.turnBad y then
      .next (((s.setSym { y with absent := true }).count R.TL_TURN_BLANK_CNT).raiseTo Ev.TL_TURN_BLANK (some y.ctx) [y.car, y.stamp])
    else
      let qs := quadsOf y.pmask
      let late := qs.filter (fun q => !s.locked q)
      let ok := qs.filter s.locked
      let t := s.setSym { y with okQ := ok, lateQ := late, blank := y.blank || ok.isEmpty }
      let t := t.capBlank (fun _ c => !y.ul && c.stamp = y.stamp && late.contains (quadOf c.path))
      .next (if late.isEmpty then t else late.foldl (fun (t : State) q => t.lateLo q y.stamp) (t.setStat slot 3))

/-- A receive symbol's first sample lies in the fill window of its carrier (R74, R195): FILL_LEN outputs of D / 4 DFE cycles. -/
def State.inFill (s : State) (y : Sym) : Bool :=
  y.ul && s.tl.rxSync.any (fun x => x.1 = y.car &&
    decide (4 * ahead y.start x.2 < s.get (R.DFE_CAR_STAT y.car) F.DFE_CAR_STAT_FILL_LEN * 2 ^ s.get (R.DFE_CAR_CFG y.car) F.DFE_CAR_CFG_LOGD))

/-- A path direction that cannot be armed is skipped (R631): counted per symbol, reported once per path and frame. -/
def State.skipPath (s : State) (y : Sym) (p : Nat) : State :=
  let t := s.count (R.RF_PATH_SKIP_CNT p)
  if s.rf.skipped.any (fun x => x.1 = p) then t
  else
    let d : Nat := if y.ul then 1 else 0
    ({ t with rf := { t.rf with skipped := (p, d) :: t.rf.skipped } }).raiseTo Ev.RF_PATH_SKIP (some y.ctx) [p, d, y.stamp]

/-- Does another running symbol use this path direction? -/
def State.otherActive (s : State) (y : Sym) (p : Nat) : Bool :=
  s.tl.syms.any (fun (z : Sym) => z.active && z.ul = y.ul && !z.absent && z.pmask.testBit p && !(z.slot = y.slot && z.k = y.k))

/-- A change of `EN` (R207): at once while the path transmits no symbol, else at its next transmitted symbol. -/
def State.dpdEnable (s : State) (p : Nat) (en : Bool) : State :=
  let rest := s.dfe.enNext.filter (fun x => x.1 != p)
  if s.tl.syms.any (fun (y : Sym) => y.active && !y.ul && y.pmask.testBit p) then { s with dfe := { s.dfe with enNext := rest ++ [(p, en)] } }
  else ({ s with dfe := { s.dfe with enNext := rest } }).setFlag (R.DFE_DPD_STATUS p) F.DFE_DPD_STATUS_EN en

/-- A path's settings that wait for its next transmitted symbol: pre-distortion enable (R207) and CFR (R203). -/
def State.txFirst (s : State) (p : Nat) : State :=
  let t := match s.dfe.enNext.find? (fun x => x.1 = p) with
    | some (_, b) => s.setFlag (R.DFE_DPD_STATUS p) F.DFE_DPD_STATUS_EN b
    | none => s
  let t := match s.dfe.cfrNext.find? (fun x => x.1 = p && x.2.2) with
    | some (_, w, _) => t.wr (R.DFE_CFR_CFG p) w
    | none => t
  { t with dfe := { t.dfe with enNext := t.dfe.enNext.filter (fun x => x.1 != p), cfrNext := t.dfe.cfrNext.filter (fun x => !(x.1 = p && x.2.2)) }
           rf := { t.rf with peaked := t.rf.peaked.filter (· != p) } }

/-- One path of a starting symbol (R110, R631): it becomes ACTIVE where its LO passed the check and the mode lets it (R36). -/
def State.pathStart (s : State) (y : Sym) (p : Nat) : State :=
  if s.cannotArm p (!y.ul) then s.skipPath y p
  else if y.absent || !y.okQ.contains (quadOf p) || !(y.ul || s.mayTx) then
    (if s.pathSt (!y.ul) p = Ps.active && !s.otherActive y p then s.setPath (!y.ul) p Ps.armed else s)
  else
    let t := if s.pathSt (!y.ul) p = Ps.armed then s.setPath (!y.ul) p Ps.active else s
    if y.ul then t else t.txFirst p

/-- A sounding of a symbol is invalid on the paths that satisfy `p` (R253). -/
def State.srsBad (s : State) (y : Sym) (p : Nat → Bool) : State :=
  { s with bf := { s.bf with srs := s.bf.srs.map (fun (k : Srs) =>
      if k.car = y.car && k.stamp = y.stamp && (bitsOf k.pmask 64).any p then { k with bad := true } else k) } }

/-- A scheduled symbol starts (R110): lent windows on its quadrants are over (R85), muted paths of its quadrants come back, the fill check
(R74), then its paths. -/
def execSymbolStart (slot : Fin 4096) (k : Fin 14) (s : State) : Host.Outcome State Fault Refusal :=
  match s.symOf slot k with
  | none => .next s
  | some y =>
    if y.active || !s.ticks (stNum y.stamp) || !s.come y.start then .next s
    else
      let qs := quadsOf y.pmask
      let fill := !y.absent && s.inFill y
      let t := if s.mode = .calibration || y.absent then s else s.closeWindows (fun l => qs.contains l.q)
      let t := (qs.flatMap quadPaths).foldl State.unmutePath t
      let t := if fill then ((t.setStat slot 4).count R.TL_FILL_BLANK_CNT).raiseTo Ev.TL_FILL_BLANK (some y.ctx) [y.car, y.stamp] else t
      let z : Sym := { y with active := true, blank := y.blank || fill }
      let t := t.setSym z
      let t := t.srsBad y (fun p => y.absent || fill || y.lateQ.contains (quadOf p))
      .next ((bitsOf y.pmask 64).foldl (fun (t : State) p => t.pathStart z p) t)

/-- Does the same direction of a path go straight on: a symbol that follows at this instant and passed its lock check? -/
def State.follows (s : State) (y : Sym) (p e : Nat) : Bool :=
  s.tl.syms.any (fun (z : Sym) => !z.active && z.ul = y.ul && z.pmask.testBit p && z.start = e && z.okQ.contains (quadOf p))

/-- One path of an ending symbol (R110, R134). Samples of a path with several carriers count once. -/
def State.pathEnd (s : State) (y : Sym) (p : Nat) : State :=
  if s.pathSt (!y.ul) p ≠ Ps.active || s.otherActive y p then s
  else
    let t := if y.ul then s else { s with rf := { s.rf with dutyN := s.rf.dutyN.set p (nth s.rf.dutyN p 0 + 4 * stLen y.stamp) } }
    if s.follows y p (shiftBy y.start (stLen y.stamp)) then t else t.setPath (!y.ul) p Ps.armed

/-- A symbol ends (R110): its paths, the ends of R78 and R79, and the sounding's paths (R253). -/
def execSymbolEnd (slot : Fin 4096) (k : Fin 14) (s : State) : Host.Outcome State Fault Refusal :=
  match s.symOf slot k with
  | none => .next s
  | some y =>
    if !y.active || decide (0 < s.rel y.start + (stLen y.stamp : Int)) then .next s
    else
      let e := s.atNow y.start + stLen y.stamp
      let t := if y.ul then s.srsBad y (fun p => y.blank || s.rx p != Ps.active) else s
      let t := (bitsOf y.pmask 64).foldl (fun (t : State) p => t.pathEnd y p) t
      let mark (l : List (Option Nat)) (ix : List Nat) : List (Option Nat) := ix.foldl (fun l i => l.set i (some e)) l
      let ts := (tilesOf y.pmask).filter (onAir y)
      let ps := bitsOf y.pmask 64
      if y.ul then
        let tl := { t.tl with endUl := mark t.tl.endUl ts, endRx := mark t.tl.endRx ps }
        .next (({ t with tl := tl }).setSym { y with active := false, stage := max y.stage 4 })
      else
        let tl := { t.tl with endDl := mark t.tl.endDl ts, endTx := mark t.tl.endTx ps,
                              syms := t.tl.syms.filter (fun (z : Sym) => !(z.slot = y.slot && z.k = y.k)) }
        .next { t with tl := tl }

/-! ### Stages (R75, R76) -/

/-- A symbol's partial work is discarded (R76): what the stages gave, and its messages. -/
def State.discardWork (s : State) (slot k : Nat) : State :=
  let keep (f : TxFrame) : Bool := match f.kind with
    | .uplink _ _ _ _ sl kk _ _ => !(sl = slot && kk = k)
    | _ => true
  { s with fh := { s.fh with tx := s.fh.tx.filter keep }
           bf := { s.bf with out := s.bf.out.filter (fun o => !(o.slot = slot && o.k = k)) } }

/-- The window of a stage for a symbol, from now (R75): stages 0 to 2 and 6 (the DFE's) of the downlink, 7 (the DFE's), 3, 4 and 5 of the
uplink, each one symbol period. -/
def State.stageWin (s : State) (y : Sym) (stage : Nat) : Int × Int :=
  let k : Int := nth [-4, -3, -2, 1, 2, 3, -1, 0] stage 0
  let at_ (n : Int) : Int := s.rel (stStart (stAdd y.stamp n)) - (if y.ul then (s.ulAdv y.car : Int) else 0)
  (at_ k, at_ (k + 1))

/-- A stage overruns a symbol (R76): it is blanked, counted and reported. -/
def State.overrun (s : State) (y : Sym) (stage : Nat) : State :=
  let n := (bitsOf y.pmask 64).length
  let t := ((s.setSym { y with blank := true }).setStat y.slot 2).count (R.TL_OVERRUN_CNT stage)
  let t := if y.ul then t.srsBad y (fun _ => true) else t
  let t := t.discardWork y.slot y.k
  t.raiseTo Ev.TL_OVERRUN (some y.ctx) [stage, y.stamp, y.car, n]

/-- Symbols that need more vectors than their window gives overrun as it ends (R236); those blanked or gone by then do not. -/
def State.lateTick (s : State) : State :=
  s.bf.late.foldl (fun (t : State) x =>
    match t.tl.syms.find? (fun (y : Sym) => y.slot = x.1 && y.k = x.2.1) with
    | none => { t with bf := { t.bf with late := t.bf.late.erase x } }
    | some y =>
      if decide (0 < (t.stageWin y x.2.2).2) then t
      else
        let t := { t with bf := { t.bf with late := t.bf.late.erase x } }
        if y.blank || y.absent then t else t.overrun y x.2.2) s

/-- A stage reaches its deadline with work left (R76): the symbol is blanked, with no further event for one blanked
already. -/
def execStageDeadline (stage : Fin 6) (slot : Fin 4096) (k : Fin 14) (s : State) : Host.Outcome State Fault Refusal :=
  match s.symOf slot k with
  | none => .next s
  | some y =>
    if y.blank || y.absent || y.ul != decide (3 ≤ stage.val) || !s.ticks (stNum y.stamp) || decide (0 < (s.stageWin y stage).2) then .next s
    else .next (s.overrun y stage)

end Sys2Proof.Machine
end

