-- ==== Sys2Proof/Machine/Leases.lean ====
section
/-! DEFINITION. Leases on their way (R449 to R452): the mode lease, revocation by resource, carriers coming to a stop, blocks
being scrubbed; and the audit of the books (R453, R454). -/

namespace Sys2Proof.Machine

/-! ### The mode lease (R451) -/

/-- The mode lease moves: HI_MODE_LEASE, MODE_LEASE of every context, and the event to every ATTACHED context. -/
def State.setHolder (s : State) (c : Option Nat) : State :=
  let t := match c with
    | some c => s.wrN R.HI_MODE_LEASE c
    | none => s.wrN R.HI_MODE_LEASE (2 ^ 31)
  let t := (List.range 8).foldl (fun (t : State) k => t.setFlag (R.HI_CTX_STAT k) F.HI_CTX_STAT_MODE_LEASE (c = some k)) t
  t.raise Ev.HI_MODE_LEASE [c.getD 8]

/-- The holder expires (R451): the lease returns to the holder R49 names at Boot, or to none when that one is EXPIRED. -/
def State.holderExpired (s : State) (c : Nat) : State :=
  if !s.isML c then s
  else if s.ctxState s.hi.bootHolder = 3 then s.setHolder none else s.setHolder (some s.hi.bootHolder)

/-! ### Carriers coming to a stop (R361, R373, R452, R478) -/

/-- Flows of a carrier that are enabled. -/
def State.carFlows (s : State) (c : Nat) : List Nat := (List.range 1024).filter (fun f => s.flEn f && s.flCar f = c)

/-- Action and carrier of a staged entry (R63). -/
def stagedAct (e : Staged) : Nat := (nth e.words 1 0).toNat % 2 ^ 8
def stagedCar (e : Staged) : Nat := (nth e.words 1 0).toNat / 2 ^ 8 % 16

/-- Entries of a carrier in the ring or staged. -/
def State.carEntries (s : State) (c : Nat) : Bool :=
  s.live.any (fun i => isCarrierAct (s.eAct i) && s.eCar i = c) ||
    s.hy.staged.any (fun (e : Staged) => isCarrierAct (stagedAct e) && stagedCar e = c)

/-- A carrier's symbols have ended, and its last uplink symbol has launched (R373). -/
def State.carQuiet (s : State) (c : Nat) : Bool :=
  s.tl.syms.all (fun (y : Sym) => y.car != c) && s.fh.tx.all (fun (x : TxFrame) => match x.kind with
    | .uplink f .. => s.flCar f != c
    | _ => true)

/-- Window of the RMS guard of the paths of a mask: it follows the lowest numerology of the path's running TX carriers (R133). -/
def State.rmsWindows (s : State) (pmask : Nat) : State :=
  (bitsOf pmask 64).foldl (fun (t : State) p =>
    let l := (List.range 16).filter (fun c => s.carRun c && s.carHasTx c && (s.carPmask c).testBit p)
    t.put (R.RF_REG_RMS p) F.RF_REG_RMS_WIN (if l.isEmpty then 0 else l.foldl (fun m c => min m (s.carNum c)) 3)) s

/-- A carrier of a path starts or stops: CFR settings that waited for this apply at the next transmitted symbol (R203). -/
def State.cfrChange (s : State) (pmask : Nat) : State :=
  let slots := (List.range 16).filter (fun k => (bitsOf pmask 64).any (fun p => s.get (R.DFE_CFR_CFG p) F.DFE_CFR_CFG_SLOT = k))
  { s with dfe := { s.dfe with cfrNext := s.dfe.cfrNext.map (fun x => if pmask.testBit x.1 then (x.1, x.2.1, true) else x)
                               pulseNext := s.dfe.pulseNext.filter (fun k => !slots.contains k) ++ slots } }

/-- The paths that select a pulse slot. -/
def State.pulseUsers (s : State) (k : Nat) : List Nat := (List.range 64).filter (fun p => s.get (R.DFE_CFR_CFG p) F.DFE_CFR_CFG_SLOT = k)

/-- Firmware designs a pulse from the carriers of the paths that use its slot (R203). -/
def State.pulseDesign (s : State) (k : Nat) : State :=
  let ps := s.pulseUsers k
  let cars := ((List.range 16).filter (fun c => s.carRun c && s.carHasTx c && ps.any (fun p => (s.carPmask c).testBit p))).map (fun c => (s.carTxHz c, s.carBw c))
  (List.range 255).foldl (fun (t : State) i => t.wr (R.DFE_CFR_PULSE k i) (Config.cfrPulse cars i)) s

/-- A pulse slot is rewritten once no ARMED path selects it (R203). -/
def State.pulseTick (s : State) : State :=
  let free (k : Nat) : Bool := (s.pulseUsers k).all (fun p => !s.txUp p)
  if s.dfe.pulseNext.isEmpty then s
  else (s.dfe.pulseNext.filter free).foldl State.pulseDesign { s with dfe := { s.dfe with pulseNext := s.dfe.pulseNext.filter (fun k => !free k) } }

/-- A carrier has stopped: its flows end (R361), its reservation is released (R373). -/
def State.carOff (s : State) (c : Nat) : State :=
  let t := s.setFlag (R.DFE_CAR_CFG c) F.DFE_CAR_CFG_RUN false
  let t := (t.carFlows c).foldl State.flowEnd t
  ((t.rmsWindows (s.carPmask c)).cfrChange (s.carPmask c)).bfShow.showResv

/-- Paths of a carrier that no other running carrier uses. -/
def State.ownPaths (s : State) (c : Nat) : List Nat :=
  (bitsOf (s.carPmask c) 64).filter (fun p => !(List.range 16).any (fun k => k != c && s.carRun k && (s.carPmask k).testBit p))

/-- One carrier on its way to a stop. -/
def State.stopStep (s : State) (c why : Nat) : State :=
  if why = 2 then
    if (s.ownPaths c).all (fun p => s.tx p != Ps.armed && s.rx p != Ps.armed && s.tx p != Ps.active && s.rx p != Ps.active) then
      ({ s with hy := { s.hy with stopping := s.hy.stopping.erase (c, 2) } }).revokeDone (2, c)
    else s
  else if !s.carQuiet c || (why = 0 && s.carEntries c) then s
  else
    let t := { (s.carOff c) with hy := { (s.carOff c).hy with stopping := s.hy.stopping.erase (c, why) } }
    if why = 0 then t.finishOwn (fun u => u = .carStopped c) St.ok
    else
      let d := (t.ownPaths c).map (fun p => (⟨true, p, t.tlNow, t.tlNow⟩ : ArmStep)) ++ (t.ownPaths c).map (fun p => (⟨false, p, t.tlNow, t.tlNow⟩ : ArmStep))
      { t with tl := { t.tl with dis := t.tl.dis ++ d }, hy := { t.hy with stopping := t.hy.stopping ++ [(c, 2)] } }

/-- Every in-flight command of a context waits for the end of its own quota's revocation only. -/
def State.onlyQuota (s : State) (x : Nat) : Bool :=
  (s.hy.inflight.filter (fun e => e.1.ctx.val = x)).all (fun e => s.hy.jobs.any (fun j => j.cmd.ctx = e.1.ctx && j.cmd.tag = e.1.tag &&
    (match j.wait with
      | .revoked l => l.contains (11, x)
      | _ => false)))

/-- What ends without a row of its own: carriers stopping, regions disabled, and the quotas whose users have gone (R452). -/
def State.settle (s : State) : State :=
  let t := s.hy.stopping.foldl (fun (t : State) x => t.stopStep x.1 x.2) s.pagesLeave
  if t.hy.jobs.isEmpty then t
  else (List.range 8).foldl (fun (t : State) x =>
    let u := if t.fh.sects.all (fun (e : Sect) => e.ctx != x) then t.revokeDone (5, x) else t
    if u.onlyQuota x then u.revokeDone (11, x) else u) t

/-! ### Revocation (R452) -/

/-- Blocks of a resource: bytes of one, and the base address. -/
def blockSize (res : Nat) : Nat := if res = 6 then 65536 else 2 ^ 20
def blockBase (res : Nat) : Nat := if res = 6 then 0x10000000 else dramBase

/-- Quota register of a context: 4 forecast, 5 sections, 11 commands in flight (R449). -/
def State.quotaOf (s : State) (res x : Nat) : Nat :=
  if res = 4 then s.get (R.TL_PART_QUOTA x) F.TL_PART_QUOTA_QUOTA else if res = 5 then s.get (R.FH_SECT_QUOTA x) F.FH_SECT_QUOTA_QUOTA
  else s.get (R.HI_CTX_STAT x) F.HI_CTX_STAT_QUOTA

/-- Does a context hold what a lease command names (R471)? A quota is held while it is not 0. -/
def State.holdsRes (s : State) (x res idx : Nat) : Bool :=
  if res = 3 then decide (idx < 64) && s.rgGranted idx && s.rgOwner idx = x
  else if res = 4 || res = 5 || res = 11 then s.quotaOf res x != 0
  else if res = 0 then s.isML x
  else s.holds x res idx

/-- Take a lease out of the books. -/
def State.dropLease (s : State) (res idx : Nat) : State :=
  { s with hy := { s.hy with leases := s.hy.leases.filter (fun l => !(l.res = res && l.idx = idx)) } }

/-- The blocks of the grant that the named block came with. -/
def State.runOf (s : State) (res idx : Nat) : List Nat :=
  match s.hy.leases.find? (fun l => l.res = res && l.idx = idx) with
  | some l => (s.hy.leases.filter (fun m => m.res = res && m.run = l.run && m.ctx = l.ctx)).map Lease.idx
  | none => []

/-- A carrier's lease ends (R452, R478): its flows are disabled, its staged entries go, symbols whose stage 0 has not begun and
receive symbols that have not begun are not performed. -/
def State.revokeCar (s : State) (c : Nat) : State :=
  let t := (s.carFlows c).foldl (fun (t : State) f => (t.flowEnd f).setFlag (R.FH_FLOW f 0) F.FH_FLOW_EN false) s
  let t := (t.dropLease 2 c).unstage (fun (e : Staged) => isCarrierAct (stagedAct e) && stagedCar e = c)
  { t with
    hy := { t.hy with
      stopping := t.hy.stopping.filter (fun x => x.1 != c) ++ [(c, 1)] }
    tl := { t.tl with syms := t.tl.syms.filter (fun (y : Sym) => y.car != c || y.active || (if y.ul then decide (3 < y.stage) else decide (0 < y.stage))) } }

/-- A resource of context `x` is revoked. Answers the state and what its end waits for. -/
def State.revokeRes (s : State) (x res idx : Nat) : State × List (Nat × Nat) :=
  let s := s.raiseTo Ev.HI_LEASE_REVOKED (some x) [res, idx]
  if res = 2 then (s.revokeCar idx, [(2, idx)])
  else if res = 3 then
    let t := s.revokeRegion idx
    ((t.nvc.jobs.filter (fun (j : NvJob) => j.kind = 0 && nth j.args 2 64 = idx)).foldl (fun (t : State) j => t.dropJob j.num) t, [(3, idx)])
  else if res = 4 then
    let mine := s.tl.pend.filter (fun i => s.eCtx i = x)
    let t := { s with tl := { s.tl with revSlots := s.tl.revSlots ++ mine, quotaTo := (x, 0) :: s.tl.quotaTo.filter (fun q => q.1 != x) } }
    let t := t.unstage (fun (e : Staged) => e.ctx = x)
    if t.partUsed x = 0 then (t.quotaFall x, []) else (t.quotaFall x, [(4, x)])
  else if res = 5 then
    (s.put (R.FH_SECT_QUOTA x) F.FH_SECT_QUOTA_QUOTA 0, if s.fh.sects.all (fun (e : Sect) => e.ctx != x) then [] else [(5, x)])
  else if res = 6 || res = 7 then
    let l := s.runOf res idx
    let t := l.foldl (fun (t : State) b => t.dropLease res b) s
    ({ t with hy := { t.hy with scrub := t.hy.scrub ++ l.map (fun b => (res, b)) } }, l.map (fun b => (res, b)))
  else if res = 8 then
    let t := s.dropLease 8 idx
    match nth s.dfe.cap idx none with
    | some k => if k.host && k.ctx = x then ({ t with dfe := { t.dfe with capDrop := idx :: t.dfe.capDrop } }, [(8, idx)]) else (t, [])
    | none => (t, [])
  else if res = 9 then ((s.dropLease 9 idx).revokeCore idx, [(9, idx)])
  else if res = 10 then
    let t := (s.dropLease 10 idx).chReset (idx - 16)
    ((t.setFlag (R.HI_RING_CFG idx) F.HI_RING_CFG_EN false).put (R.HI_RING_STAT idx) F.HI_RING_STAT_STATE 0, [])
  else if res = 11 then
    (({ s with hy := { s.hy with inflTo := (x, 0) :: s.hy.inflTo.filter (fun q => q.1 != x) } }).inflFall x, [(11, x)])
  else (s.dropLease res idx, [])

/-- Every lease of a context: the resources by code and index. -/
def State.leasesOf (s : State) (x : Nat) : List (Nat × Nat) :=
  (s.hy.leases.filter (fun l => l.ctx = x && (l.idx = l.run || !(l.res = 6 || l.res = 7)))).map (fun l => (l.res, l.idx)) ++
    ((List.range 64).filter (fun r => s.rgGranted r && s.rgOwner r = x)).map (fun r => (3, r)) ++
    (if s.get (R.TL_PART_QUOTA x) F.TL_PART_QUOTA_QUOTA = 0 then [] else [(4, x)]) ++
    (if s.get (R.FH_SECT_QUOTA x) F.FH_SECT_QUOTA_QUOTA = 0 then [] else [(5, x)]) ++
    (if s.get (R.HI_CTX_STAT x) F.HI_CTX_STAT_QUOTA = 0 then [] else [(11, x)])

/-- The timers of HELD contexts stand still during Frost and Thaw (R541): their start moves on with the clock. -/
def State.heldTick (s : State) : State :=
  if s.mode = .frost || s.pm.thaw then { s with hi := { s.hi with heldAt := s.hi.heldAt.map (· + 1) } } else s

/-- HI_CTX_HOLD passes in HELD (R428, R451, R452): the context is EXPIRED and its leases are revoked. The timers stand still
during Frost and Thaw (R541). -/
def execCtxHoldExpiry (c : Fin 8) (s : State) : Host.Outcome State Fault Refusal :=
  if s.ctxState c ≠ 2 || s.mode = .frost || s.pm.thaw ||
      decide (s.now < nth s.hi.heldAt c 0 + s.get (R.HI_CTX_HOLD c) F.HI_CTX_HOLD_S * cyclesPerSecond) then .next s
  else
    let t := (s.put (R.HI_CTX_STAT c) F.HI_CTX_STAT_STATE 3).raise Ev.HI_CTX_DETACH [c, 3]
    .next (((s.leasesOf c).foldl (fun (t : State) r => (t.revokeRes c r.1 r.2).1) t).holderExpired c).settle

/-- The scrub of a revoked block ends (R452): its bytes are zero and it returns to the free list. -/
def execBlockScrubDone (dram : Bool) (block : BitVec 14) (s : State) : Host.Outcome State Fault Refusal :=
  let res := if dram then 7 else 6
  let b := block.toNat
  when_ (s.hy.scrub.contains (res, b))
    ((({ s with hy := { s.hy with scrub := s.hy.scrub.erase (res, b) } }).scrubMem (blockBase res + blockSize res * b) (blockSize res)).revokeDone (res, b)) s

/-! ### The books (R453, R454) -/

/-- Sections of a context's partition (R362). -/
def State.sectsOf (s : State) (x : Nat) : Nat := (s.fh.sects.filter (fun (e : Sect) => e.ctx = x)).length

/-- Vectors that no region holds and none is scrubbed for (R260). -/
def State.vecHeld (s : State) : Nat :=
  ((List.range 64).map s.rgLen).sum + (s.bf.shrink.map (fun e => e.2.1)).sum

/-- One row of R453: does it balance, and the row rebuilt from the hardware state. Rows: 0 rings, 1 commands in flight, 2 DMA slots,
3 weight vectors, 4 forecast entries, 5 section entries, 6 blocks, 7 gust budget, 8 hard reservations. The rows that the model
holds once (2, 6, 7) balance by their form. -/
def State.auditRow (s : State) (row : Nat) : Bool × State :=
  if row = 0 then ((List.range 32).all (fun r => !s.ringRuns r || decide (s.ringUsed r ≤ s.ringSize r)), s)
  else if row = 1 then
    let n (x : Nat) : Nat := (s.hy.inflight.filter (fun e => e.1.ctx.val = x)).length
    ((List.range 8).all (fun x => s.inflOf x = n x) && s.get R.HI_INFL_TOTAL F.HI_INFL_TOTAL_INFL = s.hy.inflight.length,
     ((List.range 8).foldl (fun (t : State) x => t.put (R.HI_CTX_STAT x) F.HI_CTX_STAT_INFL (n x)) s).put R.HI_INFL_TOTAL
       F.HI_INFL_TOTAL_INFL s.hy.inflight.length)
  else if row = 3 then
    (s.get R.BF_FREE_VEC F.BF_FREE_VEC_FREE + s.vecHeld = 16384, s.put R.BF_FREE_VEC F.BF_FREE_VEC_FREE (16384 - s.vecHeld))
  else if row = 4 then
    let n (x : Nat) : Nat := (s.live.filter (fun i => s.eCtx i = x)).length
    ((List.range 8).all (fun x => s.partUsed x = n x),
     ((List.range 8).foldl (fun (t : State) x => t.put (R.TL_PART_USED x) F.TL_PART_USED_USED (n x)) s).showLive)
  else if row = 5 then
    ((List.range 8).all (fun x => s.get (R.FH_SECT_USED x) F.FH_SECT_USED_USED = s.sectsOf x),
     (List.range 8).foldl (fun (t : State) x => t.put (R.FH_SECT_USED x) F.FH_SECT_USED_USED (s.sectsOf x)) s)
  else if row = 8 then
    ((List.range 4).all (fun g => s.loadOk g ((List.range 16).filter s.carRun)), s.showResv)
  else (true, s)

/-- Every 100 ms Hyrno audits every row (R454): one that does not balance raises HI_BOOKS_ERR with its number and is rebuilt. -/
def execBooksAudit (s : State) : Host.Outcome State Fault Refusal :=
  if !fwRuns s.mode || !s.spanPast (cyclesPerSecond / 10) s.hy.auditAt then .next s
  else .next ((List.range 9).foldl (fun (t : State) row =>
    if (t.auditRow row).1 then t else ((t.auditRow row).2).raise Ev.HI_BOOKS_ERR [row]) { s with hy := { s.hy with auditAt := some s.now } })

end Sys2Proof.Machine
end

