-- ==== Sys2Proof/Machine/Attach.lean ====
section
/-! DEFINITION. Attachments and contexts (R423 to R428): links coming up and going down, PERST, in-band silence. -/

namespace Sys2Proof.Machine

/-- HI has power and runs (R537, R623): not before Boot, in Frost or in Thermal hold. -/
def State.hiRuns (s : State) : Bool :=
  match s.mode with
  | .unpowered | .resetHold | .selfTest | .frost | .thermalHold => false
  | _ => true

/-- A context is bound, and to which attachment (R427). -/
def State.bindOf (s : State) (c : Nat) : Option Nat :=
  if s.flag (R.HI_CTX_BIND c) F.HI_CTX_BIND_BOUND then some (s.get (R.HI_CTX_BIND c) F.HI_CTX_BIND_ATT) else none

/-- The contexts bound to an attachment. -/
def State.ctxsOf (s : State) (att : Nat) : List Nat := (List.range 8).filter (fun c => s.bindOf c = some att)

/-- The rings of a context (R433): command, completion, event, and the bulk rings it leases. -/
def State.ringsOf (s : State) (c : Nat) : List Nat :=
  [c, 8 + c, 16 + c] ++ ((List.range 8).map (· + 24)).filter (fun r => s.holds c 10 r)

/-- A ring is disabled (R434): it is off, and a bulk ring's channel is reset (R500). -/
def State.ringOff (s : State) (r : Nat) : State :=
  let t := (s.setFlag (R.HI_RING_CFG r) F.HI_RING_CFG_EN false).put (R.HI_RING_STAT r) F.HI_RING_STAT_STATE 0
  let t := t.put (R.HI_RING_STAT r) F.HI_RING_STAT_ERR 0
  if 24 ≤ r then t.chReset (r - 16) else t

/-- A context becomes ATTACHED (R428): the rings of a returning context are disabled; while no context holds the mode lease the
first that attaches takes it (R451). -/
def State.attach (s : State) (c : Nat) : State :=
  if (s.bindOf c).isNone || s.ctxState c = 1 then s
  else
    let t := (s.ringsOf c).foldl State.ringOff s
    let t := (t.put (R.HI_CTX_STAT c) F.HI_CTX_STAT_STATE 1).raise Ev.HI_CTX_ATTACH [c]
    if t.flag R.HI_MODE_LEASE F.HI_MODE_LEASE_NONE then t.setHolder (some c) else t

/-- A context's attachment goes down (R428): HELD; its rings stop. An in-band session ends (R425). -/
def State.detach (s : State) (c : Nat) : State :=
  if s.ctxState c ≠ 1 then s
  else
    let t := (s.ringsOf c).foldl (fun (t : State) r => t.put (R.HI_RING_STAT r) F.HI_RING_STAT_STATE 0) s
    let t := (t.put (R.HI_CTX_STAT c) F.HI_CTX_STAT_STATE 2).raise Ev.HI_CTX_DETACH [c, 2]
    { t with hi := { t.hi with inbandRx := t.hi.inbandRx.set c none, inbandTx := t.hi.inbandTx.set c 0, heldAt := t.hi.heldAt.set c t.now } }

/-- The endpoint's reset input of a function (R424): PERST0 for A, and for B in x4; PERST1 for B in x2 + x2. -/
def State.perstOf (s : State) (f : Nat) : Nat := if f = 1 && s.hi.x2 then 1 else 0

/-- A function's link goes down. -/
def State.linkDown (s : State) (f : Nat) : State :=
  (s.ctxsOf f).foldl State.detach { s with hi := { s.hi with linkUp := s.hi.linkUp.set f false } }

/-- PERST0_N or PERST1_N goes low (R424, R524): the endpoint's link, configuration space and MSI-X state are reset. PERST1_N is
ignored in x4. -/
def execPerstAssert (which : Fin 2) (s : State) : Host.Outcome State Fault Refusal :=
  let t := { s with pins := { s.pins with perst := s.pins.perst.set which false } }
  .next ((([0, 1] : List Nat).filter (fun f => s.perstOf f = which.val)).foldl (fun (t : State) f =>
    let u := t.linkDown f
    { u with hi := { u.hi with msixMask := u.hi.msixMask.filter (fun m => m.1 != f), msixPend := u.hi.msixPend.filter (fun m => m.1 != f) } }) t)

/-- PERST0_N or PERST1_N rises; in Frost it can start a Thaw (R542). -/
def execPerstRelease (which : Fin 2) (s : State) : Host.Outcome State Fault Refusal :=
  .next (({ s with pins := { s.pins with perst := s.pins.perst.set which true } }).thawTrigger 1)

/-- The link of function `f` comes up with bus mastering enabled (R428). -/
def execPcieLinkUp (f : Fin 2) (s : State) : Host.Outcome State Fault Refusal :=
  when_ (s.hiRuns && nth s.pins.perst (s.perstOf f) false)
    ((s.ctxsOf f).foldl State.attach { s with hi := { s.hi with linkUp := s.hi.linkUp.set f true } }) s

/-- The link of function `f` goes down (R428). -/
def execPcieLinkDown (f : Fin 2) (s : State) : Host.Outcome State Fault Refusal := .next (s.linkDown f)

/-- No valid in-band frame for 3 s (R428). -/
def execInbandSilenceTimeout (c : Fin 8) (s : State) : Host.Outcome State Fault Refusal :=
  when_ (s.bindOf c = some 2 && decide (nth s.hi.inbandAt c 0 + 3 * cyclesPerSecond ≤ s.now)) (s.detach c) s

end Sys2Proof.Machine
end

