-- ==== Sys2Proof/Machine/JournalDone.lean ====
section
/-! DEFINITION. The end of a journal record write (R574, R583) and what each command that waited for its write group does then (R129,
R130, R167, R562, R579). -/

namespace Sys2Proof.Machine

/-- The 224 values of a REG_SET table (R482): 64 peak, 64 RMS, 64 duty, 16 lower edges with EN, 16 upper edges, as the registers hold
them (R143). -/
def regVals (b : List Byte) : List Nat :=
  let n (o k : Nat) : Nat := leNum ((b.drop o).take k)
  (List.range 64).map (fun p => n (8 * p) 2) ++ (List.range 64).map (fun p => n (8 * p + 2) 2) ++ (List.range 64).map (fun p => n (8 * p + 4) 2) ++
    (List.range 16).map (fun i => n (512 + 8 * i) 4) ++ (List.range 16).map (fun i => n (516 + 8 * i) 4)

/-- The values in force, in the same order. -/
def State.regNow (s : State) : List Nat :=
  (List.range 64).map (fun p => s.get (R.RF_REG_PEAK p) F.RF_REG_PEAK_LVL) ++ (List.range 64).map (fun p => s.get (R.RF_REG_RMS p) F.RF_REG_RMS_LVL) ++
    (List.range 64).map (fun p => s.get (R.RF_REG_DUTY p) F.RF_REG_DUTY_DUTY) ++ (List.range 16).map (fun i => (s.rd (R.RF_REG_RANGE_LO i)).toNat) ++
    (List.range 16).map (fun i => (s.rd (R.RF_REG_RANGE_HI i)).toNat)

/-- The table of R482 from the values. -/
def regBytes (v : List Nat) : List Byte :=
  ((List.range 64).map (fun p => leBytes 2 (nth v p 0) ++ leBytes 2 (nth v (64 + p) 0) ++ leBytes 2 (nth v (128 + p) 0) ++ leBytes 2 0)).flatten ++
    ((List.range 16).map (fun i => leBytes 4 (nth v (192 + i) 0) ++ leBytes 4 (nth v (208 + i) 0))).flatten

/-- Write a lock record (R579): 0 regulatory, 1 reference. -/
def State.lockRecord (s : State) (inst : Nat) : Nat × State :=
  let g := s.nvj.nextGroup
  (g, ({ s with nvj := { s.nvj with nextGroup := g + 1 } }).jQueue [⟨32 + inst, mkRec 0x03 inst 0 (List.replicate 56 0), false, g, true⟩])

/-- A started command goes on to wait for something else. -/
def State.waitOn (s : State) (j : Job) (u : Until) (data : List Nat) : State :=
  { s with hy := { s.hy with jobs := s.hy.jobs.map (fun k => if k = j then { k with wait := u, data := data } else k) } }

/-- A command completes and leaves the started ones. -/
def State.endJob (s : State) (j : Job) (status results : Nat) : State :=
  ({ s with hy := { s.hy with jobs := s.hy.jobs.erase j } }).complete j.cmd status 0 results

/-- What a command does once its write group is committed. Its data name the object: 0x16 REG_SET (R129: at once in Provisioned, else at
the next frame boundary), 0x1A REG_LOCK (the lock record follows), 0x03 a lock record, 0x18 a housekeeping calibration, 0x10 the new
boot object of FW_UPDATE_COMMIT (the return to Provisioned follows); any other completes. -/
def State.groupEnd (s : State) (j : Job) : State :=
  match nth j.data 0 0 with
  | 0x16 => (if s.mode = .provisioned then s.regApply (j.data.drop 1) else { s with rf := { s.rf with regNext := some (j.data.drop 1) } }).endJob j St.ok 0
  | 0x1A => let r := s.lockRecord 0
    r.2.waitOn j (.journal r.1) [0x03, 0]
  | 0x03 => let t := s.jLocks
    (if nth j.data 1 0 = 0 then (t.setFlag R.RF_REG_STATUS F.RF_REG_STATUS_LOCKED true).raise Ev.RF_REG_LOCKED []
      else t.setFlag R.CV_ACAL_STATUS F.CV_ACAL_STATUS_LOCKED true).endJob j St.ok 0
  | 0x18 => let k := nth j.data 1 0
    ((s.put (R.HK_CAL k) F.HK_CAL_O (nth j.data 2 0)).put (R.HK_CAL_HI k) F.HK_CAL_G (nth j.data 3 0)).endJob j St.ok
      (resN 16 4 (unsigned 32 (signed 24 (nth j.data 2 0))) + resN 20 4 (nth j.data 3 0))
  | 0x10 => let t := (s.put R.PM_MODE F.PM_MODE_TGT (modeCode .provisioned)).setFlag R.PM_MODE F.PM_MODE_BUSY true
    ({ t with pm := { t.pm with cause := 9 } }).waitOn j (.mode .provisioned) [St.ok]
  | _ => s.endJob j St.ok 0

/-- Commands that wait for a write group. -/
def State.groupJobs (s : State) (g : Nat) : List Job := s.hy.jobs.filter (fun j => j.wait = .journal g)

/-- The record in flight, `n`, is done and leaves the queue; NVJ_STAT shows it and how it ended (R590). -/
def State.jPop (s : State) (n : Nat) (ok : Bool) : State :=
  let t := { s with nvj := { s.nvj with queue := s.nvj.queue.drop 1, retry := false } }
  ((t.put R.NVJ_STAT F.NVJ_STAT_LAST n).setFlag R.NVJ_STAT F.NVJ_STAT_FAIL (!ok)).jShow

/-- The record in flight is written and read back (R583). A read-back that differs is written once more; a second one stops the write:
NVJ_WRITE_FAIL, IO_ERROR, and the object keeps its previous copy. What the record then holds is open (log entry 22), as is the DETAIL (log entry 11). -/
def execJournalRecordDone (ok : Bool) (s : State) : Host.Outcome State Fault Refusal :=
  match s.nvj.queue with
  | [] => .next s
  | w :: _ =>
    if ok then
      let t := (s.setBytes (recAddr w.num) w.data).jPop w.num true
      if w.final && w.group != 0 then
        let mine := t.nvj.staged.filter (fun x => x.1 = w.group)
        let objs := mine.foldl (fun l x => (x.2.1, x.2.2) :: l.filter (fun q => q.1 != x.2.1)) t.nvj.objs
        let t := { t with nvj := { t.nvj with objs := objs, staged := t.nvj.staged.filter (fun x => x.1 != w.group) } }
        .next ((t.groupJobs w.group).foldl State.groupEnd t.jLocks)
      else .next t.jLocks
    else if !s.nvj.retry then .next { s with nvj := { s.nvj with retry := true } }
    else
      let (v, t) := s.fresh 512
      let t := (t.setBytes (recAddr w.num) (leBytes 64 v.toNat)).jPop w.num false
      let t := { t with nvj := { t.nvj with queue := t.nvj.queue.filter (fun x => w.group = 0 || x.group != w.group),
                                            staged := t.nvj.staged.filter (fun x => x.1 != w.group) } }
      let t := (t.jShow.count R.NVJ_WFAIL_CNT).raise Ev.NVJ_WRITE_FAIL [w.num]
      .next (if w.group = 0 then t else (t.fresh 32).2.finish (fun u => u = .journal w.group) St.ioError (t.fresh 32).1.toNat 0)

end Sys2Proof.Machine
end

