-- ==== Sys2Proof/Machine/Modes.lean ====
section
/-! DEFINITION. Mode transitions (R41 to R55): their start and completion, the ramp-down, Frost and Thaw (R540 to R543). -/

namespace Sys2Proof.Machine

/-- A transition starts (R47, R48). -/
def State.beginMode (s : State) (m : Mode) (cause : Nat) : State :=
  let t := (s.put R.PM_MODE F.PM_MODE_TGT (modeCode m)).setFlag R.PM_MODE F.PM_MODE_BUSY true
  { t with pm := { t.pm with cause := cause } }

/-- TL issues ticks from Standby on, and stops on the way to Provisioned, Update and Frost (R35, R91). -/
def State.tlRun (s : State) (b : Bool) : State :=
  let t := (s.setFlag R.TL_CTRL F.TL_CTRL_RUN b).setFlag R.TL_STATUS F.TL_STATUS_RUNNING b
  if b then t.put R.TL_CTRL F.TL_CTRL_NUM_EN 15 else t

/-- What a mode that is entered does (R35, R91, R103): TL and the synthesisers in and out of Standby. -/
def State.enterMode (s : State) (old new : Mode) : State :=
  match old, new with
  | .provisioned, .standby => s.tlRun true
  | .standby, .provisioned => (List.range 5).foldl State.synOff (s.tlRun false)
  | _, _ => if new = .standby then (s.tlRun true).synAll else s

/-- In a mode that does not transmit every TX path is held and every TDD_TXEN is low (R36); an alignment of the frame counter that is
armed is given up where the counter is never stepped (R58, log entry 93). -/
def State.holdTx (s : State) (m : Mode) : State :=
  let t := if mayTxIn m then s else { s with pins := { s.pins with txen := List.replicate 8 false } }
  if m = .provisioned || m = .standby then t
  else ({ t with tl := { t.tl with alignArmed := false } }).finish (fun (u : Until) => decide (u = Until.aligned)) St.aborted 0 0

/-- A transition has ended: PM_MODE, PREV and CAUSE (R622), PM_MODE_CHANGE (R46), and the commands that waited for it. -/
def State.modeDone (s : State) (m : Mode) : State :=
  let old := s.mode
  let t := ((s.recordCause s.pm.cause).setMode m).setFlag R.PM_MODE F.PM_MODE_BUSY false
  let t := (t.enterMode old m).holdTx m
  let t := t.raise Ev.PM_MODE_CHANGE [modeCode old, modeCode m, s.pm.cause]
  let mine := t.hy.jobs.filter (fun j => j.wait = .mode m)
  mine.foldl (fun (t : State) j => t.endJob j (nth j.data 0 0) (if nth j.data 0 0 = 0 && nth j.data 1 0 = 1 then resN 16 1 (modeCode old) + resN 17 1 (modeCode m) else 0))
    { t with pm := { t.pm with ramp := false, rampOn := false } }

/-- A synthesiser calibrates (R54, R103). -/
def State.synBusy (s : State) : Bool := (List.range 5).any (fun n => s.get (R.RF_SYN_STATUS n) F.RF_SYN_STATUS_STATE = 1)

/-- A transition of firmware's finishes (R46): not a ramp-down, Frost entry or Thaw, which have rows of their own. An entry into Standby
from Provisioned waits for the synthesisers and the foreground calibrations (R103, R148, R162). -/
def execModeTransitionComplete (s : State) : Host.Outcome State Fault Refusal :=
  match modeOf? (s.get R.PM_MODE F.PM_MODE_TGT) with
  | none => .next s
  | some m =>
    if !(s.busy && fwRuns s.mode && fwRuns m) || s.pm.ramp || s.pm.frost.isSome || s.pm.thaw || !s.fwUp then .next s
    else if s.mode = .provisioned && m = .standby && (s.synBusy || !s.cv.fgDone || !s.cv.dacDone) then .next s
    else .next (s.modeDone m)

/-- The ramp-down of a transition from a radio mode begins once the committed symbols are over (R42) and no synthesiser calibrates
(R54). -/
def State.rampTick (s : State) : State :=
  if s.pm.ramp && !s.pm.rampOn && isRadio s.mode && !s.synBusy && s.tl.syms.isEmpty && s.tl.pend.isEmpty then
    ({ s with pm := { s.pm with rampOn := true } }).biasDown.disarmAll
  else s

/-- A ramp-down has ended: every path is off, its DAC currents at zero (R546). That of a transition from a radio mode leads to Standby
and the carriers stop (R42); that of a warm reset leads to Reset hold (R43). A thermal shutdown has preempted both (R51). -/
def execRadioRampDownDone (s : State) : Host.Outcome State Fault Refusal :=
  if !(s.pm.rampOn && isRadio s.mode && s.allOff && s.rf.dacRamp.isEmpty && s.pm.shut.isNone) then .next s
  else match s.pm.resetTo with
    | some c => .next (s.warmReset c)
    | none =>
      if !(s.busy && s.pm.ramp) then .next s
      else
        let t := ((List.range 16).filter s.carRun).foldl State.carOff s
        .next ({ t with hy := { t.hy with stopping := t.hy.stopping.filter (fun x => x.2 != 0) } }.modeDone .standby)

/-! ### Frost (R53, R540) -/

/-- The order of the answers: block indices of R25. -/
def frostOrder : List Nat := [0, 7, 4, 3, 2, 1, 5, 10, 11, 6, 8, 9]

/-- Does a block agree to Frost, and with which reason does it refuse (R540)? -/
def State.frostAgrees (s : State) (k : Nat) : Bool × Nat :=
  match k with
  | 0 => (s.tl.pend.isEmpty, 1)
  | 7 => (!(List.range 1024).any (fun f => s.flEn f && decide (s.get (R.FH_FLOW f 1) F.FH_FLOW_PORTS &&& maskOf ((List.range 4).filter (fun g => s.role g = 1 || s.role g = 2)) ≠ 0)), 2)
  | 4 => ((List.range 64).all (fun r => !s.rgRevoking r), 3)
  | 3 => ((List.range 8).all (fun t => s.capSt t = 0), 4)
  | 2 => (s.cv.steps.isEmpty, 5)
  | 1 => (!s.synBusy && s.allOff, 6)
  | 5 => (s.nvcAgrees, 7)
  | 10 => (s.dmaAgrees, 8)
  | 11 => ((List.range 8).all (fun i => !s.ringRuns (24 + i) || s.ringUsed (24 + i) = 0), 9)
  | 6 => ((List.range 16).all (fun n => s.laneRx n != 7), 10)
  | 9 => (s.mc.target.isNone, 11)
  | _ => (true, 0)

/-- Frost is refused and rolled back (R53). -/
def State.frostRefuse (s : State) (k reason : Nat) : State :=
  let t := (s.put R.PM_FROST_STAT F.PM_FROST_STAT_REFUSER k).put R.PM_FROST_STAT F.PM_FROST_STAT_REASON reason
  let t := ((t.count R.PM_ROLLBACK_CNT).put R.PM_MODE F.PM_MODE_CAUSE 8).raise Ev.PM_FROST_REFUSED [k, reason]
  let t := (t.put R.PM_MODE F.PM_MODE_TGT (t.get R.PM_MODE F.PM_MODE_CUR)).setFlag R.PM_MODE F.PM_MODE_BUSY false
  let t := if s.mode = .standby then t.tlRun true else t
  ({ t with pm := { t.pm with frost := none } }).finish (fun u => u = Until.frost) St.refused k 0

/-- Every block has agreed: PWR_FROST completes, firmware jobs are aborted (R301), the lanes go to the states named (R339), DRAM to
self-refresh, and the domains power down (R540). -/
def State.frostGo (s : State) (f : FrostReq) : State :=
  let t := (s.finish (fun u => u = Until.frost) St.ok 0 0).abortJobs
  let t := { t with ln := { t.ln with before := (List.range 16).map (fun n => (t.lane n).goal) } }
  let want (g : Nat) : Nat := nth [1, 2, 4] (f.lanes / 4 ^ g % 4) 4
  let t := (List.range 16).foldl (fun (t : State) n => if t.laneRx n = 0 then t else t.lanePower n (want (n / 4))) t
  let t := (t.tlRun false).selfRefresh true
  { t with pm := { t.pm with frost := some { f with agreed := true, answered := 12 } } }.domBegin (t.nextDown.map (fun n => ⟨n, false, 1⟩))

/-- A block answers the Frost request, in order (R540). TL stops as it agrees. -/
def execFrostBlockAnswer (s : State) : Host.Outcome State Fault Refusal :=
  match s.pm.frost with
  | none => .next s
  | some f =>
    if f.agreed || 12 ≤ f.answered then .next s
    else
      let k := nth frostOrder f.answered 0
      let a := s.frostAgrees k
      if !a.1 then .next (s.frostRefuse k a.2)
      else
        let t := if k = 0 then s.tlRun false else s
        if f.answered = 11 then .next (t.frostGo f)
        else .next { t with pm := { t.pm with frost := some { f with answered := f.answered + 1 }, askAt := s.now } }

/-- A block gives no answer within 200 µs and counts as refusing (R540). The reason code it then has is open. -/
def execFrostAnswerTimeout (s : State) : Host.Outcome State Fault Refusal :=
  match s.pm.frost with
  | none => .next s
  | some f =>
    if f.agreed || 12 ≤ f.answered || !s.aonPast 98304 s.pm.askAt then .next s
    else .next ((s.fresh 4).2.frostRefuse (nth frostOrder f.answered 0) (s.fresh 4).1.toNat)

/-- Domains 23 to 1 are off (R540, R541): Frost. The PCIe and in-band attachments go down. A trigger that came during entry starts the
Thaw at once (R542). -/
def execFrostEntryDone (s : State) : Host.Outcome State Fault Refusal :=
  match s.pm.frost with
  | none => .next s
  | some f =>
    if !f.agreed || s.pm.dom.isSome || s.nextDown.isSome || s.mode = .frost then .next s
    else
      let t := ((s.setMode .frost).setFlag R.PM_MODE F.PM_MODE_BUSY false)
      let t := ((t.put R.PM_MODE F.PM_MODE_PREV (modeCode s.mode)).put R.PM_MODE F.PM_MODE_CAUSE 1).raise Ev.PM_MODE_CHANGE [modeCode s.mode, 12, 1]
      let t := (((List.range 5).foldl State.synOff t).linkDown 0).linkDown 1
      let t := (t.ctxsOf 2).foldl State.detach t
      let t := { t with pm := { t.pm with enteredFrom := s.mode, pllClocks := false, frost := some { f with latched := false } } }
      let t := t.setFlag R.TS_STATUS F.TS_STATUS_REF_LOCK false
      let bit : Nat := (bitsOf f.trig 4).headD 0
      .next (if f.latched then t.thawTrigger bit else t)

/-- The owners of a lost bank (R543): firmware, or the context that leases the core. -/
def State.bankOwner (s : State) (b : Nat) : Audience :=
  if decide (9 ≤ b) && decide (b ≤ 24) && s.coreLeased (b - 9) then .ctx (s.coreOwner (b - 9)) else .firmware

/-- Thaw ends (R543): the mode entered from, CAUSE 0x07, PM_RET_LOST for each lost bank; the lanes return to the state before Frost
(R339); TL runs again in Standby. The synthesisers have calibrated, the DRAM has left self-refresh. -/
def execThawComplete (s : State) : Host.Outcome State Fault Refusal :=
  if !(s.mode = .frost && s.pm.thaw && s.pm.dom.isNone && s.nextWake.isNone && s.pm.pllClocks && !s.synBusy && !s.flag R.MC_STATUS F.MC_STATUS_SELFREF &&
      (s.pm.enteredFrom != .standby || (s.cv.fgDone && s.cv.dacDone))) then .next s
  else
    let m := s.pm.enteredFrom
    let lost := bitsOf (s.rd R.PM_RET_LOST).toNat 29
    let t := (s.setMode m).setFlag R.PM_MODE F.PM_MODE_BUSY false
    let t := ((t.put R.PM_MODE F.PM_MODE_PREV 12).put R.PM_MODE F.PM_MODE_CAUSE 7).raise Ev.PM_MODE_CHANGE [12, modeCode m, 7]
    let t := lost.foldl (fun (t : State) b => t.raiseAs Ev.PM_RET_LOST (s.bankOwner b) 1 [b]) t
    let t := t.setFlag R.TS_STATUS F.TS_STATUS_VALID false
    let t := (List.range 16).foldl (fun (t : State) n => if (t.lane n).goal = nth s.ln.before n 4 then t else t.lanePower n (nth s.ln.before n 4)) t
    let t := if m = .standby then t.tlRun true else t
    .next { t with pm := { t.pm with thaw := false, frost := none } }

end Sys2Proof.Machine
end

