-- ==== Sys2Proof/Machine/BootEnd.lean ====
section
/-! DEFINITION. The last stage of Boot (R529): the main image, the records of the journal (R577), lanes (R339), contexts (R427),
leases (R450), and the entry into Provisioned (R46, R550). -/

namespace Sys2Proof.Machine

/-- Security version in the header of the running image (R530): in its flash slot, or where the host image was gathered. -/
def State.imageSvn (s : State) : Nat :=
  let src := s.get R.HI_BOOT_STAT F.HI_BOOT_STAT_SRC
  s.memN ((if src < 2 then 0x60000000 + 0x2000000 * src else dramBase) + 12) 4 % 64

/-- The board record (R577): REFCLK, RF_PATH_AVAIL, regulator, link ECC, I2C, GPIO, UART. -/
def State.loadBoard (s : State) : State :=
  match s.objData (objPlace 0x11) with
  | none => s
  | some d =>
    let b := Config.boardRecord d
    let t := (s.put64 R.RF_PATH_AVAIL b.pathAvail.toNat).setFlag R.TS_STATUS F.TS_STATUS_REF245 b.ref245
    let t := (List.range 64).foldl (fun (t : State) p => t.setFlag (R.RF_PATH_STATE p) F.RF_PATH_STATE_AVAIL (b.pathAvail.toNat.testBit p)) t
    let t := (t.setFlag R.PM_I2C_CFG F.PM_I2C_CFG_FAST b.i2cFast).put R.HI_UART_CFG F.HI_UART_CFG_BAUD (b.uartBaud % 5)
    let t := (List.range 32).foldl (fun (t : State) k => t.wr (R.PM_GPIO_CFG k) (BitVec.ofNat 32 (nth b.gpio k 8) &&& 0x3F)) t
    { t with mc := { t.mc with linkEcc := b.linkEcc }, hi := { t.hi with pmbusAddr := b.pmbusAddr, i2cAddrs := b.i2cAddrs } }

/-- Without a host record contexts 0 to 3 are bound to A, B, in-band and SPI (R427), and context 0 holds the mode lease (R49). -/
def defaultHost : HostRec := ⟨false, [some 0, some 1, some 2, some 3, none, none, none, none], [], none⟩

/-- The host record: bifurcation, bindings, in-band data, mode-lease holder (R424, R425, R427, R49). A bound context whose attachment has
not come up reports HELD; an SPI context is ATTACHED (R428). -/
def State.loadHost (s : State) : State :=
  let h := match s.objData (objPlace 0x12) with
    | some d => Config.hostRecord d
    | none => defaultHost
  let holder := h.modeHolder.getD 0 % 8
  let t := { s with hi := { s.hi with x2 := h.x2, inband := h.inband, bootHolder := holder } }
  let t := (List.range 8).foldl (fun (t : State) c => match nth h.bind c none with
    | some a => (((t.put (R.HI_CTX_BIND c) F.HI_CTX_BIND_ATT a).setFlag (R.HI_CTX_BIND c) F.HI_CTX_BIND_BOUND true).put (R.HI_CTX_STAT c)
        F.HI_CTX_STAT_ATT a).put (R.HI_CTX_STAT c) F.HI_CTX_STAT_STATE 2
    | none => t) t
  t.setHolder (some holder)

/-- Contexts whose attachment is up already. -/
def State.attachAll (s : State) : State :=
  (List.range 8).foldl (fun (t : State) c => match t.bindOf c with
    | some 3 => t.attach c
    | some a => if decide (a < 2) && nth t.hi.linkUp a false then t.attach c else t
    | none => t) s

/-- One lease of the lease record, as a grant (R450, R471). A quota sets the context's register. -/
def State.bootLease (s : State) (l : LeaseRec) : State :=
  let add (t : State) (idx run : Nat) : State := { t with hy := { t.hy with leases := t.hy.leases ++ [⟨l.res, idx, l.ctx % 8, run⟩] } }
  let c := l.ctx % 8
  match l.res with
  | 4 => s.put (R.TL_PART_QUOTA c) F.TL_PART_QUOTA_QUOTA l.count
  | 5 => s.put (R.FH_SECT_QUOTA c) F.FH_SECT_QUOTA_QUOTA l.count
  | 11 => s.put (R.HI_CTX_STAT c) F.HI_CTX_STAT_QUOTA l.count
  | 6 => (List.range l.count).foldl (fun (t : State) i => add t (l.idx + i) l.idx) s
  | 7 => (List.range l.count).foldl (fun (t : State) i => add t (l.idx + i) l.idx) s
  | 3 => (((s.put (R.BF_REGION_BASE (l.idx % 64)) F.BF_REGION_BASE_BASE (16384 - s.get R.BF_FREE_VEC F.BF_FREE_VEC_FREE + 1)).put
      (R.BF_REGION_BASE (l.idx % 64)) F.BF_REGION_BASE_LEN l.count).put (R.BF_REGION_CFG (l.idx % 64)) F.BF_REGION_CFG_OWNER c).put R.BF_FREE_VEC
      F.BF_FREE_VEC_FREE (s.get R.BF_FREE_VEC F.BF_FREE_VEC_FREE - l.count)
  | 9 => ((add s l.idx l.idx).put (R.NVC_CORE_STAT (l.idx % 16)) F.NVC_CORE_STAT_GROUP 2).put (R.NVC_CORE_STAT (l.idx % 16)) F.NVC_CORE_STAT_OWNER c
  | 10 => ((add s l.idx l.idx).put (R.HI_RING_STAT (l.idx % 32)) F.HI_RING_STAT_OWNER c).put (R.HI_RING_STAT (l.idx % 32)) F.HI_RING_STAT_PURP (l.count % 4)
  | _ => add s l.idx l.idx

/-- The lease record grants leases at Boot (R450). Without one the in-flight quotas are open: the spec gives none, and their sum stays
within 256 (R439). -/
def State.loadLeases (s : State) : State :=
  match s.objData (objPlace 0x14) with
  | some d => (Config.leaseRecord d).foldl State.bootLease s
  | none => (List.range 8).foldl (fun (t : State) c => t.put (R.HI_CTX_STAT c) F.HI_CTX_STAT_QUOTA (Config.bootQuota c).toNat) s

/-- Set the writable fields of a register from a word. -/
def State.regPut (s : State) (a : Nat) (w : Word) : State := match regSpec a with
  | some r => s.wr a ((s.rd a &&& ~~~(BitVec.ofNat 32 r.rw)) ||| (w &&& BitVec.ofNat 32 r.rw))
  | none => s

/-- The lane record: groups and equalisation, each group brought up through DOLDRUMS; groups without a record stay OFF (R339). -/
def State.loadLanes (s : State) : State :=
  match s.objData (objPlace 0x13) with
  | none => s
  | some d =>
    let l := Config.laneRecord d
    let t := (List.range 16).foldl (fun (t : State) n => (t.regPut (R.LN_TXEQ n) (nth l.txeq n 0)).regPut (R.LN_CTLE n) (nth l.ctle n 0)) s
    (List.range 4).foldl (fun (t : State) g => if g < l.groups.length then t.groupApply g (nth l.groups g 0) else t) t

/-- The regulatory record (R128, R131, R143): complete, torn, or absent; and the lock. -/
def State.loadReg (s : State) : State :=
  let p := objPlace 0x16
  let t := match s.objData p with
    | some d => (s.regApply (regVals d)).setFlag R.RF_REG_STATUS F.RF_REG_STATUS_LOADED true
    | none => s.setFlag R.RF_REG_STATUS F.RF_REG_STATUS_TORN (s.objTorn p)
  (t.setFlag R.RF_REG_STATUS F.RF_REG_STATUS_LOCKED (s.flag R.NVJ_STAT F.NVJ_STAT_LOCK_REG)).setFlag R.CV_ACAL_STATUS F.CV_ACAL_STATUS_LOCKED
    (s.flag R.NVJ_STAT F.NVJ_STAT_LOCK_REF)

/-- Firmware's own objects: retired slices (R156), housekeeping coefficients (R562), the starting array correction (R173). Several
reference points may have a result in the journal, and the spec does not say which is the starting correction: that the first of them is
taken is this model's choice (DESIGN CHOICE, log entry 106). -/
def State.loadOwn (s : State) : State :=
  let t := match s.ownObj 0x17 with
    | some l => (List.range 144).foldl (fun (t : State) a => (bitsOf (nth l a 0) 9).foldl (fun (t : State) k =>
        t.setFlag (R.CV_SLICE_QUAL a k) F.CV_SLICE_QUAL_RET true) t) s
    | none => s
  let t := match s.ownObj 0x18 with
    | some l => (List.range 43).foldl (fun (t : State) k => (t.put (R.HK_CAL k) F.HK_CAL_O (nth l (2 * k) 0)).put (R.HK_CAL_HI k) F.HK_CAL_G
        (nth l (2 * k + 1) 0)) t
    | none => t
  match ([0, 1, 2, 3] : List Nat).findSome? (fun i => s.objData (resultPlace i)) with
  | some d => t.acalStage ((List.range 2048).map (fun j => leNum ((d.drop (4 * j)).take 4)))
  | none => t

/-- What Hyrno reports once rings exist (R550, R582), and the boot object with the numbers reported. -/
def State.bootReports (s : State) : State :=
  let t := s.raise Ev.PM_BOOT_DONE [(s.rd R.HI_BOOT_STAT).toNat, (s.rd R.PM_BIST_STAT).toNat]
  let t := if s.flag R.PM_MODE F.PM_MODE_RADIO_LOCK then t.raise Ev.PM_BIST_FAIL [(s.rd R.PM_BIST_STAT).toNat] else t
  let t := if s.flag R.HI_BOOT_STAT F.HI_BOOT_STAT_FALLBACK then t.raise Ev.PM_AUTH_FALLBACK [s.get R.HI_BOOT_STAT F.HI_BOOT_STAT_SRC] else t
  let torn := s.get R.HI_BOOT_STAT F.HI_BOOT_STAT_TORN
  let t := if torn != 0 then t.raise Ev.PM_TORN [torn] else t
  let t := t.logRecord [0x72, torn]
  let sh := match s.areaMax 0 with
    | some (q, _) => q
    | none => s.pm.repShut
  let su := match s.areaMax 16 with
    | some (q, _) => q
    | none => s.pm.repSup
  let a := s.unreported 0 s.pm.repShut
  let b := s.unreported 16 s.pm.repSup
  let t := if a then t.raise Ev.PM_PREV_SHUTDOWN [sh] else t
  let t := if b then t.raise Ev.PM_PREV_SUPPLY [su] else t
  let t := { t with pm := { t.pm with repShut := if a then sh else s.pm.repShut, repSup := if b then su else s.pm.repSup } }
  if a || b then (t.journalObj (objPlace 0x10) (bootBytes s.bootObject.1 t.pm.repShut t.pm.repSup)).2 else t

/-- The main image is authenticated or rejected (R529, R531). A rejected image sends Boot back to the other source (R532); an authentic
one loads the records, brings the lanes up and enters Provisioned, PREV and CAUSE unchanged (R622). -/
def execMainImageVerified (ok : Bool) (s : State) : Host.Outcome State Fault Refusal :=
  if !(s.mode = .boot && s.get R.HI_BOOT_STAT F.HI_BOOT_STAT_STAGE = 4) then .next s
  else if !ok then
    .next ((s.put R.HI_BOOT_STAT F.HI_BOOT_STAT_AUTH (if s.flag R.HI_BOOT_STAT F.HI_BOOT_STAT_FALLBACK then 3 else 2)).put R.HI_BOOT_STAT
      F.HI_BOOT_STAT_STAGE 0)
  else
    let t := ((s.put R.HI_BOOT_STAT F.HI_BOOT_STAT_AUTH 1).put R.HI_BOOT_STAT F.HI_BOOT_STAT_STAGE 5).put R.HI_BOOT_STAT F.HI_BOOT_STAT_SVN s.imageSvn
    let t := t.put R.HI_BOOT_STAT F.HI_BOOT_STAT_DRAM (t.get R.MC_STATUS F.MC_STATUS_TRAINED)
    let t := ((t.loadBoard.loadHost).loadLeases).loadLanes
    let t := (t.loadReg.loadOwn).biasDrive
    let t := { t with hi := { t.hi with unlock := (t.objData (objPlace 0x15)).isSome } }
    let cause := t.get R.PM_MODE F.PM_MODE_CAUSE
    let t := (t.setMode .provisioned).setFlag R.PM_MODE F.PM_MODE_BUSY false
    let t := (t.attachAll.raise Ev.PM_MODE_CHANGE [4, 5, cause]).bootReports
    .next (if s.pm.powerOn then t else t.raise Ev.FW_RESTARTED [cause])

end Sys2Proof.Machine
end

