-- ==== Sys2Proof/Machine/Opcodes.lean ====
section
/-! DEFINITION. The opcodes of Hyrno's commands and the parameter bytes their rows list (R438, R461, R462). -/

namespace Sys2Proof.Machine

/-- An opcode with the parameter bytes its row lists, as offset and size. -/
structure OpRow where
  op : Nat
  bytes : List (Nat × Nat)
  deriving DecidableEq, Repr

/-- Opcodes of groups 0x01 to 0x02. -/
def opRowsSys : List OpRow := [
  ⟨0x0101, []⟩,
  ⟨0x0102, [(8, 1)]⟩,
  ⟨0x0103, []⟩,
  ⟨0x0104, [(8, 16)]⟩,
  ⟨0x0105, []⟩,
  ⟨0x0106, [(8, 1), (9, 1)]⟩,
  ⟨0x0107, [(8, 1), (9, 1), (10, 1), (16, 40)]⟩,
  ⟨0x0201, [(8, 1), (9, 1), (10, 1), (12, 4), (16, 4)]⟩,
  ⟨0x0202, [(8, 1), (9, 1), (12, 4)]⟩,
  ⟨0x0203, [(9, 1), (12, 4)]⟩,
  ⟨0x0204, [(8, 1), (9, 1)]⟩,
  ⟨0x0205, []⟩]

/-- Opcodes of groups 0x03 to 0x05. -/
def opRowsCar : List OpRow := [
  ⟨0x0301, [(8, 1), (9, 1), (12, 4), (16, 8), (24, 4), (28, 4), (32, 2), (34, 1), (35, 1), (36, 2), (38, 1), (39, 1), (40, 2), (42, 2)]⟩,
  ⟨0x0302, [(8, 1), (9, 1), (10, 4), (14, 4), (18, 4), (22, 1), (23, 1), (24, 1)]⟩,
  ⟨0x0303, [(8, 1), (9, 1), (16, 8)]⟩,
  ⟨0x0304, [(8, 1), (12, 4)]⟩,
  ⟨0x0305, [(8, 1), (12, 4)]⟩,
  ⟨0x0306, [(8, 2), (12, 12)]⟩,
  ⟨0x0307, [(8, 2)]⟩,
  ⟨0x0308, [(8, 1), (9, 1)]⟩,
  ⟨0x0501, [(8, 32)]⟩,
  ⟨0x0502, [(8, 2), (16, 8)]⟩,
  ⟨0x0503, [(8, 4), (12, 1)]⟩,
  ⟨0x0504, []⟩,
  ⟨0x0401, [(8, 1), (9, 1), (10, 1), (11, 1)]⟩,
  ⟨0x0402, [(8, 1), (9, 1), (12, 2), (14, 2), (16, 8)]⟩,
  ⟨0x0403, [(8, 1), (9, 1), (12, 2), (14, 2), (16, 8)]⟩,
  ⟨0x0404, [(8, 1), (9, 1), (10, 1), (11, 1), (12, 4), (16, 2), (24, 8)]⟩]

/-- Opcodes of groups 0x06 to 0x09. -/
def opRowsCal : List OpRow := [
  ⟨0x0601, [(8, 1), (12, 4)]⟩,
  ⟨0x0602, [(8, 1), (9, 1), (10, 1), (12, 2)]⟩,
  ⟨0x0603, [(8, 1), (12, 4)]⟩,
  ⟨0x0604, [(8, 1), (12, 4), (16, 8)]⟩,
  ⟨0x0605, []⟩,
  ⟨0x0606, []⟩,
  ⟨0x0701, [(8, 1), (9, 1), (10, 1), (11, 1), (12, 4), (16, 8), (24, 4), (28, 1)]⟩,
  ⟨0x0702, [(8, 1), (12, 4)]⟩,
  ⟨0x0703, [(8, 1), (9, 1)]⟩,
  ⟨0x0704, [(8, 1), (9, 1), (16, 8)]⟩,
  ⟨0x0705, [(16, 8)]⟩,
  ⟨0x0706, [(8, 1), (9, 1), (10, 1), (11, 1), (16, 8)]⟩,
  ⟨0x0801, [(8, 1), (9, 1), (10, 2), (16, 8)]⟩,
  ⟨0x0802, [(8, 1)]⟩,
  ⟨0x0901, [(8, 1), (9, 1), (10, 1), (11, 1), (12, 2), (14, 2), (16, 8)]⟩,
  ⟨0x0902, [(8, 2), (10, 2), (12, 1), (13, 1)]⟩,
  ⟨0x0903, [(16, 8)]⟩,
  ⟨0x0904, [(8, 1), (9, 1), (10, 1), (11, 1), (12, 2), (16, 16)]⟩,
  ⟨0x0905, [(8, 1), (9, 1), (16, 8)]⟩]

/-- Opcodes of groups 0x0A to 0x0C. -/
def opRowsLane : List OpRow := [
  ⟨0x0A01, [(8, 1), (9, 1), (10, 1), (12, 2)]⟩,
  ⟨0x0A02, [(8, 1), (9, 1), (10, 1), (11, 1), (12, 1), (13, 1)]⟩,
  ⟨0x0A03, [(8, 2), (10, 1)]⟩,
  ⟨0x0A04, [(8, 1), (9, 1), (10, 1), (11, 1), (12, 1), (16, 8)]⟩,
  ⟨0x0A05, [(8, 1)]⟩,
  ⟨0x0B01, [(8, 1), (9, 1), (10, 2), (12, 2), (14, 1), (16, 2), (18, 2), (20, 2), (22, 1), (23, 1), (24, 1), (25, 1), (26, 2), (28, 4)]⟩,
  ⟨0x0B02, [(8, 1), (9, 1)]⟩,
  ⟨0x0B03, [(8, 1), (10, 2), (12, 2), (14, 2)]⟩,
  ⟨0x0B04, [(8, 4), (12, 2)]⟩,
  ⟨0x0B05, [(8, 1)]⟩,
  ⟨0x0B06, []⟩,
  ⟨0x0B07, [(8, 1), (9, 1)]⟩,
  ⟨0x0B08, [(8, 1)]⟩,
  ⟨0x0C01, [(8, 1), (9, 1), (10, 1), (12, 4)]⟩,
  ⟨0x0C02, [(8, 1)]⟩,
  ⟨0x0C03, []⟩]

/-- Opcodes of groups 0x0D to 0x10. -/
def opRowsMon : List OpRow := [
  ⟨0x0D01, [(8, 1), (9, 1), (10, 2), (12, 1), (16, 16), (32, 4)]⟩,
  ⟨0x0D02, [(8, 1), (9, 1)]⟩,
  ⟨0x0D03, [(8, 1)]⟩,
  ⟨0x0D04, [(16, 8)]⟩,
  ⟨0x0D05, []⟩,
  ⟨0x0D06, [(8, 4), (16, 8), (24, 4)]⟩,
  ⟨0x0D07, [(8, 1), (10, 2), (12, 2), (16, 8)]⟩,
  ⟨0x0E01, [(16, 8)]⟩,
  ⟨0x0E02, []⟩,
  ⟨0x0E03, []⟩,
  ⟨0x0F01, [(12, 4)]⟩,
  ⟨0x0F02, [(12, 4), (16, 8), (24, 4)]⟩,
  ⟨0x0F03, []⟩,
  ⟨0x0F04, []⟩,
  ⟨0x0F05, [(8, 1), (12, 4), (16, 8)]⟩,
  ⟨0x1001, [(8, 1), (12, 4), (16, 8), (24, 4), (28, 4)]⟩,
  ⟨0x1002, [(8, 1), (9, 1), (10, 1), (12, 4)]⟩,
  ⟨0x1003, [(8, 1)]⟩,
  ⟨0x1004, [(8, 1), (9, 1), (10, 1), (12, 48)]⟩,
  ⟨0x1005, [(8, 1)]⟩]

/-- The row of an opcode; one that this reference does not list is unknown (R461). -/
def opRow (op : Nat) : Option OpRow :=
  (opRowsSys ++ opRowsCar ++ opRowsCal ++ opRowsLane ++ opRowsMon).find? (fun r => r.op = op)

/-- Data of PORT_SET by its item (R472). -/
def portBytes (item : Nat) : List (Nat × Nat) :=
  if item = 0 then [(12, 1), (13, 1), (14, 2), (16, 6)] else if item = 1 then [(12, 16)]
  else if item = 2 then [(12, 1), (13, 1), (14, 1), (16, 6)] else if item = 3 then [(12, 2), (14, 2), (16, 4), (20, 4)]
  else if item = 4 then [(12, 2), (14, 2), (16, 1)] else []

/-- Does the row of a command list byte `b` (8 to 63)? -/
def listsByte (c : Cmd) (r : OpRow) (b : Nat) : Bool :=
  (r.bytes ++ (if r.op = 0x0308 then portBytes (c.params.toNat / 2 ^ 8 % 2 ^ 8) else [])).any (fun p => decide (p.1 ≤ b) && decide (b < p.1 + p.2))

/-- The first reserved byte of a command that is not zero (R438, R462). -/
def badByte (c : Cmd) (r : OpRow) : Option Nat :=
  ((List.range 56).map (· + 8)).find? (fun b => !listsByte c r b && c.params.toNat / 2 ^ (8 * (b - 8)) % 2 ^ 8 != 0)

/-- A command has the opcode of its row, and its reserved bytes are zero. -/
def cmdForm (op : Nat) (c : Cmd) : Bool := c.opcode.toNat = op && (match opRow op with
  | some r => (badByte c r).isNone
  | none => false)

end Sys2Proof.Machine
end

