-- ==== Sys2Proof/Machine/Staging.lean ====
section
/-! DEFINITION. What Hyrno checks before it stages a forecast entry, and staging itself (R473 to R477, with R69, R74, R79,
R96, R102, R194 to R200, R209, R234, R244, R252, R479). -/

namespace Sys2Proof.Machine

/-! ### The fields of an image (R476) -/

/-- The entries staged and those in the ring. -/
def State.known (s : State) : List (List Word) := s.hy.staged.map Staged.words ++ s.live.map s.slotWords

/-! ### Job numbers (R476, R477) -/

/-- The job that `LINK` stands for: that of the latest sounding capture whose descriptor names a region of a WPAGE, or the latest
training of a path of a DPD_SWAP. -/
def State.linkJob (s : State) (x : Nat) (w : List Word) : Option Nat :=
  ((s.hy.jobOwner.find? (fun j => j.1 = x && (if wAct w = Act.wpage then decide (64 ≤ j.2.2) && (wParam w).testBit (j.2.2 - 64)
    else decide (j.2.2 < 64) && (wPmask w).testBit j.2.2))).map (fun j => j.2.1))

/-- `LINK` counts on a WPAGE and a DPD_SWAP. -/
def wLinked (w : List Word) : Bool := wLink w && (wAct w = Act.wpage || wAct w = Act.dpdSwap)

/-- The descriptor that a sounding capture is tied to (R254). -/
def State.tiedTo (s : State) (x : Nat) (w : List Word) : Option Recip :=
  if wAct w = Act.srsCap then s.bf.recip.find? (fun d => d.car = wCar w && d.ctx = x) else none

/-! ### Ownership (R96, R244, R477) -/

def State.stageOwn (s : State) (x : Nat) (w : List Word) : List Check :=
  let a := wAct w
  let q := (List.range 4).find? (fun q => ((quadsOf (wPmask w)).contains q || (wQmask w).testBit q) && !s.holds x 1 q)
  let r := (bitsOf (wParam w) 64).find? (fun r => !(s.rgOwner r = x && s.rgGranted r))
  let t := (bitsOf (wTmask w) 8).find? (fun t => !s.holds x 8 t)
  [notOwner ((isCarrierAct a || (a = Act.gain && (wParam w).testBit 16)) && !s.holds x 2 (wCar w)) 2 (wCar w),
   notOwner q.isSome 1 (q.getD 0), notOwner (a = Act.obsCap && t.isSome) 8 (t.getD 0), notOwner (a = Act.wpage && r.isSome) 3 (r.getD 0),
   ⟨wJob w != 0 && !wLinked w && !s.hy.jobOwner.any (fun j => j.1 = x && j.2.1 = wJob w), St.notOwner, (Config.jobDetail (BitVec.ofNat 16 (wJob w))).toNat⟩]

/-! ### Parameters -/

/-- The actions a host may send (R477). -/
def hostActs : List Nat := [Act.dlSym, Act.ulSym, Act.guard_, Act.chan, Act.gain, Act.dpdSwap, Act.cfirSwap, Act.wpage, Act.srsCap,
  Act.obsCap, Act.disarm, Act.dfeSync, Act.mark]

/-- A CHAN covers some of the quadrants of a running carrier and not all (R234). -/
def State.splitsCarrier (s : State) (qmask : Nat) : Bool :=
  (List.range 16).any (fun c => s.carRun c && (quadsOf (s.carPmask c)).any qmask.testBit && !(quadsOf (s.carPmask c)).all qmask.testBit)

/-- A sounding capture's parameters (R252): offset, count, and a buffer inside the context's lease or the firmware's area whose
size the symbol has time for. -/
def State.srsOk (s : State) (x : Nat) (w : List Word) : Bool :=
  let q := wParam w
  decide (srsOfs q < 2 ^ srsComb q) && decide (1 ≤ srsNprb q) && decide (srsNprb q ≤ 1111) &&
    decide (4096 * srsBuf q + srsBytes q ≤ 0x400000) && s.srsBlocksOk x q && decide (srsBytes q ≤ 64 * (70144 / 2 ^ s.carNum (wCar w)))

/-- A capture tied to a descriptor keeps every layer's comb and comb offset (R479). -/
def tieOk (d : Recip) (q : Nat) : Bool := d.layers.all (fun l => 2 ^ nth l 3 0 = srsComb q && (srsOfs q).testBit (nth l 1 0))

/-- Paths on which a UL_SYM of the carrier schedules a symbol (R252). -/
def State.ulPaths (s : State) (c stamp : Nat) : Nat :=
  (s.known.filter (fun v => wAct v = Act.ulSym && wCar v = c && (wStamps v).contains stamp)).foldl (fun m v => m ||| wPmask v) 0 |||
    (s.tl.syms.filter (fun (y : Sym) => y.ul && y.car = c && y.stamp = stamp)).foldl (fun m (y : Sym) => m ||| y.pmask) 0

/-- The parameters of the owning block's chapter. The offsets count from the command's start: the image stands at byte 8. -/
def State.stageParams (s : State) (x : Nat) (w : List Word) : List Check :=
  let a := wAct w
  let q := wParam w
  let regions := bitsOf q 64
  [badParam (wCtx w != x || !stValid (wTgt w)) 8,
   badParam (!hostActs.contains a || wNsym w = 0 || wNsym w = 15 || ((a = Act.srsCap || a = Act.obsCap) && wNsym w != 1)) 12,
   badParam (a = Act.chan && s.splitsCarrier (wQmask w)) 12,
   badParam (a = Act.obsCap && (bitsOf (wTmask w) 8).any (fun t => decide (1 < ((tilePaths t).filter (fun p => (s.paths (wPmask w)).contains p)).length))) 16,
   badParam (a = Act.srsCap && ((wPmask w ||| s.ulPaths (wCar w) (wTgt w)) != s.ulPaths (wCar w) (wTgt w))) 16,
   badParam (a = Act.gain && ((q.testBit 15 && decide (240 < q % 2 ^ 8)) || (q.testBit 16 && decide (72 < q / 2 ^ 8 % 2 ^ 7)))) 24,
   badParam (a = Act.chan && !tuneOk (chanF q) (chanR q)) 24,
   badParam ((a = Act.dfeSync || a = Act.cfirSwap) && q % 4 = 0) 24,
   badParam (a = Act.wpage && regions.any (fun r => !s.rgPaged r || s.rgType r = 2)) 24,
   badParam (a = Act.srsCap && (!s.srsOk x w || (match s.tiedTo x w with
     | some d => !tieOk d q
     | none => false))) 24,
   badParam (wLinked w && (s.linkJob x w).isNone) 32]

/-! ### Timing -/

/-- The spans of scheduled symbols of a direction that share a tile with a mask. -/
def State.symSpans (s : State) (ul : Bool) (pmask : Nat) : List (Int × Int) :=
  ((s.tl.syms.filter (fun (y : Sym) => y.ul = ul && (List.range 8).any (fun t => y.pmask / 2 ^ (8 * t) % 2 ^ 8 != 0 &&
    pmask / 2 ^ (8 * t) % 2 ^ 8 != 0))).map (fun (y : Sym) => (s.rel y.start, s.rel y.start + (stLen y.stamp : Int))))

/-- A turn-round of less than 1.50 µs with a symbol of the other direction on the same tile, in TDD service (R79, R80). -/
def State.turnClash (s : State) (w : List Word) : Bool :=
  let opp := if wAct w = Act.dlSym then Act.ulSym else Act.dlSym
  let tiles (m n : Nat) : Bool := (List.range 8).any (fun t => m / 2 ^ (8 * t) % 2 ^ 8 != 0 && n / 2 ^ (8 * t) % 2 ^ 8 != 0)
  let theirs := ((s.known.filter (fun v => wAct v = opp && tiles (wPmask v) (wPmask w))).map s.spansOf).flatten ++
    s.symSpans (opp = Act.ulSym) (wPmask w)
  (s.spansOf w).any (fun a => theirs.any (fun b => decide (a.1 < b.2 + 738) && decide (b.1 < a.2 + 738)))

/-- A DFE_SYNC with a TX part on carrier and target: the carrier itself transmits the symbol before (R196). -/
def State.syncClash (s : State) (w : List Word) : Bool :=
  let b := stAdd (wTgt w) (-1)
  s.tl.syms.any (fun (y : Sym) => !y.ul && y.car = wCar w && y.stamp = b && y.pmask &&& wPmask w != 0) ||
    s.known.any (fun v => wAct v = Act.dlSym && wCar v = wCar w && wPmask v &&& wPmask w != 0 && (wStamps v).contains b)

/-- A receive symbol that a DFE_SYNC of its carrier blanks (R74). -/
def State.fillClash (s : State) (w : List Word) : Bool :=
  s.known.any (fun v => wAct v = Act.dfeSync && wCar v = wCar w && (wParam v).testBit 1 && (wStamps w).contains (wTgt v))

/-- The target lies between 600 µs and 1 s ahead (R473). -/
def State.aheadOk (s : State) (stamp : Nat) : Bool :=
  let d := s.rel (stStart stamp)
  decide (294912 ≤ d) && decide (d ≤ 491520000)

/-- The timing rules that staging checks (R477). -/
def State.stageTiming (s : State) (w : List Word) : Bool :=
  let a := wAct w
  let same (v : List Word) : Bool := wAct v = a && wTgt v = wTgt w
  !s.aheadOk (wTgt w) || (a = Act.ulSym && s.fillClash w) || (a = Act.dfeSync && (wParam w).testBit 0 && s.syncClash w) ||
    ((a = Act.dlSym || a = Act.ulSym) && s.mode = .tdd && s.turnClash w) ||
    (a = Act.cfirSwap && (wParam w).testBit 1 &&
      decide (4 * normalCp (s.carNum (wCar w)) < s.get (R.DFE_CAR_STAT (wCar w)) F.DFE_CAR_STAT_CSPAN * 2 ^ s.get (R.DFE_CAR_CFG (wCar w)) F.DFE_CAR_CFG_LOGD)) ||
    (a = Act.cfirSwap && s.known.any (fun v => same v && wCar v = wCar w && wParam v % 4 &&& wParam w % 4 != 0)) ||
    (a = Act.dpdSwap && s.known.any (fun v => same v && wPmask v &&& wPmask w != 0)) ||
    (a = Act.wpage && s.known.any (fun v => same v && wParam v &&& wParam w != 0))

/-! ### Room (R69, R269, R475) -/

/-- Entries of Hyrno's own in the room that it holds back (R475). -/
def State.heldOf (s : State) (x : Nat) : Nat :=
  (s.hy.staged.filter (fun (e : Staged) => e.ctx = x && e.held)).length + (s.live.filter (fun i => s.eCtx i = x && !s.tl.hostSlots.contains i)).length

/-- Is there room for a host's entry: staged and live entries within the quota less the 32 held back? -/
def State.hostRoom (s : State) (x : Nat) : Bool :=
  decide (s.partUsed x + s.stagedOf x + 32 < s.get (R.TL_PART_QUOTA x) F.TL_PART_QUOTA_QUOTA + min 32 (s.heldOf x))

/-! ### Staging -/

/-- An entry names a converter that has FAILED (R157): a UL_SYM one of its path, an OBS_CAP that of a tile's observation receiver. -/
def State.namesFailed (s : State) (w : List Word) : Bool :=
  (wAct w = Act.ulSym && (s.paths (wPmask w)).any s.rxFailed) || (wAct w = Act.obsCap && (bitsOf (wTmask w) 8).any s.obsFailed)

/-- The checks of R469 on one image of context `x`, in R474's modes. -/
def State.stageChecks (s : State) (x : Nat) (w : List Word) : List Check :=
  s.stageOwn x w ++
  [s.badState (!isRadio s.mode || !s.modeTakes (wAct w) (wKind w) || s.namesFailed w) 8 0] ++
  s.stageParams x w ++
  [badTiming (s.stageTiming w) 8, ⟨!s.hostRoom x || s.instantFull w, St.noSpace, 4⟩,
   ⟨(s.tiedTo x w).isSome && s.allocJob.isNone, St.noSpace, 12⟩]

/-- Stage a host's entry: `SEQ` and, for a tied sounding capture, a job number are assigned, `LINK` is resolved (R476, R477).
Answers the job number, or 0. -/
def State.stageHost (s : State) (x : Nat) (w : List Word) : Nat × State :=
  let job := if wLinked w then (s.linkJob x w).getD 0 else wJob w
  let target := (s.now : Int) + s.rel (stStart (wTgt w))
  let r := match s.tiedTo x w with
    | some d => match s.allocJob with
      | some (j, t) =>
        let u := t.giveJob x j (64 + d.region)
        (j, { u with hy := { u.hy with srsJobs := (s.hy.nextSeq, j) :: u.hy.srsJobs.filter (fun y => y.1 != s.hy.nextSeq) } })
      | none => (0, s)
    | none => (0, s)
  (r.1, r.2.stageEntry x target.toNat (w.set 6 (BitVec.ofNat 32 job)) false)

end Sys2Proof.Machine
end

