-- ==== Sys2Proof/Machine/CmdCar.lean ====
section
/-! DEFINITION. The carrier, flow and port commands (group 0x03; R100, R135, R184, R185, R191 to R195, R200, R230 to R234, R351,
R353, R361, R364, R373, R387 to R389, R472, R478). -/

namespace Sys2Proof.Machine

/-! ### Carrier checks -/

/-- The carrier is the issuer's (R464). -/
def State.carOwn (s : State) (c : Cmd) (k : Nat) : Check := notOwner (decide (k < 16) && !s.holds c.ctx 2 k) 2 k

/-- Every quadrant that a path mask touches is the issuer's (R464). -/
def State.quadOwn (s : State) (c : Cmd) (pmask : Nat) : Check :=
  let q := (quadsOf pmask).find? (fun q => !s.holds c.ctx 1 q)
  notOwner q.isSome 1 (q.getD 0)

/-- log₂ D of a bandwidth in kHz (R185): the largest of 1 to 8 with 1966.08 Msps / D ≥ 1.2288 × B. -/
def logD (bw : Nat) : Nat := (([1, 2, 3, 4, 5, 6, 7, 8] : List Nat).filter (fun k => decide (bw * 2 ^ k ≤ 1600000))).foldl max 1

/-- log₂ N of a beamformed carrier (R230): N = f_car / Δf = 2^17 / (D × 2^NUM). -/
def logN (d num : Nat) : Nat := 17 - d - num

/-- The occupied edges lie within the LO ± 400 MHz (R100): offset in Hz, bandwidth in kHz. -/
def edgesOk (hz : Int) (bw : Nat) : Bool := decide (2 * hz.natAbs + 1000 * bw ≤ 800000000)

/-- The other configured carriers. -/
def State.otherCars (s : State) (k : Nat) : List Nat := (List.range 16).filter (fun j => j != k && s.carCfg j)

/-- The limits of a path (R26, R184, R231): four carriers, 800 MHz in all, f_car summing to 983.04 Msps; no mix of the modes. -/
def State.pathLoadBad (s : State) (k pmask bw d : Nat) (pathm : Bool) : Bool :=
  (bitsOf pmask 64).any (fun p =>
    let l := (s.otherCars k).filter (fun j => (s.carPmask j).testBit p)
    decide (4 ≤ l.length) || decide (800000 < (l.map s.carBw).sum + bw) ||
      (!pathm && decide (128 < ((l.filter (fun j => !s.carPathMode j)).map (fun j => 2 ^ (8 - s.get (R.DFE_CAR_CFG j) F.DFE_CAR_CFG_LOGD))).sum + 2 ^ (8 - d))))
def State.pathMixed (s : State) (k pmask : Nat) (pathm : Bool) : Bool :=
  (s.otherCars k).any (fun j => s.carPmask j &&& pmask != 0 && s.carPathMode j != pathm)

/-- Σ L × B over the beamformed carriers, with `n` layers more on `bw` kHz, passes 25,600 MHz (R232). -/
def State.layersBad (s : State) (k : Nat) (f : Fld) (n bw : Nat) : Bool :=
  decide (32 < n) || decide (25600000 < (((s.otherCars k).filter (fun j => !s.carPathMode j)).map (fun j =>
    s.get (R.BF_CAR_STAT j) f * s.carBw j)).sum + n * bw)

/-! ### Chains (R188, R191 to R195, R198) -/

/-- A chain: stages, their lengths, RX and TX shifts, log₂ Rc and h. -/
structure Chain where
  nst : Nat
  len : List Nat
  sh : List Nat
  tsh : List Nat
  logRc : Nat
  h : Nat
  deriving DecidableEq, Repr

/-- The standard chain of R191. The TX shifts make the interpolation gain exactly 1 (R193): log₂ L on all stages but the last. -/
def stdChain (d : Nat) : Chain :=
  let n := nth [1, 1, 1, 2, 3, 4, 4, 4, 4] d 1
  let l := nth [0, 0, 0, 1, 2, 3, 4, 5, 6] d 0
  ⟨n, List.replicate n (2 ^ l), List.replicate n l, List.replicate (n - 1) l ++ [0], l, if d = 1 then 1 else 2⟩

/-- The span `a` of the half-band stages in FIR outputs (R194). -/
def bandSpan (h : Nat) : Nat := nth [0, 54, 130] h 0

/-- FILL_LEN and CSPAN of a chain (R194, R195, R198). -/
def Chain.fill (x : Chain) : Nat :=
  let d := 2 ^ (x.logRc + x.h)
  ((x.len.map (fun l => l - 1)).sum + 2 ^ x.logRc * (31 + bandSpan x.h) + d - 1) / d
def Chain.cspan (x : Chain) : Nat := (bandSpan x.h + 2 ^ x.h - 1) / 2 ^ x.h

/-- DC gain above 1 (R191): of the decimation section (R188) and of the interpolator (R193). -/
def Chain.rxLoud (x : Chain) : Bool := decide (2 ^ x.sh.sum < x.len.foldl (· * ·) 1)
def Chain.txLoud (x : Chain) : Bool := decide (2 ^ (x.logRc + x.tsh.sum) < x.len.foldl (· * ·) 1)

/-- Install a chain (R191, R627). -/
def State.install (s : State) (k : Nat) (x : Chain) : State :=
  let five (l : List Nat) : Nat := nth l 0 0 + 2 ^ 5 * nth l 1 0 + 2 ^ 10 * nth l 2 0 + 2 ^ 15 * nth l 3 0
  let w0 := nth x.len 0 1 - 1 + 2 ^ 8 * (nth x.len 1 1 - 1) + 2 ^ 16 * (nth x.len 2 1 - 1) + 2 ^ 24 * (nth x.len 3 1 - 1)
  let t := (s.wrN (R.DFE_CAR_CIC k) w0).wrN (R.DFE_CAR_CIC_HI k) (five x.sh + 2 ^ 20 * (x.nst - 1) + 2 ^ 24 * x.logRc)
  let t := (t.wrN (R.DFE_CAR_TXSH k) (five x.tsh)).put (R.DFE_CAR_CFG k) F.DFE_CAR_CFG_H x.h
  let t := { t with dfe := { t.dfe with chains := t.dfe.chains.filter (fun y => y.car != k) } }
  (t.put (R.DFE_CAR_STAT k) F.DFE_CAR_STAT_FILL_LEN x.fill).put (R.DFE_CAR_STAT k) F.DFE_CAR_STAT_CSPAN x.cspan

/-- Results of CAR_CONFIG and CAR_CHAIN: FILL_LEN, CSPAN and log₂ N. -/
def State.chainResult (s : State) (k : Nat) : Nat :=
  resN 16 2 (s.get (R.DFE_CAR_STAT k) F.DFE_CAR_STAT_FILL_LEN) + resN 18 1 (s.get (R.DFE_CAR_STAT k) F.DFE_CAR_STAT_CSPAN) +
    resN 19 1 (s.get (R.BF_CAR_STAT k) F.BF_CAR_STAT_LOGN)

/-! ### CAR_CONFIG, CAR_CHAIN, CAR_CFIR -/

/-- CAR_CONFIG writes the DFE, BF and TL descriptors. -/
def State.configCar (s : State) (c : Cmd) : State :=
  let k := arg c 8 1
  let pathm := argBit c 9 2
  let bw := arg c 12 4
  let d := logD bw
  let num := argBits c 9 0 2
  let cfg := bw + 2 ^ 20 * num + 2 ^ 22 * argBits c 9 2 1 + 2 ^ 24 * d + 2 ^ 30
  let t := (((s.wrN (R.DFE_CAR_CFG k) cfg).wrN (R.DFE_CAR_NCO_TX k) (arg c 24 4)).wrN (R.DFE_CAR_NCO_RX k) (arg c 28 4)).put64 (R.DFE_CAR_PMASK k) (arg c 16 8)
  let t := t.wrN (R.DFE_CAR_GAIN k) (arg c 40 2 + 2 ^ 16 * arg c 42 2)
  let t := t.wrN (R.BF_CAR_CFG k) (arg c 32 2 % 2 ^ 11 + 2 ^ 12 * num + 2 ^ 14 * argBits c 9 3 1 + 2 ^ 16 * arg c 38 1 + 2 ^ 24 * arg c 39 1)
  let t := (t.put (R.BF_CAR_STAT k) F.BF_CAR_STAT_LOGN (if pathm then 0 else logN d num)).setFlag (R.BF_CAR_STAT k) F.BF_CAR_STAT_PATHMODE pathm
  let t := (t.put (R.BF_CAR_STAT k) F.BF_CAR_STAT_LDL (arg c 34 1)).put (R.BF_CAR_STAT k) F.BF_CAR_STAT_LUL (arg c 35 1)
  (t.put (R.TL_CAR_ULADV k) F.TL_CAR_ULADV_ADV (arg c 36 2)).install k (stdChain d)

def execCarConfig (c : Cmd) (s : State) : Host.Outcome State Fault Refusal :=
  let k := arg c 8 1
  let num := argBits c 9 0 2
  let pathm := argBit c 9 2
  let bw := arg c 12 4
  let pm := arg c 16 8
  let d := logD bw
  let n := logN d num
  let t := s.configCar c
  runCmd s c false [(2, k)] [s.carOwn c k, s.quadOwn c pm, s.badState (decide (k < 16) && s.carRun k) 5 k, badParam (decide (16 ≤ k)) 8,
      badParam ((num = 3 && d = 8) || s.pathMixed k pm pathm) 9, badParam (bw = 0 || decide (800000 < bw) || (pathm && decide (100000 < bw))) 12,
      badParam (!pathm && (decide (n < 7) || decide (14 < n))) 12, badParam (s.pathLoadBad k pm bw d pathm) 16,
      badParam (!edgesOk (signed 32 (arg c 24 4)) bw) 24, badParam (!edgesOk (signed 32 (arg c 28 4)) bw) 28,
      badParam (!pathm && (arg c 32 2 = 0 || decide (bw < 12 * arg c 32 2 * (15 * 2 ^ num)))) 32,
      badParam (!pathm && s.layersBad k F.BF_CAR_STAT_LDL (arg c 34 1) bw) 34, badParam (!pathm && s.layersBad k F.BF_CAR_STAT_LUL (arg c 35 1) bw) 35,
      badParam (!pathm && decide (4 * normalSym num < arg c 36 2)) 36, badParam (decide (128 < arg c 38 1)) 38]
    (.done t St.ok 0 (t.chainResult k))

/-- The chain that CAR_CHAIN's parameters give. -/
def chainOf (c : Cmd) : Chain :=
  let n := arg c 9 1
  let at_ (o : Nat) : List Nat := (List.range (min n 4)).map (fun i => arg c (o + i) 1)
  ⟨n, at_ 10, at_ 14, at_ 18, arg c 22 1, arg c 23 1⟩

def execCarChain (c : Cmd) (s : State) : Host.Outcome State Fault Refusal :=
  let k := arg c 8 1
  let std := argBit c 24 0
  let x := chainOf c
  let d := s.get (R.DFE_CAR_CFG k) F.DFE_CAR_CFG_LOGD
  let t := s.install k (if std then stdChain d else x)
  let within (o lo hi : Nat) : List Check := (List.range (min x.nst 4)).map (fun i =>
    badParam (!std && (decide (arg c (o + i) 1 < lo) || decide (hi < arg c (o + i) 1))) (o + i))
  runCmd s c false [(2, k)] ([s.carOwn c k, s.badState (decide (k < 16) && !s.carCfg k) 10 k, s.badState (decide (k < 16) && s.carRun k) 5 k, badParam (decide (16 ≤ k)) 8,
      badParam (!std && (x.nst = 0 || decide (4 < x.nst))) 9] ++
      within 10 1 64 ++ [badParam (!std && x.rxLoud) 14] ++ within 14 0 31 ++ [badParam (!std && x.txLoud) 18] ++ within 18 0 31 ++ [badParam (!std && (decide (6 < x.logRc) || x.logRc + x.h != d)) 22,
      badParam (!std && decide (2 < x.h)) 23])
    (.done t St.ok 0 (t.chainResult k))

/-- The inactive FIR bank of a carrier and direction, 0 TX and 1 RX (R189). -/
def State.idleBank (s : State) (k dir : Nat) : Nat :=
  1 - s.get (R.DFE_CAR_STAT k) (if dir = 0 then F.DFE_CAR_STAT_CBANK_TX else F.DFE_CAR_STAT_CBANK_RX)

/-- CAR_CFIR: 32 words of 18 bits into the inactive bank; BUSY under R200. -/
def execCarCfir (c : Cmd) (s : State) : Host.Outcome State Fault Refusal :=
  let k := arg c 8 1
  let dirs := arg c 9 1
  let a := arg c 16 8
  let one (t : State) (d : Nat) : State := if !dirs.testBit d then t else
    (List.range 32).foldl (fun (t : State) j => t.wrN (R.DFE_CFIR (4 * k + 2 * d + s.idleBank k d) j) (s.memN (a + 4 * j) 4 % 2 ^ 18)) t
  runCmd s c false [(2, k)] ([s.carOwn c k,
      busyCheck (decide (k < 16) && s.tl.pend.any (fun i => s.eAct i = Act.cfirSwap && s.eCar i = k && s.eParam i % 4 &&& dirs % 4 != 0)) 3,
      badParam (decide (16 ≤ k)) 8, badParam (dirs = 0 || decide (3 < dirs)) 9] ++ s.spanChecks c 16 64 128)
    (.done (one (one s 0) 1) St.ok 0 0)

/-! ### CAR_START and CAR_STOP -/

/-- The quadrants of a carrier's mask share one LO frequency (R234). -/
def State.oneLo (s : State) (k : Nat) : Bool := match quadsOf (s.carPmask k) with
  | [] => true
  | q :: l => l.all (fun r => s.lo r = s.lo q)

/-- The reservations of the running carriers with `k` among them fit the symbol store and every port (R364, R373). -/
def State.startFits (s : State) (k : Nat) : Bool :=
  let l := (List.range 16).filter (fun j => j = k || s.carRun j)
  decide ((l.map s.storeNeed).sum ≤ 0x800000) && (List.range 4).all (fun g => s.loadOk g l)

/-- The carrier starts: its synchronising reset is staged on the symbol before `first`. -/
def State.startCar (s : State) (x k first : Nat) : State :=
  let b := stAdd first (-1)
  let t := s.stageEntry x ((s.now : Int) + s.rel (stStart b)).toNat (mkEntry b x Act.dfeSync k 0 0 1 0 (s.carPmask k) 3 0 0) true
  let t := (t.setFlag (R.DFE_CAR_CFG k) F.DFE_CAR_CFG_RUN true).setF0 k
  ((t.rmsWindows (s.carPmask k)).cfrChange (s.carPmask k)).bfShow.showResv

def execCarStart (c : Cmd) (s : State) : Host.Outcome State Fault Refusal :=
  let k := arg c 8 1
  let first := arg c 12 4
  let w := mkEntry (stAdd first (-1)) c.ctx.val Act.dfeSync k 0 0 1 0 (s.carPmask k) 3 0 0
  runCmd s c true [(2, k)] [s.carOwn c k, s.quadOwn c (if k < 16 then s.carPmask k else 0), s.badState (!(s.mode = .tdd || s.mode = .fdd || s.mode = .listen)) 8 k,
      s.badState (decide (k < 16) && !s.carCfg k) 10 k, s.badState (decide (k < 16) && s.carRun k) 5 k, ⟨decide (k < 16) && s.mode != .listen && !s.carPermitted k, St.locked, 0⟩,
      badParam (decide (16 ≤ k) || !s.oneLo k || !s.startFits k) 8, badParam (!stValid first) 12,
      badTiming (!s.aheadOk (stAdd first (-1)) || s.syncClash w) 12, ⟨!s.ownRoom c.ctx, St.noSpace, 4⟩]
    (.done (s.startCar c.ctx k first) St.ok 0 0)

/-- CAR_STOP: it completes when the reservation is released (R361, R373, R478). -/
def execCarStop (c : Cmd) (s : State) : Host.Outcome State Fault Refusal :=
  let k := arg c 8 1
  let last := arg c 12 4
  let all := last = 0
  let end_ := s.rel (stStart last)
  let mine (e : Staged) : Bool := isCarrierAct (stagedAct e) && stagedCar e = k && (all || decide ((s.now : Int) + end_ < e.target))
  let n := (s.hy.staged.filter mine).length
  let t := s.unstage mine
  runCmd s c false [(2, k)] [s.carOwn c k, s.badState (decide (k < 16) && !s.carRun k) 11 k, badParam (decide (16 ≤ k)) 8, badParam (!stValid last) 12,
      badTiming (!all && s.live.any (fun i => isCarrierAct (s.eAct i) && s.eCar i = k && decide (end_ < s.rel (stStart (s.eTgt i))))) 12]
    (.wait { t with hy := { t.hy with stopping := t.hy.stopping.filter (fun x => x.1 != k) ++ [(k, 0)] } } (.carStopped k) [resN 16 4 n])

/-! ### Flows and ports -/

/-- Write a flow entry (R389): `OWNER` is the issuer, the counters are cleared; an enabled entry that is freed ends (R361). -/
def State.setFlow (s : State) (f x w0 w1 w2 : Nat) : State :=
  let t := if s.flEn f && !w0.testBit 17 then s.flowEnd f else s
  let t := (t.wrN (R.FH_FLOW f 0) (w0 % 2 ^ 30)).wrN (R.FH_FLOW f 1) (w1 / 2 ^ 4 * 2 ^ 4 + x)
  let t := (t.wrN (R.FH_FLOW f 2) (w2 % 2 ^ 15)).wr (R.FH_FLOW f 3) 0
  ([4, 5, 6, 7] : List Nat).foldl (fun (t : State) i => t.wr (R.FH_FLOW f i) 0) t

/-- FLOW_SET. -/
def execFlowSet (c : Cmd) (s : State) : Host.Outcome State Fault Refusal :=
  let f := arg c 8 2
  let w0 := arg c 12 4
  let w1 := arg c 16 4
  let k := w0 / 2 ^ 20 % 16
  let iqw := w1 / 2 ^ 4 % 16
  let t := s.setFlow f c.ctx w0 w1 (arg c 20 4)
  runCmd s c false [(2, k)] [s.carOwn c k, notOwner (decide (f < 1024) && s.flEn f && s.flOwner f != c.ctx.val) 2 (s.flCar f),
      s.badState (s.carRun k) 5 k, s.badState (decide (f < 1024) && s.flEn f && s.carRun (s.flCar f)) 5 (s.flCar f), badParam (decide (1024 ≤ f)) 8,
      badParam ((w0.testBit 17 && (List.range 1024).any (fun g => g != f && s.flEn g &&
        s.get (R.FH_FLOW g 0) F.FH_FLOW_LOCAL = w0 % 2 ^ 16 && s.flUl g = w0.testBit 16)) ||
        (decide (1 ≤ iqw) && decide (iqw ≤ 6)) || decide (2 ≤ w1 / 2 ^ 8 % 4) || (!w0.testBit 19 && w0.testBit 29) ||
        (List.range 4).any (fun g => !t.loadOk g ((List.range 16).filter t.carRun))) 12]
    (.done t St.ok 0 0)

/-- FLOW_READ: words 4 to 6. -/
def execFlowRead (c : Cmd) (s : State) : Host.Outcome State Fault Refusal :=
  let f := arg c 8 2
  runCmd s c false [] [notOwner (decide (f < 1024) && !s.holds c.ctx 2 (s.flCar f)) 2 (s.flCar f), badParam (decide (1024 ≤ f)) 8]
    (.done s St.ok 0 (resN 16 4 (s.rd (R.FH_FLOW f 4)).toNat + resN 20 4 (s.rd (R.FH_FLOW f 5)).toNat + resN 24 4 (s.rd (R.FH_FLOW f 6)).toNat))

/-- Set bits of a 16-bit mask. -/
def ones (m : Nat) : Nat := (bitsOf m 16).length

/-- What an item of PORT_SET writes at once (R472). -/
def State.setPort (s : State) (c : Cmd) (g item : Nat) : State :=
  if item = 0 then
    let v := arg c 12 1 % 4 + 2 ^ 2 * (arg c 13 1 % 8) + 2 ^ 5 * argBits c 13 3 1 + 2 ^ 8 * arg c 14 2 + 2 ^ 22 * argBits c 13 4 3
    (s.wrN (R.FH_PORT_CFG g) v).put64 (R.FH_PORT_MAC g) (arg c 16 6)
  else if item = 1 then (List.range 8).foldl (fun (t : State) i =>
    let e := arg c (12 + 2 * i) 2
    t.wrN (R.FH_VLAN g i) (e % 2 ^ 12 + 2 ^ 31 * (e / 2 ^ 15))) s
  else if item = 2 then s.put64 (R.FH_MCAST (arg c 12 1)) (arg c 16 6 + 2 ^ 56 * (arg c 13 1 % 16) + 2 ^ 63 * argBits c 14 0 1)
  else if item = 4 then s.wrN R.FH_UADDR_CFG (arg c 12 2 + 2 ^ 16 * (arg c 14 2 % 2 ^ 12) + 2 ^ 28 * argBits c 16 0 1)
  else s

/-- PORT_SET item 3: the FH_LAUNCH word and the declared rates, in and out. -/
def launchOf (c : Cmd) : Nat := arg c 12 2 + 2 ^ 16 * arg c 14 2
def State.portLaunch (s : State) (g : Nat) (w : Word) (inn out : Nat) : State :=
  let t := { s with fh := { s.fh with fwdIn := s.fh.fwdIn.set g inn, fwdOut := s.fh.fwdOut.set g out } }
  (t.wr (R.FH_LAUNCH g) w).showResv

/-- PORT_SET. Item 3 applies from the next symbol of the smallest numerology in use. -/
def execPortSet (c : Cmd) (s : State) : Host.Outcome State Fault Refusal :=
  let g := arg c 8 1
  let item := arg c 9 1
  let role := arg c 12 1
  let mtu := arg c 14 2
  let t := s.portLaunch g (BitVec.ofNat 32 (launchOf c)) (arg c 16 4) (arg c 20 4)
  let u := if item = 3 then { s with fh := { s.fh with launchNext := s.fh.launchNext.filter (fun x => x.1 != g) ++
      [(g, BitVec.ofNat 32 (launchOf c), arg c 16 4, arg c 20 4)] } }
    else s.setPort c g item
  runCmd s c (item != 3) [] [s.needML c, s.badState (item != 3 && !(s.mode = .provisioned || s.mode = .standby || s.mode = .laneTest)) 8 g,
      badParam (item != 4 && decide (4 ≤ g)) 8, badParam (decide (4 < item)) 9,
      badParam (item = 0 && (decide (3 < role) || (s.gale g && decide (1 < role)))) 12, badParam (item = 0 && (decide (mtu < 1500) || decide (9000 < mtu))) 14,
      badParam (item = 2 && decide (15 < role)) 12, badParam (item = 3 && decide (4095 < arg c 12 2)) 12,
      badParam (item = 3 && (decide (mtu < 64) || decide (9000 < mtu))) 14,
      badParam (item = 3 && !t.loadOk g ((List.range 16).filter t.carRun)) 16, badParam (item = 4 && decide (12 < ones (arg c 12 2))) 12]
    (.done u St.ok 0 0)

end Sys2Proof.Machine
end

