-- ==== Sys2Proof/Machine/Training.lean ====
section
/-! DEFINITION. Pre-distortion training (R217 to R220), the coefficient loader (R210), and the captures, trainings and swaps that Hyrno
schedules itself (R475, R628). -/

namespace Sys2Proof.Machine

/-! ### Coefficients and terms (R205, R207, R219) -/

/-- A coefficient of a bank of a path (R207): Q3.20. -/
def State.bankCoef (s : State) (p b i : Nat) : Int × Int :=
  (signed 24 (s.rd (R.DFE_DPD_BANK (2 * p + b) (2 * i))).toNat, signed 24 (s.rd (R.DFE_DPD_BANK (2 * p + b) (2 * i + 1))).toNat)

/-- The slots of the blocks b, c, d and e (R205): first and count. -/
def termBlocks : List (Nat × Nat) := [(60, 96), (156, 64), (220, 12), (232, 1)]

/-- A block is left out of the basis (R219): it is marked unused, and its slots hold zero in both banks. -/
def State.blockOut (s : State) (p i : Nat) : Bool :=
  let b := nth termBlocks i (0, 0)
  (s.get (R.DFE_DPD_CFG p) F.DFE_DPD_CFG_UNUSED).testBit i &&
    (List.range b.2).all (fun j => s.bankCoef p 0 (b.1 + j) = (0, 0) && s.bankCoef p 1 (b.1 + j) = (0, 0))

/-- The terms of the basis, by slot (R205, R219). -/
def State.dpdTerms (s : State) (p : Nat) : List Nat :=
  (List.range 233).filter (fun j => !((List.range 4).any (fun i => s.blockOut p i && decide ((nth termBlocks i (0, 0)).1 ≤ j) &&
    decide (j < (nth termBlocks i (0, 0)).1 + (nth termBlocks i (0, 0)).2))))

/-! ### Jobs (R217 to R219, R272) -/

/-- Samples of a record (R215). -/
def CapRec.count (r : CapRec) : Nat := (r.bytes - 64) / 24

/-- The `k` latest unflagged records of a path (R217, DPD_TRAIN). -/
def State.trainRecs (s : State) (p k : Nat) : List CapRec :=
  let l := s.dfe.recs.filter (fun r => r.path = p && r.flags = 0)
  l.drop (l.length - k)

/-- Cost of a training job in core cycles (R219): N × T² / 32 over the usable samples. -/
def State.dpdCost (s : State) (p k : Nat) : Nat :=
  ((s.trainRecs p k).map CapRec.count).sum * (s.dpdTerms p).length ^ 2 / 32

/-- Submit a training job of a path over its `k` latest records for a context (R217); the job's arguments name them by ring slot. -/
def State.trainPath (s : State) (num p k ctx : Nat) : State :=
  let t := s.submitJob num 1 ([s.dpdCost p k, p, k, ctx] ++ (s.trainRecs p k).map CapRec.slot) 1
  { (t.giveJob ctx num p) with dfe := { t.dfe with train := t.dfe.train ++ [(num, p)] } }

/-- Hyrno trains a path with `AUTO` once K records are in and no job of it runs (DPD_CONFIG, R217). -/
def State.autoTrain (s : State) (p ctx : Nat) : State :=
  let c := R.DFE_DPD_CFG p
  let n := (s.dfe.recs.filter (fun r => r.path = p && !r.host && r.flags = 0)).length
  if s.flag c F.DFE_DPD_CFG_AUTO && !s.flag (R.DFE_DPD_STATUS p) F.DFE_DPD_STATUS_HALT && decide (s.get c F.DFE_DPD_CFG_K ≤ n) &&
      !s.dfe.train.any (fun x => x.2 = p) then
    match s.allocJob with
    | some (j, t) => t.trainPath j p (s.get c F.DFE_DPD_CFG_K) ctx
    | none => s
  else s

/-- The last burst of a record is accepted (R498): the buffer is free, DFE_CAP_DONE, and Hyrno may train. A record that Hyrno took for itself
and that has a flag set is discarded (R214). -/
def execCaptureDrainEnd (tile : Fin 8) (s : State) : Host.Outcome State Fault Refusal :=
  match nth s.dfe.cap tile none, s.capSt tile with
  | some k, 2 =>
    if k.drained < (capRecord k).length then .next s
    else
      let t := (s.put (R.DFE_CAP_STATUS tile) F.DFE_CAP_STATUS_STATE 0).incWrap (R.DFE_CAP_STATUS tile) F.DFE_CAP_STATUS_DONE
      let rec_ : CapRec := ⟨tile, k.ringSlot, k.path, k.tag, k.ctx, k.host, (capRecord k).length, k.flags⟩
      let keep := k.host || k.flags = 0
      let t := { t with dfe := { t.dfe with cap := t.dfe.cap.set tile none, recs := if keep then t.dfe.recs ++ [rec_] else t.dfe.recs } }
      if s.dfe.capDrop.contains tile.val then
        .next (({ t with dfe := { t.dfe with recs := s.dfe.recs, capDrop := s.dfe.capDrop.filter (· != tile.val) } }).revokeDone (8, tile.val))
      else .next ((t.raiseTo Ev.DFE_CAP_DONE (some k.ctx) [tile, k.path]).autoTrain k.path k.ctx)
  | _, _ => .next s

/-- A product of an FP32 word and a whole number of 2⁻⁴⁴, in Q3.20; its rounding is open (log entry 100). Nothing for a NaN or an infinity. -/
def muTimes (mu : Word) (d : Int) : Option Int :=
  match (fUnpack mu).1 with
  | .zero _ => some 0
  | .fin m e =>
    let x : Int := e - 24
    if 0 ≤ x then some (m * d * 2 ^ x.toNat)
    else
      let q : Int := 2 ^ (-x).toNat
      some (if m * d % q != 0 && Config.roundUp (m * d) q then m * d / q + 1 else m * d / q)
  | _ => none

/-- MU and lam of a path: as DPD_CONFIG gave them, else 0.5 and 10⁻⁴ (R217), in FP32. -/
def State.muOf (s : State) (p : Nat) : Word := ((s.dfe.mu.find? (fun x => x.1 = p)).map (·.2)).getD 0x3F000000
def State.lamOf (s : State) (p : Nat) : Word := ((s.dfe.lam.find? (fun x => x.1 = p)).map (·.2)).getD 0x38D1B717

/-- The records that a job works on: those its arguments name that are still held, unflagged. -/
def State.jobRecs (s : State) (p : Nat) (e : NvJob) : List CapRec :=
  s.dfe.recs.filter (fun r => r.tile = tileOf p && r.path = p && r.flags = 0 && (e.args.drop 4).contains r.slot)

/-- Samples that a job can use (R217). -/
def State.usable (s : State) (p : Nat) (e : NvJob) : Nat := ((s.jobRecs p e).map CapRec.count).sum

/-- The solve of a job (R217): the records with the bank each was taken under. -/
def State.fitOf (s : State) (p : Nat) (e : NvJob) : DpdFit :=
  Config.dpdFit ((s.jobRecs p e).map (fun r =>
      let b := s.bytes (s.capAddr r.tile r.slot) r.bytes
      (b, (List.range 233).map (s.bankCoef p ((nth b 7 0).toNat / 128))))) (s.dpdTerms p)
    ((s.dfe.gain.find? (fun g => g.1 = p)).map (·.2)) (s.lamOf p)

/-- A coefficient fits Q3.20 (R218). -/
def fits24 (v : Int) : Bool := decide (-8388608 ≤ v) && decide (v ≤ 8388607)

/-- c_new = c_old − MU × delta (R217), the reserved slots zero; none where a coefficient falls outside Q3.20 (R218). -/
def State.newBank (s : State) (p : Nat) (f : DpdFit) : Option (List (Int × Int)) :=
  let act := s.get (R.DFE_DPD_STATUS p) F.DFE_DPD_STATUS_ACT
  let terms := s.dpdTerms p
  (List.range 256).foldr (fun i (l : Option (List (Int × Int))) =>
    let d := if terms.contains i then nth f.delta i (0, 0) else (0, 0)
    let c := if i < 233 then s.bankCoef p act i else (0, 0)
    match l, muTimes (s.muOf p) d.1, muTimes (s.muOf p) d.2 with
    | some l, some a, some b => if fits24 (c.1 - a) && fits24 (c.2 - b) then some ((c.1 - a, c.2 - b) :: l) else none
    | _, _, _ => none) (some [])

/-- The 2 KiB of a bank (R207): a 64-bit slot to a coefficient. -/
def bankImage (l : List (Int × Int)) : List Byte := l.flatMap (fun c => leBytes 4 (unsigned 24 c.1) ++ leBytes 4 (unsigned 24 c.2))

/-- How a training job ends (R217, R218): `none` is NODATA, `some none` REJECTED, `some (some c)` OK with the new bank. -/
def State.trainEnd (s : State) (p : Nat) (e : NvJob) : Option (Option (List (Int × Int))) :=
  let f := s.fitOf p e
  if s.usable p e < 16384 then none
  else if f.nmse + 1000 < f.pred then some none
  else some (s.newBank p f)

/-- NMSE and ACLR that a job measured of the bank in use (R227): −0.25 dB a step; the rounding is open (log entry 100). -/
def State.dpdFigures (s : State) (p : Nat) (f : DpdFit) : State :=
  let n := (-f.nmse).toNat
  let q := n / 250 + (if n % 250 != 0 && Config.roundUp n 250 then 1 else 0)
  (s.put (R.DFE_DPD_QUAL p) F.DFE_DPD_QUAL_NMSE (min q 255)).put (R.DFE_DPD_QUAL p) F.DFE_DPD_QUAL_ACLR f.aclr.toNat

/-- The quadrant's tenant, whose entries Hyrno writes for a path. -/
def State.pathCtx (s : State) (p : Nat) : Option Nat := s.leaseOf 1 (quadOf p)

/-- The smallest numerology among the running carriers of a path. -/
def State.pathNum (s : State) (p : Nat) : Nat :=
  ((List.range 16).filter (fun c => s.carRun c && (s.carPmask c).testBit p)).foldl (fun m c => min m (s.carNum c)) 3

/-- Under `AUTO` Hyrno commits the DPD_SWAP of a job that is complete (R220, R628), at the first slot start TL_LEAD + 1 ms away (log entry
110). -/
def State.autoSwap (s : State) (p j : Nat) : State :=
  match s.flag (R.DFE_DPD_CFG p) F.DFE_DPD_CFG_AUTO, s.pathCtx p with
  | true, some x =>
    let num := s.pathNum p
    s.stageOwnAt x num (s.tlLead num + 491520) (fun st => mkEntry st x Act.dpdSwap 0 0 0 1 0 (2 ^ p) 0 j 0)
  | _, _ => s

/-- A job is signalled complete (R210, R272) once it has ended OK and the loader has set READY for every path of it; a swap follows. -/
def State.trainSignal (s : State) (j p : Nat) : State :=
  if s.dfe.trained.contains j && s.dfe.loaded.contains j && !s.dfe.loader.any (fun l => l.2.2 = j) then
    let dfe := { s.dfe with train := s.dfe.train.filter (fun x => x.1 != j), trained := s.dfe.trained.filter (· != j), loaded := s.dfe.loaded.filter (· != j) }
    (({ s with dfe := dfe }).signalJob j 0).autoSwap p j
  else s

/-- A training job ends (R217, R218). It has consumed its records, and Hyrno's own are freed (R216). OK writes c_new to cluster memory at
`at_` for the loader; REJECTED counts, and halts the training of the path after REJ_N in a row; NODATA changes nothing. -/
def execDpdTrainJobEnd (job : BitVec 16) (_result : Unit) (at_ : BitVec 22) (_bank _nmse _aclr _gain : Unit) (s : State) : Host.Outcome State Fault Refusal :=
  match s.dfe.train.find? (fun x => x.1 = job.toNat), s.jobOf job.toNat with
  | some (j, p), some e =>
    if e.st ≠ 2 then .next s
    else
      let st := R.DFE_DPD_STATUS p
      let f := s.fitOf p e
      let used := s.jobRecs p e
      let t := { s with dfe := { s.dfe with recs := s.dfe.recs.filter (fun r => r.host || !used.contains r) } }
      let drop (t : State) : State := { t with dfe := { t.dfe with train := t.dfe.train.erase (j, p) } }.dropJob j
      match s.trainEnd p e with
      | some (some c) =>
        let t := ((t.setBytes (0x10000000 + at_.toNat) (bankImage c)).put st F.DFE_DPD_STATUS_REJ 0).releaseCores j
        let t := t.dpdFigures p f
        let gain := if t.dfe.gain.any (fun g => g.1 = p) then t.dfe.gain else (p, f.gain.toNat) :: t.dfe.gain
        .next ({ t with dfe := { t.dfe with gain := gain, trained := j :: t.dfe.trained.filter (· != j) } }.trainSignal j p)
      | some none =>
        let t := ((t.incSat st F.DFE_DPD_STATUS_REJ).raise Ev.DFE_DPD_REJECT [p]).dpdFigures p f
        let t := if t.get (R.DFE_DPD_CFG p) F.DFE_DPD_CFG_REJ_N ≤ t.get st F.DFE_DPD_STATUS_REJ then
          (t.setFlag st F.DFE_DPD_STATUS_HALT true).raise Ev.DFE_DPD_DIVERGE [p] else t
        .next (drop t)
      | none => .next (drop (t.raise Ev.DFE_DPD_NODATA [p]))
  | _, _ => .next s

/-! ### The loader (R210) -/

/-- The loader takes up the head of its queue: READY falls and LOADING rises. -/
def State.loadHead (s : State) : State :=
  match s.dfe.loader with
  | (p, _, _) :: _ => (s.setFlag (R.DFE_DPD_STATUS p) F.DFE_DPD_STATUS_READY false).setFlag (R.DFE_DPD_STATUS p) F.DFE_DPD_STATUS_LOADING true
  | [] => s

/-- Ask the loader for a bank (R210): it handles one path at a time, in order. -/
def State.loaderStart (s : State) (p at_ job : Nat) : State :=
  let t := { s with dfe := { s.dfe with loader := s.dfe.loader ++ [(p, at_, job)] } }
  if s.dfe.loader.isEmpty then t.loadHead else t

/-- The control cores start the loader with a path, a cluster-memory address and the training job it serves, 0 for none
(R210). -/
def execDpdLoaderStart (path : Fin 64) (at_ : BitVec 22) (job : BitVec 16) (s : State) : Host.Outcome State Fault Refusal :=
  .next (s.loaderStart path at_.toNat job.toNat)

/-- One word of a bank as it is stored (R205, R207): 24 bits of I or Q; the reserved slots are zero. -/
def bankWord (j v : Nat) : Nat := if j / 2 < 233 then v % 2 ^ 24 else 0

/-- Copy 2 KiB into the inactive bank of a path (R210). -/
def State.fillBank (s : State) (p a : Nat) : State :=
  let b := 2 * p + (1 - s.get (R.DFE_DPD_STATUS p) F.DFE_DPD_STATUS_ACT)
  (List.range 512).foldl (fun (t : State) j => t.wrN (R.DFE_DPD_BANK b j) (bankWord j (s.memN (a + 4 * j) 4))) s

/-- The loader finishes the path it handles (R210): the bank is copied, READY rises, the job that waited is signalled
(R272), and the next path of the queue starts. -/
def execDpdLoaderDone (s : State) : Host.Outcome State Fault Refusal :=
  match s.dfe.loader with
  | [] => .next s
  | (p, a, j) :: l =>
    let t := ((s.fillBank p (0x10000000 + a)).setFlag (R.DFE_DPD_STATUS p) F.DFE_DPD_STATUS_LOADING false).setFlag
      (R.DFE_DPD_STATUS p) F.DFE_DPD_STATUS_READY true
    let t := { t with dfe := { t.dfe with loader := l, loaded := if j = 0 then t.dfe.loaded else j :: t.dfe.loaded.filter (· != j) } }
    let t := if j = 0 then t else t.trainSignal j p
    .next (t.finish (fun u => u = .dpdReady p) St.ok 0 0).loadHead

/-! ### What Hyrno captures itself (R475, R628) -/

/-- A DL_SYM that is staged or in the ring and transmits on a path 600 µs or more from now. -/
def State.dlAhead (s : State) (p : Nat) : Option (List Word) :=
  (s.hy.staged.map Staged.words ++ s.live.map s.slotWords).find? (fun w =>
    wAct w = Act.dlSym && (wPmask w).testBit p && decide (294912 ≤ s.rel (stStart (wTgt w))))

/-- An OBS_CAP on a tile is staged, in the ring, or runs. -/
def State.capKnown (s : State) (t : Nat) : Bool :=
  s.capSt t != 0 || (s.hy.staged.map Staged.words ++ s.live.map s.slotWords).any (fun w => wAct w = Act.obsCap && (wTmask w).testBit t)

/-- A path under `AUTO` whose training lacks records: Hyrno stages an OBS_CAP of LEN on the next downlink symbol it knows of the path, in the
name of the quadrant's tenant. When it captures and with which attenuation code the spec does not say (log entry 110). -/
def State.autoCap (s : State) (p : Nat) : State :=
  let c := R.DFE_DPD_CFG p
  let n := (s.dfe.recs.filter (fun r => r.path = p && !r.host)).length
  if s.flag c F.DFE_DPD_CFG_AUTO && !s.flag (R.DFE_DPD_STATUS p) F.DFE_DPD_STATUS_HALT && s.avail p && decide (n < s.get c F.DFE_DPD_CFG_K) &&
      !s.dfe.train.any (fun x => x.2 = p) && !s.capKnown (tileOf p) && !s.obsFailed (tileOf p) then
    match s.dlAhead p, s.pathCtx p with
    | some w, some x =>
      let e := mkEntry (wTgt w) x Act.obsCap 0 0 (2 ^ tileOf p) 1 0 (2 ^ p) (min (s.fresh 5).1.toNat 24 + 2 ^ 8 * s.get c F.DFE_DPD_CFG_LEN) 0 0
      if s.ownRoom x && !s.instantFull e then (s.fresh 5).2.stageEntry x ((s.now : Int) + s.rel (stStart (wTgt w))).toNat e true else s
    | _, _ => s
  else s

/-- Hyrno looks once a millisecond for captures that `AUTO` wants (log entry 110). -/
def State.autoTick (s : State) : State := if s.now % 491520 = 0 then (List.range 64).foldl State.autoCap s else s

end Sys2Proof.Machine
end

