-- ==== Sys2Proof/Machine/CmdCal.lean ====
section
/-! DEFINITION. The calibration, pre-distortion, capture and front-end commands (groups 0x06 to 0x09; R112, R117, R123 to R127,
R167, R168, R171, R176, R179, R203, R206, R207, R210, R215 to R218, R480, R481). -/

namespace Sys2Proof.Machine

/-! ### Calibration -/

/-- CAL_INTERVAL: within the ranges of R176. -/
def execCalInterval (c : Cmd) (s : State) : Host.Outcome State Fault Refusal :=
  let k := arg c 8 1
  let n := arg c 12 4
  runCmd s c false [] [s.needML c, badParam (decide (k < 2) || decide (4 < k)) 8, badParam (decide (n < (if k = 2 then 5 else 1)) || decide (3600 < n)) 12]
    (.done { s with cv := { s.cv with every := s.cv.every.set (k - 2) n } } St.ok 0 0)

/-- CAL_ROT_SET: a pair in a period keeps its settings until its next period (R179). Frozen pairs have no period and take the new
ones at once. -/
def execCalRotSet (c : Cmd) (s : State) : Host.Outcome State Fault Refusal :=
  let was := (s.rd R.CV_ROT_CFG, s.rd R.CV_SPUR_THR)
  let runs := (List.range 72).filter (fun a => fldGet F.CV_ROT_CFG_EN (s.rotCfg a).1 = 1 && !s.cv.rotOld.any (fun x => x.1 = a))
  let old := s.cv.rotOld ++ runs.map (fun a => (a, was))
  let t := (s.wrN R.CV_ROT_CFG (argBits c 8 0 2 + 2 ^ 8 * arg c 9 1 + 2 ^ 16 * arg c 10 1)).wrN R.CV_SPUR_THR (arg c 12 2)
  runCmd s c false [] [s.needML c, badParam (decide (arg c 9 1 < 2) || decide (63 < arg c 9 1)) 9, badParam (arg c 10 1 = 0 || decide (7 < arg c 10 1)) 10,
      badParam (decide (1023 < arg c 12 2)) 12]
    (.done { t with cv := { t.cv with rotOld := old } } St.ok 0 0)

/-- CAL_SWEEP: the sweep begins anew, and ends at the instant of its limit at the latest. -/
def execCalSweep (c : Cmd) (s : State) : Host.Outcome State Fault Refusal :=
  let cv := { s.cv with repeat_ := arg c 8 1, sent := List.replicate 64 0, meas := [], sweeping := true }
  let t := { s with cv := cv }.put R.CV_ACAL_STATUS F.CV_ACAL_STATUS_STATE 1
  runCmd s c false [(101, 0)] [s.needML c, badParam (arg c 8 1 = 0 || decide (16 < arg c 8 1)) 8, badParam (arg c 12 4 = 0 || decide (3600000 < arg c 12 4)) 12]
    (.wait t .sweep [s.now + 491520 * arg c 12 4])

/-- The limit of a CAL_SWEEP passes: the partial sweep is discarded, and the command completes TIMEOUT. -/
def State.sweepLimit (s : State) : State :=
  if s.hy.jobs.any (fun j => j.wait = .sweep && decide (nth j.data 0 0 ≤ s.now)) then
    let t := { s with cv := { s.cv with sent := List.replicate 64 0, meas := [], sweepJob := none, acalWait := none, sweeping := false } }
    let t := match s.cv.sweepJob with
      | some j => t.dropJob j
      | none => t
    let t := t.put R.CV_ACAL_STATUS F.CV_ACAL_STATUS_STATE 0
    t.finish (fun u => u = .sweep) St.timeout 0 t.sweepResult
  else s

/-- The neighbour lists of ACAL_REF_RECORD: the receivers of a transmit path (R480). -/
def State.nbrList (s : State) (a p : Nat) : List Nat := ((List.range 8).map (fun i => s.memN (a + 8 * p + i) 1)).filter (· != 0xFF)

/-- Paths that the pairs join to the paths of `l`, in `n` steps. -/
def reach (pairs : List (Nat × Nat)) : Nat → List Nat → List Nat
  | 0, l => l
  | n + 1, l => reach pairs n (l ++ ((List.range 64).filter (fun p => !l.contains p &&
      pairs.any (fun e => (e.1 = p && l.contains e.2) || (e.2 = p && l.contains e.1)))))

/-- A reference point's pairs (R168): each joins an even and an odd tile, and all available paths are one graph. -/
def State.pairsOk (s : State) (a : Nat) : Bool :=
  let pairs := ((List.range 64).map (fun p => (s.nbrList a p).map (fun r => (p, r)))).flatten
  let av := (List.range 64).filter s.avail
  pairs.all (fun e => decide (e.2 < 64) && tileOf e.1 % 2 != tileOf e.2 % 2) &&
    (match av with
     | [] => true
     | p :: _ => av.all (reach pairs 64 [p]).contains)

/-- Real and imaginary part of a word of Q1.14 I and Q. -/
def q14 (w : Word) : Int × Int := ((w.extractLsb' 0 16).toInt, (w.extractLsb' 16 16).toInt)

/-- c = m / (t × r) in Q1.14 I and Q, all three being Q1.14 (R167, R480; log entry 100): where t × r is zero or c leaves the format no
result is stated. -/
def refQuotient (m t r : Word) : Word :=
  let x := q14 t
  let y := q14 r
  let d : Int × Int := (x.1 * y.1 - x.2 * y.2, x.1 * y.2 + x.2 * y.1)
  let n := d.1 * d.1 + d.2 * d.2
  let z := q14 m
  let part (v : Int) : Int := let v := v * 2 ^ 28; if v % n != 0 && Config.roundUp v n then v / n + 1 else v / n
  if n = 0 then Config.refOpen m t r
  else
    let i := part (z.1 * d.1 + z.2 * d.2)
    let q := part (z.2 * d.1 - z.1 * d.2)
    let fits (v : Int) : Bool := decide (-32768 ≤ v) && decide (v ≤ 32767)
    if fits i && fits q then BitVec.ofNat 32 (unsigned 16 i + 2 ^ 16 * unsigned 16 q) else Config.refOpen m t r

/-- The stored point (R167, R480): the centre, the neighbour lists, and c = m / (t_p × r_r) for each pair and subband. -/
def State.pointBytes (s : State) (a centre : Nat) : List Byte :=
  let m := a + 512
  let tp := m + 32768
  let rr := tp + 4096
  let one (i : Nat) : List Byte :=
    let p := i / 128
    let r := s.memN (a + i / 16) 1
    let k := i % 16
    leBytes 4 (refQuotient (BitVec.ofNat 32 (s.memN (m + 4 * i) 4)) (BitVec.ofNat 32 (s.memN (tp + 64 * p + 4 * k) 4))
      (BitVec.ofNat 32 (if r < 64 then s.memN (rr + 64 * r + 4 * k) 4 else 0))).toNat
  leBytes 4 centre ++ s.bytes a 512 ++ ((List.range 8192).map one).flatten

/-- ACAL_REF_RECORD: it completes when the point is journalled. -/
def execAcalRefRecord (c : Cmd) (s : State) : Host.Outcome State Fault Refusal :=
  let i := arg c 8 1
  let a := arg c 16 8
  let r := s.journalObj (pointPlace i) (s.pointBytes a (arg c 12 4))
  runCmd s c false [(102, 0)] ([s.needML c, ⟨s.flag R.NVJ_STAT F.NVJ_STAT_LOCK_REF, St.locked, 0⟩, badParam (decide (3 < i)) 8] ++ s.spanChecks c 16 64 41472 ++
      [badParam (!s.pairsOk a) 16])
    (.wait r.2 (.journal r.1) [])

/-- ACAL_REF_LOCK: in Provisioned only, and permanent. A reference that is locked stays so. -/
def execAcalRefLock (c : Cmd) (s : State) : Host.Outcome State Fault Refusal :=
  let r := s.lockRecord 1
  runCmd s c true [(102, 0)] [s.needML c, s.badState (s.mode != .provisioned) 8 0]
    (if s.flag R.NVJ_STAT F.NVJ_STAT_LOCK_REF then .done s St.ok 0 0 else .wait r.2 (.journal r.1) [0x03, 1])

/-- CAL_STATUS. -/
def execCalStatus (c : Cmd) (s : State) : Host.Outcome State Fault Refusal :=
  let txAge := ((List.range 64).filter s.avail).foldl (fun m p => max m (s.get (R.CV_TXQ_QUAL p) F.CV_TXQ_QUAL_AGE)) 0
  let orx := (List.range 8).foldl (fun m t => max m (s.get (R.CV_ORX_QUAL t) F.CV_ORX_QUAL_AGE)) 0
  runCmd s c false [] [] (.done s St.ok 0 (s.sweepResult + resN 24 2 txAge + resN 26 2 orx))

/-! ### Pre-distortion and CFR -/

/-- An FP32 parameter kept for a path. -/
def keepFor (l : List (Nat × Word)) (pmask : Nat) (w : Word) : List (Nat × Word) :=
  (l.filter (fun x => !pmask.testBit x.1)) ++ (bitsOf pmask 64).map (fun p => (p, w))

/-- DPD_CONFIG. -/
def execDpdConfig (c : Cmd) (s : State) : Host.Outcome State Fault Refusal :=
  let pm := arg c 16 8
  let k := arg c 9 1
  let w := argBits c 8 0 2 + 2 ^ 4 * k + 2 ^ 16 * arg c 10 1 + 2 ^ 24 * (arg c 11 1 % 4) + 2 ^ 28 * argBits c 28 0 4
  let t := (bitsOf pm 64).foldl (fun (t : State) p => (t.wrN (R.DFE_DPD_CFG p) w).dpdEnable p (argBit c 8 0)) s
  let dfe := { t.dfe with mu := keepFor t.dfe.mu pm (BitVec.ofNat 32 (arg c 12 4)), lam := keepFor t.dfe.lam pm (BitVec.ofNat 32 (arg c 24 4)) }
  runCmd s c false [] [s.quadOwn c pm, badParam (k = 0 || decide (16 < k)) 9, badParam (decide (3 < arg c 11 1)) 11] (.done { t with dfe := dfe } St.ok 0 0)

/-- The path's quadrant is the issuer's (R464). -/
def State.pathOwn (s : State) (c : Cmd) (p : Nat) : Check := notOwner (decide (p < 64) && !s.holds c.ctx 1 (quadOf p)) 1 (quadOf p)

/-- Neighbour `j` of a word, when it is enabled (R228). -/
def nbrOf (w j : Nat) : Option Nat := if w.testBit (8 * j + 6) then some (w / 2 ^ (8 * j) % 64) else none

/-- DPD_NBR (R206): available paths of the same quadrant, other than the path. -/
def execDpdNbr (c : Cmd) (s : State) : Host.Outcome State Fault Refusal :=
  let p := arg c 8 1
  let w := arg c 12 4
  let bad := (List.range 4).any (fun j => match nbrOf w j with
    | some n => n = p || quadOf n != quadOf p || !s.avail n
    | none => false)
  runCmd s c false [] [s.pathOwn c p, s.badState (decide (p < 64) && s.tx p != Ps.off && s.flag (R.DFE_DPD_STATUS p) F.DFE_DPD_STATUS_EN) 12 p, badParam (decide (64 ≤ p)) 8, badParam bad 12]
    (.done (s.regPut (R.DFE_DPD_NBR p) (BitVec.ofNat 32 w)) St.ok 0 0)

/-- DPD_TRAIN: it completes when its job is submitted (R217, R269). -/
def execDpdTrain (c : Cmd) (s : State) : Host.Outcome State Fault Refusal :=
  let p := arg c 8 1
  let k := arg c 9 1
  let cfg := R.DFE_DPD_CFG p
  let r := match s.allocJob with
    | some (j, t) => (j, t.trainPath j p (if k = 0 then s.get cfg F.DFE_DPD_CFG_K else k) c.ctx)
    | none => (0, s)
  runCmd s c false [] [s.pathOwn c p, s.badState (decide (p < 64) && (s.flag cfg F.DFE_DPD_CFG_AUTO || s.flag (R.DFE_DPD_STATUS p) F.DFE_DPD_STATUS_HALT)) 14 p,
      badParam (decide (64 ≤ p)) 8, badParam (decide (16 < k)) 9, ⟨s.allocJob.isNone, St.noSpace, 12⟩]
    (.done r.2 St.ok 0 (resN 16 2 r.1))

/-- A bank of a path as its 2 KiB. -/
def State.bankBytes (s : State) (p b : Nat) : List Byte := ((List.range 512).map (fun j => leBytes 4 (s.rd (R.DFE_DPD_BANK (2 * p + b) j)).toNat)).flatten

/-- DPD_COEF. A load hands the loader the span; the loader counts addresses from the start of cluster memory (R210). -/
def execDpdCoef (c : Cmd) (s : State) : Host.Outcome State Fault Refusal :=
  let p := arg c 8 1
  let op := arg c 9 1
  let a := arg c 16 8
  let st := R.DFE_DPD_STATUS p
  let act := s.get st F.DFE_DPD_STATUS_ACT
  runCmd s c false [(103, p)] ([s.pathOwn c p, busyCheck (decide (p < 64) && (s.dfe.train.any (fun x => x.2 = p) || s.flag st F.DFE_DPD_STATUS_LOADING)) 3,
      badParam (decide (64 ≤ p)) 8, badParam (decide (2 < op)) 9] ++ s.spanChecks c 16 64 2048)
    (if op = 0 then .wait (s.loaderStart p (a - 0x10000000) 0) (.dpdReady p) []
     else .done (s.setBytes a (s.bankBytes p (if op = 1 then act else 1 - act))) St.ok 0 0)

/-- DPD_RESUME clears `HALT` and `REJ` (R218). -/
def execDpdResume (c : Cmd) (s : State) : Host.Outcome State Fault Refusal :=
  let pm := arg c 16 8
  runCmd s c false [] [s.quadOwn c pm] (.done ((bitsOf pm 64).foldl (fun (t : State) p =>
    (t.setFlag (R.DFE_DPD_STATUS p) F.DFE_DPD_STATUS_HALT false).put (R.DFE_DPD_STATUS p) F.DFE_DPD_STATUS_REJ 0) s) St.ok 0 0)

/-- CFR settings of a path wait for a carrier's start or stop on it (R203); the pulse slot that Hyrno chooses is open. -/
def State.cfrWait (s : State) (p w : Nat) : State :=
  let (k, t) := s.fresh 4
  { t with dfe := { t.dfe with cfrNext := t.dfe.cfrNext.filter (fun x => x.1 != p) ++ [(p, BitVec.ofNat 32 (w + 2 ^ 24 * k.toNat), false)] } }

/-- CFR_CONFIG. -/
def execCfrConfig (c : Cmd) (s : State) : Host.Outcome State Fault Refusal :=
  let pm := arg c 16 8
  let w := arg c 8 1 + 2 ^ 8 * arg c 9 1 + 2 ^ 16 * arg c 10 1 + 2 ^ 28 * (arg c 11 1 % 16)
  runCmd s c false [] [s.quadOwn c pm, badParam (decide (15 < arg c 11 1)) 11]
    (.done ((bitsOf pm 64).foldl (fun (t : State) p => t.cfrWait p w) s) St.ok 0 0)

/-! ### Capture (R215, R216, R481) -/

/-- The issuer's held records of a tile. -/
def State.heldRecs (s : State) (x t : Nat) : List CapRec := s.dfe.recs.filter (fun (r : CapRec) => r.tile = t && r.ctx = x && r.host)

/-- The capture right of the tile is the issuer's (R464). -/
def State.capOwn (s : State) (c : Cmd) (t : Nat) : Check := notOwner (decide (t < 8) && !s.holds c.ctx 8 t) 8 t

/-- CAP_GET: the latest record of the path, or the oldest one with the tag. -/
def execCapGet (c : Cmd) (s : State) : Host.Outcome State Fault Refusal :=
  let p := arg c 8 1
  let l := (s.heldRecs c.ctx (tileOf p)).filter (fun (r : CapRec) => r.path = p)
  let f := if argBit c 9 0 then l.getLast? else l.find? (fun (r : CapRec) => r.tag = arg c 10 2)
  let own := [s.capOwn c (tileOf p), badParam (decide (64 ≤ p)) 8]
  match f with
  | none => runCmd s c false [] (own ++ [⟨true, St.notFound, 0⟩]) (.silent s)
  | some r =>
    let at_ := s.capAddr r.tile r.slot
    let t := s.setBytes (arg c 16 8) (s.bytes at_ r.bytes)
    let t := { t with dfe := { t.dfe with recs := t.dfe.recs.erase r } }
    runCmd s c false [] (own ++ s.spanChecks c 16 64 r.bytes)
      (.done t St.ok 0 (resN 16 4 (s.memN at_ 4) + resN 20 1 r.flags + resN 22 2 ((r.bytes - 64) / 24)))

/-- CAP_FREE. -/
def execCapFree (c : Cmd) (s : State) : Host.Outcome State Fault Refusal :=
  let t := arg c 8 1
  let dfe := { s.dfe with recs := s.dfe.recs.filter (fun (r : CapRec) => !(r.tile = t && r.ctx = c.ctx.val && r.host)) }
  runCmd s c false [] [s.capOwn c t, badParam (decide (8 ≤ t)) 8] (.done { s with dfe := dfe } St.ok 0 0)

/-! ### Front end -/

/-- PABIAS settings of a path: at once while it is OFF, else when it next reaches OFF. -/
def State.setPabias (s : State) (p cfg lvl : Nat) : State :=
  let t := { s with rf := { s.rf with biasNext := s.rf.biasNext.filter (fun x => x.1 != p) ++ [(p, BitVec.ofNat 32 cfg, BitVec.ofNat 32 lvl)] } }
  if s.tx p = Ps.off then t.biasTake p else t

/-- The ramp of a setting passes 1.25 µs (R115, R117): |ON − OFF| × 2500/4096 mV at SLEW × 10 mV/µs. -/
def rampLong (on off slew : Nat) : Bool := decide (125 * slew * 4096 < 2500 * 10 * ((on - off) + (off - on)))

/-- FE_PABIAS. -/
def execFePabias (c : Cmd) (s : State) : Host.Outcome State Fault Refusal :=
  let m := arg c 8 1
  let slew := arg c 9 1
  let ilim := arg c 10 1
  let on := arg c 12 2
  let off := arg c 14 2
  let pm := arg c 16 8
  let cfg := m + 2 ^ 8 * slew + 2 ^ 16 * ilim + 2 ^ 24 * arg c 11 1
  let t := (bitsOf pm 64).foldl (fun (t : State) p => t.setPabias p cfg (on + 2 ^ 16 * off)) s
  runCmd s c false [] [s.quadOwn c pm, badParam (decide (3 < m)) 8, badParam (slew = 0) 9, badParam (ilim = 0 || decide (20 < ilim)) 10,
      badParam (decide (4095 < on)) 12, badParam (decide (4095 < off)) 14, badParam (decide (2 ≤ m) && rampLong on off slew) 9]
    (.done t St.ok 0 (resN 16 8 (maskOf ((bitsOf pm 64).filter (fun p => s.tx p = Ps.off)))))

/-- FE_TDD (R112): it applies from the next radio frame. -/
def execFeTdd (c : Cmd) (s : State) : Host.Outcome State Fault Refusal :=
  let tl := arg c 8 2
  let rl := arg c 10 2
  let ta := arg c 12 1
  let ra := arg c 13 1
  let lead (n : Nat) : Bool := decide (n < 123) || decide (614 < n)
  runCmd s c false [] [s.needML c, badParam (lead tl) 8, badParam (lead rl) 10, badParam (decide (614 < tl + ra)) 8, badParam (decide (614 < rl + ta)) 10]
    (.done { s with rf := { s.rf with tddNext := some [tl, rl, ta, ra] } } St.ok 0 0)

/-- FE_FAULT_CLEAR (R110): from FAULT to OFF; the output drives its OFF code again. -/
def execFeFaultClear (c : Cmd) (s : State) : Host.Outcome State Fault Refusal :=
  let pm := arg c 16 8
  let l := (bitsOf pm 64).filter (fun p => s.tx p = Ps.fault)
  runCmd s c false [] [s.quadOwn c pm]
    (.done (l.foldl (fun (t : State) p => (t.setTx p Ps.off).setBias p 1 false) s) St.ok 0 (resN 16 8 (maskOf l)))

/-- RFFE_ACCESS (R123, R124, R127): it waits while a list runs or the transfer does not end before the next list falls due
(`fits` false). `parity` says that read data passed, and `data` are the data as received. -/
def execRffeAccess (c : Cmd) (fits parity : Bool) (data : BitVec 128) (s : State) : Host.Outcome State Fault Refusal :=
  let q := arg c 8 1
  let ty := arg c 9 1
  let n := arg c 11 1
  let read := ty = 2 || ty = 4 || ty = 6
  let got := if !read then 0 else if ty = 2 then data.toNat % 2 ^ 8 else data.toNat % 2 ^ (8 * n)
  let bad := read && !parity
  let s0 := s
  let sent := [ty, arg c 10 1, arg c 12 2] ++ (if read then [] else (List.range (if ty ≤ 1 then 1 else n)).map (fun i => arg c (16 + i) 1))
  let s := { s with rf := { s.rf with rffeSent := s.rf.rffeSent.set q sent } }
  let d := s.fresh 32
  let checks := [notOwner (decide (q < 4) && !s.holds c.ctx 1 q) 1 q, badParam (decide (4 ≤ q)) 8, badParam (decide (6 < ty)) 9,
    badParam (decide (15 < arg c 10 1) || (read && arg c 10 1 = 0)) 10, badParam (decide (3 ≤ ty) && (n = 0 || decide ((if ty ≤ 4 then 16 else 8) < n))) 11]
  if (firstFail checks).isNone && (!fits || (nth s.rf.rffeRun q none).isSome) then .next s0
  else runCmd s0 c false [] checks
    (if bad then .done (d.2.raise Ev.RF_RFFE_PARITY [q]) St.ioError d.1.toNat (res 16 got) else .done s St.ok 0 (res 16 got))

/-- RFFE_LIST: the list memory and the bus settings (R126, R127). `overlap` is what firmware's check of the repeating pattern finds. -/
def execRffeList (c : Cmd) (overlap : Bool) (s : State) : Host.Outcome State Fault Refusal :=
  let q := arg c 8 1
  let a := arg c 16 8
  let armed (p : Nat) : Bool := (s.tx p != Ps.off && s.tx p != Ps.fault) || s.rx p != Ps.off
  let t := (List.range 1024).foldl (fun (t : State) j => t.wrN (R.RF_RFFE_MEM q j) (s.memN (a + 4 * j) 4)) s
  runCmd s c false [] ([notOwner (decide (q < 4) && !s.holds c.ctx 1 q) 1 q, s.badState (decide (q < 4) && (quadPaths q).any armed) 15 q, badParam (decide (4 ≤ q)) 8,
      badParam (decide (2 < argBits c 9 0 4)) 9] ++ s.spanChecks c 16 64 4096 ++ [badTiming overlap 16])
    (.done (t.wrN (R.RF_RFFE_CFG q) (arg c 9 1)) St.ok 0 0)

end Sys2Proof.Machine
end

