-- ==== Sys2Proof/Machine/Time.lean ====
section
/-! DEFINITION. Time and synchronisation: the counter (R390 to R394), second edges and 1PPS (R395 to R400), the servos (R401 to
R407), switching (R408, R409), the reference PLL (R410, R411), SyncE (R412 to R414) and the firmware's PTP share (R415). -/

namespace Sys2Proof.Machine

/-! ### Domains -/

/-- A domain's servo. -/
def State.dom (s : State) (d : Nat) : TimeDom := nth s.ts.doms d {}
/-- Replace it. -/
def State.setTime (s : State) (d : Nat) (x : TimeDom) : State := { s with ts := { s.ts with doms := s.ts.doms.set d x } }
/-- State of a domain (R404): 0 OFF, 1 FREERUN, 2 ACQUIRING, 3 LOCKED, 4 HOLDOVER. -/
def State.domState (s : State) (d : Nat) : Nat := s.get (R.TS_DOM_STAT d) F.TS_DOM_STAT_STATE
def State.setDomState (s : State) (d v : Nat) : State := s.put (R.TS_DOM_STAT d) F.TS_DOM_STAT_STATE v
/-- The steering domain (R406). -/
def State.steering (s : State) : Nat := s.get R.TS_STATUS F.TS_STATUS_SEL_NOW
/-- Source of a domain (R402). -/
def State.domSrc (s : State) (d : Nat) : Nat := s.get (R.TS_DOM_CFG d) F.TS_DOM_CFG_SRC

/-- One ppb, and 0.01 ppb, in the servo's unit. -/
def ppb : Int := 2 ^ 20 * 491520000
def centi : Int := 2 ^ 20 * 4915200
/-- One ns, and 2⁻³² ns, in the unit of VOFS. -/
def vNs : Int := 2 ^ 32 * 1000000000 * ppb
def vFrac : Int := 1000000000 * ppb

/-- Limit a number to ±m. -/
def limit (m v : Int) : Int := if v < -m then -m else if m < v then m else v

/-- Show a domain (R418): −I in 0.01 ppb, how it is rounded being open; VOFS rounded down; SLEWING (R408). -/
def State.showDom (s : State) (d : Nat) : State :=
  let x := s.dom d
  let q := s.divFree (-x.i) centi.toNat
  let t := q.2.wrN (R.TS_DOM_FREQ d) (unsigned 32 q.1)
  let v := x.vofs / vFrac
  let t := t.put64 (R.TS_DOM_VOFS d) (unsigned 64 v)
  t.setFlag (R.TS_DOM_STAT d) F.TS_DOM_STAT_SLEWING (x.slew && decide (vNs < x.vofs.natAbs))

/-! ### The counter (R390 to R394) -/

/-- Step the counter by a number of 2⁻³² ns (R393). -/
def State.stepCnt (s : State) (v : Int) : State :=
  let t := s.put64 R.TS_CNT (unsigned 64 ((s.get64 R.TS_CNT : Int) + v))
  (t.setFlag R.TS_STATUS F.TS_STATUS_VALID true).raise Ev.TS_STEP [unsigned 32 (v / 2 ^ 32)]

/-- A write of STEP (R393): refused and counted in a radio mode. -/
def execTsCtrlStep (s : State) : Host.Outcome State Fault Refusal :=
  if isRadio s.mode then .next (s.count R.TS_STEP_REFUSED_CNT)
  else .next (s.stepCnt (signed 32 (s.rd R.TS_STEP_VAL).toNat * 2 ^ 32))

/-! ### Servos (R403 to R407) -/

/-- p of a phase error (R403): KP × e, clamped to ±PSLEW for the steering domain in a radio mode. -/
def State.servoP (s : State) (d : Nat) (e : Int) : Int × Bool :=
  let raw := (s.get (R.TS_DOM_GAIN d) F.TS_DOM_GAIN_KP : Int) * e * (2 ^ 4 * 491520000)
  let c := limit ((s.get (R.TS_DOM_CFG d) F.TS_DOM_CFG_PSLEW : Int) * ppb) raw
  if d = s.steering && isRadio s.mode then (c, c != raw) else (raw, false)

/-- f = −(p + I), both held within ±20,000 ppb; a limit sets FLIM and raises TS_FREQ_LIMIT once (R403). -/
def State.servoOut (s : State) (d : Nat) (x : TimeDom) : State :=
  let m := 20000 * ppb
  let i := limit m x.i
  let f := limit m (-(x.p + i))
  let lim := decide (m ≤ i.natAbs) || decide (m ≤ f.natAbs)
  let was := s.flag (R.TS_DOM_STAT d) F.TS_DOM_STAT_FLIM
  let t := (s.setTime d { x with i := i, f := f }).setFlag (R.TS_DOM_STAT d) F.TS_DOM_STAT_FLIM lim
  let t := if lim && !was then t.raise Ev.TS_FREQ_LIMIT [d] else t
  t.showDom d

/-- A domain's frequency comes from SyncE (R413). -/
def State.synced (s : State) (d : Nat) : Bool :=
  s.flag (R.TS_DOM_CFG d) F.TS_DOM_CFG_HYBRID && s.flag R.TS_STATUS F.TS_STATUS_SYNCE_OK

/-- Accept a sample whose remaining error is `e` (R403, R404); `raw` is the sample as it came. -/
def State.accept (s : State) (d : Nat) (raw e : Int) : State :=
  let x := s.dom d
  let p := s.servoP d e
  let dt := match x.last with
    | some t => min (s.now - t) (2 * cyclesPerSecond)
    | none => 0
  let i := if p.2 || s.synced d then x.i else x.i + (s.get (R.TS_DOM_GAIN d) F.TS_DOM_GAIN_KI : Int) * e * (dt : Int)
  let inLock := decide (raw.natAbs ≤ 16 * s.get (R.TS_DOM_CFG d) F.TS_DOM_CFG_LOCK_NS)
  let good := if inLock then x.good + 1 else 0
  let st := s.domState d
  let st := if st = 1 || st = 4 then 2 else st
  let t := (s.wrN (R.TS_DOM_LAST d) (unsigned 32 raw)).incWrap (R.TS_DOM_STAT d) F.TS_DOM_STAT_SAMPLES
  let t := if st = 2 && decide (16 ≤ good) then (t.setDomState d 3).raise Ev.TS_LOCKED [d] else t.setDomState d st
  t.servoOut d { x with p := p.1, i := i, pend := none, last := some s.now, good := good, rej := 0 }

/-- A sample beyond OUTLIER in FREERUN or ACQUIRING, or the fourth in LOCKED (R404): removed as a phase step, of VOFS for a shadow, of
the counter for the steering domain outside the radio modes; in a radio mode the servo slews it out. -/
def State.stepOut (s : State) (d : Nat) (e : Int) : State :=
  if d ≠ s.steering then
    let x := s.dom d
    (s.setTime d { x with vofs := x.vofs - e * (vNs / 16) }).accept d e 0
  else if isRadio s.mode then s.accept d e e
  else (s.stepCnt (-e * 2 ^ 28)).accept d e 0

/-- The servo takes its waiting sample (R403 to R405), one in 16 ticks of the 245.76 MHz reference. -/
def execServoUpdate (d : Fin 2) (s : State) : Host.Outcome State Fault Refusal :=
  let x := { s.dom d with took := some s.now }
  match x.pend with
  | none => .next s
  | some e =>
    if !s.spanPast 32 (s.dom d).took then .next s
    else if s.domState d = 0 then .next (s.setTime d { x with pend := none })
    else if 16 * s.get (R.TS_DOM_LIM d) F.TS_DOM_LIM_OUTLIER < e.natAbs then
      if s.domState d = 3 && decide (x.rej < 3) then
        .next ((s.setTime d { x with pend := none, rej := x.rej + 1 }).count (R.TS_SAMPLE_REJ_CNT d))
      else
        let t := if s.domState d = 3 then s.setDomState d 2 else s
        .next ((t.setTime d { x with good := if s.domState d = 3 then 0 else x.good }).stepOut d e)
    else .next ((s.setTime d x).accept d e e)

/-- A sample arrives at a domain (R405): one that still waits is replaced and counted. -/
def State.sample (s : State) (d : Nat) (e : Int) : State :=
  let x := s.dom d
  let t := if x.pend.isSome then s.count (R.TS_SAMPLE_REJ_CNT d) else s
  t.setTime d { x with pend := some e }

/-- A write to TS_DOM_OFS (R402): taken by a domain whose source is PTP. -/
def execTsDomOfsWrite (d : Fin 2) (e : BitVec 32) (s : State) : Host.Outcome State Fault Refusal :=
  when_ (s.domSrc d = 1 && s.flag R.TS_CTRL F.TS_CTRL_EN) (s.sample d e.toInt) s

/-! ### Switching (R408, R409) -/

/-- May the steering domain change to `d` (R409)? -/
def State.maySelect (s : State) (d : Nat) : Bool :=
  if isRadio s.mode then s.domState d = 3 || s.domState d = 4 else s.domState d != 0

/-- Mark the steering domain. -/
def State.markSel (s : State) (d : Nat) : State :=
  let t := (s.put R.TS_CTRL F.TS_CTRL_SEL d).put R.TS_STATUS F.TS_STATUS_SEL_NOW d
  (t.setFlag (R.TS_DOM_STAT d) F.TS_DOM_STAT_STEER true).setFlag (R.TS_DOM_STAT (1 - d)) F.TS_DOM_STAT_STEER false

/-- Switch the steering domain (R408). -/
def State.select (s : State) (d : Nat) : State :=
  let o := 1 - d
  if s.steering = d then s
  else
    let x := s.dom d
    let y := s.dom o
    if isRadio s.mode then
      let rest := if s.flag (R.TS_DOM_STAT o) F.TS_DOM_STAT_SLEWING then y.vofs else 0
      let t := ((s.markSel d).setTime o { y with vofs := rest, slew := false }).showDom o
      let p := t.servoP d (-(x.vofs / (vNs / 16)))
      (t.servoOut d { x with slew := true, p := p.1 }).raise Ev.TS_SWITCH [d]
    else
      let step := x.vofs / vFrac
      let t := ((s.markSel d).setTime d { x with vofs := 0, slew := false }).setTime o { y with vofs := -(step * vFrac), slew := false }
      (((t.showDom d).showDom o).raise Ev.TS_SWITCH [d]).stepCnt step

/-- A write of SEL by Hyrno, which refuses what R409 does not accept. -/
def execTsCtrlSel (d : Fin 2) (s : State) : Host.Outcome State Fault Refusal := when_ (s.maySelect d) (s.select d) s

/-- Hyrno's own switch (R409): to B when A enters HOLDOVER while B is LOCKED, and back under the same rule. -/
def State.autoSelect (s : State) (d : Nat) : State :=
  if s.ts.auto && s.steering = d && s.domState (1 - d) = 3 then s.select (1 - d) else s

/-- No sample for TMO seconds (R404, R407): HOLDOVER, f = −I. -/
def execHoldoverTimeout (d : Fin 2) (s : State) : Host.Outcome State Fault Refusal :=
  if (s.domState d = 2 || s.domState d = 3) &&
      s.spanPast (s.get (R.TS_DOM_CFG d) F.TS_DOM_CFG_TMO * cyclesPerSecond) (s.dom d).last then
    let x := s.dom d
    .next ((((s.setDomState d 4).servoOut d { x with p := 0, good := 0, rej := 0 }).raise Ev.TS_HOLDOVER [d]).autoSelect d)
  else .next s

/-! ### The increment and the reference PLL (R392, R410, R411) -/

/-- Every 16 ticks: s follows the steering domain's f at no more than FSLEW, with REFCLK present and a source, and TS_INC_CUR is
computed anew; how that is rounded is open (R392, R410). -/
def State.newInc (s : State) : State :=
  let d := s.steering
  let on := s.domState d != 0
  let f := (s.dom d).f
  let most : Int := (s.get R.TS_PLL_CFG F.TS_PLL_CFG_FSLEW : Int) * (32 * 2 ^ 20)
  let st := if on && s.flag R.TS_STATUS F.TS_STATUS_REF_LOCK then limit (20000 * ppb) (s.ts.steer + limit most (f - s.ts.steer)) else s.ts.steer
  let word := st / centi
  let nom : Int := s.get64 R.TS_INC_NOM
  let q := s.divFree (nom * (1000000000 * ppb + (if on then f - word * centi else 0))) (1000000000 * ppb).toNat
  ({ q.2 with ts := { q.2.ts with steer := st, incAt := some s.now } }.wrN R.TS_PLL_STEER (unsigned 32 word)).put64 R.TS_INC_CUR (unsigned 64 q.1)

/-- The computation of every 16 ticks, with none within the last 16 (R392). -/
def execIncRecompute (s : State) : Host.Outcome State Fault Refusal := when_ (s.spanPast 32 s.ts.incAt) s.newInc s

/-- The counter's tick (R390, R406): TS_CNT, and the virtual clock of each domain. -/
def State.tsTick (s : State) : State :=
  if s.flag R.TS_CTRL F.TS_CTRL_EN then
    let inc := s.get64 R.TS_INC_CUR
    let t := s.put64 R.TS_CNT (s.get64 R.TS_CNT + inc)
    let sel := s.steering
    (List.range 2).foldl (fun (t : State) d =>
      let x := t.dom d
      let rate := if d = sel then (if x.slew then x.p else 0) else if t.domState d = 0 then 0 else x.f - (t.dom sel).f
      if rate = 0 then t
      else
        let u := t.setTime d { x with vofs := x.vofs + rate * (inc : Int) }
        let v := (x.vofs + rate * (inc : Int)) / vFrac
        (u.put64 (R.TS_DOM_VOFS d) (unsigned 64 v)).setFlag (R.TS_DOM_STAT d) F.TS_DOM_STAT_SLEWING
          (x.slew && decide (vNs < (x.vofs + rate * (inc : Int)).natAbs))) t
  else s

/-- REFCLK is lost (R411). -/
def execRefclkLoss (s : State) : Host.Outcome State Fault Refusal :=
  when_ (s.flag R.TS_STATUS F.TS_STATUS_REF_LOCK) ((s.setFlag R.TS_STATUS F.TS_STATUS_REF_LOCK false).raise Ev.TS_REF_LOSS []) s

/-- REFCLK returns and the PLL reacquires from the held word (R411). -/
def execRefclkReturn (s : State) : Host.Outcome State Fault Refusal :=
  when_ s.pm.pllClocks (s.setFlag R.TS_STATUS F.TS_STATUS_REF_LOCK true) s

/-! ### Second edges and 1PPS (R395 to R401) -/

/-- The signed distance between two counter values (R396). -/
def nsDiff (a b : Nat) : Int := signed 32 (unsigned 32 ((a : Int) - (b : Int)))

/-- The second edge (R395), once TS_CNT has passed TS_PPS_NEXT: TS_PPS_NEXT moves on, Hyrno counts the second and records the edge. -/
def execSecondEdge (s : State) : Host.Outcome State Fault Refusal :=
  let c := (s.rd R.TS_PPS_NEXT).toNat
  let n := (s.hy.taiSec + 1) % 2 ^ 48
  when_ (0 ≤ nsDiff s.ns c)
    (({ s with hy := { s.hy with taiSec := n, c0 := c } }.wrN R.TS_PPS_NEXT (c + 1000000000)).put64 R.NVJ_TAI_SHADOW n) s

/-- PPS_OUT may pulse (R399): driven, ungated or the steering domain LOCKED or HOLDOVER, and not before Provisioned. -/
def State.ppsMay (s : State) : Bool :=
  s.flag R.TS_PPS_CFG F.TS_PPS_CFG_OUT_EN && fwRuns s.mode &&
    (!s.flag R.TS_PPS_CFG F.TS_PPS_CFG_GATE || s.domState s.steering = 3 || s.domState s.steering = 4)

/-- The counter's place, in ns, in the second that starts with PPS_OUT's rise: the second edge plus ODLY (R399). -/
def State.ppsPhase (s : State) : Nat :=
  ((nsDiff s.ns s.hy.c0 - signed 16 (s.get R.TS_PPS_DLY F.TS_PPS_DLY_ODLY)) % 1000000000).toNat

/-- PPS_OUT rises at the second edge plus ODLY (R399): in the first tick from there on, a tick being less than 5 ns. -/
def execPpsOutRise (s : State) : Host.Outcome State Fault Refusal :=
  when_ (s.ppsMay && decide (s.ppsPhase < 5)) { s with pins := { s.pins with ppsOut := true } } s

/-- PPS_OUT falls WIDTH ms after it rose (R399). -/
def execPpsOutFall (s : State) : Host.Outcome State Fault Refusal :=
  when_ (s.get R.TS_PPS_CFG F.TS_PPS_CFG_WIDTH * 1000000 ≤ s.ppsPhase) { s with pins := { s.pins with ppsOut := false } } s

/-- The pin is held low where it may not pulse (R399). -/
def State.ppsTick (s : State) : State := if s.ppsMay then s else { s with pins := { s.pins with ppsOut := false } }

/-- The error of a stamp against the nearest second edge (R396, R401), in 1/16 ns; a shadow's is taken on its virtual clock. -/
def State.ppsError (s : State) (d t : Nat) : Int :=
  let v := if d = s.steering then 0 else (s.dom d).vofs / vNs
  let x := (nsDiff t s.hy.c0 + v) % 1000000000
  16 * (if 500000000 < x then x - 1000000000 else x)

/-- A rising edge on PPS_IN at counter value `ts` (R400, R401). -/
def execPpsInEdge (ts : BitVec 32) (s : State) : Host.Outcome State Fault Refusal :=
  if !s.flag R.TS_PPS_CFG F.TS_PPS_CFG_IN_EN then .next s
  else
    let t := unsigned 32 ((ts.toNat : Int) - signed 16 (s.get R.TS_PPS_DLY F.TS_PPS_DLY_IDLY))
    let gap : Option Int := s.ts.pps.map (nsDiff t)
    if (match gap with
      | some g => decide (g.natAbs < 100000)
      | none => false) then .next (s.count R.TS_PPS_GLITCH_CNT)
    else
      let ok := match gap with
        | some g => decide (999000000 ≤ g) && decide (g ≤ 1001000000)
        | none => false
      let u := { s with ts := { s.ts with pps := some t, ppsLost := false } }.wrN R.TS_PPS_IN_TS t
      let u := if ok then u.setFlag R.TS_STATUS F.TS_STATUS_PPS_IN_OK true else u
      .next ((List.range 2).foldl (fun (v : State) d => if v.domSrc d = 2 then v.sample d (v.ppsError d t) else v) u)

/-- The last accepted edge on PPS_IN lies 1.1 s back, or there was none (R400). -/
def State.ppsGone (s : State) : Bool := match s.ts.pps with
  | some t => decide (1100000000 ≤ unsigned 32 ((s.ns : Int) - signed 16 (s.get R.TS_PPS_DLY F.TS_PPS_DLY_IDLY) - (t : Int)))
  | none => true

/-- No edge is accepted for 1.1 s (R400). -/
def execPpsInTimeout (s : State) : Host.Outcome State Fault Refusal :=
  when_ (s.flag R.TS_PPS_CFG F.TS_PPS_CFG_IN_EN && !s.ts.ppsLost && s.ppsGone)
    (({ s with ts := { s.ts with ppsLost := true } }.setFlag R.TS_STATUS F.TS_STATUS_PPS_IN_OK false).raise Ev.TS_PPS_IN_LOSS []) s

/-! ### SyncE (R412 to R414) -/

/-- A gate of 1 s ends with the measured difference, in 0.01 ppb (R412, R413). -/
def execSynceGateEnd (meas : BitVec 32) (s : State) : Host.Outcome State Fault Refusal :=
  let n := s.get R.TS_SYNCE_CFG F.TS_SYNCE_CFG_LANE
  if !s.flag R.TS_SYNCE_CFG F.TS_SYNCE_CFG_EN || !s.spanPast cyclesPerSecond s.ts.gateAt then .next s
  else if s.laneRx n != Rx.up then .next (s.synceLost n)
  else
    let t := ({ s with ts := { s.ts with gateAt := some s.now } }.wr R.TS_SYNCE_MEAS meas).setFlag R.TS_STATUS F.TS_STATUS_SYNCE_OK true
    .next ((List.range 2).foldl (fun (t : State) d =>
      if t.flag (R.TS_DOM_CFG d) F.TS_DOM_CFG_HYBRID && t.domState d != 0 then
        let x := t.dom d
        t.servoOut d { x with i := x.i - meas.toInt * centi }
      else t) t)

/-- QL-DNU (PRESUMED, log entry 42): ITU-T G.781's code 15; a lower code is the better clock. -/
def qlDnu : Nat := 15

/-- Hyrno takes the SyncE lane of the best QL among the lanes UP (R414). -/
def State.qlSelect (s : State) : State :=
  if !s.ts.qlAuto then s
  else
    let l := (List.range 16).filter (fun n => s.laneRx n = Rx.up && (nth s.ts.ql n none).isSome && (nth s.ts.ql n none) != some qlDnu)
    let best := l.foldl (fun (m : Option Nat) n => match m with
      | none => some n
      | some k => if (nth s.ts.ql n none).getD qlDnu < (nth s.ts.ql k none).getD qlDnu then some n else m) none
    match best with
    | none => s
    | some n => if s.get R.TS_SYNCE_CFG F.TS_SYNCE_CFG_LANE = n then s
      else (s.put R.TS_SYNCE_CFG F.TS_SYNCE_CFG_LANE n).setFlag R.TS_STATUS F.TS_STATUS_SYNCE_OK false

/-- An ESMC frame gives the QL of a port's lane (R414). -/
def execEsmcFrame (g : Fin 4) (ql : BitVec 4) (s : State) : Host.Outcome State Fault Refusal :=
  let slow (k : FrameKind) : Bool := match k with
    | .slow _ => true
    | _ => false
  if s.fh.rx.any (fun f => f.port = g.val && slow f.kind) then
    let t := s.rxTake g slow
    .next ({ t with ts := { t.ts with ql := t.ts.ql.set (4 * g.val) (some ql.toNat) } }.qlSelect)
  else .next s

/-- Once a second ESMC goes out on every Ethernet port of role Fronthaul or Cascade (R414): the QL of the device's own source, which is open where
no SyncE lane serves, and QL-DNU towards the lane the frequency comes from. -/
def State.esmcSend (s : State) : State :=
  let n := s.get R.TS_SYNCE_CFG F.TS_SYNCE_CFG_LANE
  let fed := s.flag R.TS_SYNCE_CFG F.TS_SYNCE_CFG_EN && s.flag R.TS_STATUS F.TS_STATUS_SYNCE_OK
  let own : Nat × State := match fed, nth s.ts.ql n none with
    | true, some q => (q, s)
    | _, _ => ((s.fresh 4).1.toNat, (s.fresh 4).2)
  (List.range 4).foldl (fun (t : State) g =>
    if (t.role g = 1 || t.role g = 2) && !t.gale g then
      t.txQueue ⟨g, 2, 46, .esmc (if fed && n / 4 = g then qlDnu else own.1)⟩
    else t) { own.2 with ts := { own.2.ts with esmcAt := some s.now } }

/-- The ESMC of one second, with none sent in the second before (R414). -/
def execEsmcSend (s : State) : Host.Outcome State Fault Refusal := when_ (s.spanPast cyclesPerSecond s.ts.esmcAt) s.esmcSend s

/-! ### PTP in firmware (R415) -/

/-- The domain a PTP message belongs to: its port and domain number; else the domain configured on the port. -/
def State.ptpDom (s : State) (g num : Nat) : Option (Nat × Bool) :=
  match (List.range 2).find? (fun d => s.domSrc d = 1 && nth (s.dom d).ptp 0 0 = g && nth (s.dom d).ptp 1 0 = num) with
  | some d => some (d, true)
  | none => ((List.range 2).find? (fun d => s.domSrc d = 1 && nth (s.dom d).ptp 0 0 = g)).map (fun d => (d, false))

/-- A PTP message goes to firmware (R354, R398, R415): what lies outside the device's share is discarded and counted. The offset that
an exchange gives reaches the domain as a write of TS_DOM_OFS. -/
def execPtpMessage (g : Fin 4) (num : BitVec 8) (k : PtpKind) (s : State) : Host.Outcome State Fault Refusal :=
  let isPtp (f : FrameKind) : Bool := match f with
    | .ptp _ => true
    | _ => false
  if !s.fh.rx.any (fun f => f.port = g.val && isPtp f.kind) then .next s
  else
    let t := s.rxTake g isPtp
    match t.ptpDom g num.toNat with
    | none => .next t
    | some (d, own) =>
      let x := t.dom d
      if !own then .next (t.setTime d { x with other := x.other + 1 })
      else match k with
      | .peer => .next (t.setTime d { x with peer := x.peer + 1 })
      | .other => .next (t.setTime d { x with other := x.other + 1 })
      | .share false => .next t
      | .share true =>
        let r := if x.rate.1 + cyclesPerSecond ≤ s.now then (s.now, 0) else x.rate
        if r.2 < 128 then .next (t.setTime d { x with rate := (r.1, r.2 + 1) })
        else .next (t.setTime d { x with overCnt := x.overCnt + 1, rate := r })

end Sys2Proof.Machine
end

