-- ==== Sys2Proof/Machine/CmdTime.lean ====
section
/-! DEFINITION. The time commands (group 0x0B; R381, R397, R399, R402, R403, R409, R412 to R415). -/

namespace Sys2Proof.Machine

/-- A PTP setting is one the device takes part in (R415): domain numbers 24 to 43 for G.8275.1, 44 to 63 for G.8275.2. -/
def ptpNum (profile num : Nat) : Bool :=
  if profile = 1 then decide (24 ≤ num) && decide (num ≤ 43) else decide (44 ≤ num) && decide (num ≤ 63)

/-- A domain's source changes: OFF, or FREERUN with no sample accepted (R404); its servo starts anew and its VOFS stays. -/
def State.newSource (s : State) (d src : Nat) : State :=
  let x := s.dom d
  let t := s.setTime d { vofs := x.vofs, took := x.took, ptp := x.ptp, overCnt := x.overCnt, peer := x.peer, other := x.other, rate := x.rate : TimeDom }
  ((t.setDomState d (if src = 0 then 0 else 1)).setFlag (R.TS_DOM_STAT d) F.TS_DOM_STAT_FLIM false).showDom d

/-- TIME_DOMAIN_SET. -/
def execTimeDomainSet (c : Cmd) (s : State) : Host.Outcome State Fault Refusal :=
  let d := arg c 8 1
  let src := argBits c 9 0 2
  let ps := arg c 10 2
  let lk := arg c 12 2
  let tmo := arg c 14 1
  let prof := arg c 24 1
  let new := d < 2 && s.domSrc d != src
  let t := s.wrN (R.TS_DOM_CFG d) (src + 2 ^ 2 * argBits c 9 2 1 + 2 ^ 4 * (ps % 2 ^ 10) + 2 ^ 16 * (lk % 2 ^ 10) + 2 ^ 26 * (tmo % 16))
  let t := (t.wrN (R.TS_DOM_GAIN d) (arg c 16 2 + 2 ^ 16 * arg c 18 2)).wrN (R.TS_DOM_LIM d) (arg c 20 2)
  let t := t.setTime d { t.dom d with ptp := [arg c 22 1, arg c 23 1, prof, arg c 25 1, arg c 26 2, arg c 28 4] }
  runCmd s c false [] [s.needML c, s.badState (new && s.steering = d && isRadio s.mode) 8 d, badParam (decide (2 ≤ d)) 8,
      badParam (src = 3 || (src = 2 && decide (d < 2) && s.domSrc (1 - d) = 2)) 9, badParam (ps = 0 || decide (1000 < ps)) 10,
      badParam (lk = 0 || decide (1023 < lk)) 12, badParam (tmo = 0 || decide (15 < tmo)) 14, badParam (src = 1 && decide (3 < arg c 22 1)) 22,
      badParam (src = 1 && (prof = 1 || prof = 2) && !ptpNum prof (arg c 23 1)) 23, badParam (src = 1 && prof != 1 && prof != 2) 24]
    (.done (if new then t.newSource d src else t) St.ok 0 0)

/-- TIME_SELECT (R409). -/
def execTimeSelect (c : Cmd) (s : State) : Host.Outcome State Fault Refusal :=
  let d := arg c 8 1
  let p := arg c 9 1
  let t := { s with ts := { s.ts with auto := p = 1 } }.select d
  runCmd s c false [] [s.needML c, s.badState (decide (d < 2) && !s.maySelect d) 0 d, badParam (decide (2 ≤ d)) 8, badParam (decide (2 ≤ p)) 9] (.done t St.ok 0 0)

/-- TIME_PPS (R399, R400). -/
def execTimePps (c : Cmd) (s : State) : Host.Outcome State Fault Refusal :=
  let w := arg c 10 2
  let t := (s.wrN R.TS_PPS_CFG (argBits c 8 0 3 + 2 ^ 8 * (w % 2 ^ 9))).wrN R.TS_PPS_DLY (arg c 12 2 + 2 ^ 16 * arg c 14 2)
  let t := if argBit c 8 0 then t else { t with pins := { t.pins with ppsOut := false } }
  runCmd s c false [] [s.needML c, badParam (w = 0 || decide (500 < w)) 10] (.done t St.ok 0 0)

/-- The TAI second of the next alignment edge, the second edge delayed by α (R397). -/
def State.alignSec (s : State) (al : Nat) : Nat := if nsDiff s.ns s.hy.c0 < (al : Int) then s.hy.taiSec else s.hy.taiSec + 1

/-- SFN of the frame that starts at the alignment edge of a TAI second (R397): T is that second less 19 s and the GPS epoch, in frames. -/
def sfnAt (sec beta : Nat) : Nat := ((100 * ((sec : Int) - 19 - 315964800) + (beta : Int)) % 1024).toNat

/-- TIME_FRAME (R91, R397). -/
def execTimeFrame (c : Cmd) (s : State) : Host.Outcome State Fault Refusal :=
  let al := arg c 8 4
  let be := arg c 12 2
  let t := s.wrN R.TS_FRAME_OFS al
  let f := sfnAt (s.alignSec al) be
  let t := { t with ts := { t.ts with beta := be }, tl := { t.tl with sfnLoad := some f, alignArmed := true } }
  runCmd s c true [(106, 0)] [s.needML c, s.badState (!(s.mode = .provisioned || s.mode = .standby)) 8 0, badParam (decide (9999999 < al)) 8,
    badParam (decide (1023 < be)) 12] (.wait t .aligned [])

/-- TIME_SYNCE (R412 to R414): a newly selected lane has no complete gate yet. -/
def execTimeSynce (c : Cmd) (s : State) : Host.Outcome State Fault Refusal :=
  let n := argBits c 8 0 4
  let en := argBit c 8 6
  let keep := en && s.flag R.TS_SYNCE_CFG F.TS_SYNCE_CFG_EN && s.get R.TS_SYNCE_CFG F.TS_SYNCE_CFG_LANE = n
  let t := s.wrN R.TS_SYNCE_CFG (n + 2 ^ 4 * argBits c 8 6 1)
  let t := if keep then t else t.setFlag R.TS_STATUS F.TS_STATUS_SYNCE_OK false
  runCmd s c false [] [s.needML c] (.done { t with ts := { t.ts with qlAuto := argBit c 8 7 } }.qlSelect St.ok 0 0)

/-- TIME_GET: the time now, extended as R396 says. -/
def execTimeGet (c : Cmd) (s : State) : Host.Outcome State Fault Refusal :=
  let x := (s.hy.taiSec : Int) * 1000000000 + nsDiff s.ns s.hy.c0
  runCmd s c false [] [] (.done s St.ok 0 (resN 16 6 (unsigned 48 (x / 1000000000)) + resN 22 2 s.tl.sfn + resN 24 4 (x % 1000000000).toNat +
    resN 28 1 (s.domState 0 + 2 ^ 4 * s.domState 1) + resN 29 1 (s.steering + 2 * s.get R.TS_STATUS F.TS_STATUS_VALID)))

/-- An enabled flow of a carrier that the context holds goes over a port. -/
def State.flowOver (s : State) (x g : Nat) : Bool :=
  (List.range 1024).any (fun f => s.flEn f && (s.get (R.FH_FLOW f 1) F.FH_FLOW_PORTS).testBit g && s.holds x 2 (s.flCar f))

/-- TIME_DELAY (R381): 10 ms are 4,915,200 cycles. DETAIL of NOT_OWNER is open: a port is no resource of R471. -/
def execTimeDelay (c : Cmd) (s : State) : Host.Outcome State Fault Refusal :=
  let g := arg c 8 1
  let id := arg c 9 1
  runCmd s c false [(104, g * 256 + id)] [⟨decide (g < 4) && !s.flowOver c.ctx g, St.notOwner, (Config.portDetail (BitVec.ofNat 8 g)).toNat⟩, badParam (decide (4 ≤ g)) 8]
    (.wait (s.delayStart g id (some c.ctx)) (.delay g id) [s.now + 4915200])

/-- A delay measurement that TIME_DELAY asked for meets no response in 10 ms. -/
def State.delayLimit (s : State) : State :=
  let late (j : Job) : Bool := match j.wait with
    | .delay _ _ => decide (nth j.data 0 0 ≤ s.now)
    | _ => false
  (s.hy.jobs.filter late).foldl (fun (t : State) j => match j.wait with
    | .delay g id =>
      let u := { t with fh := { t.fh with delays := t.fh.delays.filter (fun (d : DelayReq) => !(d.port = g && d.id = id)) } }
      u.finish (fun w => w = .delay g id) St.timeout 0 0
    | _ => t) s

/-- TIME_PTP_STATS (R415). -/
def execTimePtpStats (c : Cmd) (s : State) : Host.Outcome State Fault Refusal :=
  let d := arg c 8 1
  let x := s.dom d
  runCmd s c false [] [badParam (decide (2 ≤ d)) 8] (.done s St.ok 0 (resN 16 4 x.overCnt + resN 20 4 x.peer + resN 24 4 x.other))

end Sys2Proof.Machine
end

