-- ==== Sys2Proof/Machine/Access.lean ====
section
/-! DEFINITION. How hosts reach the device's registers and memory: writes and reads under the access codes (R11 to R17, R90), the
BAR0 map and who sees what of it (R429 to R431), the rings' registers (R434 to R437), the alert summary (R445), the debug
window (R447, R448). -/

namespace Sys2Proof.Machine

/-! ### Access codes -/

/-- A write of a whole register (R13, R17, R90): RW and RWS fields take the value, W1C bits written as one are cleared, an error
counter is cleared, everything else stays. A bit that hardware set in this cycle stays set (R14), and a counter that counted in it
reads 1 (R90). -/
def State.regWrite (s : State) (a : Nat) (v : Word) : State :=
  match regSpec a with
  | none => s
  | some r =>
    if r.cnt then s.wr a (if s.marked a = 0 then 0 else 1)
    else
      let m : Word := BitVec.ofNat 32 (r.rw ||| r.rws)
      let c : Word := BitVec.ofNat 32 r.w1c &&& ~~~(s.marked a)
      s.wr a ((((s.rd a) &&& ~~~m) ||| (v &&& m)) &&& ~~~(v &&& c))

/-- The 64-bit registers (R12): first low word, count, stride. DFE_CAR_CIC, which R224 calls two words, stands among them (DEDUCED, log
entry 111). -/
def wideRegs : List (Nat × Nat × Nat) := [
  (0x40100058, 1, 8), (0x4030010C, 16, 0x20), (0x40300600, 16, 8), (0x40301240, 8, 8), (0x40502000, 16, 0x40),
  (0x40502008, 16, 0x40), (0x40502010, 16, 0x40), (0x40502018, 16, 0x40), (0x40502020, 16, 0x40), (0x40502028, 16, 0x40),
  (0x40600280, 16, 8), (0x40600300, 16, 8), (0x40700060, 4, 8), (0x40700180, 16, 8), (0x40700600, 4, 0x10),
  (0x40700608, 4, 0x10), (0x40800008, 1, 8), (0x40800010, 1, 8), (0x40800018, 1, 8), (0x40800120, 2, 0x40)] ++ [
  (0x40900200, 8, 0x10), (0x40900208, 8, 0x10), (0x40A00108, 16, 0x40), (0x40A00110, 16, 0x40), (0x40A00120, 16, 0x40),
  (0x40D00058, 2, 8), (0x40D00200, 43, 8), (0x40D00400, 43, 8), (0x40F00010, 1, 8), (bar0 + 0x1050, 8, 0x800),
  (bar0 + 0x6000, 32, 0x40)]

/-- Is `a` the low word of a 64-bit register? -/
def isWide (a : Nat) : Bool := wideRegs.any (fun w => decide (w.1 ≤ a) && (a - w.1) % w.2.2 = 0 && decide ((a - w.1) / w.2.2 < w.2.1))

/-- The block status words whose bits the spec names as a whole and does not place (R138, R178, R224, R386): what they read is open. -/
def summaryRegs : List Nat := [R.RF_STATUS, R.CV_STATUS, R.DFE_STATUS, R.FH_STATUS]

/-- TH_NBR of a sensor (R588): its four neighbours. -/
def nbrWord (i : Nat) : Word := BitVec.ofNat 32 ((List.range 4).foldl (fun n j => n + (Config.thNeighbour i j).toNat * 2 ^ (8 * j)) 0)

/-- A read of a register word (R12): the low word of a 64-bit register latches the high word, and the next read of the high word
answers the holding copy. The receive FIFOs pop (R458 to R460). -/
def State.regRead (s : State) (a : Nat) : Word × State :=
  if summaryRegs.contains a then s.fresh 32
  else if R.TH_NBR 0 ≤ a ∧ a < R.TH_NBR 48 then (nbrWord ((a - R.TH_NBR 0) / 4), s)
  else if isWide a then (s.rd a, { s with latch := (a + 4, s.rd (a + 4)) :: s.latch.filter (fun l => l.1 != a + 4) })
  else match s.latch.find? (fun l => l.1 = a) with
    | some l => (l.2, if a = R.HK_FIFO_RD_HI 0 then { (s.hkPop false) with latch := s.latch.erase l }
        else if a = R.HK_FIFO_RD_HI 1 then { (s.hkPop true) with latch := s.latch.erase l } else { s with latch := s.latch.erase l })
    | none => if a = R.HI_UART_RXD then (s.rd a, s.uartPop) else if a = R.PM_I2C_RXD then (s.rd a, s.i2cPop) else (s.rd a, s)

/-- Which of `n` registers of a family stands at `a`? -/
def indexAt (f : Nat → Nat) (n a : Nat) : Option Nat := (List.range n).find? (fun i => a = f i)

/-- A write that puts a value into a field which the field's own table refuses (R142, R179, R258, R339, R344, R384, R387, R420, R458,
R554, R587). The whole write is not performed (log entry 92). -/
def refusedWrite (a : Nat) (v : Word) : Bool :=
  let n := v.toNat
  (a = R.HI_UART_CFG && decide (4 < n % 8)) ||
  ((indexAt R.RF_PABIAS_CFG 64 a).isSome && fldGet F.RF_PABIAS_CFG_SLEW v = 0) ||
  (a = R.CV_ROT_CFG && decide (fldGet F.CV_ROT_CFG_PERIOD v < 2)) ||
  ((indexAt R.BF_REGION_CFG 64 a).isSome && fldGet F.BF_REGION_CFG_TYPE v = 3) ||
  ((indexAt R.LN_GROUP_CFG 4 a).isSome && fldGet F.LN_GROUP_CFG_WIDTH v = 3) ||
  ((indexAt R.LN_PAT_CFG 16 a).isSome && (fldGet F.LN_PAT_CFG_GPAT v = 7 || fldGet F.LN_PAT_CFG_CPAT v = 7)) ||
  (a = R.FH_UADDR_CFG && decide (12 < (bitsOf (n % 2 ^ 16) 16).length)) ||
  ((indexAt (fun f => R.FH_FLOW f 1) 1024 a).isSome && ((decide (1 ≤ fldGet F.FH_FLOW_IQW v) && decide (fldGet F.FH_FLOW_IQW v ≤ 6)) ||
    decide (2 ≤ fldGet F.FH_FLOW_METH v))) ||
  ((indexAt R.TS_DOM_CFG 2 a).isSome && (fldGet F.TS_DOM_CFG_SRC v = 3 || fldGet F.TS_DOM_CFG_TMO v = 0)) ||
  (a = R.PM_GUST_CFG && (fldGet F.PM_GUST_CFG_CAP v = 0 || decide (16 < fldGet F.PM_GUST_CFG_CAP v))) ||
  ((indexAt R.HK_SEQ_OSR 2 a).isSome && (decide (n % 2 ^ 21 < 125) || decide (1250000 < n % 2 ^ 21)))

/-- A write to TL_CTRL: RUNNING follows RUN (R91, R92), and ALIGN acts. -/
def State.tlCtrlWrite (s : State) (v : Word) : State :=
  let t := s.regWrite R.TL_CTRL v
  let t := t.setFlag R.TL_STATUS F.TL_STATUS_RUNNING (t.flag R.TL_CTRL F.TL_CTRL_RUN)
  if v.toNat.testBit 1 then t.act (execTlCtrlAlign t) else t

/-- A write to TS_CTRL: EN is set; STEP acts (R393); a changed SEL switches (R408), but not through the debug window (R409). -/
def State.tsCtrlWrite (s : State) (v : Word) (dbg : Bool) : State :=
  let t := s.setFlag R.TS_CTRL F.TS_CTRL_EN (v.toNat.testBit 0)
  let t := if dbg then t else t.act (execTsCtrlSel ⟨v.toNat / 2 % 2, Nat.mod_lt _ (by decide)⟩ t)
  if v.toNat.testBit 2 then t.act (execTsCtrlStep t) else t

/-- A write to DMA_CH_CFG (R511, R518): the settings, then RST, EN rising, EN falling. -/
def State.dmaCfgWrite (s : State) (c : Nat) (v : Word) : State :=
  let en := s.chEn c
  let t := (s.regWrite (R.DMA_CH_CFG c) v).setFlag (R.DMA_CH_CFG c) F.DMA_CH_CFG_EN en
  if v.toNat.testBit 1 then t.chReset c
  else if v.toNat.testBit 0 then (if en then t else t.chStart c)
  else if en then t.chDisable c else t

/-- A write to a register whose write performs an action (R13), if `a` is one. -/
def State.actionWrite (s : State) (a : Nat) (v : Word) (dbg : Bool) : Option State :=
  if a = R.HI_UART_TXD then some (s.uartPut (v.setWidth 8))
  else if a = R.PM_I2C_TXD then some (s.i2cPut (v.setWidth 8))
  else if a = R.TL_SFN_LOAD then some (s.act (execTlSfnLoad (v.setWidth 10) s))
  else if a = R.TL_CTRL then some (s.tlCtrlWrite v)
  else if a = R.TS_CTRL then some (s.tsCtrlWrite v dbg)
  else if a = R.NVJ_WCMD then some (if v.toNat.testBit 31 then s.act (execJournalWriteStart (v.setWidth 12) false s) else s)
  else if a = R.PM_WAKE then some (s.act (execPmWake v s))
  else match indexAt R.TS_DOM_OFS 2 a with
  | some d => some (s.act (execTsDomOfsWrite ⟨d % 2, Nat.mod_lt _ (by decide)⟩ v s))
  | none => match indexAt R.BF_REGION_PUB 64 a with
  | some r => some (if v.toNat.testBit 0 then s.publish r else s)
  | none => match indexAt R.LN_PAT_STAT 16 a with
  | some n => some (if v.toNat.testBit 31 then s.patClear n else s)
  | none => match indexAt R.DMA_CH_CFG 16 a with
  | some c => some (s.dmaCfgWrite c v)
  | none => match indexAt R.DMA_CH_DOORBELL 16 a with
  | some c => some (s.act (execDmaChDoorbell ⟨c % 16, Nat.mod_lt _ (by decide)⟩ false s))
  | none => none

/-- A write of a word to a block register (R13): a refused value changes nothing; a write that performs an action performs it; a
changed RATE is the port's rate at the set point in force (R488); else the access codes. -/
def State.plainWrite (s : State) (a : Nat) (v : Word) (dbg : Bool) : State :=
  if refusedWrite a v then s
  else match s.actionWrite a v dbg with
  | some t => t
  | none =>
    let t := s.regWrite a v
    match indexAt R.MC_PORT_CFG 8 a with
    | some p =>
      let n := t.get (R.MC_PORT_CFG p) F.MC_PORT_CFG_RATE * 2 ^ s.get R.MC_STATUS F.MC_STATUS_SP
      { t with mc := { t.mc with nominal := t.mc.nominal.set p n } }
    | none => match indexAt R.DFE_DPD_CFG 64 a with
      | some p => t.dpdEnable p (t.flag a F.DFE_DPD_CFG_EN)
      | none => t

/-! ### Rings (R434 to R437) -/

/-- Host-produced rings: command and bulk rings (R433). -/
def hostProduces (r : Nat) : Bool := r < 8 || 24 ≤ r

/-- A write of PROD by the host (R434): the doorbell of a running ring; more entries than the ring holds put it in ERROR. A ring
that is not running only holds the value. -/
def State.prodWrite (s : State) (r : Nat) (v : Word) : State :=
  if !hostProduces r then s
  else
    let i := v.toNat % 2 ^ 16
    let t := (s.put (R.HI_RING_PROD r) F.HI_RING_PROD_IDX i)
    let t := { t with hi := { t.hi with ringPos := t.hi.ringPos.set r 0 } }
    if !s.ringRuns r then t
    else if s.ringSize r < (i + 2 ^ 16 - s.get (R.HI_RING_CONS r) F.HI_RING_CONS_IDX) % 2 ^ 16 then s.ringError r 1
    else if 24 ≤ r then t.bulkBell (r - 16) else t

/-- A write of CONS by the host (R434): one that passes PROD puts the ring in ERROR; a freed event ring takes the overflow record
that waits (R443). -/
def State.consWrite (s : State) (r : Nat) (v : Word) : State :=
  if hostProduces r then s
  else
    let i := v.toNat % 2 ^ 16
    let t := (s.put (R.HI_RING_CONS r) F.HI_RING_CONS_IDX i)
    let t := { t with hi := { t.hi with ringPos := t.hi.ringPos.set r 0 } }
    if !s.ringRuns r then t
    else if s.ringUsed r < (i + 2 ^ 16 - s.get (R.HI_RING_CONS r) F.HI_RING_CONS_IDX) % 2 ^ 16 then s.ringError r 1
    else if 16 ≤ r then t.overflowRecord (r - 16) else t

/-- Address of the next word that HI_RING_DATA moves (R437). -/
def State.dataAddr (s : State) (r : Nat) : Nat :=
  s.ringAddr r (if hostProduces r then s.get (R.HI_RING_PROD r) F.HI_RING_PROD_IDX else s.get (R.HI_RING_CONS r) F.HI_RING_CONS_IDX) +
    4 * (nth s.hi.ringPos r 0 % (ringEntry r / 4))

/-- The word position goes on. -/
def State.posNext (s : State) (r : Nat) : State :=
  { s with hi := { s.hi with ringPos := s.hi.ringPos.set r ((nth s.hi.ringPos r 0 + 1) % (ringEntry r / 4)) } }

/-- A write to HI_RING_DATA (R437): the next word of the entry at PROD, on a host-produced ring with LOC = 1. -/
def State.dataWrite (s : State) (r : Nat) (v : Word) : State :=
  if hostProduces r && s.flag (R.HI_RING_CFG r) F.HI_RING_CFG_LOC && s.ringRuns r then
    (s.store (s.dataAddr r) (leBytes 4 v.toNat)).posNext r
  else s

/-- A read of HI_RING_DATA (R437): the next word of the entry at CONS, on a device-produced ring with LOC = 1. -/
def State.dataRead (s : State) (r : Nat) : Word × State :=
  if !hostProduces r && s.flag (R.HI_RING_CFG r) F.HI_RING_CFG_LOC && s.ringRuns r then
    let (b, t) := s.load (s.dataAddr r) 4
    (BitVec.ofNat 32 (leNum b), t.posNext r)
  else (0, s)

/-- A ring's base and size are good (R436): 2⁴ to 2¹² entries, and with LOC = 1 a place in DRAM. -/
def State.ringShape (s : State) (r : Nat) : Bool :=
  let sz := s.get (R.HI_RING_CFG r) F.HI_RING_CFG_SIZE
  let b := s.get64 (R.HI_RING_BASE r)
  decide (4 ≤ sz) && decide (sz ≤ 12) && (!s.flag (R.HI_RING_CFG r) F.HI_RING_CFG_LOC ||
    (decide (dramBase ≤ b) && decide (b + s.ringSize r * ringEntry r ≤ dramBase + s.dramSize)))

/-- A write to HI_RING_CFG (R434, R436): while EN is 1 only its EN bit acts; LOC is forced for in-band and SPI contexts; enabling
clears the error and the indices, and checks base, size and the context. -/
def State.ringCfg (s : State) (r : Nat) (v : Word) : State :=
  let en := fldGet F.HI_RING_CFG_EN v = 1
  if s.flag (R.HI_RING_CFG r) F.HI_RING_CFG_EN then (if en then s else s.ringOff r)
  else
    let t := s.wr (R.HI_RING_CFG r) (v &&& 0xFFFF1F3F)
    let t := if 2 ≤ s.ctxAtt (s.ringCtx r) then t.setFlag (R.HI_RING_CFG r) F.HI_RING_CFG_LOC true else t
    if !en then t
    else
      let t := ((t.wr (R.HI_RING_PROD r) 0).wr (R.HI_RING_CONS r) 0).put (R.HI_RING_STAT r) F.HI_RING_STAT_ERR 0
      let t := { t with hi := { t.hi with ringPos := t.hi.ringPos.set r 0, unsig := t.hi.unsig.set r 0 } }
      if !t.ringShape r then t.ringError r 3
      else if t.ctxState (t.ringCtx r) ≠ 1 then t.ringError r 4
      else
        let t := t.put (R.HI_RING_STAT r) F.HI_RING_STAT_STATE 1
        if 24 ≤ r then t.chStart (r - 16) else t

/-! ### The debug window (R447, R448) -/

/-- A table of rows that belong to one owner each: first address, rows, stride, bytes of a row, and the owner of row `i` (none: no
context reads it). -/
structure OwnedRows where
  base : Nat
  n : Nat
  stride : Nat
  span : Nat

/-- The row of a table that holds an address. -/
def rowOf (t : OwnedRows) (a : Nat) : Option Nat :=
  if t.base ≤ a && decide ((a - t.base) / t.stride < t.n) && decide ((a - t.base) % t.stride < t.span) then some ((a - t.base) / t.stride) else none

/-- Rows of carriers (R625): BF, DFE (their FIR banks too), TL. -/
def carRows : List OwnedRows := [⟨0x40400100, 16, 0x20, 0xC⟩, ⟨0x40300100, 16, 0x20, 0x20⟩, ⟨0x40300600, 16, 8, 8⟩, ⟨0x40310000, 16, 0x200, 0x200⟩,
  ⟨0x40000040, 16, 4, 4⟩]

/-- Per-context counters of BF (R258). -/
def ctxRows : OwnedRows := ⟨0x40400C00, 32, 4, 4⟩

/-- Rows of the cores (R305 to R308) and their mailboxes. -/
def coreRows : List OwnedRows := [⟨0x40500100, 16, 4, 4⟩, ⟨0x40500140, 16, 4, 4⟩, ⟨0x40500180, 16, 4, 4⟩, ⟨0x405001C0, 16, 4, 4⟩,
  ⟨0x40502000, 16, 0x40, 0x40⟩, ⟨0x40503000, 16, 0x80, 0x80⟩]

/-- Is the register at `a` one that context `c` reads (R62, R258, R360, R447, R517, R625)? -/
def State.mayReadReg (s : State) (c a : Nat) : Bool :=
  (match rowOf ⟨0x40080000, 4096, 32, 32⟩ a with
    | some i => s.eCtx i = c
    | none => true) &&
  (match rowOf ⟨0x40400800, 64, 16, 16⟩ a with
    | some r => s.rgLen r != 0 && s.rgOwner r = c
    | none => true) &&
  (match carRows.findSome? (fun t => rowOf t a) with
    | some k => s.holds c 2 k
    | none => true) &&
  (match rowOf ctxRows a with
    | some i => i % 8 = c
    | none => true) &&
  (match coreRows.findSome? (fun t => rowOf t a) with
    | some k => !s.coreLeased k || s.coreOwner k = c
    | none => true) &&
  (match rowOf ⟨0x40710000, 1024, 32, 32⟩ a with
    | some f => s.flOwner f = c
    | none => true) &&
  (match rowOf ⟨0x40A00100, 16, 0x40, 0x40⟩ a with
    | some k => !isBulk k || s.holds c 10 (chRing k)
    | none => true)

/-- Does the table of R447 let context `c` read the word at `a`? -/
def State.dbgMay (s : State) (c a : Nat) : Bool :=
  match s.region a with
  | .regs => s.mayReadReg c a
  | .weight => (match s.regionOf ((a - 0x20000000) / 256) with
    | some r => s.rgGranted r && s.rgOwner r = c
    | none => false)
  | .cluster => s.holds c 6 ((a - 0x10000000) / 65536)
  | .dram => s.holds c 7 ((a - dramBase) / 2 ^ 20)
  | _ => false

/-- Internal address of an offset in sub-window `c`. -/
def State.dbgAddr (s : State) (c ofs : Nat) : Nat := (s.get64 (R.HI_DBG_BASE c) + ofs) % 2 ^ 40

/-- A read through sub-window `c` (R447): outside every region a decode error, else refused and counted, or the word. -/
def State.dbgRead (s : State) (c ofs : Nat) : Word × State :=
  let a := s.dbgAddr c ofs
  if s.region a = .none then (0, s.decodeErr)
  else if !s.dbgMay c a then (0, s.count (R.HI_DBG_DENY_CNT c))
  else if s.region a = .regs then s.regRead a
  else (BitVec.ofNat 32 (s.memN a 4), s)

/-- A write through sub-window `c` (R448): with the unlock record, from the mode-lease holder, to a block register that R447 lets it
reach (R30); reported and journalled. Every other write is counted. -/
def State.dbgWrite (s : State) (c ofs : Nat) (v : Word) : State :=
  let a := s.dbgAddr c ofs
  if s.hi.unlock && s.isML c && s.region a = .none then s.decodeErr
  else if s.hi.unlock && s.isML c && s.region a = .regs && s.mayReadReg c a then
    ((s.plainWrite a v true).raise Ev.HI_DBG_WRITE [a, v.toNat]).logRecord [a, v.toNat]
  else s.count (R.HI_DBG_DENY_CNT c)

/-! ### BAR0 (R429 to R431) -/

/-- Number of an attachment (R423). -/
def attNum : Attachment → Nat
  | .pcieA => 0 | .pcieB => 1 | .inband => 2 | .spi => 3

/-- May an attachment see ring set `r` (R429)? -/
def State.seesRing (s : State) (att r : Nat) : Bool :=
  if r < 24 then s.bindOf (r % 8) = some att
  else (match s.leaseOf 10 r with
    | some c => s.bindOf c = some att
    | none => false)

/-- Is the boot mailbox there for an attachment (R533)? -/
def State.mailbox (s : State) (att : Nat) : Bool := s.mode = .boot && (att = 0 || att = 3)

/-- A write of a BAR0 word by an attachment (R429 to R437, R445, R448). -/
def State.bar0Write (s : State) (att ofs : Nat) (v : Word) : State :=
  if ofs % 4 != 0 || 0x10000 ≤ ofs then s
  else if ofs < 0x1000 then
    (if 0x20 ≤ ofs && ofs < 0x40 then
      (if (s.ctxsOf att).any s.isML || att = 3 then s.regWrite (bar0 + ofs) v else s)
    else if 0x100 ≤ ofs then (if s.mailbox att then s.regWrite (bar0 + ofs) v else s)
    else s)
  else if ofs < 0x5000 then
    let c := (ofs - 0x1000) / 0x800
    if s.bindOf c != some att then s
    else if (ofs - 0x1000) % 0x800 = 4 && decide (600 < v.toNat) then s
    else s.regWrite (bar0 + ofs) v
  else if 0x6000 ≤ ofs && ofs < 0x6800 then
    let r := (ofs - 0x6000) / 0x40
    let o := (ofs - 0x6000) % 0x40
    if !s.seesRing att r then s
    else if o = 0 || o = 4 then s.regWrite (bar0 + ofs) v
    else if o = 8 then s.ringCfg r v
    else if o = 0x10 then s.prodWrite r v
    else if o = 0x14 then s.consWrite r v
    else if o = 0x18 then s.dataWrite r v
    else s
  else if 0x8000 ≤ ofs then
    let c := (ofs - 0x8000) / 0x1000
    if s.bindOf c = some att then s.dbgWrite c (ofs % 0x1000) v else s
  else s

/-- A read of a BAR0 word by an attachment. -/
def State.bar0Read (s : State) (att ofs : Nat) : Word × State :=
  if ofs % 4 != 0 || 0x10000 ≤ ofs then (0, s)
  else if ofs < 0x1000 then
    (if ofs = 8 then (BitVec.ofNat 32 (att + 2 ^ 8 * maskOf (s.ctxsOf att)), s)
    else if ofs = 0xC then (s.rd R.PM_MODE, s)
    else if 0x100 ≤ ofs && !s.mailbox att then (0, s)
    else s.regRead (bar0 + ofs))
  else if ofs < 0x5000 then
    (if s.bindOf ((ofs - 0x1000) / 0x800) = some att then s.regRead (bar0 + ofs) else (0, s))
  else if 0x6000 ≤ ofs && ofs < 0x6800 then
    let r := (ofs - 0x6000) / 0x40
    if !s.seesRing att r then (0, s)
    else if (ofs - 0x6000) % 0x40 = 0x18 then s.dataRead r else s.regRead (bar0 + ofs)
  else if 0x8000 ≤ ofs then
    let c := (ofs - 0x8000) / 0x1000
    if s.bindOf c = some att then s.dbgRead c (ofs % 0x1000) else (0, s)
  else (0, s)

/-- BAR0 offset of a ring register. -/
def ringOfs (r o : Nat) : Nat := 0x6000 + 0x40 * r + o

/-- A row that reads answers its word in `lastRead`. -/
def State.answer (r : Word × State) : State := { r.2 with lastRead := some r.1 }

/-- A host write of PROD (R434). -/
def execRingProdWrite (att : Attachment) (ring : Fin 32) (v : Word) (s : State) : Host.Outcome State Fault Refusal :=
  when_ s.hiRuns (s.bar0Write (attNum att) (ringOfs ring 0x10) v) s

/-- A host write of CONS (R434). -/
def execRingConsWrite (att : Attachment) (ring : Fin 32) (v : Word) (s : State) : Host.Outcome State Fault Refusal :=
  when_ s.hiRuns (s.bar0Write (attNum att) (ringOfs ring 0x14) v) s

/-- A write to HI_RING_DATA (R437). -/
def execRingDataWrite (att : Attachment) (ring : Fin 32) (v : Word) (s : State) : Host.Outcome State Fault Refusal :=
  when_ s.hiRuns (s.bar0Write (attNum att) (ringOfs ring 0x18) v) s

/-- A read of HI_RING_DATA (R437). -/
def execRingDataRead (att : Attachment) (ring : Fin 32) (s : State) : Host.Outcome State Fault Refusal :=
  when_ s.hiRuns (State.answer (s.bar0Read (attNum att) (ringOfs ring 0x18))) s

/-- A write to HI_RING_CFG (R434, R436). -/
def execRingEnable (att : Attachment) (ring : Fin 32) (v : Word) (s : State) : Host.Outcome State Fault Refusal :=
  when_ s.hiRuns (s.bar0Write (attNum att) (ringOfs ring 8) v) s

/-- A read that is performed only as an aligned word (R11, R424): a narrower or misaligned one returns zero. -/
def State.readAs (s : State) (w : Width) (addr : Nat) (r : Word × State) : State :=
  if w = .word && addr % 4 = 0 then State.answer r else State.answer (0, s)

/-- A write that is performed only as an aligned word (R11, R424). -/
def State.writeAs (s : State) (w : Width) (addr : Nat) (t : State) : State := if w = .word && addr % 4 = 0 then t else s

/-- A read through sub-window `c` at an offset in it (R447). -/
def execDebugWindowRead (att : Attachment × Width) (c : Fin 8) (ofs : BitVec 12) (s : State) : Host.Outcome State Fault Refusal :=
  when_ s.hiRuns (s.readAs att.2 ofs.toNat (s.bar0Read (attNum att.1) (0x8000 + 0x1000 * c + ofs.toNat))) s

/-- A write through sub-window `c` (R448). -/
def execDebugWindowWrite (att : Attachment × Width) (c : Fin 8) (ofs : BitVec 12) (v : Word) (s : State) : Host.Outcome State Fault Refusal :=
  when_ s.hiRuns (s.writeAs att.2 ofs.toNat (s.bar0Write (attNum att.1) (0x8000 + 0x1000 * c + ofs.toNat) v)) s

/-- A write to HI_ALERT_SUM (R445): bits written as one are cleared, from the mode-lease holder's attachment or SPI only. -/
def execAlertSumClear (att : Attachment) (i : Fin 8) (v : Word) (s : State) : Host.Outcome State Fault Refusal :=
  when_ s.hiRuns (s.bar0Write (attNum att) (0x20 + 4 * i) v) s

/-- A register write that has no row of its own (R13): at its internal address, or at a BAR0 offset. A narrow or misaligned one is not
performed (R11). -/
def execRegisterWrite (via : Via) (addr : BitVec 32) (v : Word) (s : State) : Host.Outcome State Fault Refusal :=
  match via with
  | .internal w => when_ (s.region addr.toNat = .regs) (s.writeAs w addr.toNat (s.plainWrite addr.toNat v false)) s
  | .bar att w => when_ s.hiRuns (s.writeAs w addr.toNat (s.bar0Write (attNum att) addr.toNat v)) s

/-- A write of any value to a 32-bit error counter clears it (R90), where it is one; the counters of BAR0 are written through the
visible page only. -/
def execCounterClear (via : Via) (addr : BitVec 32) (v : Word) (s : State) : Host.Outcome State Fault Refusal :=
  match via with
  | .internal w => when_ ((regSpec addr.toNat).any RegSpec.cnt) (s.writeAs w addr.toNat (s.regWrite addr.toNat v)) s
  | .bar att w => when_ (s.hiRuns && (regSpec (bar0 + addr.toNat)).any RegSpec.cnt) (s.writeAs w addr.toNat (s.bar0Write (attNum att) addr.toNat v)) s

/-- A read of the low word of a 64-bit register (R12); a narrow or misaligned one returns zero (R11). -/
def execReg64LowRead (via : Via) (addr : BitVec 32) (s : State) : Host.Outcome State Fault Refusal :=
  match via with
  | .internal w => when_ (isWide (addr.toNat / 4 * 4)) (s.readAs w addr.toNat (s.regRead addr.toNat)) s
  | .bar att w => when_ (s.hiRuns && isWide (bar0 + addr.toNat / 4 * 4)) (s.readAs w addr.toNat (s.bar0Read (attNum att) addr.toNat)) s

end Sys2Proof.Machine
end

