-- ==== Sys2Proof/Machine/Transport.lean ====
section
/-! DEFINITION. The transports below the BAR0 map: the SPI slave and its always-on window (R426, R549), in-band frames (R425); the
consumption of commands (R438, R439); the low-speed peripherals' events (R457, R459). -/

namespace Sys2Proof.Machine

/-! ### Commands (R438, R439) -/

/-- The command at CONS of a context's command ring: opcode, tag, flags, parameters. -/
def State.cmdAt (s : State) (c : Fin 8) : Cmd × List Byte :=
  let a := s.ringAddr c (s.get (R.HI_RING_CONS c) F.HI_RING_CONS_IDX)
  let n (o k : Nat) : Nat := s.memN (a + o) k
  (⟨c, BitVec.ofNat 16 (n 0 2), BitVec.ofNat 16 (n 2 2), n 4 1 % 2 = 1, BitVec.ofNat 448 (n 8 56)⟩, s.bytes (a + 4) 4)

/-- What HI refuses itself (R438), with its DETAIL: an unknown opcode, a tag in flight, a reserved byte that is not zero. `hd` are
bytes 4 to 7. -/
def State.hiRefuses (s : State) (c : Cmd) (hd : List Byte) : Option Nat :=
  match opRow c.opcode.toNat with
  | none => some 0
  | some r =>
    if s.hy.inflight.any (fun e => e.1.ctx = c.ctx && e.1.tag = c.tag) then some 0xFFFFFFFF
    else if 1 < (nth hd 0 0).toNat then some 4
    else if nth hd 1 0 != 0 then some 5 else if nth hd 2 0 != 0 then some 6 else if nth hd 3 0 != 0 then some 7
    else badByte c r

/-- HI may consume another command of a context (R439). -/
def State.mayConsume (s : State) (c : Nat) : Bool :=
  decide (s.inflOf c < s.get (R.HI_CTX_STAT c) F.HI_CTX_STAT_QUOTA) && decide (s.get R.HI_INFL_TOTAL F.HI_INFL_TOTAL_INFL < 256) &&
    s.ringRuns (8 + c) && decide (s.inflOf c < s.ringSize (8 + c) - s.ringUsed (8 + c))

/-- HI consumes the next command of a context (R438, R439, R465), or holds the ring back. -/
def execCommandConsume (c : Fin 8) (s : State) : Host.Outcome State Fault Refusal :=
  if !(fwRuns s.mode && s.ctxState c = 1 && s.ringRuns c && s.ringUsed c != 0) then .next s
  else if !s.mayConsume c then .next (s.put (R.HI_RING_STAT c) F.HI_RING_STAT_STATE 2)
  else
    let (k, hd) := s.cmdAt c
    let t := (s.incWrap (R.HI_RING_CONS c) F.HI_RING_CONS_IDX).put (R.HI_RING_STAT c) F.HI_RING_STAT_STATE 1
    match s.hiRefuses k hd with
    | some d => .next ((t.count (R.HI_CMD_BAD_CNT c)).postCpl ⟨c, k.tag.toNat, k.opcode.toNat, St.badParam, d, 0⟩)
    | none => .next ((({ t with hy := { t.hy with inflight := t.hy.inflight ++ [(k, k.ordered)] } }).put (R.HI_CTX_STAT c)
        F.HI_CTX_STAT_INFL (s.inflOf c + 1)).put R.HI_INFL_TOTAL F.HI_INFL_TOTAL_INFL (s.get R.HI_INFL_TOTAL F.HI_INFL_TOTAL_INFL + 1))

/-! ### SPI (R426, R549) -/

/-- The always-on window (R549). -/
def State.aonRead (s : State) (ofs : Nat) : Word :=
  if ofs = 0 then s.rd R.HI_ID else if ofs = 0xC then s.rd R.PM_MODE else if ofs = 0x30 then s.rd R.PM_AON_TEMP
  else if ofs = 0x34 then s.rd R.PM_SHUT_INFO else 0
def State.aonWrite (s : State) (ofs : Nat) (v : Word) : State :=
  if ofs = 0x38 then s.holdClear v
  else if ofs = 0x3C && s.mode = .frost && v.toNat % 2 = 1 then s.thawTrigger 0 else s

/-- One word of an SPI transaction: the always-on window in Frost and Thermal hold, else BAR0. -/
def State.spiRead (s : State) (ofs : Nat) : Word × State :=
  if s.mode = .frost || s.mode = .thermalHold then (s.aonRead ofs, s) else s.bar0Read 3 ofs
def State.spiWrite (s : State) (ofs : Nat) (v : Word) : State :=
  if s.mode = .frost || s.mode = .thermalHold then s.aonWrite ofs v else s.bar0Write 3 ofs v

/-- `n` words read from an offset up. -/
def State.spiWords (s : State) (ofs : Nat) : Nat → List Byte × State
  | 0 => ([], s)
  | n + 1 =>
    let r := s.spiRead ofs
    let q := r.2.spiWords (ofs + 4) n
    (leBytes 4 r.1.toNat ++ q.1, q.2)

/-- HI_SPI_CRC_CNT counts a transaction that was ignored; HI has no power in Frost and Thermal hold. -/
def State.spiBad (s : State) : State := if s.hiRuns then s.count R.HI_SPI_CRC_CNT else s

/-- An SPI transaction (R426): `b` are the bytes the host sends, without the dummy clocks of a read. -/
def execSpiTransaction (b : List Byte) (s : State) : Host.Outcome State Fault Refusal :=
  if !(s.hiRuns || s.mode = .frost || s.mode = .thermalHold) || decide (b.length < 4) then .next s
  else
    let op := (nth b 0 0).toNat
    let ofs := (nth b 1 0).toNat * 256 + (nth b 2 0).toNat
    let n := (nth b 3 0).toNat
    if op ≠ 0x0B && op ≠ 0x02 then .next s
    else if n = 0 || decide (64 < n) then .next ({ s with hi := { s.hi with spiOut := [] } }.spiBad)
    else if op = 0x0B then
      let r := s.spiWords ofs n
      let out := r.1 ++ [BitVec.ofNat 8 (crc8 ((b.take 4 ++ r.1).map BitVec.toNat))]
      .next { r.2 with hi := { r.2.hi with spiOut := out } }
    else if b.length = 5 + 4 * n && crc8 ((b.take (4 + 4 * n)).map BitVec.toNat) = (nth b (4 + 4 * n) 0).toNat then
      .next ((List.range n).foldl (fun (t : State) i => t.spiWrite (ofs + 4 * i) (BitVec.ofNat 32 (leNum ((b.drop (4 + 4 * i)).take 4)))) s)
    else .next s.spiBad

/-! ### In-band frames (R425) -/

/-- An operation of an in-band frame: opcode, word count, offset or ring field, data words. -/
structure InOp where
  op : Nat
  n : Nat
  at_ : Nat
  data : List Byte
  deriving DecidableEq, Repr

/-- The operations of a frame: `k` of them must fill the bytes exactly. -/
def inOps : (k : Nat) → List Byte → Option (List InOp)
  | 0, [] => some []
  | 0, _ :: _ => none
  | k + 1, b =>
    if b.length < 8 then none
    else
      let op := (nth b 0 0).toNat
      let n := leNum ((b.drop 2).take 2)
      let m := if op = 1 then 0 else 4 * n
      if (op != 1 && op != 2 && op != 3) || decide (b.length < 8 + m) then none
      else (inOps k (b.drop (8 + m))).map (fun l => ⟨op, n, leNum ((b.drop 4).take 4), (b.drop 8).take m⟩ :: l)

/-- PUSH (R425, R503): entries for a ring the host produces, or, with bit 31 of the ring field, data for a bulk ring. -/
def State.inPush (s : State) (o : InOp) : State :=
  let r := o.at_ % 2 ^ 31
  if 32 ≤ r || !s.seesRing 2 r || !hostProduces r then s
  else if 2 ^ 31 ≤ o.at_ then
    (if r < 24 then s else { s with dma := { s.dma with pushed := s.dma.pushed.set (r - 16) (nth s.dma.pushed (r - 16) [] ++ o.data) } })
  else if !s.ringRuns r then s
  else
    let e := ringEntry r
    let k := o.data.length / e
    let p := s.get (R.HI_RING_PROD r) F.HI_RING_PROD_IDX
    let t := if s.ringUsed r + k ≤ s.ringSize r then
        (List.range k).foldl (fun (t : State) i => t.setBytes (t.ringAddr r (p + i)) ((o.data.drop (e * i)).take e)) s
      else s
    t.prodWrite r (BitVec.ofNat 32 ((p + k) % 2 ^ 16))

/-- `n` BAR0 words read over the in-band attachment. -/
def State.inWords (s : State) (ofs : Nat) : Nat → List Byte × State
  | 0 => ([], s)
  | n + 1 =>
    let r := s.bar0Read 2 ofs
    let q := r.2.inWords (ofs + 4) n
    (leBytes 4 r.1.toNat ++ q.1, q.2)

/-- Perform one operation; a READ32 adds a READ_DATA to the answer. -/
def State.inOp (a : List Byte × Nat × State) (o : InOp) : List Byte × Nat × State :=
  let s := a.2.2
  if o.op = 1 then
    let r := s.inWords o.at_ o.n
    (a.1 ++ [0x81, 0] ++ leBytes 2 o.n ++ leBytes 4 o.at_ ++ r.1, a.2.1 + 1, r.2)
  else if o.op = 2 then
    (a.1, a.2.1, (List.range o.n).foldl (fun (t : State) i => t.bar0Write 2 (o.at_ + 4 * i) (BitVec.ofNat 32 (leNum ((o.data.drop (4 * i)).take 4)))) s)
  else (a.1, a.2.1, s.inPush o)

/-- The frame counter is right: 0 starts a session, and it rises strictly within one. -/
def State.inCounterOk (s : State) (c ctr : Nat) : Bool :=
  match nth s.hi.inbandRx c none with
  | none => ctr = 0
  | some k => decide (k < ctr)

/-- A frame to an in-band host: header with the next counter of the device, the operations, the CMAC; queued in a class (R369). -/
def State.inAnswer (s : State) (c : Nat) (rec : InbandRec) (cls : Nat) (ops : List Byte) (n : Nat) : State :=
  let hd := [1, BitVec.ofNat 8 c] ++ leBytes 2 n ++ leBytes 4 (nth s.hi.inbandTx c 0)
  let out := hd ++ ops ++ leBytes 8 (Config.aesCmac rec.key (hd ++ ops)).toNat
  let t := { s with hi := { s.hi with inbandOut := out, inbandTx := s.hi.inbandTx.set c (nth s.hi.inbandTx c 0 + 1) } }
  t.txQueue ⟨rec.port, cls, out.length, .host⟩

/-- A management frame of port `g` with its source, VLAN and payload (R425): a wrong one is discarded and counted; a valid one attaches
its context, and its operations are performed in order. -/
def execInbandFrame (g : Fin 4) (src : BitVec 48) (vlan : BitVec 12) (b : List Byte) (s : State) : Host.Outcome State Fault Refusal :=
  if !s.hiRuns then .next s
  else
    let c := (nth b 1 0).toNat
    let rec_ := nth s.hi.inband c default
    let body := b.take (b.length - 8)
    let ctr := leNum ((b.drop 4).take 4)
    let ok := decide (16 ≤ b.length) && nth b 0 0 = 1 && decide (c < 8) && s.bindOf c = some 2 && decide (c < s.hi.inband.length) &&
      rec_.port = g.val && rec_.mac = src.toNat && rec_.vlan = vlan.toNat &&
      Config.aesCmac rec_.key body = BitVec.ofNat 64 (leNum (b.drop (b.length - 8))) && s.inCounterOk c ctr
    match ok, inOps (leNum ((b.drop 2).take 2)) (body.drop 8) with
    | true, some ops =>
      let t := s.attach c
      let t := { t with hi := { t.hi with inbandRx := t.hi.inbandRx.set c (some ctr), inbandAt := t.hi.inbandAt.set c t.now } }
      let r := ops.foldl State.inOp ([], 0, t)
      .next (r.2.2.inAnswer c rec_ 3 r.1 r.2.1)
    | _, _ => .next (s.count R.HI_INBAND_REJ_CNT)

/-- Records for in-band hosts leave in RECORDS frames as they are written (R425), one to a frame: those of a bulk ring in class BULK
(R503), the others in class MGMT. -/
def State.recordsTick (s : State) : State :=
  if s.hi.records.isEmpty then s
  else s.hi.records.foldl (fun (t : State) x =>
    let c := t.ringCtx x.1
    if t.ctxState c = 1 then
      t.inAnswer c (nth t.hi.inband c default) (if 24 ≤ x.1 then 4 else 3) ([0x83, 0] ++ leBytes 2 (x.2.length / 4) ++ leBytes 4 x.1 ++ x.2) 1
    else t) { s with hi := { s.hi with records := [] } }

/-! ### Low-speed peripherals -/

/-- The bytes read by a transfer enter the receive FIFO, as far as it has places; those of a SYS_I2C Hyrno takes out at once (R459). -/
def State.i2cGot (s : State) (data : List Byte) : State :=
  if s.hy.jobs.any (fun j => j.wait = .i2c) then s
  else ({ s with hi := { s.hi with i2cRx := (s.hi.i2cRx ++ data).take 64 } }).fifoShow

/-- An I2C transfer ends (R459): the bytes to be written have left the transmit FIFO; with the bytes read, or on a missing acknowledge at a
byte of it. -/
def execI2cTransferDone (nak : Option (BitVec 8)) (data : List Byte) (s : State) : Host.Outcome State Fault Refusal :=
  let t := { s with hi := { s.hi with i2cTx := [] } }
  match nak with
  | some k => .next ((t.count R.PM_I2C_NAK_CNT).finish (fun u => u = .i2c) St.ioError k.toNat 0)
  | none => .next ((t.i2cGot data).finish (fun u => u = .i2c) St.ok 0 (leNum (data.take 16)))

/-- A qualified rising edge on a GPIO that an armed trigger names (R457): a Thaw in Frost (R542), a housekeeping run (R557). -/
def execGpioTriggerEdge (k : Fin 32) (s : State) : Host.Outcome State Fault Refusal :=
  if s.get (R.PM_GPIO_CFG k) F.PM_GPIO_CFG_FUNC % 3 ≠ 0 then .next s
  else
    let t := s.wr R.PM_GPIO_IN (s.rd R.PM_GPIO_IN ||| BitVec.ofNat 32 (2 ^ k.val))
    let t := match s.pm.frost with
      | some f => if f.gpio = k.val then t.thawTrigger 2 else t
      | none => t
    .next (t.hkSource 2 k)

end Sys2Proof.Machine
end

