-- ==== Sys2Proof/Machine/Cycle.lean ====
section
/-! DEFINITION. What happens by itself in one cycle of the DFE clock (log entry 2): the counters count, the buckets fill, and what has no
row of its own ends. -/

namespace Sys2Proof.Machine

/-- The frame counter counts DFE cycles from its first alignment on (R58, R91), and starts a frame every 4,915,200 of them. -/
def State.frameTick (s : State) : State :=
  if !s.flag R.TL_STATUS F.TL_STATUS_ALIGNED then s
  else if s.tl.cyc + 1 < frameCycles then ({ s with tl := { s.tl with cyc := s.tl.cyc + 1 } }).showNow
  else s.newFrame

/-- Cores that are paused count core cycles, 2.5 to a DFE cycle (R31, R294). -/
def State.pausedTick (s : State) : State :=
  ((List.range 16).filter (fun c => s.coreSt c = Co.paused)).foldl (fun (t : State) c => t.nvCount c 5 (2 + s.now % 2)) s

/-- The gust limiter's debt falls at the cap (R544). -/
def State.debtTick (s : State) : State :=
  if s.pm.debt = 0 then s
  else ({ s with pm := { s.pm with debt := s.pm.debt - gustFall (s.get R.PM_GUST_CFG F.PM_GUST_CFG_CAP) } }).showDebt

/-- RX outputs are flagged invalid for FILL_LEN outputs after a synchronising reset (R195, R227); a reset older than a frame is
forgotten. -/
def State.fillTick (s : State) : State :=
  let old (x : Nat × Nat) : Bool := inFuture s.tlNow x.2 && decide (frameCycles ≤ ahead s.tlNow x.2)
  let fills (x : Nat × Nat) : Bool := inFuture s.tlNow x.2 &&
    decide (4 * ahead s.tlNow x.2 < s.get (R.DFE_CAR_STAT x.1) F.DFE_CAR_STAT_FILL_LEN * 2 ^ s.get (R.DFE_CAR_CFG x.1) F.DFE_CAR_CFG_LOGD)
  let t := s.tl.rxSync.foldl (fun (t : State) x =>
    t.setFlag (R.DFE_CAR_STAT x.1) F.DFE_CAR_STAT_FILLING (s.tl.rxSync.any (fun y => y.1 = x.1 && fills y))) s
  { t with tl := { t.tl with rxSync := t.tl.rxSync.filter (fun x => !old x) } }

/-- Launch settings apply from the next symbol of the smallest symbol period in use (PORT_SET), or at once where no frame runs. -/
def State.launchTick (s : State) : State :=
  let num := ((List.range 16).filter s.carRun).foldl (fun m c => max m (s.carNum c)) (if (List.range 16).any s.carRun then 0 else 3)
  let now := !s.flag R.TL_STATUS F.TL_STATUS_ALIGNED || s.tl.cyc = 0 || symAt num s.tlNow != symAt num (s.tlNow - 1)
  if s.fh.launchNext.isEmpty || !now then s
  else s.fh.launchNext.foldl (fun (t : State) x => t.portLaunch x.1 x.2.1 x.2.2.1 x.2.2.2) { s with fh := { s.fh with launchNext := [] } }

/-- The clocks of the radio: the frame counter, the time counter every second cycle (R390), the buckets of MC and DMA, and what
ends at an instant. They stand while the reference PLL does not run. -/
def State.radioTick (s : State) : State :=
  let t := (s.frameTick).lostTick
  let t := if t.now % 2 = 0 then t.tsTick.ppsTick else t
  let t := (t.mcTick.dmaTick).pausedTick
  let t := if t.now % cyclesPerSecond = 0 then t.agesTick else t
  let t := t.fillTick.launchTick.sectPurge.lateTick
  let t := (((((t.gainTick.dacTick).windowTick).muteTick).bankTick).cvTick).sweepTick.swapTick.pulseTick.autoTick
  (t.settle.sweepLimit).delayLimit

/-- One cycle of the DFE clock. -/
def State.cycle (s : State) : State :=
  let t := ({ s with now := s.now + 1, marks := [], tl := { s.tl with nIssue := 0 } }).debtTick
  let t := if t.pm.pllClocks then t.radioTick else t
  let t := if t.hiRuns then t.uartTick else t
  ((t.rampTick.heldTick).recordsTick).thawTick

end Sys2Proof.Machine
end

