-- ==== Sys2Proof/Machine/CmdBeam.lean ====
section
/-! DEFINITION. The forecast and beam commands (groups 0x05 and 0x04; R236, R239 to R243, R251, R254, R473 to R479). -/

namespace Sys2Proof.Machine

/-! ### Feeding the forecast -/

/-- FC_ENTRY. -/
def execFcEntry (c : Cmd) (s : State) : Host.Outcome State Fault Refusal :=
  let w := imageWords (BitVec.ofNat 256 (arg c 8 32))
  let r := s.stageHost c.ctx w
  runCmd s c true [] (s.stageChecks c.ctx w) (.done r.2 St.ok 0 (resN 16 2 s.hy.nextSeq + resN 18 2 r.1))

/-- The images of an FC_BATCH, staged in order up to the first refusal: the entries accepted, the last job allocated, the refusal
and the state. -/
def State.stageAll (x : Nat) : List (List Word) → Nat → Nat → State → Nat × Nat × Option Check × State
  | [], n, job, s => (n, job, none, s)
  | w :: ws, n, job, s => match firstFail (s.stageChecks x w) with
    | some k => (n, job, some k, s)
    | none =>
      let r := s.stageHost x w
      stageAll x ws (n + 1) (if r.1 = 0 then job else r.1) r.2

/-- FC_BATCH. A refusal's DETAIL carries the entry index and what the image's own refusal carries. With no entry accepted, the
first `SEQ` is open. -/
def execFcBatch (c : Cmd) (s : State) : Host.Outcome State Fault Refusal :=
  let n := arg c 8 2
  let a := arg c 16 8
  let ws := (List.range n).map (fun i => imageWords (BitVec.ofNat 256 (s.memN (a + 32 * i) 32)))
  let r := State.stageAll c.ctx ws 0 0 s
  let q := if r.1 = 0 then ((s.fresh 16).1.toNat, { r.2.2.2 with free := s.free + 1 }) else (s.hy.nextSeq, r.2.2.2)
  let st := match r.2.2.1 with
    | some k => (k.status, k.detail % 2 ^ 16 + 2 ^ 16 * r.1)
    | none => (St.ok, 0)
  runCmd s c true [] (s.badState (!isRadio s.mode) 8 0 :: badParam (n = 0 || decide (128 < n)) 8 :: s.spanChecks c 16 64 (32 * n))
    (.done q.2 st.1 st.2 (resN 16 2 r.1 + resN 18 2 q.1 + resN 20 2 r.2.1))

/-- FC_CANCEL: the issuer's own staged entries; those that Hyrno wrote on its behalf stay. -/
def execFcCancel (c : Cmd) (s : State) : Host.Outcome State Fault Refusal :=
  let from_ := arg c 8 4
  let k := arg c 12 1
  let d := (s.now : Int) + s.rel (stStart from_)
  let mine (e : Staged) : Bool := e.ctx = c.ctx.val && !e.held && decide (d ≤ e.target) && (k = 0xFF || (isCarrierAct (stagedAct e) && stagedCar e = k))
  let last := ((s.hy.lastStamp.find? (fun x => x.1 = c.ctx.val)).map Prod.snd).getD 0xFFFFFFFF
  runCmd s c false [] [notOwner (decide (k < 16) && !s.holds c.ctx 2 k) 2 k, badParam (!stValid from_) 8, badParam (decide (16 ≤ k) && k != 0xFF) 12]
    (.done (s.unstage mine) St.ok 0 (resN 16 4 (s.hy.staged.filter mine).length + resN 20 4 last))

/-- FC_STATUS. -/
def execFcStatus (c : Cmd) (s : State) : Host.Outcome State Fault Refusal :=
  let x := c.ctx.val
  runCmd s c false [] [] (.done s St.ok 0 (resN 16 2 (s.get (R.TL_PART_QUOTA x) F.TL_PART_QUOTA_QUOTA) + resN 18 2 (s.partUsed x) +
    resN 20 2 (s.stagedOf x) + resN 22 2 (min 32 (s.heldOf x)) + resN 24 4 (s.rd (R.TL_NOW 1)).toNat))

/-! ### Beams -/

/-- The region is the issuer's. -/
def State.regionOwn (s : State) (c : Cmd) (r : Nat) : Check := notOwner (decide (r < 64) && !s.holdsRes c.ctx 3 r) 3 r

/-- PRB groups of a MAP region with these settings (R239). -/
def State.groupsOf (s : State) (k pglog : Nat) : Nat := (s.get (R.BF_CAR_CFG k) F.BF_CAR_CFG_NRB + 2 ^ pglog - 1) / 2 ^ pglog

/-- Vectors of a MAP region with one beam a layer pass the weight memory's bound on their own (R236). -/
def State.mapTooFine (s : State) (k g : Nat) : Bool :=
  decide (70144 / 2 ^ s.carNum k < max (s.get (R.BF_CAR_STAT k) F.BF_CAR_STAT_LDL) (s.get (R.BF_CAR_STAT k) F.BF_CAR_STAT_LUL) * g)

/-- BEAM_REGION_SET writes BF_REGION_CFG; a paged region enters service at enable, and leaves it at disable (R241). -/
def State.setRegion (s : State) (r v : Nat) (en paged : Bool) : State :=
  let was := s.rgEn r
  let t := (s.wrN (R.BF_REGION_CFG r) v).bfShow
  if en && !was && paged then
    let t := { t with bf := { t.bf with leaving := t.bf.leaving.filter (· != r) } }
    ((t.setPage r 0 Pg.active).setPage r 1 Pg.free).put (R.BF_REGION_STAT r) F.BF_REGION_STAT_ACT 0
  else if !en && was && paged then ({ t with bf := { t.bf with leaving := t.bf.leaving ++ [r] } }).pagesLeave
  else t

def execBeamRegionSet (c : Cmd) (s : State) : Host.Outcome State Fault Refusal :=
  let r := arg c 8 1
  let en := argBit c 9 0
  let paged := argBit c 9 1
  let type := argBits c 9 4 2
  let pglog := arg c 10 1
  let k := arg c 11 1
  let g := s.groupsOf k pglog
  let len := s.rgLen r
  let was := s.rd (R.BF_REGION_CFG r)
  let v := s.rgOwner r + 2 ^ 3 * argBits c 9 0 1 + 2 ^ 4 * type + 2 ^ 6 * argBits c 9 1 1 + 2 ^ 7 * argBits c 9 2 1 + 2 ^ 8 * (pglog % 8) + 2 ^ 12 * (k % 16)
  let off := s.rgEn r && !en
  runCmd s c false [(3, r)] [s.regionOwn c r, notOwner (type != 0 && decide (k < 16) && !s.holds c.ctx 2 k) 2 k,
      s.badState (decide (r < 64) && s.rgEn r && (v / 2 ^ 4) != was.toNat / 2 ^ 4) 9 r, badParam (decide (64 ≤ r)) 8,
      badParam (!off && (type = 3 || (paged && (type = 2 || len % 2 = 1)))) 9, badParam (!off && decide (4 < pglog)) 10, badParam (decide (16 ≤ k)) 11,
      badParam (!off && type = 1 && (g = 0 || len % (if paged then 2 * g else g) != 0 || s.mapTooFine k g)) 10,
      badParam (!off && type = 2 && (List.range 64).any (fun q => q != r && s.rgGranted q && s.rgType q = 2 && s.rgCar q = k)) 11]
    (.done (s.setRegion r v en paged) St.ok 0 0)

/-- Vectors of a page. -/
def State.pageLen (s : State) (r : Nat) : Nat := if s.rgPaged r then s.rgLen r / 2 else s.rgLen r

/-- BEAM_LOAD: into an unpaged region without a running beamformed carrier, or into the FREE page of a paged one (R251). -/
def execBeamLoad (c : Cmd) (s : State) : Host.Outcome State Fault Refusal :=
  let r := arg c 8 1
  let ofs := arg c 12 2
  let n := arg c 14 2
  let p := if s.rgPaged r then 1 - s.rgAct r else 0
  let t := s.setBytes (vecAddr (s.rgBase r + p * s.pageLen r + ofs)) (s.bytes (arg c 16 8) (256 * n))
  runCmd s c false [(3, r)] ([s.regionOwn c r, busyCheck (decide (r < 64) && (if s.rgPaged r then s.page r p != Pg.free else s.runsBeam c.ctx)) 4,
      badParam (decide (64 ≤ r) || s.rgType r = 2) 8, badParam (decide (s.pageLen r ≤ ofs)) 12, badParam (decide (s.pageLen r < ofs + n)) 14] ++
      s.spanChecks c 16 64 (256 * n))
    (.done (if argBit c 9 0 then t.publish r else t) St.ok 0 0)

/-- BEAM_READ: any page in any state. -/
def execBeamRead (c : Cmd) (s : State) : Host.Outcome State Fault Refusal :=
  let r := arg c 8 1
  let pg := arg c 9 1
  let p := if pg = 2 then (if s.rgPaged r then s.rgAct r else 0) else pg
  let ofs := arg c 12 2
  let n := arg c 14 2
  let t := s.setBytes (arg c 16 8) (s.bytes (vecAddr (s.rgBase r + p * s.pageLen r + ofs)) (256 * n))
  runCmd s c false [(3, r)] ([s.regionOwn c r, badParam (decide (64 ≤ r)) 8, badParam (decide (2 < pg) || (pg = 1 && !s.rgPaged r)) 9,
      badParam (decide (s.pageLen r ≤ ofs)) 12, badParam (decide (s.pageLen r < ofs + n)) 14] ++ s.spanChecks c 16 64 (256 * n))
    (.done t St.ok 0 0)

/-! ### Reciprocity descriptors (R254, R479) -/

/-- The layer entries at an address: beam ID, comb offset, cyclic shift, comb code, sequence address. -/
def State.layersAt (s : State) (a n : Nat) : List (List Nat) :=
  (List.range n).map (fun i => [s.memN (a + 16 * i) 2, s.memN (a + 16 * i + 2) 1, s.memN (a + 16 * i + 3) 1, s.memN (a + 16 * i + 4) 1, s.memN (a + 16 * i + 8) 8])

/-- A span of cluster memory lies in a context's lease. -/
def State.ownsCluster (s : State) (x a n : Nat) : Bool :=
  decide (0x10000000 ≤ a) && decide (a + n ≤ 0x10400000) && (n = 0 || (List.range ((a - 0x10000000 + n - 1) / 65536 - (a - 0x10000000) / 65536 + 1)).all
    (fun i => s.holds x 6 ((a - 0x10000000) / 65536 + i)))

/-- A layer entry is in range: its beam in the region's valid range (R240), its comb offset, its cyclic shift. -/
def State.layerOk (s : State) (r : Nat) (l : List Nat) : Bool :=
  decide (s.rgBase r ≤ nth l 0 0) && decide (nth l 0 0 < s.rgBase r + s.rgBeams r) && decide (nth l 3 0 ≤ 3) && decide (nth l 1 0 < 2 ^ nth l 3 0) && decide (nth l 2 0 ≤ 7)

/-- A sounding capture tied to the carrier's descriptor is staged or committed. -/
def State.tiedSoon (s : State) (k x : Nat) : Bool :=
  s.bf.recip.any (fun d => d.car = k && d.ctx = x) &&
    (s.known.any (fun v => wAct v = Act.srsCap && wCar v = k && wCtx v = x) || s.bf.srs.any (fun (e : Srs) => e.car = k && e.ctx = x))

/-- BEAM_RECIP_SET. -/
def execBeamRecipSet (c : Cmd) (s : State) : Host.Outcome State Fault Refusal :=
  let k := arg c 8 1
  let r := arg c 9 1
  let n := arg c 10 1
  let al := arg c 12 4
  let ls := s.layersAt (arg c 24 8) n
  let bad := ls.find? (fun l => !s.ownsCluster c.ctx (nth l 4 0) (s.seqBytes k l))
  let d : Recip := ⟨k, c.ctx, r, al, arg c 16 2, arg c 11 1, ls⟩
  let rest := s.bf.recip.filter (fun d => d.car != k)
  let t := { s with bf := { s.bf with recip := if n = 0 then rest else rest ++ [d] } }
  runCmd s c false [(2, k)] (if n = 0 then [s.carOwn c k, busyCheck (s.tiedSoon k c.ctx) 4, badParam (decide (16 ≤ k)) 8]
    else [s.carOwn c k, s.regionOwn c r] ++ s.spanChecks c 24 64 (16 * n) ++
      [notOwner bad.isSome 6 ((nth (bad.getD []) 4 0 - 0x10000000) / 65536), busyCheck (s.tiedSoon k c.ctx) 4, badParam (decide (16 ≤ k)) 8,
       badParam (decide (64 ≤ r) || s.rgType r != 1 || !s.rgPaged r || s.rgCar r != k) 9, badParam (decide (32 < n)) 10,
       badParam (arg c 11 1 = 0 || decide (8 < arg c 11 1)) 11, badParam (decide (al < 0x35800000) || decide (0x3F800000 < al)) 12,
       badParam (!ls.all (s.layerOk r)) 24])
    (.done t St.ok 0 0)

end Sys2Proof.Machine
end

