-- ==== Sys2Proof/Machine/CmdSys.lean ====
section
/-! DEFINITION. The system and lease commands (groups 0x01 and 0x02; R41, R43, R450 to R452, R457, R459, R471). -/

namespace Sys2Proof.Machine

/-! ### System -/

/-- SYS_INFO. -/
def execSysInfo (c : Cmd) (s : State) : Host.Outcome State Fault Refusal :=
  runCmd s c false [] [] (.done s St.ok 0 (resN 16 2 0x6464 + resN 18 1 0xA0 + resN 19 1 (s.get R.PM_MODE F.PM_MODE_CUR) +
    resN 20 4 (s.rd R.HI_FW_VER).toNat + resN 24 4 (s.rd R.HI_BOOT_STAT).toNat + resN 28 1 ((s.rd R.PM_MODE).toNat / 2 ^ 24 % 8)))

/-- The condition that refuses a transition (R41, R626), with its index: 8 for one that R41 does not list. -/
def State.modeCond (s : State) (m : Mode) : Option (Nat × Nat) :=
  let lock := s.flag R.PM_MODE F.PM_MODE_RADIO_LOCK
  match s.mode, m with
  | .provisioned, .standby =>
    if lock then some (1, 0) else if !s.flag R.TS_STATUS F.TS_STATUS_REF_LOCK then some (2, 0)
    else if !(s.get R.MC_STATUS F.MC_STATUS_TRAINED).testBit 0 then some (6, 0) else none
  | .standby, .tdd | .standby, .fdd =>
    if lock then some (1, 0)
    else match (List.range 16).find? (fun c => s.carCfg c && !s.carPermitted c) with
      | some c => some (3, c)
      | none => if s.regRanges.isEmpty then some (7, 0) else none
  | .standby, .listen => if lock then some (1, 0) else none
  | .standby, .calibration => if lock then some (1, 0) else match (List.range 16).find? s.carRun with
      | some c => some (4, c)
      | none => none
  | .standby, .provisioned | .provisioned, .laneTest | .standby, .laneTest => none
  | .tdd, .standby | .fdd, .standby | .listen, .standby | .calibration, .standby => none
  | .laneTest, t => if t = s.pm.enteredFrom then none else some (8, 0)
  | _, _ => some (8, 0)

/-- The start of a transition that SYS_SET_MODE asks for: from a radio mode the forecast is cut at the last committed symbol (R55), and
the ramp-down follows by itself (`State.rampTick`, R42, R54); into Standby from Provisioned the synthesisers and the foreground calibrations run. -/
def State.startMode (s : State) (m : Mode) : State :=
  let t := s.beginMode m 1
  if isRadio s.mode then { t.discard with pm := { t.discard.pm with ramp := true } }
  else if s.mode = .provisioned && m = .standby then
    { t.synAll with cv := { t.synAll.cv with fgDone := false, dacDone := false }, mc := { t.synAll.mc with retrain := false } }
  else if m = .laneTest then { t with pm := { t.pm with enteredFrom := s.mode } }
  else t

/-- SYS_SET_MODE. It does not wait for a running transition (R50, R465). -/
def execSysSetMode (c : Cmd) (s : State) : Host.Outcome State Fault Refusal :=
  let mo := modeOf? (arg c 8 1)
  let m := mo.getD .unpowered
  let k := (s.modeCond m).getD (0, 0)
  runCmd s c false [] [s.needML c, busyCheck s.busy 12, s.badState (mo.isSome && (s.modeCond m).isSome) k.1 k.2, badParam mo.isNone 8]
    (.wait (s.startMode m) (.mode m) [St.ok, 1])

/-- SYS_RESET: a warm reset with CAUSE 0x02, and no completion (R43, R44). -/
def execSysReset (c : Cmd) (s : State) : Host.Outcome State Fault Refusal :=
  runCmd s c false [] [s.needML c, busyCheck s.busy 12] (.silent (s.toReset 2))

/-- SYS_ECHO: the data come back. -/
def execSysEcho (c : Cmd) (s : State) : Host.Outcome State Fault Refusal :=
  runCmd s c false [] [] (.done s St.ok 0 (resN 16 16 (arg c 8 16)))

/-- SYS_SERIAL: the fused serial (R614). -/
def execSysSerial (c : Cmd) (s : State) : Host.Outcome State Fault Refusal :=
  runCmd s c false [] [] (.done s St.ok 0 (resN 16 12 Config.unitSerial.toNat))

/-- A pin is named by an armed trigger (R457): a housekeeping sequence, or a Thaw. -/
def State.gpioArmed (s : State) (k : Nat) : Bool :=
  (s.hk.armReg && s.hkSrc 0 = 2 && s.hkGpio 0 = k) || (s.hk.armSq && s.hkSrc 1 = 2 && s.hkGpio 1 = k) ||
    (match s.pm.frost with
      | some f => f.trig.testBit 2 && f.gpio = k
      | none => false)

/-- SYS_GPIO (R457). -/
def execSysGpio (c : Cmd) (s : State) : Host.Outcome State Fault Refusal :=
  let k := arg c 8 1
  let read := argBit c 9 7
  let cfg := R.PM_GPIO_CFG (k % 32)
  let t := if read then s else s.wrN cfg (argBits c 9 0 6)
  runCmd s c false [] [notOwner (!read && !s.isML c.ctx) 0 0,
      busyCheck (!read && decide (k < 32) && s.gpioArmed k && argBits c 9 0 2 != s.get cfg F.PM_GPIO_CFG_FUNC) 12, badParam (decide (32 ≤ k)) 8]
    (.done t St.ok 0 (resN 16 4 (t.rd R.PM_GPIO_IN).toNat + resN 20 4 (t.rd cfg).toNat))

/-- SYS_I2C (R459): it waits for the transfer's end; the bytes to write enter the transmit FIFO. -/
def execSysI2c (c : Cmd) (s : State) : Host.Outcome State Fault Refusal :=
  let a := arg c 8 1
  let n := arg c 9 1
  let t := (leBytes n (arg c 16 40)).foldl State.i2cPut s
  runCmd s c false [(100, 0)] [s.needML c, badParam (!s.hi.i2cAddrs.contains a || a = s.hi.pmbusAddr) 8, badParam (decide (40 < n)) 9,
    badParam (decide (16 < arg c 10 1)) 10] (.wait t .i2c [])

/-! ### Leases -/

/-- Block index of a resource (R25), for BUSY. -/
def resBlock (res : Nat) : Nat := nth [12, 1, 3, 4, 0, 7, 5, 9, 3, 5, 10, 11] res 12

/-- The indices a resource has (R471), blocks by their count. -/
def State.indexOk (s : State) (res idx : Nat) : Bool :=
  match res with
  | 1 => idx < 4
  | 2 => idx < 16
  | 3 => idx < 64 || idx = 0xFF
  | 6 => idx < 64
  | 7 => decide (idx + 1 < s.dramSize / 2 ^ 20)
  | 8 => idx < 8
  | 9 => decide (12 ≤ idx) && decide (idx < 16)
  | 10 => decide (24 ≤ idx) && decide (idx < 32)
  | _ => true

/-- Is a vector free: in no region, granted or REVOKING, and not being scrubbed (R260)? Vector 0 is never granted. -/
def State.vecIdle (s : State) (v : Nat) : Bool :=
  decide (1 ≤ v) && decide (v < 16384) && (s.regionOf v).isNone && s.bf.shrink.all (fun e => !(decide (e.1 ≤ v) && decide (v < e.1 + e.2.1)))

/-- A run of `n` free vectors from `b`. -/
def State.runFree (s : State) (b n : Nat) : Bool :=
  decide (1 ≤ b) && decide (b + n ≤ 16384) &&
    (List.range 64).all (fun r => s.rgLen r = 0 || decide (s.rgBase r + s.rgLen r ≤ b) || decide (b + n ≤ s.rgBase r)) &&
    s.bf.shrink.all (fun e => decide (e.1 + e.2.1 ≤ b) || decide (b + n ≤ e.1))

/-- The lowest-based free run of `n` vectors: it starts at 1 or where a region or a scrubbed span ends. -/
def State.lowestRun (s : State) (n : Nat) : Option Nat :=
  ((1 :: ((List.range 64).filter (fun r => s.rgLen r != 0)).map (fun r => s.rgBase r + s.rgLen r)) ++ s.bf.shrink.map (fun e => e.1 + e.2.1)).foldl
    (fun (m : Option Nat) b => if s.runFree b n then (match m with
      | some x => some (min x b)
      | none => some b) else m) none

/-- The lowest free region index. -/
def State.freeRegion (s : State) : Option Nat := (List.range 64).find? (fun r => s.rgLen r = 0)

/-- A granted resource enters the books. -/
def State.addLease (s : State) (x res idx run : Nat) : State :=
  { s with hy := { s.hy with leases := s.hy.leases ++ [⟨res, idx, x, run⟩] } }

/-- Set a quota register; and the total of the quotas (R449). -/
def State.setQuota (s : State) (res x n : Nat) : State :=
  if res = 4 then { (s.put (R.TL_PART_QUOTA x) F.TL_PART_QUOTA_QUOTA n) with tl := { s.tl with quotaTo := s.tl.quotaTo.filter (fun q => q.1 != x) } }
  else if res = 5 then s.put (R.FH_SECT_QUOTA x) F.FH_SECT_QUOTA_QUOTA n
  else { (s.put (R.HI_CTX_STAT x) F.HI_CTX_STAT_QUOTA n) with hy := { s.hy with inflTo := s.hy.inflTo.filter (fun q => q.1 != x) } }
def quotaTotal (res : Nat) : Nat := if res = 4 then 4096 else if res = 5 then 32768 else 256
def isQuota (res : Nat) : Bool := res = 4 || res = 5 || res = 11

/-- A region is set up for its lease (R239, R260). -/
def State.newRegion (s : State) (x r base n : Nat) : State :=
  let t := ((s.put (R.BF_REGION_BASE r) F.BF_REGION_BASE_BASE base).put (R.BF_REGION_BASE r) F.BF_REGION_BASE_LEN n).wr (R.BF_REGION_CFG r) 0
  let t := (t.put (R.BF_REGION_CFG r) F.BF_REGION_CFG_OWNER x).wr (R.BF_REGION_STAT r) 0
  ({ t with bf := { t.bf with nextSlot := t.bf.nextSlot.set r 0 } }).put R.BF_FREE_VEC F.BF_FREE_VEC_FREE (s.get R.BF_FREE_VEC F.BF_FREE_VEC_FREE - n)

/-- A region changes its size in place: vectors given up are scrubbed before they are free (LEASE_GRANT, R260). -/
def State.resizeRegion (s : State) (x r n : Nat) : State :=
  let len := s.rgLen r
  let t := s.put (R.BF_REGION_BASE r) F.BF_REGION_BASE_LEN n
  if n < len then ({ t with bf := { t.bf with shrink := t.bf.shrink ++ [(s.rgBase r + n, len - n, r, x)] } }).bfShow
  else t.put R.BF_FREE_VEC F.BF_FREE_VEC_FREE (s.get R.BF_FREE_VEC F.BF_FREE_VEC_FREE - (n - len))

/-- Is a resource free to be granted (R450)? -/
def State.resFree (s : State) (res idx n x : Nat) : Bool :=
  if res = 6 || res = 7 then ((List.range n).map (· + idx)).all (fun b => (s.leaseOf res b).isNone && !s.hy.scrub.contains (res, b))
  else if res = 3 then idx = 0xFF || s.rgLen idx = 0 || (s.rgOwner idx = x && !s.rgRevoking idx)
  else if res = 9 then s.coreGroup idx = 1 && s.coreSt idx != Co.running && s.coreSt idx != Co.scrubbing
  else if res = 2 then (s.leaseOf 2 idx).isNone && !s.hy.stopping.any (fun y => y.1 = idx)
  else isQuota res || res = 0 || (s.leaseOf res idx).isNone

/-- The effect of a grant, with the index and the base it answers. -/
def State.grant (s : State) (x res a idx n : Nat) : State × Nat × Nat :=
  let ev (t : State) (i : Nat) : State := t.raiseTo Ev.HI_LEASE_GRANTED (some x) [res, i]
  if res = 0 then (s.setHolder (some x), 0, 0)
  else if isQuota res then (ev (s.setQuota res x n) 0, 0, 0)
  else if res = 3 then
    if idx = 0xFF then
      let r := s.freeRegion.getD 0
      let b := (s.lowestRun n).getD 1
      (ev (s.newRegion x r b n).bfShow r, r, b)
    else (ev (s.resizeRegion x idx n) idx, idx, s.rgBase idx)
  else if res = 6 || res = 7 then (ev ((List.range n).foldl (fun (t : State) i => t.addLease x res (idx + i) idx) s) idx, idx, idx)
  else
    let t := s.addLease x res idx idx
    let t := if res = 9 then (t.put (R.NVC_CORE_STAT idx) F.NVC_CORE_STAT_GROUP 2).put (R.NVC_CORE_STAT idx) F.NVC_CORE_STAT_OWNER x
      else if res = 10 then (t.put (R.HI_RING_STAT idx) F.HI_RING_STAT_OWNER x).put (R.HI_RING_STAT idx) F.HI_RING_STAT_PURP a
      else t
    (ev t idx, idx, 0)

/-- LEASE_GRANT (R449 to R451). -/
def execLeaseGrant (c : Cmd) (s : State) : Host.Outcome State Fault Refusal :=
  let x := arg c 8 1
  let res := arg c 9 1
  let a := arg c 10 1
  let idx := arg c 12 4
  let n := arg c 16 4
  let ok := decide (x < 8) && decide (res ≤ 11) && s.indexOk res idx
  let lacks := if res = 2 && ok then (quadsOf (s.carPmask idx)).find? (fun q => !s.holds x 1 q) else none
  let old := res = 3 && ok && idx != 0xFF
  let grow := if old && s.rgLen idx != 0 && decide (s.rgLen idx < n) then !s.runFree (s.rgBase idx + s.rgLen idx) (n - s.rgLen idx) else false
  let sum := ((List.range 8).map (fun y => if y = x then n else s.quotaOf res y)).sum
  let g := s.grant x res a idx n
  runCmd s c false [(res, idx)] [s.needML c,
    busyCheck (ok && !s.resFree res idx n x) (resBlock res),
    s.badState lacks.isSome 13 (lacks.getD 0),
    s.badState (old && s.rgOwner idx = x && s.rgLen idx != 0 && s.rgEn idx) 9 idx,
    badParam (decide (8 ≤ x)) 8, badParam (decide (11 < res)) 9, badParam (res = 10 && decide (3 < a)) 10,
    badParam (res = 10 && s.bindOf (x % 8) = some 3) 8, badParam (!s.indexOk res idx) 12,
    badParam ((res = 3 || res = 6 || res = 7) && n = 0) 16,
    badParam ((res = 6 && decide (64 < idx + n)) || (res = 7 && decide (s.dramSize / 2 ^ 20 - 1 < idx + n))) 16,
    ⟨isQuota res && decide (quotaTotal res < sum), St.noSpace, res⟩,
    ⟨res = 3 && idx = 0xFF && (s.freeRegion.isNone || (s.lowestRun n).isNone), St.noSpace, 3⟩, ⟨grow, St.noSpace, 3⟩,
    ⟨old && s.rgLen idx = 0, St.notFound, 0⟩]
    (.done g.1 St.ok 0 (resN 16 4 g.2.1 + resN 20 4 g.2.2))

/-- The common course of LEASE_REVOKE and LEASE_RELEASE (R452). -/
def State.leaseEnd (s : State) (c : Cmd) (x res idx : Nat) (who : List Check) : Host.Outcome State Fault Refusal :=
  let bad := res = 0 || decide (11 < res)
  let ok := decide (x < 8) && !bad && s.indexOk res idx && (res != 3 || idx != 0xFF)
  let r := s.revokeRes x res idx
  runCmd s c false [(res, idx)] (who ++ [notOwner (ok && !s.holdsRes x res idx) res idx, badParam (decide (8 ≤ x)) 8, badParam bad 9,
    badParam (!(s.indexOk res idx && (res != 3 || idx != 0xFF))) 12])
    (if r.2.isEmpty then .done r.1 St.ok 0 0 else .wait r.1 (.revoked r.2) [])

/-- LEASE_REVOKE. -/
def execLeaseRevoke (c : Cmd) (s : State) : Host.Outcome State Fault Refusal :=
  s.leaseEnd c (arg c 8 1) (arg c 9 1) (arg c 12 4) [s.needML c]

/-- LEASE_RELEASE: the issuer's own. -/
def execLeaseRelease (c : Cmd) (s : State) : Host.Outcome State Fault Refusal := s.leaseEnd c c.ctx (arg c 9 1) (arg c 12 4) []

/-- What LEASE_QUERY answers. -/
def State.leaseInfo (s : State) (x res : Nat) : Nat :=
  if res = 4 then resN 16 4 (s.quotaOf 4 x) + resN 20 4 (s.partUsed x)
  else if res = 5 then resN 16 4 (s.quotaOf 5 x) + resN 20 4 (s.sectsOf x)
  else if res = 11 then resN 16 4 (s.quotaOf 11 x) + resN 20 4 (s.inflOf x)
  else if res = 6 || res = 7 then resN 16 4 (s.hy.leases.filter (fun l => l.res = res && l.ctx = x)).length
  else resN 16 8 (maskOf ((List.range 64).filter (fun i => res != 0 && s.holdsRes x res i)))

/-- LEASE_QUERY. -/
def execLeaseQuery (c : Cmd) (s : State) : Host.Outcome State Fault Refusal :=
  let x := arg c 8 1
  runCmd s c false [] [notOwner (!s.isML c.ctx && x != c.ctx.val) 0 0, badParam (decide (8 ≤ x)) 8, badParam (decide (11 < arg c 9 1)) 9]
    (.done s St.ok 0 (s.leaseInfo x (arg c 9 1)))

/-- LEASE_TAKE_MODE: a context bound to SPI takes the mode lease (R451); the take is journalled (R580). -/
def execLeaseTakeMode (c : Cmd) (s : State) : Host.Outcome State Fault Refusal :=
  runCmd s c false [] [notOwner (s.bindOf c.ctx != some 3) 0 0] (.done ((s.setHolder (some c.ctx)).logRecord [0x73, c.ctx]) St.ok 0 0)

end Sys2Proof.Machine
end

