-- ==== Sys2Proof/Machine/CmdFw.lean ====
section
/-! DEFINITION. The update, record and kernel commands (groups 0x0F and 0x10; R41, R274, R297 to R299, R530, R532, R577). -/

namespace Sys2Proof.Machine

/-! ### Image update -/

/-- FW_UPDATE_BEGIN (R41): up to 32 MiB. -/
def execFwUpdateBegin (c : Cmd) (s : State) : Host.Outcome State Fault Refusal :=
  let n := arg c 12 4
  let t := s.beginMode .update 1
  runCmd s c false [] [s.needML c, busyCheck s.busy 12, s.badState (s.mode != .provisioned) 8 0, badParam (decide (2 ^ 25 < n)) 12]
    (.wait { t with pm := { t.pm with updLen := n } } (.mode .update) [St.ok])

/-- The address in the flash window of the slot that is not active (R530, R532). -/
def State.inactiveSlot (s : State) : Nat := 0x60000000 + (1 - s.bootObject.1) * 0x2000000

/-- FW_UPDATE_WRITE (R532); `good` says whether the flash programmed. A status other than OK has changed nothing (R470). -/
def execFwUpdateWrite (c : Cmd) (good : Bool) (s : State) : Host.Outcome State Fault Refusal :=
  let o := arg c 12 4
  let n := arg c 24 4
  let d := s.fresh 32
  let t := s.setBytes (s.inactiveSlot + o) (s.bytes (arg c 16 8) n)
  runCmd s c true [] ([s.needML c, s.badState (s.mode != .update) 8 0, badParam (o % 65536 != 0 || decide (s.pm.updLen < o)) 12,
      badParam (n % 256 != 0 || decide (2 ^ 20 < n) || decide (s.pm.updLen < o + n)) 24] ++ s.spanChecks c 16 64 n)
    (if good then .done t St.ok 0 0 else .done d.2 St.ioError d.1.toNat 0)

/-- FW_UPDATE_COMMIT (R532): an image that verifies is marked for the next Boot in the boot object; both outcomes return to Provisioned. -/
def execFwUpdateCommit (c : Cmd) (good : Bool) (s : State) : Host.Outcome State Fault Refusal :=
  let r := s.journalObj (objPlace 0x10) (bootBytes (1 - s.bootObject.1) s.pm.repShut s.pm.repSup)
  runCmd s c false [(107, 0x10)] [s.needML c, busyCheck s.busy 12, s.badState (s.mode != .update) 8 0]
    (if good then .wait r.2 (.journal r.1) [0x10] else .wait (s.beginMode .provisioned 9) (.mode .provisioned) [St.authFail])

/-- A command in flight completes with ABORTED; no row states the DETAIL of that status (R468; log entry 11). -/
def State.abortJob (s : State) (j : Job) : State :=
  ({ (s.fresh 32).2 with hy := { s.hy with jobs := s.hy.jobs.erase j } }).complete j.cmd St.aborted (s.fresh 32).1.toNat 0

/-- FW_UPDATE_ABORT: a commit in flight completes with ABORTED and its record writes that have not begun are dropped. -/
def execFwUpdateAbort (c : Cmd) (s : State) : Host.Outcome State Fault Refusal :=
  let cut := s.hy.jobs.filter (fun j => j.cmd.opcode = 0x0F03)
  let grp (j : Job) : Nat := match j.wait with
    | .journal g => g
    | _ => 0
  let q := s.nvj.queue
  let t := ({ s with nvj := { s.nvj with queue := q.take 1 ++ (q.drop 1).filter (fun (w : JWrite) => w.group = 0 || !cut.any (fun j => grp j = w.group)) } }).jShow
  let t := cut.foldl (fun (t : State) j => t.abortJob j) t
  let t := { t with pm := { t.pm with updLen := 0 } }
  runCmd s c false [] [s.needML c, busyCheck s.busy 12, s.badState (s.mode != .update) 8 0] (.wait (t.beginMode .provisioned 9) (.mode .provisioned) [St.ok])

/-- CFG_RECORD (R577): types 1 to 5 are the objects 0x11 to 0x15. -/
def execCfgRecord (c : Cmd) (s : State) : Host.Outcome State Fault Refusal :=
  let k := arg c 8 1
  let n := arg c 12 4
  let p := objPlace (0x10 + k)
  let b := s.bytes (arg c 16 8) n
  let r := s.journalObj p b
  runCmd s c true [(107, 0x10 + k)] ([s.needML c, s.badState (s.mode != .provisioned) 8 0, badParam (k = 0 || decide (5 < k)) 8,
      badParam (decide (56 * p.parts - 12 < n)) 12] ++ s.spanChecks c 16 64 n ++ [⟨k = 5 && !Config.unlockSigned b, St.authFail, 0⟩])
    (.wait r.2 (.journal r.1) [0])

/-! ### Kernels -/

/-- The core is one the issuer leases (R268). -/
def State.kernelOwn (s : State) (c : Cmd) : Check := notOwner (decide (12 ≤ arg c 8 1) && decide (arg c 8 1 < 16) && !s.holds c.ctx 9 (arg c 8 1)) 9 (arg c 8 1)

/-- The core is a leasable one. -/
def kernelCore (c : Cmd) : Check := badParam (decide (arg c 8 1 < 12) || decide (16 ≤ arg c 8 1)) 8

/-- KERNEL_LOAD (R297): PM, then X, then Y. -/
def execKernelLoad (c : Cmd) (s : State) : Host.Outcome State Fault Refusal :=
  let k := arg c 8 1
  let a := arg c 16 8
  let pm := arg c 12 4
  let x := arg c 24 4
  let y := arg c 28 4
  let t := ((s.setBytes (nvPm k) (s.bytes a pm)).setBytes (nvX k) (s.bytes (a + pm) x)).setBytes (nvY k) (s.bytes (a + pm + x) y)
  let t := t.reloadCore k
  runCmd s c false [] ([s.kernelOwn c, s.badState (decide (12 ≤ k) && decide (k < 16) && s.coreSt k != Co.idle && s.coreSt k != Co.fault) 17 k, kernelCore c, badParam (decide (65536 < pm)) 12,
      badParam (decide (131072 < x)) 24, badParam (decide (131072 < y)) 28] ++ s.spanChecks c 16 64 (pm + x + y))
    (.done (t.setCore k { t.core k with loaded := true }) St.ok 0 0)

/-- KERNEL_START (R274, R297): the watchdog counts in units of 16 core cycles of 1,228.8 MHz; how it is rounded is open. -/
def execKernelStart (c : Cmd) (s : State) : Host.Outcome State Fault Refusal :=
  let k := arg c 8 1
  let g := arg c 9 1
  let car := arg c 10 1
  let us := arg c 12 4
  let w := s.divFree ((us : Int) * 384) 5
  let t := w.2.wrN (R.NVC_WDOG k) w.1.toNat
  let t := t.setCore k { t.core k with trig := g + 1, trigCar := car }
  runCmd s c false [] [s.kernelOwn c, s.badState (decide (12 ≤ k) && decide (k < 16) && (s.coreSt k != Co.idle || !(s.core k).loaded)) 17 k, kernelCore c, badParam (decide (2 < g)) 9,
      badParam (g = 2 && decide (16 ≤ car)) 10, badParam (us = 0 || decide (10000000 < us)) 12]
    (.done (if g = 0 then t.trigger k else t) St.ok 0 0)

/-- KERNEL_STOP: the core halts and its held trigger and its arming are gone; a paused core resumes to IDLE. -/
def execKernelStop (c : Cmd) (s : State) : Host.Outcome State Fault Refusal :=
  let k := arg c 8 1
  let t := s.setCore k { s.core k with held := false, trig := 0, wait := .none, loops := [], calls := [], was := Co.idle }
  runCmd s c false [] [s.kernelOwn c, kernelCore c]
    (.done (if s.coreSt k = Co.paused then t else (t.setCoreSt k Co.idle).put (R.NVC_CORE_STAT k) F.NVC_CORE_STAT_FCAUSE 0) St.ok 0 0)

/-- KERNEL_MBX (R299): words in ascending order; a write of in-word 15 is a mailbox trigger (R297). -/
def execKernelMbx (c : Cmd) (s : State) : Host.Outcome State Fault Refusal :=
  let k := arg c 8 1
  let f := arg c 9 1
  let n := arg c 10 1
  let t := (List.range n).foldl (fun (t : State) i => t.wrN (R.NVC_MBX_IN k (f + i)) (arg c (12 + 4 * i) 4)) s
  let t := if f + n = 16 then
      (let u := t.setCore k { t.core k with in15 := true }
       if (u.core k).trig = 2 then u.trigger k else u)
    else t
  runCmd s c false [] [s.kernelOwn c, kernelCore c, badParam (decide (15 < f)) 9, badParam (n = 0 || decide (12 < n) || decide (16 < f + n)) 10] (.done t St.ok 0 0)

/-- KERNEL_STATUS. -/
def execKernelStatus (c : Cmd) (s : State) : Host.Outcome State Fault Refusal :=
  let k := arg c 8 1
  runCmd s c false [] [s.kernelOwn c, kernelCore c]
    (.done s St.ok 0 (resN 16 4 (s.rd (R.NVC_CORE_STAT k)).toNat + resN 20 4 (s.rd (R.NVC_CORE_FLAGS k)).toNat + resN 24 8 (s.get64 (R.NVC_PERF_CYCLES k) % 2 ^ 48)))

end Sys2Proof.Machine
end

