-- ==== Sys2Proof/Machine/CmdLane.lean ====
section
/-! DEFINITION. The lane commands (group 0x0A; R309 to R311, R315, R316, R337 to R343). -/

namespace Sys2Proof.Machine

/-- The context came in over a lane of this group (R311): its in-band attachment is on the group's port. -/
def State.overGroup (s : State) (x g : Nat) : Bool := s.bindOf x = some 2 && decide (x < s.hi.inband.length) && (nth s.hi.inband x default).port = g

/-- LANE_GROUP_SET (R309, R311): over the group's own in-band lane the change waits until after the completion. -/
def execLaneGroupSet (c : Cmd) (s : State) : Host.Outcome State Fault Refusal :=
  let g := arg c 8 1
  let pers := arg c 9 1
  let width := arg c 10 1
  let rate := arg c 12 2
  let cfg : Word := BitVec.ofNat 32 (pers % 4 + 2 ^ 2 * (width % 4) + 2 ^ 16 * (rate % 2 ^ 15))
  let t := s.groupApply g cfg
  let act : CmdEnd := if s.overGroup c.ctx g then .done (s.setGrp g { s.grp g with waits := some cfg }) St.ok 0 0
    else if (t.grp g).changing then .wait t (.groupChange g) [] else .done t St.ok 0 0
  runCmd s c true [(105, g)] [s.needML c, s.badState (!(s.mode = .provisioned || s.mode = .standby || s.mode = .laneTest)) 8 0, badParam (decide (4 ≤ g)) 8,
      badParam (decide (3 < pers) || (pers = 3 && decide (2 ≤ s.role g))) 9, badParam (pers = 3 && decide (2 < width)) 10,
      badParam (pers = 3 && (decide (rate < 1250) || decide (28125 < rate))) 12]
    act

/-- LANE_EQ (R315, R316): in fixed mode the CTLE stays at `PEAK`. -/
def execLaneEq (c : Cmd) (s : State) : Host.Outcome State Fault Refusal :=
  let n := arg c 8 1
  let pre := arg c 9 1
  let post := arg c 10 1
  let amp := arg c 11 1
  let peak := arg c 13 1
  let r := R.LN_CTLE n
  let t := s.wrN (R.LN_TXEQ n) (pre % 16 + 2 ^ 4 * (post % 64) + 2 ^ 10 * (amp % 16) + 2 ^ 14 * argBits c 12 0 1)
  let t := (((t.put r F.LN_CTLE_PEAK peak).setFlag r F.LN_CTLE_MODE (argBit c 12 2)).setFlag r F.LN_CTLE_DFE_EN (argBit c 12 3)).setFlag r F.LN_CTLE_RXINV (argBit c 12 1)
  let t := if argBit c 12 2 && decide (2 ≤ s.laneRx n) then t.put r F.LN_CTLE_PK_NOW peak else t
  runCmd s c false [] [s.needML c, badParam (decide (16 ≤ n)) 8, badParam (decide (15 < pre)) 9, badParam (decide (31 < pre + post)) 10,
    badParam (decide (12 < amp)) 11, badParam (decide (20 < peak)) 13] (.done t St.ok 0 0)

/-- LANE_POWER (R309, R337, R338): lanes that the personality does not use stay OFF. -/
def execLanePower (c : Cmd) (s : State) : Host.Outcome State Fault Refusal :=
  let m := arg c 8 2
  let st := arg c 10 1
  let ls := bitsOf m 16
  let t := ls.foldl (fun (t : State) n => t.lanePower n st) s
  runCmd s c false [] [s.needML c, badParam (st != 4 && ls.any (fun n => !(s.used (n / 4)).contains n)) 8, badParam (decide (4 < st)) 10]
    (if ls.all t.laneThere then .done t St.ok 0 0 else .wait t (.lanes m st) [])

/-- A lane goes under test (R340): its generator and checker run, its counters start from zero (R343). -/
def State.testStart (s : State) (n : Nat) (cfg user : Nat) : State :=
  let t := ((s.wrN (R.LN_PAT_CFG n) cfg).put64 (R.LN_PAT_USER n) user).setFlag (R.LN_PAT_STAT n) F.LN_PAT_STAT_SYNC false
  (((t.patClear n).setFlag (R.LN_STATE n) F.LN_STATE_BLOCK false).setLaneRx n Rx.test).setLaneTx n 4

/-- A lane's test ends (R340): it returns to HUNT. What its checker compared since the last row counts first. -/
def State.testStop (s : State) (n bits errs : Nat) : State :=
  if s.laneRx n = Rx.test then
    let t := if s.checks n then s.patCount n bits errs else s
    let t := (t.setFlag (R.LN_PAT_CFG n) F.LN_PAT_CFG_GEN_EN false).setFlag (R.LN_PAT_CFG n) F.LN_PAT_CFG_CHK_EN false
    (t.setLaneTx n 2).startHunt n false
  else s

/-- LANE_TEST (R340, R341); `seen` gives, for each lane of the group, the bits and mismatches that its checker met since the last row
that counted them. -/
def execLaneTest (c : Cmd) (seen : List (BitVec 48 × BitVec 32)) (s : State) : Host.Outcome State Fault Refusal :=
  let g := arg c 8 1
  let half := arg c 12 1
  let pat5 := argBits c 10 0 3 = 5 || argBits c 11 0 3 = 5
  let cfg := argBits c 10 0 4 + 2 ^ 4 * argBits c 11 0 4 + 2 ^ 8 * (if half = 0 then 0 else (half - 1) % 16) + 2 ^ 12 + 2 ^ 13
  let t := if argBit c 9 0 then (s.used g).foldl (fun (t : State) n => t.testStart n cfg (arg c 16 8)) s
    else (s.used g).foldl (fun (t : State) n => t.testStop n (nth seen (n % 4) (0, 0)).1.toNat (nth seen (n % 4) (0, 0)).2.toNat) s
  runCmd s c true [] [s.needML c, s.badState (s.mode != .laneTest) 8 0, badParam (decide (4 ≤ g) || s.pers g = 0) 8,
      badParam (argBit c 9 0 && argBits c 10 0 3 = 7) 10, badParam (argBit c 9 0 && argBits c 11 0 3 = 7) 11,
      badParam (argBit c 9 0 && pat5 && (half = 0 || decide (16 < half))) 12]
    (.done t St.ok 0 0)

/-- LANE_STATUS; `bits` and `errs` are what the lane's checker met since the last row that counted them. -/
def execLaneStatus (c : Cmd) (bits : BitVec 48) (errs : BitVec 32) (s : State) : Host.Outcome State Fault Refusal :=
  let n := arg c 8 1
  let t := if s.checks n then s.patCount n bits.toNat errs.toNat else s
  runCmd s c false [] [badParam (decide (16 ≤ n)) 8]
    (.done t St.ok 0 (resN 16 4 (t.rd (R.LN_STATE n)).toNat + resN 20 4 (t.rd (R.LN_CTLE n)).toNat + resN 24 4 (t.rd (R.LN_PAT_STAT n)).toNat +
      resN 28 4 (t.rd (R.LN_PAT_ERR_CNT n)).toNat))

end Sys2Proof.Machine
end

