-- ==== Sys2Proof/Machine/CmdMon.lean ====
section
/-! DEFINITION. The power, monitor and regulatory commands (groups 0x0C, 0x0D and 0x0E; R53, R129, R130, R482, R540 to R545, R555 to
R562, R566, R571, R572, R584). -/

namespace Sys2Proof.Machine

/-! ### Power -/

/-- PWR_FROST (R53, R540, R542): the blocks are asked in turn; it completes once all have agreed. -/
def execPwrFrost (c : Cmd) (s : State) : Host.Outcome State Fault Refusal :=
  let lanes := arg c 8 1
  let trig := argBits c 9 0 4
  let k := arg c 10 1
  let f : FrostReq := ⟨0, false, lanes, trig, k, arg c 12 4, false⟩
  let t := s.beginMode .frost 1
  runCmd s c false [] [s.needML c, busyCheck s.busy 12, s.badState (!(s.mode = .provisioned || s.mode = .standby)) 8 0,
      s.badState (s.flag R.PM_MODE F.PM_MODE_RADIO_LOCK) 1 0, badParam ((List.range 4).any (fun g => lanes / 4 ^ g % 4 = 3)) 8,
      badParam (trig.testBit 2 && (decide (32 ≤ k) || s.get (R.PM_GPIO_CFG (k % 32)) F.PM_GPIO_CFG_FUNC != 0)) 10,
      badParam (trig.testBit 3 && arg c 12 4 = 0) 12]
    (.wait { t with pm := { t.pm with frost := some f, askAt := s.now, frostAt := s.now } } .frost [])

/-- PWR_GUST (R453, R544): the cap applies from the next microsecond boundary. -/
def execPwrGust (c : Cmd) (s : State) : Host.Outcome State Fault Refusal :=
  let cap := arg c 8 1
  runCmd s c false [] [s.needML c, badParam (cap = 0 || decide (16 < cap)) 8] (.done { s with pm := { s.pm with capNext := some cap } } St.ok 0 0)

/-- PWR_STATUS: how the power estimate is formed is not given, so it is a free value. -/
def execPwrStatus (c : Cmd) (s : State) : Host.Outcome State Fault Refusal :=
  let p := s.fresh 32
  runCmd s c false [] [] (.done p.2 St.ok 0 (resN 16 4 p.1.toNat + resN 20 2 (s.get R.PM_VCORE F.PM_VCORE_MV) + resN 22 1 s.stage +
    resN 23 1 (s.get R.PM_GUST_CFG F.PM_GUST_CFG_CAP) + resN 24 4 (s.rd R.PM_RET_LOST).toNat))

/-! ### The housekeeping converter -/

/-- A number divided and rounded to the nearest whole number, a half either way (R9 gives no rounding): a free bit decides. -/
def State.nearest (s : State) (n d : Nat) : Nat × State :=
  let q := (2 * n + d) / (2 * d)
  if (2 * n + d) % (2 * d) = 0 then (q - (s.fresh 1).1.toNat, (s.fresh 1).2) else (q, s)

/-- A regular or Squall sequence runs. -/
def State.hkRuns (s : State) (i : Nat) : Bool := if i = 0 then s.hk.regRun.isSome else s.hk.sqRun.isSome

/-- A sequence is armed, or with source 7 disarmed; sources 0 and 4 start a run at the command (R557). A continuous sequence armed during a
calibration step starts when the step ends (R562). -/
def State.hkArm (s : State) (i src : Nat) : State :=
  let on := src != 7
  let t := { s with hk := { s.hk with timerAt := s.hk.timerAt.set i s.now } }
  let t := if i = 0 then { t with hk := { t.hk with armReg := on } } else { t with hk := { t.hk with armSq := on } }
  if src = 0 || src = 4 then (if src = 4 && s.hk.cal.isSome then t else t.hkTrig (i = 1))
  else if src = 7 && i = 0 then (t.setFlag R.HK_STAT F.HK_STAT_HELD false).hkIdle.hkShow
  else t

/-- MON_HK_SEQ (R556, R557). -/
def execMonHkSeq (c : Cmd) (s : State) : Host.Outcome State Fault Refusal :=
  let i := arg c 8 1
  let n := arg c 9 1
  let rate := arg c 10 2
  let trig := arg c 12 1
  let src := trig % 8
  let k := trig / 8
  let most : Nat := if i = 0 then 16 else 4
  let q := s.nearest 6250000 rate
  let t := (q.2.wrN (R.HK_SEQ_CFG i) (n % 32 + 2 ^ 8 * trig)).wrN (R.HK_SEQ_OSR i) q.1
  let t := (List.range 4).foldl (fun (t : State) w => t.wrN (R.HK_SEQ_LIST i w) (arg c (16 + 4 * w) 4)) t
  runCmd s c false [] [s.needML c, busyCheck (decide (i < 2) && s.hkRuns i) 13, badParam (decide (2 ≤ i)) 8, badParam (n = 0 || decide (most < n)) 9,
      badParam (decide (rate < 5) || decide (50000 < rate)) 10,
      badParam (src = 5 || src = 6 || (src = 4 && i = 1) || (src = 2 && s.get (R.PM_GPIO_CFG k) F.PM_GPIO_CFG_FUNC != 0)) 12,
      badParam ((List.range n).any (fun j => decide (43 ≤ arg c (16 + j) 1))) 16]
    (.done ((t.wrN (R.HK_TIMER i) (arg c 32 4)).hkArm i src) St.ok 0 0)

/-- MON_HK_CAL (R562): a step waits for the regular run in progress to end, and for no Squall run. -/
def execMonHkCal (c : Cmd) (s : State) : Host.Outcome State Fault Refusal :=
  let ch := arg c 8 1
  let st := arg c 9 1
  let k : HkCal := ⟨ch, st, 0, 0⟩
  let t := if s.hk.regRun.isSome || s.flag R.HK_STAT F.HK_STAT_HELD then { s with hk := { s.hk with calWait := some k } }
    else { s with hk := { s.hk with cal := some k } }.hkPower.hkShow
  runCmd s c false [(108, 0)] [s.needML c, s.badState (st = 1 && !s.hk.zero.any (fun z => z.1 = ch)) 16 ch, badParam (decide (43 ≤ ch)) 8, badParam (decide (2 ≤ st)) 9]
    (.wait t .hkCal [])

/-- MON_HK_READ. -/
def execMonHkRead (c : Cmd) (s : State) : Host.Outcome State Fault Refusal :=
  let ch := arg c 8 1
  let v := unsigned 32 (signed 24 (s.get (R.HK_DATA ch) F.HK_DATA_V))
  runCmd s c false [] [badParam (decide (43 ≤ ch)) 8]
    (.done s St.ok 0 (resN 16 4 v + resN 20 4 (sparseGet (fun _ => 0) s.hk.stampNs ch) + resN 24 2 (sparseGet (fun _ => 0) s.hk.samples ch)))

/-! ### Temperature, wear, harvester, journal -/

/-- MON_TEMP: the values stand as in TH_SENSOR, two bytes each in sensor order. -/
def execMonTemp (c : Cmd) (s : State) : Host.Outcome State Fault Refusal :=
  let a := arg c 16 8
  let t := if a = 0 then s else s.setBytes a ((List.range 48).flatMap (fun i => leBytes 2 (s.get (R.TH_SENSOR i) F.TH_SENSOR_T)))
  runCmd s c false [] (if a = 0 then [] else s.spanChecks c 16 64 96)
    (.done t St.ok 0 (resN 16 2 (s.get R.TH_STAT F.TH_STAT_HOT) + resN 18 2 (s.get R.TH_STAT F.TH_STAT_HOTIDX) + resN 20 1 s.stage + resN 21 1 s.suspects))

/-- MON_WEAR (R571). -/
def execMonWear (c : Cmd) (s : State) : Host.Outcome State Fault Refusal :=
  let v := s.get R.PM_VCORE F.PM_VCORE_MV
  runCmd s c false [] [] (.done s St.ok 0 (resN 16 2 v + resN 18 2 (850 - v) + resN 20 4 s.minSlack))

/-- MON_HARVEST (R572): the span holds at least two slots. -/
def execMonHarvest (c : Cmd) (s : State) : Host.Outcome State Fault Refusal :=
  let p := arg c 8 4
  let n := arg c 24 4
  let t := if p = 0 then { s with hi := { s.hi with harvPeriod := 0 } }
    else { s with hi := { s.hi with harvAt := s.now, harvPeriod := p, harvBase := arg c 16 8, harvSpan := n, harvSlot := 0, harvCtx := c.ctx } }
  runCmd s c false [] ([s.needML c, badParam (decide (60000 < p)) 8] ++ (if p = 0 then [] else badParam (decide (n < 2560)) 24 :: s.spanChecks c 16 64 n))
    (.done t St.ok 0 0)

/-- Records of an area of sixteen slots, the oldest first (R580). -/
def State.areaRecords (s : State) (base : Nat) : List (List Byte) :=
  match s.areaMax base with
  | none => []
  | some (_, j) => ((List.range 16).map (fun i => s.jrec (base + (j + 1 + i) % 16))).filter jCommitted

/-- The parts of an object's current copy, in order; none when it is absent. -/
def State.objParts (s : State) (p : ObjPlace) : List (List Byte) :=
  match s.current p with
  | none => []
  | some b => (List.range (partsFor (s.copyLen b))).map (fun k => s.jrec (b + k))

/-- What MON_JOURNAL_READ selects by `TYPE` (R580, R584): the parts of an object's current copy, of the four points or results one after
the other; the shutdown, supply and log records from the oldest; the committed lock records. The host object's keys are hidden. -/
def State.journalSel (s : State) (type : Nat) : List (List Byte) :=
  match type with
  | 0x01 => s.areaRecords 0
  | 0x02 => s.areaRecords 16
  | 0x03 => ([32, 33].map s.jrec).filter jCommitted
  | 0x20 => (List.range 4).flatMap (fun i => s.objParts (pointPlace i))
  | 0x21 => (List.range 4).flatMap (fun i => s.objParts (resultPlace i))
  | 0x30 => ((List.range 112).map (fun i => s.jrec (3984 + (s.logPos + i) % 112))).filter jCommitted
  | 0x12 => (s.objParts (objPlace 0x12)).map (fun b => (Config.keysHidden b ++ List.replicate 64 0).take 64)
  | _ => s.objParts (objPlace type)

/-- A record type in use (R580). -/
def journalType (t : Nat) : Bool := [1, 2, 3, 0x20, 0x21, 0x30].contains t || (decide (0x10 ≤ t) && decide (t ≤ 0x1A))

/-- MON_JOURNAL_READ (R584). -/
def execMonJournalRead (c : Cmd) (s : State) : Host.Outcome State Fault Refusal :=
  let l := ((s.journalSel (arg c 8 1)).drop (arg c 10 2)).take (arg c 12 2)
  runCmd s c false [] (badParam (!journalType (arg c 8 1)) 8 :: s.spanChecks c 16 64 (64 * arg c 12 2))
    (.done (s.setBytes (arg c 16 8) l.flatten) St.ok 0 (resN 16 2 l.length + resN 18 2 (s.rd R.NVJ_TORN_CNT).toNat))

/-! ### The regulatory guard -/

/-- A value of the REG_SET table lies in its field (R143): levels below 1,024, a duty of at most 1,000, edges of 21 bits. -/
def regFits (v : List Nat) : Bool :=
  (v.take 128).all (fun x => decide (x < 1024)) && ((v.drop 128).take 64).all (fun x => decide (x ≤ 1000)) &&
    ((v.drop 192).take 16).all (fun x => decide (x % 2 ^ 31 < 2 ^ 21)) && ((v.drop 208).take 16).all (fun x => decide (x < 2 ^ 21))

/-- Every value tightens, or equals, its limit in the locked set (R130). -/
def regTightens (v k : List Nat) : Bool :=
  let on (l : List Nat) (i : Nat) : Bool := decide (2 ^ 31 ≤ nth l (192 + i) 0)
  (List.range 128).all (fun i => decide (nth k i 0 ≤ nth v i 0)) && (List.range 64).all (fun p => decide (nth v (128 + p) 0 ≤ nth k (128 + p) 0)) &&
    (List.range 16).all (fun i => !on v i || (List.range 16).any (fun j => on k j &&
      decide (nth k (192 + j) 0 ≤ nth v (192 + i) 0) && decide (nth v (208 + i) 0 ≤ nth k (208 + j) 0)))

/-- The locked set (R130, R577). -/
def State.lockedSet (s : State) : List Nat := regVals ((s.objData (objPlace 0x1A)).getD [])

/-- REG_SET (R129, R130, R482). -/
def execRegSet (c : Cmd) (s : State) : Host.Outcome State Fault Refusal :=
  let v := regVals (s.bytes (arg c 16 8) 640)
  let r := s.journalObj (objPlace 0x16) (regBytes v)
  runCmd s c true [(107, 0x16)] ([s.needML c, s.badState (!(s.mode = .provisioned || s.mode = .standby || isRadio s.mode)) 8 0,
      ⟨s.flag R.RF_REG_STATUS F.RF_REG_STATUS_LOCKED && !regTightens v s.lockedSet, St.locked, 0⟩, badParam (!regFits v) 16] ++ s.spanChecks c 16 64 640)
    (.wait r.2 (.journal r.1) (0x16 :: v))

/-- REG_LOCK (R129, R130, R579): the values in force become the locked set, then the lock record is committed. -/
def execRegLock (c : Cmd) (s : State) : Host.Outcome State Fault Refusal :=
  let r := s.journalObj (objPlace 0x1A) (regBytes s.regNow)
  runCmd s c true [(107, 0x16)] [s.needML c, s.badState (s.mode != .provisioned) 8 0, ⟨s.flag R.RF_REG_STATUS F.RF_REG_STATUS_LOCKED, St.locked, 0⟩]
    (.wait r.2 (.journal r.1) [0x1A])

/-- REG_STATUS. -/
def execRegStatus (c : Cmd) (s : State) : Host.Outcome State Fault Refusal :=
  runCmd s c false [] [] (.done s St.ok 0 (resN 16 4 (s.rd R.RF_REG_STATUS).toNat))

end Sys2Proof.Machine
end

