-- ==== Sys2Proof/Machine/Chains.lean ====
section
/-! DEFINITION. The sample paths of CV and the DFE: slice correction (R146), receive correction (R160), decimation and interpolation chains
(R187 to R199), CFR (R201 to R203), the pre-distorter (R205, R207), and the way to the DAC (R132, R161, R163). -/

namespace Sys2Proof.Machine

/-! ### Rounding and saturation -/

/-- Shift right by `n`, rounded to nearest; which way a tie goes is open (log entry 10). -/
def State.roundTie (s : State) (v : Int) (n : Nat) : Int × State :=
  let d : Int := (2 ^ n : Nat)
  if n = 0 then (v, s)
  else if v % d = d / 2 then (v / d + ((s.fresh 1).1.toNat : Int), (s.fresh 1).2)
  else ((v + d / 2) / d, s)

/-- Round and saturate a complex number to `w` bits: the result and the number of saturations. The spec does not say whether a sample that
saturates in both parts is one saturation or two: DESIGN CHOICE, each part counts (log entry 98). -/
def State.narrow (s : State) (w n : Nat) (v : Int × Int) : (Int × Int) × Nat × State :=
  let a := s.roundTie v.1 n
  let b := a.2.roundTie v.2 n
  let i := satS w a.1
  let q := satS w b.1
  ((i, q), (if i = a.1 then 0 else 1) + (if q = b.1 then 0 else 1), b.2)

/-- The same over a list. -/
def State.narrows (s : State) (w n : Nat) : List (Int × Int) → List (Int × Int) × Nat × State
  | [] => ([], 0, s)
  | v :: l =>
    let a := s.narrow w n v
    let b := State.narrows a.2.2 w n l
    (a.1 :: b.1, a.2.1 + b.2.1, b.2.2)

/-- A complex product, sum and conjugate. -/
def cmul (a b : Int × Int) : Int × Int := (a.1 * b.1 - a.2 * b.2, a.1 * b.2 + a.2 * b.1)
def cadd (a b : Int × Int) : Int × Int := (a.1 + b.1, a.2 + b.2)
def conj (a : Int × Int) : Int × Int := (a.1, -a.2)
/-- Sums of lists, place by place. -/
def caddL (a b : List (Int × Int)) : List (Int × Int) := (a.zip b).map (fun x => cadd x.1 x.2)

/-- Samples as whole numbers. -/
def ints {w : Nat} (x : List (BitVec w × BitVec w)) : List (Int × Int) := x.map (fun c => (c.1.toInt, c.2.toInt))

/-- Count saturations of a path, and report them once per path and symbol (R192, R234). -/
def State.satCount (s : State) (reg ev : Nat) (y : Sym) (p n : Nat) : State :=
  if n = 0 then s else (s.countN reg n).raiseOnce ev p y.stamp (s.leaseOf 1 (quadOf p)) [p, y.stamp]

/-- Saturations in a chain or a path sum (R192). -/
def State.dfeSat (s : State) (y : Sym) (p n : Nat) : State := s.satCount (R.DFE_SAT_CNT p) Ev.DFE_SAT y p n

/-- What an element gave last. -/
def State.outOf (s : State) (el i : Nat) : List (Int × Int) := ((s.dfe.out.find? (fun o => o.1 = el && o.2.1 = i)).map (·.2.2)).getD []

/-! ### Receive side of CV (R146, R160) -/

/-- A raw code of slot `j` of an ADC, corrected by the slice that serves it (R146): y = G × (x − O), in 1/16 LSB. -/
def State.adcOut (s : State) (c j : Nat) (x : BitVec 12) : Int :=
  let k := s.get (R.CV_ADC_MAP c) (fSlot j)
  let w := R.CV_SLICE_COEF c k
  (s.get w F.CV_SLICE_COEF_GAIN : Int) * (16 * x.toInt - signed 16 (s.get w F.CV_SLICE_COEF_OFS))

/-- The merged stream of a path's two ADCs from sample number `n` on (R145, R146), Q0.15. -/
def State.adcPair (s : State) (a n : Nat) (raw : List (BitVec 12 × BitVec 12)) : List (Int × Int) × State :=
  let r := s.narrows 16 15 ((raw.zipIdx).map (fun x => (s.adcOut (2 * a) ((n + x.2) % 8) x.1.1, s.adcOut (2 * a + 1) ((n + x.2) % 8) x.1.2)))
  (r.1, r.2.2)

/-- An imbalance correction of a sample in the form of R163, scale 2⁻³¹: I′ = (1 + ε/2) I, Q′ = (1 − ε/2)(Q − sin φ × I). -/
def imbalance (w : Word) (x : Int × Int) : Int × Int :=
  let e := signed 16 (w.toNat % 2 ^ 16)
  let f := signed 16 (w.toNat / 2 ^ 16)
  ((65536 + e) * 32768 * x.1, (65536 - e) * (32768 * x.2 - f * x.1))

/-- The receive correction of a path (R160): the DC offset goes, then the imbalance in the form of R163 (log entry 97). -/
def State.rxCorrect (s : State) (p : Nat) (x : List (Int × Int)) : List (Int × Int) × State :=
  let d := ((s.cv.rxDc.find? (fun e => e.1 = p)).map (·.2)).getD (0, 0)
  let r := s.narrows 16 31 (x.map (fun v => imbalance (s.rd (R.CV_RXQ p)) (v.1 - d.1, v.2 - d.2)))
  (r.1, r.2.2)

/-! ### Chains (R187 to R199) -/

/-- Length and shift of stage `i` of a carrier's moving-average section (R188, R193, R627). -/
def State.maLen (s : State) (c i : Nat) : Nat := 1 + s.get (R.DFE_CAR_CIC c) ⟨8 * i, 6⟩
def State.maSh (s : State) (c i : Nat) (ul : Bool) : Nat := if ul then s.get (R.DFE_CAR_CIC_HI c) ⟨5 * i, 5⟩ else s.get (R.DFE_CAR_TXSH c) ⟨5 * i, 5⟩
/-- Decimation of the section, and half-band stages (R188, R190). -/
def State.carRc (s : State) (c : Nat) : Nat := 2 ^ s.get (R.DFE_CAR_CIC_HI c) F.DFE_CAR_CIC_LOGRC
def State.carHb (s : State) (c : Nat) : Nat := s.get (R.DFE_CAR_CFG c) F.DFE_CAR_CFG_H

/-- A FIR over samples with its delay line (newest first): exact sums, and the line after them. -/
def firRun (taps : List Int) (h x : List (Int × Int)) : List (Int × Int) × List (Int × Int) :=
  let r := x.foldl (fun (a : List (Int × Int) × List (Int × Int)) v =>
    let l := v :: a.2
    (((taps.zip l).foldl (fun (m : Int × Int) z => cadd m (z.1 * z.2.1, z.1 * z.2.2)) (0, 0)) :: a.1, l.take (taps.length - 1))) ([], h)
  (r.1.reverse, r.2)

/-- Every `m`-th sample after the first `k`, and the number to drop before the next. -/
def keepEvery (m k : Nat) (x : List (Int × Int)) : List (Int × Int) × Nat :=
  let r := x.foldl (fun (a : List (Int × Int) × Nat) v => if a.2 = 0 then (v :: a.1, m - 1) else (a.1, a.2 - 1)) ([], k)
  (r.1.reverse, r.2)

/-- Each sample with `m` − 1 zeros behind it. -/
def zeroFill (m : Nat) (x : List (Int × Int)) : List (Int × Int) := x.flatMap (fun v => v :: List.replicate (m - 1) (0, 0))

/-- One moving-average stage (R188): sums of the last `L` samples, shifted with 2^(SH−1) added first, saturated to 18 bits. -/
def maStage (l sh : Nat) (h x : List (Int × Int)) : List (Int × Int) × Nat × List (Int × Int) :=
  let r (v : Int) : Int := if sh = 0 then v else (v + ((2 ^ (sh - 1) : Nat) : Int)) / ((2 ^ sh : Nat) : Int)
  let f := firRun (List.replicate l 1) h x
  let raw := f.1.map (fun v => (r v.1, r v.2))
  (raw.map (fun v => (satS 18 v.1, satS 18 v.2)),
    (raw.map (fun v => (if satS 18 v.1 = v.1 then 0 else 1) + (if satS 18 v.2 = v.2 then 0 else 1))).sum, f.2)

/-- The stages of a section in turn (R188, R193): outputs, saturations, the chain with its new lines. -/
def State.maSection (s : State) (k : ChainSt) (x : List (Int × Int)) : List (Int × Int) × Nat × ChainSt :=
  (List.range (1 + s.get (R.DFE_CAR_CIC_HI k.car) F.DFE_CAR_CIC_NST)).foldl (fun (a : List (Int × Int) × Nat × ChainSt) i =>
    let b := maStage (s.maLen k.car i) (s.maSh k.car i k.ul) (nth a.2.2.ma i []) a.1
    (b.1, a.2.1 + b.2.1, { a.2.2 with ma := a.2.2.ma.set i b.2.2 })) (x, 0, k)

/-- The taps of a chain's active bank in its compensation FIR (R189, R224). -/
def State.taps (s : State) (k : ChainSt) : List Int :=
  (List.range 32).map (fun j => signed 18 (s.rd (R.DFE_CFIR (4 * k.car + (if k.ul then 2 else 0) + k.bank) j)).toNat)

/-- The taps of the half-band filters: 23 and 55, linear in phase (R190). -/
def hb1Taps : List Int := (List.range 23).map (fun i => (Config.hb1 (min i (22 - i))).toInt)
def hb2Taps : List Int := (List.range 55).map (fun i => (Config.hb2 (min i (54 - i))).toInt)

/-- The NCO over samples (R187): the accumulator advances by FHZ modulo 1,966,080,000, and each sample is turned by its phase, down for
reception and up for transmission; exact products, and the accumulator after them. -/
def ncoRun (ul : Bool) (hz : Int) (acc : Nat) (x : List (Int × Int)) : List (Int × Int) × Nat :=
  let r := x.foldl (fun (a : List (Int × Int) × Nat) v =>
    let t := Config.ncoTable a.2
    let e : Int × Int := (t.1.toInt, t.2.toInt)
    (cmul v (if ul then conj e else e) :: a.1, (((a.2 : Int) + hz) % 1966080000).toNat)) ([], acc)
  (r.1.reverse, r.2)

/-- A half-band decimator: filter, round to 16 bits, keep every second output (R190). -/
def State.hbDown (s : State) (taps : List Int) (sh : Nat) (h : List (Int × Int)) (k : Nat) (x : List (Int × Int)) :
    (List (Int × Int) × List (Int × Int) × Nat) × Nat × State :=
  let f := firRun taps h x
  let d := keepEvery 2 k f.1
  let r := s.narrows 16 sh d.1
  ((r.1, f.2, d.2), r.2.1, r.2.2)

/-- A half-band interpolator: a zero behind each sample, filter with gain 2, round to 16 bits (R190, R193). -/
def State.hbUp (s : State) (taps : List Int) (h x : List (Int × Int)) : (List (Int × Int) × List (Int × Int)) × Nat × State :=
  let f := firRun taps h (zeroFill 2 x)
  let r := s.narrows 16 15 f.1
  ((r.1, f.2), r.2.1, r.2.2)

/-- Outputs that reach before the synchronising reset are exact zeros (R195). -/
def invalidZero (n : Nat) (x : List (Int × Int)) : List (Int × Int) := (x.zipIdx).map (fun v => if v.2 < n then (0, 0) else v.1)

/-- What a chain gives for samples: outputs, saturations, the chain with its new content, and the state. -/
abbrev ChainOut := List (Int × Int) × Nat × ChainSt × State

/-- The decimation chain (R187 to R190): NCO and moving average in 18 bits (Q0.17), decimation by Rc, compensation FIR, half-bands to Q0.15. -/
def State.rxStep (s : State) (k : ChainSt) (x : List (Int × Int)) : ChainOut :=
  let n := ncoRun true (s.carRxHz k.car) k.acc x
  let a := s.narrows 18 14 n.1
  let m := s.maSection { k with acc := n.2 } a.1
  let d := keepEvery (s.carRc k.car) k.skipRc m.1
  let f := firRun (s.taps k) k.fir d.1
  let b := a.2.2.narrows 18 16 f.1
  let k := { m.2.2 with skipRc := d.2, fir := f.2 }
  let h := s.carHb k.car
  if h = 0 then
    let r := b.2.2.narrows 16 2 b.1
    (invalidZero k.fill r.1, a.2.1 + m.2.1 + b.2.1 + r.2.1, { k with fill := k.fill - r.1.length }, r.2.2)
  else
    let u := if h = 1 then ((b.1, k.hb1, k.skip1), 0, b.2.2) else b.2.2.hbDown hb1Taps 18 k.hb1 k.skip1 b.1
    let v := u.2.2.hbDown hb2Taps (if h = 1 then 18 else 16) k.hb2 k.skip2 u.1.1
    let k := { k with hb1 := u.1.2.1, skip1 := u.1.2.2, hb2 := v.1.2.1, skip2 := v.1.2.2, fill := k.fill - v.1.1.length }
    (invalidZero m.2.2.fill v.1.1, a.2.1 + m.2.1 + b.2.1 + u.2.1 + v.2.1, k, v.2.2)

/-- The interpolation chain (R193): half-bands, compensation FIR, Rc − 1 zeros behind each sample, moving average, NCO. -/
def State.txStep (s : State) (k : ChainSt) (x : List (Int × Int)) : ChainOut :=
  let h := s.carHb k.car
  let u := if h = 0 then ((x, k.hb2), 0, s) else s.hbUp hb2Taps k.hb2 x
  let v := if h = 2 then u.2.2.hbUp hb1Taps k.hb1 u.1.1 else ((u.1.1, k.hb1), 0, u.2.2)
  let f := firRun (s.taps k) k.fir v.1.1
  let b := v.2.2.narrows 18 14 f.1
  let m := s.maSection { k with hb2 := u.1.2, hb1 := v.1.2, fir := f.2 } (zeroFill (s.carRc k.car) b.1)
  let n := ncoRun false (s.carTxHz k.car) k.acc m.1
  let r := b.2.2.narrows 18 16 n.1
  (r.1, u.2.1 + v.2.1 + b.2.1 + m.2.1 + r.2.1, { m.2.2 with acc := n.2 }, r.2.2)

/-- Samples of the 1,024-frame count at 1966.08 Msps. -/
def hyperSamples : Nat := 4 * hyper

/-- A chain passes `g` samples between two symbols: they count as zeros (log entry 97), and the NCO goes on. A run of zeros as long as every
line together leaves the lines clear, so that a longer one is cut by a whole number of output samples. -/
def State.passGap (s : State) (k : ChainSt) (g : Nat) : ChainSt :=
  let n := if g ≤ 12288 then g else 12288 + g % 256
  let hz := if k.ul then s.carRxHz k.car else s.carTxHz k.car
  let k := { k with acc := (((k.acc : Int) + hz * ((g - n : Nat) : Int)) % 1966080000).toNat }
  if k.ul then (s.rxStep k (List.replicate n (0, 0))).2.2.1
  else (s.txStep k (List.replicate (n / 2 ^ s.get (R.DFE_CAR_CFG k.car) F.DFE_CAR_CFG_LOGD) (0, 0))).2.2.1

/-- The synchronising reset of a chain at the first sample of a symbol (R194 to R196): every line clear, the NCO at PHASE0 × 30,000, and on
the receive side output 0 at the next sample with FILL_LEN outputs invalid. -/
def State.syncChain (s : State) (k : ChainSt) (at_ : Nat) : ChainSt :=
  { s.newChain k.car k.path k.ul with
    bank := k.bank, next := some at_, acc := 30000 * s.get (R.DFE_CAR_GAIN k.car) F.DFE_CAR_GAIN_PHASE0
    skipRc := 0, skip1 := 0, skip2 := 0, fill := if k.ul then s.get (R.DFE_CAR_STAT k.car) F.DFE_CAR_STAT_FILL_LEN else 0 }

/-- First sample of a symbol in the 1,024-frame count: Tₙ or T′ₙ of the carrier. -/
def State.symSample (s : State) (c st : Nat) (ul : Bool) : Nat := 4 * shiftBy (stStart st) (if ul then -(s.ulAdv c : Int) else 0)

/-- A chain on its way to sample number `n` of a symbol: it takes the resets and the FIR banks of that symbol and of those before it (R194 to
R199), and what lies between passes. -/
def State.chainAt (s : State) (y : Sym) (p n : Nat) : ChainSt × State :=
  let mine (x : Nat × Bool × Nat × Nat) : Bool := x.1 = y.car && x.2.1 == y.ul && x.2.2.1 = p && !inFuture (stStart x.2.2.2) (stStart y.stamp + 1)
  let k := (s.dfe.syncNext.filter mine).foldl (fun k x => s.syncChain k (s.symSample y.car x.2.2.2 y.ul)) (s.chainOf y.car p y.ul)
  let k := (s.dfe.firNext.filter mine).foldl (fun k _ => { k with bank := 1 - k.bank }) k
  let t := { s with dfe := { s.dfe with syncNext := s.dfe.syncNext.filter (fun x => !mine x), firNext := s.dfe.firNext.filter (fun x => !mine x) } }
  (match k.next with
   | some a => s.passGap k ((n + hyperSamples - a % hyperSamples) % hyperSamples)
   | none => k, t)

/-- Samples of a symbol, the first of them number `n` of the count, pass through the chain of its carrier on a path: outputs, saturations. -/
def State.chainRun (s : State) (y : Sym) (p n : Nat) (x : List (Int × Int)) : List (Int × Int) × Nat × State :=
  let a := s.chainAt y p n
  let r := if y.ul then a.2.rxStep a.1 x else a.2.txStep a.1 x
  let len := if y.ul then x.length else x.length * 2 ^ s.get (R.DFE_CAR_CFG y.car) F.DFE_CAR_CFG_LOGD
  (r.1, r.2.1, r.2.2.2.setChain { r.2.2.1 with next := some ((n + len) % hyperSamples) })

/-- The path sum (R193): each carrier scaled by CGAIN (UQ1.15), summed and saturated to 16 bits. -/
def State.txSum (s : State) (p : Nat) : List (Int × Int) × Nat × State :=
  let cs := (List.range 16).filter (fun c => s.dfe.out.any (fun o => o.1 = 0 && o.2.1 = 64 * c + p))
  let len := cs.foldl (fun m c => max m (s.outOf 0 (64 * c + p)).length) 0
  s.narrows 16 17 ((List.range len).map (fun i => cs.foldl (fun (a : Int × Int) c =>
    cadd a (cmul ((s.get (R.DFE_CAR_GAIN c) F.DFE_CAR_GAIN_CGAIN : Int), 0) (nth (s.outOf 0 (64 * c + p)) i (0, 0)))) (0, 0)))

/-! ### CFR (R201 to R203) -/

/-- Tap `m` of a pulse slot from its centre, tap 127 (R203, R224; log entry 97), Q1.14. -/
def State.pulseTap (s : State) (slot : Nat) (m : Int) : Int × Int :=
  let i := m + 127
  if i < 0 || 254 < i then (0, 0)
  else
    let w := (s.rd (R.DFE_CFR_PULSE slot i.toNat)).toNat
    (signed 16 w, signed 16 (w / 2 ^ 16))

/-- Half length W of a pulse: its last tap from the centre that is not zero. -/
def State.pulseHalf (s : State) (slot : Nat) : Nat :=
  (List.range 128).foldl (fun (m : Nat) (i : Nat) => if s.pulseTap slot (i : Int) = (0, 0) && s.pulseTap slot (-(i : Int)) = (0, 0) then m else i) 0

/-- |x|² of a sample. -/
def abs2 (x : Int × Int) : Int := x.1 * x.1 + x.2 * x.2

/-- One sample enters a CFR stage (R201, R202). The sample eight back is a peak when it exceeds the threshold and is the largest of those
within eight of it, the first of equals; a free engine takes it for 2W + 1 samples, and what it subtracts is (|x| − T) of it at its phase.
The output is the sample 135 back less the pulses of the engines that reach it. -/
def State.cfrStep (s : State) (slot thr : Nat) (a : CfrSt × List (Int × Int) × Nat × State) (x : Int × Int) : CfrSt × List (Int × Int) × Nat × State :=
  let k := a.1
  let h := (x :: k.hist).take 400
  let n := k.n + 1
  let pk := nth h 8 (0, 0)
  let e := (abs2 pk).toNat
  let top := (List.range 8).all (fun i => decide (abs2 (nth h i (0, 0)) ≤ abs2 pk)) && (List.range 8).all (fun i => decide (abs2 (nth h (9 + i) (0, 0)) < abs2 pk))
  let w := s.pulseHalf slot
  let isPk := top && aboveLimit e (2 ^ 30) thr
  let busy := (k.eng.filter (fun g => decide (n < g.1 + 8 + 2 * w + 1))).length
  let ci := a.2.2.2.clipTo thr e pk.1
  let cq := ci.2.clipTo thr e pk.2
  let take := isPk && decide (busy < 16)
  let eng := (if take then k.eng ++ [(n - 8, pk.1 - ci.1, pk.2 - cq.1)] else k.eng).filter (fun g => decide (n < g.1 + 400))
  let o := nth h 135 (0, 0)
  let sub := eng.foldl (fun (m : Int × Int) g => cadd m (cmul g.2 (s.pulseTap slot (((n : Int) - 135) - (g.1 : Int))))) (0, 0)
  let t := if take then cq.2 else a.2.2.2
  let r := t.narrow 16 14 (16384 * o.1 - sub.1, 16384 * o.2 - sub.2)
  ({ k with n := n, hist := h, eng := eng }, r.1 :: a.2.1, a.2.2.1 + (if isPk && !take then 1 else 0), r.2.2)

/-- A CFR stage of a path over samples: outputs and peaks that found no engine. -/
def State.cfrStage (s : State) (p st : Nat) (x : List (Int × Int)) : List (Int × Int) × Nat × State :=
  let k := (s.dfe.cfr.find? (fun k => k.path = p && k.st = st)).getD ⟨p, st, 0, [], []⟩
  let cfg := s.rd (R.DFE_CFR_CFG p)
  let r := x.foldl (s.cfrStep (fldGet F.DFE_CFR_CFG_SLOT cfg) (fldGet ⟨8 * st, 8⟩ cfg)) (k, [], 0, s)
  (r.2.1.reverse, r.2.2.1, { r.2.2.2 with dfe := { r.2.2.2.dfe with cfr := r.1 :: r.2.2.2.dfe.cfr.filter (fun k => !(k.path = p && k.st = st)) } })

/-- What CFR did to samples enters the frame's figures (R204). -/
def State.cfrSee (s : State) (p : Nat) (x y : List (Int × Int)) : State :=
  let (sig, can, inn, out) := ((s.dfe.cfrSeen.find? (fun e => e.1 = p)).map (·.2)).getD (0, 0, [], [])
  let pow (l : List (Int × Int)) : List Nat := l.map (fun v => (abs2 v).toNat)
  let d := (x.zip y).map (fun v => (v.1.1 - v.2.1, v.1.2 - v.2.2))
  { s with dfe := { s.dfe with cfrSeen := (p, sig + (pow x).sum, can + (pow d).sum, inn ++ pow x, out ++ pow y) :: s.dfe.cfrSeen.filter (fun e => e.1 != p) } }

/-- Samples that the three stages hold back together: 135 each. -/
def cfrDelay : Nat := 405

/-- The three stages in series (R201): DFE_CFR_EXH_CNT counts the peaks of each that found every engine busy (R202). The figures of R204
compare the output with the input that stands behind it. -/
def State.cfrRun (s : State) (y : Sym) (p : Nat) (x : List (Int × Int)) : List (Int × Int) × State :=
  let r := (List.range 3).foldl (fun (a : List (Int × Int) × Nat × State) st =>
    let b := a.2.2.cfrStage p st a.1
    (b.1, a.2.1 + b.2.1, b.2.2)) (x, 0, s)
  let before := s.outOf 7 p
  let all := before ++ x
  let t := (r.2.2.cfrSee p ((List.replicate (cfrDelay - before.length) (0, 0) ++ all).take x.length) r.1).keepOut 7 p (all.drop (all.length - cfrDelay))
  (r.1, t.satCount (R.DFE_CFR_EXH_CNT p) Ev.DFE_CFR_EXH y p r.2.1)

/-! ### The pre-distorter (R205 to R208) -/

/-- A coefficient of the active bank of a path (R207, R208): Q3.20. -/
def State.coef (s : State) (p i : Nat) : Int × Int := s.bankCoef p (s.get (R.DFE_DPD_STATUS p) F.DFE_DPD_STATUS_ACT) i

/-- A coefficient times a sample times a real power of magnitude whose scale is 2^(−e), brought to the scale 2^(−155). -/
def dpdTerm (a x : Int × Int) (m : Int) (e : Nat) : Int × Int :=
  let v := cmul a x
  let k : Int := (2 ^ (120 - e) : Nat)
  (v.1 * m * k, v.2 * m * k)

/-- The pre-distorter's sum for one sample (R205), exact, in units of 2^(−155). Neighbours not enabled contribute zero (R206). -/
def State.dpdSum (s : State) (p : Nat) (x : List (Int × Int)) (nbr : List (List (Int × Int))) : Int × Int :=
  let xn (i : Int) : Int × Int := nth x (i + 2).toNat (0, 0)
  let lag (i : Nat) : Int := nth [(-2 : Int), -1, 1, 2] i 0
  let sum (l : List (Int × Int)) : Int × Int := l.foldl cadd (0, 0)
  let a := sum ((List.range 60).map (fun (i : Nat) =>
    let m : Nat := i % 12
    let k := i / 12
    dpdTerm (s.coef p i) (xn m) (abs2 (xn m) ^ k) (30 * k)))
  let b := sum ((List.range 96).map (fun (i : Nat) =>
    let m : Nat := i % 8
    let l := i / 8 % 4
    let k := i / 32 + 1
    dpdTerm (s.coef p (60 + i)) (xn m) (abs2 (xn (m + lag l)) ^ k) (30 * k)))
  let c := sum ((List.range 64).map (fun (i : Nat) =>
    let m : Nat := i % 4
    let kind := i / 4 % 4
    let j := i / 16
    let on := s.get (R.DFE_DPD_NBR p) ⟨8 * j + 6, 1⟩ = 1
    let xj : Int × Int := if on then nth (nth nbr j []) (m + 2) (0, 0) else (0, 0)
    match kind with
    | 0 => dpdTerm (s.coef p (156 + i)) xj 1 0
    | 1 => dpdTerm (s.coef p (156 + i)) xj (abs2 xj) 30
    | 2 => dpdTerm (s.coef p (156 + i)) xj (abs2 (xn m)) 30
    | _ => dpdTerm (s.coef p (156 + i)) (xn m) (abs2 xj) 30))
  let d := sum ((List.range 12).map (fun (m : Nat) => dpdTerm (s.coef p (220 + m)) ((xn m).1, -(xn m).2) 1 0))
  cadd (sum [a, b, c, d]) (dpdTerm (s.coef p 232) (2 ^ 15, 0) 1 0)

/-- CFR output of a path around sample `i` of what stands for it, x(n + 2) first: fifteen earlier samples stand before its block. -/
def State.cfrAround (s : State) (p i : Nat) : List (Int × Int) := ((s.outOf 2 p).take (i + 16)).reverse

/-- The pre-distorter over a block of CFR outputs, two samples behind it (R205, R207): y rounded to 16 bits and saturated; with EN = 0,
y = x. -/
def State.dpdRun (s : State) (p n : Nat) : List (Int × Int) × Nat × State :=
  let nbrs (i : Nat) : List (List (Int × Int)) := (List.range 4).map (fun j => s.cfrAround (s.get (R.DFE_DPD_NBR p) ⟨8 * j, 6⟩) i)
  if s.flag (R.DFE_DPD_STATUS p) F.DFE_DPD_STATUS_EN then s.narrows 16 140 ((List.range n).map (fun i => s.dpdSum p (s.cfrAround p i) (nbrs i)))
  else ((List.range n).map (fun i => nth (s.cfrAround p i) 2 (0, 0)), 0, s)

/-! ### To the DAC (R132, R161, R163) -/

/-- A sample at the DAC input passes the peak limit of the guard (R132): scaled, counted and reported where it exceeds it. -/
def State.guardSample (s : State) (p : Nat) (x : Int × Int) : (Int × Int) × State :=
  let t := (s.keepOut 4 p [x]).clipPeak p x
  (nth (t.outOf 4 p) 0 x, t)

/-- The guard over samples. -/
def State.guardRun (s : State) (p : Nat) (x : List (Int × Int)) : List (Int × Int) × State :=
  let r := x.foldl (fun (a : List (Int × Int) × State) v =>
    let b := a.2.guardSample p v
    (b.1 :: a.1, b.2)) ([], s)
  (r.1.reverse, r.2)

/-- The TX I/Q correction of a sample (R163), scale 2⁻³¹; DCI and DCQ in quarters of a DAC LSB, taken as an LSB of Q0.15 (log entry 97). -/
def State.txIq (s : State) (p : Nat) (x : Int × Int) : Int × Int :=
  let d := s.rd (R.CV_TXQ_DC p)
  cadd (imbalance (s.rd (R.CV_TXQ_IMB p)) x) (signed 16 (d.toNat % 2 ^ 16) * 2 ^ 29, signed 16 (d.toNat / 2 ^ 16) * 2 ^ 29)

/-- The way of a path's samples from the pre-distorter to the DAC (R161): guard, TX I/Q correction, 2x interpolation. A path that is muted
or in FAULT gives zeros (R109). -/
def State.dacRun (s : State) (p : Nat) (x : List (Int × Int)) : State :=
  let live := s.tx p != Ps.muted && s.tx p != Ps.fault
  let g := s.guardRun p (if live then x else x.map (fun _ => (0, 0)))
  let c := g.2.narrows 16 31 (g.1.map (s.txIq p))
  let prev := (s.outOf 5 p).drop ((s.outOf 5 p).length - 31)
  let all := prev ++ c.1
  let out := (List.range c.1.length).flatMap (fun i =>
    let o := Config.dacInterp ((all.take (prev.length + i + 1)).reverse.take 32)
    [o.1, o.2])
  ((c.2.2.keepOut 4 p g.1).keepOut 5 p all).keepOut 6 p out

end Sys2Proof.Machine
end

