-- ==== Sys2Proof/Machine/Datapath.lean ====
section
/-! DEFINITION. The stages of the pipeline (R75): weight multiply (R233), array correction (R246), transforms (R234, R235), combine (R235),
compress and packetise (R365, R371), and the DFE's windows. -/

namespace Sys2Proof.Machine

/-! ### Results of the stages -/

/-- What stands for a symbol. -/
def State.outs (s : State) (y : Sym) (layer : Bool) : List BfOut := s.bf.out.filter (fun o => o.slot = y.slot && o.k = y.k && o.layer = layer)

/-- Replace what stands for a symbol. -/
def State.setOuts (s : State) (y : Sym) (l : List BfOut) : State :=
  { s with bf := { s.bf with out := s.bf.out.filter (fun o => !(o.slot = y.slot && o.k = y.k)) ++ l } }

/-! ### Weights (R233, R237, R240) -/

/-- A cell of the weight memory: Q1.14 I and Q (R238). -/
def State.weight (s : State) (v p : Nat) : Int × Int :=
  let n := s.memN (vecAddr v + 4 * p) 4
  (signed 16 n, signed 16 (n / 2 ^ 16))

/-- The weight of path `p` for layer `l` of a section that resolved: beam 0 gives 1.0 to the l-th path of the mask (R237). -/
def State.weightOf (s : State) (r : Weights) (mask l p : Nat) : Int × Int :=
  match r with
  | .vector v => s.weight v p
  | .identity => if (bitsOf mask 64)[l]? = some p then (16384, 0) else (0, 0)

/-- Resolve a section of a carrier at a PRB (R237, R240): none drops it. -/
def State.sectWeights (s : State) (c l : Nat) (e : Sect) (prb : Nat) (y : Sym) : Option Weights :=
  match s.resolve c e.ctx e.beam prb (stStart y.stamp) with
  | some .identity => if l < (bitsOf (s.carPmask c) 64).length then some .identity else none
  | r => r

/-- A stage reads the pool slots of the sections it uses (R250). -/
def State.readSlots (s : State) (c : Nat) (es : List Sect) (y : Sym) : State :=
  match s.poolOf c with
  | none => s
  | some r => es.foldl (fun (t : State) e => match t.bound r e.beam with
      | some k => t.slotRead r k (y.slot * 16 + y.k)
      | none => t) s

/-- Sections that a stage meets and cannot resolve are dropped (R240). -/
def State.dropUnresolved (s : State) (c : Nat) (es : List Sect) (y : Sym) : State :=
  es.foldl (fun (t : State) e =>
    let b := (nth e.prbs 0 (0, 0)).1
    match t.sectWeights c (t.flLayer e.flow) e b y with
    | some _ => t
    | none => t.dropSection c e.ctx y.stamp) s

/-! ### Stages 1 and 2 -/

/-- The sections whose U-plane data the store holds for a symbol. -/
def State.dlSects (s : State) (y : Sym) : List Sect :=
  s.fh.sects.filter (fun e => !e.ul && s.flCar e.flow = y.car && e.covers y.stamp &&
    s.fh.store.any (fun c => c.flow = e.flow && c.stamp = y.stamp && c.sect = e.id && e.hasPrb c.prb))

/-- The weighted sum of one path and PRB over the layers (R233), at full precision. -/
def State.pathSum (s : State) (y : Sym) (es : List Sect) (p b : Nat) : List (Int × Int) :=
  s.fh.store.foldl (fun acc c =>
    if c.car = y.car && c.stamp = y.stamp && c.prb = b then
      match es.find? (fun e => e.flow = c.flow && e.id = c.sect && e.hasPrb b) with
      | none => acc
      | some e => match s.sectWeights y.car c.layer e b y with
        | none => acc
        | some r => caddL acc (c.x.map (cmul (s.weightOf r (s.carPmask y.car) c.layer p)))
    else acc) (List.replicate 12 (0, 0))

/-- PRBs that the store holds for a symbol. -/
def State.dlPrbs (s : State) (y : Sym) : List Nat :=
  (s.fh.store.filter (fun c => c.car = y.car && c.stamp = y.stamp)).foldl (fun l c => if l.contains c.prb then l else l ++ [c.prb]) []

/-- Stage 1: the weight multiply (R233), shifted right by 14 + DLSH, rounded and saturated to 16 bits (R234). -/
def State.multiply (s : State) (y : Sym) : State :=
  let es := s.dlSects y
  let sh := 14 + s.get (R.BF_CAR_CFG y.car) F.BF_CAR_CFG_DLSH
  let t := (s.dropUnresolved y.car es y).readSlots y.car es y
  let r := (bitsOf (s.carPmask y.car) 64).foldl (fun (a : List BfOut × State) p =>
    (s.dlPrbs y).foldl (fun (a : List BfOut × State) b =>
      let v := a.2.narrows 16 sh (s.pathSum y es p b)
      (a.1 ++ [⟨y.slot, y.k, false, p, 0, b, v.1⟩], v.2.2.satCount (R.BF_SAT_CNT p) Ev.BF_SAT y p v.2.1)) a) ([], t)
  r.2.setOuts y r.1

/-- The subband of a subcarrier of a carrier (R246): its offset from the LO over 50 MHz, from −400 MHz up. -/
def State.subband (s : State) (c k : Nat) (ul : Bool) : Nat :=
  let nsc := 12 * s.get (R.BF_CAR_CFG c) F.BF_CAR_CFG_NRB
  let f := (if ul then s.carRxHz c else s.carTxHz c) + ((k : Int) - ((nsc / 2 : Nat) : Int)) * ((15000 * 2 ^ s.carNum c : Nat) : Int)
  (min (max ((f + 400000000) / 50000000) 0) 15).toNat

/-- The correction bank that a symbol uses (R247): the former one for symbols before the first on the new. -/
def State.acBank (s : State) (y : Sym) : Nat :=
  match s.bf.acFrom.find? (fun x => x.1 = y.car && decide (s.rel (stStart y.stamp) < s.rel (stStart x.2.2))) with
  | some (_, b, _) => b
  | none => s.get (R.BF_CAR_STAT y.car) F.BF_CAR_STAT_ACBANK

/-- The correction of a path and subband for a symbol (R178, R246, R247). -/
def State.correction (s : State) (y : Sym) (p k : Nat) : Int × Int :=
  let w := (s.rd (acWord (s.acBank y) p (if y.ul then 1 else 0) k)).toNat
  (signed 16 w, signed 16 (w / 2 ^ 16))

/-- Correct twelve subcarriers of a path (R246): Q1.14, rounded to 16 bits, saturations counted under R234. -/
def State.correct (s : State) (y : Sym) (p b : Nat) (x : List (Int × Int)) : List (Int × Int) × State :=
  let v := s.narrows 16 14 ((x.zipIdx).map (fun z => cmul (s.correction y p (s.subband y.car (12 * b + z.2) y.ul)) z.1))
  (v.1, v.2.2.satCount (R.BF_SAT_CNT p) Ev.BF_SAT y p v.2.1)

/-- Points of a carrier's transform, and its prefix in carrier samples for a symbol (R57, R230). -/
def State.points (s : State) (c : Nat) : Nat := 131072 / 2 ^ s.carNum c / 2 ^ s.get (R.DFE_CAR_CFG c) F.DFE_CAR_CFG_LOGD
def State.prefixLen (s : State) (y : Sym) : Nat :=
  (stLen y.stamp - 32768 / 2 ^ stNum y.stamp) * 4 / 2 ^ s.get (R.DFE_CAR_CFG y.car) F.DFE_CAR_CFG_LOGD

/-- The bin of subcarrier `k` of a carrier (R246). -/
def State.binOf (s : State) (c k : Nat) : Nat :=
  let n := s.points c
  let sc := 12 * s.get (R.BF_CAR_CFG c) F.BF_CAR_CFG_NRB
  (k + n - sc / 2) % n

/-- The phase compensation of a symbol (R234): f₀ × (t_start + T_CP) of a turn, t counted from the start of the subframe. -/
def State.phComp (s : State) (y : Sym) : Int × Int :=
  let t := stStart y.stamp % 491520 + (stLen y.stamp - 32768 / 2 ^ stNum y.stamp)
  let f := s.get (R.BF_CAR_F0 y.car) F.BF_CAR_F0_F0
  let p := Config.phasor (f * t % 491520) 491520
  (p.1.toInt, -p.2.toInt)

/-- Does a carrier compensate its phase (R234)? -/
def State.phOn (s : State) (c : Nat) : Bool := s.flag (R.BF_CAR_CFG c) F.BF_CAR_CFG_PHCOMP

/-- Saturations of a path in stages 1 to 4 of the beamformer (R234). -/
def State.bfSat (s : State) (y : Sym) (p n : Nat) : State := s.satCount (R.BF_SAT_CNT p) Ev.BF_SAT y p n

/-- The bins of a path from what stands for it, by subcarrier. -/
def State.binsOf (s : State) (y : Sym) (p : Nat) : List (Int × Int) :=
  (s.outs y false).foldl (fun (l : List (Int × Int)) o =>
    if o.idx = p then (o.x.zipIdx).foldl (fun l z => l.set (s.binOf y.car (12 * o.prb + z.2)) z.1) l else l)
    (List.replicate (s.points y.car) (0, 0))

/-- The transform of a path with its cyclic prefix (R234): time-domain samples of the symbol. -/
def State.ifftPath (s : State) (y : Sym) (p : Nat) : State :=
  let r := Config.ifft (s.points y.car) (s.binsOf y p)
  let x := ints r.1
  (s.keepOut 1 (64 * y.car + p) (x.drop (x.length - s.prefixLen y) ++ x)).bfSat y p r.2.toNat

/-- Stage 2: array correction, phase compensation, transform and prefix (R234, R246). -/
def State.stage2 (s : State) (y : Sym) : State :=
  let r := (s.outs y false).foldl (fun (a : List BfOut × State) o =>
    let v := a.2.correct y o.idx o.prb o.x
    let u := if s.phOn y.car then v.2.narrows 16 14 (v.1.map (cmul (s.phComp y))) else (v.1, 0, v.2)
    (a.1 ++ [{ o with x := u.1 }], u.2.2.bfSat y o.idx u.2.1)) ([], s)
  ((bitsOf (s.carPmask y.car) 64).foldl (fun (t : State) p => t.ifftPath y p) (r.2.setOuts y r.1)).setOuts y []

/-! ### Stages 3 to 5 -/

/-- The samples that a path received in a symbol (R186). -/
def State.rxSamples (s : State) (y : Sym) (p : Nat) : List (Int × Int) :=
  ((s.bf.out.find? (fun o => o.slot = y.slot && o.k = y.k && !o.layer && o.sect = 1 && o.idx = p)).map BfOut.x).getD []

/-- Samples that a path receives join those of its symbol. -/
def State.rxKeep (s : State) (y : Sym) (p : Nat) (x : List (Int × Int)) : State :=
  let same (o : BfOut) : Bool := o.slot = y.slot && o.k = y.k && !o.layer && o.sect = 1 && o.idx = p
  { s with bf := { s.bf with out := s.bf.out.filter (fun o => !same o) ++ [⟨y.slot, y.k, false, p, 1, 0, s.rxSamples y p ++ x⟩] } }

/-- Stage 3 of one path (R235): the window starts WADV × CP / 256 before the end of the prefix; the transform; the linear phase of the
advance and the phase compensation go; the array RX correction. A short symbol's missing samples are zeros. -/
def State.fftPath (s : State) (y : Sym) (p : Nat) : List BfOut × State :=
  let n := s.points y.car
  let cp := s.prefixLen y
  let adv := s.get (R.BF_CAR_CFG y.car) F.BF_CAR_CFG_WADV * cp / 256
  let x := s.rxSamples y p
  let r := ints (Config.fft n ((List.range n).map (fun i => nth x (cp - adv + i) (0, 0))))
  let nrb := s.get (R.BF_CAR_CFG y.car) F.BF_CAR_CFG_NRB
  let one (t : State) (k : Nat) : (Int × Int) × Nat × State :=
    let b := s.binOf y.car k
    let e := Config.phasor (b * adv % n) n
    let v := t.narrow 16 14 (cmul (e.1.toInt, e.2.toInt) (nth r b (0, 0)))
    if s.phOn y.car then
      let u := v.2.2.narrow 16 14 (cmul (conj (s.phComp y)) v.1)
      (u.1, v.2.1 + u.2.1, u.2.2)
    else v
  (List.range nrb).foldl (fun (a : List BfOut × State) b =>
    let z := (List.range 12).foldl (fun (m : List (Int × Int) × Nat × State) i =>
      let v := one m.2.2 (12 * b + i)
      (m.1 ++ [v.1], m.2.1 + v.2.1, v.2.2)) ([], 0, a.2)
    let c := (z.2.2.bfSat y p z.2.1).correct y p b z.1
    (a.1 ++ [⟨y.slot, y.k, false, p, 0, b, c.1⟩], c.2)) ([], s)

/-- Subcarrier `k` of a path from what stage 3 gave. -/
def toneOf (l : List BfOut) (p k : Nat) : Int × Int :=
  match l.find? (fun o => o.idx = p && o.prb = k / 12) with
  | some o => nth o.x (k % 12) (0, 0)
  | none => (0, 0)

/-- The tone cells of a sounding (R253): the FFT output of each path of its mask, in ascending k. -/
def toneCells (k : Srs) (l : List BfOut) : List Byte :=
  ((List.range (12 * srsNprb k.param)).filter (fun i => (srsOfs k.param).testBit ((12 * srsPrb0 k.param + i) % srsComb k.param))).flatMap (fun i =>
    (List.range 64).flatMap (fun p =>
      let v := if k.pmask.testBit p then toneOf l p (12 * srsPrb0 k.param + i) else (0, 0)
      leBytes 2 (unsigned 16 v.1) ++ leBytes 2 (unsigned 16 v.2)))

/-- The soundings of a symbol tap what stage 3 gave (R235, R252). -/
def State.srsTap (s : State) (y : Sym) (l : List BfOut) : State :=
  { s with bf := { s.bf with srs := s.bf.srs.map (fun (k : Srs) =>
      if k.car = y.car && k.stamp = y.stamp then { k with cells := some (toneCells k l) } else k) } }

/-- Stage 3 (R235): the paths of the symbol on quadrants that were locked (R72). -/
def State.stage3 (s : State) (y : Sym) : State :=
  let r := ((bitsOf y.pmask 64).filter (fun p => !y.lateQ.contains (quadOf p))).foldl (fun (a : List BfOut × State) p =>
    let b := a.2.fftPath y p
    (a.1 ++ b.1, b.2)) ([], s)
  (r.2.setOuts y r.1).srsTap y r.1

/-- Path-mode samples of an uplink symbol as blocks of twelve (R26, R366). -/
def State.pathBlocks (s : State) (y : Sym) : List BfOut :=
  ((bitsOf y.pmask 64).filter (fun p => !y.lateQ.contains (quadOf p))).flatMap (fun p =>
    let x := s.rxSamples y p
    (List.range (x.length / 12)).map (fun i => ⟨y.slot, y.k, false, p, 0, 12 * i, (x.drop (12 * i)).take 12⟩))

/-- Path-mode samples of a downlink symbol, as they came (R26, R366): the carrier's stream of each path. -/
def State.pathSamples (s : State) (y : Sym) : State :=
  (bitsOf (s.carPmask y.car) 64).foldl (fun (t : State) p =>
    let mine := s.fh.store.filter (fun c => c.car = y.car && c.stamp = y.stamp && c.layer = p && s.flPathm c.flow)
    let n := stLen y.stamp * 4 / 2 ^ s.get (R.DFE_CAR_CFG y.car) F.DFE_CAR_CFG_LOGD
    let x := mine.foldl (fun (l : List (Int × Int)) c => (c.x.zipIdx).foldl (fun l z => l.set (c.prb + z.2) z.1) l) (List.replicate n (0, 0))
    t.keepOut 1 (64 * y.car + p) x) s

/-- Uplink sections of a symbol. -/
def State.ulSects (s : State) (y : Sym) : List Sect :=
  s.fh.sects.filter (fun e => e.ul && s.flEn e.flow && s.flCar e.flow = y.car && e.covers y.stamp)

/-- PRBs of a section. -/
def Sect.prbList (e : Sect) : List Nat := e.prbs.flatMap (fun x => (List.range x.2).map (· + x.1))

/-- The region of a vector conjugates for the uplink (R235). -/
def State.conjOf (s : State) (r : Weights) : Bool :=
  match r with
  | .vector v => match s.regionOf v with
    | some g => s.flag (R.BF_REGION_CFG g) F.BF_REGION_CFG_CONJ
    | none => false
  | .identity => false

/-- The combined layer of a section at a PRB (R235), at full precision; a dropped section gives zeros (R240). -/
def State.layerSum (s : State) (y : Sym) (e : Sect) (b : Nat) : List (Int × Int) :=
  match s.sectWeights y.car (s.flLayer e.flow) e b y with
  | none => List.replicate 12 (0, 0)
  | some r =>
    (s.outs y false).foldl (fun acc o =>
      if o.prb = b then
        let w := s.weightOf r (s.carPmask y.car) (s.flLayer e.flow) o.idx
        let w := if s.conjOf r then (w.1, -w.2) else w
        caddL acc (o.x.map (cmul w))
      else acc) (List.replicate 12 (0, 0))

/-- Stage 4: combine into layers (R235), shifted right by 14 + ULSH, rounded and saturated. -/
def State.combine (s : State) (y : Sym) : State :=
  let es := s.ulSects y
  let sh := 14 + s.get (R.BF_CAR_CFG y.car) F.BF_CAR_CFG_ULSH
  let t := (s.dropUnresolved y.car es y).readSlots y.car es y
  let r := es.foldl (fun (a : List BfOut × State) e =>
    e.prbList.foldl (fun (a : List BfOut × State) b =>
      let v := a.2.narrows 16 sh (s.layerSum y e b)
      (a.1 ++ [⟨y.slot, y.k, true, e.flow, e.id, b, v.1⟩], v.2.2)) a) ([], t)
  r.2.setOuts y r.1

/-- Cut a run of PRBs into messages (R371, R372): those below SPLIT on PORT, the rest on PORT2, at most so many per message. -/
def State.cutPrbs (s : State) (f a n : Nat) : List (Nat × Nat × Nat) :=
  let w1 := R.FH_FLOW f 1
  let split := if s.flag w1 F.FH_FLOW_SPLIT_EN then s.get w1 F.FH_FLOW_SPLIT else a + n
  let run (g lo hi : Nat) : List (Nat × Nat × Nat) :=
    let k := s.perMsg g f
    (List.range ((hi - lo + k - 1) / k)).map (fun i => (g, lo + i * k, min k (hi - lo - i * k)))
  run (s.get w1 F.FH_FLOW_PORT) a (min (a + n) (max a split)) ++ run (s.get w1 F.FH_FLOW_PORT2) (max a split) (a + n)

/-- Queue the messages of one run of PRBs of a flow (R365, R371). -/
def State.sendRun (s : State) (y : Sym) (f id a n : Nat) (get : Nat → List (Int × Int)) : State :=
  let meth := s.get (R.FH_FLOW f 1) F.FH_FLOW_METH
  let w := iqWidth (s.get (R.FH_FLOW f 1) F.FH_FLOW_IQW)
  (s.cutPrbs f a n).foldl (fun (t : State) m =>
    let data := (List.range m.2.2).flatMap (fun i => compress meth w (get (m.2.1 + i)))
    t.txQueue ⟨m.1, if t.flHard f then 0 else 1, 18 + data.length, .uplink f id m.2.1 m.2.2 y.slot y.k y.stamp data⟩) s

/-- Consecutive PRBs as runs (first, count). -/
def runsOf : List Nat → List (Nat × Nat)
  | [] => []
  | b :: l => match runsOf l with
    | (c, n) :: r => if c = b + 1 then (b, n + 1) :: r else (b, 1) :: (c, n) :: r
    | [] => [(b, 1)]

/-- The flow and section ID pairs that stage 4 gave layers for. -/
def outKeys (l : List BfOut) : List (Nat × Nat) :=
  l.foldl (fun a o => if a.contains (o.idx, o.sect) then a else a ++ [(o.idx, o.sect)]) []

/-- Stage 5: compress and packetise (R365, R366, R371). Path-mode flows send blocks of 12 samples. -/
def State.packetise (s : State) (y : Sym) : State :=
  let outs := s.outs y true
  let t := (outKeys outs).foldl (fun (t : State) q =>
    let l := outs.filter (fun o => o.idx = q.1 && o.sect = q.2)
    if s.flEn q.1 then
      (runsOf (l.map BfOut.prb)).foldl (fun (t : State) x => t.sendRun y q.1 q.2 x.1 x.2 (fun b =>
        match l.find? (fun o => o.prb = b) with
        | some o => o.x
        | none => List.replicate 12 (0, 0))) t
    else t) s
  let t := if s.carPathMode y.car then
      let blocks := s.pathBlocks y
      (List.range 1024).foldl (fun (t : State) f =>
        if s.flEn f && s.flUl f && s.flPathm f && s.flCar f = y.car then
          blocks.foldl (fun (t : State) o => if o.idx = s.flLayer f then t.sendRun y f 0 o.prb 1 (fun _ => o.x) else t) t
        else t) t
    else t
  (t.setOuts y []).slotPassed (y.slot * 16 + y.k)

/-! ### The DFE's windows -/

/-- One piece of a stage's work. Each belongs to its stage: elsewhere it changes nothing. The chain of a carrier takes a symbol's samples once.
While a path transmits no symbol, its pre-distorter gives zeros (R207). -/
def State.stageWork (s : State) (stage : Nat) (y : Sym) (w : StageWork) : State :=
  match w with
  | .rx p n raw =>
    if stage = 7 && y.pmask.testBit p then
      let a := s.adcPair p n raw
      let b := a.2.rxCorrect p a.1
      let r := b.2.chainRun y p n b.1
      (r.2.2.rxKeep y p r.1).dfeSat y p r.2.1
    else s
  | .tx p =>
    let i := 64 * y.car + p
    if stage = 6 && y.pmask.testBit p then
      let r := s.chainRun y p (s.symSample y.car y.stamp false) (s.outOf 1 i)
      (((r.2.2.keepOut 1 i []).keepOut 0 i r.1)).dfeSat y p r.2.1
    else s
  | .sum p =>
    if stage = 6 && y.pmask.testBit p then
      let r := s.txSum p
      let c := (r.2.2.dfeSat y p r.2.1).cfrRun y p r.1
      let prev := s.outOf 2 p
      let gone (o : Nat × Nat × List (Int × Int)) : Bool := o.1 = 0 && o.2.1 % 64 = p
      let t := c.2.keepOut 2 p (prev.drop (prev.length - 15) ++ c.1)
      { t with dfe := { t.dfe with out := t.dfe.out.filter (fun o => !gone o) } }
    else s
  | .dpd p =>
    let n := (s.outOf 2 p).length - 15
    if stage = 6 && y.pmask.testBit p then
      let r := s.dpdRun p n
      (r.2.2.keepOut 3 p r.1).satCount (R.DFE_DPD_SAT_CNT p) Ev.DFE_DPD_SAT y p r.2.1
    else if stage = 6 then s.keepOut 3 p (List.replicate n (0, 0)) else s
  | .dac p => if stage = 6 then s.dacRun p (s.outOf 3 p) else s

/-- A symbol that is blanked gives exact zeros on its paths (R76). -/
def State.blankOut (s : State) (y : Sym) : State :=
  (bitsOf y.pmask 64).foldl (fun (t : State) p => (t.keepOut 1 (64 * y.car + p) []).keepOut 0 (64 * y.car + p) []) (s.setOuts y [])

/-- Stages of the downlink are 0 to 2 and 6 (the DFE's window), those of the uplink 7 (the DFE's), 3, 4 and 5. -/
def stageUl (stage : Nat) : Bool := stage = 7 || (decide (3 ≤ stage) && decide (stage ≤ 5))

/-- A stage of the beamformer or of FH has worked on a symbol already. An uplink symbol that has ended waits at stage 4 for its transform. -/
def State.stageDone (s : State) (y : Sym) (stage : Nat) : Bool :=
  decide (stage ≤ 5) && (if stage = 3 then decide (4 < y.stage) || (s.outs y false).any (fun o => o.sect = 0) else decide (stage < y.stage))

/-- Vectors that stage 1 or 4 reads for a symbol (R236): one for each combination of layer, section and PRB group. -/
def State.vecReads (s : State) (y : Sym) : Nat :=
  if s.carPathMode y.car then 0
  else ((if y.ul then s.ulSects y else s.dlSects y).map (fun e =>
    ((e.prbList.filterMap (fun b => match s.sectWeights y.car (s.flLayer e.flow) e b y with
      | some (.vector v) => some v
      | _ => none)).eraseDups).length)).sum

/-- The sections of a symbol and of the other carriers' symbols in the same stage now need more vectors than the window gives (R236). -/
def State.readsOver (s : State) (y : Sym) (stage : Nat) : Bool :=
  let here (z : Sym) : Bool := z.ul == y.ul && !z.blank && !z.absent && decide ((s.stageWin z stage).1 ≤ 0) && decide (0 < (s.stageWin z stage).2)
  decide (70144 < ((s.tl.syms.filter here).map (fun (z : Sym) => s.vecReads z * 2 ^ stNum z.stamp)).sum)

/-- A stage starts its window for a symbol (R75). A symbol blanked or absent has no work (R76); an earlier uplink symbol of the
carrier that has passed stage 5 leaves the pipeline. -/
def execPipelineStageStart (stage : Fin 8) (slot : Fin 4096) (k : Fin 14) (work : List StageWork) (s : State) :
    Host.Outcome State Fault Refusal :=
  match s.symOf slot k with
  | none => .next s
  | some y =>
    let win := s.stageWin y stage
    if y.ul != stageUl stage || s.stageDone y stage || !s.ticks (stNum y.stamp) || !(decide (win.1 ≤ 0) && decide (0 < win.2)) then .next s
    else
      let t := if decide (stage.val ≤ 5) then s.setSym { y with stage := max y.stage (stage + 1) } else s
      let t := if stage.val = 2 then t.slotPassed (y.slot * 16 + y.k) else t
      let t := if stage.val = 2 || stage.val = 5 then t.sectPurge else t
      if y.blank || y.absent then .next (t.blankOut y)
      else if (stage.val = 1 || stage.val = 4) && s.readsOver y stage then
        .next { t with bf := { t.bf with late := t.bf.late ++ [(y.slot, y.k, stage.val)] } }
      else
        let pm := t.carPathMode y.car
        let t := if stage.val = 1 && !pm then t.multiply y
          else if stage.val = 2 then (if pm then t.pathSamples y else t.stage2 y)
          else if stage.val = 3 && !pm then t.stage3 y
          else if stage.val = 4 && !pm then t.combine y
          else if stage.val = 5 then t.packetise y
          else t
        let t := work.foldl (fun (t : State) w => t.stageWork stage y w) t
        if stage.val = 5 then
          .next { t with tl := { t.tl with syms := t.tl.syms.filter (fun (z : Sym) =>
            !(z.ul && !z.active && z.car = y.car && decide (6 ≤ z.stage) && !(z.slot = y.slot && z.k = y.k))) } }
        else .next t

end Sys2Proof.Machine
end

