-- ==== Sys2Proof/Machine/Dispatch.lean ====
section
/-! DEFINITION. The dispatch: one arm per command, each a direct call of its meaning. -/

namespace Sys2Proof.Machine

/-- What a command does to everything but the queue. -/
def exec (i : Instr) (s : State) : Host.Outcome State Fault Refusal :=
  match i with
  | .suppliesInRange => Sys2Proof.Machine.execSuppliesInRange s
  | .supplyLoss rail => Sys2Proof.Machine.execSupplyLoss rail s
  | .porstNAssert => Sys2Proof.Machine.execPorstNAssert s
  | .porstNRelease => Sys2Proof.Machine.execPorstNRelease s
  | .warmResetHoldEnd => Sys2Proof.Machine.execWarmResetHoldEnd s
  | .bistComplete fail vout oscout oscRef => Sys2Proof.Machine.execBistComplete fail vout oscout oscRef s
  | .bootRomDone active other host => Sys2Proof.Machine.execBootRomDone active other host s
  | .referencePllLock => Sys2Proof.Machine.execReferencePllLock s
  | .dramTrainingDone trained step0 step1 step2 size unfit => Sys2Proof.Machine.execDramTrainingDone trained step0 step1 step2 size unfit s
  | .mainImageVerified ok => Sys2Proof.Machine.execMainImageVerified ok s
  | .hiBootGo att ofs len => Sys2Proof.Machine.execHiBootGo att ofs len s
  | .firmwareWatchdogExpiry => Sys2Proof.Machine.execFirmwareWatchdogExpiry s
  | .fatalFirmwareFault => Sys2Proof.Machine.execFatalFirmwareFault s
  | .modeTransitionComplete => Sys2Proof.Machine.execModeTransitionComplete s
  | .radioRampDownDone => Sys2Proof.Machine.execRadioRampDownDone s
  | .thermalShutdown sensor x => Sys2Proof.Machine.execThermalShutdown sensor x s
  | .thermalHoldEntry => Sys2Proof.Machine.execThermalHoldEntry s
  | .pmHoldClear v => Sys2Proof.Machine.execPmHoldClear v s
  | .pmWake v => Sys2Proof.Machine.execPmWake v s
  | .frostTimerExpiry => Sys2Proof.Machine.execFrostTimerExpiry s
  | .frostBlockAnswer => Sys2Proof.Machine.execFrostBlockAnswer s
  | .frostAnswerTimeout => Sys2Proof.Machine.execFrostAnswerTimeout s
  | .frostEntryDone => Sys2Proof.Machine.execFrostEntryDone s
  | .domainReady lost => Sys2Proof.Machine.execDomainReady lost s
  | .domainReadyTimeout => Sys2Proof.Machine.execDomainReadyTimeout s
  | .thawComplete => Sys2Proof.Machine.execThawComplete s
  | .gustStepGrant => Sys2Proof.Machine.execGustStepGrant s
  | .perstAssert which => Sys2Proof.Machine.execPerstAssert which s
  | .perstRelease which => Sys2Proof.Machine.execPerstRelease which s
  | .pcieLinkUp f => Sys2Proof.Machine.execPcieLinkUp f s
  | .pcieLinkDown f => Sys2Proof.Machine.execPcieLinkDown f s
  | .ctxHoldExpiry c => Sys2Proof.Machine.execCtxHoldExpiry c s
  | .inbandSilenceTimeout c => Sys2Proof.Machine.execInbandSilenceTimeout c s
  | .tapReset => Sys2Proof.Machine.execTapReset s
  | .pmbusRetry ok => Sys2Proof.Machine.execPmbusRetry ok s
  | .registerWrite via addr v => Sys2Proof.Machine.execRegisterWrite via addr v s
  | .counterClear via addr v => Sys2Proof.Machine.execCounterClear via addr v s
  | .reg64LowRead via addr => Sys2Proof.Machine.execReg64LowRead via addr s
  | .forecastCommit entry => Sys2Proof.Machine.execForecastCommit entry s
  | .stagedEntryCommit => Sys2Proof.Machine.execStagedEntryCommit s
  | .dlSym slot => Sys2Proof.Machine.execDlSym slot s
  | .ulSym slot => Sys2Proof.Machine.execUlSym slot s
  | .guard slot => Sys2Proof.Machine.execGuard slot s
  | .chan slot => Sys2Proof.Machine.execChan slot s
  | .auxTune slot => Sys2Proof.Machine.execAuxTune slot s
  | .gain slot => Sys2Proof.Machine.execGain slot s
  | .dpdSwap slot => Sys2Proof.Machine.execDpdSwap slot s
  | .cfirSwap slot => Sys2Proof.Machine.execCfirSwap slot s
  | .wpage slot => Sys2Proof.Machine.execWpage slot s
  | .srsCap slot => Sys2Proof.Machine.execSrsCap slot s
  | .obsCap slot => Sys2Proof.Machine.execObsCap slot s
  | .calBorrow slot => Sys2Proof.Machine.execCalBorrow slot s
  | .arm slot => Sys2Proof.Machine.execArm slot s
  | .disarm slot => Sys2Proof.Machine.execDisarm slot s
  | .dfeSync slot => Sys2Proof.Machine.execDfeSync slot s
  | .mark slot => Sys2Proof.Machine.execMark slot s
  | .entryRetire slot => Sys2Proof.Machine.execEntryRetire slot s
  | .tlSfnLoad sfn => Sys2Proof.Machine.execTlSfnLoad sfn s
  | .tlCtrlAlign => Sys2Proof.Machine.execTlCtrlAlign s
  | .frameAlignEdge => Sys2Proof.Machine.execFrameAlignEdge s
  | .frameBoundary cfr => Sys2Proof.Machine.execFrameBoundary cfr s
  | .pipelineStageStart stage slot k work => Sys2Proof.Machine.execPipelineStageStart stage slot k work s
  | .stageDeadline stage slot k => Sys2Proof.Machine.execStageDeadline stage slot k s
  | .lockCheck slot k => Sys2Proof.Machine.execLockCheck slot k s
  | .symbolStart slot k => Sys2Proof.Machine.execSymbolStart slot k s
  | .symbolEnd slot k => Sys2Proof.Machine.execSymbolEnd slot k s
  | .disarmGapExpiry path tx => Sys2Proof.Machine.execDisarmGapExpiry path tx s
  | .pathArmStep => Sys2Proof.Machine.execPathArmStep s
  | .pathDisarmStep => Sys2Proof.Machine.execPathDisarmStep s
  | .borrowIntervalExpiry kind => Sys2Proof.Machine.execBorrowIntervalExpiry kind s
  | .synCalDone syn us lock => Sys2Proof.Machine.execSynCalDone syn us lock s
  | .synCalTimeout syn => Sys2Proof.Machine.execSynCalTimeout syn s
  | .synLockLoss syn => Sys2Proof.Machine.execSynLockLoss syn s
  | .tddPinRise tile tx => Sys2Proof.Machine.execTddPinRise tile tx s
  | .tddPinFall tile tx => Sys2Proof.Machine.execTddPinFall tile tx s
  | .pabiasRampStart path => Sys2Proof.Machine.execPabiasRampStart path s
  | .pabiasChargeTrip path => Sys2Proof.Machine.execPabiasChargeTrip path s
  | .guardPeakClip path ipk qpk => Sys2Proof.Machine.execGuardPeakClip path ipk qpk s
  | .guardRmsMute path energy => Sys2Proof.Machine.execGuardRmsMute path energy s
  | .guardMuteEnd path => Sys2Proof.Machine.execGuardMuteEnd path s
  | .guardDutyLimit path => Sys2Proof.Machine.execGuardDutyLimit path s
  | .rffeListStart q trig => Sys2Proof.Machine.execRffeListStart q trig s
  | .rffeListEnd q => Sys2Proof.Machine.execRffeListEnd q s
  | .foregroundCalDone cals => Sys2Proof.Machine.execForegroundCalDone cals s
  | .dacTrimDone worst => Sys2Proof.Machine.execDacTrimDone worst s
  | .rotSettleEnd pair => Sys2Proof.Machine.execRotSettleEnd pair s
  | .rotOfflineEnd pair ci cq => Sys2Proof.Machine.execRotOfflineEnd pair ci cq s
  | .rotShadowStart pair => Sys2Proof.Machine.execRotShadowStart pair s
  | .rotShadowEnd pair usable ci di ri cq dq rq => Sys2Proof.Machine.execRotShadowEnd pair usable ci di ri cq dq rq s
  | .sliceHandover pair gi oi gq oq => Sys2Proof.Machine.execSliceHandover pair gi oi gq oq s
  | .rxqStatsDone path imb dc => Sys2Proof.Machine.execRxqStatsDone path imb dc s
  | .rxqCorrectionApply path => Sys2Proof.Machine.execRxqCorrectionApply path s
  | .txqCalStepDone path dci dcq eps phi leak img => Sys2Proof.Machine.execTxqCalStepDone path dci dcq eps phi leak img s
  | .txqValuesApply path => Sys2Proof.Machine.execTxqValuesApply path s
  | .orxCalStepDone tile dc imb dev vals => Sys2Proof.Machine.execOrxCalStepDone tile dc imb dev vals s
  | .acalStepDone pos pairs => Sys2Proof.Machine.execAcalStepDone pos pairs s
  | .acalSolveDone rows drop db deg words lost => Sys2Proof.Machine.execAcalSolveDone rows drop db deg words lost s
  | .acalResultWrite => Sys2Proof.Machine.execAcalResultWrite s
  | .dpdLoaderStart path at_ job => Sys2Proof.Machine.execDpdLoaderStart path at_ job s
  | .dpdLoaderDone => Sys2Proof.Machine.execDpdLoaderDone s
  | .obsCaptureEnd tile samples => Sys2Proof.Machine.execObsCaptureEnd tile samples s
  | .captureDrainEnd tile => Sys2Proof.Machine.execCaptureDrainEnd tile s
  | .dpdTrainJobEnd job result at_ bank nmse aclr gain => Sys2Proof.Machine.execDpdTrainJobEnd job result at_ bank nmse aclr gain s
  | .bfRegionPub region => Sys2Proof.Machine.execBfRegionPub region s
  | .drainingPageFree region => Sys2Proof.Machine.execDrainingPageFree region s
  | .weightWrite ctx addr data => Sys2Proof.Machine.execWeightWrite ctx addr data s
  | .srsCaptureDone slot tones => Sys2Proof.Machine.execSrsCaptureDone slot tones s
  | .recipJobEnd job bad vecs => Sys2Proof.Machine.execRecipJobEnd job bad vecs s
  | .regionScrubStart region => Sys2Proof.Machine.execRegionScrubStart region s
  | .regionScrubDone region => Sys2Proof.Machine.execRegionScrubDone region s
  | .shrinkScrubDone region => Sys2Proof.Machine.execShrinkScrubDone region s
  | .bundleIssue core o0 o1 o2 o3 fe be => Sys2Proof.Machine.execBundleIssue core o0 o1 o2 o3 fe be s
  | .barrierRelease b => Sys2Proof.Machine.execBarrierRelease b s
  | .mailboxWaitRelease core => Sys2Proof.Machine.execMailboxWaitRelease core s
  | .streamDescriptorDone core slot => Sys2Proof.Machine.execStreamDescriptorDone core slot s
  | .controlStepDone job => Sys2Proof.Machine.execControlStepDone job s
  | .jobRegister => Sys2Proof.Machine.execJobRegister s
  | .jobDispatch grp => Sys2Proof.Machine.execJobDispatch grp s
  | .nvcWatchdogExpiry core => Sys2Proof.Machine.execNvcWatchdogExpiry core s
  | .corePause grp => Sys2Proof.Machine.execCorePause grp s
  | .coreResume core => Sys2Proof.Machine.execCoreResume core s
  | .coreRevokeScrubDone core => Sys2Proof.Machine.execCoreRevokeScrubDone core s
  | .nvcCntWrap core which n => Sys2Proof.Machine.execNvcCntWrap core which n s
  | .losDeclared n => Sys2Proof.Machine.execLosDeclared n s
  | .signalPresent n => Sys2Proof.Machine.execSignalPresent n s
  | .cdrLock n peak eye => Sys2Proof.Machine.execCdrLock n peak eye s
  | .cdrLockLoss n => Sys2Proof.Machine.execCdrLockLoss n s
  | .blockLockGained n => Sys2Proof.Machine.execBlockLockGained n s
  | .blockLockLost n bad => Sys2Proof.Machine.execBlockLockLost n bad s
  | .huntWindowExpiry n => Sys2Proof.Machine.execHuntWindowExpiry n s
  | .huntStart n => Sys2Proof.Machine.execHuntStart n s
  | .alignmentMarkerLock n => Sys2Proof.Machine.execAlignmentMarkerLock n s
  | .galeSyncBlock n line => Sys2Proof.Machine.execGaleSyncBlock n line s
  | .galeAlignBlock n line skew => Sys2Proof.Machine.execGaleAlignBlock n line skew s
  | .galeSomBlock n line => Sys2Proof.Machine.execGaleSomBlock n line s
  | .galeDataBlock n line => Sys2Proof.Machine.execGaleDataBlock n line s
  | .galeIdleBlock n line => Sys2Proof.Machine.execGaleIdleBlock n line s
  | .galeAbortBlock n line => Sys2Proof.Machine.execGaleAbortBlock n line s
  | .galeSyncSend n => Sys2Proof.Machine.execGaleSyncSend n s
  | .galeAlignSend n => Sys2Proof.Machine.execGaleAlignSend n s
  | .fecCodeword g errs => Sys2Proof.Machine.execFecCodeword g errs s
  | .highBer g => Sys2Proof.Machine.execHighBer g s
  | .lanePllUnlock g => Sys2Proof.Machine.execLanePllUnlock g s
  | .ctleLimitTimeout n high => Sys2Proof.Machine.execCtleLimitTimeout n high s
  | .lanePowerExitDone n => Sys2Proof.Machine.execLanePowerExitDone n s
  | .groupChangeApply g => Sys2Proof.Machine.execGroupChangeApply g s
  | .patternSync n => Sys2Proof.Machine.execPatternSync n s
  | .patternSyncLoss n bits errs => Sys2Proof.Machine.execPatternSyncLoss n bits errs s
  | .lnCntWrap n errs => Sys2Proof.Machine.execLnCntWrap n errs s
  | .lnPatStatClr n => Sys2Proof.Machine.execLnPatStatClr n s
  | .ethernetFrame g f => Sys2Proof.Machine.execEthernetFrame g f s
  | .uPlaneMessage g m => Sys2Proof.Machine.execUPlaneMessage g m s
  | .cPlaneMessage g m => Sys2Proof.Machine.execCPlaneMessage g m s
  | .delayRequest g id t2 => Sys2Proof.Machine.execDelayRequest g id t2 s
  | .remoteDelayRequest g id => Sys2Proof.Machine.execRemoteDelayRequest g id s
  | .delayResponse g id t2 comp => Sys2Proof.Machine.execDelayResponse g id t2 comp s
  | .ptpMessage g num k => Sys2Proof.Machine.execPtpMessage g num k s
  | .esmcFrame g ql => Sys2Proof.Machine.execEsmcFrame g ql s
  | .arpOrNdFrame g len => Sys2Proof.Machine.execArpOrNdFrame g len s
  | .otherIpFrame g => Sys2Proof.Machine.execOtherIpFrame g s
  | .hardLaunch g slot k n => Sys2Proof.Machine.execHardLaunch g slot k n s
  | .egressFrameStart g => Sys2Proof.Machine.execEgressFrameStart g s
  | .firmLaunchExpiry g slot k => Sys2Proof.Machine.execFirmLaunchExpiry g slot k s
  | .hardLaunchExpiry g slot k => Sys2Proof.Machine.execHardLaunchExpiry g slot k s
  | .fhCntWrap g tx => Sys2Proof.Machine.execFhCntWrap g tx s
  | .tsCtrlStep => Sys2Proof.Machine.execTsCtrlStep s
  | .tsCtrlSel d => Sys2Proof.Machine.execTsCtrlSel d s
  | .tsDomOfsWrite d e => Sys2Proof.Machine.execTsDomOfsWrite d e s
  | .servoUpdate d => Sys2Proof.Machine.execServoUpdate d s
  | .incRecompute => Sys2Proof.Machine.execIncRecompute s
  | .holdoverTimeout d => Sys2Proof.Machine.execHoldoverTimeout d s
  | .secondEdge => Sys2Proof.Machine.execSecondEdge s
  | .ppsOutRise => Sys2Proof.Machine.execPpsOutRise s
  | .ppsOutFall => Sys2Proof.Machine.execPpsOutFall s
  | .ppsInEdge ts => Sys2Proof.Machine.execPpsInEdge ts s
  | .ppsInTimeout => Sys2Proof.Machine.execPpsInTimeout s
  | .synceGateEnd meas => Sys2Proof.Machine.execSynceGateEnd meas s
  | .refclkLoss => Sys2Proof.Machine.execRefclkLoss s
  | .refclkReturn => Sys2Proof.Machine.execRefclkReturn s
  | .esmcSend => Sys2Proof.Machine.execEsmcSend s
  | .ringProdWrite att ring v => Sys2Proof.Machine.execRingProdWrite att ring v s
  | .ringConsWrite att ring v => Sys2Proof.Machine.execRingConsWrite att ring v s
  | .ringDataWrite att ring v => Sys2Proof.Machine.execRingDataWrite att ring v s
  | .ringDataRead att ring => Sys2Proof.Machine.execRingDataRead att ring s
  | .ringEnable att ring v => Sys2Proof.Machine.execRingEnable att ring v s
  | .commandConsume c => Sys2Proof.Machine.execCommandConsume c s
  | .eventRecordWrite => Sys2Proof.Machine.execEventRecordWrite s
  | .msixItimeExpiry ring => Sys2Proof.Machine.execMsixItimeExpiry ring s
  | .debugWindowRead att c ofs => Sys2Proof.Machine.execDebugWindowRead att c ofs s
  | .debugWindowWrite att c ofs v => Sys2Proof.Machine.execDebugWindowWrite att c ofs v s
  | .spiTransaction b => Sys2Proof.Machine.execSpiTransaction b s
  | .inbandFrame g src vlan b => Sys2Proof.Machine.execInbandFrame g src vlan b s
  | .alertSumClear att idx v => Sys2Proof.Machine.execAlertSumClear att idx v s
  | .booksAudit => Sys2Proof.Machine.execBooksAudit s
  | .uartRxCharacter c => Sys2Proof.Machine.execUartRxCharacter c s
  | .uartRxdRead => Sys2Proof.Machine.execUartRxdRead s
  | .i2cTransferDone nak data => Sys2Proof.Machine.execI2cTransferDone nak data s
  | .i2cRxdRead => Sys2Proof.Machine.execI2cRxdRead s
  | .gpioTriggerEdge k => Sys2Proof.Machine.execGpioTriggerEdge k s
  | .sysInfo c => Sys2Proof.Machine.execSysInfo c s
  | .sysSetMode c => Sys2Proof.Machine.execSysSetMode c s
  | .sysReset c => Sys2Proof.Machine.execSysReset c s
  | .sysEcho c => Sys2Proof.Machine.execSysEcho c s
  | .sysSerial c => Sys2Proof.Machine.execSysSerial c s
  | .sysGpio c => Sys2Proof.Machine.execSysGpio c s
  | .sysI2c c => Sys2Proof.Machine.execSysI2c c s
  | .leaseGrant c => Sys2Proof.Machine.execLeaseGrant c s
  | .leaseRevoke c => Sys2Proof.Machine.execLeaseRevoke c s
  | .leaseRelease c => Sys2Proof.Machine.execLeaseRelease c s
  | .leaseQuery c => Sys2Proof.Machine.execLeaseQuery c s
  | .leaseTakeMode c => Sys2Proof.Machine.execLeaseTakeMode c s
  | .carConfig c => Sys2Proof.Machine.execCarConfig c s
  | .carChain c => Sys2Proof.Machine.execCarChain c s
  | .carCfir c => Sys2Proof.Machine.execCarCfir c s
  | .carStart c => Sys2Proof.Machine.execCarStart c s
  | .carStop c => Sys2Proof.Machine.execCarStop c s
  | .flowSet c => Sys2Proof.Machine.execFlowSet c s
  | .flowRead c => Sys2Proof.Machine.execFlowRead c s
  | .portSet c => Sys2Proof.Machine.execPortSet c s
  | .fcEntry c => Sys2Proof.Machine.execFcEntry c s
  | .fcBatch c => Sys2Proof.Machine.execFcBatch c s
  | .fcCancel c => Sys2Proof.Machine.execFcCancel c s
  | .fcStatus c => Sys2Proof.Machine.execFcStatus c s
  | .beamRegionSet c => Sys2Proof.Machine.execBeamRegionSet c s
  | .beamLoad c => Sys2Proof.Machine.execBeamLoad c s
  | .beamRead c => Sys2Proof.Machine.execBeamRead c s
  | .beamRecipSet c => Sys2Proof.Machine.execBeamRecipSet c s
  | .calInterval c => Sys2Proof.Machine.execCalInterval c s
  | .calRotSet c => Sys2Proof.Machine.execCalRotSet c s
  | .calSweep c => Sys2Proof.Machine.execCalSweep c s
  | .acalRefRecord c => Sys2Proof.Machine.execAcalRefRecord c s
  | .acalRefLock c => Sys2Proof.Machine.execAcalRefLock c s
  | .calStatus c => Sys2Proof.Machine.execCalStatus c s
  | .dpdConfig c => Sys2Proof.Machine.execDpdConfig c s
  | .dpdNbr c => Sys2Proof.Machine.execDpdNbr c s
  | .dpdTrain c => Sys2Proof.Machine.execDpdTrain c s
  | .dpdCoef c => Sys2Proof.Machine.execDpdCoef c s
  | .dpdResume c => Sys2Proof.Machine.execDpdResume c s
  | .cfrConfig c => Sys2Proof.Machine.execCfrConfig c s
  | .capGet c => Sys2Proof.Machine.execCapGet c s
  | .capFree c => Sys2Proof.Machine.execCapFree c s
  | .fePabias c => Sys2Proof.Machine.execFePabias c s
  | .feTdd c => Sys2Proof.Machine.execFeTdd c s
  | .feFaultClear c => Sys2Proof.Machine.execFeFaultClear c s
  | .rffeAccess c fits parity data => Sys2Proof.Machine.execRffeAccess c fits parity data s
  | .rffeList c overlap => Sys2Proof.Machine.execRffeList c overlap s
  | .laneGroupSet c => Sys2Proof.Machine.execLaneGroupSet c s
  | .laneEq c => Sys2Proof.Machine.execLaneEq c s
  | .lanePower c => Sys2Proof.Machine.execLanePower c s
  | .laneTest c seen => Sys2Proof.Machine.execLaneTest c seen s
  | .laneStatus c bits errs => Sys2Proof.Machine.execLaneStatus c bits errs s
  | .timeDomainSet c => Sys2Proof.Machine.execTimeDomainSet c s
  | .timeSelect c => Sys2Proof.Machine.execTimeSelect c s
  | .timePps c => Sys2Proof.Machine.execTimePps c s
  | .timeFrame c => Sys2Proof.Machine.execTimeFrame c s
  | .timeSynce c => Sys2Proof.Machine.execTimeSynce c s
  | .timeGet c => Sys2Proof.Machine.execTimeGet c s
  | .timeDelay c => Sys2Proof.Machine.execTimeDelay c s
  | .timePtpStats c => Sys2Proof.Machine.execTimePtpStats c s
  | .pwrFrost c => Sys2Proof.Machine.execPwrFrost c s
  | .pwrGust c => Sys2Proof.Machine.execPwrGust c s
  | .pwrStatus c => Sys2Proof.Machine.execPwrStatus c s
  | .monHkSeq c => Sys2Proof.Machine.execMonHkSeq c s
  | .monHkCal c => Sys2Proof.Machine.execMonHkCal c s
  | .monHkRead c => Sys2Proof.Machine.execMonHkRead c s
  | .monTemp c => Sys2Proof.Machine.execMonTemp c s
  | .monWear c => Sys2Proof.Machine.execMonWear c s
  | .monHarvest c => Sys2Proof.Machine.execMonHarvest c s
  | .monJournalRead c => Sys2Proof.Machine.execMonJournalRead c s
  | .regSet c => Sys2Proof.Machine.execRegSet c s
  | .regLock c => Sys2Proof.Machine.execRegLock c s
  | .regStatus c => Sys2Proof.Machine.execRegStatus c s
  | .fwUpdateBegin c => Sys2Proof.Machine.execFwUpdateBegin c s
  | .fwUpdateWrite c good => Sys2Proof.Machine.execFwUpdateWrite c good s
  | .fwUpdateCommit c good => Sys2Proof.Machine.execFwUpdateCommit c good s
  | .fwUpdateAbort c => Sys2Proof.Machine.execFwUpdateAbort c s
  | .cfgRecord c => Sys2Proof.Machine.execCfgRecord c s
  | .kernelLoad c => Sys2Proof.Machine.execKernelLoad c s
  | .kernelStart c => Sys2Proof.Machine.execKernelStart c s
  | .kernelStop c => Sys2Proof.Machine.execKernelStop c s
  | .kernelMbx c => Sys2Proof.Machine.execKernelMbx c s
  | .kernelStatus c => Sys2Proof.Machine.execKernelStatus c s
  | .refreshDue ch rt => Sys2Proof.Machine.execRefreshDue ch rt s
  | .refreshIssue ch => Sys2Proof.Machine.execRefreshIssue ch s
  | .rtBurstGrant tile ns => Sys2Proof.Machine.execRtBurstGrant tile ns s
  | .portPieceGrant ch reqs ecc => Sys2Proof.Machine.execPortPieceGrant ch reqs ecc s
  | .dqsGatherStart ch => Sys2Proof.Machine.execDqsGatherStart ch s
  | .dqsGatherEnd ch ok ps => Sys2Proof.Machine.execDqsGatherEnd ch ok ps s
  | .setpointChange sp => Sys2Proof.Machine.execSetpointChange sp s
  | .setpointChangeDone => Sys2Proof.Machine.execSetpointChangeDone s
  | .mcCntWrap port wr n => Sys2Proof.Machine.execMcCntWrap port wr n s
  | .dmaChDoorbell ch sameCycle => Sys2Proof.Machine.execDmaChDoorbell ch sameCycle s
  | .dmaChannelEnable ch => Sys2Proof.Machine.execDmaChannelEnable ch s
  | .dmaChannelDisable ch => Sys2Proof.Machine.execDmaChannelDisable ch s
  | .dmaChannelReset ch => Sys2Proof.Machine.execDmaChannelReset ch s
  | .dmaBurstReadStart => Sys2Proof.Machine.execDmaBurstReadStart s
  | .dmaBurstFilled slot hostErr => Sys2Proof.Machine.execDmaBurstFilled slot hostErr s
  | .dmaBurstWrite hostErr => Sys2Proof.Machine.execDmaBurstWrite hostErr s
  | .dmaDescriptorComplete ch => Sys2Proof.Machine.execDmaDescriptorComplete ch s
  | .dmaRequestAssert line => Sys2Proof.Machine.execDmaRequestAssert line s
  | .dmaCntWrap ch n => Sys2Proof.Machine.execDmaCntWrap ch n s
  | .hkTimerExpiry squall => Sys2Proof.Machine.execHkTimerExpiry squall s
  | .hkStartupDone => Sys2Proof.Machine.execHkStartupDone s
  | .hkConversionDone raw => Sys2Proof.Machine.execHkConversionDone raw s
  | .hkFifoRdPop squall => Sys2Proof.Machine.execHkFifoRdPop squall s
  | .tempSample sensor t => Sys2Proof.Machine.execTempSample sensor t s
  | .tempEvaluate => Sys2Proof.Machine.execTempEvaluate s
  | .throttleStep => Sys2Proof.Machine.execThrottleStep s
  | .wearReport sensor slack age => Sys2Proof.Machine.execWearReport sensor slack age s
  | .marginPlannerRun ok => Sys2Proof.Machine.execMarginPlannerRun ok s
  | .harvestSnapshot => Sys2Proof.Machine.execHarvestSnapshot s
  | .journalWriteStart rec aon => Sys2Proof.Machine.execJournalWriteStart rec aon s
  | .journalRecordDone ok => Sys2Proof.Machine.execJournalRecordDone ok s
  | .lanePllLock g => Sys2Proof.Machine.execLanePllLock g s
  | .blockScrubDone dram block => Sys2Proof.Machine.execBlockScrubDone dram block s
  | .gustCapApply => Sys2Proof.Machine.execGustCapApply s
  | .refreshRateChange ch double => Sys2Proof.Machine.execRefreshRateChange ch double s
  | .pabiasRampEnd path => Sys2Proof.Machine.execPabiasRampEnd path s

end Sys2Proof.Machine
end

