-- ==== Sys2Proof/Safety.lean ====
section
/-! DEFINITION. The words in which statements about the block are made: the canonical form of its tables, what a command answers, and
what it leaves alone. -/

namespace Sys2Proof.Machine

/-- The memory is in canonical form: addresses strictly rising, no entry equal to what an unlisted byte reads as. -/
def Memory.wf (m : List Host.Cell) : Bool := sparseWf unlisted m

/-- The register file is in canonical form: addresses strictly rising, no entry equal to its register's reset value. -/
def Regs.wf (m : List (Nat × Word)) : Bool := sparseWf resetVal m

/-- Both tables of a state are in canonical form. -/
def State.Canon (s : State) : Prop := Regs.wf s.regs = true ∧ Memory.wf s.mem = true

/-- The lists of the state that stand for a fixed number of units have their lengths. -/
def State.Sized (s : State) : Prop :=
  s.ln.lanes.length = 16 ∧ s.ln.grps.length = 4 ∧ s.ts.doms.length = 2 ∧ s.nvc.cores.length = 16 ∧ s.dma.descs.length = 16 ∧
    s.mc.window.length = 2 ∧ s.pins.orxSel.length = 8 ∧ s.th.hist.length = 48 ∧ s.rf.bias.length = 64

/-- Every lead time has the value of R66. -/
def State.LeadsStand (s : State) : Prop := ∀ n, n < 4 → (s.rd (R.TL_LEAD n)).toNat = if n = 0 then 196608 else 122880

/-- Running command `i` in state `s` answers a next state, of which `Q` holds. -/
def Gives (i : Instr) (s : State) (Q : State → Prop) : Prop := ∃ t, exec i s = .next t ∧ Q t

/-- The events on their way to the aggregator, by number and payload items, oldest first. -/
def State.told (s : State) : List (Nat × List Nat) := s.raised.map (fun e => (e.num, e.items))

/-- The entry of slot `i` can be issued with its own effect (R69, R70, R91): the ticks of its numerology run, it is pending with action
`act`, fewer than four entries were issued in this cycle, its turn has come, its leases are held and the job it names, if any, is done. -/
abbrev Issues (s : State) (i act : Nat) : Prop :=
  s.mayIssue i act = true ∧ s.leaseOk i = true ∧ (s.eJob i = 0 ∨ s.jobDone (s.eJob i) = true)

/-- The entry of slot `i` has gone from the pending entries to the issued ones, with STAT `st`. -/
abbrev Issued (s t : State) (i st : Nat) : Prop :=
  t.tl.pend = s.tl.pend.filter (· != i) ∧ t.tl.issued = s.tl.issued ++ [i] ∧ t.eStat i = st

/-- The state with an entry's words written to the slot at TL_TAIL, and TL_TAIL moved past it (R65). -/
def State.withEntry (s : State) (entry : BitVec 256) : State :=
  (s.putSlot s.tlTail (cleanEntry (imageWords entry))).put R.TL_TAIL F.TL_TAIL_IDX (s.tlTail + 1)

/-- The forecast row of an action code (R64). -/
def forecastRow (act : Nat) (slot : Fin 4096) : Instr :=
  match act with
  | 1 => .dlSym slot | 2 => .ulSym slot | 3 => .guard slot | 4 => .chan slot | 5 => .auxTune slot | 6 => .gain slot
  | 7 => .dpdSwap slot | 8 => .cfirSwap slot | 9 => .wpage slot | 10 => .srsCap slot | 11 => .obsCap slot
  | 12 => .calBorrow slot | 13 => .arm slot | 14 => .disarm slot | 15 => .dfeSync slot | _ => .mark slot

/-- A 32-bit error counter has counted one more (R90). -/
abbrev Counted (s t : State) (a : Nat) : Prop := (t.rd a).toNat = min ((s.rd a).toNat + 1) (2 ^ 32 - 1)

/-- Word `i` of the bundle at the PC of a core (R275). -/
def State.word (s : State) (c i : Nat) : Word :=
  BitVec.ofNat 32 (s.memN (nvPm c + 16 * s.get (R.NVC_CORE_STAT c) F.NVC_CORE_STAT_PC + 4 * i) 4)

/-- A core issues the bundle at its PC, which fits the operations given and raises no fault (R275, R302). -/
abbrev BundleRuns (s : State) (c : Nat) (o0 : Op0) (o1 o2 : OpM) (o3 : Op3) : Prop :=
  s.coreSt c = Co.running ∧ (s.core c).wait = .none ∧ op0Fits (s.word c 0) o0 = true ∧ op3Fits (s.word c 3) o3 = true ∧
    bundleFault (s.word c 0) (s.word c 1) (s.word c 2) (s.word c 3) o0 o1 o2 o3 (s.core c)
      (s.get (R.NVC_CORE_STAT c) F.NVC_CORE_STAT_PC) = none

/-- A command runs now: nothing makes it wait (R440, R465, R466), and the Update rule of R465 does not refuse it. -/
abbrev Ready (s : State) (c : Cmd) (needsMode : Bool) (res : List (Nat × Nat)) : Prop :=
  s.cmdWaits c needsMode res = false ∧ (s.mode = .update && updateRefuses c) = false

/-- A command has completed: the completion written last is its own, with this status, DETAIL and results, and it has left the commands
in flight (R438, R439). -/
abbrev Answers (c : Cmd) (t : State) (status detail results : Nat) : Prop :=
  t.lastCpl = some ⟨c.ctx, c.tag.toNat, c.opcode.toNat, status, detail, BitVec.ofNat 128 results⟩ ∧
    ∀ e ∈ t.hy.inflight, ¬(e.1.ctx = c.ctx ∧ e.1.tag = c.tag)

/-- A command has started and waits for something, with the data it keeps. -/
abbrev WaitsFor (c : Cmd) (t : State) (u : Until) (data : List Nat) : Prop :=
  t.hy.jobs.getLast?.map (fun j => (j.cmd, j.wait, j.data)) = some (c, u, data)

/-- The parameter at `off` is the address of `n` bytes, aligned and in the issuer's DRAM lease (R463). -/
abbrev HasSpan (s : State) (c : Cmd) (off n : Nat) : Prop := arg c off 8 % 64 = 0 ∧ s.ownsDram c.ctx (arg c off 8) n = true

/-- Byte `b` lies in the entry of a context's completion ring that its next completion goes to (R433, R434). -/
abbrev CplSlot (s : State) (x b : Nat) : Prop :=
  s.ringAddr (8 + x) (s.get (R.HI_RING_PROD (8 + x)) F.HI_RING_PROD_IDX) ≤ b ∧
    b < s.ringAddr (8 + x) (s.get (R.HI_RING_PROD (8 + x)) F.HI_RING_PROD_IDX) + 32

/-- Register `a` is one that the completion of a command of context `x` may change. -/
abbrev bookReg (x a : Nat) : Prop :=
  a = R.HI_CTX_STAT x ∨ a = R.HI_INFL_TOTAL ∨ a = R.HI_RING_PROD (8 + x) ∨ a = R.HI_CMP_LOST_CNT x

/-- The parts of the state beside its registers, its queue and its time. -/
inductive Part where
  /-- Memory. -/
  | mem
  /-- The holding copies of the high words. -/
  | latch
  /-- The bits that hardware has set in this cycle. -/
  | marks
  /-- The events on their way to the aggregator. -/
  | raised
  /-- The pins. -/
  | pins
  /-- Hyrno's books. -/
  | hy
  /-- The host interface. -/
  | hi
  /-- The journal. -/
  | nvj
  /-- Housekeeping. -/
  | hk
  /-- The thermal and wear block. -/
  | th
  /-- The power manager. -/
  | pm
  /-- The timeline. -/
  | tl
  /-- The RF block. -/
  | rf
  /-- The converters. -/
  | cv
  /-- The digital front end. -/
  | dfe
  /-- The vector cores. -/
  | nvc
  /-- The beamformer. -/
  | bf
  /-- The lanes. -/
  | ln
  /-- The packet engine. -/
  | fh
  /-- The time block. -/
  | ts
  /-- The memory controller. -/
  | mc
  /-- The DMA block. -/
  | dma
  /-- The model's count of free values. -/
  | free
  /-- The model's own answer of a read. -/
  | lastRead
  /-- The model's own copy of the completion written last. -/
  | lastCpl
  deriving DecidableEq, Repr

/-- A part is the same in two states. -/
def Part.same (s t : State) : Part → Prop
  | .mem => t.mem = s.mem
  | .latch => t.latch = s.latch
  | .marks => t.marks = s.marks
  | .raised => t.raised = s.raised
  | .pins => t.pins = s.pins
  | .hy => t.hy = s.hy
  | .hi => t.hi = s.hi
  | .nvj => t.nvj = s.nvj
  | .hk => t.hk = s.hk
  | .th => t.th = s.th
  | .pm => t.pm = s.pm
  | .tl => t.tl = s.tl
  | .rf => t.rf = s.rf
  | .cv => t.cv = s.cv
  | .dfe => t.dfe = s.dfe
  | .nvc => t.nvc = s.nvc
  | .bf => t.bf = s.bf
  | .ln => t.ln = s.ln
  | .fh => t.fh = s.fh
  | .ts => t.ts = s.ts
  | .mc => t.mc = s.mc
  | .dma => t.dma = s.dma
  | .free => t.free = s.free
  | .lastRead => t.lastRead = s.lastRead
  | .lastCpl => t.lastCpl = s.lastCpl

/-- The queue and the time stand, and the canonical forms hold on. -/
structure Keeps (s t : State) : Prop where
  pending : t.pending = s.pending
  now : t.now = s.now
  canonRegs : Regs.wf s.regs = true → Regs.wf t.regs = true
  canonMem : Memory.wf s.mem = true → Memory.wf t.mem = true

/-- State `t` differs from `s` in no register outside `P` and in no part outside `L`. -/
structure Within (P : Nat → Prop) (L : Part → Prop) (s t : State) : Prop where
  keeps : Keeps s t
  regs : ∀ a, ¬ P a → t.rd a = s.rd a
  parts : ∀ p, ¬ L p → p.same s t

/-- What a command that answers a next state may change: the registers `one`, the arrays of registers `many` (one index) and `grid` (two),
and the parts `parts`. -/
def Frame (i : Instr) (s : State) (one : List Nat) (many : List (Nat → Nat)) (grid : List (Nat → Nat → Nat)) (parts : List Part) : Prop :=
  ∀ t, exec i s = .next t →
    Within (fun a => a ∈ one ∨ (∃ f ∈ many, ∃ k, a = f k) ∨ ∃ g ∈ grid, ∃ j k, a = g j k) (fun p => p ∈ parts) s t

/-- What parts of the state a command that may write any register may change. -/
def PartFrame (i : Instr) (s : State) (parts : List Part) : Prop :=
  ∀ t, exec i s = .next t → Within (fun _ => True) (fun p => p ∈ parts) s t

/-- A command stores only to the addresses of `P`. -/
def StoresOnly (i : Instr) (s : State) (P : Nat → Prop) : Prop := ∀ t, exec i s = .next t → ∀ b, ¬P b → t.byte b = s.byte b

/-- A command is refused: it completes with this status and DETAIL, and nothing has changed but what a completion changes (R470). -/
def Refused (c : Cmd) (s t : State) (status detail : Nat) : Prop :=
  Answers c t status detail 0 ∧ Within (bookReg c.ctx) (fun p => p ∈ [.hy, .hi, .mem, .marks, .lastCpl]) s t ∧
    ∀ b, ¬CplSlot s c.ctx b → t.byte b = s.byte b

end Sys2Proof.Machine
end

