-- ==== Sys2Proof/Certificates/Slice0/Obligations.lean ====
section
/-! DEFINITION. The statements for the provers. -/

open Sys2Proof Sys2Proof.Machine

/-- For every command and state, the step of a state with that command at the front of its queue is exec of the command on the state
with the rest of the queue (log entry 2). -/
def Obligations.StepRunsFrontCommand : Prop :=
  ∀ (s : State) (i : Instr) (rest : List Instr), s.pending = i :: rest → 
      step s = exec i { s with pending := rest }

/-- With nothing in its queue the block goes on by one cycle of the DFE clock; while the reference PLL stands, the gust limiter owes
nothing, no character and no in-band record waits to be sent, no ramp-down waits to begin and the block is neither in Frost nor in
a Thaw, the cycle changes nothing else but the model's own notes of what one cycle has set and issued. That a step on an empty
queue is a cycle is the model's choice (log entry 2). -/
def Obligations.EmptyQueueTicks : Prop :=
  ∀ (s : State), s.pending = [] → 
      ∃ t, step s = .next t ∧ t.now = s.now + 1 ∧ t.pending = [] ∧ (s.pm.pllClocks = false → s.pm.debt = 0 → s.hi.uartTx = [] → s.hi.records = [] → s.pm.ramp = false →
      s.mode ≠ .frost → s.pm.thaw = false → t = { s with now := s.now + 1, marks := [], tl := { s.tl with nIssue := 0 } })

/-- In every state whose register file and memory are in canonical form, addresses strictly rising and no entry equal to what its
address reads as unlisted, a step that answers a next state leaves both in canonical form, so that equal contents stay equal data. -/
def Obligations.EveryStepKeepsTables : Prop :=
  ∀ (s t : State), s.Canon → step s = .next t → 
      t.Canon

/-- In every state that lists its sixteen lanes, four lane groups, two time domains, sixteen vector cores, sixteen DMA channels, two
memory channels, eight observation pins, 48 sensors and 64 bias outputs, a step that answers a next state leaves those numbers as
they are. -/
def Obligations.EveryStepKeepsSizes : Prop :=
  ∀ (s t : State), s.Sized → step s = .next t → 
      t.Sized

/-- TL_LEAD[n] reads 196,608 at 15 kHz and 122,880 at 30, 60 and 120 kHz after reset, and in every state in which it does so no step,
whatever command it runs and whatever a host writes, changes it. -/
def Obligations.LeadTimesAreReadOnly : Prop :=
  (State.reset.LeadsStand) ∧
  (∀ (s t : State), s.LeadsStand → step s = .next t → 
      t.LeadsStand)

/-- State.reset has an empty queue, its tables in canonical form and every list at its length; TL_CAR_ULADV is 0, the rotation period
2, REPEAT 4, K of every path 8 and the core regulator at 750 mV, as the specification gives them. That State.reset stands in Boot
is the model's choice (log entry 1). -/
def Obligations.ResetHolds : Prop :=
  (State.reset.Canon) ∧
  (State.reset.Sized) ∧
  (State.reset.pending = [] ∧ State.reset.mem = [] ∧ State.reset.mode = .boot) ∧
  ((∀ k, k < 16 → State.reset.rd (R.TL_CAR_ULADV k) = 0) ∧ State.reset.get R.CV_ROT_CFG F.CV_ROT_CFG_PERIOD = 2 ∧ State.reset.cv.repeat_ = 4 ∧
      (∀ p, p < 64 → State.reset.get (R.DFE_DPD_CFG p) F.DFE_DPD_CFG_K = 8) ∧ State.reset.get R.PM_VCORE F.PM_VCORE_MV = 750)

/-- MON_WEAR, ready to run, completes OK with the set point V at byte 16, 850 mV − V at byte 18 and the least SLACK of the wear
monitors at byte 20, and changes nothing else of the thermal and wear block. -/
def Obligations.WearReport : Prop :=
  ∀ (s : State) (c : Cmd) (v m : Nat), Ready s c false [] → s.get R.PM_VCORE F.PM_VCORE_MV = v → m ≤ 4095 → (∀ w, w < 24 → m ≤ s.get (R.TH_WEAR w) F.TH_WEAR_SLACK) → (m = 4095 ∨ ∃ w ∈ List.range 24, s.get (R.TH_WEAR w) F.TH_WEAR_SLACK = m) → 
      Gives (.monWear c) s fun t =>
      Answers c t St.ok 0 (resN 16 2 v + resN 18 2 (850 - v) + resN 20 4 m) ∧ t.th = s.th

/-- The commands named here, ready to run, complete NOT_OWNER for a context that does not hold the mode lease, and BAD_STATE with
condition 8 in a mode their row excludes; either way nothing has changed but what the completion itself changes. -/
def Obligations.CommandRefusals : Prop :=
  (∀ (s : State) (c : Cmd) (i : Instr), i ∈ [.sysSetMode c, .sysReset c, .calInterval c, .calRotSet c, .feTdd c, .laneEq c, .lanePower c, .timeDomainSet c, .timeSelect c, .timePps c, .timeSynce c, .pwrFrost c, .pwrGust c, .monHkSeq c, .monHarvest c, .fwUpdateBegin c] → Ready s c false [] → s.isML c.ctx = false → 
      Gives i s fun t =>
      Refused c s t St.notOwner 0) ∧
  (∀ (s : State) (c : Cmd) (i : Instr) (seen : List (BitVec 48 × BitVec 32)) (good : Bool) (m : Bool) (res : List (Nat × Nat)), (i, m, res) ∈ [(.calSweep c, false, [(101, 0)]), (.acalRefRecord c, false, [(102, 0)]), (.acalRefLock c, true, [(102, 0)]), (.sysI2c c, false, [(100, 0)]), (.laneGroupSet c, true, [(105, arg c 8 1)]), (.laneTest c seen, true, []), (.timeFrame c, true, [(106, 0)]), (.monHkCal c, false, [(108, 0)]), (.regSet c, true, [(107, 0x16)]), (.regLock c, true, [(107, 0x16)]), (.fwUpdateWrite c good, true, []), (.fwUpdateCommit c good, false, [(107, 0x10)]), (.fwUpdateAbort c, false, []), (.cfgRecord c, true, [(107, 0x10 + arg c 8 1)])] → Ready s c m res → s.isML c.ctx = false → 
      Gives i s fun t =>
      Refused c s t St.notOwner 0) ∧
  (∀ (s : State) (c : Cmd) (i : Instr) (seen : List (BitVec 48 × BitVec 32)) (good ok : Bool) (res : List (Nat × Nat)), (i, ok, res) ∈ [(.acalRefLock c, decide (s.mode = .provisioned), [(102, 0)]), (.regLock c, decide (s.mode = .provisioned), [(107, 0x16)]), (.laneTest c seen, decide (s.mode = .laneTest), []), (.timeFrame c, decide (s.mode = .provisioned ∨ s.mode = .standby), [(106, 0)]), (.laneGroupSet c, decide (s.mode = .provisioned ∨ s.mode = .standby ∨ s.mode = .laneTest), [(105, arg c 8 1)])] → Ready s c true res → s.isML c.ctx = true → ok = false → 
      Gives i s fun t =>
      Refused c s t St.badState (s.stateDetail 8 0)) ∧
  (∀ (s : State) (c : Cmd) (i : Instr) (good : Bool) (res : List (Nat × Nat)), (i, res) ∈ [(.fwUpdateCommit c good, [(107, 0x10)]), (.fwUpdateAbort c, [])] → Ready s c false res → s.isML c.ctx = true → s.busy = false → s.mode ≠ .update → 
      Gives i s fun t =>
      Refused c s t St.badState (s.stateDetail 8 0))

/-- The commands named first store to memory only the completion's own entry in the completion ring; LANE_GROUP_SET, which may end
what other lane commands wait for, stores to entries of completion rings only; those named after it also store to the span their
row gives: the page of BEAM_LOAD, the host's span of BEAM_READ, DPD_COEF, CAP_GET, MON_TEMP and MON_JOURNAL_READ, the image slot
of FW_UPDATE_WRITE, and the core's memories of KERNEL_LOAD. -/
def Obligations.CommandsStoreOnly : Prop :=
  (∀ (s : State) (c : Cmd) (fits : Bool) (parity : Bool) (data : BitVec 128) (overlap : Bool) (seen : List (BitVec 48 × BitVec 32)) (bits : BitVec 48) (errs : BitVec 32) (good : Bool) (i : Instr), i ∈ [.sysInfo c, .sysEcho c, .sysSerial c, .sysGpio c, .sysI2c c, .leaseGrant c, .leaseQuery c, .leaseTakeMode c,  .carConfig c, .carChain c, .carCfir c, .carStart c, .carStop c, .flowSet c, .flowRead c, .portSet c, .fcEntry c, .fcBatch c, .fcCancel c, .fcStatus c, .beamRegionSet c, .beamRecipSet c, .calInterval c, .calRotSet c, .calSweep c, .acalRefRecord c, .acalRefLock c, .calStatus c, .dpdConfig c, .dpdNbr c, .dpdTrain c, .dpdResume c, .cfrConfig c, .capFree c, .fePabias c, .feTdd c, .feFaultClear c, .rffeAccess c fits parity data, .rffeList c overlap, .laneEq c, .lanePower c, .laneTest c seen, .laneStatus c bits errs, .timeDomainSet c, .timeSelect c, .timePps c, .timeFrame c, .timeSynce c, .timeGet c, .timeDelay c, .timePtpStats c, .pwrFrost c, .pwrGust c, .pwrStatus c, .monHkSeq c, .monHkCal c, .monHkRead c, .monWear c, .monHarvest c, .regSet c, .regLock c, .regStatus c, .fwUpdateBegin c, .fwUpdateCommit c good, .cfgRecord c, .kernelStart c, .kernelStop c, .kernelMbx c, .kernelStatus c] → 
      StoresOnly i s (CplSlot s c.ctx)) ∧
  (∀ (s : State) (c : Cmd), StoresOnly (.beamLoad c) s (fun b => CplSlot s c.ctx b ∨ ∃ p j, p < 2 ∧ j < 256 * arg c 14 2 ∧ b = vecAddr (s.rgBase (arg c 8 1) + p * s.pageLen (arg c 8 1) + arg c 12 2) + j)) ∧
  (∀ (s : State) (c : Cmd), StoresOnly (.beamRead c) s (fun b => CplSlot s c.ctx b ∨ ∃ j, j < 256 * arg c 14 2 ∧ b = arg c 16 8 + j)) ∧
  (∀ (s : State) (c : Cmd), StoresOnly (.dpdCoef c) s (fun b => CplSlot s c.ctx b ∨ ∃ j, j < 2048 ∧ b = arg c 16 8 + j)) ∧
  (∀ (s : State) (c : Cmd), StoresOnly (.capGet c) s (fun b => CplSlot s c.ctx b ∨ ∃ r ∈ s.dfe.recs, ∃ j, j < r.bytes ∧ b = arg c 16 8 + j)) ∧
  (∀ (s : State) (c : Cmd), StoresOnly (.monTemp c) s (fun b => CplSlot s c.ctx b ∨ ∃ j, j < 96 ∧ b = arg c 16 8 + j)) ∧
  (∀ (s : State) (c : Cmd) (good : Bool), StoresOnly (.fwUpdateWrite c good) s (fun b => CplSlot s c.ctx b ∨ ∃ j, j < arg c 24 4 ∧ b = s.inactiveSlot + arg c 12 4 + j)) ∧
  (∀ (s : State) (c : Cmd), StoresOnly (.monJournalRead c) s (fun b => CplSlot s c.ctx b ∨ ∃ j, j < (((s.journalSel (arg c 8 1)).drop (arg c 10 2)).take (arg c 12 2)).flatten.length ∧ b = arg c 16 8 + j)) ∧
  (∀ (s : State) (c : Cmd), StoresOnly (.kernelLoad c) s (fun b => CplSlot s c.ctx b ∨ ∃ j, (j < arg c 12 4 ∧ b = nvPm (arg c 8 1) + j) ∨ (j < arg c 24 4 ∧ b = nvX (arg c 8 1) + j) ∨
      (j < arg c 28 4 ∧ b = nvY (arg c 8 1) + j))) ∧
  (∀ (s : State) (c : Cmd), StoresOnly (.laneGroupSet c) s (fun b => ∃ x i, x < 8 ∧ s.ringAddr (8 + x) i ≤ b ∧ b < s.ringAddr (8 + x) i + 32))

/-- The supplies in range take the machine from Unpowered to Reset hold; the loss of a rail takes it from any other mode to Unpowered
with that rail out of range, and PORST_N low takes it to Reset hold, both with every register but PM_MODE, NVJ_STAT and the states
of the vector cores at its reset value; PORST_N high after a power-on reset starts Self-test; the end of the warm-reset pulse, not
before 1 ms on the always-on clock (log entry 120), starts Boot; a valid BIST run records its result and starts Boot, with
RADIO_LOCK exactly after a failure; an invalid first run is repeated; an invalid second run starts Boot locked; a TAP reset
changes nothing. -/
def Obligations.SuppliesResetsAndSelfTest : Prop :=
  (∀ (s : State), s.mode = .unpowered → 
      Gives .suppliesInRange s fun t =>
      t.mode = .resetHold ∧ t.pm.powerOn = true ∧ t.pm.rails = List.replicate 12 true) ∧
  (∀ (s : State) (rail : Fin 12), s.mode ≠ .unpowered → 
      Gives (.supplyLoss rail) s fun t =>
      t.mode = .unpowered ∧ t.pm.rails = s.pm.rails.set rail false ∧
      ∀ a, a ≠ R.PM_MODE → a ≠ R.NVJ_STAT → (∀ c, c < 16 → a ≠ R.NVC_CORE_STAT c) → t.rd a = resetVal a) ∧
  (∀ (s : State), s.mode ≠ .unpowered → 
      Gives .porstNAssert s fun t =>
      t.mode = .resetHold ∧ t.pm.porst = false ∧ t.pm.powerOn = true ∧
      ∀ a, a ≠ R.PM_MODE → a ≠ R.NVJ_STAT → (∀ c, c < 16 → a ≠ R.NVC_CORE_STAT c) → t.rd a = resetVal a) ∧
  (∀ (s : State), s.mode = .resetHold → s.pm.powerOn = true → s.pm.rails.all id = true → 
      Gives .porstNRelease s fun t =>
      t.mode = .selfTest ∧ t.pm.porst = true ∧ t.pm.bistRuns = 0) ∧
  (∀ (s : State), s.mode = .resetHold → s.pm.powerOn = false → s.pm.rails.all id = true → s.aonPast 491520 s.pm.modeAt = true → 
      Gives .warmResetHoldEnd s fun t =>
      t.mode = .boot) ∧
  (∀ (s : State) (fail : BitVec 18) (oscRef : Bool), s.mode = .selfTest → 
      Gives (.bistComplete fail false false oscRef) s fun t =>
      t.mode = .boot ∧ t.get R.PM_BIST_STAT F.PM_BIST_STAT_FAIL = fail.toNat ∧
      t.flag R.PM_BIST_STAT F.PM_BIST_STAT_VALID = true ∧
      t.flag R.PM_MODE F.PM_MODE_BIST_VALID = true ∧
      t.flag R.PM_MODE F.PM_MODE_BIST_PASS = decide (fail = 0) ∧
      t.flag R.PM_MODE F.PM_MODE_RADIO_LOCK = decide (fail ≠ 0)) ∧
  (∀ (s : State) (fail : BitVec 18) (vout oscout oscRef : Bool), s.mode = .selfTest → (vout || oscout) = true → s.pm.bistRuns = 0 → 
      Gives (.bistComplete fail vout oscout oscRef) s fun t =>
      t.mode = .selfTest ∧ t.pm.bistRuns = 1 ∧ t.flag R.PM_BIST_STAT F.PM_BIST_STAT_RERUN = true) ∧
  (∀ (s : State) (fail : BitVec 18) (vout oscout oscRef : Bool), s.mode = .selfTest → (vout || oscout) = true → s.pm.bistRuns ≠ 0 → 
      Gives (.bistComplete fail vout oscout oscRef) s fun t =>
      t.mode = .boot ∧ t.flag R.PM_BIST_STAT F.PM_BIST_STAT_VALID = false ∧
      t.flag R.PM_MODE F.PM_MODE_BIST_PASS = false ∧ t.flag R.PM_MODE F.PM_MODE_RADIO_LOCK = true) ∧
  (∀ (s : State), exec .tapReset s = .next s)

/-- In Boot the boot ROM hands over from the slot that verified (the other slot and a host image count as a fallback, and with no
image at all AUTH reads 3 and the stage stays 0), REFCLK lock sets REF_LOCK and moves stage 2 on to stage 3, a DRAM training that
fits the memory records size and trained set points and moves on to stage 4, an authentic main image leads to Provisioned and a
rejected one goes back to stage 0, and GO of the mailbox copies a chunk of 1 to 512 words to its place (log entry 12) and counts
ACK, any other length setting ERR. -/
def Obligations.BootStages : Prop :=
  (∀ (s : State) (active other : Bool) (host : Option Bool), s.mode = .boot → s.get R.HI_BOOT_STAT F.HI_BOOT_STAT_STAGE = 0 → (active || other) = true → 
      Gives (.bootRomDone active other host) s fun t =>
      t.flag R.HI_BOOT_STAT F.HI_BOOT_STAT_FALLBACK = !active ∧
      t.get R.HI_BOOT_STAT F.HI_BOOT_STAT_STAGE = (if t.flag R.TS_STATUS F.TS_STATUS_REF_LOCK then 3 else 2) ∧
      t.pm.slot = t.get R.HI_BOOT_STAT F.HI_BOOT_STAT_SRC % 2 ∧ t.flag R.HI_BOOT_STAT F.HI_BOOT_STAT_FALLBACK = !active) ∧
  (∀ (s : State), s.mode = .boot → s.get R.HI_BOOT_STAT F.HI_BOOT_STAT_STAGE = 0 → 
      Gives (.bootRomDone false false none) s fun t =>
      t.get R.HI_BOOT_STAT F.HI_BOOT_STAT_AUTH = 3 ∧ t.get R.HI_BOOT_STAT F.HI_BOOT_STAT_STAGE = 0) ∧
  (∀ (s : State), s.mode = .boot → 2 ≤ s.get R.HI_BOOT_STAT F.HI_BOOT_STAT_STAGE → 
      Gives .referencePllLock s fun t =>
      t.flag R.TS_STATUS F.TS_STATUS_REF_LOCK = true ∧ t.flag R.HI_BOOT_STAT F.HI_BOOT_STAT_REF = true ∧
      t.pm.pllClocks = true ∧ t.get R.HI_BOOT_STAT F.HI_BOOT_STAT_STAGE =
      (if s.get R.HI_BOOT_STAT F.HI_BOOT_STAT_STAGE = 2 then 3 else s.get R.HI_BOOT_STAT F.HI_BOOT_STAT_STAGE)) ∧
  (∀ (s : State) (trained : BitVec 3) (step0 step1 step2 : Fin 4) (size : BitVec 5), s.mode = .boot → s.get R.HI_BOOT_STAT F.HI_BOOT_STAT_STAGE = 3 → trained ≠ 0 → 
      Gives (.dramTrainingDone trained step0 step1 step2 size false) s fun t =>
      t.get R.MC_STATUS F.MC_STATUS_TRAINED = trained.toNat ∧ t.get R.MC_STATUS F.MC_STATUS_SIZE = size.toNat ∧
      t.get R.HI_BOOT_STAT F.HI_BOOT_STAT_STAGE = 4 ∧
      t.get R.MC_STATUS F.MC_STATUS_SP = (if trained.toNat % 2 = 1 then 0 else if trained.toNat / 2 % 2 = 1 then 1 else 2)) ∧
  (∀ (s : State) (trained : BitVec 3) (step0 step1 step2 : Fin 4) (size : BitVec 5), s.mode = .boot → s.get R.HI_BOOT_STAT F.HI_BOOT_STAT_STAGE = 3 → 
      Gives (.dramTrainingDone trained step0 step1 step2 size true) s fun t =>
      t.get R.MC_STATUS F.MC_STATUS_TRAINED = 0 ∧ t.get R.HI_BOOT_STAT F.HI_BOOT_STAT_STAGE = 6) ∧
  (∀ (s : State), s.mode = .boot → s.get R.HI_BOOT_STAT F.HI_BOOT_STAT_STAGE = 4 → 
      Gives (.mainImageVerified true) s fun t =>
      t.mode = .provisioned) ∧
  (∀ (s : State), s.mode = .boot → s.get R.HI_BOOT_STAT F.HI_BOOT_STAT_STAGE = 4 → 
      Gives (.mainImageVerified false) s fun t =>
      t.mode = .boot ∧ t.get R.HI_BOOT_STAT F.HI_BOOT_STAT_STAGE = 0 ∧
      t.get R.HI_BOOT_STAT F.HI_BOOT_STAT_AUTH = (if s.flag R.HI_BOOT_STAT F.HI_BOOT_STAT_FALLBACK then 3 else 2)) ∧
  (∀ (s : State) (att : Attachment) (ofs : BitVec 20) (len : BitVec 11), s.mode = .boot → att = .pcieA ∨ att = .spi → 1 ≤ len.toNat ∧ len.toNat ≤ 512 → 
      Gives (.hiBootGo att ofs len) s fun t =>
      (∀ i, i < 4 * len.toNat → t.byte (dramBase + 256 * ofs.toNat + i) =
      BitVec.ofNat 8 ((s.rd (R.HI_BOOT_WIN (i / 4))).toNat / 256 ^ (i % 4))) ∧
      (∀ a, a < dramBase + 256 * ofs.toNat ∨ dramBase + 256 * ofs.toNat + 4 * len.toNat ≤ a → t.byte a = s.byte a) ∧
      t.get R.HI_BOOT_ACK F.HI_BOOT_ACK_ACK = (s.get R.HI_BOOT_ACK F.HI_BOOT_ACK_ACK + 1) % 2 ^ F.HI_BOOT_ACK_ACK.w ∧
      t.flag R.HI_BOOT_ACK F.HI_BOOT_ACK_ERR = false) ∧
  (∀ (s : State) (att : Attachment) (ofs : BitVec 20) (len : BitVec 11), s.mode = .boot → att = .pcieA ∨ att = .spi → len.toNat = 0 ∨ 512 < len.toNat → 
      Gives (.hiBootGo att ofs len) s fun t =>
      t.flag R.HI_BOOT_ACK F.HI_BOOT_ACK_ERR = true ∧ ∀ a, t.byte a = s.byte a)

/-- A watchdog expiry and a fatal firmware fault, while firmware runs and no path is on (otherwise the ramp-down of R43 comes first),
and the clear code written in Thermal hold with both always-on sensors cool start a warm reset with the causes 3, 4 and 6 (a
watchdog expiry with a path on lowers the TDD pins and ends every symbol first, and the reset follows the ramp-down): Reset hold,
PREV the mode left, every register outside the always-on domain but the states of the vector cores, and every GPIO configuration,
at its reset value (and after a watchdog every other always-on register but PM_MODE and PM_DOM_STAT as before); any other code
written to PM_HOLD_CLEAR changes nothing; a non-suspect sample of 120 degrees or more records its sensor and peak, lowers the TDD
pins and starts the transition to Thermal hold; THERMTRIP_N low completes it with cause 5. -/
def Obligations.WarmResetsAndThermal : Prop :=
  (∀ (s : State), (fwRuns s.mode && decide (s.mode ≠ .update)) = true ∨ s.mode = .boot → s.pm.resetTo = none → s.pm.shut = none → isRadio s.mode = false ∨ s.allOff = true → 
      Gives .firmwareWatchdogExpiry s fun t =>
      t.mode = .resetHold ∧ t.get R.PM_MODE F.PM_MODE_CAUSE = 3 ∧ t.get R.PM_MODE F.PM_MODE_PREV = modeCode s.mode ∧
      t.pm.powerOn = false ∧ (∀ a, alwaysOn a = false ∨ isGpio a = true → (∀ c, c < 16 → a ≠ R.NVC_CORE_STAT c) → t.rd a = resetVal a) ∧
      (∀ a, alwaysOn a = true → isGpio a = false → a ≠ R.PM_MODE → a ≠ R.PM_DOM_STAT → t.rd a = s.rd a)) ∧
  (∀ (s : State), s.fwMayFail = true → isRadio s.mode = false ∨ s.allOff = true → 
      Gives .fatalFirmwareFault s fun t =>
      t.mode = .resetHold ∧ t.get R.PM_MODE F.PM_MODE_CAUSE = 4 ∧ t.get R.PM_MODE F.PM_MODE_PREV = modeCode s.mode ∧
      t.pm.powerOn = false ∧ t.raised = [] ∧
      (∀ a, alwaysOn a = false ∨ isGpio a = true → (∀ c, c < 16 → a ≠ R.NVC_CORE_STAT c) → t.rd a = resetVal a)) ∧
  (∀ (s : State), (fwRuns s.mode && decide (s.mode ≠ .update)) = true → s.pm.resetTo = none → s.pm.shut = none → isRadio s.mode = true → s.allOff = false → 
      Gives .firmwareWatchdogExpiry s fun t =>
      t.mode = s.mode ∧ t.busy = true ∧ t.get R.PM_MODE F.PM_MODE_TGT = modeCode .resetHold ∧ t.pm.resetTo = some 3 ∧ t.tl.syms = [] ∧
      t.pins.txen = List.replicate 8 false ∧ t.pins.rxen = List.replicate 8 false) ∧
  (∀ (s : State), s.pm.resetTo = some 3 → s.pm.rampOn = true → s.pm.shut = none → isRadio s.mode = true → s.allOff = true → s.rf.dacRamp = [] → 
      Gives .radioRampDownDone s fun t =>
      t.mode = .resetHold ∧ t.get R.PM_MODE F.PM_MODE_CAUSE = 3) ∧
  (∀ (s : State) (sensor : Fin 48) (x : BitVec 16), 12000 ≤ x.toInt → s.suspect sensor = false → s.pm.shut = none → s.mode ≠ .unpowered → s.mode ≠ .resetHold → s.mode ≠ .thermalHold → 
      Gives (.thermalShutdown sensor x) s fun t =>
      t.pm.shut = some sensor.val ∧ t.pins.txen = List.replicate 8 false ∧ t.pins.rxen = List.replicate 8 false ∧
      t.get R.PM_SHUT_INFO F.PM_SHUT_INFO_SENSOR = sensor ∧ t.get R.PM_SHUT_INFO F.PM_SHUT_INFO_PEAK = x.toNat ∧
      t.mode = s.mode ∧ t.get R.PM_MODE F.PM_MODE_TGT = modeCode .thermalHold ∧ t.busy = true) ∧
  (∀ (s : State), s.pm.shut.isSome = true → 
      Gives .thermalHoldEntry s fun t =>
      t.mode = .thermalHold ∧ t.busy = false ∧ t.get R.PM_MODE F.PM_MODE_CAUSE = 5 ∧
      t.get R.PM_MODE F.PM_MODE_PREV = modeCode s.mode ∧ t.pins.thermtripLow = true ∧ t.get R.PM_DOM_STAT F.PM_DOM_STAT_ON = 1 ∧
      (∀ a, alwaysOn a = false → (∀ c, c < 16 → a ≠ R.NVC_CORE_STAT c) → t.rd a = resetVal a)) ∧
  (∀ (s : State), s.mode = .thermalHold → s.aonCool = true → 
      Gives (.pmHoldClear 0xC1EA) s fun t =>
      t.mode = .resetHold ∧ t.get R.PM_MODE F.PM_MODE_CAUSE = 6 ∧ t.get R.PM_MODE F.PM_MODE_PREV = modeCode .thermalHold ∧
      t.pins.thermtripLow = false ∧
      (∀ a, alwaysOn a = false ∨ isGpio a = true → (∀ c, c < 16 → a ≠ R.NVC_CORE_STAT c) → t.rd a = resetVal a)) ∧
  (∀ (s : State) (v : Word), v ≠ 0xC1EA ∨ s.mode ≠ .thermalHold ∨ s.aonCool = false → 
      exec (.pmHoldClear v) s = .next s)

/-- A transition of the firmware's ends in its target with PREV the mode left, CAUSE the cause of the transition and BUSY clear (an
entry into Standby from Provisioned once synthesisers and converters are calibrated); a ramp-down ends in Standby; a block's
agreement to Frost moves on to the next block, the last one's stops the timeline, puts the DRAM into self-refresh and starts the
power-down; a refusal or a missing answer rolls the request back with CAUSE 8 and names the block; with the domains off the
machine is in Frost with CAUSE 1. -/
def Obligations.ModeTransitions : Prop :=
  (∀ (s : State) (m : Mode), s.busy = true → modeOf? (s.get R.PM_MODE F.PM_MODE_TGT) = some m → fwRuns s.mode = true → fwRuns m = true → s.pm.ramp = false → s.pm.frost = none → s.pm.thaw = false → s.pm.shut = none → s.pm.resetTo = none → ((s.mode = .provisioned → m = .standby → s.synBusy = false ∧ s.cv.fgDone = true ∧ s.cv.dacDone = true)) → 
      Gives .modeTransitionComplete s fun t =>
      t.mode = m ∧ t.get R.PM_MODE F.PM_MODE_TGT = modeCode m ∧ t.busy = false ∧
      t.get R.PM_MODE F.PM_MODE_PREV = modeCode s.mode ∧ t.get R.PM_MODE F.PM_MODE_CAUSE = s.pm.cause % 256 ∧ t.pm.ramp = false) ∧
  (∀ (s : State), s.busy = true → s.pm.ramp = true → isRadio s.mode = true → s.pm.rampOn = true → s.allOff = true → s.rf.dacRamp = [] → s.pm.shut = none → s.pm.resetTo = none → 
      Gives .radioRampDownDone s fun t =>
      t.mode = .standby ∧ t.busy = false ∧ t.get R.PM_MODE F.PM_MODE_PREV = modeCode s.mode ∧
      t.get R.PM_MODE F.PM_MODE_CAUSE = s.pm.cause % 256 ∧ t.pm.ramp = false) ∧
  (∀ (s : State) (f : FrostReq), s.pm.frost = some f → f.agreed = false → f.answered < 11 → (s.frostAgrees (nth frostOrder f.answered 0)).1 = true → 
      Gives .frostBlockAnswer s fun t =>
      t.pm.frost = some { f with answered := f.answered + 1 } ∧ t.mode = s.mode) ∧
  (∀ (s : State) (f : FrostReq), s.pm.frost = some f → f.agreed = false → f.answered = 11 → (s.frostAgrees 9).1 = true → 
      Gives .frostBlockAnswer s fun t =>
      t.pm.frost = some { f with agreed := true, answered := 12 } ∧ t.flag R.TL_STATUS F.TL_STATUS_RUNNING = false ∧
      t.flag R.MC_STATUS F.MC_STATUS_SELFREF = true) ∧
  (∀ (s : State) (f : FrostReq), s.pm.frost = some f → f.agreed = false → f.answered < 12 → (s.frostAgrees (nth frostOrder f.answered 0)).1 = false → 
      Gives .frostBlockAnswer s fun t =>
      t.pm.frost = none ∧ t.busy = false ∧ t.mode = s.mode ∧ t.get R.PM_MODE F.PM_MODE_CAUSE = 8 ∧
      t.get R.PM_FROST_STAT F.PM_FROST_STAT_REFUSER = nth frostOrder f.answered 0) ∧
  (∀ (s : State) (f : FrostReq), s.pm.frost = some f → f.agreed = false → f.answered < 12 → s.aonPast 98304 s.pm.askAt = true → 
      Gives .frostAnswerTimeout s fun t =>
      t.pm.frost = none ∧ t.busy = false ∧ t.mode = s.mode ∧ t.get R.PM_MODE F.PM_MODE_CAUSE = 8 ∧
      t.get R.PM_FROST_STAT F.PM_FROST_STAT_REFUSER = nth frostOrder f.answered 0) ∧
  (∀ (s : State) (f : FrostReq), s.pm.frost = some f → f.agreed = true → f.latched = false → s.pm.dom = none → s.nextDown = none → s.mode ≠ .frost → 
      Gives .frostEntryDone s fun t =>
      t.mode = .frost ∧ t.busy = false ∧ t.get R.PM_MODE F.PM_MODE_CAUSE = 1 ∧
      t.get R.PM_MODE F.PM_MODE_PREV = modeCode s.mode ∧ t.pm.enteredFrom = s.mode ∧ t.pm.pllClocks = false ∧
      t.flag R.TS_STATUS F.TS_STATUS_REF_LOCK = false)

/-- An enabled trigger (PM_WAKE with bit 0, the Frost timer, a rising PERST) starts a Thaw in Frost and is latched during entry; a
ready domain step moves on to the next step, and the last one switches the domain; a ready that stays out for 100 µs (outside the
waits for the gust limiter) raises PM_DOM_FAIL, and in a Thaw starts a warm reset with cause 4; a Thaw ends in the mode Frost was
entered from, with PREV 12 and CAUSE 7; at zero debt, with no disarming step ready and room before the next arming step, the
limiter grants the next waiting step and takes its debt; a new cap takes effect. -/
def Obligations.ThawAndDomains : Prop :=
  (∀ (s : State) (f : FrostReq) (v : Word), s.pm.frost = some f → f.trig.testBit 0 = true → v.toNat % 2 = 1 → s.mode = .frost → s.pm.thaw = false → 
      Gives (.pmWake v) s fun t =>
      t.pm.thaw = true ∧ t.pm.dom = some ⟨1, true, 1⟩ ∧ t.busy = true ∧ t.get R.PM_MODE F.PM_MODE_TGT = modeCode s.pm.enteredFrom) ∧
  (∀ (s : State) (f : FrostReq) (v : Word), s.pm.frost = some f → f.trig.testBit 0 = true → v.toNat % 2 = 1 → s.mode ≠ .frost → 
      Gives (.pmWake v) s fun t =>
      t.pm.frost = some { f with latched := true } ∧ ∀ a, t.rd a = s.rd a) ∧
  (∀ (s : State) (f : FrostReq), s.pm.frost = some f → f.trig.testBit 3 = true → s.mode = .frost → s.pm.thaw = false → s.aonPast (f.timerMs * 491520) s.pm.frostAt = true → 
      Gives .frostTimerExpiry s fun t =>
      t.pm.thaw = true ∧ t.pm.dom = some ⟨1, true, 1⟩ ∧ t.busy = true ∧ t.get R.PM_MODE F.PM_MODE_TGT = modeCode s.pm.enteredFrom) ∧
  (∀ (s : State) (d : DomStep) (lost : BitVec 29), s.pm.dom = some d → (d.step < (if d.wake then 5 else 4)) → (s.pm.wait.any (fun r => r.what = 2) = false) → 
      Gives (.domainReady lost) s fun t =>
      t.pm.dom = some { d with step := d.step + 1 } ∧ ∀ a, t.rd a = s.rd a) ∧
  (∀ (s : State) (d : DomStep) (lost : BitVec 29), s.pm.dom = some d → (d.step = (if d.wake then 5 else 4)) → (s.pm.wait.any (fun r => r.what = 2) = false) → d.dom < 24 → s.pm.thaw = false → 
      Gives (.domainReady lost) s fun t =>
      t.domOn d.dom = d.wake ∧ (∀ k, k < 24 → k ≠ d.dom → t.domOn k = s.domOn k)) ∧
  (∀ (s : State) (d : DomStep), s.pm.dom = some d → s.pm.thaw = false → (s.pm.wait.any (fun r => r.what = 2) = false) → s.aonPast 49152 s.pm.stepAt = true → 
      Gives .domainReadyTimeout s fun t =>
      t.told = s.told ++ [(Ev.PM_DOM_FAIL, [d.dom])]) ∧
  (∀ (s : State) (d : DomStep), s.pm.dom = some d → s.pm.thaw = true → (s.pm.wait.any (fun r => r.what = 2) = false) → s.aonPast 49152 s.pm.stepAt = true → 
      Gives .domainReadyTimeout s fun t =>
      t.mode = .resetHold ∧ t.get R.PM_MODE F.PM_MODE_CAUSE = 4) ∧
  (∀ (s : State), s.mode = .frost → s.pm.thaw = true → s.pm.dom = none → s.nextWake = none → s.pm.pllClocks = true → s.synBusy = false → s.flag R.MC_STATUS F.MC_STATUS_SELFREF = false → (s.pm.enteredFrom = .standby → s.cv.fgDone = true ∧ s.cv.dacDone = true) → 
      Gives .thawComplete s fun t =>
      t.mode = s.pm.enteredFrom ∧ t.busy = false ∧ t.get R.PM_MODE F.PM_MODE_PREV = modeCode .frost ∧
      t.get R.PM_MODE F.PM_MODE_CAUSE = 7 ∧ t.pm.thaw = false ∧ t.pm.frost = none ∧ t.flag R.TS_STATUS F.TS_STATUS_VALID = false) ∧
  (∀ (s : State) (r : GustReq), s.pm.debt = 0 → gustNext s.pm.wait = some r → s.disarmHead = none → s.fitsBefore r.size = true → 
      Gives .gustStepGrant s fun t =>
      t.pm.granted = s.pm.granted ++ [(r.what, r.idx)] ∧ t.pm.wait = s.pm.wait.erase r ∧ t.pm.debt = gustDebt r.size ∧
      t.get R.PM_GUST_CFG F.PM_GUST_CFG_DEBT = min (gustDebt r.size / 245760) 255) ∧
  (∀ (s : State) (c : Nat), s.pm.capNext = some c → 
      Gives .gustCapApply s fun t =>
      t.get R.PM_GUST_CFG F.PM_GUST_CFG_CAP = c % 2 ^ F.PM_GUST_CFG_CAP.w ∧ t.pm.capNext = none)

/-- PERST low takes its endpoint's link down and PERST high is seen on the pin and, enabled, starts a Thaw; a link that comes up
attaches every context bound to it and one that goes down holds every ATTACHED one; in-band silence of 3 s holds its context; a
context in HELD whose hold time passes while it holds nothing and nothing is on its way (no lease, no quota, no mode lease)
becomes EXPIRED with its event raised; a confirmed retry of the regulator, a second after the last request, clears FROZEN. -/
def Obligations.LinksAndContexts : Prop :=
  (∀ (s : State) (which : Fin 2), Gives (.perstAssert which) s fun t =>
      t.pins.perst = s.pins.perst.set which false ∧
      ∀ f, f < 2 → s.perstOf f = which → nth t.hi.linkUp f false = false) ∧
  (∀ (s : State) (which : Fin 2), Gives (.perstRelease which) s fun t =>
      t.pins.perst = s.pins.perst.set which true) ∧
  (∀ (s : State) (f : FrostReq) (which : Fin 2), s.pm.frost = some f → f.trig.testBit 1 = true → s.mode = .frost → s.pm.thaw = false → 
      Gives (.perstRelease which) s fun t =>
      t.pm.thaw = true ∧ t.pm.dom = some ⟨1, true, 1⟩ ∧ t.busy = true) ∧
  (∀ (s : State) (f : Fin 2), s.hiRuns = true → nth s.pins.perst (s.perstOf f) false = true → 
      Gives (.pcieLinkUp f) s fun t =>
      t.hi.linkUp = s.hi.linkUp.set f true ∧ ∀ c, c < 8 → s.bindOf c = some f.val → t.ctxState c = 1) ∧
  (∀ (s : State) (f : Fin 2), Gives (.pcieLinkDown f) s fun t =>
      t.hi.linkUp = s.hi.linkUp.set f false ∧ ∀ c, c < 8 → s.bindOf c = some f.val → s.ctxState c = 1 → t.ctxState c = 2) ∧
  (∀ (s : State) (c : Fin 8), s.bindOf c = some 2 → s.ctxState c = 1 → nth s.hi.inbandAt c 0 + 3 * cyclesPerSecond ≤ s.now → 
      Gives (.inbandSilenceTimeout c) s fun t =>
      t.ctxState c = 2 ∧ t.told = s.told ++ [(Ev.HI_CTX_DETACH, [c.val, 2])]) ∧
  (∀ (s : State) (c : Fin 8), s.ctxState c = 2 → s.mode ≠ .frost → s.pm.thaw = false → nth s.hi.heldAt c 0 + s.get (R.HI_CTX_HOLD c) F.HI_CTX_HOLD_S * cyclesPerSecond ≤ s.now → s.leasesOf c = [] → s.isML c = false → s.hy.jobs = [] → s.hy.stopping = [] → 
      Gives (.ctxHoldExpiry c) s fun t =>
      t.ctxState c = 3 ∧ t.told = s.told ++ [(Ev.HI_CTX_DETACH, [c.val, 3])]) ∧
  (∀ (s : State), s.flag R.PM_VCORE F.PM_VCORE_FROZEN = true → s.spanPast cyclesPerSecond s.th.askedAt = true → 
      Gives (.pmbusRetry true) s fun t =>
      t.flag R.PM_VCORE F.PM_VCORE_FROZEN = false ∧ t.get R.PM_VCORE F.PM_VCORE_MV = s.pm.vTarget % 2 ^ F.PM_VCORE_MV.w)

/-- Into a ring that is not full a commit writes the entry at TL_TAIL and advances TL_TAIL. An entry that passes the checks is VALID,
pending and counted to its context; one that fails gets STAT 9, raises its event with context, SEQ and target, and is neither
pending nor counted. A full ring takes no entry. A staged entry whose target is at most 500 microseconds away is committed and
leaves the staging list. An entry that every block has acknowledged retires: it is neither pending nor issued, and its context's
count falls. -/
def Obligations.CommitPlacesTheEntry : Prop :=
  (∀ (s : State) (entry : BitVec 256), s.tlFull = false → (s.withEntry entry).commitFault s.tlTail = none → 
      Gives (.forecastCommit entry) s fun t =>
      t.tlTail = (s.tlTail + 1) % 4096 ∧ t.tl.pend = s.tl.pend ++ [s.tlTail] ∧ t.eValid s.tlTail = true ∧
      (∀ k, 1 ≤ k → k ≤ 6 → t.rd (ringWord s.tlTail k) = BitVec.ofNat 32 (entry.toNat / 2 ^ (32 * k))) ∧
      t.partUsed (t.eCtx s.tlTail) = (s.partUsed (t.eCtx s.tlTail) + 1) % 2 ^ F.TL_PART_USED_USED.w ∧ t.told = s.told) ∧
  (∀ (s : State) (entry : BitVec 256) (e : Nat), s.tlFull = false → (s.withEntry entry).commitFault s.tlTail = some e → 
      Gives (.forecastCommit entry) s fun t =>
      t.tlTail = (s.tlTail + 1) % 4096 ∧ t.tl.pend = s.tl.pend ∧ t.eStat s.tlTail = 9 ∧
      t.told = s.told ++ [(e, [entry.toNat / 2 ^ 23 % 8, entry.toNat / 2 ^ 224 % 2 ^ 16, entry.toNat % 2 ^ 23])] ∧
      (∀ x, x < 8 → t.partUsed x = s.partUsed x)) ∧
  (∀ (s : State) (entry : BitVec 256), s.tlFull = true → 
      exec (.forecastCommit entry) s = .next s) ∧
  (∀ (s : State) (e : Staged), s.nextStaged = some e → e.target ≤ s.now + 245760 → s.tlFull = false → 
      Gives .stagedEntryCommit s fun t =>
      t.hy.staged = s.hy.staged.erase e ∧ t.tlTail = (s.tlTail + 1) % 4096) ∧
  (∀ (s : State) (slot : Fin 4096), s.tl.issued.contains slot.val = true → 
      Gives (.entryRetire slot) s fun t =>
      t.tl.pend = s.tl.pend.filter (· != slot.val) ∧ t.tl.issued = s.tl.issued.filter (· != slot.val) ∧
      t.partUsed (s.eCtx slot) = (s.partUsed (s.eCtx slot) - 1) % 2 ^ F.TL_PART_USED_USED.w)

/-- For each of the sixteen actions: a pending entry, in its turn at its issue instant, whose context no longer holds a leased
resource it touches is issued with STAT 5, counted in TL_LEASE_BLANK_CNT and reported by TL_LEASE_BLANK; one whose leases stand
but whose job is not done is issued with STAT 6, counted in TL_JOB_LATE_CNT and reported by TL_JOB_LATE; nothing else of the entry
happens. An entry that is not pending with that action or whose turn has not come, a core that does not run, and a cycle that has
issued four entries leave the state as it is. -/
def Obligations.IssueChecks : Prop :=
  (∀ (s : State) (act : Nat) (slot : Fin 4096), 1 ≤ act → act ≤ 16 → s.mayIssue slot act = true → s.leaseOk slot = false → 
      Gives (forecastRow act slot) s fun t =>
      Issued s t slot 5 ∧ t.told = s.told ++ [(Ev.TL_LEASE_BLANK, [s.eCtx slot, s.eSeq slot, s.eTgt slot])] ∧
      Counted s t R.TL_LEASE_BLANK_CNT ∧
      (∀ a, a ≠ R.TL_LEASE_BLANK_CNT → a ≠ ringWord slot 7 → t.rd a = s.rd a) ∧ t.tl.syms = s.tl.syms ∧ t.mem = s.mem) ∧
  (∀ (s : State) (act : Nat) (slot : Fin 4096), 1 ≤ act → act ≤ 16 → s.mayIssue slot act = true → s.leaseOk slot = true → s.eJob slot ≠ 0 → s.jobDone (s.eJob slot) = false → 
      Gives (forecastRow act slot) s fun t =>
      Issued s t slot 6 ∧ t.told = s.told ++ [(Ev.TL_JOB_LATE, [s.eCtx slot, s.eSeq slot, s.eJob slot])] ∧
      Counted s t R.TL_JOB_LATE_CNT ∧
      (∀ a, a ≠ R.TL_JOB_LATE_CNT → a ≠ ringWord slot 7 → t.rd a = s.rd a) ∧ t.tl.syms = s.tl.syms ∧ t.mem = s.mem) ∧
  (∀ (s : State) (act : Nat) (slot : Fin 4096), 1 ≤ act → act ≤ 16 → s.mayIssue slot act = false → 
      exec (forecastRow act slot) s = .next s)

/-- An issued DL_SYM or UL_SYM schedules NSYM symbols that follow each other from its target, on the available paths of its mask, the
uplink ones advanced by the carrier's uplink advance; a GUARD lends its span on its quadrants; ARM and DISARM plan a step for each
direction of each available path; MARK raises TL_MARK with SEQ; SRS_CAP plans the copy of its symbol; DFE_SYNC with the receive
bit notes the reset of the carrier's receive chains on its paths. Each is issued with STAT 1. -/
def Obligations.SymbolEntriesIssue : Prop :=
  (∀ (s : State) (slot : Fin 4096), Issues s slot Act.dlSym → 
      Gives (.dlSym slot) s fun t =>
      Issued s t slot 1 ∧ t.tl.syms.take s.tl.syms.length = s.tl.syms ∧
      (t.tl.syms.drop s.tl.syms.length).map (fun y => (y.slot, y.k, y.stamp, y.start, y.ul)) =
      (List.range (s.eNsym slot)).map (fun (k : Nat) => (slot.val, k, stAdd (s.eTgt slot) k,
      stStart (stAdd (s.eTgt slot) k), false)) ∧
      (t.tl.syms.drop s.tl.syms.length).map (fun y => (y.ctx, y.car, y.pmask, y.active, y.blank)) =
      List.replicate (s.eNsym slot) (s.eCtx slot, s.eCar slot, maskOf (s.paths (s.ePmask slot)), false, false)) ∧
  (∀ (s : State) (slot : Fin 4096), Issues s slot Act.ulSym → 
      Gives (.ulSym slot) s fun t =>
      Issued s t slot 1 ∧ t.tl.syms.take s.tl.syms.length = s.tl.syms ∧
      (t.tl.syms.drop s.tl.syms.length).map (fun y => (y.slot, y.k, y.stamp, y.start, y.ul)) =
      (List.range (s.eNsym slot)).map (fun (k : Nat) => (slot.val, k, stAdd (s.eTgt slot) k,
      shiftBy (stStart (stAdd (s.eTgt slot) k)) (-(s.ulAdv (s.eCar slot) : Int)), true)) ∧
      (t.tl.syms.drop s.tl.syms.length).map (fun y => (y.ctx, y.car, y.pmask, y.active, y.blank)) =
      List.replicate (s.eNsym slot) (s.eCtx slot, s.eCar slot, maskOf (s.paths (s.ePmask slot)), false, false)) ∧
  (∀ (s : State) (slot : Fin 4096), Issues s slot Act.guard_ → 
      Gives (.guard slot) s fun t =>
      Issued s t slot 1 ∧ t.tl.guards = s.tl.guards ++ [(s.eQmask slot, stStart (s.eTgt slot), stStart (stAdd (s.eTgt slot) (s.eNsym slot)), s.eCtx slot)]) ∧
  (∀ (s : State) (slot : Fin 4096), Issues s slot Act.arm → 
      Gives (.arm slot) s fun t =>
      Issued s t slot 1 ∧ t.tl.plan = s.tl.plan ++
      (s.paths (s.ePmask slot)).map (fun p => (⟨true, p, stStart (s.eTgt slot), stStart (s.eTgt slot)⟩ : ArmStep)) ++
      (s.paths (s.ePmask slot)).map (fun p => (⟨false, p, stStart (s.eTgt slot), stStart (s.eTgt slot)⟩ : ArmStep)) ∧ t.tl.dis = s.tl.dis) ∧
  (∀ (s : State) (slot : Fin 4096), Issues s slot Act.disarm → 
      Gives (.disarm slot) s fun t =>
      Issued s t slot 1 ∧ t.tl.dis = s.tl.dis ++
      (s.paths (s.ePmask slot)).map (fun p => (⟨true, p, stStart (s.eTgt slot), stStart (s.eTgt slot)⟩ : ArmStep)) ++
      (s.paths (s.ePmask slot)).map (fun p => (⟨false, p, stStart (s.eTgt slot), stStart (s.eTgt slot)⟩ : ArmStep)) ∧ t.tl.plan = s.tl.plan) ∧
  (∀ (s : State) (slot : Fin 4096), Issues s slot Act.mark → 
      Gives (.mark slot) s fun t =>
      Issued s t slot 1 ∧ t.told = s.told ++ [(Ev.TL_MARK, [s.eSeq slot])]) ∧
  (∀ (s : State) (slot : Fin 4096), Issues s slot Act.srsCap → 
      Gives (.srsCap slot) s fun t =>
      Issued s t slot 1 ∧ t.bf.srs = s.bf.srs ++
      [⟨slot, s.eTgt slot, s.eCar slot, s.eCtx slot, maskOf (s.paths (s.ePmask slot)), s.eParam slot, false, none⟩]) ∧
  (∀ (s : State) (slot : Fin 4096), Issues s slot Act.dfeSync → (s.eParam slot).testBit 1 = true → 
      Gives (.dfeSync slot) s fun t =>
      Issued s t slot 1 ∧ (s.eCar slot, shiftBy (stStart (s.eTgt slot)) (-(s.ulAdv (s.eCar slot) : Int))) ∈ t.tl.rxSync ∧
      ∀ p ∈ s.paths (s.ePmask slot &&& s.carPmask (s.eCar slot)), (s.eCar slot, true, p, s.eTgt slot) ∈ t.dfe.syncNext)

/-- A valid CHAN inside the permitted ranges stores its frequency in every synthesiser of its quadrants and one that is not OFF
calibrates; a CHAN with an invalid frequency changes no synthesiser and raises RF_CHAN_REJECT; AUX_TUNE does the same for the
auxiliary synthesiser; GAIN sets the codes of its paths, limited to 240 and 72, and holds those whose instant, the start of the
symbol in its direction, is still to come; DPD_SWAP swaps the bank of its ready path, clears READY and starts AGE anew; CFIR_SWAP
turns the transmit bank of its paths from the start of its symbol; WPAGE takes up the newest correction bank; an OBS_CAP of one
free tile that has nothing to wait for arms its capture and drives ORX_SEL to the path. -/
def Obligations.ControlEntriesIssue : Prop :=
  (∀ (s : State) (slot : Fin 4096), Issues s slot Act.chan → tuneOk (chanF (s.eParam slot)) (chanR (s.eParam slot)) = true → (s.mode = .listen ∨ (bitsOf (s.eQmask slot) 4).all (fun q => s.chanPermitted q (chanF (s.eParam slot))) = true) → 
      Gives (.chan slot) s fun t =>
      Issued s t slot 1 ∧ ∀ q ∈ bitsOf (s.eQmask slot) 4, t.lo q = chanF (s.eParam slot) ∧ t.syn q = (if s.syn q = 0 then 0 else 1)) ∧
  (∀ (s : State) (slot : Fin 4096), Issues s slot Act.chan → tuneOk (chanF (s.eParam slot)) (chanR (s.eParam slot)) = false → 
      Gives (.chan slot) s fun t =>
      Issued s t slot 1 ∧ t.told = s.told ++ [(Ev.RF_CHAN_REJECT, [s.eQmask slot, chanF (s.eParam slot), chanR (s.eParam slot)])] ∧
      ∀ a, a ≠ ringWord slot 7 → t.rd a = s.rd a) ∧
  (∀ (s : State) (slot : Fin 4096), Issues s slot Act.auxTune → tuneOk (chanF (s.eParam slot)) (chanR (s.eParam slot)) = true → 
      Gives (.auxTune slot) s fun t =>
      Issued s t slot 1 ∧ t.lo 4 = chanF (s.eParam slot) ∧ t.syn 4 = (if s.syn 4 = 0 then 0 else 1)) ∧
  (∀ (s : State) (slot : Fin 4096), Issues s slot Act.gain → s.tl.gains = [] → s.rel (stStart (s.eTgt slot)) ≤ 0 → s.rel (shiftBy (stStart (s.eTgt slot)) (-(s.ulAdv (s.eCar slot) : Int))) ≤ 0 → 
      Gives (.gain slot) s fun t =>
      Issued s t slot 1 ∧ (∀ p, p < 64 → t.get (R.RF_PATH_STATE p) F.RF_PATH_STATE_TXATT =
      if (s.paths (s.ePmask slot)).contains p ∧ (s.eParam slot).testBit 15 = true then min (s.eParam slot % 2 ^ 8) 240
      else s.get (R.RF_PATH_STATE p) F.RF_PATH_STATE_TXATT) ∧
      (∀ p, p < 64 → t.get (R.RF_PATH_STATE p) F.RF_PATH_STATE_RXATT =
      if (s.paths (s.ePmask slot)).contains p ∧ (s.eParam slot).testBit 16 = true then min (s.eParam slot / 2 ^ 8 % 2 ^ 7) 72
      else s.get (R.RF_PATH_STATE p) F.RF_PATH_STATE_RXATT)) ∧
  (∀ (s : State) (slot : Fin 4096), Issues s slot Act.gain → s.tl.gains = [] → (s.eParam slot).testBit 15 = true → (s.eParam slot).testBit 16 = true → 0 < s.rel (stStart (s.eTgt slot)) → 0 < s.rel (shiftBy (stStart (s.eTgt slot)) (-(s.ulAdv (s.eCar slot) : Int))) → 
      Gives (.gain slot) s fun t =>
      Issued s t slot 1 ∧ (∀ p, p < 64 → t.rd (R.RF_PATH_STATE p) = s.rd (R.RF_PATH_STATE p)) ∧
      t.tl.gains = (s.paths (s.ePmask slot)).map (fun p => ⟨p, true, min (s.eParam slot % 2 ^ 8) 240, s.atNow (stStart (s.eTgt slot))⟩) ++
      (s.paths (s.ePmask slot)).map (fun p => ⟨p, false, min (s.eParam slot / 2 ^ 8 % 2 ^ 7) 72,
      s.atNow (shiftBy (stStart (s.eTgt slot)) (-(s.ulAdv (s.eCar slot) : Int)))⟩)) ∧
  (∀ (s : State) (slot : Fin 4096) (p : Nat), Issues s slot Act.dpdSwap → s.paths (s.ePmask slot) = [p] → s.flag (R.DFE_DPD_STATUS p) F.DFE_DPD_STATUS_READY = true → 
      Gives (.dpdSwap slot) s fun t =>
      Issued s t slot 1 ∧ t.get (R.DFE_DPD_STATUS p) F.DFE_DPD_STATUS_ACT = 1 - s.get (R.DFE_DPD_STATUS p) F.DFE_DPD_STATUS_ACT ∧
      t.flag (R.DFE_DPD_STATUS p) F.DFE_DPD_STATUS_READY = false ∧ t.get (R.DFE_DPD_QUAL p) F.DFE_DPD_QUAL_AGE = 0 ∧
      t.told = s.told ++ [(Ev.DFE_DPD_SWAPPED, [s.eSeq slot])]) ∧
  (∀ (s : State) (slot : Fin 4096), Issues s slot Act.cfirSwap → (s.eParam slot).testBit 0 = true → (s.eParam slot).testBit 1 = false → s.dfe.cfirSwap.contains (s.eCar slot, 0, stStart (s.eTgt slot)) = false → 
      Gives (.cfirSwap slot) s fun t =>
      Issued s t slot 1 ∧ t.dfe.cfirSwap = s.dfe.cfirSwap ++ [(s.eCar slot, 0, stStart (s.eTgt slot))] ∧
      t.dfe.firNext = s.dfe.firNext ++ ((s.paths (s.carPmask (s.eCar slot))).filter (s.ePmask slot).testBit).map (fun p => (s.eCar slot, false, p, s.eTgt slot))) ∧
  (∀ (s : State) (slot : Fin 4096), Issues s slot Act.wpage → s.carBeam (s.eCar slot) = true → 
      Gives (.wpage slot) s fun t =>
      Issued s t slot 1 ∧ t.get (R.BF_CAR_STAT (s.eCar slot)) F.BF_CAR_STAT_ACBANK = s.get R.CV_ACAL_STATUS F.CV_ACAL_STATUS_BANK) ∧
  (∀ (s : State) (slot : Fin 4096) (k p : Nat), Issues s slot Act.obsCap → bitsOf (s.eTmask slot) 8 = [k] → s.obsPath slot k = some p → s.obsFree slot k = true → s.pins.orxSel.length = 8 → s.obsHold slot = none → 
      Gives (.obsCap slot) s fun t =>
      Issued s t slot 1 ∧ t.get (R.DFE_CAP_STATUS k) F.DFE_CAP_STATUS_STATE = 1 ∧ t.get (R.DFE_CAP_STATUS k) F.DFE_CAP_STATUS_PATH = p ∧
      nth t.pins.orxSel k 9 = p % 8)

/-- A write of TL_SFN_LOAD is kept for the next frame start and changes no register; ALIGN arms a realignment in Provisioned and
Standby and does nothing elsewhere; the alignment edge starts a frame with the loaded or the next frame number and sets ALIGNED;
at a frame boundary TL_FRAME_ERR shows the error, a frame starts unless one just has, the duty counts start anew, and TDD leads
that wait take effect. -/
def Obligations.FrameCounter : Prop :=
  (∀ (s : State) (sfn : BitVec 10), Gives (.tlSfnLoad sfn) s fun t =>
      t.tl.sfnLoad = some sfn.toNat ∧ (∀ a, t.rd a = s.rd a) ∧ t.tl.sfn = s.tl.sfn) ∧
  (∀ (s : State), s.mode = .provisioned ∨ s.mode = .standby → 
      Gives .tlCtrlAlign s fun t =>
      t.tl.alignArmed = true) ∧
  (∀ (s : State), s.mode ≠ .provisioned → s.mode ≠ .standby → 
      exec .tlCtrlAlign s = .next s) ∧
  (∀ (s : State), s.tl.alignArmed = true → s.mode = .provisioned ∨ s.mode = .standby → 
      Gives .frameAlignEdge s fun t =>
      t.tl.alignArmed = false ∧ t.tl.cyc = 0 ∧ t.tl.sfn = s.tl.sfnLoad.getD ((s.tl.sfn + 1) % 1024) ∧ t.tl.sfnLoad = none ∧
      t.flag R.TL_STATUS F.TL_STATUS_ALIGNED = true) ∧
  (∀ (s : State), Gives (.frameBoundary ()) s fun t =>
      t.rd R.TL_FRAME_ERR = BitVec.ofNat 32 (unsigned 32 s.frameErr) ∧ t.tl.cyc = 0 ∧
      t.tl.sfn = (if s.tl.cyc = 0 ∧ s.tl.sfnLoad = none then s.tl.sfn else s.tl.sfnLoad.getD ((s.tl.sfn + 1) % 1024)) ∧
      t.rf.dutyN = List.replicate 64 0 ∧ t.rf.tddNext = none ∧ t.rf.regNext = none) ∧
  (∀ (s : State) (v : List Nat), s.rf.tddNext = some v → 
      Gives (.frameBoundary ()) s fun t =>
      t.get R.RF_TDD_LEAD F.RF_TDD_LEAD_TX_LEAD = nth v 0 0 % 2 ^ F.RF_TDD_LEAD_TX_LEAD.w ∧
      t.get R.RF_TDD_LEAD F.RF_TDD_LEAD_RX_LEAD = nth v 1 0 % 2 ^ F.RF_TDD_LEAD_RX_LEAD.w)

/-- With the tick generator of its numerology on, the lock check of a symbol splits its quadrants into locked and unlocked ones, with
STAT 3 when one is unlocked, and one that violates the turn-round is absent, counted and reported; a symbol that starts becomes
active, and blanked in a fill window, and an armed path that passed its lock check becomes ACTIVE; an uplink symbol that ends is
no longer active and a downlink one leaves the schedule, and its path returns to ARMED when nothing follows; a stage that starts
in its window is noted for its symbol; a stage deadline blanks the symbol with STAT 2, its count and TL_OVERRUN. -/
def Obligations.SymbolEvents : Prop :=
  (∀ (s : State) (slot : Fin 4096) (k : Fin 14) (y : Sym), s.symOf slot k = some y → y.active = false → y.okQ = [] → y.lateQ = [] → y.absent = false → s.ticks (stNum y.stamp) = true → s.rel y.start ≤ 738 → s.turnBad y = false → 
      Gives (.lockCheck slot k) s fun t =>
      t.symOf slot k = some { y with okQ := (quadsOf y.pmask).filter s.locked, lateQ := (quadsOf y.pmask).filter (fun q => !s.locked q), blank := y.blank || ((quadsOf y.pmask).filter s.locked).isEmpty } ∧
      ((quadsOf y.pmask).any (fun q => !s.locked q) = true → t.eStat slot = 3)) ∧
  (∀ (s : State) (slot : Fin 4096) (k : Fin 14) (y : Sym), s.symOf slot k = some y → y.active = false → y.okQ = [] → y.lateQ = [] → y.absent = false → s.ticks (stNum y.stamp) = true → s.rel y.start ≤ 738 → s.turnBad y = true → 
      Gives (.lockCheck slot k) s fun t =>
      t.symOf slot k = some { y with absent := true } ∧ Counted s t R.TL_TURN_BLANK_CNT ∧
      t.told = s.told ++ [(Ev.TL_TURN_BLANK, [y.car, y.stamp])]) ∧
  (∀ (s : State) (slot : Fin 4096) (k : Fin 14) (y : Sym), s.symOf slot k = some y → y.active = false → s.ticks (stNum y.stamp) = true → s.come y.start = true → 
      Gives (.symbolStart slot k) s fun t =>
      t.symOf slot k = some { y with active := true, blank := y.blank || (!y.absent && s.inFill y) }) ∧
  (∀ (s : State) (slot : Fin 4096) (k : Fin 14) (y : Sym) (p : Nat), s.symOf slot k = some y → y.active = false → s.ticks (stNum y.stamp) = true → s.come y.start = true → y.absent = false → bitsOf y.pmask 64 = [p] → s.cannotArm p (!y.ul) = false → y.okQ.contains (quadOf p) = true → s.pathSt (!y.ul) p = Ps.armed → y.ul = true ∨ s.mayTx = true → 
      Gives (.symbolStart slot k) s fun t =>
      t.pathSt (!y.ul) p = Ps.active) ∧
  (∀ (s : State) (slot : Fin 4096) (k : Fin 14) (y : Sym), s.symOf slot k = some y → y.active = true → s.rel y.start + stLen y.stamp ≤ 0 → 
      Gives (.symbolEnd slot k) s fun t =>
      t.symOf slot k = if y.ul then some { y with active := false, stage := max y.stage 4 } else none) ∧
  (∀ (s : State) (slot : Fin 4096) (k : Fin 14) (y : Sym) (p : Nat), s.symOf slot k = some y → y.active = true → s.rel y.start + stLen y.stamp ≤ 0 → bitsOf y.pmask 64 = [p] → s.pathSt (!y.ul) p = Ps.active → s.otherActive y p = false → s.follows y p (shiftBy y.start (stLen y.stamp)) = false → 
      Gives (.symbolEnd slot k) s fun t =>
      t.pathSt (!y.ul) p = Ps.armed) ∧
  (∀ (s : State) (slot : Fin 4096) (k : Fin 14) (y : Sym) (stage : Fin 8) (work : List StageWork), s.symOf slot k = some y → y.ul = stageUl stage → stage.val ≤ 4 → s.stageDone y stage = false → s.ticks (stNum y.stamp) = true → (s.stageWin y stage).1 ≤ 0 → 0 < (s.stageWin y stage).2 → 
      Gives (.pipelineStageStart stage slot k work) s fun t =>
      t.symOf slot k = some { y with stage := max y.stage (stage.val + 1) } ∧ t.tl.syms.length = s.tl.syms.length) ∧
  (∀ (s : State) (slot : Fin 4096) (k : Fin 14) (y : Sym) (stage : Fin 6), s.symOf slot k = some y → y.blank = false → y.absent = false → y.ul = decide (3 ≤ stage.val) → s.ticks (stNum y.stamp) = true → (s.stageWin y stage).2 ≤ 0 → 
      Gives (.stageDeadline stage slot k) s fun t =>
      t.symOf slot k = some { y with blank := true } ∧ t.eStat slot = 2 ∧
      t.told = s.told ++ [(Ev.TL_OVERRUN, [stage.val, y.stamp, y.car, (bitsOf y.pmask 64).length])] ∧
      Counted s t (R.TL_OVERRUN_CNT stage))

/-- With no debt the first arming step of the sequence, at its instant, arms its path and puts its size on the limiter, and the first
disarming step that fits before the next arming step turns its idle path OFF; TL_DISARM_GAP after the last symbol of an idle
direction that no symbol needs plans its disarming; a CAL_BORROW that nothing holds lends its windows, and one that finds no
lendable quadrant is deferred once with STAT 7, its count and TL_GUARD_CONFLICT and waits on; an interval of a kind without a
completed step is reported when it ends. -/
def Obligations.ArmingAndBorrowing : Prop :=
  (∀ (s : State) (a : ArmStep) (due : Int) (rest : List (ArmStep × Int)), s.armSeq = (a, due) :: rest → s.pm.debt = 0 → due ≤ 0 → s.armWaits a = false → 
      Gives .pathArmStep s fun t =>
      t.pathSt a.tx a.path = Ps.armed ∧ t.pm.debt = 49152 * s.armSize a.tx ∧
      t.tl.plan = s.tl.plan.filter (fun b => !(b.tx = a.tx && b.path = a.path))) ∧
  (∀ (s : State) (a : ArmStep), s.disarmHead = some a → s.pathSt a.tx a.path = Ps.armed → s.pm.debt = 0 → s.fitsBefore (s.armSize a.tx) = true → 
      Gives .pathDisarmStep s fun t =>
      t.pathSt a.tx a.path = Ps.off ∧ t.pm.debt = 49152 * s.armSize a.tx ∧
      t.tl.dis = s.tl.dis.filter (fun b => !(b.tx = a.tx && b.path = a.path))) ∧
  (∀ (s : State) (path : Fin 64) (tx : Bool) (e : Nat), s.lastEnd tx path = some e → s.pathSt tx path = Ps.armed ∨ s.pathSt tx path = Ps.muted → e + (s.rd R.TL_DISARM_GAP).toNat ≤ s.now → s.gapNeeded tx path ((e : Int) + ((s.rd R.TL_DISARM_GAP).toNat : Int) - (s.now : Int)) = false → 
      Gives (.disarmGapExpiry path tx) s fun t =>
      t.tl.dis = s.tl.dis ++ [⟨tx, path, s.tlNow, s.tlNow⟩]) ∧
  (∀ (s : State) (slot : Fin 4096), Issues s slot Act.calBorrow → s.borrowHold slot = none → 
      Gives (.calBorrow slot) s fun t =>
      Issued s t slot 1 ∧ t.tl.lent = s.tl.lent ++ (s.borrowQs slot).map (s.lentOf slot)) ∧
  (∀ (s : State) (slot : Fin 4096), Issues s slot Act.calBorrow → s.auxWaits slot = false → s.eKind slot = 3 → s.borrowQs slot = [] → s.tl.waits.contains slot.val = false → 
      Gives (.calBorrow slot) s fun t =>
      t.tl.pend = s.tl.pend ∧ t.tl.waits.contains slot.val = true ∧ t.eStat slot = 7 ∧
      t.told = s.told ++ [(Ev.TL_GUARD_CONFLICT, [s.eKind slot, s.eSeq slot])] ∧
      Counted s t (R.TL_DEFER_CNT (s.eKind slot - 1)) ∧ t.tl.lent = s.tl.lent) ∧
  (∀ (s : State) (kind : Fin 5), 2 ≤ kind.val → nth s.cv.since (kind.val - 2) 0 + s.interval kind.val ≤ s.now → s.tl.stepDone.contains kind.val = false → 
      Gives (.borrowIntervalExpiry kind) s fun t =>
      t.told = s.told ++ [(Ev.TL_BORROW_STARVED, [kind.val])]) ∧
  (∀ (s : State) (kind : Fin 5), 2 ≤ kind.val → nth s.cv.since (kind.val - 2) 0 + s.interval kind.val ≤ s.now → s.tl.stepDone.contains kind.val = true → 
      Gives (.borrowIntervalExpiry kind) s fun t =>
      t.told = s.told ∧ t.tl.stepDone.contains kind.val = false)

/-- A calibration that verifies lock ends LOCKED; a run without lock is repeated once, and the second one ends FAILED with
RF_SYN_CAL_FAIL; a loss of lock leaves the synthesiser LOST, counts it, mutes the armed and active paths of its quadrant, lowers
its enable pins and raises RF_LO_UNLOCK, or RF_AUX_UNLOCK for the auxiliary one; an enable pin rises when its direction wants it
and, in TDD, the other pin is low, which is so from its lead time on while a symbol of that direction stands on the tile, and
falls its lag after the last symbol when nothing wants it. -/
def Obligations.SynthesisersAndPins : Prop :=
  (∀ (s : State) (syn : Fin 5) (us : BitVec 8), s.syn syn = 1 → 
      Gives (.synCalDone syn us true) s fun t =>
      t.syn syn = 2 ∧ t.get (R.RF_SYN_STATUS syn) F.RF_SYN_STATUS_CAL_US = min (nth s.rf.calUs syn 0 + us.toNat) 1023) ∧
  (∀ (s : State) (syn : Fin 5) (us : BitVec 8), s.syn syn = 1 → nth s.rf.retry syn false = false → 
      Gives (.synCalDone syn us false) s fun t =>
      t.syn syn = 1 ∧ t.rf.retry = s.rf.retry.set syn true ∧ t.told = s.told) ∧
  (∀ (s : State) (syn : Fin 5) (us : BitVec 8), s.syn syn = 1 → nth s.rf.retry syn false = true → 
      Gives (.synCalDone syn us false) s fun t =>
      t.syn syn = 4 ∧ t.told = s.told ++ [(Ev.RF_SYN_CAL_FAIL, [syn.val])]) ∧
  (∀ (s : State) (syn : Fin 5), s.syn syn = 1 → nth s.rf.retry syn false = true → 
      Gives (.synCalTimeout syn) s fun t =>
      t.syn syn = 4 ∧ t.told = s.told ++ [(Ev.RF_SYN_CAL_FAIL, [syn.val])]) ∧
  (∀ (s : State) (syn : Fin 5), s.syn syn = 1 → nth s.rf.retry syn false = false → 
      Gives (.synCalTimeout syn) s fun t =>
      t.syn syn = 1 ∧ t.rf.retry = s.rf.retry.set syn true ∧ t.told = s.told) ∧
  (∀ (s : State) (syn : Fin 5), s.syn syn = 2 → 
      Gives (.synLockLoss syn) s fun t =>
      t.syn syn = 3 ∧ Counted s t (R.RF_LO_UNLOCK_CNT syn) ∧ t.told.getLast? = some (if syn = 4 then (Ev.RF_AUX_UNLOCK, []) else (Ev.RF_LO_UNLOCK, [syn.val]))) ∧
  (∀ (s : State) (syn : Fin 5), s.syn syn = 2 → syn.val < 4 → 
      Gives (.synLockLoss syn) s fun t =>
      nth t.pins.txen (2 * syn.val) false = false ∧ nth t.pins.txen (2 * syn.val + 1) false = false ∧
      ∀ p, p < 64 → quadOf p = syn.val → t.tx p = if s.tx p = Ps.armed ∨ s.tx p = Ps.active then Ps.muted else s.tx p) ∧
  (∀ (s : State) (tile : Fin 8), s.pinWant tile true = true → s.mode ≠ .tdd ∨ nth s.pins.rxen tile false = false → 
      Gives (.tddPinRise tile true) s fun t =>
      t.pins.txen = s.pins.txen.set tile true ∧ t.pins.rxen = s.pins.rxen) ∧
  (∀ (s : State) (tile : Fin 8), s.pinWant tile false = true → s.mode ≠ .tdd ∨ nth s.pins.txen tile false = false → 
      Gives (.tddPinRise tile false) s fun t =>
      t.pins.rxen = s.pins.rxen.set tile true ∧ t.pins.txen = s.pins.txen) ∧
  (∀ (s : State) (tile : Fin 8) (tx : Bool) (y : Sym), y ∈ s.tl.syms → s.mode ≠ .calibration → tx = false ∨ s.mayTx = true → s.symHolds tile (!tx) y = true → y.active = true ∨ s.rel y.start ≤ s.pinLead tx → y.ul = false ∨ y.stage < 4 → 
      s.pinWant tile tx = true) ∧
  (∀ (s : State) (tile : Fin 8) (tx : Bool), s.pinWant tile tx = false → (∀ e, nth (if tx then s.tl.endDl else s.tl.endUl) tile none = some e → e + s.pinLag tx ≤ s.now) → 
      Gives (.tddPinFall tile tx) s fun t =>
      (if tx then t.pins.txen = s.pins.txen.set tile false ∧ t.pins.rxen = s.pins.rxen
      else t.pins.rxen = s.pins.rxen.set tile false ∧ t.pins.txen = s.pins.txen))

/-- A bias output ramps towards what its mode wants and ends its ramp at that code; a charge that reaches QMAX makes the output
high-impedance and the path FAULT, with its event; a sample above the peak limit is counted, and reported once for a path and
symbol; a mean power above the RMS limit and a duty limit reached mute the path, count and report; a muted path returns to ARMED
at its guard's end; a list that the list table names starts, at its trigger's instant, on a free bus and else waits, and the end
of a list frees the bus or starts the next one, counted and reported as late. -/
def Obligations.BiasGuardAndRffe : Prop :=
  (∀ (s : State) (path : Fin 64), s.biasWant path = true → s.avail path = true → s.tx path ≠ Ps.fault → s.pm.rampOn = false → s.pm.shut = none → s.bias path = 1 ∨ s.bias path = 4 → 
      Gives (.pabiasRampStart path) s fun t =>
      t.rf.bias = s.rf.bias.set path 3 ∧ ∀ a, t.rd a = s.rd a) ∧
  (∀ (s : State) (path : Fin 64), s.biasWant path = false → s.bias path = 2 ∨ s.bias path = 3 → 
      Gives (.pabiasRampStart path) s fun t =>
      t.rf.bias = s.rf.bias.set path 4 ∧ ∀ a, t.rd a = s.rd a) ∧
  (∀ (s : State) (path : Fin 64), s.bias path = 3 ∨ s.bias path = 4 → 
      Gives (.pabiasRampEnd path) s fun t =>
      t.rf.bias = s.rf.bias.set path (if s.bias path = 3 then 2 else 1)) ∧
  (∀ (s : State) (path : Fin 64), s.bias path = 3 ∨ s.bias path = 4 → 
      Gives (.pabiasChargeTrip path) s fun t =>
      t.rf.bias = s.rf.bias.set path 0 ∧ t.tx path = Ps.fault ∧ t.told = s.told ++ [(Ev.RF_PABIAS_FAULT, [path.val])]) ∧
  (∀ (s : State) (path : Fin 64) (i q : BitVec 16), s.tx path = Ps.active → aboveLimit (i.toInt * i.toInt + q.toInt * q.toInt).toNat (2 ^ 30) (s.get (R.RF_REG_PEAK path) F.RF_REG_PEAK_LVL) = true → 
      Gives (.guardPeakClip path i q) s fun t =>
      Counted s t (R.RF_REG_PEAK_CNT path) ∧
      t.told = (if s.rf.peaked.contains path.val then s.told else s.told ++ [(Ev.RF_REG_PEAK, [path.val])]) ∧
      t.rf.peaked.contains path.val = true ∧ t.dfe.out.any (fun o => o.1 = 4 && o.2.1 = path.val) = true) ∧
  (∀ (s : State) (path : Fin 64) (energy : BitVec 64), s.tx path = Ps.active ∨ s.tx path = Ps.armed → aboveLimit energy.toNat (guardWindow (s.get (R.RF_REG_RMS path) F.RF_REG_RMS_WIN) * 2 ^ 30) (s.get (R.RF_REG_RMS path) F.RF_REG_RMS_LVL) = true → 
      Gives (.guardRmsMute path energy) s fun t =>
      t.tx path = Ps.muted ∧ t.get (R.RF_PATH_STATE path) F.RF_PATH_STATE_MUTE = 2 ∧
      t.told = s.told ++ [(Ev.RF_REG_RMS, [path.val])] ∧
      Counted s t (R.RF_REG_RMS_CNT path) ∧ t.guardHeld path = decide (s.rf.hold.any (fun h => h.1 = path && h.2.elim true (fun e => decide (s.now < e))) = true ∨ 0 < guardWindow (s.get (R.RF_REG_RMS path) F.RF_REG_RMS_WIN) / 2)) ∧
  (∀ (s : State) (path : Fin 64), s.tx path = Ps.muted → (s.rf.hold.any (fun h => h.1 = path.val) = true) → s.guardHeld path = false → s.locked (quadOf path) = true → 
      Gives (.guardMuteEnd path) s fun t =>
      t.tx path = Ps.armed) ∧
  (∀ (s : State) (path : Fin 64), s.tx path = Ps.active → s.dutyFree path = false → s.rf.dutyDone.contains path.val = false → s.dutyLimit10 path ≤ 10 * nth s.rf.dutyN path 0 → 
      Gives (.guardDutyLimit path) s fun t =>
      t.tx path = Ps.muted ∧ t.get (R.RF_PATH_STATE path) F.RF_PATH_STATE_MUTE = 3 ∧
      t.told = s.told ++ [(Ev.RF_REG_DUTY, [path.val])] ∧
      Counted s t (R.RF_REG_DUTY_CNT path)) ∧
  (∀ (s : State) (q : Fin 4) (trig : Fin 6), nth s.rf.rffeRun q none = none → 
      Gives (.rffeListStart q trig) s fun t =>
      (if (s.rffeTable q trig).2.1 = 0 ∨ s.rffeCome q trig = false then t = s
      else t.rf.rffeRun = s.rf.rffeRun.set q (some trig.val) ∧ t.rf.rffeDue = s.rf.rffeDue ∧
      t.rf.rffeSent = s.rf.rffeSent.set q [16, (s.rffeTable q trig).1, (s.rffeTable q trig).2.1])) ∧
  (∀ (s : State) (q : Fin 4) (trig : Fin 6), nth s.rf.rffeRun q none ≠ none → 
      Gives (.rffeListStart q trig) s fun t =>
      (if (s.rffeTable q trig).2.1 = 0 ∨ s.rffeCome q trig = false then t = s
      else t.rf.rffeDue = s.rf.rffeDue.set q (nth s.rf.rffeDue q [] ++ [trig.val]) ∧ t.rf.rffeRun = s.rf.rffeRun)) ∧
  (∀ (s : State) (q : Fin 4), nth s.rf.rffeRun q none ≠ none → nth s.rf.rffeDue q [] = [] → 
      Gives (.rffeListEnd q) s fun t =>
      t.rf.rffeRun = s.rf.rffeRun.set q none ∧ t.told = s.told) ∧
  (∀ (s : State) (q : Fin 4) (d : Nat) (l : List Nat), nth s.rf.rffeRun q none ≠ none → nth s.rf.rffeDue q [] = d :: l → 
      Gives (.rffeListEnd q) s fun t =>
      t.rf.rffeRun = s.rf.rffeRun.set q (some d) ∧ t.rf.rffeDue = s.rf.rffeDue.set q l ∧
      t.told = s.told ++ [(Ev.RF_RFFE_LATE, [q.val, d])] ∧
      Counted s t (R.RF_RFFE_LATE_CNT q))

/-- Foreground calibration sets the coefficients of each slice it reports and retires exactly a slice outside its limits; the DAC trim
records the worst segment and fails a DAC above 0.05 LSB; a pair in its phase goes from SETTLE to OFFLINE, to READY when both
spares lie within their limits, to SHADOW, and from a passing gate to HANDOVER or, failing and not forced, back to SETTLE with the
gate failures counted; a handover, at the first sample of the slot's turn at its reference instant, gives slot NEXT of the first
ADC to its spare, makes the incumbent the spare and starts the next period. -/
def Obligations.SliceCalibrationAndRotation : Prop :=
  (∀ (s : State) (c : SliceCal), s.cv.fgDone = false → c.adc < 144 → c.slice < 9 → 
      Gives (.foregroundCalDone [c]) s fun t =>
      t.cv.fgDone = true ∧ t.get (R.CV_SLICE_COEF c.adc c.slice) F.CV_SLICE_COEF_GAIN = c.gain.toNat ∧
      t.get (R.CV_SLICE_COEF c.adc c.slice) F.CV_SLICE_COEF_OFS = c.ofs.toNat ∧ t.retired c.adc c.slice = sliceOut c) ∧
  (∀ (s : State) (d : Fin 128) (w : BitVec 8), s.cv.dacDone = false → 
      Gives (.dacTrimDone [(d, w)]) s fun t =>
      t.cv.dacDone = true ∧ t.get (R.CV_DAC_STATUS d) F.CV_DAC_STATUS_WORST = w.toNat ∧
      t.flag (R.CV_DAC_STATUS d) F.CV_DAC_STATUS_FAIL = decide (5 < w.toNat) ∧
      t.told = s.told ++ (if 5 < w.toNat then [(Ev.CV_DAC_CAL_FAIL, [d.val])] else [])) ∧
  (∀ (s : State) (pair : Fin 72), s.rotIn pair 0 = true → 
      Gives (.rotSettleEnd pair) s fun t =>
      t.phase (2 * pair.val) = 1 ∧ t.phase (2 * pair.val + 1) = 1) ∧
  (∀ (s : State) (pair : Fin 72) (ci cq : SliceCal), s.rotIn pair 1 = true → sliceOut { ci with dly := s.tapOf (2 * pair.val) (s.spare (2 * pair.val)) } = false → sliceOut { cq with dly := s.tapOf (2 * pair.val + 1) (s.spare (2 * pair.val + 1)) } = false → 
      Gives (.rotOfflineEnd pair ci cq) s fun t =>
      t.phase (2 * pair.val) = 2 ∧ t.phase (2 * pair.val + 1) = 2 ∧
      t.get (R.CV_SLICE_COEF (2 * pair.val) (s.spare (2 * pair.val))) F.CV_SLICE_COEF_GAIN = ci.gain.toNat) ∧
  (∀ (s : State) (pair : Fin 72), s.rotIn pair 2 = true → 
      Gives (.rotShadowStart pair) s fun t =>
      t.phase (2 * pair.val) = 3 ∧ t.phase (2 * pair.val + 1) = 3) ∧
  (∀ (s : State) (pair : Fin 72) (usable : Bool) (i q : Shadow), s.rotIn pair 3 = true → gateOk usable i = true → gateOk usable q = true → 
      Gives (.rotShadowEnd pair usable i.cal (i.dg, i.dO, i.dt) (i.resO, i.resG, i.resT) q.cal (q.dg, q.dO, q.dt) (q.resO, q.resG, q.resT)) s fun t =>
      t.phase (2 * pair.val) = 4 ∧ t.phase (2 * pair.val + 1) = 4 ∧ t.told = s.told ∧
      t.get (R.CV_SLICE_COEF (2 * pair.val) (s.spare (2 * pair.val))) F.CV_SLICE_COEF_OFS = i.cal.ofs.toNat) ∧
  (∀ (s : State) (pair : Fin 72) (usable : Bool) (i q : Shadow), s.rotIn pair 3 = true → gateOk usable i = false ∨ gateOk usable q = false → s.get (R.CV_ADC_STATUS (2 * pair.val)) F.CV_ADC_STATUS_FAILS < fldGet F.CV_ROT_CFG_FORCE_N (s.rotCfg pair).1 → 
      Gives (.rotShadowEnd pair usable i.cal (i.dg, i.dO, i.dt) (i.resO, i.resG, i.resT) q.cal (q.dg, q.dO, q.dt) (q.resO, q.resG, q.resT)) s fun t =>
      t.phase (2 * pair.val) = 0 ∧ t.phase (2 * pair.val + 1) = 0 ∧
      Counted s t (R.CV_GATE_FAIL_CNT (2 * pair.val))) ∧
  (∀ (s : State) (pair : Fin 72) (d : Nat), s.rotIn pair 4 = true → s.handBack pair = some d → pair.val < 64 ∨ s.obsBusy (pair.val - 64) = false → 
      Gives (.sliceHandover pair () () () ()) s fun t =>
      t.phase (2 * pair.val) = 0 ∧ t.phase (2 * pair.val + 1) = 0 ∧
      t.get (R.CV_ADC_MAP (2 * pair.val)) (fSlot (s.get (R.CV_ADC_STATUS (2 * pair.val)) F.CV_ADC_STATUS_NEXT)) = s.spare (2 * pair.val) ∧
      t.spare (2 * pair.val) = s.get (R.CV_ADC_MAP (2 * pair.val)) (fSlot (s.get (R.CV_ADC_STATUS (2 * pair.val)) F.CV_ADC_STATUS_NEXT)) ∧
      t.get (R.CV_ADC_STATUS (2 * pair.val)) F.CV_ADC_STATUS_NEXT = (s.get (R.CV_ADC_STATUS (2 * pair.val)) F.CV_ADC_STATUS_NEXT + 1) % 8 ∧
      t.cv.handAt.head? = some (pair.val, handSample (s.tlNow - d) (s.get (R.CV_ADC_STATUS (2 * pair.val)) F.CV_ADC_STATUS_NEXT)))

/-- Statistics of an ACTIVE path stage a receive correction, reported when it stands at an end of its range, and its application
writes it; a kind 3 step records its quality with AGE 0 and stages values limited to their ranges, which the application writes;
an implausible kind 4 step is discarded and reported, and the fourth good one stages its values with AGE 0; a kind 2 step leaves
the steps under way and counts for its interval; a solve whose residuals fail changes no bank and one that passes makes the other
bank the newest, now or, while a carrier still reads it, when the waiting result is written. -/
def Obligations.CorrectionsAndArrayCalibration : Prop :=
  (∀ (s : State) (path : Fin 64) (eps phi dci dcq : BitVec 16), s.rx path = Ps.active → 2 ^ 22 ≤ nth s.cv.rxqN path 0 → 
      Gives (.rxqStatsDone path (eps, phi) (dci, dcq)) s fun t =>
      t.cv.rxqNext.head? = some (path.val, BitVec.ofNat 32 (eps.toNat + 2 ^ 16 * phi.toNat), dci.toInt, dcq.toInt) ∧
      t.told = s.told ++ (if q15End eps ∨ q15End phi ∨ q15End dci ∨ q15End dcq then [(Ev.CV_RXQ_LIMIT, [path.val])] else []) ∧
      ∀ a, t.rd a = s.rd a) ∧
  (∀ (s : State) (path : Fin 64) (w : Word) (dc : Int × Int), (s.cv.rxqNext.find? (fun x => x.1 = path.val) = some (path.val, w, dc)) → 
      Gives (.rxqCorrectionApply path) s fun t =>
      t.rd (R.CV_RXQ path) = w ∧ t.cv.rxqNext = s.cv.rxqNext.filter (fun x => x.1 != path.val) ∧
      t.cv.rxDc.find? (fun x => x.1 = path.val) = some (path.val, dc) ∧ ∀ a, a ≠ R.CV_RXQ path → t.rd a = s.rd a) ∧
  (∀ (s : State) (path : Fin 64) (dci dcq eps phi : BitVec 18) (leak img : BitVec 8), s.running.contains (3, path.val) = true → 
      Gives (.txqCalStepDone path dci dcq eps phi leak img) s fun t =>
      t.get (R.CV_TXQ_QUAL path) F.CV_TXQ_QUAL_LEAK = leak.toNat ∧ t.get (R.CV_TXQ_QUAL path) F.CV_TXQ_QUAL_IMG = img.toNat ∧
      t.get (R.CV_TXQ_QUAL path) F.CV_TXQ_QUAL_AGE = 0 ∧ t.cv.steps = s.cv.steps.erase (3, path.val) ∧
      t.tl.stepDone.contains 3 = true ∧ t.cv.txqNext.head? = some (path.val,
      BitVec.ofNat 32 (unsigned 16 (clampTo 8192 dci.toInt) + 2 ^ 16 * unsigned 16 (clampTo 8192 dcq.toInt)),
      BitVec.ofNat 32 (unsigned 16 (clampTo 4096 eps.toInt) + 2 ^ 16 * unsigned 16 (clampTo 4096 phi.toInt)))) ∧
  (∀ (s : State) (path : Fin 64) (dc im : Word), (s.cv.txqNext.find? (fun x => x.1 = path.val) = some (path.val, dc, im)) → 
      Gives (.txqValuesApply path) s fun t =>
      t.rd (R.CV_TXQ_DC path) = dc ∧ t.rd (R.CV_TXQ_IMB path) = im ∧ t.cv.txqNext = s.cv.txqNext.filter (fun x => x.1 != path.val)) ∧
  (∀ (s : State) (tile : Fin 8) (dc imb dev : BitVec 16) (vals : List Nat), s.running.contains (4, tile.val) = true → -300 < dc.toInt ∨ 4096 < imb.toInt.natAbs ∨ 50 < dev.toInt.natAbs → 
      Gives (.orxCalStepDone tile dc imb dev vals) s fun t =>
      t.told = s.told ++ [(Ev.CV_ORX_CAL_FAIL, [tile.val])] ∧ t.cv.orxNext = s.cv.orxNext ∧ t.cv.orxStep = s.cv.orxStep) ∧
  (∀ (s : State) (tile : Fin 8) (dc imb dev : BitVec 16) (vals : List Nat), s.running.contains (4, tile.val) = true → dc.toInt ≤ -300 → imb.toInt.natAbs ≤ 4096 → dev.toInt.natAbs ≤ 50 → nth s.cv.orxStep tile 0 = 3 → 
      Gives (.orxCalStepDone tile dc imb dev vals) s fun t =>
      t.told = s.told ∧ t.cv.orxNext.head? = some (tile.val, ((s.cv.orxGot.find? (fun x => x.1 = tile.val)).map (·.2)).getD [] ++ vals) ∧ t.get (R.CV_ORX_QUAL tile) F.CV_ORX_QUAL_AGE = 0 ∧
      t.cv.orxStep = s.cv.orxStep.set tile 0) ∧
  (∀ (s : State) (pos : Fin 16) (pairs : List PairEst), s.running.contains (2, pos.val) = true → 
      Gives (.acalStepDone pos pairs) s fun t =>
      t.cv.steps = s.cv.steps.erase (2, pos.val) ∧ t.tl.stepDone.contains 2 = true ∧
      ∀ e ∈ t.cv.meas, e ∈ s.cv.meas ∨ (e ∈ pairs ∧ s.lo (quadOf e.tx) = s.lo (quadOf e.rx) ∧ tileOf e.tx % 2 ≠ tileOf e.rx % 2)) ∧
  (∀ (s : State) (j : Nat), s.cv.sweepJob = some j → 
      Gives (.acalSolveDone () () () () () ()) s fun t =>
      t.cv.sweepJob = none ∧ t.cv.meas = [] ∧
      t.get R.CV_ACAL_STATUS F.CV_ACAL_STATUS_ROWS = solvePairs Solved.kept s.solve % 2 ^ F.CV_ACAL_STATUS_ROWS.w ∧
      t.get R.CV_ACAL_RESID F.CV_ACAL_RESID_RMS_DB = (solveRms s.solve).1 % 2 ^ F.CV_ACAL_RESID_RMS_DB.w ∧
      (solveOk s.solve = false → t.get R.CV_ACAL_STATUS F.CV_ACAL_STATUS_STATE = 0 ∧
      t.get R.CV_ACAL_STATUS F.CV_ACAL_STATUS_BANK = s.get R.CV_ACAL_STATUS F.CV_ACAL_STATUS_BANK) ∧
      (solveOk s.solve = true → s.acalFree = true → t.get R.CV_ACAL_STATUS F.CV_ACAL_STATUS_STATE = 3 ∧
      t.get R.CV_ACAL_STATUS F.CV_ACAL_STATUS_BANK = 1 - s.get R.CV_ACAL_STATUS F.CV_ACAL_STATUS_BANK ∧
      ∀ i, i < 2048 → t.rd (R.CV_ACBANK (1 - s.get R.CV_ACAL_STATUS F.CV_ACAL_STATUS_BANK) i) =
      BitVec.ofNat 32 (nth (s.acalWords s.solve) i 0))) ∧
  (∀ (s : State) (w : List Nat) (p : Nat), s.cv.acalWait = some (w, p) → s.acalFree = true → 
      Gives .acalResultWrite s fun t =>
      t.cv.acalWait = none ∧ t.get R.CV_ACAL_STATUS F.CV_ACAL_STATUS_STATE = 3 ∧
      t.get R.CV_ACAL_STATUS F.CV_ACAL_STATUS_BANK = 1 - s.get R.CV_ACAL_STATUS F.CV_ACAL_STATUS_BANK)

/-- A capture whose samples are in starts to drain; a granted burst stores the next bytes of the record at its place in DRAM and
nothing else; once the whole record is accepted the buffer is free and a record that is clean or the host's is held; the loader
takes a path's bank and, done, has filled the inactive bank and set READY; a training job without data is reported and dropped;
one with data ends with its bank written and REJ 0, or rejected with REJ counted and DFE_DPD_REJECT; a sounding capture, once its
symbol is over, writes its header and its tones at its buffer and reports, an invalid one as such; a reciprocity job with an
invalid capture fails, publishing nothing, and one with a valid capture ends, failing when more than half of its groups are bad. -/
def Obligations.CapturesAndTraining : Prop :=
  (∀ (s : State) (tile : Fin 8) (k : Cap) (obs : List (BitVec 16 × BitVec 16)) (tx : List (List (BitVec 16 × BitVec 16))), nth s.dfe.cap tile none = some k → s.capSt tile = 1 → 
      Gives (.obsCaptureEnd tile (obs, tx)) s fun t =>
      t.capSt tile = 2 ∧ (∀ a, a ≠ R.DFE_CAP_STATUS tile → t.rd a = s.rd a) ∧ t.mem = s.mem ∧
      (nth t.dfe.cap tile none).map Cap.data = some ((List.range k.n).flatMap (capSample k obs tx)) ∧
      (s.tx k.path ≠ Ps.active → (t.get (R.DFE_CAP_STATUS tile) F.DFE_CAP_STATUS_FLAGS).testBit 2 = true)) ∧
  (∀ (s : State) (tile : Fin 8) (k : Cap) (ns : BitVec 16) (a n : Nat), nth s.dfe.cap tile none = some k → s.capSt tile = 2 → s.dramUp = true → a = s.capAddr tile k.ringSlot + k.drained → n = min ((capRecord k).length - k.drained) (2048 - a % 2048) → n ≠ 0 → s.spanOk a n = true → s.region a = .dram → 
      Gives (.rtBurstGrant tile ns) s fun t =>
      (∀ i, i < n → t.byte (a + i) = nth (capRecord k) (k.drained + i) 0) ∧ (∀ b, b < a ∨ a + n ≤ b → t.byte b = s.byte b) ∧
      t.dfe.cap = s.dfe.cap.set tile (some { k with drained := k.drained + n }) ∧
      t.told.length = s.told.length + (if ns.toNat ≤ 240 + Config.tRfcAb then 0 else 1)) ∧
  (∀ (s : State) (tile : Fin 8) (k : Cap), nth s.dfe.cap tile none = some k → s.capSt tile = 2 → (capRecord k).length ≤ k.drained → s.dfe.capDrop.contains tile.val = false → s.flag (R.DFE_DPD_CFG k.path) F.DFE_DPD_CFG_AUTO = false → 
      Gives (.captureDrainEnd tile) s fun t =>
      t.capSt tile = 0 ∧ t.dfe.cap = s.dfe.cap.set tile none ∧
      t.dfe.recs = s.dfe.recs ++ (if k.host ∨ k.flags = 0 then [⟨tile, k.ringSlot, k.path, k.tag, k.ctx, k.host, (capRecord k).length, k.flags⟩]
      else []) ∧
      t.told = s.told ++ [(Ev.DFE_CAP_DONE, [tile.val, k.path])]) ∧
  (∀ (s : State) (path : Fin 64) (at_ : BitVec 22) (job : BitVec 16), s.dfe.loader = [] → 
      Gives (.dpdLoaderStart path at_ job) s fun t =>
      t.dfe.loader = [(path.val, at_.toNat, job.toNat)] ∧ t.flag (R.DFE_DPD_STATUS path) F.DFE_DPD_STATUS_READY = false ∧
      t.flag (R.DFE_DPD_STATUS path) F.DFE_DPD_STATUS_LOADING = true) ∧
  (∀ (s : State) (path : Fin 64) (at_ : BitVec 22) (job : BitVec 16), s.dfe.loader ≠ [] → 
      Gives (.dpdLoaderStart path at_ job) s fun t =>
      t.dfe.loader = s.dfe.loader ++ [(path.val, at_.toNat, job.toNat)] ∧ ∀ a, t.rd a = s.rd a) ∧
  (∀ (s : State) (p a j : Nat), s.dfe.loader = [(p, a, j)] → p < 64 → 
      Gives .dpdLoaderDone s fun t =>
      t.dfe.loader = [] ∧ t.flag (R.DFE_DPD_STATUS p) F.DFE_DPD_STATUS_READY = true ∧
      t.flag (R.DFE_DPD_STATUS p) F.DFE_DPD_STATUS_LOADING = false ∧
      ∀ i, i < 512 → t.rd (R.DFE_DPD_BANK (2 * p + (1 - s.get (R.DFE_DPD_STATUS p) F.DFE_DPD_STATUS_ACT)) i) =
      BitVec.ofNat 32 (bankWord i (s.memN (0x10000000 + a + 4 * i) 4))) ∧
  (∀ (s : State) (job : BitVec 16) (at_ : BitVec 22) (p : Nat) (e : NvJob), (s.dfe.train.find? (fun x => x.1 = job.toNat) = some (job.toNat, p)) → s.jobOf job.toNat = some e → e.st = 2 → s.usable p e < 16384 → 
      Gives (.dpdTrainJobEnd job () at_ () () () ()) s fun t =>
      t.told = s.told ++ [(Ev.DFE_DPD_NODATA, [p])] ∧ t.dfe.train = s.dfe.train.erase (job.toNat, p) ∧ t.jobOf job.toNat = none ∧ t.mem = s.mem) ∧
  (∀ (s : State) (job : BitVec 16) (at_ : BitVec 22) (p : Nat) (e : NvJob), (s.dfe.train.find? (fun x => x.1 = job.toNat) = some (job.toNat, p)) → s.jobOf job.toNat = some e → e.st = 2 → 16384 ≤ s.usable p e → 
      Gives (.dpdTrainJobEnd job () at_ () () () ()) s fun t =>
      (∀ c ∈ (s.trainEnd p e).join, t.get (R.DFE_DPD_STATUS p) F.DFE_DPD_STATUS_REJ = 0 ∧
      ∀ i, i < (bankImage c).length → t.byte (0x10000000 + at_.toNat + i) = nth (bankImage c) i 0) ∧
      (s.trainEnd p e = some none → t.told.take (s.told.length + 1) = s.told ++ [(Ev.DFE_DPD_REJECT, [p])] ∧ t.mem = s.mem ∧
      t.get (R.DFE_DPD_STATUS p) F.DFE_DPD_STATUS_REJ = min (s.get (R.DFE_DPD_STATUS p) F.DFE_DPD_STATUS_REJ + 1) (2 ^ F.DFE_DPD_STATUS_REJ.w - 1)) ∧
      ∀ b, b < 0x10000000 + at_.toNat ∨ 0x10000000 + at_.toNat + 2048 ≤ b → t.byte b = s.byte b) ∧
  (∀ (s : State) (slot : Fin 4096) (k : Srs) (l : List Byte), (s.bf.srs.find? (fun k => k.slot = slot.val) = some k) → s.rel (stStart (stAdd k.stamp 1)) ≤ s.ulAdv k.car → k.bad = false → k.cells = some l → 
      Gives (.srsCaptureDone slot ()) s fun t =>
      t.bf.srs = s.bf.srs.filter (fun x => x.slot != slot.val) ∧
      (∀ i, i < 64 → t.byte (0x10000000 + 4096 * srsBuf k.param + i) = nth (srsHeader k) i 0) ∧
      (∀ i, i < min l.length (256 * srsTones k.param) → t.byte (0x10000000 + 4096 * srsBuf k.param + 64 + i) = nth l i 0) ∧
      ∀ b, b < 0x10000000 + 4096 * srsBuf k.param ∨ 0x10000000 + 4096 * srsBuf k.param + srsBytes k.param ≤ b → t.byte b = s.byte b) ∧
  (∀ (s : State) (slot : Fin 4096) (k : Srs), (s.bf.srs.find? (fun k => k.slot = slot.val) = some k) → s.rel (stStart (stAdd k.stamp 1)) ≤ s.ulAdv k.car → k.bad = true → 
      Gives (.srsCaptureDone slot ()) s fun t =>
      t.bf.srs = s.bf.srs.filter (fun x => x.slot != slot.val) ∧
      t.told = s.told ++ [(Ev.BF_SRS_DONE, [k.car, k.stamp]), (Ev.BF_SRS_INVALID, [k.car, k.stamp])] ∧
      ∀ i, i < 64 → t.byte (0x10000000 + 4096 * srsBuf k.param + i) = nth (srsHeader k) i 0) ∧
  (∀ (s : State) (job : BitVec 16) (j : NvJob) (d : Recip), s.jobOf job.toNat = some j → j.kind = 0 → j.st = 2 → (s.bf.recip.find? (fun d => d.car = nth j.args 1 0 && d.region = nth j.args 2 0) = some d) → nth j.args 4 0 = 1 → 
      Gives (.recipJobEnd job () ()) s fun t =>
      t.told = s.told ++ [(Ev.BF_RECIP_FAIL, [nth j.args 1 0, j.num])] ∧ t.mem = s.mem ∧ (∀ r k, r < 64 → t.page r k = s.page r k) ∧
      t.jobOf job.toNat = none) ∧
  (∀ (s : State) (job : BitVec 16) (j : NvJob) (d : Recip), s.jobOf job.toNat = some j → j.kind = 0 → j.st = 2 → (s.bf.recip.find? (fun d => d.car = nth j.args 1 0 && d.region = nth j.args 2 0) = some d) → nth j.args 4 0 ≠ 1 → 
      Gives (.recipJobEnd job () ()) s fun t =>
      t.jobOf job.toNat = none ∧
      t.told = s.told ++ (if s.recipBad d (nth j.args 3 0) = [] then [] else [(Ev.BF_RECIP_GROUPS, [nth j.args 1 0, (s.recipBad d (nth j.args 3 0)).length])]) ++
      (if s.rgGroups (nth j.args 2 0) < 2 * (s.recipBad d (nth j.args 3 0)).length then [(Ev.BF_RECIP_FAIL, [nth j.args 1 0, j.num])] else []))

/-- Publishing makes a FREE inactive page READY and leaves any other page as it is; a DRAINING page becomes FREE once the symbol that
ended its use is over; a write of a legal size whose vectors its writer may write stores its bytes there and nothing else, and one
that may not stores nothing and is counted; the scrub of a revoked region starts once, when no symbol of its owner reads weights,
and ends with its registers zero and its vectors free, and with its bytes zero where no command waited for it; a shrink's vectors
return to the free list. -/
def Obligations.WeightMemory : Prop :=
  (∀ (s : State) (region : Fin 64), s.rgPaged region = true → s.rgEn region = true → s.rgRevoking region = false → s.page region (1 - s.rgAct region) = Pg.free → 
      Gives (.bfRegionPub region) s fun t =>
      t.page region (1 - s.rgAct region) = Pg.ready ∧ ∀ a, a ≠ R.BF_REGION_STAT region → t.rd a = s.rd a) ∧
  (∀ (s : State) (region : Fin 64), s.rgPaged region = false ∨ s.rgEn region = false ∨ s.rgRevoking region = true ∨ s.page region (1 - s.rgAct region) ≠ Pg.free → 
      exec (.bfRegionPub region) s = .next s) ∧
  (∀ (s : State) (region : Fin 64), s.page region (1 - s.rgAct region) = Pg.draining → (∀ x ∈ s.bf.switchAt, x.1 = region.val → x.2.2 ≤ s.now) → 
      Gives (.drainingPageFree region) s fun t =>
      t.page region (1 - s.rgAct region) = Pg.free) ∧
  (∀ (s : State) (ctx : Option (Fin 8)) (addr : BitVec 22) (data : List Byte), weightShape addr.toNat data.length = true → s.mayWriteVec (ctx.map Fin.val) (addr.toNat / 256) = true → s.mayWriteVec (ctx.map Fin.val) ((addr.toNat + data.length - 1) / 256) = true → 
      Gives (.weightWrite ctx addr data) s fun t =>
      (∀ i, i < data.length → t.byte (0x20000000 + addr.toNat + i) = nth data i 0) ∧
      (∀ b, b < 0x20000000 + addr.toNat ∨ 0x20000000 + addr.toNat + data.length ≤ b → t.byte b = s.byte b) ∧ (∀ a, t.rd a = s.rd a)) ∧
  (∀ (s : State) (x : Fin 8) (addr : BitVec 22) (data : List Byte), weightShape addr.toNat data.length = false ∨ s.mayWriteVec (some x.val) (addr.toNat / 256) = false → 
      Gives (.weightWrite (some x) addr data) s fun t =>
      t.mem = s.mem ∧ Counted s t (R.BF_WRITE_BLOCK_CNT x)) ∧
  (∀ (s : State) (region : Fin 64), s.rgRevoking region = true → s.bf.scrub.contains region.val = false → s.weightsRead (s.rgOwner region) = false → 
      Gives (.regionScrubStart region) s fun t =>
      t.bf.scrub = region.val :: s.bf.scrub ∧ t.flag R.BF_STATUS F.BF_STATUS_SCRUB = true) ∧
  (∀ (s : State) (region : Fin 64), s.bf.scrub.contains region.val = true → 
      Gives (.regionScrubDone region) s fun t =>
      t.rd (R.BF_REGION_BASE region) = 0 ∧ t.rd (R.BF_REGION_CFG region) = 0 ∧
      t.get R.BF_FREE_VEC F.BF_FREE_VEC_FREE = (s.get R.BF_FREE_VEC F.BF_FREE_VEC_FREE + s.rgLen region) % 2 ^ F.BF_FREE_VEC_FREE.w ∧
      t.told = s.told ++ [(Ev.BF_REGION_FREED, [region.val])]) ∧
  (∀ (s : State) (region : Fin 64), s.bf.scrub.contains region.val = true → s.hy.jobs = [] → 
      Gives (.regionScrubDone region) s fun t =>
      ∀ b, t.byte b = if vecAddr (s.rgBase region) ≤ b ∧ b < vecAddr (s.rgBase region) + 256 * s.rgLen region then unlisted b else s.byte b) ∧
  (∀ (s : State) (region : Fin 64) (e : Nat × Nat × Nat × Nat), (s.bf.shrink.find? (fun x => x.2.2.1 = region.val) = some e) → 
      Gives (.shrinkScrubDone region) s fun t =>
      t.bf.shrink = s.bf.shrink.erase e ∧
      t.get R.BF_FREE_VEC F.BF_FREE_VEC_FREE = (s.get R.BF_FREE_VEC F.BF_FREE_VEC_FREE + e.2.1) % 2 ^ F.BF_FREE_VEC_FREE.w)

/-- A tracker with room registers the next held job; a job with enough free cores of its group starts, its cores RUNNING at bundle 0;
the last part of a job that is no training job, ended by the control-core step, signals it in the completion register of its
residue and drops it; an earlier part only counts; a core counter that passes 2 to the 48 wraps, sets its bit and is reported. -/
def Obligations.JobsOfTheCluster : Prop :=
  (∀ (s : State) (j : NvJob), s.trackerFull = false → (s.nextJob (s.nvc.jobs.filter (fun j => j.st = 0)) = some j) → 
      Gives .jobRegister s fun t =>
      t.nvc.jobs = s.nvc.jobs.map (fun x => if x.num = j.num then { x with st := 1 } else x) ∧ ∀ a, t.rd a = s.rd a) ∧
  (∀ (s : State) (grp : Fin 2) (j : NvJob) (l : List Nat), (s.nextJob (s.nvc.jobs.filter (fun j => j.st = 1 && (if grp = 0 then decide (j.kind = 0) else j.kind != 0))) = some j) → (l = (if grp = 0 then (List.range 16).filter (fun c => s.coreGroup c = 0) else s.generalCores).filter s.coreFree) → j.need ≤ l.length → 
      Gives (.jobDispatch grp) s fun t =>
      t.nvc.jobs = s.nvc.jobs.map (fun x => if x.num = j.num then { x with st := 2 } else x) ∧
      (∀ c ∈ l.take j.need, t.coreSt c = Co.running ∧ t.get (R.NVC_CORE_STAT c) F.NVC_CORE_STAT_PC = 0 ∧ t.get (R.NVC_CORE_STAT c) F.NVC_CORE_STAT_RB = 0) ∧
      (∀ c, c < 16 → c ∉ l.take j.need → t.coreSt c = s.coreSt c)) ∧
  (∀ (s : State) (job : BitVec 16) (j : NvJob), s.jobOf job.toNat = some j → j.st = 2 → j.parts ≤ j.dones + 1 → j.kind ≠ 1 → 
      Gives (.controlStepDone job) s fun t =>
      t.jobDone job.toNat = true ∧ t.jobOf job.toNat = none ∧ t.get (R.NVC_JOB_DONE (job.toNat % 256)) F.NVC_JOB_DONE_RES = 0) ∧
  (∀ (s : State) (job : BitVec 16) (j : NvJob), s.jobOf job.toNat = some j → j.st = 2 → j.dones + 1 < j.parts → 
      Gives (.controlStepDone job) s fun t =>
      t.jobOf job.toNat = some { j with dones := j.dones + 1 } ∧ ∀ a, t.rd a = s.rd a) ∧
  (∀ (s : State) (core : Fin 16) (which : Fin 6) (n : BitVec 32), 2 ^ 48 ≤ s.get64 (nvCounter core which) % 2 ^ 48 + n.toNat → 
      Gives (.nvcCntWrap core which n) s fun t =>
      t.get64 (nvCounter core which) = (s.get64 (nvCounter core which) % 2 ^ 48 + n.toNat) % 2 ^ 48 ∧
      t.told = s.told ++ [(Ev.NVC_CNT_WRAP, [core.val, which.val])] ∧ (t.rd (R.NVC_PERF_OVF core)).getLsbD which.val = true)

/-- A running core whose watchdog has counted its limit is HALTED with cause 6 and reported; a stage pauses the idle and running cores
of its next group and reports the group; a paused core whose step is granted resumes in the state it was paused in; a revoked core
that is scrubbed is IDLE in the general group and its former owner hears of it; a barrier whose count is reached re-arms with no
arrivals; a core that waits for its mailbox goes on; a stream of one row into the core's memory copies it and nothing else, and a
refused one sets SERR and is reported. -/
def Obligations.CoresPauseAndRelease : Prop :=
  (∀ (s : State) (core : Fin 16), s.coreSt core = Co.running → s.wdogOut core = true → 
      Gives (.nvcWatchdogExpiry core) s fun t =>
      t.coreSt core = Co.halted ∧ t.get (R.NVC_CORE_STAT core) F.NVC_CORE_STAT_FCAUSE = 6 ∧ t.told = s.told ++ [(Ev.NVC_WDOG_EXP, [core.val])]) ∧
  (∀ (s : State) (grp : Fin 3), grp.val < s.get R.TH_STAT F.TH_STAT_STAGE → (∀ g, g < grp.val → ∀ c ∈ pauseGroup g, s.coreSt c ≠ Co.idle ∧ s.coreSt c ≠ Co.running) → (∃ c ∈ pauseGroup grp, s.coreSt c = Co.idle ∨ s.coreSt c = Co.running) → 
      Gives (.corePause grp) s fun t =>
      (∀ c ∈ pauseGroup grp, t.coreSt c = if s.coreSt c = Co.idle ∨ s.coreSt c = Co.running then Co.paused else s.coreSt c) ∧
      t.told = s.told ++ [(Ev.NVC_PAUSED, [grp.val])]) ∧
  (∀ (s : State) (core : Fin 16), s.pm.granted.contains (4, core.val) = true → s.coreSt core = Co.paused → s.get R.TH_STAT F.TH_STAT_STAGE ≤ pauseGroupOf core → 
      Gives (.coreResume core) s fun t =>
      t.coreSt core = (s.core core).was % 2 ^ F.NVC_CORE_STAT_STATE.w ∧ t.pm.granted = s.pm.granted.erase (4, core.val)) ∧
  (∀ (s : State) (core : Fin 16), s.coreSt core = Co.scrubbing → 
      Gives (.coreRevokeScrubDone core) s fun t =>
      t.coreSt core = Co.idle ∧ t.coreGroup core = 1 ∧ t.coreOwner core = 0 ∧ t.told = s.told ++ [(Ev.NVC_CORE_REVOKED, [core.val])]) ∧
  (∀ (s : State) (b : Fin 8), (nth s.nvc.bars b (0, [])).1 ≠ 0 → (nth s.nvc.bars b (0, [])).1 ≤ (nth s.nvc.bars b (0, [])).2.length → 
      Gives (.barrierRelease b) s fun t =>
      t.nvc.bars = s.nvc.bars.set b ((nth s.nvc.bars b (0, [])).1, []) ∧
      ∀ c ∈ (nth s.nvc.bars b (0, [])).2, (t.core c).wait ≠ .barrier b) ∧
  (∀ (s : State) (core : Fin 16), (s.core core).wait = .mailbox → (s.core core).in15 = true → 
      Gives (.mailboxWaitRelease core) s fun t =>
      (t.core core).wait = .none ∧ (t.core core).in15 = false ∧ ∀ a, t.rd a = s.rd a) ∧
  (∀ (s : State) (core : Fin 16) (slot : Fin 4) (x : NvStream), ((s.core core).streams.find? (fun x => x.slot = slot.val && !x.done) = some x) → x.desc.toLocal = true → x.desc.row = 64 → x.desc.rows = 1 → s.spanOk x.desc.remote.toNat 64 = true → s.coreMayReach core x.desc.remote.toNat 64 = true → s.region x.desc.remote.toNat ≠ .weight → 
      Gives (.streamDescriptorDone core slot) s fun t =>
      (∀ i, i < 64 → t.byte (streamBase core x.desc + x.desc.loc.toNat + i) = s.byte (x.desc.remote.toNat + i)) ∧
      (∀ b, b < streamBase core x.desc + x.desc.loc.toNat ∨ streamBase core x.desc + x.desc.loc.toNat + 64 ≤ b → t.byte b = s.byte b) ∧
      t.told = s.told ∧ (∀ a, t.rd a = s.rd a)) ∧
  (∀ (s : State) (core : Fin 16) (slot : Fin 4) (x : NvStream), ((s.core core).streams.find? (fun x => x.slot = slot.val && !x.done) = some x) → x.desc.row = 64 → x.desc.rows = 1 → s.coreMayReach core x.desc.remote.toNat 64 = false → 
      Gives (.streamDescriptorDone core slot) s fun t =>
      t.flag (R.NVC_CORE_FLAGS core) F.NVC_CORE_FLAGS_SERR = true ∧ t.told.getLast? = some (Ev.NVC_ACCESS_ERR, [core.val, slot.val]))

/-- A running core whose bundle raises a fault is in FAULT with its cause and its PC unchanged, and is reported; a bundle outside
every loop whose slot 0 transfers no control moves the PC on by one, modulo 4096, without changing the rotating base or the status
of another core; a taken branch and a call set the PC to their target; a mailbox write shows the scalar register in its out-word;
the end of a run of a leased core with no trigger held leaves it IDLE. -/
def Obligations.BundlesIssue : Prop :=
  (∀ (s : State) (core : Fin 16) (o0 : Op0) (o1 o2 : OpM) (o3 : Op3) (fe be : BitVec 32) (cause : Nat), s.coreSt core = Co.running → (s.core core).wait = .none → op0Fits (s.word core 0) o0 = true → op3Fits (s.word core 3) o3 = true → bundleFault (s.word core 0) (s.word core 1) (s.word core 2) (s.word core 3) o0 o1 o2 o3 (s.core core) (s.get (R.NVC_CORE_STAT core) F.NVC_CORE_STAT_PC) = some cause → 
      Gives (.bundleIssue core o0 o1 o2 o3 fe be) s fun t =>
      t.coreSt core = Co.fault ∧ t.get (R.NVC_CORE_STAT core) F.NVC_CORE_STAT_FCAUSE = cause ∧
      t.get (R.NVC_CORE_STAT core) F.NVC_CORE_STAT_PC = s.get (R.NVC_CORE_STAT core) F.NVC_CORE_STAT_PC ∧
      t.told = s.told ++ [(Ev.NVC_CORE_FAULT, [core.val, cause])] ∧ t.mem = s.mem) ∧
  (∀ (s : State) (core : Fin 16) (o0 : Op0) (o1 o2 : OpM) (o3 : Op3) (fe be : BitVec 32), BundleRuns s core o0 o1 o2 o3 → (s.core core).loops = [] → op0Class o0 ≤ 2 ∨ op0Class o0 = 8 → wClass (s.word core 0) ≠ 5 → 
      Gives (.bundleIssue core o0 o1 o2 o3 fe be) s fun t =>
      t.get (R.NVC_CORE_STAT core) F.NVC_CORE_STAT_PC = (s.get (R.NVC_CORE_STAT core) F.NVC_CORE_STAT_PC + 1) % 4096 ∧
      t.get (R.NVC_CORE_STAT core) F.NVC_CORE_STAT_RB = s.get (R.NVC_CORE_STAT core) F.NVC_CORE_STAT_RB % 16 ∧
      (∀ c, c < 16 → c ≠ core.val → t.rd (R.NVC_CORE_STAT c) = s.rd (R.NVC_CORE_STAT c))) ∧
  (∀ (s : State) (core : Fin 16) (o0 : Op0) (o1 o2 : OpM) (o3 : Op3) (fe be : BitVec 32), BundleRuns s core o0 o1 o2 o3 → o0 = .br ∨ o0 = .call ∨ o0 = .brc (s.core core).cond → 
      Gives (.bundleIssue core o0 o1 o2 o3 fe be) s fun t =>
      t.get (R.NVC_CORE_STAT core) F.NVC_CORE_STAT_PC = (s.word core 0).toNat % 4096) ∧
  (∀ (s : State) (core i a : Fin 16) (o1 o2 : OpM) (o3 : Op3) (fe be : BitVec 32), BundleRuns s core (.mbxw i a) o1 o2 o3 → 
      Gives (.bundleIssue core (.mbxw i a) o1 o2 o3 fe be) s fun t =>
      t.rd (R.NVC_MBX_OUT core i) = (s.core core).sr a ∧ (i = 15 → (Ev.NVC_MBX, [core.val]) ∈ t.told)) ∧
  (∀ (s : State) (core : Fin 16) (o1 o2 : OpM) (o3 : Op3) (fe be : BitVec 32), BundleRuns s core (.done none) o1 o2 o3 → (s.core core).job = 0 → (s.core core).held = false → 
      Gives (.bundleIssue core (.done none) o1 o2 o3 fe be) s fun t =>
      t.coreSt core = Co.idle)

/-- Loss of signal sets LOS, clears CDR, is counted outside LULL and DOLDRUMS, and takes a lane that is UP into a hunt with LN_DOWN;
signal present clears LOS; the CDR's lock and loss set and clear CDR, the loss taking an UP lane down with cause 1; block lock
takes a hunting lane into LOCKED, and in a 100GBASE-R group waits for the others; its loss is counted; a hunt whose window ends
without UP leads to NO_PARTNER, with LN_NO_PARTNER unless the hunt came from there; the next hunt starts from there 100 ms after
it; alignment marker lock of a 25GBASE-R lane leads to UP with LN_UP. An unpowered receiver declares nothing (the model's reading,
log entry 32). -/
def Obligations.LaneSignalAndLock : Prop :=
  (∀ (s : State) (n : Fin 16), s.laneRx n ≠ Rx.off → 
      Gives (.losDeclared n) s fun t =>
      t.flag (R.LN_STATE n) F.LN_STATE_LOS = true ∧ t.flag (R.LN_STATE n) F.LN_STATE_CDR = false) ∧
  (∀ (s : State) (n : Fin 16), s.laneRx n = Rx.up → s.pers (n.val / 4) ≠ 2 → 
      Gives (.losDeclared n) s fun t =>
      t.laneRx n = Rx.hunt ∧ t.get (R.LN_STATE n) F.LN_STATE_CAUSE = 0 ∧ t.told.getLast? = some (Ev.LN_DOWN, [n.val, 0]) ∧
      Counted s t (R.LN_LOS_CNT n)) ∧
  (∀ (s : State) (n : Fin 16), s.laneRx n = Rx.lull ∨ s.laneRx n = Rx.doldrums → 
      Gives (.losDeclared n) s fun t =>
      t.flag (R.LN_STATE n) F.LN_STATE_LOS = true ∧ t.rd (R.LN_LOS_CNT n) = s.rd (R.LN_LOS_CNT n)) ∧
  (∀ (s : State) (n : Fin 16), s.laneRx n = Rx.off → 
      exec (.losDeclared n) s = .next s ∧ exec (.signalPresent n) s = .next s) ∧
  (∀ (s : State) (n : Fin 16), s.laneRx n ≠ Rx.off → 
      Gives (.signalPresent n) s fun t =>
      t.flag (R.LN_STATE n) F.LN_STATE_LOS = false ∧ t.get R.LN_STATUS F.LN_STATUS_LOS = s.get R.LN_STATUS F.LN_STATUS_LOS &&& (2 ^ 16 - 1 - 2 ^ n.val)) ∧
  (∀ (s : State) (n : Fin 16) (peak : Fin 21) (eye : BitVec 8), s.cdrOn n = true → s.flag (R.LN_STATE n) F.LN_STATE_LOS = false → 
      Gives (.cdrLock n peak eye) s fun t =>
      t.flag (R.LN_STATE n) F.LN_STATE_CDR = true ∧ t.get (R.LN_CTLE n) F.LN_CTLE_PK_NOW = (if s.flag (R.LN_CTLE n) F.LN_CTLE_MODE then s.get (R.LN_CTLE n) F.LN_CTLE_PEAK else peak.val)) ∧
  (∀ (s : State) (n : Fin 16), s.cdrOn n = true → 
      Gives (.cdrLockLoss n) s fun t =>
      t.flag (R.LN_STATE n) F.LN_STATE_CDR = false) ∧
  (∀ (s : State) (n : Fin 16), s.laneRx n = Rx.up → s.pers (n.val / 4) ≠ 2 → 
      Gives (.cdrLockLoss n) s fun t =>
      t.laneRx n = Rx.hunt ∧ t.get (R.LN_STATE n) F.LN_STATE_CAUSE = 1 ∧ t.told.getLast? = some (Ev.LN_DOWN, [n.val, 1])) ∧
  (∀ (s : State) (n : Fin 16), s.laneRx n = Rx.hunt → s.flag (R.LN_STATE n) F.LN_STATE_CDR = true → (s.used (n.val / 4)).contains n.val = true → s.pers (n.val / 4) ≠ 2 → 
      Gives (.blockLockGained n) s fun t =>
      t.laneRx n = Rx.locked ∧ t.flag (R.LN_STATE n) F.LN_STATE_BLOCK = true) ∧
  (∀ (s : State) (n : Fin 16) (m : Nat), s.laneRx n = Rx.hunt → s.flag (R.LN_STATE n) F.LN_STATE_CDR = true → s.pers (n.val / 4) = 2 → m ∈ grpLanes (n.val / 4) → m ≠ n.val → s.flag (R.LN_STATE m) F.LN_STATE_BLOCK = false → 
      Gives (.blockLockGained n) s fun t =>
      t.laneRx n = Rx.hunt ∧ t.flag (R.LN_STATE n) F.LN_STATE_BLOCK = true) ∧
  (∀ (s : State) (n : Fin 16) (bad : BitVec 16), s.flag (R.LN_STATE n) F.LN_STATE_BLOCK = true → 
      Gives (.blockLockLost n bad) s fun t =>
      t.flag (R.LN_STATE n) F.LN_STATE_BLOCK = false ∧
      Counted s t (R.LN_LOCK_LOSS_CNT n)) ∧
  (∀ (s : State) (n : Fin 16), s.laneRx n = Rx.hunt ∨ s.laneRx n = Rx.locked → s.pers (n.val / 4) ≠ 2 → s.huntOver n 16 = true → 
      Gives (.huntWindowExpiry n) s fun t =>
      t.laneRx n = Rx.noPartner ∧ t.flag (R.LN_STATE n) F.LN_STATE_BLOCK = false ∧
      t.told = s.told ++ (if (s.lane n).again then [] else [(Ev.LN_NO_PARTNER, [n.val])])) ∧
  (∀ (s : State) (n : Fin 16), s.laneRx n = Rx.noPartner → s.pers (n.val / 4) ≠ 2 → s.huntOver n 100 = true → 
      Gives (.huntStart n) s fun t =>
      t.laneRx n = Rx.hunt ∧ t.get (R.LN_STATE n) F.LN_STATE_HUNTS = (s.get (R.LN_STATE n) F.LN_STATE_HUNTS + 1) % 2 ^ F.LN_STATE_HUNTS.w ∧ t.told = s.told) ∧
  (∀ (s : State) (n : Fin 16), s.laneRx n = Rx.locked → s.pers (n.val / 4) = 1 → n.val < s.ln.lanes.length → 
      Gives (.alignmentMarkerLock n) s fun t =>
      t.laneRx n = Rx.up ∧ t.told = s.told ++ [(Ev.LN_UP, [n.val])])

/-- A lane that takes no blocks is untouched by any; a block whose header is neither is counted whatever it would have been; a SYNC
with a bad CRC changes no register but the stuffing count, one that differs from the descrambler in UP is counted as a resync, and
the first good one in LOCKED leads an unbonded lane to UP; an ALIGN of an unbonded lane shows its position; a start of message of
a length from 14 to 9,000 opens a message, one of a length outside 1 to 9,000 is a framing error, and so are a data block outside
a message and an IDLE or ABORT within one; the transmitter sends a SYNC with its LFSR state, unscrambled, at a multiple of 1,024
blocks or in the block after an ALIGN, and an ALIGN with the lane's position, the width and the sequence number at a multiple of
4,096. -/
def Obligations.GaleBlocks : Prop :=
  (∀ (s : State) (n : Fin 16) (line : List Bool), s.galeOn n = false → 
      (∀ skew, exec (.galeAlignBlock n line skew) s = .next s) ∧ exec (.galeSyncBlock n line) s = .next s ∧ exec (.galeSomBlock n line) s = .next s ∧
      exec (.galeDataBlock n line) s = .next s ∧ exec (.galeIdleBlock n line) s = .next s ∧ exec (.galeAbortBlock n line) s = .next s) ∧
  (∀ (s : State) (n : Fin 16) (line : List Bool) (b : GaleBlock) (skew : BitVec 8) (i : Instr), s.galeOn n = true → (s.galeBlock n line).2 = some b → b.hdr = 0 ∨ b.hdr = 3 → i ∈ [.galeSyncBlock n line, .galeAlignBlock n line skew, .galeSomBlock n line, .galeDataBlock n line, .galeIdleBlock n line, .galeAbortBlock n line] → 
      Gives i s fun t =>
      Counted s t (R.LN_HDR_ERR_CNT n)) ∧
  (∀ (s : State) (n : Fin 16) (line : List Bool) (b : GaleBlock), s.galeOn n = true → (s.galeBlock n line).2 = some b → b.hdr = 2 → payByte b.raw 0 = 0x2D → (crc8 ((List.range 8).map (fun i => payByte b.raw (i + 1))) ≠ payByte b.raw 9) → 
      Gives (.galeSyncBlock n line) s fun t =>
      ∀ a, a ≠ R.LN_STUFF_ERR_CNT n → t.rd a = s.rd a) ∧
  (∀ (s : State) (n : Fin 16) (line : List Bool) (b : GaleBlock), s.galeOn n = true → (s.galeBlock n line).2 = some b → b.hdr = 2 → payByte b.raw 0 = 0x2D → (crc8 ((List.range 8).map (fun i => payByte b.raw (i + 1))) = payByte b.raw 9) → s.laneRx n = Rx.up → n.val < s.ln.lanes.length → (s.lane n).lfsr ≠ BitVec.ofNat 58 (b.raw / 256) → 
      Gives (.galeSyncBlock n line) s fun t =>
      Counted s t (R.LN_RESYNC_CNT n) ∧ (t.lane n).lfsr = BitVec.ofNat 58 (b.raw / 256)) ∧
  (∀ (s : State) (n : Fin 16) (line : List Bool) (b : GaleBlock), s.pers (n.val / 4) = 3 → s.laneRx n = Rx.locked → s.used (n.val / 4) = [n.val] → (s.galeBlock n line).2 = some b → b.hdr = 2 → payByte b.raw 0 = 0x2D → (crc8 ((List.range 8).map (fun i => payByte b.raw (i + 1))) = payByte b.raw 9) → n.val < s.ln.lanes.length → 
      Gives (.galeSyncBlock n line) s fun t =>
      t.laneRx n = Rx.up ∧ t.told = s.told ++ [(Ev.LN_UP, [n.val])] ∧ (t.lane n).lfsr = BitVec.ofNat 58 (b.raw / 256)) ∧
  (∀ (s : State) (n : Fin 16) (line : List Bool) (skew : BitVec 8) (b : GaleBlock), s.galeOn n = true → s.bonded (n.val / 4) = false → (s.lane n).loaded = true → (s.galeBlock n line).2 = some b → b.hdr = 2 → payByte b.plain 0 = 0x36 → 
      Gives (.galeAlignBlock n line skew) s fun t =>
      t.get (R.LN_STATE n) F.LN_STATE_POS = payByte b.plain 1 % 2 ^ F.LN_STATE_POS.w ∧ t.told = s.told) ∧
  (∀ (s : State) (n : Fin 16) (line : List Bool) (b : GaleBlock) (len : Nat), s.galeOn n = true → s.galeCarries n = true → (s.lane n).loaded = true → (s.galeBlock n line).2 = some b → b.hdr = 2 → payByte b.plain 0 = 0x4E → len = payByte b.plain 1 + 256 * payByte b.plain 2 → 13 < len → len ≤ 9000 → n.val / 4 < s.ln.grps.length → 
      Gives (.galeSomBlock n line) s fun t =>
      (t.grp (n.val / 4)).msg = some (len, payBytes b.plain 3)) ∧
  (∀ (s : State) (n : Fin 16) (line : List Bool) (b : GaleBlock) (len : Nat), s.galeOn n = true → s.galeCarries n = true → (s.lane n).loaded = true → (s.galeBlock n line).2 = some b → b.hdr = 2 → payByte b.plain 0 = 0x4E → len = payByte b.plain 1 + 256 * payByte b.plain 2 → len = 0 ∨ 9000 < len → (s.grp (n.val / 4)).msg = none → 
      Gives (.galeSomBlock n line) s fun t =>
      Counted s t (R.LN_FRAME_ERR_CNT (n.val / 4)) ∧ (t.grp (n.val / 4)).msg = none) ∧
  (∀ (s : State) (n : Fin 16) (line : List Bool) (b : GaleBlock), s.galeOn n = true → s.galeCarries n = true → (s.galeBlock n line).2 = some b → b.hdr = 1 → (s.grp (n.val / 4)).msg = none → (s.grp (n.val / 4)).drop = 0 → 
      Gives (.galeDataBlock n line) s fun t =>
      Counted s t (R.LN_FRAME_ERR_CNT (n.val / 4))) ∧
  (∀ (s : State) (n : Fin 16) (line : List Bool) (b : GaleBlock) (m : Nat × List Byte), s.galeOn n = true → s.galeCarries n = true → (s.lane n).loaded = true → (s.galeBlock n line).2 = some b → b.hdr = 2 → [0x36, 0x4E, 0x53].contains (payByte b.plain 0) = false → (s.grp (n.val / 4)).msg = some m → n.val / 4 < s.ln.grps.length → 
      Gives (.galeIdleBlock n line) s fun t =>
      Counted s t (R.LN_FRAME_ERR_CNT (n.val / 4)) ∧
      (t.grp (n.val / 4)).msg = none ∧ (t.grp (n.val / 4)).drop = 0) ∧
  (∀ (s : State) (n : Fin 16) (line : List Bool) (b : GaleBlock) (m : Nat × List Byte), s.galeOn n = true → s.galeCarries n = true → (s.lane n).loaded = true → (s.galeBlock n line).2 = some b → b.hdr = 2 → payByte b.plain 0 = 0x53 → (s.grp (n.val / 4)).msg = some m → n.val / 4 < s.ln.grps.length → 
      Gives (.galeAbortBlock n line) s fun t =>
      Counted s t (R.LN_FRAME_ERR_CNT (n.val / 4)) ∧
      (t.grp (n.val / 4)).msg = none) ∧
  (∀ (s : State) (n : Fin 16), s.galeSends n = true → n.val < s.ln.lanes.length → (s.lane n).txOwe = false → (s.lane n).txN ≠ 0 → (s.lane n).txN % 1024 = 0 → (s.lane n).txN % 4096 ≠ 0 → 
      Gives (.galeSyncSend n) s fun t =>
      (t.lane n).txN = (s.lane n).txN + 1 ∧ (t.lane n).txLast = syncPayload (s.lane n).txLfsr ∧ (t.lane n).txLfsr = (s.lane n).txLfsr ∧
      (∀ m, m < 16 → m ≠ n.val → t.lane m = s.lane m) ∧ ∀ a, t.rd a = s.rd a) ∧
  (∀ (s : State) (n : Fin 16), s.galeSends n = true → n.val < s.ln.lanes.length → (s.lane n).txOwe = false → (s.lane n).txN ≠ 0 → (s.lane n).txN % 4096 = 0 → 
      Gives (.galeAlignSend n) s fun t =>
      (t.lane n).txN = (s.lane n).txN + 1 ∧ (t.lane n).txSeq = ((s.lane n).txSeq + 1) % 2 ^ 16 ∧ (t.lane n).txOwe = true ∧
      (t.lane n).txLast = alignPayload (n.val % 4) (s.txWidth n) (s.lane n).txSeq ∧ (∀ m, m < 16 → m ≠ n.val → t.lane m = s.lane m) ∧ ∀ a, t.rd a = s.rd a) ∧
  (∀ (s : State) (n : Fin 16), s.galeSends n = true → n.val < s.ln.lanes.length → 
      Gives (.galeAlignSend n) s fun t =>
      (t.lane n).txN = max (s.lane n).txN (nextMultiple 4096 (s.lane n).txN + 1) ∧ ∀ a, t.rd a = s.rd a) ∧
  (∀ (s : State) (n : Fin 16), s.galeSends n = true → n.val < s.ln.lanes.length → (s.lane n).txOwe = true → 
      Gives (.galeSyncSend n) s fun t =>
      (t.lane n).txN = (s.lane n).txN + 1 ∧ (t.lane n).txOwe = false ∧ (t.lane n).txLast = syncPayload (s.lane n).txLfsr ∧ ∀ a, t.rd a = s.rd a)

/-- A codeword without errors changes nothing; of a group that is UP one with up to 7 symbol errors is counted as corrected and one
with more as uncorrectable; the high-BER condition takes a 25GBASE-R lane out of UP with LN_HI_BER and LN_DOWN cause 2; a lane PLL
that loses lock takes every lane of its group out of UP with LN_PLL_UNLOCK, and one that runs locks; an adaptive CTLE at its limit
is reported; a lane that is not leaving a power state is left as it is, a granted exit from OFF leads to DOLDRUMS and one from
LULL to active to a hunt; a group configuration that waits is written, and without one nothing happens; a checker that
synchronises or loses sync shows it and says so, its loss with its counts; a wrap of LN_PAT_BITS leaves 0, BITS_OVF and
LN_CNT_WRAP; CLR clears its counters and keeps SYNC. -/
def Obligations.LanePowerAndChecks : Prop :=
  (∀ (s : State) (g : Fin 4) (errs : BitVec 10), s.pers g = 1 ∨ s.pers g = 2 → s.laneRx (4 * g.val) = Rx.up → 0 < errs.toNat → 
      Gives (.fecCodeword g errs) s fun t =>
      Counted s t (if errs.toNat ≤ 7 then R.LN_FEC_CORR_CNT g else R.LN_FEC_UNCORR_CNT g) ∧
      (errs.toNat ≤ 7 → t.told = s.told)) ∧
  (∀ (s : State) (g : Fin 4), exec (.fecCodeword g 0) s = .next s) ∧
  (∀ (s : State) (g : Fin 4), s.pers g = 1 → s.laneRx (4 * g.val) = Rx.up → 
      Gives (.highBer g) s fun t =>
      t.laneRx (4 * g.val) = Rx.hunt ∧ t.told.getLast? = some (Ev.LN_DOWN, [4 * g.val, 2]) ∧ (Ev.LN_HI_BER, [g.val]) ∈ t.told) ∧
  (∀ (s : State) (g : Fin 4), s.flag (R.LN_GROUP_STAT g) F.LN_GROUP_STAT_PLL_LOCK = true → 
      Gives (.lanePllUnlock g) s fun t =>
      t.flag (R.LN_GROUP_STAT g) F.LN_GROUP_STAT_PLL_LOCK = false ∧ (∀ i ∈ grpLanes g, t.laneRx i ≠ Rx.up) ∧ (Ev.LN_PLL_UNLOCK, [g.val]) ∈ t.told) ∧
  (∀ (s : State) (g : Fin 4), s.pllRuns g = true → 
      Gives (.lanePllLock g) s fun t =>
      t.flag (R.LN_GROUP_STAT g) F.LN_GROUP_STAT_PLL_LOCK = true ∧ t.told = s.told) ∧
  (∀ (s : State) (n : Fin 16) (high : Bool), s.flag (R.LN_CTLE n) F.LN_CTLE_MODE = false → s.cdrOn n = true → s.flag (R.LN_STATE n) F.LN_STATE_LOS = false → s.flag (R.LN_CTLE n) F.LN_CTLE_LIM = false → 
      Gives (.ctleLimitTimeout n high) s fun t =>
      t.flag (R.LN_CTLE n) F.LN_CTLE_LIM = true ∧ t.get (R.LN_CTLE n) F.LN_CTLE_PK_NOW = (if high then 20 else 0) ∧
      t.told = s.told ++ [(Ev.LN_ADAPT_LIMIT, [n.val, if high then 20 else 0])]) ∧
  (∀ (s : State) (n : Fin 16), (s.lane n).exiting = false → 
      exec (.lanePowerExitDone n) s = .next s) ∧
  (∀ (s : State) (n : Fin 16), (s.lane n).exiting = true → s.laneRx n = Rx.off → (s.grp (n.val / 4)).step = 2 → 
      Gives (.lanePowerExitDone n) s fun t =>
      t.laneRx n = Rx.doldrums ∧ t.laneTx n = 1) ∧
  (∀ (s : State) (n : Fin 16), (s.lane n).exiting = true → s.laneRx n = Rx.lull → (s.lane n).goal = 0 → 
      Gives (.lanePowerExitDone n) s fun t =>
      t.laneRx n = Rx.hunt ∧ t.laneTx n = (if s.laneTx n = 3 then 2 else s.laneTx n)) ∧
  (∀ (s : State) (g : Fin 4), (s.grp g).waits = none → 
      exec (.groupChangeApply g) s = .next s) ∧
  (∀ (s : State) (g : Fin 4) (cfg : Word), (s.grp g).waits = some cfg → 
      Gives (.groupChangeApply g) s fun t =>
      t.rd (R.LN_GROUP_CFG g) = cfg) ∧
  (∀ (s : State) (n : Fin 16), s.checks n = true → s.flag (R.LN_PAT_STAT n) F.LN_PAT_STAT_SYNC = false → 
      Gives (.patternSync n) s fun t =>
      t.flag (R.LN_PAT_STAT n) F.LN_PAT_STAT_SYNC = true ∧ t.told = s.told ++ [(Ev.LN_PAT_LOCK, [n.val])]) ∧
  (∀ (s : State) (n : Fin 16) (bits : BitVec 48) (errs : BitVec 32), s.checks n = true → s.flag (R.LN_PAT_STAT n) F.LN_PAT_STAT_SYNC = true → 
      Gives (.patternSyncLoss n bits errs) s fun t =>
      t.flag (R.LN_PAT_STAT n) F.LN_PAT_STAT_SYNC = false ∧ (t.rd (R.LN_PAT_ERR_CNT n)).toNat = min ((s.rd (R.LN_PAT_ERR_CNT n)).toNat + errs.toNat) (2 ^ 32 - 1) ∧
      t.get64 (R.LN_PAT_BITS n) = (s.get64 (R.LN_PAT_BITS n) + bits.toNat) % 2 ^ 48 ∧ t.told.getLast? = some (Ev.LN_PAT_LOST, [n.val])) ∧
  (∀ (s : State) (n : Fin 16) (errs : BitVec 32), s.checks n = true → s.flag (R.LN_PAT_STAT n) F.LN_PAT_STAT_SYNC = true → s.get64 (R.LN_PAT_BITS n) < 2 ^ 48 → 
      Gives (.lnCntWrap n errs) s fun t =>
      t.get64 (R.LN_PAT_BITS n) = 0 ∧ t.flag (R.LN_PAT_STAT n) F.LN_PAT_STAT_BITS_OVF = true ∧ t.told = s.told ++ [(Ev.LN_CNT_WRAP, [n.val])]) ∧
  (∀ (s : State) (n : Fin 16), Gives (.lnPatStatClr n) s fun t =>
      t.rd (R.LN_PAT_ERR_CNT n) = 0 ∧ t.get64 (R.LN_PAT_BITS n) = 0 ∧ t.get (R.LN_PAT_STAT n) F.LN_PAT_STAT_RESYNC = 0 ∧
      t.flag (R.LN_PAT_STAT n) F.LN_PAT_STAT_BITS_OVF = false ∧ t.flag (R.LN_PAT_STAT n) F.LN_PAT_STAT_SYNC = s.flag (R.LN_PAT_STAT n) F.LN_PAT_STAT_SYNC)

/-- A port without a role takes nothing; an Ethernet frame that is marked bad or breaks a port's limits is dropped as MALFORMED, one
for another address as NOT_MINE, one of no known kind as ETYPE; an accepted PTP or slow-protocol frame waits in the ingress buffer
of class TIME; a cascade port's frame that is not addressed to it goes out of its fronthaul port in class FIRM; frames that wait
are taken by the row of their kind; a frame counter at its last value wraps to 0 with its bit and FH_CNT_WRAP. -/
def Obligations.PortsAcceptAndForward : Prop :=
  (∀ (s : State) (g : Fin 4) (f : EthFrame), s.role g = 0 → 
      exec (.ethernetFrame g f) s = .next s) ∧
  (∀ (s : State) (g : Fin 4) (f : EthFrame), s.role g = 1 ∨ s.role g = 3 → s.gale g = false → f.bad = true ∨ s.tagOk g f.tags = false ∨ s.get (R.FH_PORT_CFG g) F.FH_PORT_CFG_MTU < f.len.toNat → 
      Gives (.ethernetFrame g f) s fun t =>
      Counted s t (R.FH_DROP_CNT g Dc.malformed) ∧ t.fh.rx = s.fh.rx ∧ t.fh.tx = s.fh.tx) ∧
  (∀ (s : State) (g : Fin 4) (f : EthFrame), s.role g = 1 ∨ s.role g = 3 → s.gale g = false → f.bad = false → s.tagOk g f.tags = true → f.len.toNat ≤ s.get (R.FH_PORT_CFG g) F.FH_PORT_CFG_MTU → s.dstOk g f.dst.toNat = false → s.cascOf g = none → 
      Gives (.ethernetFrame g f) s fun t =>
      Counted s t (R.FH_DROP_CNT g Dc.notMine) ∧ t.fh.rx = s.fh.rx ∧ t.fh.tx = s.fh.tx) ∧
  (∀ (s : State) (g : Fin 4) (f : EthFrame), s.role g = 1 ∨ s.role g = 3 → s.gale g = false → f.bad = false → s.tagOk g f.tags = true → f.len.toNat ≤ s.get (R.FH_PORT_CFG g) F.FH_PORT_CFG_MTU → s.dstOk g f.dst.toNat = true → f.kind = .other → 
      Gives (.ethernetFrame g f) s fun t =>
      Counted s t (R.FH_DROP_CNT g Dc.etype) ∧ t.fh.rx = s.fh.rx ∧ t.fh.tx = s.fh.tx) ∧
  (∀ (s : State) (g : Fin 4) (f : EthFrame) (e : Bool), s.role g = 1 ∨ s.role g = 3 → s.gale g = false → f.bad = false → s.tagOk g f.tags = true → f.len.toNat ≤ s.get (R.FH_PORT_CFG g) F.FH_PORT_CFG_MTU → s.dstOk g f.dst.toNat = true → f.kind = .ptp e ∨ f.kind = .slow 0x0A → s.rxBytes g 2 + f.len.toNat ≤ queueSize → 
      Gives (.ethernetFrame g f) s fun t =>
      t.fh.rx = s.fh.rx ++ [⟨g.val, 2, f.len.toNat, f.kind⟩] ∧ t.fh.tx = s.fh.tx) ∧
  (∀ (s : State) (g : Fin 4) (f : EthFrame) (u : Nat), s.role g = 2 → s.gale g = false → s.upOf g = some u → f.dst.toNat ≠ s.get64 (R.FH_PORT_MAC g) % 2 ^ 48 → f.bad = false → f.kind = .ip → s.txBytes u 1 + f.len.toNat ≤ queueSize → 
      Gives (.ethernetFrame g f) s fun t =>
      t.fh.tx = s.fh.tx ++ [⟨u, 1, f.len.toNat, .fwd false f.ts.toNat⟩] ∧ t.fh.rx = s.fh.rx) ∧
  (∀ (s : State) (g : Fin 4) (tx : Bool), (s.get64 (if tx then R.FH_TX_FRAMES g else R.FH_RX_FRAMES g) % 2 ^ 48 = 2 ^ 48 - 1) → 
      Gives (.fhCntWrap g tx) s fun t =>
      t.get64 (if tx then R.FH_TX_FRAMES g else R.FH_RX_FRAMES g) = 0 ∧
      t.flag (R.FH_PORT_STAT g) (if tx then F.FH_PORT_STAT_TX_OVF else F.FH_PORT_STAT_RX_OVF) = true ∧
      t.told = s.told ++ [(Ev.FH_CNT_WRAP, [g.val, if tx then 1 else 0])]) ∧
  (∀ (s : State) (g : Fin 4) (len : BitVec 14) (f : RxFrame), s.fh.rx.head? = some f → f.port = g.val → f.kind = .arp → s.txBytes g 3 + len.toNat ≤ queueSize → 
      Gives (.arpOrNdFrame g len) s fun t =>
      t.fh.rx = s.fh.rx.tail ∧ t.fh.tx = s.fh.tx ++ [⟨g.val, 3, len.toNat, .answer⟩]) ∧
  (∀ (s : State) (g : Fin 4) (f : RxFrame), s.fh.rx.head? = some f → f.port = g.val → f.kind = .ip → 
      Gives (.otherIpFrame g) s fun t =>
      t.fh.rx = s.fh.rx.tail ∧ t.fh.tx = s.fh.tx) ∧
  (∀ (s : State) (g : Fin 4) (f : RxFrame) (e : Bool) (num : BitVec 8) (d : Nat), s.fh.rx.head? = some f → f.port = g.val → f.kind = .ptp e → s.ptpDom g num.toNat = some (d, true) → d < s.ts.doms.length → 
      Gives (.ptpMessage g num .peer) s fun t =>
      t.fh.rx = s.fh.rx.tail ∧ (t.dom d).peer = (s.dom d).peer + 1) ∧
  (∀ (s : State) (g : Fin 4) (f : RxFrame) (e : Bool) (num : BitVec 8) (d : Nat), s.fh.rx.head? = some f → f.port = g.val → f.kind = .ptp e → s.ptpDom g num.toNat = some (d, true) → 
      Gives (.ptpMessage g num (.share false)) s fun t =>
      t.fh.rx = s.fh.rx.tail ∧ t.ts = s.ts) ∧
  (∀ (s : State) (g : Fin 4) (f : RxFrame) (e : Bool) (num : BitVec 8) (d : Nat) (k : PtpKind), s.fh.rx.head? = some f → f.port = g.val → f.kind = .ptp e → s.ptpDom g num.toNat = some (d, false) → d < s.ts.doms.length → 
      Gives (.ptpMessage g num k) s fun t =>
      t.fh.rx = s.fh.rx.tail ∧ (t.dom d).other = (s.dom d).other + 1) ∧
  (∀ (s : State) (g : Fin 4) (f : RxFrame) (st : BitVec 8) (ql : BitVec 4), s.fh.rx.head? = some f → f.port = g.val → f.kind = .slow st → 
      Gives (.esmcFrame g ql) s fun t =>
      t.fh.rx = s.fh.rx.tail ∧ t.ts.ql = s.ts.ql.set (4 * g.val) (some ql.toNat))

/-- A delay Request is answered in class TIME and a Remote Request makes a Request; a Response ends the measurement it belongs to,
with FH_DELAY_DONE where a context asked; the launch calendar sends, from its instant on, the hard message of its symbol with the
flow's sequence number, the port sends its next frame, and an uplink message that expired leaves the queue with a QUEUE drop, the
hard one with FH_LAUNCH_LATE. The length of a delay message, 46 bytes, is the model's (PRESUMED, log entry 40). -/
def Obligations.DelayMeasurementsAndLaunch : Prop :=
  (∀ (s : State) (g : Fin 4) (id : BitVec 8) (t2 : BitVec 32), s.role g = 1 ∨ s.role g = 2 → s.txBytes g 2 + delayLen ≤ queueSize → 
      Gives (.delayRequest g id t2) s fun t =>
      t.fh.tx = s.fh.tx ++ [⟨g.val, 2, delayLen, .delayResp id.toNat t2.toNat⟩]) ∧
  (∀ (s : State) (g : Fin 4) (id : BitVec 8), s.role g = 1 ∨ s.role g = 2 → s.txBytes g 2 + delayLen ≤ queueSize → 
      Gives (.remoteDelayRequest g id) s fun t =>
      t.fh.tx = s.fh.tx ++ [⟨g.val, 2, delayLen, .delayReq id.toNat⟩] ∧ t.fh.delays.getLast? = some ⟨g.val, id.toNat, none, none⟩) ∧
  (∀ (s : State) (g : Fin 4) (id : BitVec 8) (t2 : BitVec 32), s.role g = 0 ∨ s.role g = 3 → 
      exec (.delayRequest g id t2) s = .next s ∧ exec (.remoteDelayRequest g id) s = .next s) ∧
  (∀ (s : State) (g : Fin 4) (id : BitVec 8) (t2 comp : BitVec 32) (d : DelayReq) (t1 : Nat), (s.fh.delays.find? (fun x => x.port = g.val && x.id = id.toNat) = some d) → d.t1 = some t1 → d.ctx = none → 
      Gives (.delayResponse g id t2 comp) s fun t =>
      t.fh.delays = s.fh.delays.erase d ∧ t.told = s.told) ∧
  (∀ (s : State) (g : Fin 4) (id : BitVec 8) (t2 comp : BitVec 32) (d : DelayReq) (t1 x : Nat), (s.fh.delays.find? (fun x => x.port = g.val && x.id = id.toNat) = some d) → d.t1 = some t1 → d.ctx = some x → 
      Gives (.delayResponse g id t2 comp) s fun t =>
      t.fh.delays = s.fh.delays.erase d ∧ (Ev.FH_DELAY_DONE, [g.val, id.toNat, unsigned 32 ((t2.toNat : Int) - t1 - comp.toNat)]) ∈ t.told) ∧
  (∀ (s : State) (g : Fin 4) (slot : Fin 4096) (k : Fin 14) (n : Nat) (f : TxFrame) (fl se pr np sl kk st : Nat) (data : List Byte), s.link g = true → (s.fh.tx.filter (fun x => x.ofSym g 0 slot k) = [f]) → f.kind = .uplink fl se pr np sl kk st data → s.upAt f 3 (s.get (R.FH_LAUNCH g) F.FH_LAUNCH_OFS) = true → s.upAt f 4 0 = false → 0 < n → 
      Gives (.hardLaunch g slot k n) s fun t =>
      t.fh.tx = s.fh.tx.erase f ∧ t.fh.last = some (f, s.get (R.FH_FLOW fl 6) F.FH_FLOW_SEQ) ∧
      t.get (R.FH_FLOW fl 6) F.FH_FLOW_SEQ = (s.get (R.FH_FLOW fl 6) F.FH_FLOW_SEQ + 1) % 2 ^ F.FH_FLOW_SEQ.w) ∧
  (∀ (s : State) (g : Fin 4) (f : TxFrame), s.link g = true → s.role g ≠ 0 → s.nextFrame g = some f → 
      Gives (.egressFrameStart g) s fun t =>
      t.fh.tx = s.fh.tx.erase f ∧ t.fh.last.map Prod.fst = some f) ∧
  (∀ (s : State) (g : Fin 4) (slot : Fin 4096) (k : Fin 14), s.link g = false → 
      (∀ n, exec (.hardLaunch g slot k n) s = .next s) ∧ exec (.egressFrameStart g) s = .next s) ∧
  (∀ (s : State) (g : Fin 4) (slot : Fin 4096) (k : Fin 14) (f : TxFrame), (s.fh.tx.filter (fun x => x.ofSym g 1 slot k) = [f]) → s.upAt f 5 0 = true → 
      Gives (.firmLaunchExpiry g slot k) s fun t =>
      t.fh.tx = s.fh.tx.erase f ∧ Counted s t (R.FH_DROP_CNT g Dc.queue)) ∧
  (∀ (s : State) (g : Fin 4) (slot : Fin 4096) (k : Fin 14), (s.fh.tx.all (fun x => !(x.ofSym g 1 slot k && s.upAt x 5 0)) = true) → 
      exec (.firmLaunchExpiry g slot k) s = .next s) ∧
  (∀ (s : State) (g : Fin 4) (slot : Fin 4096) (k : Fin 14) (f : TxFrame), (s.fh.tx.filter (fun x => x.ofSym g 0 slot k) = [f]) → s.upAt f 4 0 = true → 
      Gives (.hardLaunchExpiry g slot k) s fun t =>
      t.fh.tx = s.fh.tx.erase f ∧ Counted s t (R.FH_DROP_CNT g Dc.queue) ∧
      t.told.getLast? = some (Ev.FH_LAUNCH_LATE, [g.val, slot.val, 1]))

/-- A message of another payload version is MALFORMED; one that no flow claims counts NO_FLOW; a C-plane section that passes every
check within its window, with room in its owner's partition, becomes an entry of the section table with its flow, direction, first
symbol, symbols, PRBs and beam; a U-plane block of one PRB that an entry covers, and a path-mode block of 12 samples, arriving
within the window, are decompressed into the symbol store at their flow, symbol and PRB. -/
def Obligations.FronthaulMessages : Prop :=
  (∀ (s : State) (g : Fin 4) (m : CMsg), s.role g = 1 → s.mine m.id.toNat true = true → m.version ≠ 1 → 
      Gives (.cPlaneMessage g m) s fun t =>
      Counted s t (R.FH_DROP_CNT g Dc.malformed) ∧ t.fh.sects = s.fh.sects) ∧
  (∀ (s : State) (g : Fin 4) (m : CMsg), s.role g = 1 → s.mine m.id.toNat true = true → m.version = 1 → s.flowFind g m.id.toNat m.ul = none → 
      Gives (.cPlaneMessage g m) s fun t =>
      Counted s t (R.FH_DROP_CNT g Dc.noFlow) ∧ t.fh.sects = s.fh.sects) ∧
  (∀ (s : State) (g : Fin 4) (m : CMsg) (u : State) (f st : Nat) (x : CSection), s.role g = 1 → s.mine m.id.toNat true = true → m.version = 1 → s.flowFind g m.id.toNat m.ul = some f → s.msgStamp (s.flCar f) m.stamp.toNat = some st → s.flPathm f = false → s.flowRuns f = true → m.sections = [x] → u = s.flowSeq f m.seq.toNat → u.sectTypeOk (u.flCar f) m x = true → x.exts = [] → x.beam.toNat < 16384 → (u.before (shiftBy (u.tick st (if m.ul then 0 else -5) m.ul (u.flCar f)) (-(cyclesPerMs : Int))) m.age1.toNat = false) → (u.inTime g (u.tick st (if m.ul then 2 else -3) m.ul (u.flCar f)) m.age2.toNat = true) → (((u.sectPurge.sectReplace f x.id.toNat).fh.sects.filter (fun e => e.ctx = u.flOwner f)).length < u.get (R.FH_SECT_QUOTA (u.flOwner f)) F.FH_SECT_QUOTA_QUOTA) → 
      Gives (.cPlaneMessage g m) s fun t =>
      t.fh.sects = (u.sectPurge.sectReplace f x.id.toNat).fh.sects ++
      [⟨f, u.flOwner f, m.ul, u.carNum (u.flCar f), x.id.toNat, symIndex st, x.nsym.toNat, u.sectPrbs (u.flCar f) x, x.beam.toNat⟩]) ∧
  (∀ (s : State) (g : Fin 4) (m : UMsg) (l : List USection), s.role g = 1 → s.mine m.id.toNat false = true → m.body = .sections l → m.version ≠ 1 → 
      Gives (.uPlaneMessage g m) s fun t =>
      Counted s t (R.FH_DROP_CNT g Dc.malformed) ∧ t.fh.store = s.fh.store) ∧
  (∀ (s : State) (g : Fin 4) (m : UMsg) (u : State) (f st : Nat) (x : USection) (w : BitVec 4), s.role g = 1 → s.mine m.id.toNat false = true → m.version = 1 → s.flowFind g m.id.toNat m.ul = some f → s.flUl f = false → s.msgStamp (s.flCar f) m.stamp.toNat = some st → s.flPathm f = false → s.flowRuns f = true → m.body = .sections [x] → m.filter = 0 → x.rb = false → x.symInc = false → x.nprb = 1 → x.comp = some (1, w) → bfpWidth w.toNat = true → u = s.sectPurge.flowSeq f m.seq.toNat → u.before (u.tick st (-5) false 0) m.age1.toNat = false → u.inTime g (u.tick st (-3) false 0) m.age2.toNat = true → ((u.matching f x.id.toNat st).any (fun e => e.hasPrb x.prb.toNat) = true) → 
      Gives (.uPlaneMessage g m) s fun t =>
      t.fh.store.head? = some ⟨u.flCar f, f, u.flLayer f, st, x.prb.toNat, x.id.toNat,
      (decompress 1 (iqWidth w.toNat) (x.data.take (prbBytes 1 (iqWidth w.toNat)))).1⟩) ∧
  (∀ (s : State) (g : Fin 4) (m : UMsg) (u : State) (f st : Nat) (ofs : BitVec 16) (data : List Byte), s.role g = 1 → s.mine m.id.toNat false = true → s.flowFind g m.id.toNat m.ul = some f → s.flUl f = false → s.msgStamp (s.flCar f) m.stamp.toNat = some st → s.flPathm f = true → s.flowRuns f = true → m.body = .samples ofs 12 0 0 data → u = s.sectPurge.flowSeq f m.seq.toNat → u.before (u.tick st (-5) false 0) m.age1.toNat = false → u.inTime g (u.tick st (-3) false 0) m.age2.toNat = true → 
      Gives (.uPlaneMessage g m) s fun t =>
      t.fh.store.head? = some ⟨u.flCar f, f, u.flLayer f, st, ofs.toNat, 0, (decompress 0 16 (data.take 48)).1⟩)

/-- A step is refused and counted in a radio mode and elsewhere moves the counter by TS_STEP_VAL, makes it valid and raises TS_STEP; a
switch that the domains do not allow does nothing, one that they allow makes the domain the steering one; a write of TS_DOM_OFS
gives a PTP domain its sample, counting one that still waits; the servo discards a sample in OFF, rejects and counts one of the
first three outliers in LOCKED and accepts one within the limit; the timeout leads to HOLDOVER with f equal to minus the integral;
with the source off the increment is the nominal one. -/
def Obligations.TimeDomainsAndSteps : Prop :=
  (∀ (s : State), isRadio s.mode = true → 
      Gives .tsCtrlStep s fun t =>
      Counted s t R.TS_STEP_REFUSED_CNT ∧ t.get64 R.TS_CNT = s.get64 R.TS_CNT ∧ t.told = s.told) ∧
  (∀ (s : State), isRadio s.mode = false → 
      Gives .tsCtrlStep s fun t =>
      t.get64 R.TS_CNT = unsigned 64 ((s.get64 R.TS_CNT : Int) + signed 32 (s.rd R.TS_STEP_VAL).toNat * 2 ^ 32) ∧
      t.flag R.TS_STATUS F.TS_STATUS_VALID = true ∧ t.told = s.told ++ [(Ev.TS_STEP, [(s.rd R.TS_STEP_VAL).toNat])]) ∧
  (∀ (s : State) (d : Fin 2), s.maySelect d = false ∨ s.steering = d.val → 
      exec (.tsCtrlSel d) s = .next s) ∧
  (∀ (s : State) (d : Fin 2), s.maySelect d = true → s.steering ≠ d.val → 
      Gives (.tsCtrlSel d) s fun t =>
      t.steering = d.val ∧ t.get R.TS_CTRL F.TS_CTRL_SEL = d.val ∧ t.flag (R.TS_DOM_STAT d) F.TS_DOM_STAT_STEER = true ∧
      t.flag (R.TS_DOM_STAT (1 - d.val)) F.TS_DOM_STAT_STEER = false ∧ (Ev.TS_SWITCH, [d.val]) ∈ t.told) ∧
  (∀ (s : State) (d : Fin 2) (e : BitVec 32), s.domSrc d = 1 → s.flag R.TS_CTRL F.TS_CTRL_EN = true → d.val < s.ts.doms.length → 
      Gives (.tsDomOfsWrite d e) s fun t =>
      (t.dom d).pend = some e.toInt ∧ ((s.dom d).pend.isSome = true → Counted s t (R.TS_SAMPLE_REJ_CNT d)) ∧
      ((s.dom d).pend = none → t.rd (R.TS_SAMPLE_REJ_CNT d) = s.rd (R.TS_SAMPLE_REJ_CNT d))) ∧
  (∀ (s : State) (d : Fin 2) (e : BitVec 32), s.domSrc d ≠ 1 ∨ s.flag R.TS_CTRL F.TS_CTRL_EN = false → 
      exec (.tsDomOfsWrite d e) s = .next s) ∧
  (∀ (s : State) (d : Fin 2), (s.dom d).pend = none → 
      exec (.servoUpdate d) s = .next s) ∧
  (∀ (s : State) (d : Fin 2) (e : Int), (s.dom d).pend = some e → s.spanPast 32 (s.dom d).took = true → s.domState d = 0 → d.val < s.ts.doms.length → 
      Gives (.servoUpdate d) s fun t =>
      (t.dom d).pend = none ∧ ∀ a, t.rd a = s.rd a) ∧
  (∀ (s : State) (d : Fin 2) (e : Int), (s.dom d).pend = some e → s.spanPast 32 (s.dom d).took = true → s.domState d = 3 → 16 * s.get (R.TS_DOM_LIM d) F.TS_DOM_LIM_OUTLIER < e.natAbs → (s.dom d).rej < 3 → d.val < s.ts.doms.length → 
      Gives (.servoUpdate d) s fun t =>
      (t.dom d).pend = none ∧ (t.dom d).rej = (s.dom d).rej + 1 ∧ Counted s t (R.TS_SAMPLE_REJ_CNT d) ∧ t.domState d = 3) ∧
  (∀ (s : State) (d : Fin 2) (e : Int), (s.dom d).pend = some e → s.spanPast 32 (s.dom d).took = true → s.domState d ≠ 0 → e.natAbs ≤ 16 * s.get (R.TS_DOM_LIM d) F.TS_DOM_LIM_OUTLIER → d.val < s.ts.doms.length → 
      Gives (.servoUpdate d) s fun t =>
      (t.dom d).pend = none ∧ (t.dom d).last = some s.now ∧ (t.dom d).rej = 0 ∧ t.rd (R.TS_DOM_LAST d) = BitVec.ofNat 32 (unsigned 32 e)) ∧
  (∀ (s : State) (d : Fin 2), s.domState d = 2 ∨ s.domState d = 3 → s.spanPast (s.get (R.TS_DOM_CFG d) F.TS_DOM_CFG_TMO * cyclesPerSecond) (s.dom d).last = true → s.ts.auto = false → d.val < s.ts.doms.length → 
      Gives (.holdoverTimeout d) s fun t =>
      t.domState d = 4 ∧ (t.dom d).f = -(t.dom d).i ∧ t.told.getLast? = some (Ev.TS_HOLDOVER, [d.val])) ∧
  (∀ (s : State) (d : Fin 2), s.domState d ≠ 2 → s.domState d ≠ 3 → 
      exec (.holdoverTimeout d) s = .next s) ∧
  (∀ (s : State), s.domState s.steering = 0 → s.spanPast 32 s.ts.incAt = true → 
      Gives .incRecompute s fun t =>
      t.get64 R.TS_INC_CUR = s.get64 R.TS_INC_NOM ∧ t.ts.steer = s.ts.steer)

/-- The second edge moves TS_PPS_NEXT on by 1,000,000,000 and counts the second; PPS_OUT rises where it may and falls; an edge on
PPS_IN within 100 µs of the last one is counted as a glitch and any other is stamped; its loss clears PPS_IN_OK and is reported
once; REFCLK's loss clears REF_LOCK with TS_REF_LOSS and its return sets it; a SyncE gate on a lane that is UP shows its
measurement and one on another lane loses SyncE; ESMC goes out of every Ethernet port with a role, with the lane's QL, and with
DNU towards the lane itself (code 15, PRESUMED, log entry 42; frames of 46 bytes, log entry 40). -/
def Obligations.EdgesClocksAndSyncE : Prop :=
  (∀ (s : State), 0 ≤ nsDiff s.ns (s.rd R.TS_PPS_NEXT).toNat → 
      Gives .secondEdge s fun t =>
      t.hy.taiSec = (s.hy.taiSec + 1) % 2 ^ 48 ∧ t.hy.c0 = (s.rd R.TS_PPS_NEXT).toNat ∧ t.rd R.TS_PPS_NEXT = s.rd R.TS_PPS_NEXT + 1000000000 ∧
      t.get64 R.NVJ_TAI_SHADOW = (s.hy.taiSec + 1) % 2 ^ 48) ∧
  (∀ (s : State), s.ppsMay = true → s.ppsPhase < 5 → 
      Gives .ppsOutRise s fun t =>
      t.pins.ppsOut = true ∧ ∀ a, t.rd a = s.rd a) ∧
  (∀ (s : State), s.ppsMay = false → 
      exec .ppsOutRise s = .next s) ∧
  (∀ (s : State), s.get R.TS_PPS_CFG F.TS_PPS_CFG_WIDTH * 1000000 ≤ s.ppsPhase → 
      Gives .ppsOutFall s fun t =>
      t.pins.ppsOut = false ∧ ∀ a, t.rd a = s.rd a) ∧
  (∀ (s : State) (ts : BitVec 32), s.flag R.TS_PPS_CFG F.TS_PPS_CFG_IN_EN = false → 
      exec (.ppsInEdge ts) s = .next s) ∧
  (∀ (s : State) (ts : BitVec 32) (p x : Nat), s.flag R.TS_PPS_CFG F.TS_PPS_CFG_IN_EN = true → x = unsigned 32 ((ts.toNat : Int) - signed 16 (s.get R.TS_PPS_DLY F.TS_PPS_DLY_IDLY)) → s.ts.pps = some p → (nsDiff x p).natAbs < 100000 → 
      Gives (.ppsInEdge ts) s fun t =>
      Counted s t R.TS_PPS_GLITCH_CNT ∧ t.ts = s.ts ∧ t.rd R.TS_PPS_IN_TS = s.rd R.TS_PPS_IN_TS) ∧
  (∀ (s : State) (ts : BitVec 32) (x : Nat), s.flag R.TS_PPS_CFG F.TS_PPS_CFG_IN_EN = true → x = unsigned 32 ((ts.toNat : Int) - signed 16 (s.get R.TS_PPS_DLY F.TS_PPS_DLY_IDLY)) → (s.ts.pps.all (fun p => decide (100000 ≤ (nsDiff x p).natAbs)) = true) → 
      Gives (.ppsInEdge ts) s fun t =>
      t.ts.pps = some x ∧ t.ts.ppsLost = false ∧ t.rd R.TS_PPS_IN_TS = BitVec.ofNat 32 x) ∧
  (∀ (s : State), s.flag R.TS_PPS_CFG F.TS_PPS_CFG_IN_EN = true → s.ts.ppsLost = false → s.ppsGone = true → 
      Gives .ppsInTimeout s fun t =>
      t.ts.ppsLost = true ∧ t.flag R.TS_STATUS F.TS_STATUS_PPS_IN_OK = false ∧ t.told = s.told ++ [(Ev.TS_PPS_IN_LOSS, [])]) ∧
  (∀ (s : State), s.ts.ppsLost = true → 
      exec .ppsInTimeout s = .next s) ∧
  (∀ (s : State), s.flag R.TS_STATUS F.TS_STATUS_REF_LOCK = true → 
      Gives .refclkLoss s fun t =>
      t.flag R.TS_STATUS F.TS_STATUS_REF_LOCK = false ∧ t.told = s.told ++ [(Ev.TS_REF_LOSS, [])] ∧ t.rd R.TS_PLL_STEER = s.rd R.TS_PLL_STEER) ∧
  (∀ (s : State), s.pm.pllClocks = true → 
      Gives .refclkReturn s fun t =>
      t.flag R.TS_STATUS F.TS_STATUS_REF_LOCK = true ∧ t.rd R.TS_PLL_STEER = s.rd R.TS_PLL_STEER) ∧
  (∀ (s : State) (meas : BitVec 32), s.flag R.TS_SYNCE_CFG F.TS_SYNCE_CFG_EN = false → 
      exec (.synceGateEnd meas) s = .next s) ∧
  (∀ (s : State) (meas : BitVec 32), s.flag R.TS_SYNCE_CFG F.TS_SYNCE_CFG_EN = true → s.spanPast cyclesPerSecond s.ts.gateAt = true → s.laneRx (s.get R.TS_SYNCE_CFG F.TS_SYNCE_CFG_LANE) = Rx.up → 
      Gives (.synceGateEnd meas) s fun t =>
      t.rd R.TS_SYNCE_MEAS = meas ∧ t.flag R.TS_STATUS F.TS_STATUS_SYNCE_OK = true) ∧
  (∀ (s : State) (meas : BitVec 32), s.flag R.TS_SYNCE_CFG F.TS_SYNCE_CFG_EN = true → s.spanPast cyclesPerSecond s.ts.gateAt = true → s.laneRx (s.get R.TS_SYNCE_CFG F.TS_SYNCE_CFG_LANE) ≠ Rx.up → 
      Gives (.synceGateEnd meas) s fun t =>
      t.rd R.TS_SYNCE_MEAS = s.rd R.TS_SYNCE_MEAS ∧ t.flag R.TS_STATUS F.TS_STATUS_SYNCE_OK = false ∧
      t.told = s.told ++ (if s.flag R.TS_STATUS F.TS_STATUS_SYNCE_OK then [(Ev.TS_SYNCE_LOSS, [s.get R.TS_SYNCE_CFG F.TS_SYNCE_CFG_LANE])] else [])) ∧
  (∀ (s : State) (g : Fin 4), s.role g = 1 ∨ s.role g = 2 → s.gale g = false → s.fh.tx = [] → s.spanPast cyclesPerSecond s.ts.esmcAt = true → 
      Gives .esmcSend s fun t =>
      t.fh.tx.any (fun f => f.port = g.val && f.cls = 2) = true) ∧
  (∀ (s : State) (g : Fin 4) (q n : Nat), s.role g = 1 ∨ s.role g = 2 → s.gale g = false → s.fh.tx = [] → n = s.get R.TS_SYNCE_CFG F.TS_SYNCE_CFG_LANE → s.flag R.TS_SYNCE_CFG F.TS_SYNCE_CFG_EN = true → s.flag R.TS_STATUS F.TS_STATUS_SYNCE_OK = true → nth s.ts.ql n none = some q → s.spanPast cyclesPerSecond s.ts.esmcAt = true → 
      Gives .esmcSend s fun t =>
      (⟨g.val, 2, 46, .esmc (if n / 4 = g.val then qlDnu else q)⟩ : TxFrame) ∈ t.fh.tx)

/-- A word write of an aligned block register without an action of its own sets its RW and RWS fields, clears the W1C bits written as
one that no event of the same cycle sets, and leaves every other bit and register; a misaligned or narrower write is not
performed, and such a read answers 0; a write of any value to an error counter clears it, to 1 when it counts in the same cycle; a
read of the low word of a 64-bit register answers it and holds the high word; a write of HI_ALERT_SUM clears the bits written as
one, from the mode-lease holder's attachment or SPI only; a BAR0 access while HI does not run changes nothing. -/
def Obligations.RegisterAccess : Prop :=
  (∀ (s : State) (addr : BitVec 32) (v : Word) (r : RegSpec), s.region addr.toNat = .regs → addr.toNat % 4 = 0 → refusedWrite addr.toNat v = false → (s.actionWrite addr.toNat v false).isNone = true → indexAt R.DFE_DPD_CFG 64 addr.toNat = none → regSpec addr.toNat = some r → r.cnt = false → 
      Gives (.registerWrite (.internal .word) addr v) s fun t =>
      t.rd addr.toNat = (((s.rd addr.toNat &&& ~~~(BitVec.ofNat 32 (r.rw ||| r.rws))) ||| (v &&& BitVec.ofNat 32 (r.rw ||| r.rws))) &&&
      ~~~(v &&& (BitVec.ofNat 32 r.w1c &&& ~~~(s.marked addr.toNat)))) ∧ ∀ a, a ≠ addr.toNat → t.rd a = s.rd a) ∧
  (∀ (s : State) (att : Attachment) (addr : BitVec 32) (w : Width) (v : Word), addr.toNat % 4 ≠ 0 ∨ w ≠ .word → 
      exec (.registerWrite (.internal w) addr v) s = .next s ∧ exec (.counterClear (.internal w) addr v) s = .next s ∧
      exec (.registerWrite (.bar att w) addr v) s = .next s ∧ exec (.counterClear (.bar att w) addr v) s = .next s) ∧
  (∀ (s : State) (addr : BitVec 32) (w : Width), isWide (addr.toNat / 4 * 4) = true → addr.toNat % 4 ≠ 0 ∨ w ≠ .word → 
      Gives (.reg64LowRead (.internal w) addr) s fun t =>
      t.lastRead = some 0 ∧ t.latch = s.latch ∧ ∀ a, t.rd a = s.rd a) ∧
  (∀ (s : State) (att : Attachment) (addr : BitVec 32) (w : Width) (v : Word), s.hiRuns = false → 
      exec (.registerWrite (.bar att w) addr v) s = .next s ∧ exec (.counterClear (.bar att w) addr v) s = .next s ∧
      exec (.reg64LowRead (.bar att w) addr) s = .next s) ∧
  (∀ (s : State) (addr : BitVec 32) (v : Word) (r : RegSpec), regSpec addr.toNat = some r → r.cnt = true → addr.toNat % 4 = 0 → 
      Gives (.counterClear (.internal .word) addr v) s fun t =>
      t.rd addr.toNat = (if s.marked addr.toNat = 0 then 0 else 1) ∧ ∀ a, a ≠ addr.toNat → t.rd a = s.rd a) ∧
  (∀ (s : State) (addr : BitVec 32), isWide addr.toNat = true → addr.toNat % 4 = 0 → summaryRegs.contains addr.toNat = false → addr.toNat < R.TH_NBR 0 ∨ R.TH_NBR 48 ≤ addr.toNat → 
      Gives (.reg64LowRead (.internal .word) addr) s fun t =>
      t.lastRead = some (s.rd addr.toNat) ∧ t.latch.head? = some (addr.toNat + 4, s.rd (addr.toNat + 4)) ∧ ∀ a, t.rd a = s.rd a) ∧
  (∀ (s : State) (att : Attachment) (i : Fin 8) (v : Word), s.hiRuns = true → (s.ctxsOf (attNum att)).any s.isML = true ∨ att = .spi → 
      Gives (.alertSumClear att i v) s fun t =>
      t.rd (R.HI_ALERT_SUM i) = s.rd (R.HI_ALERT_SUM i) &&& ~~~(v &&& ~~~(s.marked (R.HI_ALERT_SUM i))) ∧ ∀ a, a ≠ R.HI_ALERT_SUM i → t.rd a = s.rd a) ∧
  (∀ (s : State) (att : Attachment) (i : Fin 8) (v : Word), (s.ctxsOf (attNum att)).any s.isML = false → att ≠ .spi → 
      exec (.alertSumClear att i v) s = .next s)

/-- An attachment that does not see a ring changes nothing through it; PROD of a command ring and CONS of a completion or event ring
take the index written while it keeps within the ring, and an overrun puts the ring in ERROR with code 1; HI_RING_DATA moves the
next word of the entry to or from DRAM; a ring with a good shape of an attached context starts empty; a command is consumed,
refused and counted by HI, or held back for want of room; the oldest event is taken up, with its bit in the alert summary when it
is a fault or fatal; a vector is sent, or held while masked. -/
def Obligations.RingsAndCommands : Prop :=
  (∀ (s : State) (att : Attachment) (ring : Fin 32) (v : Word), s.seesRing (attNum att) ring = false → 
      exec (.ringProdWrite att ring v) s = .next s ∧ exec (.ringConsWrite att ring v) s = .next s ∧ exec (.ringDataWrite att ring v) s = .next s ∧
      exec (.ringEnable att ring v) s = .next s) ∧
  (∀ (s : State) (att : Attachment) (ring : Fin 32) (v : Word), s.hiRuns = true → s.seesRing (attNum att) ring = true → ring.val < 8 → (s.ringRuns ring = true → (v.toNat % 2 ^ 16 + 2 ^ 16 - s.get (R.HI_RING_CONS ring) F.HI_RING_CONS_IDX) % 2 ^ 16 ≤ s.ringSize ring) → 
      Gives (.ringProdWrite att ring v) s fun t =>
      t.get (R.HI_RING_PROD ring) F.HI_RING_PROD_IDX = v.toNat % 2 ^ 16 ∧ t.rd (R.HI_RING_STAT ring) = s.rd (R.HI_RING_STAT ring)) ∧
  (∀ (s : State) (att : Attachment) (ring : Fin 32) (v : Word), s.hiRuns = true → s.seesRing (attNum att) ring = true → ring.val < 8 → s.ringRuns ring = true → s.ringSize ring < (v.toNat % 2 ^ 16 + 2 ^ 16 - s.get (R.HI_RING_CONS ring) F.HI_RING_CONS_IDX) % 2 ^ 16 → 
      Gives (.ringProdWrite att ring v) s fun t =>
      t.get (R.HI_RING_STAT ring) F.HI_RING_STAT_STATE = 3 ∧ t.get (R.HI_RING_STAT ring) F.HI_RING_STAT_ERR = 1 ∧
      t.told.getLast? = some (Ev.HI_RING_ERR, [ring.val, 1])) ∧
  (∀ (s : State) (att : Attachment) (ring : Fin 32) (v : Word), s.hiRuns = true → s.seesRing (attNum att) ring = true → 8 ≤ ring.val → ring.val < 24 → s.ringRuns ring = true → (v.toNat % 2 ^ 16 + 2 ^ 16 - s.get (R.HI_RING_CONS ring) F.HI_RING_CONS_IDX) % 2 ^ 16 ≤ s.ringUsed ring → 
      Gives (.ringConsWrite att ring v) s fun t =>
      t.get (R.HI_RING_CONS ring) F.HI_RING_CONS_IDX = v.toNat % 2 ^ 16 ∧ t.rd (R.HI_RING_STAT ring) = s.rd (R.HI_RING_STAT ring)) ∧
  (∀ (s : State) (att : Attachment) (ring : Fin 32) (v : Word), s.hiRuns = true → s.seesRing (attNum att) ring = true → 8 ≤ ring.val → ring.val < 24 → s.ringRuns ring = true → s.ringUsed ring < (v.toNat % 2 ^ 16 + 2 ^ 16 - s.get (R.HI_RING_CONS ring) F.HI_RING_CONS_IDX) % 2 ^ 16 → 
      Gives (.ringConsWrite att ring v) s fun t =>
      t.get (R.HI_RING_STAT ring) F.HI_RING_STAT_STATE = 3 ∧ t.get (R.HI_RING_STAT ring) F.HI_RING_STAT_ERR = 1) ∧
  (∀ (s : State) (att : Attachment) (ring : Fin 32) (v : Word), s.hiRuns = true → s.seesRing (attNum att) ring = true → hostProduces ring = true → s.flag (R.HI_RING_CFG ring) F.HI_RING_CFG_LOC = true → s.ringRuns ring = true → s.spanOk (s.dataAddr ring) 4 = true → 
      Gives (.ringDataWrite att ring v) s fun t =>
      t.memN (s.dataAddr ring) 4 = v.toNat ∧ (∀ b, b < s.dataAddr ring ∨ s.dataAddr ring + 4 ≤ b → t.byte b = s.byte b) ∧
      t.hi.ringPos = s.hi.ringPos.set ring ((nth s.hi.ringPos ring 0 + 1) % (ringEntry ring / 4))) ∧
  (∀ (s : State) (att : Attachment) (ring : Fin 32), s.hiRuns = true → s.seesRing (attNum att) ring = true → hostProduces ring = false → s.flag (R.HI_RING_CFG ring) F.HI_RING_CFG_LOC = true → s.ringRuns ring = true → s.spanOk (s.dataAddr ring) 4 = true → 
      Gives (.ringDataRead att ring) s fun t =>
      t.lastRead = some (BitVec.ofNat 32 (s.memN (s.dataAddr ring) 4)) ∧
      t.hi.ringPos = s.hi.ringPos.set ring ((nth s.hi.ringPos ring 0 + 1) % (ringEntry ring / 4)) ∧ t.mem = s.mem) ∧
  (∀ (s : State) (att : Attachment) (ring : Fin 32) (v : Word), s.hiRuns = true → s.seesRing (attNum att) ring = true → ring.val < 24 → s.flag (R.HI_RING_CFG ring) F.HI_RING_CFG_EN = false → fldGet F.HI_RING_CFG_EN v = 1 → s.ctxAtt (s.ringCtx ring) < 2 → s.ctxState (s.ringCtx ring) = 1 → (s.wr (R.HI_RING_CFG ring) (v &&& 0xFFFF1F3F)).ringShape ring = true → 
      Gives (.ringEnable att ring v) s fun t =>
      t.rd (R.HI_RING_CFG ring) = v &&& 0xFFFF1F3F ∧ t.rd (R.HI_RING_PROD ring) = 0 ∧ t.rd (R.HI_RING_CONS ring) = 0 ∧
      t.get (R.HI_RING_STAT ring) F.HI_RING_STAT_STATE = 1 ∧ t.get (R.HI_RING_STAT ring) F.HI_RING_STAT_ERR = 0) ∧
  (∀ (s : State) (c : Fin 8), fwRuns s.mode = true → s.ctxState c = 1 → s.ringRuns c = true → s.ringUsed c ≠ 0 → s.mayConsume c = true → s.hiRefuses (s.cmdAt c).1 (s.cmdAt c).2 = none → 
      Gives (.commandConsume c) s fun t =>
      t.hy.inflight = s.hy.inflight ++ [((s.cmdAt c).1, (s.cmdAt c).1.ordered)] ∧
      t.get (R.HI_RING_CONS c) F.HI_RING_CONS_IDX = (s.get (R.HI_RING_CONS c) F.HI_RING_CONS_IDX + 1) % 2 ^ 16 ∧
      t.inflOf c = (s.inflOf c + 1) % 2 ^ F.HI_CTX_STAT_INFL.w) ∧
  (∀ (s : State) (c : Fin 8) (d : Nat), fwRuns s.mode = true → s.ctxState c = 1 → s.ringRuns c = true → s.ringUsed c ≠ 0 → s.mayConsume c = true → s.hiRefuses (s.cmdAt c).1 (s.cmdAt c).2 = some d → 
      Gives (.commandConsume c) s fun t =>
      Counted s t (R.HI_CMD_BAD_CNT c) ∧ t.hy.inflight = s.hy.inflight ∧
      t.lastCpl = some ⟨c, (s.cmdAt c).1.tag.toNat, (s.cmdAt c).1.opcode.toNat, St.badParam, d, 0⟩) ∧
  (∀ (s : State) (c : Fin 8), fwRuns s.mode = true → s.ctxState c = 1 → s.ringRuns c = true → s.ringUsed c ≠ 0 → s.mayConsume c = false → 
      Gives (.commandConsume c) s fun t =>
      t.get (R.HI_RING_STAT c) F.HI_RING_STAT_STATE = 2 ∧ t.hy = s.hy ∧ t.mem = s.mem) ∧
  (∀ (s : State) (e : Event) (l : List Event), s.raised = e :: l → 
      Gives .eventRecordWrite s fun t =>
      t.raised = l ∧ (2 ≤ evSev e.num → t.evBit R.HI_ALERT_SUM e.num = true)) ∧
  (∀ (s : State), s.raised = [] → 
      exec .eventRecordWrite s = .next s) ∧
  (∀ (s : State) (ring : Fin 32), nth s.hi.unsig ring 0 ≠ 0 → s.get (R.HI_RING_CFG ring) F.HI_RING_CFG_ITIME ≠ 0 → s.ctxAtt (s.ringCtx ring) < 2 → s.get (R.HI_RING_CFG ring) F.HI_RING_CFG_ITIME * cyclesPerSecond ≤ 1000000 * (s.now - nth s.hi.unsigAt ring 0) → 
      Gives (.msixItimeExpiry ring) s fun t =>
      t.hi.unsig = s.hi.unsig.set ring 0 ∧
      (s.hi.msixMask.contains (s.ctxAtt (s.ringCtx ring), s.get (R.HI_RING_CFG ring) F.HI_RING_CFG_VEC) = false →
      t.hi.msixLast = some (s.ctxAtt (s.ringCtx ring), s.get (R.HI_RING_CFG ring) F.HI_RING_CFG_VEC)) ∧
      (s.hi.msixMask.contains (s.ctxAtt (s.ringCtx ring), s.get (R.HI_RING_CFG ring) F.HI_RING_CFG_VEC) = true →
      t.hi.msixPend.contains (s.ctxAtt (s.ringCtx ring), s.get (R.HI_RING_CFG ring) F.HI_RING_CFG_VEC) = true))

/-- A debug read of a place that the table denies answers 0 and is counted, one of a place in no region is a decode error, and a read
of memory that the context may read answers its word; a debug write without the unlock record is counted and a permitted one is
reported; an SPI read in Frost answers from the always-on window with its CRC, an SPI write of one word elsewhere is the register
write of that attachment, and a wrong CRC is counted; an in-band frame that is too short is rejected and a valid one performs its
operations in order and answers them; the audit leaves the command count right; the UART and I2C FIFOs take and give characters; a
GPIO edge sets its bit; a block scrub ends. -/
def Obligations.WindowsFramesAndPeripherals : Prop :=
  (∀ (s : State) (att : Attachment) (c : Fin 8) (ofs : BitVec 12), s.hiRuns = true → s.bindOf c = some (attNum att) → ofs.toNat % 4 = 0 → s.region (s.dbgAddr c ofs.toNat) ≠ .none → s.dbgMay c (s.dbgAddr c ofs.toNat) = false → 
      Gives (.debugWindowRead (att, .word) c ofs) s fun t =>
      t.lastRead = some 0 ∧ Counted s t (R.HI_DBG_DENY_CNT c)) ∧
  (∀ (s : State) (att : Attachment) (c : Fin 8) (ofs : BitVec 12), s.hiRuns = true → s.bindOf c = some (attNum att) → ofs.toNat % 4 = 0 → s.region (s.dbgAddr c ofs.toNat) = .none → 
      Gives (.debugWindowRead (att, .word) c ofs) s fun t =>
      t.lastRead = some 0 ∧ Counted s t R.HI_DECODE_ERR_CNT ∧ t.told = s.told ++ [(Ev.HI_DECODE_ERR, [])]) ∧
  (∀ (s : State) (att : Attachment) (c : Fin 8) (ofs : BitVec 12), s.hiRuns = true → s.bindOf c = some (attNum att) → ofs.toNat % 4 = 0 → s.region (s.dbgAddr c ofs.toNat) = .dram → s.holds c 7 ((s.dbgAddr c ofs.toNat - dramBase) / 2 ^ 20) = true → 
      Gives (.debugWindowRead (att, .word) c ofs) s fun t =>
      t.lastRead = some (BitVec.ofNat 32 (s.memN (s.dbgAddr c ofs.toNat) 4)) ∧ (∀ a, t.rd a = s.rd a) ∧ t.mem = s.mem) ∧
  (∀ (s : State) (att : Attachment) (c : Fin 8) (ofs : BitVec 12) (v : Word), s.hiRuns = true → s.bindOf c = some (attNum att) → ofs.toNat % 4 = 0 → s.hi.unlock = false ∨ s.isML c = false → 
      Gives (.debugWindowWrite (att, .word) c ofs v) s fun t =>
      Counted s t (R.HI_DBG_DENY_CNT c) ∧ t.mem = s.mem ∧ t.told = s.told) ∧
  (∀ (s : State) (att : Attachment) (c : Fin 8) (ofs : BitVec 12) (v : Word), s.hiRuns = true → s.bindOf c = some (attNum att) → ofs.toNat % 4 = 0 → s.hi.unlock = true → s.isML c = true → s.region (s.dbgAddr c ofs.toNat) = .regs → s.mayReadReg c (s.dbgAddr c ofs.toNat) = true → 
      Gives (.debugWindowWrite (att, .word) c ofs v) s fun t =>
      (Ev.HI_DBG_WRITE, [s.dbgAddr c ofs.toNat, v.toNat]) ∈ t.told) ∧
  (∀ (s : State) (b o1 o2 : Byte), s.mode = .frost ∨ s.mode = .thermalHold → b = 0x0B → 
      Gives (.spiTransaction [b, o1, o2, 1]) s fun t =>
      t.hi.spiOut = leBytes 4 (s.aonRead (o1.toNat * 256 + o2.toNat)).toNat ++
      [BitVec.ofNat 8 (crc8 ([b.toNat, o1.toNat, o2.toNat, 1] ++ (leBytes 4 (s.aonRead (o1.toNat * 256 + o2.toNat)).toNat).map BitVec.toNat))]) ∧
  (∀ (s : State) (o1 o2 d0 d1 d2 d3 k : Byte), s.hiRuns = true → k.toNat = crc8 [2, o1.toNat, o2.toNat, 1, d0.toNat, d1.toNat, d2.toNat, d3.toNat] → 
      exec (.spiTransaction [2, o1, o2, 1, d0, d1, d2, d3, k]) s =
      exec (.registerWrite (.bar .spi .word) (BitVec.ofNat 32 (o1.toNat * 256 + o2.toNat)) (BitVec.ofNat 32 (leNum [d0, d1, d2, d3]))) s) ∧
  (∀ (s : State) (o1 o2 d0 d1 d2 d3 k : Byte), s.hiRuns = true → k.toNat ≠ crc8 [2, o1.toNat, o2.toNat, 1, d0.toNat, d1.toNat, d2.toNat, d3.toNat] → 
      Gives (.spiTransaction [2, o1, o2, 1, d0, d1, d2, d3, k]) s fun t =>
      Counted s t R.HI_SPI_CRC_CNT ∧ ∀ a, a ≠ R.HI_SPI_CRC_CNT → t.rd a = s.rd a) ∧
  (∀ (s : State) (g : Fin 4) (src : BitVec 48) (vlan : BitVec 12) (b : List Byte), s.hiRuns = true → b.length < 16 → 
      Gives (.inbandFrame g src vlan b) s fun t =>
      Counted s t R.HI_INBAND_REJ_CNT ∧ t.hi = s.hi) ∧
  (∀ (s : State) (g : Fin 4) (src : BitVec 48) (vlan : BitVec 12) (b body : List Byte) (c : Nat) (rec_ : InbandRec) (ops : List InOp) (u : State), s.hiRuns = true → c < 8 → s.bindOf c = some 2 → s.hi.inband[c]? = some rec_ → rec_.port = g.val → rec_.mac = src.toNat → rec_.vlan = vlan.toNat → b = body ++ leBytes 8 (Config.aesCmac rec_.key body).toNat → 8 ≤ body.length → nth body 0 0 = 1 → (nth body 1 0).toNat = c → s.inCounterOk c (leNum ((body.drop 4).take 4)) = true → inOps (leNum ((body.drop 2).take 2)) (body.drop 8) = some ops → u = { s.attach c with hi := { (s.attach c).hi with inbandRx := (s.attach c).hi.inbandRx.set c (some (leNum ((body.drop 4).take 4))), inbandAt := (s.attach c).hi.inbandAt.set c (s.attach c).now } } → 
      Gives (.inbandFrame g src vlan b) s fun t =>
      (t.hi.inbandOut.drop 8).take (ops.foldl State.inOp ([], 0, u)).1.length = (ops.foldl State.inOp ([], 0, u)).1 ∧
      ∀ a, (∀ k, a ≠ R.FH_DROP_CNT g k) → t.rd a = (ops.foldl State.inOp ([], 0, u)).2.2.rd a) ∧
  (∀ (s : State), fwRuns s.mode = false → 
      exec .booksAudit s = .next s) ∧
  (∀ (s : State), fwRuns s.mode = true → s.spanPast (cyclesPerSecond / 10) s.hy.auditAt = true → 
      Gives .booksAudit s fun t =>
      t.get R.HI_INFL_TOTAL F.HI_INFL_TOTAL_INFL = s.hy.inflight.length % 2 ^ F.HI_INFL_TOTAL_INFL.w ∧ t.hy = { s.hy with auditAt := some s.now }) ∧
  (∀ (s : State) (c : Byte), s.hi.uartRx.length < 64 → 
      Gives (.uartRxCharacter c) s fun t =>
      t.hi.uartRx = s.hi.uartRx ++ [c] ∧ t.rd R.HI_UART_RXD = fifoWord (s.hi.uartRx ++ [c])) ∧
  (∀ (s : State) (c : Byte), 64 ≤ s.hi.uartRx.length → 
      Gives (.uartRxCharacter c) s fun t =>
      t.hi.uartRx = s.hi.uartRx ∧ Counted s t R.HI_UART_OVF_CNT) ∧
  (∀ (s : State), Gives .uartRxdRead s fun t =>
      t.lastRead = some (fifoWord s.hi.uartRx) ∧ t.hi.uartRx = s.hi.uartRx.drop 1 ∧ t.rd R.HI_UART_RXD = fifoWord (s.hi.uartRx.drop 1)) ∧
  (∀ (s : State), Gives .i2cRxdRead s fun t =>
      t.lastRead = some (fifoWord s.hi.i2cRx) ∧ t.hi.i2cRx = s.hi.i2cRx.drop 1 ∧ t.rd R.PM_I2C_RXD = fifoWord (s.hi.i2cRx.drop 1)) ∧
  (∀ (s : State) (k : BitVec 8) (data : List Byte), Gives (.i2cTransferDone (some k) data) s fun t =>
      Counted s t R.PM_I2C_NAK_CNT) ∧
  (∀ (s : State) (data : List Byte) (j : Job), s.hy.jobs = [j] → j.wait = .i2c → 
      Gives (.i2cTransferDone none data) s fun t =>
      t.hy.jobs = [] ∧ t.lastCpl = some ⟨j.cmd.ctx, j.cmd.tag.toNat, j.cmd.opcode.toNat, St.ok, 0, BitVec.ofNat 128 (leNum (data.take 16))⟩) ∧
  (∀ (s : State) (k : Fin 32), s.get (R.PM_GPIO_CFG k) F.PM_GPIO_CFG_FUNC % 3 ≠ 0 → 
      exec (.gpioTriggerEdge k) s = .next s) ∧
  (∀ (s : State) (k : Fin 32), s.get (R.PM_GPIO_CFG k) F.PM_GPIO_CFG_FUNC % 3 = 0 → s.pm.frost = none → 
      Gives (.gpioTriggerEdge k) s fun t =>
      t.rd R.PM_GPIO_IN = s.rd R.PM_GPIO_IN ||| BitVec.ofNat 32 (2 ^ k.val)) ∧
  (∀ (s : State) (dram : Bool) (block : BitVec 14), (s.hy.scrub.contains (if dram then 7 else 6, block.toNat) = true) → s.hy.jobs = [] → 
      Gives (.blockScrubDone dram block) s fun t =>
      t.hy.scrub = s.hy.scrub.erase (if dram then 7 else 6, block.toNat) ∧
      ∀ b, t.byte b = if blockBase (if dram then 7 else 6) + blockSize (if dram then 7 else 6) * block.toNat ≤ b ∧
      b < blockBase (if dram then 7 else 6) + blockSize (if dram then 7 else 6) * (block.toNat + 1) then unlisted b else s.byte b)

/-- A refresh that falls due raises P by one and one that is issued lowers it; neither happens without DRAM or at the end of the
range; a due refresh that a real-time burst would delay past +4 splits it and is counted; the rate report shows; the piece granted
is written to or read from DRAM and takes the round robin; gather windows open and close; a set-point change starts, waits for a
window, and ends at the new set point with MC_SETPOINT; a byte counter wraps with its bit and event. -/
def Obligations.DramControl : Prop :=
  (∀ (s : State) (ch : Fin 2) (rt : Bool), s.dramUp = true → s.mcP ch < 4 → rt = false ∨ s.mcP ch < 3 → (s.spanPast (if s.flag (R.MC_REFRESH ch) F.MC_REFRESH_DBL then 960 else 1920) (nth s.mc.dueAt ch none) = true) → 
      Gives (.refreshDue ch rt) s fun t =>
      t.mcP ch = s.mcP ch + 1 ∧ t.rd R.MC_SPLIT_CNT = s.rd R.MC_SPLIT_CNT) ∧
  (∀ (s : State) (ch : Fin 2), s.dramUp = true → s.mcP ch = 3 → (s.spanPast (if s.flag (R.MC_REFRESH ch) F.MC_REFRESH_DBL then 960 else 1920) (nth s.mc.dueAt ch none) = true) → 
      Gives (.refreshDue ch true) s fun t =>
      t.mcP ch = 3 ∧ Counted s t R.MC_SPLIT_CNT) ∧
  (∀ (s : State) (ch : Fin 2), s.dramUp = true → -4 < s.mcP ch → 
      Gives (.refreshIssue ch) s fun t =>
      t.mcP ch = s.mcP ch - 1) ∧
  (∀ (s : State) (ch : Fin 2) (rt : Bool), s.dramUp = false → 
      exec (.refreshDue ch rt) s = .next s ∧ exec (.refreshIssue ch) s = .next s) ∧
  (∀ (s : State) (ch : Fin 2) (double : Bool), Gives (.refreshRateChange ch double) s fun t =>
      t.flag (R.MC_REFRESH ch) F.MC_REFRESH_DBL = double ∧ t.mcP ch = s.mcP ch) ∧
  (∀ (s : State) (ch : Fin 2) (reqs : List MemReq) (ecc : Fin 3) (q : MemReq) (d : List Byte), s.dramUp = true → s.mcP ch ≠ 4 → (s.arbiter ch (reqs.filter (fun q => q.port != 0 && q.len != 0)) = some q) → q.data = some d → s.spanOk q.addr.toNat (pieceLen q) = true → s.region q.addr.toNat = .dram → 
      Gives (.portPieceGrant ch reqs ecc) s fun t =>
      (∀ i, i < (d.take (pieceLen q)).length → t.byte (q.addr.toNat + i) = nth (d.take (pieceLen q)) i 0) ∧
      (∀ b, b < q.addr.toNat ∨ q.addr.toNat + (d.take (pieceLen q)).length ≤ b → t.byte b = s.byte b) ∧ t.mc.last = s.mc.last.set ch q.port) ∧
  (∀ (s : State) (ch : Fin 2) (reqs : List MemReq) (q : MemReq), s.dramUp = true → s.mcP ch ≠ 4 → (s.arbiter ch (reqs.filter (fun q => q.port != 0 && q.len != 0)) = some q) → q.data = none → s.spanOk q.addr.toNat (pieceLen q) = true → s.region q.addr.toNat = .dram → 
      Gives (.portPieceGrant ch reqs 0) s fun t =>
      t.mc.rdata = s.bytes q.addr.toNat (pieceLen q) ∧ t.mem = s.mem ∧ t.mc.last = s.mc.last.set ch q.port) ∧
  (∀ (s : State) (ch : Fin 2), s.dramUp = true → s.mc.target = none → nth s.mc.window ch false = false → ch.val < s.mc.window.length → s.spanPast (s.get R.MC_CTRL F.MC_CTRL_RETRAIN * (cyclesPerSecond / 1000)) (nth s.mc.gatherAt ch none) = true → 
      Gives (.dqsGatherStart ch) s fun t =>
      t.mc.window = s.mc.window.set ch true ∧ t.flag R.MC_STATUS F.MC_STATUS_GATHER = true) ∧
  (∀ (s : State) (ch : Fin 2) (ps : BitVec 8), nth s.mc.window ch false = true → 
      Gives (.dqsGatherEnd ch false ps) s fun t =>
      t.mc.window = s.mc.window.set ch false ∧ t.mc.corr = s.mc.corr ∧
      t.flag R.MC_STATUS F.MC_STATUS_CHANGING = (s.flag R.MC_STATUS F.MC_STATUS_CHANGING || (s.mc.target.isSome && !t.mc.window.any id))) ∧
  (∀ (s : State) (ch : Fin 2) (ps : BitVec 8), nth s.mc.window ch false = true → 
      Gives (.dqsGatherEnd ch true ps) s fun t =>
      t.mc.window = s.mc.window.set ch false ∧ t.mc.corr = s.mc.corr ++ [(ch.val, s.sp, ps.toInt)] ∧
      t.told = s.told ++ (if 8 < ps.toInt.natAbs then [(Ev.MC_DRIFT, [ch.val, ps.toNat])] else [])) ∧
  (∀ (s : State) (sp : Fin 3), s.dramUp = true → s.spAllowed sp = true → s.mc.target = none → 
      Gives (.setpointChange sp) s fun t =>
      t.mc.target = some sp.val ∧ (s.mc.window.any id = false → t.flag R.MC_STATUS F.MC_STATUS_CHANGING = true) ∧
      (s.mc.window.any id = true → Counted s t R.MC_GATHER_DEFER_CNT)) ∧
  (∀ (s : State) (sp : Nat), s.mc.target = some sp → s.flag R.MC_STATUS F.MC_STATUS_CHANGING = true → sp < 3 → 
      Gives .setpointChangeDone s fun t =>
      t.sp = sp ∧ t.mc.target = none ∧ t.flag R.MC_STATUS F.MC_STATUS_CHANGING = false ∧ t.told = s.told ++ [(Ev.MC_SETPOINT, [sp])]) ∧
  (∀ (s : State) (port : Fin 8) (wr : Bool) (n : BitVec 12), 2 ^ 48 ≤ s.get64 (mcCounter port wr) % 2 ^ 48 + n.toNat → 
      Gives (.mcCntWrap port wr n) s fun t =>
      t.get64 (mcCounter port wr) = s.get64 (mcCounter port wr) % 2 ^ 48 + n.toNat - 2 ^ 48 ∧ (t.rd R.MC_PERF_OVF).toNat.testBit (2 * port.val + if wr then 1 else 0) = true ∧
      t.told = s.told ++ [(Ev.MC_CNT_WRAP, [port.val, if wr then 1 else 0])])

/-- A doorbell is counted but for the one of A0's erratum; an idle firmware channel that is enabled takes up the descriptor at its
head, and one in another state does nothing; a disable stops a channel with DMA_CH_DISABLED and a reset leaves it idle without
slots; the read engine starts a burst in the free slot, its bytes fill the slot, and the write engine stores them at the
destination and frees it; a finished descriptor is written back where it asks and gives way to the next, and one in error puts a
firmware channel in ERROR; a request line moves its waiting channels; a byte counter wraps. -/
def Obligations.DmaChannels : Prop :=
  (∀ (s : State) (ch : Fin 16) (sameCycle : Bool), sameCycle = false ∨ 8 ≤ ch.val → s.chSt ch ≠ 2 ∨ 8 ≤ ch.val → 
      Gives (.dmaChDoorbell ch sameCycle) s fun t =>
      t.get (R.DMA_CH_STAT ch) F.DMA_CH_STAT_DBC = (s.get (R.DMA_CH_STAT ch) F.DMA_CH_STAT_DBC + 1) % 2 ^ F.DMA_CH_STAT_DBC.w ∧ t.chSt ch = s.chSt ch) ∧
  (∀ (s : State) (ch : Fin 16), ch.val < 8 → 
      exec (.dmaChDoorbell ch true) s = .next s) ∧
  (∀ (s : State) (ch : Fin 16), ch.val < 8 → s.chSt ch = 0 → s.chEn ch = false → ch.val < s.dma.descs.length → 
      Gives (.dmaChannelEnable ch) s fun t =>
      t.chEn ch = true ∧ t.chSt ch = (if s.paced ch then 3 else 1) ∧
      (t.chDescs ch).getLast?.map DmaDesc.at_ = some (s.get64 (R.DMA_CH_HEAD ch) / 32 * 32 % 2 ^ 40)) ∧
  (∀ (s : State) (ch : Fin 16), s.chSt ch ≠ 0 ∨ s.chEn ch = true → 
      exec (.dmaChannelEnable ch) s = .next s) ∧
  (∀ (s : State) (ch : Fin 16), s.chEn ch = true → ch.val < s.dma.descs.length → 
      Gives (.dmaChannelDisable ch) s fun t =>
      t.chEn ch = false ∧ t.chSt ch = 4 ∧ t.chDescs ch = [] ∧ t.told = s.told ++ [(Ev.DMA_CH_DISABLED, [ch.val])]) ∧
  (∀ (s : State) (ch : Fin 16), s.chEn ch = false → 
      exec (.dmaChannelDisable ch) s = .next s) ∧
  (∀ (s : State) (ch : Fin 16), Gives (.dmaChannelReset ch) s fun t =>
      t.chEn ch = false ∧ t.chSt ch = 0 ∧ t.get (R.DMA_CH_STAT ch) F.DMA_CH_STAT_DBC = 0 ∧ t.dma.slots = s.dma.slots.filter (fun x => x.ch != ch.val)) ∧
  (∀ (s : State), s.readChannel = none ∨ s.freeSlot = none → 
      exec .dmaBurstReadStart s = .next s) ∧
  (∀ (s : State) (c k : Nat) (d : DmaDesc), s.readChannel = some c → s.freeSlot = some k → (s.readAhead c).readable c = some d → 
      Gives .dmaBurstReadStart s fun t =>
      t.dma.slots = s.dma.slots ++ [⟨k, c, 1, if d.srcFix then d.src else d.src + d.readN, if d.dstFix then d.dst else d.dst + d.readN, burstLen d, [], d.id, 0⟩] ∧
      t.dma.lastRd = c) ∧
  (∀ (s : State) (slot : Fin 64) (hostErr : Bool) (x : DmaSlot) (d : DmaDesc), (s.dma.slots.find? (fun x => x.slot = slot.val && x.state = 1) = some x) → ((s.chDescs x.ch).find? (fun d => d.id = x.desc) = some d) → d.err = 0 → d.srcHost = false → d.srcFix = false → s.region x.src = .dram → s.dmaMay (s.chOwner x.ch) x.src x.n false = true → 
      Gives (.dmaBurstFilled slot hostErr) s fun t =>
      t.dma.slots = s.dma.slots.map (fun y => if y.slot = slot.val then { y with state := 2, data := s.bytes x.src x.n, order := s.dma.fill } else y) ∧
      t.dma.fill = s.dma.fill + 1 ∧ t.mem = s.mem) ∧
  (∀ (s : State) (hostErr : Bool), s.drainSlot = none → 
      exec (.dmaBurstWrite hostErr) s = .next s) ∧
  (∀ (s : State) (hostErr : Bool) (x : DmaSlot) (d : DmaDesc), s.drainSlot = some x → ((s.chDescs x.ch).find? (fun d => d.id = x.desc) = some d) → d.dstHost = false → d.dstFix = false → s.region x.dst = .dram → s.dmaMay (s.chOwner x.ch) x.dst x.n true = true → 
      Gives (.dmaBurstWrite hostErr) s fun t =>
      (∀ i, i < x.data.length → t.byte (x.dst + i) = nth x.data i 0) ∧ (∀ b, b < x.dst ∨ x.dst + x.data.length ≤ b → t.byte b = s.byte b) ∧
      t.dma.slots = s.dma.slots.filter (fun y => y.slot != x.slot) ∧ t.dma.lastWr = x.ch) ∧
  (∀ (s : State) (ch : Fin 16) (d e : DmaDesc) (l : List DmaDesc), s.chDescs ch = d :: e :: l → (s.dma.slots.any (fun x => x.ch = ch.val && x.desc = d.id) = false) → d.err = 0 → d.len ≤ d.doneN → s.descMay ch (d.at_ + 23) 1 true = true → s.region d.at_ ≠ .weight → ch.val < 8 → ch.val < s.dma.descs.length → 
      Gives (.dmaDescriptorComplete ch) s fun t =>
      t.chDescs ch = e :: l ∧ t.get64 (R.DMA_CH_CUR ch) = e.at_ % 2 ^ 64 ∧
      t.byte (d.at_ + 23) = (if d.bit 6 then 0x80 else s.byte (d.at_ + 23)) ∧ (∀ b, b ≠ d.at_ + 23 → t.byte b = s.byte b)) ∧
  (∀ (s : State) (ch : Fin 16) (d : DmaDesc) (l : List DmaDesc), s.chDescs ch = d :: l → (s.dma.slots.any (fun x => x.ch = ch.val && x.desc = d.id) = false) → d.err ≠ 0 → d.err < 8 → s.descMay ch (d.at_ + 23) 1 true = true → s.region d.at_ ≠ .weight → ch.val < 8 → 
      Gives (.dmaDescriptorComplete ch) s fun t =>
      t.chSt ch = 5 ∧ t.get (R.DMA_CH_STAT ch) F.DMA_CH_STAT_ERR = d.err ∧ Counted s t (R.DMA_CH_ERR_CNT ch) ∧
      t.byte (d.at_ + 23) = BitVec.ofNat 8 (128 + d.err) ∧ t.told = s.told ++ [(Ev.DMA_CH_ERROR, [ch.val, d.err])]) ∧
  (∀ (s : State) (ch : Fin 16), s.chDescs ch = [] → 
      exec (.dmaDescriptorComplete ch) s = .next s) ∧
  (∀ (s : State) (line c : Fin 8), s.paced c = true → s.chSt c = 3 → s.chEn c = true → s.get (R.DMA_CH_CFG c) F.DMA_CH_CFG_REQ = line.val → s.lineHigh line = true → 
      Gives (.dmaRequestAssert line) s fun t =>
      t.chSt c = 1 ∧ (c.val < s.dma.req.length → nth t.dma.req c false = true)) ∧
  (∀ (s : State) (ch : Fin 16) (n : BitVec 13), 2 ^ 48 ≤ s.get64 (R.DMA_CH_BYTES ch) % 2 ^ 48 + n.toNat → 
      Gives (.dmaCntWrap ch n) s fun t =>
      t.get64 (R.DMA_CH_BYTES ch) = s.get64 (R.DMA_CH_BYTES ch) % 2 ^ 48 + n.toNat - 2 ^ 48 ∧ t.flag (R.DMA_CH_STAT ch) F.DMA_CH_STAT_BOVF = true ∧
      t.told = s.told ++ [(Ev.DMA_CNT_WRAP, [ch.val])])

/-- A timer of the wrong source does nothing and one of an armed idle sequence starts its run; the start-up ends; a conversion of a
run stores its channel's value, at unity calibration the raw one, and goes on to the next position; a pop answers and removes the
oldest entry; a sample becomes the sensor's last, and one outside the range makes it suspect; the evaluation shows the hottest
sensor; the throttle stage moves by one; wear reports show; the planner raises the set point by 5 mV when slack is short; a
harvest writes its snapshot and advances; a journal write is queued if its writer may write it, and a record done is stored, tried
again once, or given up with NVJ_WRITE_FAIL. -/
def Obligations.HousekeepingThermalJournal : Prop :=
  (∀ (s : State) (squall : Bool), (s.hkSrc (if squall then 1 else 0) ≠ 1) → 
      exec (.hkTimerExpiry squall) s = .next s) ∧
  (∀ (s : State), s.hkSrc 0 = 1 → s.hk.armReg = true → s.hk.regRun = none → s.hk.cal = none → s.hk.sqRun = none → s.aonPast ((s.rd (R.HK_TIMER 0)).toNat * 49152 / 100) (nth s.hk.timerAt 0 0) = true → 
      Gives (.hkTimerExpiry false) s fun t =>
      t.hk.regRun = some 0 ∧ t.flag R.HK_STAT F.HK_STAT_BUSY_REG = true) ∧
  (∀ (s : State), s.hkSrc 1 = 1 → s.hk.armSq = true → s.hk.sqRun = none → s.aonPast ((s.rd (R.HK_TIMER 1)).toNat * 49152 / 100) (nth s.hk.timerAt 1 0) = true → 
      Gives (.hkTimerExpiry true) s fun t =>
      t.hk.sqRun = some 0 ∧ t.flag R.HK_STAT F.HK_STAT_BUSY_SQ = true) ∧
  (∀ (s : State), s.flag R.HK_STAT F.HK_STAT_STARTUP = true → 
      Gives .hkStartupDone s fun t =>
      t.flag R.HK_STAT F.HK_STAT_STARTUP = false ∧ t.hk = s.hk) ∧
  (∀ (s : State) (raw : BitVec 24), s.flag R.HK_STAT F.HK_STAT_STARTUP = true ∨ (s.hk.sqRun = none ∧ s.hk.cal = none ∧ s.hk.regRun = none) → 
      exec (.hkConversionDone raw) s = .next s) ∧
  (∀ (s : State) (raw : BitVec 24) (k : Nat), s.flag R.HK_STAT F.HK_STAT_STARTUP = false → s.hk.sqRun = none → s.hk.cal = none → s.hk.regRun = some k → k + 1 < s.hkCount 0 → s.hkCode 0 k < 43 → s.get (R.HK_CAL (s.hkCode 0 k)) F.HK_CAL_O = 0 → s.get (R.HK_CAL_HI (s.hkCode 0 k)) F.HK_CAL_G = 2 ^ 22 → 
      Gives (.hkConversionDone raw) s fun t =>
      t.hk.regRun = some (k + 1) ∧ t.get (R.HK_DATA (s.hkCode 0 k)) F.HK_DATA_V = raw.toNat ∧
      (s.hk.fifoReg.length < 64 → t.hk.fifoReg.length = s.hk.fifoReg.length + 1)) ∧
  (∀ (s : State) (squall : Bool), Gives (.hkFifoRdPop squall) s fun t =>
      t.lastRead = some (s.rd (R.HK_FIFO_RD_HI (if squall then 1 else 0))) ∧ t.hk.fifoSq = (if squall then s.hk.fifoSq.drop 1 else s.hk.fifoSq) ∧
      t.hk.fifoReg = (if squall then s.hk.fifoReg else s.hk.fifoReg.drop 1)) ∧
  (∀ (s : State) (sensor : Fin 48) (x : BitVec 16), sensor.val < s.th.hist.length → 
      Gives (.tempSample sensor x) s fun t =>
      t.lastT sensor = some x.toInt ∧ (x.toInt < -6000 ∨ 16000 < x.toInt → t.suspect sensor = true)) ∧
  (∀ (s : State), s.lastT 46 = none ∨ s.lastT 47 = none → 
      exec .tempEvaluate s = .next s) ∧
  (∀ (s : State) (i : Nat), (s.lastT 46).isSome = true → (s.lastT 47).isSome = true → s.hottest = some i → s.sensorsLost = false → 
      Gives .tempEvaluate s fun t =>
      t.get R.TH_STAT F.TH_STAT_HOTIDX = i ∧ signed 16 (t.get R.TH_STAT F.TH_STAT_HOT) = s.sensorT i ∧ t.flag R.TH_STAT F.TH_STAT_LOST = false) ∧
  (∀ (s : State), s.flag R.TH_STAT F.TH_STAT_LOST = true → 
      exec .throttleStep s = .next s) ∧
  (∀ (s : State), s.flag R.TH_STAT F.TH_STAT_LOST = false → s.th.level = true → 10500 ≤ signed 16 (s.get R.TH_STAT F.TH_STAT_HOT) → s.stage < 3 → s.aonPast 24576000 s.th.zoneAt = true → 
      Gives .throttleStep s fun t =>
      t.stage = s.stage + 1) ∧
  (∀ (s : State), s.flag R.TH_STAT F.TH_STAT_LOST = false → signed 16 (s.get R.TH_STAT F.TH_STAT_HOT) < 10000 → 0 < s.stage → s.aonPast 24576000 s.th.zoneAt = true → 
      Gives .throttleStep s fun t =>
      t.stage = s.stage - 1) ∧
  (∀ (s : State) (sensor : Fin 24) (slack : BitVec 12) (age : BitVec 16), Gives (.wearReport sensor slack age) s fun t =>
      t.get (R.TH_WEAR sensor) F.TH_WEAR_SLACK = slack.toNat ∧ t.get (R.TH_WEAR sensor) F.TH_WEAR_AGE = age.toNat) ∧
  (∀ (s : State) (ok : Bool), fwRuns s.mode = false → 
      exec (.marginPlannerRun ok) s = .next s) ∧
  (∀ (s : State) (ok : Bool), fwRuns s.mode = true → s.spanPast cyclesPerSecond s.th.planAt = true → s.th.planned = true → s.flag R.PM_VCORE F.PM_VCORE_FROZEN = false → s.minSlack < 800 → s.get R.TH_MARGIN F.TH_MARGIN_MV < 850 → 
      Gives (.marginPlannerRun ok) s fun t =>
      t.get R.TH_MARGIN F.TH_MARGIN_MV = s.get R.TH_MARGIN F.TH_MARGIN_MV + 5 ∧ (ok = true → t.get R.PM_VCORE F.PM_VCORE_MV = s.get R.TH_MARGIN F.TH_MARGIN_MV + 5) ∧
      (Ev.TH_VSTEP, [s.get R.TH_MARGIN F.TH_MARGIN_MV + 5]) ∈ t.told) ∧
  (∀ (s : State), s.hi.harvPeriod ≠ 0 → s.hi.harvSpan / 1280 ≠ 0 → (s.hi.harvAt + (if s.stage = 0 then s.hi.harvPeriod else max 1000 s.hi.harvPeriod) * 491520 ≤ s.now) → 
      Gives .harvestSnapshot s fun t =>
      (∀ i, i < (s.snapshot false).length → t.byte (s.hi.harvBase + 1280 * s.hi.harvSlot + i) = nth (s.snapshot false) i 0) ∧
      t.hi.harvSlot = (s.hi.harvSlot + 1) % (s.hi.harvSpan / 1280) ∧ t.hi.harvSeq = (s.hi.harvSeq + 1) % 2 ^ 32) ∧
  (∀ (s : State), s.hi.harvPeriod = 0 → 
      exec .harvestSnapshot s = .next s) ∧
  (∀ (s : State) (rec_ : BitVec 12), s.jAllowed false rec_.toNat = true → 
      Gives (.journalWriteStart rec_ false) s fun t =>
      t.nvj.queue = s.nvj.queue ++ [⟨rec_.toNat, ((List.range 16).map (fun i => leBytes 4 (s.rd (R.NVJ_WBUF i)).toNat)).flatten, false, 0, true⟩] ∧
      t.flag R.NVJ_STAT F.NVJ_STAT_BUSY = true) ∧
  (∀ (s : State) (rec_ : BitVec 12) (aon : Bool), s.jAllowed aon rec_.toNat = false → 
      Gives (.journalWriteStart rec_ aon) s fun t =>
      t.nvj = s.nvj ∧ t.mem = s.mem) ∧
  (∀ (s : State) (w : JWrite) (l : List JWrite), s.nvj.queue = w :: l → w.group = 0 → 
      Gives (.journalRecordDone true) s fun t =>
      t.nvj.queue = l ∧ (∀ i, i < w.data.length → t.byte (recAddr w.num + i) = nth w.data i 0) ∧
      t.get R.NVJ_STAT F.NVJ_STAT_LAST = w.num % 2 ^ F.NVJ_STAT_LAST.w ∧ t.flag R.NVJ_STAT F.NVJ_STAT_FAIL = false) ∧
  (∀ (s : State) (w : JWrite) (l : List JWrite), s.nvj.queue = w :: l → s.nvj.retry = false → 
      Gives (.journalRecordDone false) s fun t =>
      t.nvj.retry = true ∧ t.nvj.queue = w :: l ∧ t.mem = s.mem ∧ ∀ a, t.rd a = s.rd a) ∧
  (∀ (s : State) (w : JWrite) (l : List JWrite), s.nvj.queue = w :: l → s.nvj.retry = true → w.group = 0 → 
      Gives (.journalRecordDone false) s fun t =>
      t.nvj.queue = l ∧ t.nvj.retry = false ∧ Counted s t R.NVJ_WFAIL_CNT ∧ t.told = s.told ++ [(Ev.NVJ_WRITE_FAIL, [w.num])])

/-- SYS_INFO, SYS_ECHO and SYS_SERIAL answer their results and change no register beside the books; SYS_SET_MODE of an allowed
transition sets the target and BUSY and waits for it; SYS_RESET leads to Reset hold without a completion; SYS_GPIO reads or sets a
pin's configuration; SYS_I2C hands the bytes to the transmitter and waits; a context without the mode lease is answered NOT_OWNER
with the mode resource by the commands that need it. -/
def Obligations.SystemCommands : Prop :=
  (∀ (s : State) (c : Cmd), Ready s c false [] → 
      Gives (.sysInfo c) s fun t =>
      Answers c t St.ok 0 (resN 16 2 0x6464 + resN 18 1 0xA0 + resN 19 1 (s.get R.PM_MODE F.PM_MODE_CUR) + resN 20 4 (s.rd R.HI_FW_VER).toNat +
      resN 24 4 (s.rd R.HI_BOOT_STAT).toNat + resN 28 1 ((s.rd R.PM_MODE).toNat / 2 ^ 24 % 8)) ∧
      ∀ a, ¬bookReg c.ctx a → t.rd a = s.rd a) ∧
  (∀ (s : State) (c : Cmd), Ready s c false [] → 
      Gives (.sysEcho c) s fun t =>
      Answers c t St.ok 0 (arg c 8 16) ∧ ∀ a, ¬bookReg c.ctx a → t.rd a = s.rd a) ∧
  (∀ (s : State) (c : Cmd), Ready s c false [] → 
      Gives (.sysSerial c) s fun t =>
      Answers c t St.ok 0 Config.unitSerial.toNat ∧ ∀ a, ¬bookReg c.ctx a → t.rd a = s.rd a) ∧
  (∀ (s : State) (c : Cmd) (m : Mode), Ready s c false [] → s.isML c.ctx = true → s.busy = false → modeOf? (arg c 8 1) = some m → s.modeCond m = none → 
      Gives (.sysSetMode c) s fun t =>
      WaitsFor c t (.mode m) [St.ok, 1] ∧ t.get R.PM_MODE F.PM_MODE_TGT = modeCode m ∧ t.busy = true ∧ t.mode = s.mode) ∧
  (∀ (s : State) (c : Cmd), Ready s c false [] → s.isML c.ctx = true → s.busy = false → 
      Gives (.sysReset c) s fun t =>
      t.mode = .resetHold ∧ t.busy = true ∧ t.lastCpl = s.lastCpl ∧ t.hy.jobs = []) ∧
  (∀ (s : State) (c : Cmd), Ready s c false [] → argBit c 9 7 = true → arg c 8 1 < 32 → 
      Gives (.sysGpio c) s fun t =>
      Answers c t St.ok 0 (resN 16 4 (s.rd R.PM_GPIO_IN).toNat + resN 20 4 (s.rd (R.PM_GPIO_CFG (arg c 8 1))).toNat) ∧
      ∀ a, ¬bookReg c.ctx a → t.rd a = s.rd a) ∧
  (∀ (s : State) (c : Cmd), Ready s c false [] → argBit c 9 7 = false → s.isML c.ctx = true → arg c 8 1 < 32 → s.gpioArmed (arg c 8 1) = false → 
      Gives (.sysGpio c) s fun t =>
      t.rd (R.PM_GPIO_CFG (arg c 8 1)) = BitVec.ofNat 32 (argBits c 9 0 6) ∧
      Answers c t St.ok 0 (resN 16 4 (s.rd R.PM_GPIO_IN).toNat + resN 20 4 (argBits c 9 0 6))) ∧
  (∀ (s : State) (c : Cmd), Ready s c false [(100, 0)] → s.isML c.ctx = true → s.hi.i2cAddrs.contains (arg c 8 1) = true → arg c 8 1 ≠ s.hi.pmbusAddr → arg c 9 1 ≤ 40 → arg c 10 1 ≤ 16 → s.hi.i2cTx.length + arg c 9 1 ≤ 64 → 
      Gives (.sysI2c c) s fun t =>
      WaitsFor c t .i2c [] ∧ t.hi.i2cTx = s.hi.i2cTx ++ leBytes (arg c 9 1) (arg c 16 40)) ∧
  (∀ (s : State) (c : Cmd) (i : Instr), Ready s c false [] → s.isML c.ctx = false → i ∈ [.sysSetMode c, .sysReset c, .calInterval c, .calRotSet c, .feTdd c, .laneEq c, .lanePower c, .timeDomainSet c, .timeSelect c, .timePps c, .timeSynce c, .pwrFrost c, .pwrGust c, .monHkSeq c, .monHarvest c, .fwUpdateBegin c] → 
      Gives i s fun t =>
      Answers c t St.notOwner 0 0 ∧ ∀ a, ¬bookReg c.ctx a → t.rd a = s.rd a)

/-- A grant of a free quadrant enters the books with HI_LEASE_GRANTED and answers its index, a grant of a quota within the total sets
it, and a grant of the mode lease moves it; a revocation or a release of a held quadrant ends the lease at once and tells its
holder; a query answers what the context holds; a context bound to SPI takes the mode lease. -/
def Obligations.LeaseCommands : Prop :=
  (∀ (s : State) (c : Cmd) (x q : Nat), Ready s c false [(1, q)] → s.isML c.ctx = true → arg c 8 1 = x → x < 8 → arg c 9 1 = 1 → arg c 12 4 = q → q < 4 → s.leaseOf 1 q = none → 
      Gives (.leaseGrant c) s fun t =>
      t.leaseOf 1 q = some x ∧ Answers c t St.ok 0 (resN 16 4 q + resN 20 4 0) ∧ t.told = s.told ++ [(Ev.HI_LEASE_GRANTED, [1, q])]) ∧
  (∀ (s : State) (c : Cmd) (x n : Nat), Ready s c false [(4, arg c 12 4)] → s.isML c.ctx = true → arg c 8 1 = x → x < 8 → arg c 9 1 = 4 → arg c 16 4 = n → (((List.range 8).map (fun y => if y = x then n else s.quotaOf 4 y)).sum ≤ 4096) → 
      Gives (.leaseGrant c) s fun t =>
      t.quotaOf 4 x = n ∧ Answers c t St.ok 0 0) ∧
  (∀ (s : State) (c : Cmd) (x : Nat), Ready s c false [(0, arg c 12 4)] → s.isML c.ctx = true → arg c 8 1 = x → x < 8 → arg c 9 1 = 0 → 
      Gives (.leaseGrant c) s fun t =>
      t.isML x = true ∧ Answers c t St.ok 0 0 ∧ t.told = s.told ++ [(Ev.HI_MODE_LEASE, [x])]) ∧
  (∀ (s : State) (c : Cmd) (x q : Nat), Ready s c false [(1, q)] → s.isML c.ctx = true → arg c 8 1 = x → x < 8 → arg c 9 1 = 1 → arg c 12 4 = q → q < 4 → s.holds x 1 q = true → 
      Gives (.leaseRevoke c) s fun t =>
      t.leaseOf 1 q = none ∧ Answers c t St.ok 0 0 ∧ t.told = s.told ++ [(Ev.HI_LEASE_REVOKED, [1, q])]) ∧
  (∀ (s : State) (c : Cmd) (q : Nat), Ready s c false [(1, q)] → arg c 9 1 = 1 → arg c 12 4 = q → q < 4 → s.holds c.ctx 1 q = true → 
      Gives (.leaseRelease c) s fun t =>
      t.leaseOf 1 q = none ∧ Answers c t St.ok 0 0 ∧ t.told = s.told ++ [(Ev.HI_LEASE_REVOKED, [1, q])]) ∧
  (∀ (s : State) (c : Cmd) (q : Nat), Ready s c false [(1, q)] → arg c 9 1 = 1 → arg c 12 4 = q → q < 4 → s.holds c.ctx 1 q = false → 
      Gives (.leaseRelease c) s fun t =>
      Answers c t St.notOwner (1 + 2 ^ 8 * q) 0 ∧ t.hy.leases = s.hy.leases) ∧
  (∀ (s : State) (c : Cmd), Ready s c false [] → s.isML c.ctx = true ∨ arg c 8 1 = c.ctx.val → arg c 8 1 < 8 → arg c 9 1 ≤ 11 → 
      Gives (.leaseQuery c) s fun t =>
      Answers c t St.ok 0 (s.leaseInfo (arg c 8 1) (arg c 9 1)) ∧ t.hy.leases = s.hy.leases) ∧
  (∀ (s : State) (c : Cmd), Ready s c false [] → s.bindOf c.ctx = some 3 → 
      Gives (.leaseTakeMode c) s fun t =>
      t.isML c.ctx = true ∧ Answers c t St.ok 0 0 ∧ (Ev.HI_MODE_LEASE, [c.ctx.val]) ∈ t.told)

/-- CAR_CONFIG within every limit writes the carrier's descriptors, CAR_CHAIN its stages with FILL_LEN and CSPAN, and CAR_CFIR the
inactive banks it names from DRAM; CAR_START marks the carrier running and stages its synchronising entry; CAR_STOP with no last
stamp takes back the carrier's staged entries and waits for it to stop. -/
def Obligations.CarrierCommands : Prop :=
  (∀ (s : State) (c : Cmd) (k num d bw pm : Nat) (pathm : Bool), Ready s c false [(2, k)] → arg c 8 1 = k → argBits c 9 0 2 = num → argBit c 9 2 = pathm → arg c 12 4 = bw → arg c 16 8 = pm → logD bw = d → k < 16 → s.holds c.ctx 2 k = true → s.ownsPaths c.ctx pm = true → s.carRun k = false → num ≠ 3 ∨ d ≠ 8 → s.pathMixed k pm pathm = false → 0 < bw → bw ≤ 800000 → (pathm = true → bw ≤ 100000) → (pathm = false → 7 ≤ logN d num ∧ logN d num ≤ 14) → s.pathLoadBad k pm bw d pathm = false → edgesOk (signed 32 (arg c 24 4)) bw = true → edgesOk (signed 32 (arg c 28 4)) bw = true → (pathm = false → 0 < arg c 32 2 ∧ 12 * arg c 32 2 * (15 * 2 ^ num) ≤ bw) → (pathm = false → s.layersBad k F.BF_CAR_STAT_LDL (arg c 34 1) bw = false) → (pathm = false → s.layersBad k F.BF_CAR_STAT_LUL (arg c 35 1) bw = false) → (pathm = false → arg c 36 2 ≤ 4 * normalSym num) → arg c 38 1 ≤ 128 → 
      Gives (.carConfig c) s fun t =>
      Answers c t St.ok 0 (t.chainResult k) ∧ t.carCfg k = true ∧ t.carNum k = num ∧ t.carPathMode k = pathm ∧ t.carPmask k = pm ∧
      t.get (R.DFE_CAR_CFG k) F.DFE_CAR_CFG_LOGD = d ∧ t.rd (R.DFE_CAR_NCO_TX k) = BitVec.ofNat 32 (arg c 24 4) ∧
      t.rd (R.DFE_CAR_NCO_RX k) = BitVec.ofNat 32 (arg c 28 4) ∧ t.get (R.BF_CAR_STAT k) F.BF_CAR_STAT_LOGN = (if pathm then 0 else logN d num)) ∧
  (∀ (s : State) (c : Cmd) (k : Nat) (std : Bool) (x : Chain), Ready s c false [(2, k)] → arg c 8 1 = k → argBit c 24 0 = std → k < 16 → s.holds c.ctx 2 k = true → s.carCfg k = true → s.carRun k = false → (x = if std then stdChain (s.get (R.DFE_CAR_CFG k) F.DFE_CAR_CFG_LOGD) else chainOf c) → (std = false → 1 ≤ x.nst ∧ x.nst ≤ 4 ∧ x.len.all (fun v => decide (1 ≤ v) && decide (v ≤ 64)) = true ∧ x.sh.all (fun v => decide (v ≤ 31)) = true ∧ x.tsh.all (fun v => decide (v ≤ 31)) = true ∧ x.rxLoud = false ∧ x.txLoud = false ∧ x.logRc ≤ 6 ∧ x.h ≤ 2 ∧ x.logRc + x.h = s.get (R.DFE_CAR_CFG k) F.DFE_CAR_CFG_LOGD) → 
      Gives (.carChain c) s fun t =>
      Answers c t St.ok 0 (t.chainResult k) ∧ t.get (R.DFE_CAR_STAT k) F.DFE_CAR_STAT_FILL_LEN = x.fill % 2 ^ F.DFE_CAR_STAT_FILL_LEN.w ∧
      t.get (R.DFE_CAR_STAT k) F.DFE_CAR_STAT_CSPAN = x.cspan % 2 ^ F.DFE_CAR_STAT_CSPAN.w ∧ t.get (R.DFE_CAR_CFG k) F.DFE_CAR_CFG_H = x.h % 2 ^ F.DFE_CAR_CFG_H.w) ∧
  (∀ (s : State) (c : Cmd) (k dirs : Nat), Ready s c false [(2, k)] → arg c 8 1 = k → arg c 9 1 = dirs → k < 16 → 0 < dirs → dirs ≤ 3 → s.holds c.ctx 2 k = true → (s.tl.pend.any (fun i => s.eAct i = Act.cfirSwap && s.eCar i = k && s.eParam i % 4 &&& dirs % 4 != 0) = false) → HasSpan s c 16 128 → 
      Gives (.carCfir c) s fun t =>
      Answers c t St.ok 0 0 ∧ ∀ d j, d < 2 → j < 32 → dirs.testBit d = true →
      t.rd (R.DFE_CFIR (4 * k + 2 * d + s.idleBank k d) j) = BitVec.ofNat 32 (s.memN (arg c 16 8 + 4 * j) 4 % 2 ^ 18)) ∧
  (∀ (s : State) (c : Cmd) (k first : Nat), Ready s c true [(2, k)] → arg c 8 1 = k → arg c 12 4 = first → k < 16 → s.holds c.ctx 2 k = true → s.ownsPaths c.ctx (s.carPmask k) = true → s.mode = .tdd ∨ s.mode = .fdd ∨ s.mode = .listen → s.carCfg k = true → s.carRun k = false → s.mode = .listen ∨ s.carPermitted k = true → s.oneLo k = true → s.startFits k = true → stValid first = true → s.aheadOk (stAdd first (-1)) = true → s.syncClash (mkEntry (stAdd first (-1)) c.ctx.val Act.dfeSync k 0 0 1 0 (s.carPmask k) 3 0 0) = false → s.ownRoom c.ctx = true → 
      Gives (.carStart c) s fun t =>
      Answers c t St.ok 0 0 ∧ t.carRun k = true ∧ t.hy.staged.length = s.hy.staged.length + 1) ∧
  (∀ (s : State) (c : Cmd) (k : Nat), Ready s c false [(2, k)] → arg c 8 1 = k → arg c 12 4 = 0 → k < 16 → s.holds c.ctx 2 k = true → s.carRun k = true → 
      Gives (.carStop c) s fun t =>
      (k, 0) ∈ t.hy.stopping ∧ t.hy.jobs.getLast?.map (fun j => (j.cmd, j.wait)) = some (c, .carStopped k) ∧
      ∀ e ∈ t.hy.staged, isCarrierAct (stagedAct e) = false ∨ stagedCar e ≠ k)

/-- FLOW_SET within its limits writes words 0 to 2 of its entry with the issuer as the owner and clears the counters; FLOW_READ
answers words 4 to 6; PORT_SET writes the port's configuration and address, or the unit address, or keeps launch settings for the
next symbol. -/
def Obligations.FlowAndPortCommands : Prop :=
  (∀ (s : State) (c : Cmd) (f k w0 w1 w2 : Nat), Ready s c false [(2, k)] → arg c 8 2 = f → arg c 12 4 = w0 → arg c 16 4 = w1 → arg c 20 4 = w2 → w0 / 2 ^ 20 % 16 = k → f < 1024 → s.holds c.ctx 2 k = true → (s.flEn f = true → s.flOwner f = c.ctx.val ∧ s.carRun (s.flCar f) = false) → s.carRun k = false → ((w0.testBit 17 && (List.range 1024).any (fun g => g != f && s.flEn g && s.get (R.FH_FLOW g 0) F.FH_FLOW_LOCAL = w0 % 2 ^ 16 && s.flUl g = w0.testBit 16)) = false) → w1 / 2 ^ 4 % 16 = 0 ∨ 7 ≤ w1 / 2 ^ 4 % 16 → w1 / 2 ^ 8 % 4 < 2 → w0.testBit 19 = true ∨ w0.testBit 29 = false → ((List.range 4).all (fun g => (s.setFlow f c.ctx w0 w1 w2).loadOk g ((List.range 16).filter (s.setFlow f c.ctx w0 w1 w2).carRun)) = true) → 
      Gives (.flowSet c) s fun t =>
      Answers c t St.ok 0 0 ∧ t.rd (R.FH_FLOW f 0) = BitVec.ofNat 32 (w0 % 2 ^ 30) ∧ t.rd (R.FH_FLOW f 1) = BitVec.ofNat 32 (w1 / 2 ^ 4 * 2 ^ 4 + c.ctx.val) ∧
      t.rd (R.FH_FLOW f 2) = BitVec.ofNat 32 (w2 % 2 ^ 15) ∧ ∀ i, 4 ≤ i → i < 8 → t.rd (R.FH_FLOW f i) = 0) ∧
  (∀ (s : State) (c : Cmd), Ready s c false [] → arg c 8 2 < 1024 → s.holds c.ctx 2 (s.flCar (arg c 8 2)) = true → 
      Gives (.flowRead c) s fun t =>
      Answers c t St.ok 0 (resN 16 4 (s.rd (R.FH_FLOW (arg c 8 2) 4)).toNat + resN 20 4 (s.rd (R.FH_FLOW (arg c 8 2) 5)).toNat +
      resN 24 4 (s.rd (R.FH_FLOW (arg c 8 2) 6)).toNat) ∧ ∀ a, ¬bookReg c.ctx a → t.rd a = s.rd a) ∧
  (∀ (s : State) (c : Cmd) (g : Nat), Ready s c true [] → s.isML c.ctx = true → arg c 8 1 = g → g < 4 → arg c 9 1 = 0 → s.mode = .provisioned ∨ s.mode = .standby ∨ s.mode = .laneTest → arg c 12 1 ≤ 3 → (s.gale g = true → arg c 12 1 ≤ 1) → 1500 ≤ arg c 14 2 → arg c 14 2 ≤ 9000 → 
      Gives (.portSet c) s fun t =>
      Answers c t St.ok 0 0 ∧ t.role g = arg c 12 1 ∧ t.get (R.FH_PORT_CFG g) F.FH_PORT_CFG_MTU = arg c 14 2 ∧ t.get64 (R.FH_PORT_MAC g) = arg c 16 6) ∧
  (∀ (s : State) (c : Cmd), Ready s c true [] → s.isML c.ctx = true → arg c 9 1 = 4 → s.mode = .provisioned ∨ s.mode = .standby ∨ s.mode = .laneTest → ones (arg c 12 2) ≤ 12 → 
      Gives (.portSet c) s fun t =>
      Answers c t St.ok 0 0 ∧ t.get R.FH_UADDR_CFG F.FH_UADDR_CFG_MASK = arg c 12 2) ∧
  (∀ (s : State) (c : Cmd) (g : Nat), Ready s c false [] → s.isML c.ctx = true → arg c 8 1 = g → g < 4 → arg c 9 1 = 3 → arg c 12 2 ≤ 4095 → 64 ≤ arg c 14 2 → arg c 14 2 ≤ 9000 → (s.portLaunch g (BitVec.ofNat 32 (launchOf c)) (arg c 16 4) (arg c 20 4)).loadOk g ((List.range 16).filter (s.portLaunch g (BitVec.ofNat 32 (launchOf c)) (arg c 16 4) (arg c 20 4)).carRun) = true → 
      Gives (.portSet c) s fun t =>
      Answers c t St.ok 0 0 ∧ t.fh.launchNext.getLast? = some (g, BitVec.ofNat 32 (launchOf c), arg c 16 4, arg c 20 4))

/-- FC_ENTRY stages an image that passes every check and answers its SEQ and job; FC_BATCH stages its images in order up to the first
refusal, whose status it answers with the entry index in DETAIL; FC_CANCEL takes back the issuer's own staged entries of the
carrier at or after the given instant and answers how many; FC_STATUS answers the quota, the live and the staged counts and
TL_NOW. FC_BATCH's first SEQ with no entry accepted is a free value (log entry 75). -/
def Obligations.ForecastCommands : Prop :=
  (∀ (s : State) (c : Cmd) (w : List Word), Ready s c true [] → imageWords (BitVec.ofNat 256 (arg c 8 32)) = w → firstFail (s.stageChecks c.ctx w) = none → 
      Gives (.fcEntry c) s fun t =>
      Answers c t St.ok 0 (resN 16 2 s.hy.nextSeq + resN 18 2 (s.stageHost c.ctx w).1) ∧ t.hy.staged.length = s.hy.staged.length + 1 ∧
      t.hy.nextSeq = (s.hy.nextSeq + 1) % 2 ^ 16 ∧ ∃ e ∈ t.hy.staged, e.ctx = c.ctx.val ∧ e.held = false ∧ stagedAct e = wAct w ∧ stagedCar e = wCar w) ∧
  (∀ (s : State) (c : Cmd) (n a : Nat) (ws : List (List Word)), Ready s c true [] → arg c 8 2 = n → arg c 16 8 = a → isRadio s.mode = true → 0 < n → n ≤ 128 → HasSpan s c 16 (32 * n) → ((List.range n).map (fun i => imageWords (BitVec.ofNat 256 (s.memN (a + 32 * i) 32))) = ws) → (State.stageAll c.ctx ws 0 0 s).2.2.1 = none → 
      Gives (.fcBatch c) s fun t =>
      Answers c t St.ok 0 (resN 16 2 n + resN 18 2 s.hy.nextSeq + resN 20 2 (State.stageAll c.ctx ws 0 0 s).2.1) ∧
      t.hy.staged.length = s.hy.staged.length + n) ∧
  (∀ (s : State) (c : Cmd) (n a : Nat) (ws : List (List Word)) (k : Check), Ready s c true [] → arg c 8 2 = n → arg c 16 8 = a → isRadio s.mode = true → 0 < n → n ≤ 128 → HasSpan s c 16 (32 * n) → ((List.range n).map (fun i => imageWords (BitVec.ofNat 256 (s.memN (a + 32 * i) 32))) = ws) → (State.stageAll c.ctx ws 0 0 s).2.2.1 = some k → 
      Gives (.fcBatch c) s fun t =>
      ∃ m, m < n ∧ t.hy.staged.length = s.hy.staged.length + m ∧
      t.lastCpl.map (fun p => (p.status, p.detail, p.results.toNat % 2 ^ 16)) = some (k.status, k.detail % 2 ^ 16 + 2 ^ 16 * m, m)) ∧
  (∀ (s : State) (c : Cmd) (d : Int), Ready s c false [] → stValid (arg c 8 4) = true → d = (s.now : Int) + s.rel (stStart (arg c 8 4)) → arg c 12 1 = 255 → 
      Gives (.fcCancel c) s fun t =>
      t.hy.staged = s.hy.staged.filter (fun e => !(e.ctx = c.ctx.val && !e.held && decide (d ≤ e.target))) ∧ t.tl = s.tl ∧
      t.lastCpl.map (fun p => (p.status, p.results.toNat % 2 ^ 32)) =
      some (St.ok, (s.hy.staged.length - t.hy.staged.length) % 2 ^ 32)) ∧
  (∀ (s : State) (c : Cmd) (k : Nat) (d : Int), Ready s c false [] → stValid (arg c 8 4) = true → d = (s.now : Int) + s.rel (stStart (arg c 8 4)) → arg c 12 1 = k → k < 16 → s.holds c.ctx 2 k = true → 
      Gives (.fcCancel c) s fun t =>
      t.hy.staged = s.hy.staged.filter (fun e => !(e.ctx = c.ctx.val && !e.held && decide (d ≤ e.target) && isCarrierAct (stagedAct e) && stagedCar e = k)) ∧
      t.tl = s.tl ∧ t.lastCpl.map (fun p => (p.status, p.results.toNat % 2 ^ 32)) =
      some (St.ok, (s.hy.staged.length - t.hy.staged.length) % 2 ^ 32)) ∧
  (∀ (s : State) (c : Cmd), Ready s c false [] → 
      Gives (.fcStatus c) s fun t =>
      Answers c t St.ok 0 (resN 16 2 (s.get (R.TL_PART_QUOTA c.ctx) F.TL_PART_QUOTA_QUOTA) + resN 18 2 (s.get (R.TL_PART_USED c.ctx) F.TL_PART_USED_USED) +
      resN 20 2 (s.hy.staged.filter (fun e => e.ctx = c.ctx.val)).length + resN 22 2 (min 32 (s.heldOf c.ctx)) + resN 24 4 (s.rd (R.TL_NOW 1)).toNat) ∧
      t.hy.staged = s.hy.staged)

/-- BEAM_REGION_SET within the rules of its type writes the region's configuration; BEAM_LOAD copies N vectors from DRAM into the page
that may be written and publishes it when asked; BEAM_READ copies a page's vectors to DRAM; BEAM_RECIP_SET keeps, or with no
layers removes, the carrier's descriptor. -/
def Obligations.BeamCommands : Prop :=
  (∀ (s : State) (c : Cmd) (r k : Nat), Ready s c false [(3, r)] → arg c 8 1 = r → arg c 11 1 = k → argBits c 9 4 2 = 0 → r < 64 → s.holdsRes c.ctx 3 r = true → s.rgEn r = false → k < 16 → (argBit c 9 1 = true → s.rgLen r % 2 = 0) → arg c 10 1 ≤ 4 → 
      Gives (.beamRegionSet c) s fun t =>
      Answers c t St.ok 0 0 ∧ t.rgEn r = argBit c 9 0 ∧ t.rgPaged r = argBit c 9 1 ∧ t.rgType r = 0 ∧
      t.rgCar r = k ∧ t.rgOwner r = s.rgOwner r ∧ t.get (R.BF_REGION_CFG r) F.BF_REGION_CFG_PGLOG = arg c 10 1 ∧
      (argBit c 9 0 = true ∧ argBit c 9 1 = true → t.page r 0 = Pg.active ∧ t.page r 1 = Pg.free ∧ t.rgAct r = 0)) ∧
  (∀ (s : State) (c : Cmd) (r k g : Nat), Ready s c false [(3, r)] → arg c 8 1 = r → arg c 11 1 = k → argBits c 9 4 2 = 1 → r < 64 → s.holdsRes c.ctx 3 r = true → s.rgEn r = false → k < 16 → s.holds c.ctx 2 k = true → arg c 10 1 ≤ 4 → g = s.groupsOf k (arg c 10 1) → 0 < g → (s.rgLen r % (if argBit c 9 1 then 2 * g else g) = 0) → s.mapTooFine k g = false → 
      Gives (.beamRegionSet c) s fun t =>
      Answers c t St.ok 0 0 ∧ t.rgEn r = argBit c 9 0 ∧ t.rgPaged r = argBit c 9 1 ∧ t.rgType r = 1 ∧ t.rgCar r = k ∧
      t.get (R.BF_REGION_CFG r) F.BF_REGION_CFG_PGLOG = arg c 10 1) ∧
  (∀ (s : State) (c : Cmd) (r : Nat), Ready s c false [(3, r)] → arg c 8 1 = r → argBit c 9 0 = false → r < 64 → s.holdsRes c.ctx 3 r = true → s.rgEn r = true → arg c 11 1 < 16 → argBits c 9 4 2 = s.rgType r → argBit c 9 1 = s.rgPaged r → argBit c 9 2 = s.flag (R.BF_REGION_CFG r) F.BF_REGION_CFG_CONJ → arg c 10 1 % 8 = s.get (R.BF_REGION_CFG r) F.BF_REGION_CFG_PGLOG → arg c 11 1 = s.rgCar r → s.rgType r = 0 ∨ s.holds c.ctx 2 (s.rgCar r) = true → (s.rd (R.BF_REGION_CFG r)).toNat < 2 ^ 16 → (s.rd (R.BF_REGION_CFG r)).toNat / 2 ^ 11 % 2 = 0 → 
      Gives (.beamRegionSet c) s fun t =>
      Answers c t St.ok 0 0 ∧ t.rgEn r = false ∧ t.rgPaged r = s.rgPaged r ∧ t.rgType r = s.rgType r ∧
      (s.rgPaged r = false → ∀ q, t.rgAct q = s.rgAct q)) ∧
  (∀ (s : State) (c : Cmd) (r ofs n p : Nat), Ready s c false [(3, r)] → arg c 8 1 = r → arg c 12 2 = ofs → arg c 14 2 = n → r < 64 → s.holdsRes c.ctx 3 r = true → (p = (if s.rgPaged r then 1 - s.rgAct r else 0)) → (s.rgPaged r = true → s.page r p = Pg.free) → (s.rgPaged r = false → s.runsBeam c.ctx = false) → s.rgType r ≠ 2 → ofs < s.pageLen r → ofs + n ≤ s.pageLen r → HasSpan s c 16 (256 * n) → 
      Gives (.beamLoad c) s fun t =>
      Answers c t St.ok 0 0 ∧ (∀ j, j < 256 * n → ¬CplSlot s c.ctx (vecAddr (s.rgBase r + p * s.pageLen r + ofs) + j) →
      t.byte (vecAddr (s.rgBase r + p * s.pageLen r + ofs) + j) = s.byte (arg c 16 8 + j)) ∧
      (s.rgPaged r = true ∧ argBit c 9 0 = true ∧ s.rgEn r = true → t.page r p = Pg.ready)) ∧
  (∀ (s : State) (c : Cmd) (r pg ofs n p : Nat), Ready s c false [(3, r)] → arg c 8 1 = r → arg c 9 1 = pg → arg c 12 2 = ofs → arg c 14 2 = n → r < 64 → s.holdsRes c.ctx 3 r = true → pg ≤ 2 → (pg = 1 → s.rgPaged r = true) → (p = (if pg = 2 then (if s.rgPaged r then s.rgAct r else 0) else pg)) → ofs < s.pageLen r → ofs + n ≤ s.pageLen r → HasSpan s c 16 (256 * n) → 
      Gives (.beamRead c) s fun t =>
      Answers c t St.ok 0 0 ∧ ∀ j, j < 256 * n → ¬CplSlot s c.ctx (arg c 16 8 + j) →
      t.byte (arg c 16 8 + j) = s.byte (vecAddr (s.rgBase r + p * s.pageLen r + ofs) + j)) ∧
  (∀ (s : State) (c : Cmd) (k : Nat), Ready s c false [(2, k)] → arg c 8 1 = k → arg c 10 1 = 0 → k < 16 → s.holds c.ctx 2 k = true → s.tiedSoon k c.ctx = false → 
      Gives (.beamRecipSet c) s fun t =>
      Answers c t St.ok 0 0 ∧ t.bf.recip = s.bf.recip.filter (fun d => d.car != k)) ∧
  (∀ (s : State) (c : Cmd) (k r n : Nat) (ls : List (List Nat)), Ready s c false [(2, k)] → arg c 8 1 = k → arg c 9 1 = r → arg c 10 1 = n → ls = s.layersAt (arg c 24 8) n → k < 16 → s.holds c.ctx 2 k = true → r < 64 → s.holdsRes c.ctx 3 r = true → HasSpan s c 24 (16 * n) → 0 < n → n ≤ 32 → (ls.all (fun l => s.ownsCluster c.ctx (nth l 4 0) (s.seqBytes k l)) = true) → s.tiedSoon k c.ctx = false → s.rgType r = 1 → s.rgPaged r = true → s.rgCar r = k → 1 ≤ arg c 11 1 → arg c 11 1 ≤ 8 → 0x35800000 ≤ arg c 12 4 → arg c 12 4 ≤ 0x3F800000 → ls.all (s.layerOk r) = true → 
      Gives (.beamRecipSet c) s fun t =>
      Answers c t St.ok 0 0 ∧ t.bf.recip = s.bf.recip.filter (fun d => d.car != k) ++ [⟨k, c.ctx, r, arg c 12 4, arg c 16 2, arg c 11 1, ls⟩])

/-- CAL_INTERVAL within the range of its kind keeps the interval; CAL_ROT_SET writes the rotation settings while a pair in a period
keeps its own; CAL_SWEEP starts a sweep that waits for its end or its time limit; ACAL_REF_RECORD and ACAL_REF_LOCK wait for their
journal writes; CAL_STATUS answers the sweep's state and the oldest ages. -/
def Obligations.CalibrationCommands : Prop :=
  (∀ (s : State) (c : Cmd) (k n : Nat), Ready s c false [] → s.isML c.ctx = true → arg c 8 1 = k → arg c 12 4 = n → 2 ≤ k → k ≤ 4 → ((if k = 2 then 5 else 1) ≤ n) → n ≤ 3600 → 
      Gives (.calInterval c) s fun t =>
      Answers c t St.ok 0 0 ∧ t.cv.every = s.cv.every.set (k - 2) n) ∧
  (∀ (s : State) (c : Cmd), Ready s c false [] → s.isML c.ctx = true → 2 ≤ arg c 9 1 → arg c 9 1 ≤ 63 → 1 ≤ arg c 10 1 → arg c 10 1 ≤ 7 → arg c 12 2 ≤ 1023 → 
      Gives (.calRotSet c) s fun t =>
      Answers c t St.ok 0 0 ∧ t.get R.CV_ROT_CFG F.CV_ROT_CFG_EN = argBits c 8 0 1 ∧ t.get R.CV_ROT_CFG F.CV_ROT_CFG_ALIGN = argBits c 8 1 1 ∧
      t.get R.CV_ROT_CFG F.CV_ROT_CFG_PERIOD = arg c 9 1 ∧ t.get R.CV_ROT_CFG F.CV_ROT_CFG_FORCE_N = arg c 10 1 ∧
      t.get R.CV_SPUR_THR F.CV_SPUR_THR_THR = arg c 12 2 ∧
      (∀ a, a < 72 → fldGet F.CV_ROT_CFG_EN (s.rotCfg a).1 = 1 → t.rotCfg a = s.rotCfg a) ∧
      ∀ a, a < 72 → fldGet F.CV_ROT_CFG_EN (s.rotCfg a).1 = 0 → s.cv.rotOld.any (fun x => x.1 = a) = false →
      t.rotCfg a = (t.rd R.CV_ROT_CFG, t.rd R.CV_SPUR_THR)) ∧
  (∀ (s : State) (c : Cmd), Ready s c false [(101, 0)] → s.isML c.ctx = true → 1 ≤ arg c 8 1 → arg c 8 1 ≤ 16 → 1 ≤ arg c 12 4 → arg c 12 4 ≤ 3600000 → 
      Gives (.calSweep c) s fun t =>
      WaitsFor c t .sweep [s.now + 491520 * arg c 12 4] ∧ t.cv.repeat_ = arg c 8 1 ∧ t.cv.meas = [] ∧ t.cv.sent = List.replicate 64 0 ∧
      t.get R.CV_ACAL_STATUS F.CV_ACAL_STATUS_STATE = 1) ∧
  (∀ (s : State) (c : Cmd), Ready s c false [(102, 0)] → s.isML c.ctx = true → s.flag R.NVJ_STAT F.NVJ_STAT_LOCK_REF = false → arg c 8 1 ≤ 3 → HasSpan s c 16 41472 → s.pairsOk (arg c 16 8) = true → 
      Gives (.acalRefRecord c) s fun t =>
      WaitsFor c t (.journal s.nvj.nextGroup) [] ∧ t.nvj.nextGroup = s.nvj.nextGroup + 1 ∧
      s.nvj.queue.length < t.nvj.queue.length ∧ t.nvj.queue.take s.nvj.queue.length = s.nvj.queue ∧
      (t.nvj.queue.drop s.nvj.queue.length).all (fun w => w.group = s.nvj.nextGroup) = true) ∧
  (∀ (s : State) (c : Cmd), Ready s c true [(102, 0)] → s.isML c.ctx = true → s.mode = .provisioned → s.flag R.NVJ_STAT F.NVJ_STAT_LOCK_REF = false → 
      Gives (.acalRefLock c) s fun t =>
      WaitsFor c t (.journal s.nvj.nextGroup) [0x03, 1] ∧ t.nvj.nextGroup = s.nvj.nextGroup + 1 ∧
      t.nvj.queue.getLast?.map (fun w => (w.num, w.group)) = some (33, s.nvj.nextGroup)) ∧
  (∀ (s : State) (c : Cmd), Ready s c true [(102, 0)] → s.isML c.ctx = true → s.mode = .provisioned → s.flag R.NVJ_STAT F.NVJ_STAT_LOCK_REF = true → 
      Gives (.acalRefLock c) s fun t =>
      Answers c t St.ok 0 0 ∧ t.nvj = s.nvj) ∧
  (∀ (s : State) (c : Cmd) (m n : Nat), Ready s c false [] → (∀ p, p < 64 → s.avail p = true → s.get (R.CV_TXQ_QUAL p) F.CV_TXQ_QUAL_AGE ≤ m) → (m = 0 ∨ ∃ p ∈ List.range 64, s.avail p = true ∧ s.get (R.CV_TXQ_QUAL p) F.CV_TXQ_QUAL_AGE = m) → (∀ i, i < 8 → s.get (R.CV_ORX_QUAL i) F.CV_ORX_QUAL_AGE ≤ n) → (∃ i ∈ List.range 8, s.get (R.CV_ORX_QUAL i) F.CV_ORX_QUAL_AGE = n) → 
      Gives (.calStatus c) s fun t =>
      Answers c t St.ok 0 (resN 16 4 (s.rd R.CV_ACAL_STATUS).toNat + resN 20 4 (s.rd R.CV_ACAL_RESID).toNat + resN 24 2 m + resN 26 2 n) ∧
      t.cv = s.cv ∧ t.mem.length ≤ s.mem.length + 32)

/-- DPD_CONFIG writes the settings of every path of its mask and enables at once the paths that transmit no symbol; DPD_NBR within
R206 writes the neighbours; DPD_TRAIN submits one training; DPD_COEF loads through the loader or stores a bank to DRAM; DPD_RESUME
clears HALT and REJ; CFR_CONFIG keeps the settings for the next start or stop of a carrier, with a slot that the specification
leaves open (a free value). -/
def Obligations.PredistortionCommands : Prop :=
  (∀ (s : State) (c : Cmd) (pm : Nat), Ready s c false [] → arg c 16 8 = pm → s.ownsPaths c.ctx pm = true → 1 ≤ arg c 9 1 → arg c 9 1 ≤ 16 → arg c 11 1 ≤ 3 → 
      Gives (.dpdConfig c) s fun t =>
      Answers c t St.ok 0 0 ∧ ∀ p, p < 64 → pm.testBit p = true →
      t.get (R.DFE_DPD_CFG p) F.DFE_DPD_CFG_EN = argBits c 8 0 1 ∧ t.get (R.DFE_DPD_CFG p) F.DFE_DPD_CFG_AUTO = argBits c 8 1 1 ∧
      t.get (R.DFE_DPD_CFG p) F.DFE_DPD_CFG_K = arg c 9 1 ∧ t.get (R.DFE_DPD_CFG p) F.DFE_DPD_CFG_REJ_N = arg c 10 1 ∧
      t.get (R.DFE_DPD_CFG p) F.DFE_DPD_CFG_LEN = arg c 11 1 ∧ t.get (R.DFE_DPD_CFG p) F.DFE_DPD_CFG_UNUSED = argBits c 28 0 4 ∧
      (p, BitVec.ofNat 32 (arg c 12 4)) ∈ t.dfe.mu ∧ (p, BitVec.ofNat 32 (arg c 24 4)) ∈ t.dfe.lam ∧
      (s.tl.syms.any (fun (y : Sym) => y.active && !y.ul && y.pmask.testBit p) = false →
      t.flag (R.DFE_DPD_STATUS p) F.DFE_DPD_STATUS_EN = argBit c 8 0) ∧
      (s.tl.syms.any (fun (y : Sym) => y.active && !y.ul && y.pmask.testBit p) = true → (p, argBit c 8 0) ∈ t.dfe.enNext)) ∧
  (∀ (s : State) (c : Cmd) (p : Nat), Ready s c false [] → arg c 8 1 = p → p < 64 → s.holds c.ctx 1 (quadOf p) = true → s.tx p = Ps.off ∨ s.flag (R.DFE_DPD_STATUS p) F.DFE_DPD_STATUS_EN = false → (∀ j, j < 4 → (nbrOf (arg c 12 4) j).all (fun n => n != p && quadOf n = quadOf p && s.avail n) = true) → 
      Gives (.dpdNbr c) s fun t =>
      Answers c t St.ok 0 0 ∧ ∀ j, j < 4 → nbrOf (t.rd (R.DFE_DPD_NBR p)).toNat j = nbrOf (arg c 12 4) j) ∧
  (∀ (s : State) (c : Cmd) (p k j : Nat), Ready s c false [] → arg c 8 1 = p → p < 64 → s.holds c.ctx 1 (quadOf p) = true → s.flag (R.DFE_DPD_CFG p) F.DFE_DPD_CFG_AUTO = false → s.flag (R.DFE_DPD_STATUS p) F.DFE_DPD_STATUS_HALT = false → arg c 9 1 ≤ 16 → (k = (if arg c 9 1 = 0 then s.get (R.DFE_DPD_CFG p) F.DFE_DPD_CFG_K else arg c 9 1)) → s.allocJob.map Prod.fst = some j → 
      Gives (.dpdTrain c) s fun t =>
      Answers c t St.ok 0 (resN 16 2 j) ∧ t.dfe.train = s.dfe.train ++ [(j, p)] ∧
      t.nvc.jobs.getLast?.map (fun x => (x.num, x.kind, x.args)) = some (j, 1, [s.dpdCost p k, p, k, c.ctx.val]) ∧ (c.ctx.val, j, p) ∈ t.hy.jobOwner) ∧
  (∀ (s : State) (c : Cmd) (p : Nat), Ready s c false [(103, p)] → arg c 8 1 = p → arg c 9 1 = 0 → p < 64 → s.holds c.ctx 1 (quadOf p) = true → (s.dfe.train.any (fun x => x.2 = p) = false) → s.flag (R.DFE_DPD_STATUS p) F.DFE_DPD_STATUS_LOADING = false → HasSpan s c 16 2048 → 
      Gives (.dpdCoef c) s fun t =>
      WaitsFor c t (.dpdReady p) [] ∧ t.dfe.loader = s.dfe.loader ++ [(p, arg c 16 8 - 0x10000000, 0)]) ∧
  (∀ (s : State) (c : Cmd) (p b : Nat), Ready s c false [(103, p)] → arg c 8 1 = p → arg c 9 1 = 1 ∨ arg c 9 1 = 2 → p < 64 → s.holds c.ctx 1 (quadOf p) = true → (s.dfe.train.any (fun x => x.2 = p) = false) → s.flag (R.DFE_DPD_STATUS p) F.DFE_DPD_STATUS_LOADING = false → HasSpan s c 16 2048 → (b = (if arg c 9 1 = 1 then s.get (R.DFE_DPD_STATUS p) F.DFE_DPD_STATUS_ACT else 1 - s.get (R.DFE_DPD_STATUS p) F.DFE_DPD_STATUS_ACT)) → 
      Gives (.dpdCoef c) s fun t =>
      Answers c t St.ok 0 0 ∧ ∀ i n, i < 512 → n < 4 → ¬CplSlot s c.ctx (arg c 16 8 + 4 * i + n) →
      t.byte (arg c 16 8 + 4 * i + n) = BitVec.ofNat 8 ((s.rd (R.DFE_DPD_BANK (2 * p + b) i)).toNat / 2 ^ (8 * n))) ∧
  (∀ (s : State) (c : Cmd) (pm : Nat), Ready s c false [] → arg c 16 8 = pm → s.ownsPaths c.ctx pm = true → 
      Gives (.dpdResume c) s fun t =>
      Answers c t St.ok 0 0 ∧ ∀ p, p < 64 → pm.testBit p = true → t.flag (R.DFE_DPD_STATUS p) F.DFE_DPD_STATUS_HALT = false ∧
      t.get (R.DFE_DPD_STATUS p) F.DFE_DPD_STATUS_REJ = 0 ∧ t.get (R.DFE_DPD_STATUS p) F.DFE_DPD_STATUS_ACT = s.get (R.DFE_DPD_STATUS p) F.DFE_DPD_STATUS_ACT) ∧
  (∀ (s : State) (c : Cmd) (pm w : Nat), Ready s c false [] → arg c 16 8 = pm → s.ownsPaths c.ctx pm = true → arg c 11 1 ≤ 15 → w = arg c 8 1 + 2 ^ 8 * arg c 9 1 + 2 ^ 16 * arg c 10 1 + 2 ^ 28 * arg c 11 1 → 
      Gives (.cfrConfig c) s fun t =>
      Answers c t St.ok 0 0 ∧ ∀ p, p < 64 → pm.testBit p = true → ∃ k ∈ List.range 16, (p, BitVec.ofNat 32 (w + 2 ^ 24 * k), false) ∈ t.dfe.cfrNext)

/-- CAP_GET copies a held record to DRAM and frees it, and CAP_FREE frees the issuer's on a tile; FE_PABIAS writes the bias of a path
that is OFF and keeps it for another; FE_TDD within R112 keeps its leads for the next frame; FE_FAULT_CLEAR returns faulted paths
to OFF; RFFE_ACCESS answers read data, or IO_ERROR with its event on bad parity; RFFE_LIST writes the list memory. -/
def Obligations.CaptureAndFrontEndCommands : Prop :=
  (∀ (s : State) (c : Cmd) (p : Nat) (r : CapRec), Ready s c false [] → arg c 8 1 = p → p < 64 → s.holds c.ctx 8 (tileOf p) = true → ((if argBit c 9 0 then ((s.heldRecs c.ctx (tileOf p)).filter (fun x => x.path = p)).getLast? else ((s.heldRecs c.ctx (tileOf p)).filter (fun x => x.path = p)).find? (fun x => x.tag = arg c 10 2)) = some r) → HasSpan s c 16 r.bytes → 
      Gives (.capGet c) s fun t =>
      Answers c t St.ok 0 (resN 16 4 (s.memN (s.capAddr r.tile r.slot) 4) + resN 20 1 r.flags + resN 22 2 ((r.bytes - 64) / 24)) ∧ t.dfe.recs = s.dfe.recs.erase r ∧
      ∀ j, j < r.bytes → ¬CplSlot s c.ctx (arg c 16 8 + j) → t.byte (arg c 16 8 + j) = s.byte (s.capAddr r.tile r.slot + j)) ∧
  (∀ (s : State) (c : Cmd), Ready s c false [] → arg c 8 1 < 8 → s.holds c.ctx 8 (arg c 8 1) = true → 
      Gives (.capFree c) s fun t =>
      Answers c t St.ok 0 0 ∧ t.dfe.recs = s.dfe.recs.filter (fun r => !(r.tile = arg c 8 1 && r.ctx = c.ctx.val && r.host)) ∧ ∀ a, ¬bookReg c.ctx a → t.rd a = s.rd a) ∧
  (∀ (s : State) (c : Cmd) (pm cfg lvl : Nat), Ready s c false [] → arg c 16 8 = pm → s.ownsPaths c.ctx pm = true → cfg = arg c 8 1 + 2 ^ 8 * arg c 9 1 + 2 ^ 16 * arg c 10 1 + 2 ^ 24 * arg c 11 1 → lvl = arg c 12 2 + 2 ^ 16 * arg c 14 2 → arg c 8 1 ≤ 3 → 1 ≤ arg c 9 1 → 1 ≤ arg c 10 1 → arg c 10 1 ≤ 20 → arg c 12 2 ≤ 4095 → arg c 14 2 ≤ 4095 → (2 ≤ arg c 8 1 → rampLong (arg c 12 2) (arg c 14 2) (arg c 9 1) = false) → 
      Gives (.fePabias c) s fun t =>
      Answers c t St.ok 0 (resN 16 8 (maskOf ((bitsOf pm 64).filter (fun p => s.tx p = Ps.off)))) ∧ ∀ p, p < 64 → pm.testBit p = true →
      (s.tx p = Ps.off → t.rd (R.RF_PABIAS_CFG p) = BitVec.ofNat 32 cfg ∧ t.rd (R.RF_PABIAS_LVL p) = BitVec.ofNat 32 lvl) ∧
      (s.tx p ≠ Ps.off → (p, BitVec.ofNat 32 cfg, BitVec.ofNat 32 lvl) ∈ t.rf.biasNext ∧ t.rd (R.RF_PABIAS_CFG p) = s.rd (R.RF_PABIAS_CFG p))) ∧
  (∀ (s : State) (c : Cmd), Ready s c false [] → s.isML c.ctx = true → 123 ≤ arg c 8 2 → arg c 8 2 + arg c 13 1 ≤ 614 → 123 ≤ arg c 10 2 → arg c 10 2 + arg c 12 1 ≤ 614 → 
      Gives (.feTdd c) s fun t =>
      Answers c t St.ok 0 0 ∧ t.rf.tddNext = some [arg c 8 2, arg c 10 2, arg c 12 1, arg c 13 1] ∧ ∀ a, ¬bookReg c.ctx a → t.rd a = s.rd a) ∧
  (∀ (s : State) (c : Cmd) (pm : Nat), Ready s c false [] → arg c 16 8 = pm → s.ownsPaths c.ctx pm = true → 
      Gives (.feFaultClear c) s fun t =>
      Answers c t St.ok 0 (resN 16 8 (maskOf ((bitsOf pm 64).filter (fun p => s.tx p = Ps.fault)))) ∧ ∀ p, p < 64 →
      t.tx p = (if pm.testBit p && s.tx p = Ps.fault then Ps.off else s.tx p) ∧
      (pm.testBit p = true → s.tx p = Ps.fault → p < s.rf.bias.length → t.bias p = 1)) ∧
  (∀ (s : State) (c : Cmd) (fits parity : Bool) (data : BitVec 128) (q ty : Nat), Ready s c false [] → arg c 8 1 = q → arg c 9 1 = ty → q < 4 → s.holds c.ctx 1 q = true → ty ≤ 6 → arg c 10 1 ≤ 15 → ((ty = 2 ∨ ty = 4 ∨ ty = 6) → 1 ≤ arg c 10 1) → (3 ≤ ty → 1 ≤ arg c 11 1 ∧ arg c 11 1 ≤ (if ty ≤ 4 then 16 else 8)) → fits = true → nth s.rf.rffeRun q none = none → ty ≠ 2 ∧ ty ≠ 4 ∧ ty ≠ 6 → 
      Gives (.rffeAccess c fits parity data) s fun t =>
      Answers c t St.ok 0 0 ∧ t.told = s.told) ∧
  (∀ (s : State) (c : Cmd) (fits parity : Bool) (data : BitVec 128) (q ty : Nat), Ready s c false [] → arg c 8 1 = q → arg c 9 1 = ty → q < 4 → s.holds c.ctx 1 q = true → ty ≤ 6 → arg c 10 1 ≤ 15 → ((ty = 2 ∨ ty = 4 ∨ ty = 6) → 1 ≤ arg c 10 1) → (3 ≤ ty → 1 ≤ arg c 11 1 ∧ arg c 11 1 ≤ (if ty ≤ 4 then 16 else 8)) → fits = true → nth s.rf.rffeRun q none = none → ty = 2 ∨ ty = 4 ∨ ty = 6 → parity = true → 
      Gives (.rffeAccess c fits parity data) s fun t =>
      Answers c t St.ok 0 (data.toNat % 2 ^ (8 * (if ty = 2 then 1 else arg c 11 1))) ∧ t.told = s.told) ∧
  (∀ (s : State) (c : Cmd) (fits parity : Bool) (data : BitVec 128) (q ty : Nat), Ready s c false [] → arg c 8 1 = q → arg c 9 1 = ty → q < 4 → s.holds c.ctx 1 q = true → ty ≤ 6 → arg c 10 1 ≤ 15 → ((ty = 2 ∨ ty = 4 ∨ ty = 6) → 1 ≤ arg c 10 1) → (3 ≤ ty → 1 ≤ arg c 11 1 ∧ arg c 11 1 ≤ (if ty ≤ 4 then 16 else 8)) → fits = true → nth s.rf.rffeRun q none = none → ty = 2 ∨ ty = 4 ∨ ty = 6 → parity = false → 
      Gives (.rffeAccess c fits parity data) s fun t =>
      t.told = s.told ++ [(Ev.RF_RFFE_PARITY, [q])] ∧ t.lastCpl.map (fun x => (x.tag, x.status, x.results)) = some (c.tag.toNat, St.ioError,
      BitVec.ofNat 128 (data.toNat % 2 ^ (8 * (if ty = 2 then 1 else arg c 11 1))))) ∧
  (∀ (s : State) (c : Cmd) (fits parity : Bool) (data : BitVec 128) (q ty : Nat), Ready s c false [] → arg c 8 1 = q → arg c 9 1 = ty → q < 4 → s.holds c.ctx 1 q = true → ty ≤ 6 → arg c 10 1 ≤ 15 → ((ty = 2 ∨ ty = 4 ∨ ty = 6) → 1 ≤ arg c 10 1) → (3 ≤ ty → 1 ≤ arg c 11 1 ∧ arg c 11 1 ≤ (if ty ≤ 4 then 16 else 8)) → fits = false ∨ nth s.rf.rffeRun q none ≠ none → 
      exec (.rffeAccess c fits parity data) s = .next s) ∧
  (∀ (s : State) (c : Cmd) (overlap : Bool) (q : Nat), Ready s c false [] → arg c 8 1 = q → q < 4 → s.holds c.ctx 1 q = true → ((quadPaths q).all (fun p => (s.tx p = Ps.off || s.tx p = Ps.fault) && s.rx p = Ps.off) = true) → argBits c 9 0 4 ≤ 2 → HasSpan s c 16 4096 → overlap = false → 
      Gives (.rffeList c overlap) s fun t =>
      Answers c t St.ok 0 0 ∧ t.rd (R.RF_RFFE_CFG q) = BitVec.ofNat 32 (arg c 9 1) ∧
      ∀ j, j < 1024 → t.rd (R.RF_RFFE_MEM q j) = BitVec.ofNat 32 (s.memN (arg c 16 8 + 4 * j) 4))

/-- LANE_GROUP_SET over the group's own in-band lane keeps the change until after the completion; else the group takes the
configuration, and the command waits while a used lane comes up; LANE_EQ writes the equaliser, LANE_POWER gives every named lane
its power state, LANE_TEST starts and ends a test on the lanes of the group and LANE_STATUS answers the counts up to now. -/
def Obligations.LaneCommands : Prop :=
  (∀ (s : State) (c : Cmd) (g pers width rate : Nat) (cfg : Word), Ready s c true [(105, g)] → s.isML c.ctx = true → s.mode = .provisioned ∨ s.mode = .standby ∨ s.mode = .laneTest → arg c 8 1 = g → arg c 9 1 = pers → arg c 10 1 = width → arg c 12 2 = rate → cfg = BitVec.ofNat 32 (pers % 4 + 2 ^ 2 * (width % 4) + 2 ^ 16 * (rate % 2 ^ 15)) → g < 4 → pers ≤ 3 → (pers = 3 → s.role g < 2 ∧ width ≤ 2 ∧ 1250 ≤ rate ∧ rate ≤ 28125) → s.ln.lanes.length = 16 → s.ln.grps.length = 4 → 
      Gives (.laneGroupSet c) s fun t =>
      (s.overGroup c.ctx g = true → Answers c t St.ok 0 0 ∧ (t.grp g).waits = some cfg ∧ t.rd (R.LN_GROUP_CFG g) = s.rd (R.LN_GROUP_CFG g)) ∧
      (s.overGroup c.ctx g = false → t.rd (R.LN_GROUP_CFG g) = cfg ∧ t.get (R.LN_GROUP_STAT g) F.LN_GROUP_STAT_SKEW = 0 ∧
      (∀ n ∈ grpLanes g, (t.used g).contains n = false → t.laneRx n = Rx.off) ∧
      (pers ≠ 0 → WaitsFor c t (.groupChange g) [] ∧ (t.grp g).changing = true) ∧
      (pers = 0 → Answers c t St.ok 0 0 ∧ (t.grp g).changing = false ∧ t.told.getLast? = some (Ev.LN_GROUP_CHANGE, [g, 0])))) ∧
  (∀ (s : State) (c : Cmd) (n : Nat), Ready s c false [] → s.isML c.ctx = true → arg c 8 1 = n → n < 16 → arg c 9 1 + arg c 10 1 ≤ 31 → arg c 9 1 ≤ 15 → arg c 11 1 ≤ 12 → arg c 13 1 ≤ 20 → 
      Gives (.laneEq c) s fun t =>
      Answers c t St.ok 0 0 ∧ t.get (R.LN_TXEQ n) F.LN_TXEQ_PRE = arg c 9 1 ∧ t.get (R.LN_TXEQ n) F.LN_TXEQ_POST = arg c 10 1 ∧
      t.get (R.LN_TXEQ n) F.LN_TXEQ_AMP = arg c 11 1 ∧ t.flag (R.LN_TXEQ n) F.LN_TXEQ_TXINV = argBit c 12 0 ∧
      t.flag (R.LN_CTLE n) F.LN_CTLE_RXINV = argBit c 12 1 ∧ t.flag (R.LN_CTLE n) F.LN_CTLE_MODE = argBit c 12 2 ∧
      t.flag (R.LN_CTLE n) F.LN_CTLE_DFE_EN = argBit c 12 3 ∧ t.get (R.LN_CTLE n) F.LN_CTLE_PEAK = arg c 13 1 ∧
      t.get (R.LN_CTLE n) F.LN_CTLE_PK_NOW = (if argBit c 12 2 ∧ 2 ≤ s.laneRx n then arg c 13 1 else s.get (R.LN_CTLE n) F.LN_CTLE_PK_NOW)) ∧
  (∀ (s : State) (c : Cmd) (m : Nat), Ready s c false [] → s.isML c.ctx = true → arg c 8 2 = m → arg c 10 1 = 4 → s.ln.lanes.length = 16 → 
      Gives (.lanePower c) s fun t =>
      ∀ n, n < 16 → m.testBit n = true → t.laneRx n = Rx.off ∧ (t.lane n).goal = 4) ∧
  (∀ (s : State) (c : Cmd) (m st : Nat), Ready s c false [] → s.isML c.ctx = true → arg c 8 2 = m → arg c 10 1 = st → st < 4 → (∀ n, n < 16 → m.testBit n = true → (s.used (n / 4)).contains n = true) → s.ln.lanes.length = 16 → 
      Gives (.lanePower c) s fun t =>
      (∀ n, n < 16 → m.testBit n = true → (t.lane n).goal = st) ∧
      ((∀ n, n < 16 → m.testBit n = true → (t.lane n).exiting = false) → Answers c t St.ok 0 0) ∧
      ((∃ n ∈ List.range 16, m.testBit n = true ∧ (t.lane n).exiting = true) → WaitsFor c t (.lanes m st) [])) ∧
  (∀ (s : State) (c : Cmd) (seen : List (BitVec 48 × BitVec 32)) (g half : Nat), Ready s c true [] → s.isML c.ctx = true → s.mode = .laneTest → arg c 8 1 = g → g < 4 → s.pers g ≠ 0 → argBit c 9 0 = true → argBits c 10 0 3 ≠ 7 → argBits c 11 0 3 ≠ 7 → arg c 12 1 = half → (argBits c 10 0 3 = 5 ∨ argBits c 11 0 3 = 5 → 1 ≤ half ∧ half ≤ 16) → 
      Gives (.laneTest c seen) s fun t =>
      Answers c t St.ok 0 0 ∧ ∀ n ∈ s.used g, t.laneRx n = Rx.test ∧ t.laneTx n = 4 ∧
      t.get (R.LN_PAT_CFG n) F.LN_PAT_CFG_GPAT = argBits c 10 0 3 ∧ t.get (R.LN_PAT_CFG n) F.LN_PAT_CFG_GINV = argBits c 10 3 1 ∧
      t.get (R.LN_PAT_CFG n) F.LN_PAT_CFG_CPAT = argBits c 11 0 3 ∧ t.get (R.LN_PAT_CFG n) F.LN_PAT_CFG_CINV = argBits c 11 3 1 ∧
      (1 ≤ half ∧ half ≤ 16 → t.get (R.LN_PAT_CFG n) F.LN_PAT_CFG_HALF = half - 1) ∧ t.flag (R.LN_PAT_CFG n) F.LN_PAT_CFG_GEN_EN = true ∧
      t.flag (R.LN_PAT_CFG n) F.LN_PAT_CFG_CHK_EN = true ∧ t.get64 (R.LN_PAT_USER n) = arg c 16 8 ∧
      t.rd (R.LN_PAT_ERR_CNT n) = 0 ∧ t.get64 (R.LN_PAT_BITS n) = 0 ∧ t.flag (R.LN_PAT_STAT n) F.LN_PAT_STAT_SYNC = false) ∧
  (∀ (s : State) (c : Cmd) (seen : List (BitVec 48 × BitVec 32)) (g : Nat), Ready s c true [] → s.isML c.ctx = true → s.mode = .laneTest → arg c 8 1 = g → g < 4 → s.pers g ≠ 0 → argBit c 9 0 = false → 
      Gives (.laneTest c seen) s fun t =>
      Answers c t St.ok 0 0 ∧ ∀ n ∈ s.used g, (s.laneRx n = Rx.test → t.laneRx n = Rx.hunt ∧ t.laneTx n = 2 ∧ t.flag (R.LN_PAT_CFG n) F.LN_PAT_CFG_GEN_EN = false ∧
      t.flag (R.LN_PAT_CFG n) F.LN_PAT_CFG_CHK_EN = false) ∧ (s.laneRx n ≠ Rx.test → t.laneRx n = s.laneRx n)) ∧
  (∀ (s : State) (c : Cmd) (bits : BitVec 48) (errs : BitVec 32) (n : Nat), Ready s c false [] → arg c 8 1 = n → n < 16 → 
      Gives (.laneStatus c bits errs) s fun t =>
      Answers c t St.ok 0 (resN 16 4 (t.rd (R.LN_STATE n)).toNat + resN 20 4 (t.rd (R.LN_CTLE n)).toNat + resN 24 4 (t.rd (R.LN_PAT_STAT n)).toNat +
      resN 28 4 (t.rd (R.LN_PAT_ERR_CNT n)).toNat) ∧
      t.rd (R.LN_STATE n) = s.rd (R.LN_STATE n) ∧ t.rd (R.LN_CTLE n) = s.rd (R.LN_CTLE n) ∧
      (s.checks n = false ∨ s.flag (R.LN_PAT_STAT n) F.LN_PAT_STAT_SYNC = false → t.rd (R.LN_PAT_ERR_CNT n) = s.rd (R.LN_PAT_ERR_CNT n) ∧
      t.rd (R.LN_PAT_STAT n) = s.rd (R.LN_PAT_STAT n)) ∧
      (s.checks n = true ∧ s.flag (R.LN_PAT_STAT n) F.LN_PAT_STAT_SYNC = true →
      (t.rd (R.LN_PAT_ERR_CNT n)).toNat = min ((s.rd (R.LN_PAT_ERR_CNT n)).toNat + errs.toNat) (2 ^ 32 - 1)))

/-- TIME_DOMAIN_SET within its ranges writes the domain's settings and restarts its servo when the source changes; TIME_SELECT makes a
domain that may steer the steering one; TIME_PPS, TIME_FRAME and TIME_SYNCE write their settings; TIME_GET answers the TAI time;
TIME_DELAY starts a measurement and waits for it; TIME_PTP_STATS answers the counts. -/
def Obligations.TimeCommands : Prop :=
  (∀ (s : State) (c : Cmd) (d src : Nat), Ready s c false [] → s.isML c.ctx = true → arg c 8 1 = d → argBits c 9 0 2 = src → d < 2 → s.domSrc d = src ∨ s.steering ≠ d ∨ isRadio s.mode = false → src < 3 → (src = 2 → s.domSrc (1 - d) ≠ 2) → 1 ≤ arg c 10 2 → arg c 10 2 ≤ 1000 → 1 ≤ arg c 12 2 → arg c 12 2 ≤ 1023 → 1 ≤ arg c 14 1 → arg c 14 1 ≤ 15 → (src = 1 → arg c 22 1 ≤ 3 ∧ (arg c 24 1 = 1 ∧ 24 ≤ arg c 23 1 ∧ arg c 23 1 ≤ 43 ∨ arg c 24 1 = 2 ∧ 44 ≤ arg c 23 1 ∧ arg c 23 1 ≤ 63)) → s.ts.doms.length = 2 → 
      Gives (.timeDomainSet c) s fun t =>
      Answers c t St.ok 0 0 ∧ t.domSrc d = src ∧ t.get (R.TS_DOM_CFG d) F.TS_DOM_CFG_HYBRID = argBits c 9 2 1 ∧
      t.get (R.TS_DOM_CFG d) F.TS_DOM_CFG_PSLEW = arg c 10 2 ∧ t.get (R.TS_DOM_CFG d) F.TS_DOM_CFG_LOCK_NS = arg c 12 2 ∧
      t.get (R.TS_DOM_CFG d) F.TS_DOM_CFG_TMO = arg c 14 1 ∧ t.get (R.TS_DOM_GAIN d) F.TS_DOM_GAIN_KP = arg c 16 2 ∧
      t.get (R.TS_DOM_GAIN d) F.TS_DOM_GAIN_KI = arg c 18 2 ∧ t.rd (R.TS_DOM_LIM d) = BitVec.ofNat 32 (arg c 20 2) ∧
      (t.dom d).ptp = [arg c 22 1, arg c 23 1, arg c 24 1, arg c 25 1, arg c 26 2, arg c 28 4] ∧ (t.dom d).vofs = (s.dom d).vofs ∧
      (s.domSrc d ≠ src → t.domState d = (if src = 0 then 0 else 1) ∧ (t.dom d).last = none ∧ (t.dom d).pend = none ∧
      t.flag (R.TS_DOM_STAT d) F.TS_DOM_STAT_FLIM = false) ∧
      (s.domSrc d = src → t.domState d = s.domState d ∧ (t.dom d).last = (s.dom d).last)) ∧
  (∀ (s : State) (c : Cmd) (d p : Nat), Ready s c false [] → s.isML c.ctx = true → arg c 8 1 = d → arg c 9 1 = p → d < 2 → p < 2 → (if isRadio s.mode then s.domState d = 3 ∨ s.domState d = 4 else s.domState d ≠ 0) → 
      Gives (.timeSelect c) s fun t =>
      Answers c t St.ok 0 0 ∧ t.steering = d ∧ t.ts.auto = decide (p = 1) ∧ (s.steering = d → t.ts.doms = s.ts.doms)) ∧
  (∀ (s : State) (c : Cmd) (w : Nat), Ready s c false [] → s.isML c.ctx = true → arg c 10 2 = w → 1 ≤ w → w ≤ 500 → 
      Gives (.timePps c) s fun t =>
      Answers c t St.ok 0 0 ∧ t.flag R.TS_PPS_CFG F.TS_PPS_CFG_OUT_EN = argBit c 8 0 ∧ t.flag R.TS_PPS_CFG F.TS_PPS_CFG_GATE = argBit c 8 1 ∧
      t.flag R.TS_PPS_CFG F.TS_PPS_CFG_IN_EN = argBit c 8 2 ∧ t.get R.TS_PPS_CFG F.TS_PPS_CFG_WIDTH = w ∧ t.get R.TS_PPS_DLY F.TS_PPS_DLY_ODLY = arg c 12 2 ∧
      t.get R.TS_PPS_DLY F.TS_PPS_DLY_IDLY = arg c 14 2 ∧ (argBit c 8 0 = false → t.pins.ppsOut = false)) ∧
  (∀ (s : State) (c : Cmd) (sec : Nat), Ready s c true [(106, 0)] → s.isML c.ctx = true → s.mode = .provisioned ∨ s.mode = .standby → arg c 8 4 ≤ 9999999 → arg c 12 2 ≤ 1023 → (sec = (if nsDiff s.ns s.hy.c0 < (arg c 8 4 : Int) then s.hy.taiSec else s.hy.taiSec + 1)) → 
      Gives (.timeFrame c) s fun t =>
      WaitsFor c t .aligned [] ∧ t.rd R.TS_FRAME_OFS = BitVec.ofNat 32 (arg c 8 4) ∧ t.ts.beta = arg c 12 2 ∧ t.tl.alignArmed = true ∧
      t.tl.sfnLoad.map (fun n => (n : Int)) = some ((100 * ((sec : Int) - 19 - 315964800) + (arg c 12 2 : Int)) % 1024)) ∧
  (∀ (s : State) (c : Cmd), Ready s c false [] → s.isML c.ctx = true → 
      Gives (.timeSynce c) s fun t =>
      Answers c t St.ok 0 0 ∧ t.ts.qlAuto = argBit c 8 7 ∧ t.flag R.TS_SYNCE_CFG F.TS_SYNCE_CFG_EN = argBit c 8 6 ∧
      (argBit c 8 7 = false → t.get R.TS_SYNCE_CFG F.TS_SYNCE_CFG_LANE = argBits c 8 0 4 ∧
      t.flag R.TS_STATUS F.TS_STATUS_SYNCE_OK = (s.flag R.TS_STATUS F.TS_STATUS_SYNCE_OK && argBit c 8 6 && s.flag R.TS_SYNCE_CFG F.TS_SYNCE_CFG_EN &&
      s.get R.TS_SYNCE_CFG F.TS_SYNCE_CFG_LANE = argBits c 8 0 4))) ∧
  (∀ (s : State) (c : Cmd) (x : Int), Ready s c false [] → x = (s.hy.taiSec : Int) * 1000000000 + nsDiff s.ns s.hy.c0 → 
      Gives (.timeGet c) s fun t =>
      Answers c t St.ok 0 (resN 16 6 (unsigned 48 (x / 1000000000)) + resN 22 2 s.tl.sfn + resN 24 4 (x % 1000000000).toNat +
      resN 28 1 (s.domState 0 + 2 ^ 4 * s.domState 1) + resN 29 1 (s.steering + 2 * s.get R.TS_STATUS F.TS_STATUS_VALID)) ∧ t.ts = s.ts) ∧
  (∀ (s : State) (c : Cmd) (g id : Nat), Ready s c false [(104, g * 256 + id)] → arg c 8 1 = g → arg c 9 1 = id → g < 4 → s.flowOver c.ctx g = true → 
      Gives (.timeDelay c) s fun t =>
      WaitsFor c t (.delay g id) [s.now + 4915200] ∧ t.fh.delays.getLast? = some ⟨g, id, none, some c.ctx.val⟩) ∧
  (∀ (s : State) (c : Cmd) (d : Nat), Ready s c false [] → arg c 8 1 = d → d < 2 → 
      Gives (.timePtpStats c) s fun t =>
      Answers c t St.ok 0 (resN 16 4 (s.dom d).overCnt + resN 20 4 (s.dom d).peer + resN 24 4 (s.dom d).other) ∧ t.ts = s.ts)

/-- PWR_FROST in a mode and with triggers that allow it starts the transition to Frost and waits; PWR_GUST keeps the new cap;
PWR_STATUS answers the regulator, the stage, the cap and the retention losses beside a power estimate whose forming the
specification does not give (a free value); the MON commands configure the converter and the harvester and answer readings,
temperatures and journal records; REG_SET journals limits that fit and, under a lock, tighten, REG_LOCK in Provisioned journals
the limits in force as the locked set, and REG_STATUS answers RF_REG_STATUS. -/
def Obligations.PowerMonitorAndRegulatoryCommands : Prop :=
  (∀ (s : State) (c : Cmd) (lanes trig k : Nat), Ready s c false [] → s.isML c.ctx = true → s.busy = false → s.mode = .provisioned ∨ s.mode = .standby → s.flag R.PM_MODE F.PM_MODE_RADIO_LOCK = false → arg c 8 1 = lanes → argBits c 9 0 4 = trig → arg c 10 1 = k → (∀ g, g < 4 → lanes / 4 ^ g % 4 ≠ 3) → (trig.testBit 2 = true → k < 32 ∧ s.get (R.PM_GPIO_CFG k) F.PM_GPIO_CFG_FUNC = 0) → (trig.testBit 3 = true → arg c 12 4 ≠ 0) → 
      Gives (.pwrFrost c) s fun t =>
      WaitsFor c t .frost [] ∧ t.pm.frost = some ⟨0, false, lanes, trig, k, arg c 12 4, false⟩ ∧ t.busy = true ∧
      t.get R.PM_MODE F.PM_MODE_TGT = modeCode .frost ∧ t.mode = s.mode) ∧
  (∀ (s : State) (c : Cmd), Ready s c false [] → s.isML c.ctx = true → 1 ≤ arg c 8 1 → arg c 8 1 ≤ 16 → 
      Gives (.pwrGust c) s fun t =>
      Answers c t St.ok 0 0 ∧ t.pm.capNext = some (arg c 8 1) ∧ t.rd R.PM_GUST_CFG = s.rd R.PM_GUST_CFG) ∧
  (∀ (s : State) (c : Cmd), Ready s c false [] → 
      Gives (.pwrStatus c) s fun t =>
      t.lastCpl.map (fun x => (x.tag, x.status, x.results.toNat / 2 ^ 32)) = some (c.tag.toNat, St.ok, resN 16 2 (s.get R.PM_VCORE F.PM_VCORE_MV) +
      resN 18 1 s.stage + resN 19 1 (s.get R.PM_GUST_CFG F.PM_GUST_CFG_CAP) + resN 20 4 (s.rd R.PM_RET_LOST).toNat) ∧
      ∀ a, ¬bookReg c.ctx a → t.rd a = s.rd a) ∧
  (∀ (s : State) (c : Cmd) (i n rate trig src : Nat), Ready s c false [] → s.isML c.ctx = true → arg c 8 1 = i → arg c 9 1 = n → arg c 10 2 = rate → arg c 12 1 = trig → trig % 8 = src → i < 2 → s.hkRuns i = false → 1 ≤ n → (n ≤ (if i = 0 then 16 else 4)) → 5 ≤ rate → rate ≤ 50000 → (src ≠ 5 ∧ src ≠ 6 ∧ (src = 4 → i = 0)) → (src = 2 → s.get (R.PM_GPIO_CFG (trig / 8)) F.PM_GPIO_CFG_FUNC = 0) → (∀ j, j < n → arg c (16 + j) 1 < 43) → 
      Gives (.monHkSeq c) s fun t =>
      Answers c t St.ok 0 0 ∧ t.get (R.HK_SEQ_CFG i) F.HK_SEQ_CFG_COUNT = n ∧ t.get (R.HK_SEQ_CFG i) F.HK_SEQ_CFG_TRIG = trig ∧
      2 * (t.get (R.HK_SEQ_OSR i) F.HK_SEQ_OSR_OSR * rate) ≤ 2 * 6250000 + rate ∧ 2 * 6250000 ≤ 2 * (t.get (R.HK_SEQ_OSR i) F.HK_SEQ_OSR_OSR * rate) + rate ∧
      (∀ w, w < 4 → t.rd (R.HK_SEQ_LIST i w) = BitVec.ofNat 32 (arg c (16 + 4 * w) 4)) ∧ t.rd (R.HK_TIMER i) = BitVec.ofNat 32 (arg c 32 4) ∧
      (if i = 0 then t.hk.armReg else t.hk.armSq) = decide (src ≠ 7)) ∧
  (∀ (s : State) (c : Cmd) (ch st : Nat), Ready s c false [(108, 0)] → s.isML c.ctx = true → arg c 8 1 = ch → arg c 9 1 = st → ch < 43 → st < 2 → (st = 1 → s.hk.zero.any (fun z => z.1 = ch) = true) → 
      Gives (.monHkCal c) s fun t =>
      WaitsFor c t .hkCal [] ∧ (s.hk.regRun.isSome = true ∨ s.flag R.HK_STAT F.HK_STAT_HELD = true → t.hk.calWait = some ⟨ch, st, 0, 0⟩ ∧ t.hk.cal = s.hk.cal) ∧
      (s.hk.regRun = none ∧ s.flag R.HK_STAT F.HK_STAT_HELD = false → t.hk.cal = some ⟨ch, st, 0, 0⟩)) ∧
  (∀ (s : State) (c : Cmd) (ch : Nat), Ready s c false [] → arg c 8 1 = ch → ch < 43 → 
      Gives (.monHkRead c) s fun t =>
      Answers c t St.ok 0 (resN 16 4 (unsigned 32 (signed 24 (s.get (R.HK_DATA ch) F.HK_DATA_V))) + resN 20 4 (sparseGet (fun _ => 0) s.hk.stampNs ch) +
      resN 24 2 (sparseGet (fun _ => 0) s.hk.samples ch)) ∧ t.hk = s.hk) ∧
  (∀ (s : State) (c : Cmd), Ready s c false [] → arg c 16 8 = 0 ∨ HasSpan s c 16 96 → 
      Gives (.monTemp c) s fun t =>
      Answers c t St.ok 0 (resN 16 2 (s.get R.TH_STAT F.TH_STAT_HOT) + resN 18 2 (s.get R.TH_STAT F.TH_STAT_HOTIDX) + resN 20 1 s.stage + resN 21 1 s.suspects) ∧
      (arg c 16 8 ≠ 0 → ∀ i n, i < 48 → n < 2 → ¬CplSlot s c.ctx (arg c 16 8 + 2 * i + n) →
      t.byte (arg c 16 8 + 2 * i + n) = BitVec.ofNat 8 (s.get (R.TH_SENSOR i) F.TH_SENSOR_T / 2 ^ (8 * n)))) ∧
  (∀ (s : State) (c : Cmd) (p : Nat), Ready s c false [] → s.isML c.ctx = true → arg c 8 4 = p → p ≤ 60000 → (0 < p → 2560 ≤ arg c 24 4 ∧ HasSpan s c 16 (arg c 24 4)) → 
      Gives (.monHarvest c) s fun t =>
      Answers c t St.ok 0 0 ∧ t.hi.harvPeriod = p ∧
      (0 < p → t.hi.harvBase = arg c 16 8 ∧ t.hi.harvSpan = arg c 24 4 ∧ t.hi.harvSlot = 0 ∧ t.hi.harvCtx = c.ctx.val)) ∧
  (∀ (s : State) (c : Cmd) (l : List (List Byte)), Ready s c false [] → journalType (arg c 8 1) = true → HasSpan s c 16 (64 * arg c 12 2) → ((s.journalSel (arg c 8 1)).drop (arg c 10 2)).take (arg c 12 2) = l → 
      Gives (.monJournalRead c) s fun t =>
      Answers c t St.ok 0 (resN 16 2 l.length + resN 18 2 (s.rd R.NVJ_TORN_CNT).toNat) ∧
      ∀ j, j < l.flatten.length → ¬CplSlot s c.ctx (arg c 16 8 + j) → t.byte (arg c 16 8 + j) = nth l.flatten j 0) ∧
  (∀ (s : State) (c : Cmd) (v : List Nat), Ready s c true [(107, 0x16)] → s.isML c.ctx = true → s.mode = .provisioned ∨ s.mode = .standby ∨ isRadio s.mode = true → HasSpan s c 16 640 → regVals (s.bytes (arg c 16 8) 640) = v → regFits v = true → (s.flag R.RF_REG_STATUS F.RF_REG_STATUS_LOCKED = true → regTightens v s.lockedSet = true) → 
      Gives (.regSet c) s fun t =>
      WaitsFor c t (.journal s.nvj.nextGroup) (0x16 :: v) ∧ t.nvj.nextGroup = s.nvj.nextGroup + 1 ∧ s.nvj.queue.length < t.nvj.queue.length ∧
      (∀ p, p < 64 → t.rd (R.RF_REG_PEAK p) = s.rd (R.RF_REG_PEAK p))) ∧
  (∀ (s : State) (c : Cmd), Ready s c true [(107, 0x16)] → s.isML c.ctx = true → s.mode = .provisioned ∨ s.mode = .standby ∨ isRadio s.mode = true → HasSpan s c 16 640 → s.flag R.RF_REG_STATUS F.RF_REG_STATUS_LOCKED = true → regTightens (regVals (s.bytes (arg c 16 8) 640)) s.lockedSet = false → 
      Gives (.regSet c) s fun t =>
      Answers c t St.locked 0 0 ∧ t.nvj = s.nvj ∧ t.rf = s.rf ∧ ∀ a, ¬bookReg c.ctx a → t.rd a = s.rd a) ∧
  (∀ (s : State) (c : Cmd), Ready s c true [(107, 0x16)] → s.isML c.ctx = true → s.mode = .provisioned → s.flag R.RF_REG_STATUS F.RF_REG_STATUS_LOCKED = false → 
      Gives (.regLock c) s fun t =>
      WaitsFor c t (.journal s.nvj.nextGroup) [0x1A] ∧ t.nvj.nextGroup = s.nvj.nextGroup + 1 ∧ s.nvj.queue.length < t.nvj.queue.length) ∧
  (∀ (s : State) (c : Cmd), Ready s c false [] → 
      Gives (.regStatus c) s fun t =>
      Answers c t St.ok 0 (s.rd R.RF_REG_STATUS).toNat ∧ t.rf = s.rf)

/-- FW_UPDATE_BEGIN starts the transition to Update; FW_UPDATE_WRITE copies a chunk to the slot that is not active, or answers
IO_ERROR and changes no byte of it; FW_UPDATE_COMMIT journals the slot of an image that verifies and starts the return to
Provisioned with AUTH_FAIL of one that does not; FW_UPDATE_ABORT ends a commit in flight with ABORTED and starts the return;
CFG_RECORD journals its object; KERNEL_LOAD leaves the core IDLE with its memories written, KERNEL_START arms it or starts it,
KERNEL_STOP halts it, KERNEL_MBX writes its mailbox and KERNEL_STATUS answers its state. How the watchdog's time is rounded is
open (log entry 10). -/
def Obligations.UpdateAndKernelCommands : Prop :=
  (∀ (s : State) (c : Cmd), Ready s c false [] → s.isML c.ctx = true → s.busy = false → s.mode = .provisioned → arg c 12 4 ≤ 2 ^ 25 → 
      Gives (.fwUpdateBegin c) s fun t =>
      WaitsFor c t (.mode .update) [St.ok] ∧ t.pm.updLen = arg c 12 4 ∧ t.busy = true ∧ t.get R.PM_MODE F.PM_MODE_TGT = modeCode .update) ∧
  (∀ (s : State) (c : Cmd) (good : Bool) (o n : Nat), Ready s c true [] → s.isML c.ctx = true → s.mode = .update → arg c 12 4 = o → arg c 24 4 = n → o % 65536 = 0 → n % 256 = 0 → n ≤ 2 ^ 20 → o + n ≤ s.pm.updLen → HasSpan s c 16 n → 
      Gives (.fwUpdateWrite c good) s fun t =>
      (good = true → Answers c t St.ok 0 0 ∧ ∀ j, j < n → ¬CplSlot s c.ctx (s.inactiveSlot + o + j) → t.byte (s.inactiveSlot + o + j) = s.byte (arg c 16 8 + j)) ∧
      (good = false → t.lastCpl.map (fun x => (x.tag, x.status)) = some (c.tag.toNat, St.ioError) ∧
      ∀ j, j < n → ¬CplSlot s c.ctx (s.inactiveSlot + o + j) → t.byte (s.inactiveSlot + o + j) = s.byte (s.inactiveSlot + o + j))) ∧
  (∀ (s : State) (c : Cmd) (good : Bool), Ready s c true [(107, 0x10)] → s.isML c.ctx = true → s.mode = .update → 
      Gives (.fwUpdateCommit c good) s fun t =>
      (good = true → WaitsFor c t (.journal s.nvj.nextGroup) [0x10] ∧ t.nvj.nextGroup = s.nvj.nextGroup + 1 ∧ s.nvj.queue.length < t.nvj.queue.length) ∧
      (good = false → WaitsFor c t (.mode .provisioned) [St.authFail] ∧ t.busy = true ∧ t.get R.PM_MODE F.PM_MODE_TGT = modeCode .provisioned ∧ t.nvj = s.nvj)) ∧
  (∀ (s : State) (c : Cmd), Ready s c true [] → s.isML c.ctx = true → s.mode = .update → c.opcode = 0x0F04 → 
      Gives (.fwUpdateAbort c) s fun t =>
      WaitsFor c t (.mode .provisioned) [St.ok] ∧ t.busy = true ∧ t.get R.PM_MODE F.PM_MODE_TGT = modeCode .provisioned ∧ t.pm.updLen = 0 ∧
      (∀ j ∈ t.hy.jobs, j.cmd.opcode ≠ 0x0F03) ∧
      (∀ j ∈ s.hy.jobs, j.cmd.opcode = 0x0F03 → (∀ e ∈ t.hy.inflight, ¬(e.1.ctx = j.cmd.ctx ∧ e.1.tag = j.cmd.tag)) ∧ t.lastCpl.map (fun x => x.status) = some St.aborted)) ∧
  (∀ (s : State) (c : Cmd) (k n : Nat), Ready s c true [(107, 0x10 + k)] → s.isML c.ctx = true → s.mode = .provisioned → arg c 8 1 = k → arg c 12 4 = n → 1 ≤ k → k ≤ 5 → n ≤ 56 * (objPlace (0x10 + k)).parts - 12 → HasSpan s c 16 n → 
      Gives (.cfgRecord c) s fun t =>
      (k ≠ 5 ∨ Config.unlockSigned (s.bytes (arg c 16 8) n) = true → WaitsFor c t (.journal s.nvj.nextGroup) [0] ∧ t.nvj.nextGroup = s.nvj.nextGroup + 1 ∧
      s.nvj.queue.length < t.nvj.queue.length) ∧
      (k = 5 ∧ Config.unlockSigned (s.bytes (arg c 16 8) n) = false → Answers c t St.authFail 0 0 ∧ t.nvj = s.nvj)) ∧
  (∀ (s : State) (c : Cmd) (k pm x y a : Nat), Ready s c false [] → arg c 8 1 = k → 12 ≤ k → k < 16 → s.holds c.ctx 9 k = true → s.coreSt k = Co.idle ∨ s.coreSt k = Co.fault → arg c 12 4 = pm → arg c 24 4 = x → arg c 28 4 = y → arg c 16 8 = a → pm ≤ 65536 → x ≤ 131072 → y ≤ 131072 → HasSpan s c 16 (pm + x + y) → s.nvc.cores.length = 16 → 
      Gives (.kernelLoad c) s fun t =>
      Answers c t St.ok 0 0 ∧ t.coreSt k = Co.idle ∧ t.get (R.NVC_CORE_STAT k) F.NVC_CORE_STAT_PC = 0 ∧ (t.core k).loaded = true ∧
      t.get64 (R.NVC_PERF_CYCLES k) = 0 ∧
      (∀ j, j < pm → ¬CplSlot s c.ctx (nvPm k + j) → t.byte (nvPm k + j) = s.byte (a + j)) ∧
      (∀ j, j < x → ¬CplSlot s c.ctx (nvX k + j) → t.byte (nvX k + j) = s.byte (a + pm + j)) ∧
      (∀ j, j < y → ¬CplSlot s c.ctx (nvY k + j) → t.byte (nvY k + j) = s.byte (a + pm + x + j))) ∧
  (∀ (s : State) (c : Cmd) (k g us : Nat), Ready s c false [] → arg c 8 1 = k → arg c 9 1 = g → 12 ≤ k → k < 16 → s.holds c.ctx 9 k = true → s.coreSt k = Co.idle → (s.core k).loaded = true → g ≤ 2 → (g = 2 → arg c 10 1 < 16) → arg c 12 4 = us → 1 ≤ us → us ≤ 10000000 → s.nvc.cores.length = 16 → 
      Gives (.kernelStart c) s fun t =>
      Answers c t St.ok 0 0 ∧ t.coreSt k = (if g = 0 then Co.running else Co.idle) ∧ (t.core k).trig = g + 1 ∧ (t.core k).trigCar = arg c 10 1 ∧
      (t.rd (R.NVC_WDOG k)).toNat * 5 ≤ us * 384 + 4 ∧ us * 384 ≤ (t.rd (R.NVC_WDOG k)).toNat * 5 + 4) ∧
  (∀ (s : State) (c : Cmd) (k : Nat), Ready s c false [] → arg c 8 1 = k → 12 ≤ k → k < 16 → s.holds c.ctx 9 k = true → s.nvc.cores.length = 16 → 
      Gives (.kernelStop c) s fun t =>
      Answers c t St.ok 0 0 ∧ t.coreSt k = (if s.coreSt k = Co.paused then Co.paused else Co.idle) ∧ (t.core k).held = false ∧ (t.core k).trig = 0 ∧
      (t.core k).was = Co.idle) ∧
  (∀ (s : State) (c : Cmd) (k f n : Nat), Ready s c false [] → arg c 8 1 = k → arg c 9 1 = f → arg c 10 1 = n → 12 ≤ k → k < 16 → s.holds c.ctx 9 k = true → 1 ≤ n → n ≤ 12 → f + n ≤ 16 → s.nvc.cores.length = 16 → 
      Gives (.kernelMbx c) s fun t =>
      Answers c t St.ok 0 0 ∧ (∀ i, i < n → t.rd (R.NVC_MBX_IN k (f + i)) = BitVec.ofNat 32 (arg c (12 + 4 * i) 4)) ∧
      (f + n = 16 → (t.core k).in15 = true ∧ ((s.core k).trig = 2 → s.coreSt k = Co.idle → (s.core k).loaded = true → t.coreSt k = Co.running)) ∧
      (f + n < 16 → t.nvc = s.nvc)) ∧
  (∀ (s : State) (c : Cmd) (k : Nat), Ready s c false [] → arg c 8 1 = k → 12 ≤ k → k < 16 → s.holds c.ctx 9 k = true → 
      Gives (.kernelStatus c) s fun t =>
      Answers c t St.ok 0 (resN 16 4 (s.rd (R.NVC_CORE_STAT k)).toNat + resN 20 4 (s.rd (R.NVC_CORE_FLAGS k)).toNat + resN 24 8 (s.get64 (R.NVC_PERF_CYCLES k) % 2 ^ 48)) ∧
      t.nvc = s.nvc)

/-- Every command named here that answers a next state leaves every register unchanged but those listed and the arrays listed (at any
index), every part of the state but those listed, and the queue and the time. -/
def Obligations.BlockFrames : Prop :=
  (∀ (s : State), Frame .suppliesInRange s [R.PM_MODE] [R.NVC_CORE_STAT] []
      [.pm]) ∧
  (∀ (s : State), Frame .porstNRelease s [R.PM_MODE] [R.NVC_CORE_STAT] []
      [.pm]) ∧
  (∀ (s : State), Frame .warmResetHoldEnd s [R.PM_MODE] [R.NVC_CORE_STAT] []
      [.pm]) ∧
  (∀ (fail : BitVec 18) (vout : Bool) (oscout : Bool) (oscRef : Bool) (s : State), Frame (.bistComplete fail vout oscout oscRef) s [R.PM_BIST_STAT, R.PM_MODE] [R.NVC_CORE_STAT] []
      [.pm]) ∧
  (∀ (active : Bool) (other : Bool) (host : Option Bool) (s : State), Frame (.bootRomDone active other host) s [R.HI_BOOT_STAT, R.NVJ_STAT, R.NVJ_TORN_CNT] [] []
      [.mem, .pm]) ∧
  (∀ (s : State), Frame .referencePllLock s [R.HI_BOOT_STAT, R.TS_STATUS] [] []
      [.pm]) ∧
  (∀ (trained : BitVec 3) (step0 : Fin 4) (step1 : Fin 4) (step2 : Fin 4) (size : BitVec 5) (unfit : Bool) (s : State), Frame (.dramTrainingDone trained step0 step1 step2 size unfit) s [R.HI_BOOT_STAT, R.MC_STATUS] [] []
      [.mem, .raised]) ∧
  (∀ (ok : Bool) (s : State), Frame (.mainImageVerified ok) s [R.BF_FREE_VEC, R.CV_ACAL_STATUS, R.DMA_STATUS, R.HI_BOOT_STAT, R.HI_INFL_TOTAL, R.HI_MODE_LEASE, R.HI_UART_CFG, R.LN_STATUS, R.NVJ_STAT, R.PM_DOM_STAT, R.PM_I2C_CFG, R.PM_MODE, R.RF_PATH_AVAIL, R.RF_PATH_AVAIL + 4, R.RF_REG_STATUS, R.TS_STATUS] [R.BF_REGION_BASE, R.BF_REGION_CFG, R.DMA_CH_CFG, R.DMA_CH_STAT, R.FH_SECT_QUOTA, R.HI_CMP_LOST_CNT, R.HI_CTX_BIND, R.HI_CTX_STAT, R.HI_RING_CFG, R.HI_RING_PROD, R.HI_RING_STAT, R.HK_CAL, R.HK_CAL_HI, R.LN_CTLE, R.LN_GROUP_CFG, R.LN_GROUP_STAT, R.LN_STATE, R.LN_TXEQ, R.NVC_CORE_STAT, R.PM_GPIO_CFG, R.RF_PATH_STATE, R.RF_REG_DUTY, R.RF_REG_PEAK, R.RF_REG_RANGE_HI, R.RF_REG_RANGE_LO, R.RF_REG_RMS, R.TL_PART_QUOTA] [R.CV_ACBANK, R.CV_SLICE_QUAL]
      [.dma, .hi, .hy, .lastCpl, .ln, .marks, .mc, .mem, .nvj, .pm, .raised, .rf]) ∧
  (∀ (att : Attachment) (ofs : BitVec 20) (len : BitVec 11) (s : State), Frame (.hiBootGo att ofs len) s [R.HI_BOOT_ACK, R.HI_BOOT_CTRL, R.HI_BOOT_STAT] [] []
      [.mem]) ∧
  (∀ (s : State), Frame .modeTransitionComplete s [R.HI_INFL_TOTAL, R.PM_MODE, R.TL_CTRL, R.TL_STATUS] [R.HI_CMP_LOST_CNT, R.HI_CTX_STAT, R.HI_RING_PROD, R.NVC_CORE_STAT, R.RF_SYN_STATUS] []
      [.hi, .hy, .lastCpl, .marks, .mem, .pins, .pm, .raised, .rf, .tl]) ∧
  (∀ (sensor : Fin 48) (x : BitVec 16) (s : State), Frame (.thermalShutdown sensor x) s [R.HI_INFL_TOTAL, R.NVJ_STAT, R.PM_MODE, R.PM_SHUT_INFO] [R.HI_CTX_STAT, R.RF_PABIAS_CFG, R.RF_PABIAS_LVL, R.RF_PATH_STATE] []
      [.dfe, .hy, .mem, .nvj, .pins, .pm, .rf, .tl]) ∧
  (∀ (v : Word) (s : State), Frame (.pmWake v) s [R.PM_MODE] [] []
      [.pm]) ∧
  (∀ (s : State), Frame .frostTimerExpiry s [R.PM_MODE] [] []
      [.pm]) ∧
  (∀ (s : State), Frame .frostBlockAnswer s [R.HI_INFL_TOTAL, R.LN_STATUS, R.MC_STATUS, R.PM_DOM_STAT, R.PM_FROST_STAT, R.PM_MODE, R.PM_ROLLBACK_CNT, R.TL_CTRL, R.TL_STATUS, R.TS_STATUS] [R.HI_CMP_LOST_CNT, R.HI_CTX_STAT, R.HI_RING_PROD, R.LN_CTLE, R.LN_GROUP_STAT, R.LN_STATE, R.NVC_CORE_STAT] []
      [.hi, .hy, .lastCpl, .ln, .marks, .mem, .nvc, .pm, .raised]) ∧
  (∀ (s : State), Frame .frostAnswerTimeout s [R.HI_INFL_TOTAL, R.PM_FROST_STAT, R.PM_MODE, R.PM_ROLLBACK_CNT, R.TL_CTRL, R.TL_STATUS] [R.HI_CMP_LOST_CNT, R.HI_CTX_STAT, R.HI_RING_PROD] []
      [.free, .hi, .hy, .lastCpl, .marks, .mem, .pm, .raised]) ∧
  (∀ (s : State), Frame .frostEntryDone s [R.PM_MODE, R.TS_STATUS] [R.HI_CTX_STAT, R.HI_RING_STAT, R.NVC_CORE_STAT, R.RF_SYN_STATUS] []
      [.hi, .pm, .raised]) ∧
  (∀ (s : State), Frame .thawComplete s [R.LN_STATUS, R.PM_DOM_STAT, R.PM_MODE, R.TL_CTRL, R.TL_STATUS, R.TS_STATUS] [R.LN_CTLE, R.LN_GROUP_STAT, R.LN_STATE, R.NVC_CORE_STAT] []
      [.ln, .pm, .raised]) ∧
  (∀ (s : State), Frame .gustStepGrant s [R.PM_GUST_CFG, R.PM_GUST_WAIT_CNT] [] []
      [.marks, .pm]) ∧
  (∀ (which : Fin 2) (s : State), Frame (.perstAssert which) s [] [R.HI_CTX_STAT, R.HI_RING_STAT] []
      [.hi, .pins, .raised]) ∧
  (∀ (which : Fin 2) (s : State), Frame (.perstRelease which) s [R.PM_MODE] [] []
      [.pins, .pm]) ∧
  (∀ (f : Fin 2) (s : State), Frame (.pcieLinkUp f) s [R.DMA_STATUS, R.HI_MODE_LEASE] [R.DMA_CH_CFG, R.DMA_CH_STAT, R.HI_CTX_STAT, R.HI_RING_CFG, R.HI_RING_STAT] []
      [.dma, .hi, .raised]) ∧
  (∀ (f : Fin 2) (s : State), Frame (.pcieLinkDown f) s [] [R.HI_CTX_STAT, R.HI_RING_STAT] []
      [.hi, .raised]) ∧
  (∀ (c : Fin 8) (s : State), Frame (.ctxHoldExpiry c) s [R.BF_STATUS, R.DMA_STATUS, R.HI_INFL_TOTAL, R.HI_MODE_LEASE, R.NVC_STATUS] [R.BF_REGION_CFG, R.BF_REGION_STAT, R.DFE_CAR_CFG, R.DMA_CH_CFG, R.DMA_CH_STAT, R.FH_RESV, R.FH_SECT_QUOTA, R.FH_SECT_USED, R.HI_CMP_LOST_CNT, R.HI_CTX_STAT, R.HI_RING_CFG, R.HI_RING_PROD, R.HI_RING_STAT, R.NVC_CORE_STAT, R.RF_REG_RMS, R.TL_PART_QUOTA] [R.FH_FLOW, R.NVC_MBX_IN, R.NVC_MBX_OUT]
      [.bf, .dfe, .dma, .fh, .free, .hi, .hy, .lastCpl, .marks, .mem, .nvc, .raised, .tl]) ∧
  (∀ (c : Fin 8) (s : State), Frame (.inbandSilenceTimeout c) s [] [R.HI_CTX_STAT, R.HI_RING_STAT] []
      [.hi, .raised]) ∧
  (∀ (s : State), Frame .tapReset s [] [] []
      []) ∧
  (∀ (ok : Bool) (s : State), Frame (.pmbusRetry ok) s [R.PM_VCORE] [] []
      [.pm, .raised, .th]) ∧
  (∀ (via : Via) (addr : BitVec 32) (v : Word) (s : State), PartFrame (.registerWrite via addr v) s [.dfe, .dma, .free, .hi, .marks, .mc, .mem, .nvj, .pm, .raised, .tl, .ts]) ∧
  (∀ (via : Via) (addr : BitVec 32) (v : Word) (s : State), PartFrame (.counterClear via addr v) s [.dfe, .dma, .free, .hi, .marks, .mc, .mem, .nvj, .pm, .raised, .tl, .ts]) ∧
  (∀ (via : Via) (addr : BitVec 32) (s : State), Frame (.reg64LowRead via addr) s [R.HI_DECODE_ERR_CNT, R.HI_UART_RXD, R.HK_FIFO_LVL, R.PM_I2C_RXD] [R.HI_DBG_DENY_CNT, R.HK_FIFO_RD, R.HK_FIFO_RD_HI] []
      [.free, .hi, .hk, .lastRead, .latch, .marks, .raised]) ∧
  (∀ (entry : BitVec 256) (s : State), Frame (.forecastCommit entry) s [R.TL_HEAD, R.TL_LATE_ENTRY_CNT, R.TL_STATUS, R.TL_TAIL] [R.TL_PART_USED] [ringWord]
      [.marks, .raised, .tl]) ∧
  (∀ (s : State), Frame .stagedEntryCommit s [R.TL_HEAD, R.TL_LATE_ENTRY_CNT, R.TL_STATUS, R.TL_TAIL] [R.TL_PART_USED] [ringWord]
      [.hy, .marks, .raised, .tl]) ∧
  (∀ (slot : Fin 4096) (s : State), Frame (.dlSym slot) s [R.TL_JOB_LATE_CNT, R.TL_LEASE_BLANK_CNT] [] [ringWord]
      [.marks, .raised, .tl]) ∧
  (∀ (slot : Fin 4096) (s : State), Frame (.ulSym slot) s [R.TL_JOB_LATE_CNT, R.TL_LEASE_BLANK_CNT] [] [ringWord]
      [.marks, .raised, .tl]) ∧
  (∀ (slot : Fin 4096) (s : State), Frame (.guard slot) s [R.TL_JOB_LATE_CNT, R.TL_LEASE_BLANK_CNT] [] [ringWord]
      [.marks, .raised, .tl]) ∧
  (∀ (slot : Fin 4096) (s : State), Frame (.chan slot) s [R.TL_JOB_LATE_CNT, R.TL_LEASE_BLANK_CNT] [R.BF_CAR_F0, R.RF_SYN_FREQ, R.RF_SYN_STATUS] [ringWord]
      [.cv, .dfe, .free, .marks, .raised, .rf, .tl]) ∧
  (∀ (slot : Fin 4096) (s : State), Frame (.auxTune slot) s [R.TL_JOB_LATE_CNT, R.TL_LEASE_BLANK_CNT] [R.RF_SYN_FREQ, R.RF_SYN_STATUS] [ringWord]
      [.dfe, .marks, .raised, .rf, .tl]) ∧
  (∀ (slot : Fin 4096) (s : State), Frame (.gain slot) s [R.TL_JOB_LATE_CNT, R.TL_LEASE_BLANK_CNT] [R.RF_PATH_STATE] [ringWord]
      [.marks, .raised, .tl]) ∧
  (∀ (slot : Fin 4096) (s : State), Frame (.dpdSwap slot) s [R.DFE_DPD_NOTREADY_CNT, R.TL_JOB_LATE_CNT, R.TL_LEASE_BLANK_CNT] [R.DFE_DPD_QUAL, R.DFE_DPD_STATUS] [ringWord]
      [.marks, .raised, .tl]) ∧
  (∀ (slot : Fin 4096) (s : State), Frame (.cfirSwap slot) s [R.DFE_CFIR_EXTRA_CNT, R.TL_JOB_LATE_CNT, R.TL_LEASE_BLANK_CNT] [] [ringWord]
      [.dfe, .marks, .raised, .tl]) ∧
  (∀ (slot : Fin 4096) (s : State), Frame (.wpage slot) s [R.BF_WPAGE_NOTREADY_CNT, R.CV_ACAL_STATUS, R.TL_JOB_LATE_CNT, R.TL_LEASE_BLANK_CNT] [R.BF_CAR_STAT, R.BF_REGION_STAT] [ringWord]
      [.bf, .marks, .raised, .tl]) ∧
  (∀ (slot : Fin 4096) (s : State), Frame (.srsCap slot) s [R.TL_JOB_LATE_CNT, R.TL_LEASE_BLANK_CNT] [] [ringWord]
      [.bf, .marks, .raised, .tl]) ∧
  (∀ (slot : Fin 4096) (s : State), Frame (.obsCap slot) s [R.TL_JOB_LATE_CNT, R.TL_LEASE_BLANK_CNT] [R.DFE_CAP_SKIP_CNT, R.DFE_CAP_STATUS, R.TL_DEFER_CNT] [ringWord]
      [.cv, .dfe, .marks, .pins, .raised, .tl]) ∧
  (∀ (slot : Fin 4096) (s : State), Frame (.calBorrow slot) s [R.CV_ACAL_STATUS, R.TL_JOB_LATE_CNT, R.TL_LEASE_BLANK_CNT] [R.TL_DEFER_CNT] [ringWord]
      [.cv, .marks, .raised, .tl]) ∧
  (∀ (slot : Fin 4096) (s : State), Frame (.arm slot) s [R.TL_JOB_LATE_CNT, R.TL_LEASE_BLANK_CNT] [] [ringWord]
      [.marks, .raised, .tl]) ∧
  (∀ (slot : Fin 4096) (s : State), Frame (.disarm slot) s [R.TL_JOB_LATE_CNT, R.TL_LEASE_BLANK_CNT] [] [ringWord]
      [.marks, .raised, .tl]) ∧
  (∀ (slot : Fin 4096) (s : State), Frame (.dfeSync slot) s [R.TL_JOB_LATE_CNT, R.TL_LEASE_BLANK_CNT] [] [ringWord]
      [.dfe, .marks, .raised, .tl]) ∧
  (∀ (slot : Fin 4096) (s : State), Frame (.mark slot) s [R.TL_JOB_LATE_CNT, R.TL_LEASE_BLANK_CNT] [] [ringWord]
      [.marks, .raised, .tl]) ∧
  (∀ (slot : Fin 4096) (s : State), Frame (.entryRetire slot) s [R.HI_INFL_TOTAL, R.TL_HEAD, R.TL_STATUS] [R.HI_CMP_LOST_CNT, R.HI_CTX_STAT, R.HI_RING_PROD, R.TL_PART_QUOTA, R.TL_PART_USED] []
      [.hi, .hy, .lastCpl, .marks, .mem, .tl]) ∧
  (∀ (sfn : BitVec 10) (s : State), Frame (.tlSfnLoad sfn) s [] [] []
      [.tl]) ∧
  (∀ (s : State), Frame .tlCtrlAlign s [] [] []
      [.tl]) ∧
  (∀ (s : State), Frame .frameAlignEdge s [R.HI_INFL_TOTAL, R.TL_STATUS] [R.HI_CMP_LOST_CNT, R.HI_CTX_STAT, R.HI_RING_PROD, R.TL_NOW] []
      [.hi, .hy, .lastCpl, .marks, .mem, .tl]) ∧
  (∀ (cfr : Unit) (s : State), Frame (.frameBoundary cfr) s [R.HK_ABORT_CNT, R.HK_IGN_REG_CNT, R.HK_IGN_SQ_CNT, R.HK_STAT, R.RF_REG_STATUS, R.RF_TDD_LAG, R.RF_TDD_LEAD, R.TL_FRAME_ERR] [R.DFE_CFR_STAT, R.RF_REG_DUTY, R.RF_REG_DUTY_CNT, R.RF_REG_PEAK, R.RF_REG_RANGE_HI, R.RF_REG_RANGE_LO, R.RF_REG_RMS, R.TL_NOW] []
      [.dfe, .hk, .marks, .raised, .rf, .tl]) ∧
  (∀ (stage : Fin 8) (slot : Fin 4096) (k : Fin 14) (work : List StageWork) (s : State), Frame (.pipelineStageStart stage slot k work) s [] [R.BF_LEASE_DROP_CNT, R.BF_SAT_CNT, R.DFE_CFR_EXH_CNT, R.DFE_DPD_SAT_CNT, R.DFE_SAT_CNT, R.FH_SECT_USED, R.RF_REG_PEAK_CNT] [R.FH_DROP_CNT]
      [.bf, .dfe, .fh, .free, .marks, .raised, .rf, .tl]) ∧
  (∀ (stage : Fin 6) (slot : Fin 4096) (k : Fin 14) (s : State), Frame (.stageDeadline stage slot k) s [] [R.TL_OVERRUN_CNT] [ringWord]
      [.bf, .fh, .marks, .raised, .tl]) ∧
  (∀ (slot : Fin 4096) (k : Fin 14) (s : State), Frame (.lockCheck slot k) s [R.TL_TURN_BLANK_CNT] [R.DFE_CAP_STATUS, R.TL_LATE_LO_CNT] [ringWord]
      [.bf, .dfe, .marks, .raised, .tl]) ∧
  (∀ (slot : Fin 4096) (k : Fin 14) (s : State), Frame (.symbolStart slot k) s [R.TL_FILL_BLANK_CNT] [R.DFE_CFR_CFG, R.DFE_DPD_STATUS, R.RF_PABIAS_CFG, R.RF_PABIAS_LVL, R.RF_PATH_SKIP_CNT, R.RF_PATH_STATE] [ringWord]
      [.bf, .cv, .dfe, .marks, .raised, .rf, .tl]) ∧
  (∀ (slot : Fin 4096) (k : Fin 14) (s : State), Frame (.symbolEnd slot k) s [] [R.RF_PABIAS_CFG, R.RF_PABIAS_LVL, R.RF_PATH_STATE] []
      [.bf, .dfe, .rf, .tl]) ∧
  (∀ (path : Fin 64) (tx : Bool) (s : State), Frame (.disarmGapExpiry path tx) s [] [] []
      [.tl]) ∧
  (∀ (s : State), Frame .pathArmStep s [] [R.RF_PABIAS_CFG, R.RF_PABIAS_LVL, R.RF_PATH_STATE] []
      [.dfe, .pm, .rf, .tl]) ∧
  (∀ (s : State), Frame .pathDisarmStep s [] [R.RF_PABIAS_CFG, R.RF_PABIAS_LVL, R.RF_PATH_STATE] []
      [.dfe, .pm, .rf, .tl]) ∧
  (∀ (kind : Fin 5) (s : State), Frame (.borrowIntervalExpiry kind) s [] [] []
      [.cv, .raised, .tl]) ∧
  (∀ (syn : Fin 5) (us : BitVec 8) (lock : Bool) (s : State), Frame (.synCalDone syn us lock) s [] [R.RF_SYN_STATUS] []
      [.raised, .rf]) ∧
  (∀ (syn : Fin 5) (s : State), Frame (.synCalTimeout syn) s [] [R.RF_SYN_STATUS] []
      [.raised, .rf]) ∧
  (∀ (syn : Fin 5) (s : State), Frame (.synLockLoss syn) s [] [R.RF_LO_UNLOCK_CNT, R.RF_PABIAS_CFG, R.RF_PABIAS_LVL, R.RF_PATH_STATE, R.RF_SYN_STATUS] []
      [.cv, .dfe, .marks, .pins, .raised, .rf, .tl]) ∧
  (∀ (tile : Fin 8) (tx : Bool) (s : State), Frame (.tddPinRise tile tx) s [] [] []
      [.pins]) ∧
  (∀ (tile : Fin 8) (tx : Bool) (s : State), Frame (.tddPinFall tile tx) s [] [] []
      [.pins]) ∧
  (∀ (path : Fin 64) (s : State), Frame (.pabiasRampStart path) s [] [] []
      [.rf]) ∧
  (∀ (path : Fin 64) (s : State), Frame (.pabiasChargeTrip path) s [] [R.RF_PABIAS_CFG, R.RF_PABIAS_LVL, R.RF_PATH_STATE] []
      [.dfe, .raised, .rf]) ∧
  (∀ (path : Fin 64) (i : BitVec 16) (q : BitVec 16) (s : State), Frame (.guardPeakClip path i q) s [] [R.RF_REG_PEAK_CNT] []
      [.dfe, .free, .marks, .raised, .rf]) ∧
  (∀ (path : Fin 64) (energy : BitVec 64) (s : State), Frame (.guardRmsMute path energy) s [] [R.RF_PABIAS_CFG, R.RF_PABIAS_LVL, R.RF_PATH_STATE, R.RF_REG_RMS_CNT] []
      [.dfe, .marks, .raised, .rf]) ∧
  (∀ (path : Fin 64) (s : State), Frame (.guardMuteEnd path) s [] [R.RF_PABIAS_CFG, R.RF_PABIAS_LVL, R.RF_PATH_STATE] []
      [.dfe, .rf]) ∧
  (∀ (path : Fin 64) (s : State), Frame (.guardDutyLimit path) s [] [R.RF_PABIAS_CFG, R.RF_PABIAS_LVL, R.RF_PATH_STATE, R.RF_REG_DUTY_CNT] []
      [.dfe, .marks, .raised, .rf]) ∧
  (∀ (q : Fin 4) (trig : Fin 6) (s : State), Frame (.rffeListStart q trig) s [] [] []
      [.rf]) ∧
  (∀ (q : Fin 4) (s : State), Frame (.rffeListEnd q) s [] [R.RF_RFFE_LATE_CNT] []
      [.marks, .raised, .rf]) ∧
  (∀ (cals : List SliceCal) (s : State), Frame (.foregroundCalDone cals) s [R.NVJ_STAT] [R.CV_ADC_MAP, R.CV_ADC_SPUR, R.CV_ADC_STATUS] [R.CV_SLICE_COEF, R.CV_SLICE_QUAL, R.CV_SLICE_TRIM]
      [.cv, .nvj, .raised]) ∧
  (∀ (worst : List (Fin 128 × BitVec 8)) (s : State), Frame (.dacTrimDone worst) s [] [R.CV_DAC_STATUS] []
      [.cv, .raised]) ∧
  (∀ (pair : Fin 72) (s : State), Frame (.rotSettleEnd pair) s [] [R.CV_ADC_STATUS] []
      [.cv]) ∧
  (∀ (pair : Fin 72) (ci : SliceCal) (cq : SliceCal) (s : State), Frame (.rotOfflineEnd pair ci cq) s [R.NVJ_STAT] [R.CV_ADC_SPUR, R.CV_ADC_STATUS] [R.CV_SLICE_COEF, R.CV_SLICE_QUAL, R.CV_SLICE_TRIM]
      [.cv, .nvj, .raised]) ∧
  (∀ (pair : Fin 72) (s : State), Frame (.rotShadowStart pair) s [] [R.CV_ADC_STATUS] []
      [.cv]) ∧
  (∀ (pair : Fin 72) (usable : Bool) (ci : SliceCal) (di : BitVec 16 × BitVec 16 × BitVec 16) (ri : BitVec 16 × BitVec 16 × BitVec 16) (cq : SliceCal) (dq : BitVec 16 × BitVec 16 × BitVec 16) (rq : BitVec 16 × BitVec 16 × BitVec 16) (s : State), Frame (.rotShadowEnd pair usable ci di ri cq dq rq) s [] [R.CV_ADC_STATUS, R.CV_GATE_FAIL_CNT] [R.CV_SLICE_COEF, R.CV_SLICE_TRIM]
      [.cv, .marks, .raised]) ∧
  (∀ (pair : Fin 72) (gi : Unit) (oi : Unit) (gq : Unit) (oq : Unit) (s : State), Frame (.sliceHandover pair gi oi gq oq) s [] [R.CV_ADC_MAP, R.CV_ADC_SPUR, R.CV_ADC_STATUS] [R.CV_SLICE_QUAL]
      [.cv, .raised]) ∧
  (∀ (path : Fin 64) (imb : BitVec 16 × BitVec 16) (dc : BitVec 16 × BitVec 16) (s : State), Frame (.rxqStatsDone path imb dc) s [] [] []
      [.cv, .raised]) ∧
  (∀ (path : Fin 64) (s : State), Frame (.rxqCorrectionApply path) s [] [R.CV_RXQ] []
      [.cv]) ∧
  (∀ (path : Fin 64) (dci : BitVec 18) (dcq : BitVec 18) (eps : BitVec 18) (phi : BitVec 18) (leak : BitVec 8) (img : BitVec 8) (s : State), Frame (.txqCalStepDone path dci dcq eps phi leak img) s [] [R.CV_TXQ_QUAL] []
      [.cv, .raised, .tl]) ∧
  (∀ (path : Fin 64) (s : State), Frame (.txqValuesApply path) s [] [R.CV_TXQ_DC, R.CV_TXQ_IMB] []
      [.cv]) ∧
  (∀ (tile : Fin 8) (dc : BitVec 16) (imb : BitVec 16) (dev : BitVec 16) (vals : List Nat) (s : State), Frame (.orxCalStepDone tile dc imb dev vals) s [] [R.CV_ORX_QUAL] []
      [.cv, .raised, .tl]) ∧
  (∀ (pos : Fin 16) (pairs : List PairEst) (s : State), Frame (.acalStepDone pos pairs) s [R.CV_ACAL_STATUS] [] []
      [.cv, .hy, .nvc, .tl]) ∧
  (∀ (rows : Unit) (drop : Unit) (db : Unit) (deg : Unit) (words : Unit) (lost : Unit) (s : State), Frame (.acalSolveDone rows drop db deg words lost) s [R.CV_ACAL_RESID, R.CV_ACAL_STATUS, R.HI_INFL_TOTAL, R.NVJ_STAT] [R.HI_CMP_LOST_CNT, R.HI_CTX_STAT, R.HI_RING_PROD, R.NVC_CORE_STAT, R.NVC_JOB_DONE] [R.CV_ACBANK]
      [.cv, .free, .hi, .hy, .lastCpl, .marks, .mem, .nvc, .nvj, .raised]) ∧
  (∀ (s : State), Frame .acalResultWrite s [R.CV_ACAL_STATUS, R.HI_INFL_TOTAL, R.NVJ_STAT] [R.HI_CMP_LOST_CNT, R.HI_CTX_STAT, R.HI_RING_PROD] [R.CV_ACBANK]
      [.cv, .hi, .hy, .lastCpl, .marks, .mem, .nvj, .raised]) ∧
  (∀ (path : Fin 64) (at_ : BitVec 22) (job : BitVec 16) (s : State), Frame (.dpdLoaderStart path at_ job) s [] [R.DFE_DPD_STATUS] []
      [.dfe]) ∧
  (∀ (s : State), Frame .dpdLoaderDone s [R.HI_INFL_TOTAL] [R.DFE_DPD_STATUS, R.HI_CMP_LOST_CNT, R.HI_CTX_STAT, R.HI_RING_PROD, R.NVC_CORE_STAT, R.NVC_JOB_DONE] [R.DFE_DPD_BANK]
      [.dfe, .hi, .hy, .lastCpl, .marks, .mem, .nvc]) ∧
  (∀ (tile : Fin 8) (samples : List (BitVec 16 × BitVec 16) × List (List (BitVec 16 × BitVec 16))) (s : State), Frame (.obsCaptureEnd tile samples) s [] [R.DFE_CAP_STATUS] []
      [.dfe, .raised]) ∧
  (∀ (tile : Fin 8) (s : State), Frame (.captureDrainEnd tile) s [R.HI_INFL_TOTAL] [R.DFE_CAP_STATUS, R.HI_CMP_LOST_CNT, R.HI_CTX_STAT, R.HI_RING_PROD] []
      [.dfe, .hi, .hy, .lastCpl, .marks, .mem, .nvc, .raised]) ∧
  (∀ (job : BitVec 16) (result : Unit) (at_ : BitVec 22) (bank : Unit) (nmse : Unit) (aclr : Unit) (gain : Unit) (s : State), Frame (.dpdTrainJobEnd job result at_ bank nmse aclr gain) s [] [R.DFE_DPD_QUAL, R.DFE_DPD_STATUS, R.NVC_CORE_STAT, R.NVC_JOB_DONE] []
      [.dfe, .hy, .mem, .nvc, .raised]) ∧
  (∀ (region : Fin 64) (s : State), Frame (.bfRegionPub region) s [] [R.BF_REGION_STAT] []
      []) ∧
  (∀ (region : Fin 64) (s : State), Frame (.drainingPageFree region) s [] [R.BF_REGION_STAT] []
      []) ∧
  (∀ (ctx : Option (Fin 8)) (addr : BitVec 22) (data : List Byte) (s : State), Frame (.weightWrite ctx addr data) s [R.HI_DECODE_ERR_CNT] [R.BF_WRITE_BLOCK_CNT] []
      [.bf, .marks, .mem, .raised]) ∧
  (∀ (slot : Fin 4096) (tones : Unit) (s : State), Frame (.srsCaptureDone slot tones) s [] [R.NVC_CORE_STAT, R.NVC_TRIG_DROP_CNT] []
      [.bf, .free, .hy, .marks, .mem, .nvc, .raised]) ∧
  (∀ (job : BitVec 16) (bad : Unit) (vecs : Unit) (s : State), Frame (.recipJobEnd job bad vecs) s [R.BF_RECIP_BADGRP_CNT] [R.BF_REGION_STAT, R.NVC_CORE_STAT, R.NVC_JOB_DONE] []
      [.marks, .mem, .nvc, .raised]) ∧
  (∀ (region : Fin 64) (s : State), Frame (.regionScrubStart region) s [R.BF_STATUS] [R.BF_REGION_STAT] []
      [.bf]) ∧
  (∀ (region : Fin 64) (s : State), Frame (.regionScrubDone region) s [R.BF_FREE_VEC, R.BF_STATUS, R.HI_INFL_TOTAL] [R.BF_REGION_BASE, R.BF_REGION_CFG, R.BF_REGION_STAT, R.HI_CMP_LOST_CNT, R.HI_CTX_STAT, R.HI_RING_PROD] []
      [.bf, .hi, .hy, .lastCpl, .marks, .mem, .raised]) ∧
  (∀ (region : Fin 64) (s : State), Frame (.shrinkScrubDone region) s [R.BF_FREE_VEC, R.BF_STATUS, R.HI_INFL_TOTAL] [R.BF_REGION_STAT, R.HI_CMP_LOST_CNT, R.HI_CTX_STAT, R.HI_RING_PROD] []
      [.bf, .hi, .hy, .lastCpl, .marks, .mem]) ∧
  (∀ (core : Fin 16) (o0 : Op0) (o1 : OpM) (o2 : OpM) (o3 : Op3) (fe : BitVec 32) (be : BitVec 32) (s : State), Frame (.bundleIssue core o0 o1 o2 o3 fe be) s [] [R.BF_REGION_STAT, R.NVC_CORE_FLAGS, R.NVC_CORE_STAT, R.NVC_JOB_DONE, R.NVC_PERF_OVF] [R.NVC_MBX_OUT, nvCounter, fun i j => nvCounter i j + 4]
      [.free, .marks, .mem, .nvc, .raised]) ∧
  (∀ (b : Fin 8) (s : State), Frame (.barrierRelease b) s [] [] []
      [.nvc]) ∧
  (∀ (core : Fin 16) (s : State), Frame (.mailboxWaitRelease core) s [] [] []
      [.nvc]) ∧
  (∀ (core : Fin 16) (slot : Fin 4) (s : State), Frame (.streamDescriptorDone core slot) s [R.HI_DECODE_ERR_CNT] [R.BF_WRITE_BLOCK_CNT, R.NVC_CORE_FLAGS] []
      [.bf, .marks, .mem, .nvc, .raised]) ∧
  (∀ (job : BitVec 16) (s : State), Frame (.controlStepDone job) s [] [R.NVC_CORE_STAT, R.NVC_JOB_DONE] []
      [.nvc]) ∧
  (∀ (s : State), Frame .jobRegister s [] [] []
      [.nvc]) ∧
  (∀ (grp : Fin 2) (s : State), Frame (.jobDispatch grp) s [] [R.NVC_CORE_STAT, R.NVC_WDOG] [nvCounter, fun i j => nvCounter i j + 4]
      [.free, .nvc]) ∧
  (∀ (core : Fin 16) (s : State), Frame (.nvcWatchdogExpiry core) s [] [R.NVC_CORE_STAT] []
      [.nvc, .raised]) ∧
  (∀ (grp : Fin 3) (s : State), Frame (.corePause grp) s [R.NVC_STATUS] [R.NVC_CORE_STAT] []
      [.nvc, .raised]) ∧
  (∀ (core : Fin 16) (s : State), Frame (.coreResume core) s [R.NVC_STATUS] [R.NVC_CORE_STAT] []
      [.nvc, .pm, .raised]) ∧
  (∀ (core : Fin 16) (s : State), Frame (.coreRevokeScrubDone core) s [R.HI_INFL_TOTAL, R.NVC_STATUS] [R.HI_CMP_LOST_CNT, R.HI_CTX_STAT, R.HI_RING_PROD, R.NVC_CORE_STAT] []
      [.hi, .hy, .lastCpl, .marks, .mem, .nvc, .raised]) ∧
  (∀ (core : Fin 16) (which : Fin 6) (n : BitVec 32) (s : State), Frame (.nvcCntWrap core which n) s [] [R.NVC_PERF_OVF] [nvCounter, fun i j => nvCounter i j + 4]
      [.marks, .raised]) ∧
  (∀ (n : Fin 16) (s : State), Frame (.losDeclared n) s [R.LN_STATUS, R.TS_STATUS] [R.LN_GROUP_STAT, R.LN_LOS_CNT, R.LN_STATE] []
      [.ln, .marks, .raised]) ∧
  (∀ (n : Fin 16) (s : State), Frame (.signalPresent n) s [R.LN_STATUS] [R.LN_STATE] []
      []) ∧
  (∀ (n : Fin 16) (peak : Fin 21) (eye : BitVec 8) (s : State), Frame (.cdrLock n peak eye) s [] [R.LN_CTLE, R.LN_STATE] []
      []) ∧
  (∀ (n : Fin 16) (s : State), Frame (.cdrLockLoss n) s [R.LN_STATUS, R.TS_STATUS] [R.LN_GROUP_STAT, R.LN_STATE] []
      [.ln, .raised]) ∧
  (∀ (n : Fin 16) (s : State), Frame (.blockLockGained n) s [R.LN_STATUS, R.TS_STATUS] [R.LN_GROUP_STAT, R.LN_STATE] []
      [.ln, .raised]) ∧
  (∀ (n : Fin 16) (bad : BitVec 16) (s : State), Frame (.blockLockLost n bad) s [R.LN_STATUS, R.TS_STATUS] [R.LN_GROUP_STAT, R.LN_HDR_ERR_CNT, R.LN_LOCK_LOSS_CNT, R.LN_STATE] []
      [.ln, .marks, .raised]) ∧
  (∀ (n : Fin 16) (s : State), Frame (.huntWindowExpiry n) s [R.LN_STATUS, R.TS_STATUS] [R.LN_GROUP_STAT, R.LN_STATE] []
      [.ln, .raised]) ∧
  (∀ (n : Fin 16) (s : State), Frame (.huntStart n) s [R.LN_STATUS, R.TS_STATUS] [R.LN_GROUP_STAT, R.LN_STATE] []
      [.ln, .raised]) ∧
  (∀ (n : Fin 16) (s : State), Frame (.alignmentMarkerLock n) s [R.LN_STATUS, R.TS_STATUS] [R.LN_GROUP_STAT, R.LN_STATE] []
      [.ln, .raised]) ∧
  (∀ (n : Fin 16) (line : List Bool) (s : State), Frame (.galeSyncBlock n line) s [R.LN_STATUS, R.TS_STATUS] [R.LN_GROUP_STAT, R.LN_HDR_ERR_CNT, R.LN_RESYNC_CNT, R.LN_STATE, R.LN_STUFF_ERR_CNT] []
      [.ln, .marks, .raised]) ∧
  (∀ (n : Fin 16) (line : List Bool) (skew : BitVec 8) (s : State), Frame (.galeAlignBlock n line skew) s [R.LN_STATUS, R.TS_STATUS] [R.LN_GROUP_STAT, R.LN_HDR_ERR_CNT, R.LN_STATE, R.LN_STUFF_ERR_CNT] []
      [.ln, .marks, .raised]) ∧
  (∀ (n : Fin 16) (line : List Bool) (s : State), Frame (.galeSomBlock n line) s [] [R.LN_FRAME_ERR_CNT, R.LN_HDR_ERR_CNT, R.LN_STUFF_ERR_CNT] []
      [.ln, .marks]) ∧
  (∀ (n : Fin 16) (line : List Bool) (s : State), Frame (.galeDataBlock n line) s [] [R.LN_FRAME_ERR_CNT, R.LN_HDR_ERR_CNT, R.LN_STUFF_ERR_CNT] []
      [.ln, .marks]) ∧
  (∀ (n : Fin 16) (line : List Bool) (s : State), Frame (.galeIdleBlock n line) s [] [R.LN_FRAME_ERR_CNT, R.LN_HDR_ERR_CNT, R.LN_STUFF_ERR_CNT] []
      [.ln, .marks]) ∧
  (∀ (n : Fin 16) (line : List Bool) (s : State), Frame (.galeAbortBlock n line) s [] [R.LN_FRAME_ERR_CNT, R.LN_HDR_ERR_CNT, R.LN_STUFF_ERR_CNT] []
      [.ln, .marks]) ∧
  (∀ (n : Fin 16) (s : State), Frame (.galeSyncSend n) s [] [] []
      [.ln]) ∧
  (∀ (n : Fin 16) (s : State), Frame (.galeAlignSend n) s [] [] []
      [.ln]) ∧
  (∀ (g : Fin 4) (errs : BitVec 10) (s : State), Frame (.fecCodeword g errs) s [] [R.LN_FEC_CORR_CNT, R.LN_FEC_UNCORR_CNT] []
      [.ln, .marks, .raised]) ∧
  (∀ (g : Fin 4) (s : State), Frame (.highBer g) s [R.LN_STATUS, R.TS_STATUS] [R.LN_GROUP_STAT, R.LN_STATE] []
      [.ln, .raised]) ∧
  (∀ (g : Fin 4) (s : State), Frame (.lanePllUnlock g) s [R.LN_STATUS, R.TS_STATUS] [R.LN_GROUP_STAT, R.LN_STATE] []
      [.free, .ln, .raised]) ∧
  (∀ (n : Fin 16) (high : Bool) (s : State), Frame (.ctleLimitTimeout n high) s [] [R.LN_CTLE] []
      [.raised]) ∧
  (∀ (n : Fin 16) (s : State), Frame (.lanePowerExitDone n) s [R.HI_INFL_TOTAL, R.LN_STATUS, R.TS_STATUS] [R.HI_CMP_LOST_CNT, R.HI_CTX_STAT, R.HI_RING_PROD, R.LN_CTLE, R.LN_GROUP_STAT, R.LN_STATE] []
      [.hi, .hy, .lastCpl, .ln, .marks, .mem, .pm, .raised]) ∧
  (∀ (g : Fin 4) (s : State), Frame (.groupChangeApply g) s [R.HI_INFL_TOTAL, R.LN_STATUS, R.PM_DOM_STAT, R.TS_STATUS] [R.HI_CMP_LOST_CNT, R.HI_CTX_STAT, R.HI_RING_PROD, R.LN_CTLE, R.LN_GROUP_CFG, R.LN_GROUP_STAT, R.LN_STATE] []
      [.hi, .hy, .lastCpl, .ln, .marks, .mem, .pm, .raised]) ∧
  (∀ (n : Fin 16) (s : State), Frame (.patternSync n) s [] [R.LN_PAT_STAT] []
      [.raised]) ∧
  (∀ (n : Fin 16) (bits : BitVec 48) (errs : BitVec 32) (s : State), Frame (.patternSyncLoss n bits errs) s [] [R.LN_PAT_BITS, fun i => R.LN_PAT_BITS i + 4, R.LN_PAT_ERR_CNT, R.LN_PAT_STAT] []
      [.marks, .raised]) ∧
  (∀ (n : Fin 16) (errs : BitVec 32) (s : State), Frame (.lnCntWrap n errs) s [] [R.LN_PAT_BITS, fun i => R.LN_PAT_BITS i + 4, R.LN_PAT_ERR_CNT, R.LN_PAT_STAT] []
      [.marks, .raised]) ∧
  (∀ (n : Fin 16) (s : State), Frame (.lnPatStatClr n) s [] [R.LN_PAT_BITS, fun i => R.LN_PAT_BITS i + 4, R.LN_PAT_ERR_CNT, R.LN_PAT_STAT] []
      []) ∧
  (∀ (g : Fin 4) (f : EthFrame) (s : State), Frame (.ethernetFrame g f) s [] [R.FH_PORT_STAT, R.FH_RX_FRAMES, fun i => R.FH_RX_FRAMES i + 4, R.FH_TX_FRAMES, fun i => R.FH_TX_FRAMES i + 4] [R.FH_DROP_CNT]
      [.fh, .marks, .raised]) ∧
  (∀ (g : Fin 4) (m : UMsg) (s : State), Frame (.uPlaneMessage g m) s [] [R.FH_SECT_USED] [R.FH_DROP_CNT, R.FH_FLOW]
      [.fh, .marks, .raised]) ∧
  (∀ (g : Fin 4) (m : CMsg) (s : State), Frame (.cPlaneMessage g m) s [] [R.BF_LEASE_DROP_CNT, R.BF_POOL_FULL_CNT, R.BF_REGION_STAT, R.BF_WEIGHT_LATE_CNT, R.FH_SECT_USED] [R.FH_DROP_CNT, R.FH_FLOW]
      [.bf, .fh, .free, .marks, .mem, .raised]) ∧
  (∀ (g : Fin 4) (id : BitVec 8) (t2 : BitVec 32) (s : State), Frame (.delayRequest g id t2) s [] [] [R.FH_DROP_CNT]
      [.fh, .marks, .raised]) ∧
  (∀ (g : Fin 4) (id : BitVec 8) (s : State), Frame (.remoteDelayRequest g id) s [] [] [R.FH_DROP_CNT]
      [.fh, .marks, .raised]) ∧
  (∀ (g : Fin 4) (id : BitVec 8) (t2 : BitVec 32) (comp : BitVec 32) (s : State), Frame (.delayResponse g id t2 comp) s [R.HI_INFL_TOTAL] [R.HI_CMP_LOST_CNT, R.HI_CTX_STAT, R.HI_RING_PROD] []
      [.fh, .hi, .hy, .lastCpl, .marks, .mem, .raised]) ∧
  (∀ (g : Fin 4) (num : BitVec 8) (k : PtpKind) (s : State), Frame (.ptpMessage g num k) s [] [] []
      [.fh, .ts]) ∧
  (∀ (g : Fin 4) (ql : BitVec 4) (s : State), Frame (.esmcFrame g ql) s [R.TS_STATUS, R.TS_SYNCE_CFG] [] []
      [.fh, .ts]) ∧
  (∀ (g : Fin 4) (len : BitVec 14) (s : State), Frame (.arpOrNdFrame g len) s [] [] [R.FH_DROP_CNT]
      [.fh, .marks, .raised]) ∧
  (∀ (g : Fin 4) (s : State), Frame (.otherIpFrame g) s [] [] []
      [.fh]) ∧
  (∀ (g : Fin 4) (slot : Fin 4096) (k : Fin 14) (n : Nat) (s : State), Frame (.hardLaunch g slot k n) s [] [R.FH_PORT_STAT, R.FH_RX_FRAMES, fun i => R.FH_RX_FRAMES i + 4, R.FH_TX_FRAMES, fun i => R.FH_TX_FRAMES i + 4] [R.FH_FLOW]
      [.fh, .ln, .marks, .raised]) ∧
  (∀ (g : Fin 4) (s : State), Frame (.egressFrameStart g) s [] [R.FH_PORT_STAT, R.FH_RX_FRAMES, fun i => R.FH_RX_FRAMES i + 4, R.FH_TX_FRAMES, fun i => R.FH_TX_FRAMES i + 4] [R.FH_FLOW]
      [.fh, .ln, .marks, .raised]) ∧
  (∀ (g : Fin 4) (slot : Fin 4096) (k : Fin 14) (s : State), Frame (.firmLaunchExpiry g slot k) s [] [] [R.FH_DROP_CNT]
      [.fh, .marks, .raised]) ∧
  (∀ (g : Fin 4) (slot : Fin 4096) (k : Fin 14) (s : State), Frame (.hardLaunchExpiry g slot k) s [] [] [R.FH_DROP_CNT]
      [.fh, .marks, .raised]) ∧
  (∀ (g : Fin 4) (tx : Bool) (s : State), Frame (.fhCntWrap g tx) s [] [R.FH_PORT_STAT, R.FH_RX_FRAMES, fun i => R.FH_RX_FRAMES i + 4, R.FH_TX_FRAMES, fun i => R.FH_TX_FRAMES i + 4] []
      [.marks, .raised]) ∧
  (∀ (s : State), Frame .tsCtrlStep s [R.TS_CNT, R.TS_CNT + 4, R.TS_STATUS, R.TS_STEP_REFUSED_CNT] [] []
      [.marks, .raised]) ∧
  (∀ (d : Fin 2) (s : State), Frame (.tsCtrlSel d) s [R.TS_CNT, R.TS_CNT + 4, R.TS_CTRL, R.TS_STATUS] [R.TS_DOM_FREQ, R.TS_DOM_STAT, R.TS_DOM_VOFS, fun i => R.TS_DOM_VOFS i + 4] []
      [.free, .raised, .ts]) ∧
  (∀ (d : Fin 2) (e : BitVec 32) (s : State), Frame (.tsDomOfsWrite d e) s [] [R.TS_SAMPLE_REJ_CNT] []
      [.marks, .ts]) ∧
  (∀ (d : Fin 2) (s : State), Frame (.servoUpdate d) s [R.TS_CNT, R.TS_CNT + 4, R.TS_STATUS] [R.TS_DOM_FREQ, R.TS_DOM_LAST, R.TS_DOM_STAT, R.TS_DOM_VOFS, fun i => R.TS_DOM_VOFS i + 4, R.TS_SAMPLE_REJ_CNT] []
      [.free, .marks, .raised, .ts]) ∧
  (∀ (s : State), Frame .incRecompute s [R.TS_INC_CUR, R.TS_INC_CUR + 4, R.TS_PLL_STEER] [] []
      [.free, .ts]) ∧
  (∀ (d : Fin 2) (s : State), Frame (.holdoverTimeout d) s [R.TS_CNT, R.TS_CNT + 4, R.TS_CTRL, R.TS_STATUS] [R.TS_DOM_FREQ, R.TS_DOM_STAT, R.TS_DOM_VOFS, fun i => R.TS_DOM_VOFS i + 4] []
      [.free, .raised, .ts]) ∧
  (∀ (s : State), Frame .secondEdge s [R.NVJ_TAI_SHADOW, R.NVJ_TAI_SHADOW + 4, R.TS_PPS_NEXT] [] []
      [.hy]) ∧
  (∀ (s : State), Frame .ppsOutRise s [] [] []
      [.pins]) ∧
  (∀ (s : State), Frame .ppsOutFall s [] [] []
      [.pins]) ∧
  (∀ (ts : BitVec 32) (s : State), Frame (.ppsInEdge ts) s [R.TS_PPS_GLITCH_CNT, R.TS_PPS_IN_TS, R.TS_STATUS] [R.TS_SAMPLE_REJ_CNT] []
      [.marks, .ts]) ∧
  (∀ (s : State), Frame .ppsInTimeout s [R.TS_STATUS] [] []
      [.raised, .ts]) ∧
  (∀ (meas : BitVec 32) (s : State), Frame (.synceGateEnd meas) s [R.TS_STATUS, R.TS_SYNCE_MEAS] [R.TS_DOM_FREQ, R.TS_DOM_STAT, R.TS_DOM_VOFS, fun i => R.TS_DOM_VOFS i + 4] []
      [.free, .raised, .ts]) ∧
  (∀ (s : State), Frame .refclkLoss s [R.TS_STATUS] [] []
      [.raised]) ∧
  (∀ (s : State), Frame .refclkReturn s [R.TS_STATUS] [] []
      []) ∧
  (∀ (s : State), Frame .esmcSend s [] [] [R.FH_DROP_CNT]
      [.fh, .free, .marks, .raised, .ts]) ∧
  (∀ (att : Attachment) (ring : Fin 32) (v : Word) (s : State), PartFrame (.ringProdWrite att ring v) s [.dfe, .dma, .free, .hi, .marks, .mc, .mem, .nvj, .pm, .raised, .tl, .ts]) ∧
  (∀ (att : Attachment) (ring : Fin 32) (v : Word) (s : State), PartFrame (.ringConsWrite att ring v) s [.dfe, .dma, .free, .hi, .marks, .mc, .mem, .nvj, .pm, .raised, .tl, .ts]) ∧
  (∀ (att : Attachment) (ring : Fin 32) (v : Word) (s : State), PartFrame (.ringDataWrite att ring v) s [.dfe, .dma, .free, .hi, .marks, .mc, .mem, .nvj, .pm, .raised, .tl, .ts]) ∧
  (∀ (att : Attachment) (ring : Fin 32) (s : State), Frame (.ringDataRead att ring) s [R.HI_DECODE_ERR_CNT, R.HI_UART_RXD, R.HK_FIFO_LVL, R.PM_I2C_RXD] [R.HI_DBG_DENY_CNT, R.HK_FIFO_RD, R.HK_FIFO_RD_HI] []
      [.free, .hi, .hk, .lastRead, .latch, .marks, .raised]) ∧
  (∀ (att : Attachment) (ring : Fin 32) (v : Word) (s : State), PartFrame (.ringEnable att ring v) s [.dfe, .dma, .free, .hi, .marks, .mc, .mem, .nvj, .pm, .raised, .tl, .ts]) ∧
  (∀ (c : Fin 8) (s : State), Frame (.commandConsume c) s [R.HI_INFL_TOTAL] [R.HI_CMD_BAD_CNT, R.HI_CMP_LOST_CNT, R.HI_CTX_STAT, R.HI_RING_CONS, R.HI_RING_PROD, R.HI_RING_STAT] []
      [.hi, .hy, .lastCpl, .marks, .mem]) ∧
  (∀ (s : State), Frame .eventRecordWrite s [] [R.HI_ALERT_SUM, R.HI_EVT_LOST_CNT, R.HI_RING_PROD] [R.HI_EVT_STICKY]
      [.hi, .marks, .mem, .raised]) ∧
  (∀ (ring : Fin 32) (s : State), Frame (.msixItimeExpiry ring) s [] [] []
      [.hi]) ∧
  (∀ (att : Attachment × Width) (c : Fin 8) (ofs : BitVec 12) (s : State), Frame (.debugWindowRead att c ofs) s [R.HI_DECODE_ERR_CNT, R.HI_UART_RXD, R.HK_FIFO_LVL, R.PM_I2C_RXD] [R.HI_DBG_DENY_CNT, R.HK_FIFO_RD, R.HK_FIFO_RD_HI] []
      [.free, .hi, .hk, .lastRead, .latch, .marks, .raised]) ∧
  (∀ (att : Attachment × Width) (c : Fin 8) (ofs : BitVec 12) (v : Word) (s : State), PartFrame (.debugWindowWrite att c ofs v) s [.dfe, .dma, .free, .hi, .marks, .mc, .mem, .nvj, .pm, .raised, .tl, .ts]) ∧
  (∀ (g : Fin 4) (src : BitVec 48) (vlan : BitVec 12) (b : List Byte) (s : State), PartFrame (.inbandFrame g src vlan b) s [.dfe, .dma, .fh, .free, .hi, .hk, .latch, .marks, .mc, .mem, .nvj, .pm, .raised, .tl, .ts]) ∧
  (∀ (att : Attachment) (i : Fin 8) (v : Word) (s : State), PartFrame (.alertSumClear att i v) s [.dfe, .dma, .free, .hi, .marks, .mc, .mem, .nvj, .pm, .raised, .tl, .ts]) ∧
  (∀ (s : State), Frame .booksAudit s [R.BF_FREE_VEC, R.HI_INFL_TOTAL, R.TL_STATUS] [R.FH_RESV, R.FH_SECT_USED, R.HI_CTX_STAT, R.TL_PART_USED] []
      [.free, .hy, .raised]) ∧
  (∀ (c : Byte) (s : State), Frame (.uartRxCharacter c) s [R.HI_UART_OVF_CNT, R.HI_UART_RXD, R.PM_I2C_RXD] [] []
      [.hi, .marks]) ∧
  (∀ (s : State), Frame .uartRxdRead s [R.HI_UART_RXD, R.PM_I2C_RXD] [] []
      [.hi, .lastRead]) ∧
  (∀ (nak : Option (BitVec 8)) (data : List Byte) (s : State), Frame (.i2cTransferDone nak data) s [R.HI_INFL_TOTAL, R.HI_UART_RXD, R.PM_I2C_NAK_CNT, R.PM_I2C_RXD] [R.HI_CMP_LOST_CNT, R.HI_CTX_STAT, R.HI_RING_PROD] []
      [.hi, .hy, .lastCpl, .marks, .mem]) ∧
  (∀ (s : State), Frame .i2cRxdRead s [R.HI_UART_RXD, R.PM_I2C_RXD] [] []
      [.hi, .lastRead]) ∧
  (∀ (k : Fin 32) (s : State), Frame (.gpioTriggerEdge k) s [R.HK_ABORT_CNT, R.HK_IGN_REG_CNT, R.HK_IGN_SQ_CNT, R.HK_STAT, R.PM_GPIO_IN, R.PM_MODE] [] []
      [.hk, .marks, .pm, .raised]) ∧
  (∀ (ch : Fin 2) (rt : Bool) (s : State), Frame (.refreshDue ch rt) s [R.MC_SPLIT_CNT] [R.MC_REFRESH] []
      [.marks, .mc]) ∧
  (∀ (ch : Fin 2) (s : State), Frame (.refreshIssue ch) s [] [R.MC_REFRESH] []
      [.mc]) ∧
  (∀ (tile : Fin 8) (ns : BitVec 16) (s : State), Frame (.rtBurstGrant tile ns) s [R.HI_DECODE_ERR_CNT, R.MC_PERF_OVF, R.MC_RT_LATE_CNT, R.MC_SPLIT_CNT] [R.MC_PORT_STAT, R.MC_REFRESH] [fun i j => mcCounter i (j = 1), fun i j => mcCounter i (j = 1) + 4]
      [.dfe, .marks, .mc, .mem, .raised]) ∧
  (∀ (ch : Fin 2) (reqs : List MemReq) (ecc : Fin 3) (s : State), Frame (.portPieceGrant ch reqs ecc) s [R.HI_DECODE_ERR_CNT, R.MC_ECC_CORR_CNT, R.MC_ECC_UNCORR_CNT, R.MC_PERF_OVF] [R.MC_PORT_STAT, R.MC_REFRESH] [fun i j => mcCounter i (j = 1), fun i j => mcCounter i (j = 1) + 4]
      [.free, .marks, .mc, .mem, .raised]) ∧
  (∀ (ch : Fin 2) (s : State), Frame (.dqsGatherStart ch) s [R.MC_STATUS] [] []
      [.mc]) ∧
  (∀ (ch : Fin 2) (ok : Bool) (ps : BitVec 8) (s : State), Frame (.dqsGatherEnd ch ok ps) s [R.MC_STATUS] [] []
      [.mc, .raised]) ∧
  (∀ (sp : Fin 3) (s : State), Frame (.setpointChange sp) s [R.MC_GATHER_DEFER_CNT, R.MC_STATUS] [] []
      [.marks, .mc]) ∧
  (∀ (s : State), Frame .setpointChangeDone s [R.MC_STATUS] [R.MC_PORT_CFG] []
      [.free, .mc, .raised]) ∧
  (∀ (port : Fin 8) (wr : Bool) (n : BitVec 12) (s : State), Frame (.mcCntWrap port wr n) s [R.MC_PERF_OVF] [] [fun i j => mcCounter i (j = 1), fun i j => mcCounter i (j = 1) + 4]
      [.marks, .raised]) ∧
  (∀ (ch : Fin 16) (sameCycle : Bool) (s : State), Frame (.dmaChDoorbell ch sameCycle) s [R.HI_DECODE_ERR_CNT] [R.DMA_CH_CUR, fun i => R.DMA_CH_CUR i + 4, R.DMA_CH_STAT] []
      [.dma, .marks, .raised]) ∧
  (∀ (ch : Fin 16) (s : State), Frame (.dmaChannelEnable ch) s [R.HI_DECODE_ERR_CNT] [R.DMA_CH_CFG, R.DMA_CH_CUR, fun i => R.DMA_CH_CUR i + 4, R.DMA_CH_STAT] []
      [.dma, .marks, .raised]) ∧
  (∀ (ch : Fin 16) (s : State), Frame (.dmaChannelDisable ch) s [] [R.DMA_CH_CFG, R.DMA_CH_STAT] []
      [.dma, .raised]) ∧
  (∀ (ch : Fin 16) (s : State), Frame (.dmaChannelReset ch) s [R.DMA_STATUS] [R.DMA_CH_CFG, R.DMA_CH_STAT] []
      [.dma]) ∧
  (∀ (s : State), Frame .dmaBurstReadStart s [R.DMA_STATUS, R.HI_DECODE_ERR_CNT] [R.DMA_CH_CUR, fun i => R.DMA_CH_CUR i + 4, R.DMA_CH_STAT] []
      [.dma, .marks, .raised]) ∧
  (∀ (slot : Fin 64) (hostErr : Bool) (s : State), Frame (.dmaBurstFilled slot hostErr) s [R.DMA_STATUS, R.HI_DECODE_ERR_CNT, R.HI_UART_RXD, R.HK_FIFO_LVL, R.PM_I2C_RXD] [R.DMA_CH_STAT, R.HK_FIFO_RD, R.HK_FIFO_RD_HI] []
      [.dma, .hi, .hk, .marks, .raised]) ∧
  (∀ (hostErr : Bool) (s : State), Frame (.dmaBurstWrite hostErr) s [R.DMA_STATUS, R.HI_DECODE_ERR_CNT] [R.BF_WRITE_BLOCK_CNT, R.DMA_CH_BYTES, fun i => R.DMA_CH_BYTES i + 4, R.DMA_CH_STAT] []
      [.bf, .dma, .hi, .marks, .mem, .raised]) ∧
  (∀ (ch : Fin 16) (s : State), Frame (.dmaDescriptorComplete ch) s [R.HI_DECODE_ERR_CNT] [R.BF_WRITE_BLOCK_CNT, R.DMA_CH_CUR, fun i => R.DMA_CH_CUR i + 4, R.DMA_CH_ERR_CNT, R.DMA_CH_STAT, R.HI_RING_CONS, R.HI_RING_STAT] []
      [.dma, .hi, .marks, .mem, .nvc, .raised]) ∧
  (∀ (line : Fin 8) (s : State), Frame (.dmaRequestAssert line) s [] [R.DMA_CH_STAT] []
      [.dma]) ∧
  (∀ (ch : Fin 16) (n : BitVec 13) (s : State), Frame (.dmaCntWrap ch n) s [] [R.DMA_CH_BYTES, fun i => R.DMA_CH_BYTES i + 4, R.DMA_CH_STAT] []
      [.marks, .raised]) ∧
  (∀ (squall : Bool) (s : State), Frame (.hkTimerExpiry squall) s [R.HK_ABORT_CNT, R.HK_IGN_REG_CNT, R.HK_IGN_SQ_CNT, R.HK_STAT] [] []
      [.hk, .marks, .raised]) ∧
  (∀ (s : State), Frame .hkStartupDone s [R.HK_STAT] [] []
      []) ∧
  (∀ (raw : BitVec 24) (s : State), Frame (.hkConversionDone raw) s [R.HI_INFL_TOTAL, R.HK_FIFO_LVL, R.HK_FIFO_OVF_CNT, R.HK_STAT, R.NVJ_STAT] [R.HI_CMP_LOST_CNT, R.HI_CTX_STAT, R.HI_RING_PROD, R.HK_DATA, R.HK_FIFO_RD, R.HK_FIFO_RD_HI] []
      [.free, .hi, .hk, .hy, .lastCpl, .marks, .mem, .nvj, .raised]) ∧
  (∀ (squall : Bool) (s : State), Frame (.hkFifoRdPop squall) s [R.HK_FIFO_LVL] [R.HK_FIFO_RD, R.HK_FIFO_RD_HI] []
      [.hk, .lastRead]) ∧
  (∀ (sensor : Fin 48) (t : BitVec 16) (s : State), Frame (.tempSample sensor t) s [R.PM_AON_TEMP, R.PM_SHUT_INFO, R.TH_STAT, R.TH_SUSPECT_CNT] [R.TH_SENSOR] []
      [.free, .marks, .raised, .th]) ∧
  (∀ (s : State), Frame .tempEvaluate s [R.NVJ_STAT, R.TH_STAT, R.TH_THROTTLE_CNT, R.TL_STATUS] [] []
      [.hi, .marks, .mem, .nvj, .pm, .raised, .th]) ∧
  (∀ (s : State), Frame .throttleStep s [R.NVJ_STAT, R.TH_STAT, R.TH_THROTTLE_CNT, R.TL_STATUS] [] []
      [.hi, .marks, .mem, .nvj, .pm, .raised, .th]) ∧
  (∀ (sensor : Fin 24) (slack : BitVec 12) (age : BitVec 16) (s : State), Frame (.wearReport sensor slack age) s [] [R.TH_WEAR] []
      []) ∧
  (∀ (ok : Bool) (s : State), Frame (.marginPlannerRun ok) s [R.NVJ_STAT, R.PM_VCORE, R.TH_MARGIN] [] []
      [.nvj, .pm, .raised, .th]) ∧
  (∀ (s : State), Frame .harvestSnapshot s [] [] []
      [.hi, .mem]) ∧
  (∀ (rec : BitVec 12) (aon : Bool) (s : State), Frame (.journalWriteStart rec aon) s [R.NVJ_STAT] [] []
      [.nvj]) ∧
  (∀ (ok : Bool) (s : State), Frame (.journalRecordDone ok) s [R.CV_ACAL_STATUS, R.HI_INFL_TOTAL, R.NVJ_STAT, R.NVJ_WFAIL_CNT, R.PM_MODE, R.RF_REG_STATUS] [R.HI_CMP_LOST_CNT, R.HI_CTX_STAT, R.HI_RING_PROD, R.HK_CAL, R.HK_CAL_HI, R.RF_REG_DUTY, R.RF_REG_PEAK, R.RF_REG_RANGE_HI, R.RF_REG_RANGE_LO, R.RF_REG_RMS] []
      [.free, .hi, .hy, .lastCpl, .marks, .mem, .nvj, .pm, .raised, .rf]) ∧
  (∀ (g : Fin 4) (s : State), Frame (.lanePllLock g) s [] [R.LN_GROUP_STAT] []
      []) ∧
  (∀ (dram : Bool) (block : BitVec 14) (s : State), Frame (.blockScrubDone dram block) s [R.HI_INFL_TOTAL] [R.HI_CMP_LOST_CNT, R.HI_CTX_STAT, R.HI_RING_PROD] []
      [.hi, .hy, .lastCpl, .marks, .mem]) ∧
  (∀ (s : State), Frame .gustCapApply s [R.PM_GUST_CFG] [] []
      [.pm]) ∧
  (∀ (ch : Fin 2) (double : Bool) (s : State), Frame (.refreshRateChange ch double) s [] [R.MC_REFRESH] []
      []) ∧
  (∀ (path : Fin 64) (s : State), Frame (.pabiasRampEnd path) s [] [] []
      [.rf])

/-- Every command named here that answers a next state leaves every register unchanged but those listed and the arrays listed (at any
index), every part of the state but those listed, and the queue and the time. -/
def Obligations.HyrnoFrames : Prop :=
  (∀ (c : Cmd) (s : State), Frame (.sysInfo c) s [R.HI_INFL_TOTAL] [R.HI_CMP_LOST_CNT, R.HI_CTX_STAT, R.HI_RING_PROD] []
      [.hi, .hy, .lastCpl, .marks, .mem]) ∧
  (∀ (c : Cmd) (s : State), Frame (.sysSetMode c) s [R.HI_INFL_TOTAL, R.PM_MODE, R.TL_HEAD, R.TL_STATUS] [R.HI_CMP_LOST_CNT, R.HI_CTX_STAT, R.HI_RING_PROD, R.RF_SYN_STATUS, R.TL_PART_QUOTA, R.TL_PART_USED] [ringWord]
      [.cv, .hi, .hy, .lastCpl, .marks, .mc, .mem, .pm, .raised, .rf, .tl]) ∧
  (∀ (c : Cmd) (s : State), Frame (.sysEcho c) s [R.HI_INFL_TOTAL] [R.HI_CMP_LOST_CNT, R.HI_CTX_STAT, R.HI_RING_PROD] []
      [.hi, .hy, .lastCpl, .marks, .mem]) ∧
  (∀ (c : Cmd) (s : State), Frame (.sysSerial c) s [R.HI_INFL_TOTAL] [R.HI_CMP_LOST_CNT, R.HI_CTX_STAT, R.HI_RING_PROD] []
      [.hi, .hy, .lastCpl, .marks, .mem]) ∧
  (∀ (c : Cmd) (s : State), Frame (.sysGpio c) s [R.HI_INFL_TOTAL] [R.HI_CMP_LOST_CNT, R.HI_CTX_STAT, R.HI_RING_PROD, R.PM_GPIO_CFG] []
      [.hi, .hy, .lastCpl, .marks, .mem]) ∧
  (∀ (c : Cmd) (s : State), Frame (.sysI2c c) s [R.HI_INFL_TOTAL] [R.HI_CMP_LOST_CNT, R.HI_CTX_STAT, R.HI_RING_PROD] []
      [.hi, .hy, .lastCpl, .marks, .mem]) ∧
  (∀ (c : Cmd) (s : State), Frame (.leaseGrant c) s [R.BF_FREE_VEC, R.BF_STATUS, R.HI_INFL_TOTAL, R.HI_MODE_LEASE] [R.BF_REGION_BASE, R.BF_REGION_CFG, R.BF_REGION_STAT, R.FH_SECT_QUOTA, R.HI_CMP_LOST_CNT, R.HI_CTX_STAT, R.HI_RING_PROD, R.HI_RING_STAT, R.NVC_CORE_STAT, R.TL_PART_QUOTA] []
      [.bf, .hi, .hy, .lastCpl, .marks, .mem, .raised, .tl]) ∧
  (∀ (c : Cmd) (s : State), Frame (.leaseRevoke c) s [R.BF_STATUS, R.DMA_STATUS, R.HI_INFL_TOTAL, R.NVC_STATUS] [R.BF_REGION_CFG, R.BF_REGION_STAT, R.DMA_CH_CFG, R.DMA_CH_STAT, R.FH_SECT_QUOTA, R.FH_SECT_USED, R.HI_CMP_LOST_CNT, R.HI_CTX_STAT, R.HI_RING_CFG, R.HI_RING_PROD, R.HI_RING_STAT, R.NVC_CORE_STAT, R.TL_PART_QUOTA] [R.FH_FLOW, R.NVC_MBX_IN, R.NVC_MBX_OUT]
      [.bf, .dfe, .dma, .fh, .hi, .hy, .lastCpl, .marks, .mem, .nvc, .raised, .tl]) ∧
  (∀ (c : Cmd) (s : State), Frame (.leaseRelease c) s [R.BF_STATUS, R.DMA_STATUS, R.HI_INFL_TOTAL, R.NVC_STATUS] [R.BF_REGION_CFG, R.BF_REGION_STAT, R.DMA_CH_CFG, R.DMA_CH_STAT, R.FH_SECT_QUOTA, R.FH_SECT_USED, R.HI_CMP_LOST_CNT, R.HI_CTX_STAT, R.HI_RING_CFG, R.HI_RING_PROD, R.HI_RING_STAT, R.NVC_CORE_STAT, R.TL_PART_QUOTA] [R.FH_FLOW, R.NVC_MBX_IN, R.NVC_MBX_OUT]
      [.bf, .dfe, .dma, .fh, .hi, .hy, .lastCpl, .marks, .mem, .nvc, .raised, .tl]) ∧
  (∀ (c : Cmd) (s : State), Frame (.leaseQuery c) s [R.HI_INFL_TOTAL] [R.HI_CMP_LOST_CNT, R.HI_CTX_STAT, R.HI_RING_PROD] []
      [.hi, .hy, .lastCpl, .marks, .mem]) ∧
  (∀ (c : Cmd) (s : State), Frame (.leaseTakeMode c) s [R.HI_INFL_TOTAL, R.HI_MODE_LEASE, R.NVJ_STAT] [R.HI_CMP_LOST_CNT, R.HI_CTX_STAT, R.HI_RING_PROD] []
      [.hi, .hy, .lastCpl, .marks, .mem, .nvj, .raised]) ∧
  (∀ (c : Cmd) (s : State), Frame (.carConfig c) s [R.HI_INFL_TOTAL] [R.BF_CAR_CFG, R.BF_CAR_STAT, R.DFE_CAR_CFG, R.DFE_CAR_CIC, R.DFE_CAR_CIC_HI, R.DFE_CAR_GAIN, R.DFE_CAR_NCO_RX, R.DFE_CAR_NCO_TX, R.DFE_CAR_PMASK, fun i => R.DFE_CAR_PMASK i + 4, R.DFE_CAR_STAT, R.DFE_CAR_TXSH, R.HI_CMP_LOST_CNT, R.HI_CTX_STAT, R.HI_RING_PROD, R.TL_CAR_ULADV] []
      [.dfe, .hi, .hy, .lastCpl, .marks, .mem]) ∧
  (∀ (c : Cmd) (s : State), Frame (.carChain c) s [R.HI_INFL_TOTAL] [R.DFE_CAR_CFG, R.DFE_CAR_CIC, R.DFE_CAR_CIC_HI, R.DFE_CAR_STAT, R.DFE_CAR_TXSH, R.HI_CMP_LOST_CNT, R.HI_CTX_STAT, R.HI_RING_PROD] []
      [.dfe, .hi, .hy, .lastCpl, .marks, .mem]) ∧
  (∀ (c : Cmd) (s : State), Frame (.carCfir c) s [R.HI_INFL_TOTAL] [R.HI_CMP_LOST_CNT, R.HI_CTX_STAT, R.HI_RING_PROD] [R.DFE_CFIR]
      [.hi, .hy, .lastCpl, .marks, .mem]) ∧
  (∀ (c : Cmd) (s : State), Frame (.carStart c) s [R.BF_STATUS, R.HI_INFL_TOTAL] [R.BF_CAR_F0, R.BF_REGION_STAT, R.DFE_CAR_CFG, R.FH_RESV, R.HI_CMP_LOST_CNT, R.HI_CTX_STAT, R.HI_RING_PROD, R.RF_REG_RMS] []
      [.dfe, .free, .hi, .hy, .lastCpl, .marks, .mem]) ∧
  (∀ (c : Cmd) (s : State), Frame (.carStop c) s [R.HI_INFL_TOTAL] [R.HI_CMP_LOST_CNT, R.HI_CTX_STAT, R.HI_RING_PROD] []
      [.hi, .hy, .lastCpl, .marks, .mem]) ∧
  (∀ (c : Cmd) (s : State), Frame (.flowSet c) s [R.HI_INFL_TOTAL] [R.FH_SECT_USED, R.HI_CMP_LOST_CNT, R.HI_CTX_STAT, R.HI_RING_PROD] [R.FH_FLOW]
      [.fh, .hi, .hy, .lastCpl, .marks, .mem, .raised]) ∧
  (∀ (c : Cmd) (s : State), Frame (.flowRead c) s [R.HI_INFL_TOTAL] [R.HI_CMP_LOST_CNT, R.HI_CTX_STAT, R.HI_RING_PROD] []
      [.hi, .hy, .lastCpl, .marks, .mem]) ∧
  (∀ (c : Cmd) (s : State), Frame (.portSet c) s [R.FH_UADDR_CFG, R.HI_INFL_TOTAL] [R.FH_MCAST, fun i => R.FH_MCAST i + 4, R.FH_PORT_CFG, R.FH_PORT_MAC, fun i => R.FH_PORT_MAC i + 4, R.HI_CMP_LOST_CNT, R.HI_CTX_STAT, R.HI_RING_PROD] [R.FH_VLAN]
      [.fh, .hi, .hy, .lastCpl, .marks, .mem]) ∧
  (∀ (c : Cmd) (s : State), Frame (.fcEntry c) s [R.HI_INFL_TOTAL] [R.HI_CMP_LOST_CNT, R.HI_CTX_STAT, R.HI_RING_PROD] []
      [.hi, .hy, .lastCpl, .marks, .mem]) ∧
  (∀ (c : Cmd) (s : State), Frame (.fcBatch c) s [R.HI_INFL_TOTAL] [R.HI_CMP_LOST_CNT, R.HI_CTX_STAT, R.HI_RING_PROD] []
      [.free, .hi, .hy, .lastCpl, .marks, .mem]) ∧
  (∀ (c : Cmd) (s : State), Frame (.fcCancel c) s [R.HI_INFL_TOTAL] [R.HI_CMP_LOST_CNT, R.HI_CTX_STAT, R.HI_RING_PROD] []
      [.hi, .hy, .lastCpl, .marks, .mem]) ∧
  (∀ (c : Cmd) (s : State), Frame (.fcStatus c) s [R.HI_INFL_TOTAL] [R.HI_CMP_LOST_CNT, R.HI_CTX_STAT, R.HI_RING_PROD] []
      [.hi, .hy, .lastCpl, .marks, .mem]) ∧
  (∀ (c : Cmd) (s : State), Frame (.beamRegionSet c) s [R.BF_STATUS, R.HI_INFL_TOTAL] [R.BF_REGION_CFG, R.BF_REGION_STAT, R.HI_CMP_LOST_CNT, R.HI_CTX_STAT, R.HI_RING_PROD] []
      [.bf, .hi, .hy, .lastCpl, .marks, .mem]) ∧
  (∀ (c : Cmd) (s : State), Frame (.beamLoad c) s [R.HI_INFL_TOTAL] [R.BF_REGION_STAT, R.HI_CMP_LOST_CNT, R.HI_CTX_STAT, R.HI_RING_PROD] []
      [.hi, .hy, .lastCpl, .marks, .mem]) ∧
  (∀ (c : Cmd) (s : State), Frame (.beamRead c) s [R.HI_INFL_TOTAL] [R.HI_CMP_LOST_CNT, R.HI_CTX_STAT, R.HI_RING_PROD] []
      [.hi, .hy, .lastCpl, .marks, .mem]) ∧
  (∀ (c : Cmd) (s : State), Frame (.beamRecipSet c) s [R.HI_INFL_TOTAL] [R.HI_CMP_LOST_CNT, R.HI_CTX_STAT, R.HI_RING_PROD] []
      [.bf, .hi, .hy, .lastCpl, .marks, .mem]) ∧
  (∀ (c : Cmd) (s : State), Frame (.calInterval c) s [R.HI_INFL_TOTAL] [R.HI_CMP_LOST_CNT, R.HI_CTX_STAT, R.HI_RING_PROD] []
      [.cv, .hi, .hy, .lastCpl, .marks, .mem]) ∧
  (∀ (c : Cmd) (s : State), Frame (.calRotSet c) s [R.CV_ROT_CFG, R.CV_SPUR_THR, R.HI_INFL_TOTAL] [R.HI_CMP_LOST_CNT, R.HI_CTX_STAT, R.HI_RING_PROD] []
      [.cv, .hi, .hy, .lastCpl, .marks, .mem]) ∧
  (∀ (c : Cmd) (s : State), Frame (.calSweep c) s [R.CV_ACAL_STATUS, R.HI_INFL_TOTAL] [R.HI_CMP_LOST_CNT, R.HI_CTX_STAT, R.HI_RING_PROD] []
      [.cv, .hi, .hy, .lastCpl, .marks, .mem]) ∧
  (∀ (c : Cmd) (s : State), Frame (.acalRefRecord c) s [R.HI_INFL_TOTAL, R.NVJ_STAT] [R.HI_CMP_LOST_CNT, R.HI_CTX_STAT, R.HI_RING_PROD] []
      [.hi, .hy, .lastCpl, .marks, .mem, .nvj]) ∧
  (∀ (c : Cmd) (s : State), Frame (.acalRefLock c) s [R.HI_INFL_TOTAL, R.NVJ_STAT] [R.HI_CMP_LOST_CNT, R.HI_CTX_STAT, R.HI_RING_PROD] []
      [.hi, .hy, .lastCpl, .marks, .mem, .nvj]) ∧
  (∀ (c : Cmd) (s : State), Frame (.calStatus c) s [R.HI_INFL_TOTAL] [R.HI_CMP_LOST_CNT, R.HI_CTX_STAT, R.HI_RING_PROD] []
      [.hi, .hy, .lastCpl, .marks, .mem]) ∧
  (∀ (c : Cmd) (s : State), Frame (.dpdConfig c) s [R.HI_INFL_TOTAL] [R.DFE_DPD_CFG, R.DFE_DPD_STATUS, R.HI_CMP_LOST_CNT, R.HI_CTX_STAT, R.HI_RING_PROD] []
      [.dfe, .hi, .hy, .lastCpl, .marks, .mem]) ∧
  (∀ (c : Cmd) (s : State), Frame (.dpdNbr c) s [R.HI_INFL_TOTAL] [R.DFE_DPD_NBR, R.HI_CMP_LOST_CNT, R.HI_CTX_STAT, R.HI_RING_PROD] []
      [.hi, .hy, .lastCpl, .marks, .mem]) ∧
  (∀ (c : Cmd) (s : State), Frame (.dpdTrain c) s [R.HI_INFL_TOTAL] [R.HI_CMP_LOST_CNT, R.HI_CTX_STAT, R.HI_RING_PROD] []
      [.dfe, .hi, .hy, .lastCpl, .marks, .mem, .nvc]) ∧
  (∀ (c : Cmd) (s : State), Frame (.dpdCoef c) s [R.HI_INFL_TOTAL] [R.DFE_DPD_STATUS, R.HI_CMP_LOST_CNT, R.HI_CTX_STAT, R.HI_RING_PROD] []
      [.dfe, .hi, .hy, .lastCpl, .marks, .mem]) ∧
  (∀ (c : Cmd) (s : State), Frame (.dpdResume c) s [R.HI_INFL_TOTAL] [R.DFE_DPD_STATUS, R.HI_CMP_LOST_CNT, R.HI_CTX_STAT, R.HI_RING_PROD] []
      [.hi, .hy, .lastCpl, .marks, .mem]) ∧
  (∀ (c : Cmd) (s : State), Frame (.cfrConfig c) s [R.HI_INFL_TOTAL] [R.HI_CMP_LOST_CNT, R.HI_CTX_STAT, R.HI_RING_PROD] []
      [.dfe, .free, .hi, .hy, .lastCpl, .marks, .mem]) ∧
  (∀ (c : Cmd) (s : State), Frame (.capGet c) s [R.HI_INFL_TOTAL] [R.HI_CMP_LOST_CNT, R.HI_CTX_STAT, R.HI_RING_PROD] []
      [.dfe, .hi, .hy, .lastCpl, .marks, .mem]) ∧
  (∀ (c : Cmd) (s : State), Frame (.capFree c) s [R.HI_INFL_TOTAL] [R.HI_CMP_LOST_CNT, R.HI_CTX_STAT, R.HI_RING_PROD] []
      [.dfe, .hi, .hy, .lastCpl, .marks, .mem]) ∧
  (∀ (c : Cmd) (s : State), Frame (.fePabias c) s [R.HI_INFL_TOTAL] [R.HI_CMP_LOST_CNT, R.HI_CTX_STAT, R.HI_RING_PROD, R.RF_PABIAS_CFG, R.RF_PABIAS_LVL] []
      [.hi, .hy, .lastCpl, .marks, .mem, .rf]) ∧
  (∀ (c : Cmd) (s : State), Frame (.feTdd c) s [R.HI_INFL_TOTAL] [R.HI_CMP_LOST_CNT, R.HI_CTX_STAT, R.HI_RING_PROD] []
      [.hi, .hy, .lastCpl, .marks, .mem, .rf]) ∧
  (∀ (c : Cmd) (s : State), Frame (.feFaultClear c) s [R.HI_INFL_TOTAL] [R.HI_CMP_LOST_CNT, R.HI_CTX_STAT, R.HI_RING_PROD, R.RF_PABIAS_CFG, R.RF_PABIAS_LVL, R.RF_PATH_STATE] []
      [.dfe, .hi, .hy, .lastCpl, .marks, .mem, .rf]) ∧
  (∀ (c : Cmd) (fits : Bool) (parity : Bool) (data : BitVec 128) (s : State), Frame (.rffeAccess c fits parity data) s [R.HI_INFL_TOTAL] [R.HI_CMP_LOST_CNT, R.HI_CTX_STAT, R.HI_RING_PROD] []
      [.free, .hi, .hy, .lastCpl, .marks, .mem, .raised, .rf]) ∧
  (∀ (c : Cmd) (overlap : Bool) (s : State), Frame (.rffeList c overlap) s [R.HI_INFL_TOTAL] [R.HI_CMP_LOST_CNT, R.HI_CTX_STAT, R.HI_RING_PROD, R.RF_RFFE_CFG] [R.RF_RFFE_MEM]
      [.hi, .hy, .lastCpl, .marks, .mem]) ∧
  (∀ (c : Cmd) (s : State), Frame (.laneGroupSet c) s [R.HI_INFL_TOTAL, R.LN_STATUS, R.PM_DOM_STAT, R.TS_STATUS] [R.HI_CMP_LOST_CNT, R.HI_CTX_STAT, R.HI_RING_PROD, R.LN_CTLE, R.LN_GROUP_CFG, R.LN_GROUP_STAT, R.LN_STATE] []
      [.hi, .hy, .lastCpl, .ln, .marks, .mem, .pm, .raised]) ∧
  (∀ (c : Cmd) (s : State), Frame (.laneEq c) s [R.HI_INFL_TOTAL] [R.HI_CMP_LOST_CNT, R.HI_CTX_STAT, R.HI_RING_PROD, R.LN_CTLE, R.LN_TXEQ] []
      [.hi, .hy, .lastCpl, .marks, .mem]) ∧
  (∀ (c : Cmd) (s : State), Frame (.lanePower c) s [R.HI_INFL_TOTAL, R.LN_STATUS, R.PM_DOM_STAT, R.TS_STATUS] [R.HI_CMP_LOST_CNT, R.HI_CTX_STAT, R.HI_RING_PROD, R.LN_CTLE, R.LN_GROUP_STAT, R.LN_STATE] []
      [.hi, .hy, .lastCpl, .ln, .marks, .mem, .pm, .raised]) ∧
  (∀ (c : Cmd) (seen : List (BitVec 48 × BitVec 32)) (s : State), Frame (.laneTest c seen) s [R.HI_INFL_TOTAL, R.LN_STATUS, R.TS_STATUS] [R.HI_CMP_LOST_CNT, R.HI_CTX_STAT, R.HI_RING_PROD, R.LN_GROUP_STAT, R.LN_PAT_BITS, fun i => R.LN_PAT_BITS i + 4, R.LN_PAT_CFG, R.LN_PAT_ERR_CNT, R.LN_PAT_STAT, R.LN_PAT_USER, fun i => R.LN_PAT_USER i + 4, R.LN_STATE] []
      [.hi, .hy, .lastCpl, .ln, .marks, .mem, .raised]) ∧
  (∀ (c : Cmd) (bits : BitVec 48) (errs : BitVec 32) (s : State), Frame (.laneStatus c bits errs) s [R.HI_INFL_TOTAL] [R.HI_CMP_LOST_CNT, R.HI_CTX_STAT, R.HI_RING_PROD, R.LN_PAT_BITS, fun i => R.LN_PAT_BITS i + 4, R.LN_PAT_ERR_CNT, R.LN_PAT_STAT] []
      [.hi, .hy, .lastCpl, .marks, .mem, .raised]) ∧
  (∀ (c : Cmd) (s : State), Frame (.timeDomainSet c) s [R.HI_INFL_TOTAL] [R.HI_CMP_LOST_CNT, R.HI_CTX_STAT, R.HI_RING_PROD, R.TS_DOM_CFG, R.TS_DOM_FREQ, R.TS_DOM_GAIN, R.TS_DOM_LIM, R.TS_DOM_STAT, R.TS_DOM_VOFS, fun i => R.TS_DOM_VOFS i + 4] []
      [.free, .hi, .hy, .lastCpl, .marks, .mem, .ts]) ∧
  (∀ (c : Cmd) (s : State), Frame (.timeSelect c) s [R.HI_INFL_TOTAL, R.TS_CNT, R.TS_CNT + 4, R.TS_CTRL, R.TS_STATUS] [R.HI_CMP_LOST_CNT, R.HI_CTX_STAT, R.HI_RING_PROD, R.TS_DOM_FREQ, R.TS_DOM_STAT, R.TS_DOM_VOFS, fun i => R.TS_DOM_VOFS i + 4] []
      [.free, .hi, .hy, .lastCpl, .marks, .mem, .raised, .ts]) ∧
  (∀ (c : Cmd) (s : State), Frame (.timePps c) s [R.HI_INFL_TOTAL, R.TS_PPS_CFG, R.TS_PPS_DLY] [R.HI_CMP_LOST_CNT, R.HI_CTX_STAT, R.HI_RING_PROD] []
      [.hi, .hy, .lastCpl, .marks, .mem, .pins]) ∧
  (∀ (c : Cmd) (s : State), Frame (.timeFrame c) s [R.HI_INFL_TOTAL, R.TS_FRAME_OFS] [R.HI_CMP_LOST_CNT, R.HI_CTX_STAT, R.HI_RING_PROD] []
      [.hi, .hy, .lastCpl, .marks, .mem, .tl, .ts]) ∧
  (∀ (c : Cmd) (s : State), Frame (.timeSynce c) s [R.HI_INFL_TOTAL, R.TS_STATUS, R.TS_SYNCE_CFG] [R.HI_CMP_LOST_CNT, R.HI_CTX_STAT, R.HI_RING_PROD] []
      [.hi, .hy, .lastCpl, .marks, .mem, .ts]) ∧
  (∀ (c : Cmd) (s : State), Frame (.timeGet c) s [R.HI_INFL_TOTAL] [R.HI_CMP_LOST_CNT, R.HI_CTX_STAT, R.HI_RING_PROD] []
      [.hi, .hy, .lastCpl, .marks, .mem]) ∧
  (∀ (c : Cmd) (s : State), Frame (.timeDelay c) s [R.HI_INFL_TOTAL] [R.HI_CMP_LOST_CNT, R.HI_CTX_STAT, R.HI_RING_PROD] [R.FH_DROP_CNT]
      [.fh, .hi, .hy, .lastCpl, .marks, .mem, .raised]) ∧
  (∀ (c : Cmd) (s : State), Frame (.timePtpStats c) s [R.HI_INFL_TOTAL] [R.HI_CMP_LOST_CNT, R.HI_CTX_STAT, R.HI_RING_PROD] []
      [.hi, .hy, .lastCpl, .marks, .mem]) ∧
  (∀ (c : Cmd) (s : State), Frame (.pwrFrost c) s [R.HI_INFL_TOTAL, R.PM_MODE] [R.HI_CMP_LOST_CNT, R.HI_CTX_STAT, R.HI_RING_PROD] []
      [.hi, .hy, .lastCpl, .marks, .mem, .pm]) ∧
  (∀ (c : Cmd) (s : State), Frame (.pwrGust c) s [R.HI_INFL_TOTAL] [R.HI_CMP_LOST_CNT, R.HI_CTX_STAT, R.HI_RING_PROD] []
      [.hi, .hy, .lastCpl, .marks, .mem, .pm]) ∧
  (∀ (c : Cmd) (s : State), Frame (.pwrStatus c) s [R.HI_INFL_TOTAL] [R.HI_CMP_LOST_CNT, R.HI_CTX_STAT, R.HI_RING_PROD] []
      [.free, .hi, .hy, .lastCpl, .marks, .mem]) ∧
  (∀ (c : Cmd) (s : State), Frame (.monHkSeq c) s [R.HI_INFL_TOTAL, R.HK_ABORT_CNT, R.HK_IGN_REG_CNT, R.HK_IGN_SQ_CNT, R.HK_STAT] [R.HI_CMP_LOST_CNT, R.HI_CTX_STAT, R.HI_RING_PROD, R.HK_SEQ_CFG, R.HK_SEQ_OSR, R.HK_TIMER] [R.HK_SEQ_LIST]
      [.free, .hi, .hk, .hy, .lastCpl, .marks, .mem, .raised]) ∧
  (∀ (c : Cmd) (s : State), Frame (.monHkCal c) s [R.HI_INFL_TOTAL, R.HK_STAT] [R.HI_CMP_LOST_CNT, R.HI_CTX_STAT, R.HI_RING_PROD] []
      [.hi, .hk, .hy, .lastCpl, .marks, .mem]) ∧
  (∀ (c : Cmd) (s : State), Frame (.monHkRead c) s [R.HI_INFL_TOTAL] [R.HI_CMP_LOST_CNT, R.HI_CTX_STAT, R.HI_RING_PROD] []
      [.hi, .hy, .lastCpl, .marks, .mem]) ∧
  (∀ (c : Cmd) (s : State), Frame (.monTemp c) s [R.HI_INFL_TOTAL] [R.HI_CMP_LOST_CNT, R.HI_CTX_STAT, R.HI_RING_PROD] []
      [.hi, .hy, .lastCpl, .marks, .mem]) ∧
  (∀ (c : Cmd) (s : State), Frame (.monWear c) s [R.HI_INFL_TOTAL] [R.HI_CMP_LOST_CNT, R.HI_CTX_STAT, R.HI_RING_PROD] []
      [.hi, .hy, .lastCpl, .marks, .mem]) ∧
  (∀ (c : Cmd) (s : State), Frame (.monHarvest c) s [R.HI_INFL_TOTAL] [R.HI_CMP_LOST_CNT, R.HI_CTX_STAT, R.HI_RING_PROD] []
      [.hi, .hy, .lastCpl, .marks, .mem]) ∧
  (∀ (c : Cmd) (s : State), Frame (.monJournalRead c) s [R.HI_INFL_TOTAL] [R.HI_CMP_LOST_CNT, R.HI_CTX_STAT, R.HI_RING_PROD] []
      [.hi, .hy, .lastCpl, .marks, .mem]) ∧
  (∀ (c : Cmd) (s : State), Frame (.regSet c) s [R.HI_INFL_TOTAL, R.NVJ_STAT] [R.HI_CMP_LOST_CNT, R.HI_CTX_STAT, R.HI_RING_PROD] []
      [.hi, .hy, .lastCpl, .marks, .mem, .nvj]) ∧
  (∀ (c : Cmd) (s : State), Frame (.regLock c) s [R.HI_INFL_TOTAL, R.NVJ_STAT] [R.HI_CMP_LOST_CNT, R.HI_CTX_STAT, R.HI_RING_PROD] []
      [.hi, .hy, .lastCpl, .marks, .mem, .nvj]) ∧
  (∀ (c : Cmd) (s : State), Frame (.regStatus c) s [R.HI_INFL_TOTAL] [R.HI_CMP_LOST_CNT, R.HI_CTX_STAT, R.HI_RING_PROD] []
      [.hi, .hy, .lastCpl, .marks, .mem]) ∧
  (∀ (c : Cmd) (s : State), Frame (.fwUpdateBegin c) s [R.HI_INFL_TOTAL, R.PM_MODE] [R.HI_CMP_LOST_CNT, R.HI_CTX_STAT, R.HI_RING_PROD] []
      [.hi, .hy, .lastCpl, .marks, .mem, .pm]) ∧
  (∀ (c : Cmd) (good : Bool) (s : State), Frame (.fwUpdateWrite c good) s [R.HI_INFL_TOTAL] [R.HI_CMP_LOST_CNT, R.HI_CTX_STAT, R.HI_RING_PROD] []
      [.free, .hi, .hy, .lastCpl, .marks, .mem]) ∧
  (∀ (c : Cmd) (good : Bool) (s : State), Frame (.fwUpdateCommit c good) s [R.HI_INFL_TOTAL, R.NVJ_STAT, R.PM_MODE] [R.HI_CMP_LOST_CNT, R.HI_CTX_STAT, R.HI_RING_PROD] []
      [.hi, .hy, .lastCpl, .marks, .mem, .nvj, .pm]) ∧
  (∀ (c : Cmd) (s : State), Frame (.fwUpdateAbort c) s [R.HI_INFL_TOTAL, R.NVJ_STAT, R.PM_MODE] [R.HI_CMP_LOST_CNT, R.HI_CTX_STAT, R.HI_RING_PROD] []
      [.free, .hi, .hy, .lastCpl, .marks, .mem, .nvj, .pm]) ∧
  (∀ (c : Cmd) (s : State), Frame (.cfgRecord c) s [R.HI_INFL_TOTAL, R.NVJ_STAT] [R.HI_CMP_LOST_CNT, R.HI_CTX_STAT, R.HI_RING_PROD] []
      [.hi, .hy, .lastCpl, .marks, .mem, .nvj]) ∧
  (∀ (c : Cmd) (s : State), Frame (.kernelLoad c) s [R.HI_INFL_TOTAL] [R.HI_CMP_LOST_CNT, R.HI_CTX_STAT, R.HI_RING_PROD, R.NVC_CORE_STAT] [nvCounter, fun i j => nvCounter i j + 4]
      [.hi, .hy, .lastCpl, .marks, .mem, .nvc]) ∧
  (∀ (c : Cmd) (s : State), Frame (.kernelStart c) s [R.HI_INFL_TOTAL] [R.HI_CMP_LOST_CNT, R.HI_CTX_STAT, R.HI_RING_PROD, R.NVC_CORE_STAT, R.NVC_TRIG_DROP_CNT, R.NVC_WDOG] []
      [.free, .hi, .hy, .lastCpl, .marks, .mem, .nvc, .raised]) ∧
  (∀ (c : Cmd) (s : State), Frame (.kernelStop c) s [R.HI_INFL_TOTAL] [R.HI_CMP_LOST_CNT, R.HI_CTX_STAT, R.HI_RING_PROD, R.NVC_CORE_STAT] []
      [.hi, .hy, .lastCpl, .marks, .mem, .nvc]) ∧
  (∀ (c : Cmd) (s : State), Frame (.kernelMbx c) s [R.HI_INFL_TOTAL] [R.HI_CMP_LOST_CNT, R.HI_CTX_STAT, R.HI_RING_PROD, R.NVC_CORE_STAT, R.NVC_TRIG_DROP_CNT] [R.NVC_MBX_IN]
      [.hi, .hy, .lastCpl, .marks, .mem, .nvc, .raised]) ∧
  (∀ (c : Cmd) (s : State), Frame (.kernelStatus c) s [R.HI_INFL_TOTAL] [R.HI_CMP_LOST_CNT, R.HI_CTX_STAT, R.HI_RING_PROD] []
      [.hi, .hy, .lastCpl, .marks, .mem])
end

