-- ==== Sys2Proof/Laws/Sparse.lean ====
section
/-! SUPPORT. The sparse tables: what reads after a write, and that every operation keeps the canonical form. -/

namespace Sys2Proof.Machine

variable {α : Type}

/-! ### Reads after writes -/

theorem sparseGet_ins_same (d : Nat → α) (k : Nat) (v : α) (m : List (Nat × α)) : sparseGet d (sparseIns k v m) k = v := by
  induction m with
  | nil => simp [sparseIns, sparseGet]
  | cons p m ih =>
    obtain ⟨a, w⟩ := p
    simp only [sparseIns]
    split
    · simp [sparseGet]
    · split
      · simp [sparseGet]
      · rename_i h; simp [sparseGet, Ne.symm h, ih]

theorem sparseGet_ins_ne (d : Nat → α) {k j : Nat} (h : j ≠ k) (v : α) (m : List (Nat × α)) :
    sparseGet d (sparseIns k v m) j = sparseGet d m j := by
  induction m with
  | nil => simp [sparseIns, sparseGet, Ne.symm h]
  | cons p m ih =>
    obtain ⟨a, w⟩ := p
    simp only [sparseIns]
    split
    · simp [sparseGet, Ne.symm h]
    · split
      · rename_i e; subst e; simp [sparseGet, Ne.symm h]
      · simp [sparseGet, ih]

theorem sparseGet_del_same (d : Nat → α) (k : Nat) (m : List (Nat × α)) : sparseGet d (sparseDel k m) k = d k := by
  induction m with
  | nil => rfl
  | cons p m ih =>
    obtain ⟨a, w⟩ := p
    simp only [sparseDel]
    split
    · exact ih
    · rename_i h; simp [sparseGet, h, ih]

theorem sparseGet_del_ne (d : Nat → α) {k j : Nat} (h : j ≠ k) (m : List (Nat × α)) :
    sparseGet d (sparseDel k m) j = sparseGet d m j := by
  induction m with
  | nil => rfl
  | cons p m ih =>
    obtain ⟨a, w⟩ := p
    simp only [sparseDel]
    split
    · rename_i e; subst e; simp [sparseGet, Ne.symm h, ih]
    · simp [sparseGet, ih]

/-- A read after a write of the same key gives the value written. -/
@[simp] theorem sparseGet_set_same [DecidableEq α] (d : Nat → α) (m : List (Nat × α)) (k : Nat) (v : α) :
    sparseGet d (sparseSet d m k v) k = v := by
  unfold sparseSet
  split
  · rename_i h; rw [sparseGet_del_same, h]
  · exact sparseGet_ins_same d k v m

/-- A write leaves every other key alone. -/
theorem sparseGet_set_ne [DecidableEq α] (d : Nat → α) (m : List (Nat × α)) {k j : Nat} (h : j ≠ k) (v : α) :
    sparseGet d (sparseSet d m k v) j = sparseGet d m j := by
  unfold sparseSet
  split
  · exact sparseGet_del_ne d h m
  · exact sparseGet_ins_ne d h v m

theorem sparseGet_filter (d : Nat → α) (p : Nat → Bool) (m : List (Nat × α)) (j : Nat) :
    sparseGet d (m.filter (fun x => p x.1)) j = if p j then sparseGet d m j else d j := by
  induction m with
  | nil => simp [sparseGet]
  | cons x m ih =>
    obtain ⟨a, w⟩ := x
    by_cases hp : p a
    · simp only [List.filter_cons, hp, if_true, sparseGet]
      split
      · rename_i e; subst e; simp [hp]
      · exact ih
    · simp only [List.filter_cons, hp, sparseGet]
      by_cases e : a = j
      · subst e; simpa [hp] using ih
      · simp only [e, if_false]; exact ih

/-- A cleared span reads as unlisted; every key outside it reads as before. -/
theorem sparseGet_clear (d : Nat → α) (m : List (Nat × α)) (k n j : Nat) :
    sparseGet d (sparseClear m k n) j = if k ≤ j ∧ j < k + n then d j else sparseGet d m j := by
  unfold sparseClear
  rw [sparseGet_filter d (fun j => !(decide (k ≤ j) && decide (j < k + n)))]
  by_cases h : k ≤ j ∧ j < k + n
  · simp [h]
  · rw [if_neg h, if_pos (by simp only [Bool.not_eq_true', Bool.and_eq_false_iff, decide_eq_false_iff_not]; omega)]

/-! ### The canonical form -/

theorem sparseRising_some (lo : Nat) (m : List (Nat × α)) :
    sparseRising (some lo) m = true ↔ (∀ p ∈ m, lo < p.1) ∧ m.Pairwise (fun p q => p.1 < q.1) := by
  induction m generalizing lo with
  | nil => simp [sparseRising]
  | cons x m ih =>
    obtain ⟨a, w⟩ := x
    simp only [sparseRising, Bool.and_eq_true, decide_eq_true_eq, ih, List.mem_cons, List.pairwise_cons]
    constructor
    · rintro ⟨h1, h2, h3⟩
      refine ⟨?_, h2, h3⟩
      rintro p (rfl | hp)
      · exact h1
      · exact Nat.lt_trans h1 (h2 p hp)
    · rintro ⟨h1, h2, h3⟩
      exact ⟨h1 (a, w) (Or.inl rfl), h2, h3⟩

theorem sparseRising_none (m : List (Nat × α)) :
    sparseRising none m = true ↔ m.Pairwise (fun p q => p.1 < q.1) := by
  cases m with
  | nil => simp [sparseRising]
  | cons x m => obtain ⟨a, w⟩ := x; simp [sparseRising, sparseRising_some, List.pairwise_cons]

theorem sparseWf_iff [DecidableEq α] (d : Nat → α) (m : List (Nat × α)) :
    sparseWf d m = true ↔ m.Pairwise (fun p q => p.1 < q.1) ∧ ∀ p ∈ m, p.2 ≠ d p.1 := by
  simp [sparseWf, sparseRising_none]

/-- Taking entries out keeps the canonical form. -/
theorem sparseWf_filter [DecidableEq α] {d : Nat → α} {m : List (Nat × α)} (p : Nat × α → Bool)
    (h : sparseWf d m = true) : sparseWf d (m.filter p) = true := by
  rw [sparseWf_iff] at *
  exact ⟨h.1.sublist List.filter_sublist, fun q hq => h.2 q (List.mem_filter.mp hq).1⟩

theorem sparseWf_clear [DecidableEq α] {d : Nat → α} {m : List (Nat × α)} (k n : Nat)
    (h : sparseWf d m = true) : sparseWf d (sparseClear m k n) = true := sparseWf_filter _ h

theorem sparseDel_sublist (k : Nat) (m : List (Nat × α)) : (sparseDel k m).Sublist m := by
  induction m with
  | nil => exact .slnil
  | cons x m ih =>
    obtain ⟨a, w⟩ := x
    simp only [sparseDel]
    split
    · exact ih.cons _
    · exact ih.cons_cons _

theorem mem_sparseIns {k : Nat} {v : α} {m : List (Nat × α)} {p : Nat × α} (h : p ∈ sparseIns k v m) :
    p = (k, v) ∨ p ∈ m := by
  induction m with
  | nil => simpa [sparseIns] using h
  | cons x m ih =>
    obtain ⟨a, w⟩ := x
    simp only [sparseIns] at h
    split at h
    · simpa using h
    · split at h
      · rcases List.mem_cons.mp h with h | h
        · exact Or.inl h
        · exact Or.inr (List.mem_cons_of_mem _ h)
      · rcases List.mem_cons.mp h with h | h
        · exact Or.inr (h ▸ List.mem_cons_self)
        · rcases ih h with h | h
          · exact Or.inl h
          · exact Or.inr (List.mem_cons_of_mem _ h)

theorem sparseIns_rising (k : Nat) (v : α) {m : List (Nat × α)} (h : m.Pairwise (fun p q => p.1 < q.1)) :
    (sparseIns k v m).Pairwise (fun p q => p.1 < q.1) := by
  induction m with
  | nil => simp [sparseIns]
  | cons x m ih =>
    obtain ⟨a, w⟩ := x
    rw [List.pairwise_cons] at h
    simp only [sparseIns]
    split
    · rename_i hk
      refine List.pairwise_cons.mpr ⟨?_, List.pairwise_cons.mpr h⟩
      intro p hp
      rcases List.mem_cons.mp hp with rfl | hp
      · exact hk
      · exact Nat.lt_trans hk (h.1 p hp)
    · split
      · rename_i e; subst e; exact List.pairwise_cons.mpr h
      · rename_i h1 h2
        refine List.pairwise_cons.mpr ⟨?_, ih h.2⟩
        intro p hp
        rcases mem_sparseIns hp with rfl | hp
        · simp only; omega
        · exact h.1 p hp

/-- Setting a key keeps the canonical form. -/
theorem sparseWf_set [DecidableEq α] {d : Nat → α} {m : List (Nat × α)} (k : Nat) (v : α)
    (h : sparseWf d m = true) : sparseWf d (sparseSet d m k v) = true := by
  rw [sparseWf_iff] at *
  unfold sparseSet
  split
  · exact ⟨h.1.sublist (sparseDel_sublist k m), fun p hp => h.2 p ((sparseDel_sublist k m).subset hp)⟩
  · rename_i hv
    refine ⟨sparseIns_rising k v h.1, fun p hp => ?_⟩
    rcases mem_sparseIns hp with rfl | hp
    · exact hv
    · exact h.2 p hp

end Sys2Proof.Machine
end

