-- ==== Sys2Proof/Laws/State.lean ====
section
/-! SUPPORT. One lemma for each field of the state under each named update: what the update leaves as it was. -/

namespace Sys2Proof.Machine

/-! ### wr -/

@[simp] theorem State.wr_mem (s : State) (a : Nat) (v : Word) : (s.wr a v).mem = s.mem := rfl
@[simp] theorem State.wr_latch (s : State) (a : Nat) (v : Word) : (s.wr a v).latch = s.latch := rfl
@[simp] theorem State.wr_marks (s : State) (a : Nat) (v : Word) : (s.wr a v).marks = s.marks := rfl
@[simp] theorem State.wr_raised (s : State) (a : Nat) (v : Word) : (s.wr a v).raised = s.raised := rfl
@[simp] theorem State.wr_pins (s : State) (a : Nat) (v : Word) : (s.wr a v).pins = s.pins := rfl
@[simp] theorem State.wr_hy (s : State) (a : Nat) (v : Word) : (s.wr a v).hy = s.hy := rfl
@[simp] theorem State.wr_hi (s : State) (a : Nat) (v : Word) : (s.wr a v).hi = s.hi := rfl
@[simp] theorem State.wr_nvj (s : State) (a : Nat) (v : Word) : (s.wr a v).nvj = s.nvj := rfl
@[simp] theorem State.wr_hk (s : State) (a : Nat) (v : Word) : (s.wr a v).hk = s.hk := rfl
@[simp] theorem State.wr_th (s : State) (a : Nat) (v : Word) : (s.wr a v).th = s.th := rfl
@[simp] theorem State.wr_pm (s : State) (a : Nat) (v : Word) : (s.wr a v).pm = s.pm := rfl
@[simp] theorem State.wr_tl (s : State) (a : Nat) (v : Word) : (s.wr a v).tl = s.tl := rfl
@[simp] theorem State.wr_rf (s : State) (a : Nat) (v : Word) : (s.wr a v).rf = s.rf := rfl
@[simp] theorem State.wr_cv (s : State) (a : Nat) (v : Word) : (s.wr a v).cv = s.cv := rfl
@[simp] theorem State.wr_dfe (s : State) (a : Nat) (v : Word) : (s.wr a v).dfe = s.dfe := rfl
@[simp] theorem State.wr_nvc (s : State) (a : Nat) (v : Word) : (s.wr a v).nvc = s.nvc := rfl
@[simp] theorem State.wr_bf (s : State) (a : Nat) (v : Word) : (s.wr a v).bf = s.bf := rfl
@[simp] theorem State.wr_ln (s : State) (a : Nat) (v : Word) : (s.wr a v).ln = s.ln := rfl
@[simp] theorem State.wr_fh (s : State) (a : Nat) (v : Word) : (s.wr a v).fh = s.fh := rfl
@[simp] theorem State.wr_ts (s : State) (a : Nat) (v : Word) : (s.wr a v).ts = s.ts := rfl
@[simp] theorem State.wr_mc (s : State) (a : Nat) (v : Word) : (s.wr a v).mc = s.mc := rfl
@[simp] theorem State.wr_dma (s : State) (a : Nat) (v : Word) : (s.wr a v).dma = s.dma := rfl
@[simp] theorem State.wr_now (s : State) (a : Nat) (v : Word) : (s.wr a v).now = s.now := rfl
@[simp] theorem State.wr_free (s : State) (a : Nat) (v : Word) : (s.wr a v).free = s.free := rfl
@[simp] theorem State.wr_lastRead (s : State) (a : Nat) (v : Word) : (s.wr a v).lastRead = s.lastRead := rfl
@[simp] theorem State.wr_lastCpl (s : State) (a : Nat) (v : Word) : (s.wr a v).lastCpl = s.lastCpl := rfl
@[simp] theorem State.wr_pending (s : State) (a : Nat) (v : Word) : (s.wr a v).pending = s.pending := rfl

/-! ### put -/

@[simp] theorem State.put_mem (s : State) (a : Nat) (f : Fld) (v : Nat) : (s.put a f v).mem = s.mem := rfl
@[simp] theorem State.put_latch (s : State) (a : Nat) (f : Fld) (v : Nat) : (s.put a f v).latch = s.latch := rfl
@[simp] theorem State.put_marks (s : State) (a : Nat) (f : Fld) (v : Nat) : (s.put a f v).marks = s.marks := rfl
@[simp] theorem State.put_raised (s : State) (a : Nat) (f : Fld) (v : Nat) : (s.put a f v).raised = s.raised := rfl
@[simp] theorem State.put_pins (s : State) (a : Nat) (f : Fld) (v : Nat) : (s.put a f v).pins = s.pins := rfl
@[simp] theorem State.put_hy (s : State) (a : Nat) (f : Fld) (v : Nat) : (s.put a f v).hy = s.hy := rfl
@[simp] theorem State.put_hi (s : State) (a : Nat) (f : Fld) (v : Nat) : (s.put a f v).hi = s.hi := rfl
@[simp] theorem State.put_nvj (s : State) (a : Nat) (f : Fld) (v : Nat) : (s.put a f v).nvj = s.nvj := rfl
@[simp] theorem State.put_hk (s : State) (a : Nat) (f : Fld) (v : Nat) : (s.put a f v).hk = s.hk := rfl
@[simp] theorem State.put_th (s : State) (a : Nat) (f : Fld) (v : Nat) : (s.put a f v).th = s.th := rfl
@[simp] theorem State.put_pm (s : State) (a : Nat) (f : Fld) (v : Nat) : (s.put a f v).pm = s.pm := rfl
@[simp] theorem State.put_tl (s : State) (a : Nat) (f : Fld) (v : Nat) : (s.put a f v).tl = s.tl := rfl
@[simp] theorem State.put_rf (s : State) (a : Nat) (f : Fld) (v : Nat) : (s.put a f v).rf = s.rf := rfl
@[simp] theorem State.put_cv (s : State) (a : Nat) (f : Fld) (v : Nat) : (s.put a f v).cv = s.cv := rfl
@[simp] theorem State.put_dfe (s : State) (a : Nat) (f : Fld) (v : Nat) : (s.put a f v).dfe = s.dfe := rfl
@[simp] theorem State.put_nvc (s : State) (a : Nat) (f : Fld) (v : Nat) : (s.put a f v).nvc = s.nvc := rfl
@[simp] theorem State.put_bf (s : State) (a : Nat) (f : Fld) (v : Nat) : (s.put a f v).bf = s.bf := rfl
@[simp] theorem State.put_ln (s : State) (a : Nat) (f : Fld) (v : Nat) : (s.put a f v).ln = s.ln := rfl
@[simp] theorem State.put_fh (s : State) (a : Nat) (f : Fld) (v : Nat) : (s.put a f v).fh = s.fh := rfl
@[simp] theorem State.put_ts (s : State) (a : Nat) (f : Fld) (v : Nat) : (s.put a f v).ts = s.ts := rfl
@[simp] theorem State.put_mc (s : State) (a : Nat) (f : Fld) (v : Nat) : (s.put a f v).mc = s.mc := rfl
@[simp] theorem State.put_dma (s : State) (a : Nat) (f : Fld) (v : Nat) : (s.put a f v).dma = s.dma := rfl
@[simp] theorem State.put_now (s : State) (a : Nat) (f : Fld) (v : Nat) : (s.put a f v).now = s.now := rfl
@[simp] theorem State.put_free (s : State) (a : Nat) (f : Fld) (v : Nat) : (s.put a f v).free = s.free := rfl
@[simp] theorem State.put_lastRead (s : State) (a : Nat) (f : Fld) (v : Nat) : (s.put a f v).lastRead = s.lastRead := rfl
@[simp] theorem State.put_lastCpl (s : State) (a : Nat) (f : Fld) (v : Nat) : (s.put a f v).lastCpl = s.lastCpl := rfl
@[simp] theorem State.put_pending (s : State) (a : Nat) (f : Fld) (v : Nat) : (s.put a f v).pending = s.pending := rfl

/-! ### setFlag -/

@[simp] theorem State.setFlag_mem (s : State) (a : Nat) (f : Fld) (b : Bool) : (s.setFlag a f b).mem = s.mem := rfl
@[simp] theorem State.setFlag_latch (s : State) (a : Nat) (f : Fld) (b : Bool) : (s.setFlag a f b).latch = s.latch := rfl
@[simp] theorem State.setFlag_marks (s : State) (a : Nat) (f : Fld) (b : Bool) : (s.setFlag a f b).marks = s.marks := rfl
@[simp] theorem State.setFlag_raised (s : State) (a : Nat) (f : Fld) (b : Bool) : (s.setFlag a f b).raised = s.raised := rfl
@[simp] theorem State.setFlag_pins (s : State) (a : Nat) (f : Fld) (b : Bool) : (s.setFlag a f b).pins = s.pins := rfl
@[simp] theorem State.setFlag_hy (s : State) (a : Nat) (f : Fld) (b : Bool) : (s.setFlag a f b).hy = s.hy := rfl
@[simp] theorem State.setFlag_hi (s : State) (a : Nat) (f : Fld) (b : Bool) : (s.setFlag a f b).hi = s.hi := rfl
@[simp] theorem State.setFlag_nvj (s : State) (a : Nat) (f : Fld) (b : Bool) : (s.setFlag a f b).nvj = s.nvj := rfl
@[simp] theorem State.setFlag_hk (s : State) (a : Nat) (f : Fld) (b : Bool) : (s.setFlag a f b).hk = s.hk := rfl
@[simp] theorem State.setFlag_th (s : State) (a : Nat) (f : Fld) (b : Bool) : (s.setFlag a f b).th = s.th := rfl
@[simp] theorem State.setFlag_pm (s : State) (a : Nat) (f : Fld) (b : Bool) : (s.setFlag a f b).pm = s.pm := rfl
@[simp] theorem State.setFlag_tl (s : State) (a : Nat) (f : Fld) (b : Bool) : (s.setFlag a f b).tl = s.tl := rfl
@[simp] theorem State.setFlag_rf (s : State) (a : Nat) (f : Fld) (b : Bool) : (s.setFlag a f b).rf = s.rf := rfl
@[simp] theorem State.setFlag_cv (s : State) (a : Nat) (f : Fld) (b : Bool) : (s.setFlag a f b).cv = s.cv := rfl
@[simp] theorem State.setFlag_dfe (s : State) (a : Nat) (f : Fld) (b : Bool) : (s.setFlag a f b).dfe = s.dfe := rfl
@[simp] theorem State.setFlag_nvc (s : State) (a : Nat) (f : Fld) (b : Bool) : (s.setFlag a f b).nvc = s.nvc := rfl
@[simp] theorem State.setFlag_bf (s : State) (a : Nat) (f : Fld) (b : Bool) : (s.setFlag a f b).bf = s.bf := rfl
@[simp] theorem State.setFlag_ln (s : State) (a : Nat) (f : Fld) (b : Bool) : (s.setFlag a f b).ln = s.ln := rfl
@[simp] theorem State.setFlag_fh (s : State) (a : Nat) (f : Fld) (b : Bool) : (s.setFlag a f b).fh = s.fh := rfl
@[simp] theorem State.setFlag_ts (s : State) (a : Nat) (f : Fld) (b : Bool) : (s.setFlag a f b).ts = s.ts := rfl
@[simp] theorem State.setFlag_mc (s : State) (a : Nat) (f : Fld) (b : Bool) : (s.setFlag a f b).mc = s.mc := rfl
@[simp] theorem State.setFlag_dma (s : State) (a : Nat) (f : Fld) (b : Bool) : (s.setFlag a f b).dma = s.dma := rfl
@[simp] theorem State.setFlag_now (s : State) (a : Nat) (f : Fld) (b : Bool) : (s.setFlag a f b).now = s.now := rfl
@[simp] theorem State.setFlag_free (s : State) (a : Nat) (f : Fld) (b : Bool) : (s.setFlag a f b).free = s.free := rfl
@[simp] theorem State.setFlag_lastRead (s : State) (a : Nat) (f : Fld) (b : Bool) : (s.setFlag a f b).lastRead = s.lastRead := rfl
@[simp] theorem State.setFlag_lastCpl (s : State) (a : Nat) (f : Fld) (b : Bool) : (s.setFlag a f b).lastCpl = s.lastCpl := rfl
@[simp] theorem State.setFlag_pending (s : State) (a : Nat) (f : Fld) (b : Bool) : (s.setFlag a f b).pending = s.pending := rfl

/-! ### wrN -/

@[simp] theorem State.wrN_mem (s : State) (a n : Nat) : (s.wrN a n).mem = s.mem := rfl
@[simp] theorem State.wrN_latch (s : State) (a n : Nat) : (s.wrN a n).latch = s.latch := rfl
@[simp] theorem State.wrN_marks (s : State) (a n : Nat) : (s.wrN a n).marks = s.marks := rfl
@[simp] theorem State.wrN_raised (s : State) (a n : Nat) : (s.wrN a n).raised = s.raised := rfl
@[simp] theorem State.wrN_pins (s : State) (a n : Nat) : (s.wrN a n).pins = s.pins := rfl
@[simp] theorem State.wrN_hy (s : State) (a n : Nat) : (s.wrN a n).hy = s.hy := rfl
@[simp] theorem State.wrN_hi (s : State) (a n : Nat) : (s.wrN a n).hi = s.hi := rfl
@[simp] theorem State.wrN_nvj (s : State) (a n : Nat) : (s.wrN a n).nvj = s.nvj := rfl
@[simp] theorem State.wrN_hk (s : State) (a n : Nat) : (s.wrN a n).hk = s.hk := rfl
@[simp] theorem State.wrN_th (s : State) (a n : Nat) : (s.wrN a n).th = s.th := rfl
@[simp] theorem State.wrN_pm (s : State) (a n : Nat) : (s.wrN a n).pm = s.pm := rfl
@[simp] theorem State.wrN_tl (s : State) (a n : Nat) : (s.wrN a n).tl = s.tl := rfl
@[simp] theorem State.wrN_rf (s : State) (a n : Nat) : (s.wrN a n).rf = s.rf := rfl
@[simp] theorem State.wrN_cv (s : State) (a n : Nat) : (s.wrN a n).cv = s.cv := rfl
@[simp] theorem State.wrN_dfe (s : State) (a n : Nat) : (s.wrN a n).dfe = s.dfe := rfl
@[simp] theorem State.wrN_nvc (s : State) (a n : Nat) : (s.wrN a n).nvc = s.nvc := rfl
@[simp] theorem State.wrN_bf (s : State) (a n : Nat) : (s.wrN a n).bf = s.bf := rfl
@[simp] theorem State.wrN_ln (s : State) (a n : Nat) : (s.wrN a n).ln = s.ln := rfl
@[simp] theorem State.wrN_fh (s : State) (a n : Nat) : (s.wrN a n).fh = s.fh := rfl
@[simp] theorem State.wrN_ts (s : State) (a n : Nat) : (s.wrN a n).ts = s.ts := rfl
@[simp] theorem State.wrN_mc (s : State) (a n : Nat) : (s.wrN a n).mc = s.mc := rfl
@[simp] theorem State.wrN_dma (s : State) (a n : Nat) : (s.wrN a n).dma = s.dma := rfl
@[simp] theorem State.wrN_now (s : State) (a n : Nat) : (s.wrN a n).now = s.now := rfl
@[simp] theorem State.wrN_free (s : State) (a n : Nat) : (s.wrN a n).free = s.free := rfl
@[simp] theorem State.wrN_lastRead (s : State) (a n : Nat) : (s.wrN a n).lastRead = s.lastRead := rfl
@[simp] theorem State.wrN_lastCpl (s : State) (a n : Nat) : (s.wrN a n).lastCpl = s.lastCpl := rfl
@[simp] theorem State.wrN_pending (s : State) (a n : Nat) : (s.wrN a n).pending = s.pending := rfl

/-! ### put64 -/

@[simp] theorem State.put64_mem (s : State) (a n : Nat) : (s.put64 a n).mem = s.mem := rfl
@[simp] theorem State.put64_latch (s : State) (a n : Nat) : (s.put64 a n).latch = s.latch := rfl
@[simp] theorem State.put64_marks (s : State) (a n : Nat) : (s.put64 a n).marks = s.marks := rfl
@[simp] theorem State.put64_raised (s : State) (a n : Nat) : (s.put64 a n).raised = s.raised := rfl
@[simp] theorem State.put64_pins (s : State) (a n : Nat) : (s.put64 a n).pins = s.pins := rfl
@[simp] theorem State.put64_hy (s : State) (a n : Nat) : (s.put64 a n).hy = s.hy := rfl
@[simp] theorem State.put64_hi (s : State) (a n : Nat) : (s.put64 a n).hi = s.hi := rfl
@[simp] theorem State.put64_nvj (s : State) (a n : Nat) : (s.put64 a n).nvj = s.nvj := rfl
@[simp] theorem State.put64_hk (s : State) (a n : Nat) : (s.put64 a n).hk = s.hk := rfl
@[simp] theorem State.put64_th (s : State) (a n : Nat) : (s.put64 a n).th = s.th := rfl
@[simp] theorem State.put64_pm (s : State) (a n : Nat) : (s.put64 a n).pm = s.pm := rfl
@[simp] theorem State.put64_tl (s : State) (a n : Nat) : (s.put64 a n).tl = s.tl := rfl
@[simp] theorem State.put64_rf (s : State) (a n : Nat) : (s.put64 a n).rf = s.rf := rfl
@[simp] theorem State.put64_cv (s : State) (a n : Nat) : (s.put64 a n).cv = s.cv := rfl
@[simp] theorem State.put64_dfe (s : State) (a n : Nat) : (s.put64 a n).dfe = s.dfe := rfl
@[simp] theorem State.put64_nvc (s : State) (a n : Nat) : (s.put64 a n).nvc = s.nvc := rfl
@[simp] theorem State.put64_bf (s : State) (a n : Nat) : (s.put64 a n).bf = s.bf := rfl
@[simp] theorem State.put64_ln (s : State) (a n : Nat) : (s.put64 a n).ln = s.ln := rfl
@[simp] theorem State.put64_fh (s : State) (a n : Nat) : (s.put64 a n).fh = s.fh := rfl
@[simp] theorem State.put64_ts (s : State) (a n : Nat) : (s.put64 a n).ts = s.ts := rfl
@[simp] theorem State.put64_mc (s : State) (a n : Nat) : (s.put64 a n).mc = s.mc := rfl
@[simp] theorem State.put64_dma (s : State) (a n : Nat) : (s.put64 a n).dma = s.dma := rfl
@[simp] theorem State.put64_now (s : State) (a n : Nat) : (s.put64 a n).now = s.now := rfl
@[simp] theorem State.put64_free (s : State) (a n : Nat) : (s.put64 a n).free = s.free := rfl
@[simp] theorem State.put64_lastRead (s : State) (a n : Nat) : (s.put64 a n).lastRead = s.lastRead := rfl
@[simp] theorem State.put64_lastCpl (s : State) (a n : Nat) : (s.put64 a n).lastCpl = s.lastCpl := rfl
@[simp] theorem State.put64_pending (s : State) (a n : Nat) : (s.put64 a n).pending = s.pending := rfl

/-! ### mark -/

@[simp] theorem State.mark_regs (s : State) (a : Nat) (m : Word) : (s.mark a m).regs = s.regs := rfl
@[simp] theorem State.mark_mem (s : State) (a : Nat) (m : Word) : (s.mark a m).mem = s.mem := rfl
@[simp] theorem State.mark_latch (s : State) (a : Nat) (m : Word) : (s.mark a m).latch = s.latch := rfl
@[simp] theorem State.mark_raised (s : State) (a : Nat) (m : Word) : (s.mark a m).raised = s.raised := rfl
@[simp] theorem State.mark_pins (s : State) (a : Nat) (m : Word) : (s.mark a m).pins = s.pins := rfl
@[simp] theorem State.mark_hy (s : State) (a : Nat) (m : Word) : (s.mark a m).hy = s.hy := rfl
@[simp] theorem State.mark_hi (s : State) (a : Nat) (m : Word) : (s.mark a m).hi = s.hi := rfl
@[simp] theorem State.mark_nvj (s : State) (a : Nat) (m : Word) : (s.mark a m).nvj = s.nvj := rfl
@[simp] theorem State.mark_hk (s : State) (a : Nat) (m : Word) : (s.mark a m).hk = s.hk := rfl
@[simp] theorem State.mark_th (s : State) (a : Nat) (m : Word) : (s.mark a m).th = s.th := rfl
@[simp] theorem State.mark_pm (s : State) (a : Nat) (m : Word) : (s.mark a m).pm = s.pm := rfl
@[simp] theorem State.mark_tl (s : State) (a : Nat) (m : Word) : (s.mark a m).tl = s.tl := rfl
@[simp] theorem State.mark_rf (s : State) (a : Nat) (m : Word) : (s.mark a m).rf = s.rf := rfl
@[simp] theorem State.mark_cv (s : State) (a : Nat) (m : Word) : (s.mark a m).cv = s.cv := rfl
@[simp] theorem State.mark_dfe (s : State) (a : Nat) (m : Word) : (s.mark a m).dfe = s.dfe := rfl
@[simp] theorem State.mark_nvc (s : State) (a : Nat) (m : Word) : (s.mark a m).nvc = s.nvc := rfl
@[simp] theorem State.mark_bf (s : State) (a : Nat) (m : Word) : (s.mark a m).bf = s.bf := rfl
@[simp] theorem State.mark_ln (s : State) (a : Nat) (m : Word) : (s.mark a m).ln = s.ln := rfl
@[simp] theorem State.mark_fh (s : State) (a : Nat) (m : Word) : (s.mark a m).fh = s.fh := rfl
@[simp] theorem State.mark_ts (s : State) (a : Nat) (m : Word) : (s.mark a m).ts = s.ts := rfl
@[simp] theorem State.mark_mc (s : State) (a : Nat) (m : Word) : (s.mark a m).mc = s.mc := rfl
@[simp] theorem State.mark_dma (s : State) (a : Nat) (m : Word) : (s.mark a m).dma = s.dma := rfl
@[simp] theorem State.mark_now (s : State) (a : Nat) (m : Word) : (s.mark a m).now = s.now := rfl
@[simp] theorem State.mark_free (s : State) (a : Nat) (m : Word) : (s.mark a m).free = s.free := rfl
@[simp] theorem State.mark_lastRead (s : State) (a : Nat) (m : Word) : (s.mark a m).lastRead = s.lastRead := rfl
@[simp] theorem State.mark_lastCpl (s : State) (a : Nat) (m : Word) : (s.mark a m).lastCpl = s.lastCpl := rfl
@[simp] theorem State.mark_pending (s : State) (a : Nat) (m : Word) : (s.mark a m).pending = s.pending := rfl

/-! ### stick -/

@[simp] theorem State.stick_mem (s : State) (a : Nat) (m : Word) : (s.stick a m).mem = s.mem := rfl
@[simp] theorem State.stick_latch (s : State) (a : Nat) (m : Word) : (s.stick a m).latch = s.latch := rfl
@[simp] theorem State.stick_raised (s : State) (a : Nat) (m : Word) : (s.stick a m).raised = s.raised := rfl
@[simp] theorem State.stick_pins (s : State) (a : Nat) (m : Word) : (s.stick a m).pins = s.pins := rfl
@[simp] theorem State.stick_hy (s : State) (a : Nat) (m : Word) : (s.stick a m).hy = s.hy := rfl
@[simp] theorem State.stick_hi (s : State) (a : Nat) (m : Word) : (s.stick a m).hi = s.hi := rfl
@[simp] theorem State.stick_nvj (s : State) (a : Nat) (m : Word) : (s.stick a m).nvj = s.nvj := rfl
@[simp] theorem State.stick_hk (s : State) (a : Nat) (m : Word) : (s.stick a m).hk = s.hk := rfl
@[simp] theorem State.stick_th (s : State) (a : Nat) (m : Word) : (s.stick a m).th = s.th := rfl
@[simp] theorem State.stick_pm (s : State) (a : Nat) (m : Word) : (s.stick a m).pm = s.pm := rfl
@[simp] theorem State.stick_tl (s : State) (a : Nat) (m : Word) : (s.stick a m).tl = s.tl := rfl
@[simp] theorem State.stick_rf (s : State) (a : Nat) (m : Word) : (s.stick a m).rf = s.rf := rfl
@[simp] theorem State.stick_cv (s : State) (a : Nat) (m : Word) : (s.stick a m).cv = s.cv := rfl
@[simp] theorem State.stick_dfe (s : State) (a : Nat) (m : Word) : (s.stick a m).dfe = s.dfe := rfl
@[simp] theorem State.stick_nvc (s : State) (a : Nat) (m : Word) : (s.stick a m).nvc = s.nvc := rfl
@[simp] theorem State.stick_bf (s : State) (a : Nat) (m : Word) : (s.stick a m).bf = s.bf := rfl
@[simp] theorem State.stick_ln (s : State) (a : Nat) (m : Word) : (s.stick a m).ln = s.ln := rfl
@[simp] theorem State.stick_fh (s : State) (a : Nat) (m : Word) : (s.stick a m).fh = s.fh := rfl
@[simp] theorem State.stick_ts (s : State) (a : Nat) (m : Word) : (s.stick a m).ts = s.ts := rfl
@[simp] theorem State.stick_mc (s : State) (a : Nat) (m : Word) : (s.stick a m).mc = s.mc := rfl
@[simp] theorem State.stick_dma (s : State) (a : Nat) (m : Word) : (s.stick a m).dma = s.dma := rfl
@[simp] theorem State.stick_now (s : State) (a : Nat) (m : Word) : (s.stick a m).now = s.now := rfl
@[simp] theorem State.stick_free (s : State) (a : Nat) (m : Word) : (s.stick a m).free = s.free := rfl
@[simp] theorem State.stick_lastRead (s : State) (a : Nat) (m : Word) : (s.stick a m).lastRead = s.lastRead := rfl
@[simp] theorem State.stick_lastCpl (s : State) (a : Nat) (m : Word) : (s.stick a m).lastCpl = s.lastCpl := rfl
@[simp] theorem State.stick_pending (s : State) (a : Nat) (m : Word) : (s.stick a m).pending = s.pending := rfl

/-! ### stickFlag -/

@[simp] theorem State.stickFlag_mem (s : State) (a : Nat) (f : Fld) : (s.stickFlag a f).mem = s.mem := rfl
@[simp] theorem State.stickFlag_latch (s : State) (a : Nat) (f : Fld) : (s.stickFlag a f).latch = s.latch := rfl
@[simp] theorem State.stickFlag_raised (s : State) (a : Nat) (f : Fld) : (s.stickFlag a f).raised = s.raised := rfl
@[simp] theorem State.stickFlag_pins (s : State) (a : Nat) (f : Fld) : (s.stickFlag a f).pins = s.pins := rfl
@[simp] theorem State.stickFlag_hy (s : State) (a : Nat) (f : Fld) : (s.stickFlag a f).hy = s.hy := rfl
@[simp] theorem State.stickFlag_hi (s : State) (a : Nat) (f : Fld) : (s.stickFlag a f).hi = s.hi := rfl
@[simp] theorem State.stickFlag_nvj (s : State) (a : Nat) (f : Fld) : (s.stickFlag a f).nvj = s.nvj := rfl
@[simp] theorem State.stickFlag_hk (s : State) (a : Nat) (f : Fld) : (s.stickFlag a f).hk = s.hk := rfl
@[simp] theorem State.stickFlag_th (s : State) (a : Nat) (f : Fld) : (s.stickFlag a f).th = s.th := rfl
@[simp] theorem State.stickFlag_pm (s : State) (a : Nat) (f : Fld) : (s.stickFlag a f).pm = s.pm := rfl
@[simp] theorem State.stickFlag_tl (s : State) (a : Nat) (f : Fld) : (s.stickFlag a f).tl = s.tl := rfl
@[simp] theorem State.stickFlag_rf (s : State) (a : Nat) (f : Fld) : (s.stickFlag a f).rf = s.rf := rfl
@[simp] theorem State.stickFlag_cv (s : State) (a : Nat) (f : Fld) : (s.stickFlag a f).cv = s.cv := rfl
@[simp] theorem State.stickFlag_dfe (s : State) (a : Nat) (f : Fld) : (s.stickFlag a f).dfe = s.dfe := rfl
@[simp] theorem State.stickFlag_nvc (s : State) (a : Nat) (f : Fld) : (s.stickFlag a f).nvc = s.nvc := rfl
@[simp] theorem State.stickFlag_bf (s : State) (a : Nat) (f : Fld) : (s.stickFlag a f).bf = s.bf := rfl
@[simp] theorem State.stickFlag_ln (s : State) (a : Nat) (f : Fld) : (s.stickFlag a f).ln = s.ln := rfl
@[simp] theorem State.stickFlag_fh (s : State) (a : Nat) (f : Fld) : (s.stickFlag a f).fh = s.fh := rfl
@[simp] theorem State.stickFlag_ts (s : State) (a : Nat) (f : Fld) : (s.stickFlag a f).ts = s.ts := rfl
@[simp] theorem State.stickFlag_mc (s : State) (a : Nat) (f : Fld) : (s.stickFlag a f).mc = s.mc := rfl
@[simp] theorem State.stickFlag_dma (s : State) (a : Nat) (f : Fld) : (s.stickFlag a f).dma = s.dma := rfl
@[simp] theorem State.stickFlag_now (s : State) (a : Nat) (f : Fld) : (s.stickFlag a f).now = s.now := rfl
@[simp] theorem State.stickFlag_free (s : State) (a : Nat) (f : Fld) : (s.stickFlag a f).free = s.free := rfl
@[simp] theorem State.stickFlag_lastRead (s : State) (a : Nat) (f : Fld) : (s.stickFlag a f).lastRead = s.lastRead := rfl
@[simp] theorem State.stickFlag_lastCpl (s : State) (a : Nat) (f : Fld) : (s.stickFlag a f).lastCpl = s.lastCpl := rfl
@[simp] theorem State.stickFlag_pending (s : State) (a : Nat) (f : Fld) : (s.stickFlag a f).pending = s.pending := rfl

/-! ### countN -/

@[simp] theorem State.countN_mem (s : State) (a n : Nat) : (s.countN a n).mem = s.mem := rfl
@[simp] theorem State.countN_latch (s : State) (a n : Nat) : (s.countN a n).latch = s.latch := rfl
@[simp] theorem State.countN_raised (s : State) (a n : Nat) : (s.countN a n).raised = s.raised := rfl
@[simp] theorem State.countN_pins (s : State) (a n : Nat) : (s.countN a n).pins = s.pins := rfl
@[simp] theorem State.countN_hy (s : State) (a n : Nat) : (s.countN a n).hy = s.hy := rfl
@[simp] theorem State.countN_hi (s : State) (a n : Nat) : (s.countN a n).hi = s.hi := rfl
@[simp] theorem State.countN_nvj (s : State) (a n : Nat) : (s.countN a n).nvj = s.nvj := rfl
@[simp] theorem State.countN_hk (s : State) (a n : Nat) : (s.countN a n).hk = s.hk := rfl
@[simp] theorem State.countN_th (s : State) (a n : Nat) : (s.countN a n).th = s.th := rfl
@[simp] theorem State.countN_pm (s : State) (a n : Nat) : (s.countN a n).pm = s.pm := rfl
@[simp] theorem State.countN_tl (s : State) (a n : Nat) : (s.countN a n).tl = s.tl := rfl
@[simp] theorem State.countN_rf (s : State) (a n : Nat) : (s.countN a n).rf = s.rf := rfl
@[simp] theorem State.countN_cv (s : State) (a n : Nat) : (s.countN a n).cv = s.cv := rfl
@[simp] theorem State.countN_dfe (s : State) (a n : Nat) : (s.countN a n).dfe = s.dfe := rfl
@[simp] theorem State.countN_nvc (s : State) (a n : Nat) : (s.countN a n).nvc = s.nvc := rfl
@[simp] theorem State.countN_bf (s : State) (a n : Nat) : (s.countN a n).bf = s.bf := rfl
@[simp] theorem State.countN_ln (s : State) (a n : Nat) : (s.countN a n).ln = s.ln := rfl
@[simp] theorem State.countN_fh (s : State) (a n : Nat) : (s.countN a n).fh = s.fh := rfl
@[simp] theorem State.countN_ts (s : State) (a n : Nat) : (s.countN a n).ts = s.ts := rfl
@[simp] theorem State.countN_mc (s : State) (a n : Nat) : (s.countN a n).mc = s.mc := rfl
@[simp] theorem State.countN_dma (s : State) (a n : Nat) : (s.countN a n).dma = s.dma := rfl
@[simp] theorem State.countN_now (s : State) (a n : Nat) : (s.countN a n).now = s.now := rfl
@[simp] theorem State.countN_free (s : State) (a n : Nat) : (s.countN a n).free = s.free := rfl
@[simp] theorem State.countN_lastRead (s : State) (a n : Nat) : (s.countN a n).lastRead = s.lastRead := rfl
@[simp] theorem State.countN_lastCpl (s : State) (a n : Nat) : (s.countN a n).lastCpl = s.lastCpl := rfl
@[simp] theorem State.countN_pending (s : State) (a n : Nat) : (s.countN a n).pending = s.pending := rfl

/-! ### incSat -/

@[simp] theorem State.incSat_mem (s : State) (a : Nat) (f : Fld) : (s.incSat a f).mem = s.mem := rfl
@[simp] theorem State.incSat_latch (s : State) (a : Nat) (f : Fld) : (s.incSat a f).latch = s.latch := rfl
@[simp] theorem State.incSat_marks (s : State) (a : Nat) (f : Fld) : (s.incSat a f).marks = s.marks := rfl
@[simp] theorem State.incSat_raised (s : State) (a : Nat) (f : Fld) : (s.incSat a f).raised = s.raised := rfl
@[simp] theorem State.incSat_pins (s : State) (a : Nat) (f : Fld) : (s.incSat a f).pins = s.pins := rfl
@[simp] theorem State.incSat_hy (s : State) (a : Nat) (f : Fld) : (s.incSat a f).hy = s.hy := rfl
@[simp] theorem State.incSat_hi (s : State) (a : Nat) (f : Fld) : (s.incSat a f).hi = s.hi := rfl
@[simp] theorem State.incSat_nvj (s : State) (a : Nat) (f : Fld) : (s.incSat a f).nvj = s.nvj := rfl
@[simp] theorem State.incSat_hk (s : State) (a : Nat) (f : Fld) : (s.incSat a f).hk = s.hk := rfl
@[simp] theorem State.incSat_th (s : State) (a : Nat) (f : Fld) : (s.incSat a f).th = s.th := rfl
@[simp] theorem State.incSat_pm (s : State) (a : Nat) (f : Fld) : (s.incSat a f).pm = s.pm := rfl
@[simp] theorem State.incSat_tl (s : State) (a : Nat) (f : Fld) : (s.incSat a f).tl = s.tl := rfl
@[simp] theorem State.incSat_rf (s : State) (a : Nat) (f : Fld) : (s.incSat a f).rf = s.rf := rfl
@[simp] theorem State.incSat_cv (s : State) (a : Nat) (f : Fld) : (s.incSat a f).cv = s.cv := rfl
@[simp] theorem State.incSat_dfe (s : State) (a : Nat) (f : Fld) : (s.incSat a f).dfe = s.dfe := rfl
@[simp] theorem State.incSat_nvc (s : State) (a : Nat) (f : Fld) : (s.incSat a f).nvc = s.nvc := rfl
@[simp] theorem State.incSat_bf (s : State) (a : Nat) (f : Fld) : (s.incSat a f).bf = s.bf := rfl
@[simp] theorem State.incSat_ln (s : State) (a : Nat) (f : Fld) : (s.incSat a f).ln = s.ln := rfl
@[simp] theorem State.incSat_fh (s : State) (a : Nat) (f : Fld) : (s.incSat a f).fh = s.fh := rfl
@[simp] theorem State.incSat_ts (s : State) (a : Nat) (f : Fld) : (s.incSat a f).ts = s.ts := rfl
@[simp] theorem State.incSat_mc (s : State) (a : Nat) (f : Fld) : (s.incSat a f).mc = s.mc := rfl
@[simp] theorem State.incSat_dma (s : State) (a : Nat) (f : Fld) : (s.incSat a f).dma = s.dma := rfl
@[simp] theorem State.incSat_now (s : State) (a : Nat) (f : Fld) : (s.incSat a f).now = s.now := rfl
@[simp] theorem State.incSat_free (s : State) (a : Nat) (f : Fld) : (s.incSat a f).free = s.free := rfl
@[simp] theorem State.incSat_lastRead (s : State) (a : Nat) (f : Fld) : (s.incSat a f).lastRead = s.lastRead := rfl
@[simp] theorem State.incSat_lastCpl (s : State) (a : Nat) (f : Fld) : (s.incSat a f).lastCpl = s.lastCpl := rfl
@[simp] theorem State.incSat_pending (s : State) (a : Nat) (f : Fld) : (s.incSat a f).pending = s.pending := rfl

/-! ### incWrap -/

@[simp] theorem State.incWrap_mem (s : State) (a : Nat) (f : Fld) : (s.incWrap a f).mem = s.mem := rfl
@[simp] theorem State.incWrap_latch (s : State) (a : Nat) (f : Fld) : (s.incWrap a f).latch = s.latch := rfl
@[simp] theorem State.incWrap_marks (s : State) (a : Nat) (f : Fld) : (s.incWrap a f).marks = s.marks := rfl
@[simp] theorem State.incWrap_raised (s : State) (a : Nat) (f : Fld) : (s.incWrap a f).raised = s.raised := rfl
@[simp] theorem State.incWrap_pins (s : State) (a : Nat) (f : Fld) : (s.incWrap a f).pins = s.pins := rfl
@[simp] theorem State.incWrap_hy (s : State) (a : Nat) (f : Fld) : (s.incWrap a f).hy = s.hy := rfl
@[simp] theorem State.incWrap_hi (s : State) (a : Nat) (f : Fld) : (s.incWrap a f).hi = s.hi := rfl
@[simp] theorem State.incWrap_nvj (s : State) (a : Nat) (f : Fld) : (s.incWrap a f).nvj = s.nvj := rfl
@[simp] theorem State.incWrap_hk (s : State) (a : Nat) (f : Fld) : (s.incWrap a f).hk = s.hk := rfl
@[simp] theorem State.incWrap_th (s : State) (a : Nat) (f : Fld) : (s.incWrap a f).th = s.th := rfl
@[simp] theorem State.incWrap_pm (s : State) (a : Nat) (f : Fld) : (s.incWrap a f).pm = s.pm := rfl
@[simp] theorem State.incWrap_tl (s : State) (a : Nat) (f : Fld) : (s.incWrap a f).tl = s.tl := rfl
@[simp] theorem State.incWrap_rf (s : State) (a : Nat) (f : Fld) : (s.incWrap a f).rf = s.rf := rfl
@[simp] theorem State.incWrap_cv (s : State) (a : Nat) (f : Fld) : (s.incWrap a f).cv = s.cv := rfl
@[simp] theorem State.incWrap_dfe (s : State) (a : Nat) (f : Fld) : (s.incWrap a f).dfe = s.dfe := rfl
@[simp] theorem State.incWrap_nvc (s : State) (a : Nat) (f : Fld) : (s.incWrap a f).nvc = s.nvc := rfl
@[simp] theorem State.incWrap_bf (s : State) (a : Nat) (f : Fld) : (s.incWrap a f).bf = s.bf := rfl
@[simp] theorem State.incWrap_ln (s : State) (a : Nat) (f : Fld) : (s.incWrap a f).ln = s.ln := rfl
@[simp] theorem State.incWrap_fh (s : State) (a : Nat) (f : Fld) : (s.incWrap a f).fh = s.fh := rfl
@[simp] theorem State.incWrap_ts (s : State) (a : Nat) (f : Fld) : (s.incWrap a f).ts = s.ts := rfl
@[simp] theorem State.incWrap_mc (s : State) (a : Nat) (f : Fld) : (s.incWrap a f).mc = s.mc := rfl
@[simp] theorem State.incWrap_dma (s : State) (a : Nat) (f : Fld) : (s.incWrap a f).dma = s.dma := rfl
@[simp] theorem State.incWrap_now (s : State) (a : Nat) (f : Fld) : (s.incWrap a f).now = s.now := rfl
@[simp] theorem State.incWrap_free (s : State) (a : Nat) (f : Fld) : (s.incWrap a f).free = s.free := rfl
@[simp] theorem State.incWrap_lastRead (s : State) (a : Nat) (f : Fld) : (s.incWrap a f).lastRead = s.lastRead := rfl
@[simp] theorem State.incWrap_lastCpl (s : State) (a : Nat) (f : Fld) : (s.incWrap a f).lastCpl = s.lastCpl := rfl
@[simp] theorem State.incWrap_pending (s : State) (a : Nat) (f : Fld) : (s.incWrap a f).pending = s.pending := rfl

/-! ### count -/

@[simp] theorem State.count_mem (s : State) (a : Nat) : (s.count a).mem = s.mem := rfl
@[simp] theorem State.count_latch (s : State) (a : Nat) : (s.count a).latch = s.latch := rfl
@[simp] theorem State.count_raised (s : State) (a : Nat) : (s.count a).raised = s.raised := rfl
@[simp] theorem State.count_pins (s : State) (a : Nat) : (s.count a).pins = s.pins := rfl
@[simp] theorem State.count_hy (s : State) (a : Nat) : (s.count a).hy = s.hy := rfl
@[simp] theorem State.count_hi (s : State) (a : Nat) : (s.count a).hi = s.hi := rfl
@[simp] theorem State.count_nvj (s : State) (a : Nat) : (s.count a).nvj = s.nvj := rfl
@[simp] theorem State.count_hk (s : State) (a : Nat) : (s.count a).hk = s.hk := rfl
@[simp] theorem State.count_th (s : State) (a : Nat) : (s.count a).th = s.th := rfl
@[simp] theorem State.count_pm (s : State) (a : Nat) : (s.count a).pm = s.pm := rfl
@[simp] theorem State.count_tl (s : State) (a : Nat) : (s.count a).tl = s.tl := rfl
@[simp] theorem State.count_rf (s : State) (a : Nat) : (s.count a).rf = s.rf := rfl
@[simp] theorem State.count_cv (s : State) (a : Nat) : (s.count a).cv = s.cv := rfl
@[simp] theorem State.count_dfe (s : State) (a : Nat) : (s.count a).dfe = s.dfe := rfl
@[simp] theorem State.count_nvc (s : State) (a : Nat) : (s.count a).nvc = s.nvc := rfl
@[simp] theorem State.count_bf (s : State) (a : Nat) : (s.count a).bf = s.bf := rfl
@[simp] theorem State.count_ln (s : State) (a : Nat) : (s.count a).ln = s.ln := rfl
@[simp] theorem State.count_fh (s : State) (a : Nat) : (s.count a).fh = s.fh := rfl
@[simp] theorem State.count_ts (s : State) (a : Nat) : (s.count a).ts = s.ts := rfl
@[simp] theorem State.count_mc (s : State) (a : Nat) : (s.count a).mc = s.mc := rfl
@[simp] theorem State.count_dma (s : State) (a : Nat) : (s.count a).dma = s.dma := rfl
@[simp] theorem State.count_now (s : State) (a : Nat) : (s.count a).now = s.now := rfl
@[simp] theorem State.count_free (s : State) (a : Nat) : (s.count a).free = s.free := rfl
@[simp] theorem State.count_lastRead (s : State) (a : Nat) : (s.count a).lastRead = s.lastRead := rfl
@[simp] theorem State.count_lastCpl (s : State) (a : Nat) : (s.count a).lastCpl = s.lastCpl := rfl
@[simp] theorem State.count_pending (s : State) (a : Nat) : (s.count a).pending = s.pending := rfl

/-! ### setByte -/

@[simp] theorem State.setByte_regs (s : State) (a : Nat) (b : Byte) : (s.setByte a b).regs = s.regs := rfl
@[simp] theorem State.setByte_latch (s : State) (a : Nat) (b : Byte) : (s.setByte a b).latch = s.latch := rfl
@[simp] theorem State.setByte_marks (s : State) (a : Nat) (b : Byte) : (s.setByte a b).marks = s.marks := rfl
@[simp] theorem State.setByte_raised (s : State) (a : Nat) (b : Byte) : (s.setByte a b).raised = s.raised := rfl
@[simp] theorem State.setByte_pins (s : State) (a : Nat) (b : Byte) : (s.setByte a b).pins = s.pins := rfl
@[simp] theorem State.setByte_hy (s : State) (a : Nat) (b : Byte) : (s.setByte a b).hy = s.hy := rfl
@[simp] theorem State.setByte_hi (s : State) (a : Nat) (b : Byte) : (s.setByte a b).hi = s.hi := rfl
@[simp] theorem State.setByte_nvj (s : State) (a : Nat) (b : Byte) : (s.setByte a b).nvj = s.nvj := rfl
@[simp] theorem State.setByte_hk (s : State) (a : Nat) (b : Byte) : (s.setByte a b).hk = s.hk := rfl
@[simp] theorem State.setByte_th (s : State) (a : Nat) (b : Byte) : (s.setByte a b).th = s.th := rfl
@[simp] theorem State.setByte_pm (s : State) (a : Nat) (b : Byte) : (s.setByte a b).pm = s.pm := rfl
@[simp] theorem State.setByte_tl (s : State) (a : Nat) (b : Byte) : (s.setByte a b).tl = s.tl := rfl
@[simp] theorem State.setByte_rf (s : State) (a : Nat) (b : Byte) : (s.setByte a b).rf = s.rf := rfl
@[simp] theorem State.setByte_cv (s : State) (a : Nat) (b : Byte) : (s.setByte a b).cv = s.cv := rfl
@[simp] theorem State.setByte_dfe (s : State) (a : Nat) (b : Byte) : (s.setByte a b).dfe = s.dfe := rfl
@[simp] theorem State.setByte_nvc (s : State) (a : Nat) (b : Byte) : (s.setByte a b).nvc = s.nvc := rfl
@[simp] theorem State.setByte_bf (s : State) (a : Nat) (b : Byte) : (s.setByte a b).bf = s.bf := rfl
@[simp] theorem State.setByte_ln (s : State) (a : Nat) (b : Byte) : (s.setByte a b).ln = s.ln := rfl
@[simp] theorem State.setByte_fh (s : State) (a : Nat) (b : Byte) : (s.setByte a b).fh = s.fh := rfl
@[simp] theorem State.setByte_ts (s : State) (a : Nat) (b : Byte) : (s.setByte a b).ts = s.ts := rfl
@[simp] theorem State.setByte_mc (s : State) (a : Nat) (b : Byte) : (s.setByte a b).mc = s.mc := rfl
@[simp] theorem State.setByte_dma (s : State) (a : Nat) (b : Byte) : (s.setByte a b).dma = s.dma := rfl
@[simp] theorem State.setByte_now (s : State) (a : Nat) (b : Byte) : (s.setByte a b).now = s.now := rfl
@[simp] theorem State.setByte_free (s : State) (a : Nat) (b : Byte) : (s.setByte a b).free = s.free := rfl
@[simp] theorem State.setByte_lastRead (s : State) (a : Nat) (b : Byte) : (s.setByte a b).lastRead = s.lastRead := rfl
@[simp] theorem State.setByte_lastCpl (s : State) (a : Nat) (b : Byte) : (s.setByte a b).lastCpl = s.lastCpl := rfl
@[simp] theorem State.setByte_pending (s : State) (a : Nat) (b : Byte) : (s.setByte a b).pending = s.pending := rfl

/-! ### scrubMem -/

@[simp] theorem State.scrubMem_regs (s : State) (a n : Nat) : (s.scrubMem a n).regs = s.regs := rfl
@[simp] theorem State.scrubMem_latch (s : State) (a n : Nat) : (s.scrubMem a n).latch = s.latch := rfl
@[simp] theorem State.scrubMem_marks (s : State) (a n : Nat) : (s.scrubMem a n).marks = s.marks := rfl
@[simp] theorem State.scrubMem_raised (s : State) (a n : Nat) : (s.scrubMem a n).raised = s.raised := rfl
@[simp] theorem State.scrubMem_pins (s : State) (a n : Nat) : (s.scrubMem a n).pins = s.pins := rfl
@[simp] theorem State.scrubMem_hy (s : State) (a n : Nat) : (s.scrubMem a n).hy = s.hy := rfl
@[simp] theorem State.scrubMem_hi (s : State) (a n : Nat) : (s.scrubMem a n).hi = s.hi := rfl
@[simp] theorem State.scrubMem_nvj (s : State) (a n : Nat) : (s.scrubMem a n).nvj = s.nvj := rfl
@[simp] theorem State.scrubMem_hk (s : State) (a n : Nat) : (s.scrubMem a n).hk = s.hk := rfl
@[simp] theorem State.scrubMem_th (s : State) (a n : Nat) : (s.scrubMem a n).th = s.th := rfl
@[simp] theorem State.scrubMem_pm (s : State) (a n : Nat) : (s.scrubMem a n).pm = s.pm := rfl
@[simp] theorem State.scrubMem_tl (s : State) (a n : Nat) : (s.scrubMem a n).tl = s.tl := rfl
@[simp] theorem State.scrubMem_rf (s : State) (a n : Nat) : (s.scrubMem a n).rf = s.rf := rfl
@[simp] theorem State.scrubMem_cv (s : State) (a n : Nat) : (s.scrubMem a n).cv = s.cv := rfl
@[simp] theorem State.scrubMem_dfe (s : State) (a n : Nat) : (s.scrubMem a n).dfe = s.dfe := rfl
@[simp] theorem State.scrubMem_nvc (s : State) (a n : Nat) : (s.scrubMem a n).nvc = s.nvc := rfl
@[simp] theorem State.scrubMem_bf (s : State) (a n : Nat) : (s.scrubMem a n).bf = s.bf := rfl
@[simp] theorem State.scrubMem_ln (s : State) (a n : Nat) : (s.scrubMem a n).ln = s.ln := rfl
@[simp] theorem State.scrubMem_fh (s : State) (a n : Nat) : (s.scrubMem a n).fh = s.fh := rfl
@[simp] theorem State.scrubMem_ts (s : State) (a n : Nat) : (s.scrubMem a n).ts = s.ts := rfl
@[simp] theorem State.scrubMem_mc (s : State) (a n : Nat) : (s.scrubMem a n).mc = s.mc := rfl
@[simp] theorem State.scrubMem_dma (s : State) (a n : Nat) : (s.scrubMem a n).dma = s.dma := rfl
@[simp] theorem State.scrubMem_now (s : State) (a n : Nat) : (s.scrubMem a n).now = s.now := rfl
@[simp] theorem State.scrubMem_free (s : State) (a n : Nat) : (s.scrubMem a n).free = s.free := rfl
@[simp] theorem State.scrubMem_lastRead (s : State) (a n : Nat) : (s.scrubMem a n).lastRead = s.lastRead := rfl
@[simp] theorem State.scrubMem_lastCpl (s : State) (a n : Nat) : (s.scrubMem a n).lastCpl = s.lastCpl := rfl
@[simp] theorem State.scrubMem_pending (s : State) (a n : Nat) : (s.scrubMem a n).pending = s.pending := rfl

/-! ### raiseAs -/

@[simp] theorem State.raiseAs_regs (s : State) (e : Nat) (aud : Audience) (num : Nat) (items : List Nat) : (s.raiseAs e aud num items).regs = s.regs := rfl
@[simp] theorem State.raiseAs_mem (s : State) (e : Nat) (aud : Audience) (num : Nat) (items : List Nat) : (s.raiseAs e aud num items).mem = s.mem := rfl
@[simp] theorem State.raiseAs_latch (s : State) (e : Nat) (aud : Audience) (num : Nat) (items : List Nat) : (s.raiseAs e aud num items).latch = s.latch := rfl
@[simp] theorem State.raiseAs_marks (s : State) (e : Nat) (aud : Audience) (num : Nat) (items : List Nat) : (s.raiseAs e aud num items).marks = s.marks := rfl
@[simp] theorem State.raiseAs_pins (s : State) (e : Nat) (aud : Audience) (num : Nat) (items : List Nat) : (s.raiseAs e aud num items).pins = s.pins := rfl
@[simp] theorem State.raiseAs_hy (s : State) (e : Nat) (aud : Audience) (num : Nat) (items : List Nat) : (s.raiseAs e aud num items).hy = s.hy := rfl
@[simp] theorem State.raiseAs_hi (s : State) (e : Nat) (aud : Audience) (num : Nat) (items : List Nat) : (s.raiseAs e aud num items).hi = s.hi := rfl
@[simp] theorem State.raiseAs_nvj (s : State) (e : Nat) (aud : Audience) (num : Nat) (items : List Nat) : (s.raiseAs e aud num items).nvj = s.nvj := rfl
@[simp] theorem State.raiseAs_hk (s : State) (e : Nat) (aud : Audience) (num : Nat) (items : List Nat) : (s.raiseAs e aud num items).hk = s.hk := rfl
@[simp] theorem State.raiseAs_th (s : State) (e : Nat) (aud : Audience) (num : Nat) (items : List Nat) : (s.raiseAs e aud num items).th = s.th := rfl
@[simp] theorem State.raiseAs_pm (s : State) (e : Nat) (aud : Audience) (num : Nat) (items : List Nat) : (s.raiseAs e aud num items).pm = s.pm := rfl
@[simp] theorem State.raiseAs_tl (s : State) (e : Nat) (aud : Audience) (num : Nat) (items : List Nat) : (s.raiseAs e aud num items).tl = s.tl := rfl
@[simp] theorem State.raiseAs_rf (s : State) (e : Nat) (aud : Audience) (num : Nat) (items : List Nat) : (s.raiseAs e aud num items).rf = s.rf := rfl
@[simp] theorem State.raiseAs_cv (s : State) (e : Nat) (aud : Audience) (num : Nat) (items : List Nat) : (s.raiseAs e aud num items).cv = s.cv := rfl
@[simp] theorem State.raiseAs_dfe (s : State) (e : Nat) (aud : Audience) (num : Nat) (items : List Nat) : (s.raiseAs e aud num items).dfe = s.dfe := rfl
@[simp] theorem State.raiseAs_nvc (s : State) (e : Nat) (aud : Audience) (num : Nat) (items : List Nat) : (s.raiseAs e aud num items).nvc = s.nvc := rfl
@[simp] theorem State.raiseAs_bf (s : State) (e : Nat) (aud : Audience) (num : Nat) (items : List Nat) : (s.raiseAs e aud num items).bf = s.bf := rfl
@[simp] theorem State.raiseAs_ln (s : State) (e : Nat) (aud : Audience) (num : Nat) (items : List Nat) : (s.raiseAs e aud num items).ln = s.ln := rfl
@[simp] theorem State.raiseAs_fh (s : State) (e : Nat) (aud : Audience) (num : Nat) (items : List Nat) : (s.raiseAs e aud num items).fh = s.fh := rfl
@[simp] theorem State.raiseAs_ts (s : State) (e : Nat) (aud : Audience) (num : Nat) (items : List Nat) : (s.raiseAs e aud num items).ts = s.ts := rfl
@[simp] theorem State.raiseAs_mc (s : State) (e : Nat) (aud : Audience) (num : Nat) (items : List Nat) : (s.raiseAs e aud num items).mc = s.mc := rfl
@[simp] theorem State.raiseAs_dma (s : State) (e : Nat) (aud : Audience) (num : Nat) (items : List Nat) : (s.raiseAs e aud num items).dma = s.dma := rfl
@[simp] theorem State.raiseAs_now (s : State) (e : Nat) (aud : Audience) (num : Nat) (items : List Nat) : (s.raiseAs e aud num items).now = s.now := rfl
@[simp] theorem State.raiseAs_free (s : State) (e : Nat) (aud : Audience) (num : Nat) (items : List Nat) : (s.raiseAs e aud num items).free = s.free := rfl
@[simp] theorem State.raiseAs_lastRead (s : State) (e : Nat) (aud : Audience) (num : Nat) (items : List Nat) : (s.raiseAs e aud num items).lastRead = s.lastRead := rfl
@[simp] theorem State.raiseAs_lastCpl (s : State) (e : Nat) (aud : Audience) (num : Nat) (items : List Nat) : (s.raiseAs e aud num items).lastCpl = s.lastCpl := rfl
@[simp] theorem State.raiseAs_pending (s : State) (e : Nat) (aud : Audience) (num : Nat) (items : List Nat) : (s.raiseAs e aud num items).pending = s.pending := rfl

/-! ### raise -/

@[simp] theorem State.raise_regs (s : State) (e : Nat) (items : List Nat) : (s.raise e items).regs = s.regs := rfl
@[simp] theorem State.raise_mem (s : State) (e : Nat) (items : List Nat) : (s.raise e items).mem = s.mem := rfl
@[simp] theorem State.raise_latch (s : State) (e : Nat) (items : List Nat) : (s.raise e items).latch = s.latch := rfl
@[simp] theorem State.raise_marks (s : State) (e : Nat) (items : List Nat) : (s.raise e items).marks = s.marks := rfl
@[simp] theorem State.raise_pins (s : State) (e : Nat) (items : List Nat) : (s.raise e items).pins = s.pins := rfl
@[simp] theorem State.raise_hy (s : State) (e : Nat) (items : List Nat) : (s.raise e items).hy = s.hy := rfl
@[simp] theorem State.raise_hi (s : State) (e : Nat) (items : List Nat) : (s.raise e items).hi = s.hi := rfl
@[simp] theorem State.raise_nvj (s : State) (e : Nat) (items : List Nat) : (s.raise e items).nvj = s.nvj := rfl
@[simp] theorem State.raise_hk (s : State) (e : Nat) (items : List Nat) : (s.raise e items).hk = s.hk := rfl
@[simp] theorem State.raise_th (s : State) (e : Nat) (items : List Nat) : (s.raise e items).th = s.th := rfl
@[simp] theorem State.raise_pm (s : State) (e : Nat) (items : List Nat) : (s.raise e items).pm = s.pm := rfl
@[simp] theorem State.raise_tl (s : State) (e : Nat) (items : List Nat) : (s.raise e items).tl = s.tl := rfl
@[simp] theorem State.raise_rf (s : State) (e : Nat) (items : List Nat) : (s.raise e items).rf = s.rf := rfl
@[simp] theorem State.raise_cv (s : State) (e : Nat) (items : List Nat) : (s.raise e items).cv = s.cv := rfl
@[simp] theorem State.raise_dfe (s : State) (e : Nat) (items : List Nat) : (s.raise e items).dfe = s.dfe := rfl
@[simp] theorem State.raise_nvc (s : State) (e : Nat) (items : List Nat) : (s.raise e items).nvc = s.nvc := rfl
@[simp] theorem State.raise_bf (s : State) (e : Nat) (items : List Nat) : (s.raise e items).bf = s.bf := rfl
@[simp] theorem State.raise_ln (s : State) (e : Nat) (items : List Nat) : (s.raise e items).ln = s.ln := rfl
@[simp] theorem State.raise_fh (s : State) (e : Nat) (items : List Nat) : (s.raise e items).fh = s.fh := rfl
@[simp] theorem State.raise_ts (s : State) (e : Nat) (items : List Nat) : (s.raise e items).ts = s.ts := rfl
@[simp] theorem State.raise_mc (s : State) (e : Nat) (items : List Nat) : (s.raise e items).mc = s.mc := rfl
@[simp] theorem State.raise_dma (s : State) (e : Nat) (items : List Nat) : (s.raise e items).dma = s.dma := rfl
@[simp] theorem State.raise_now (s : State) (e : Nat) (items : List Nat) : (s.raise e items).now = s.now := rfl
@[simp] theorem State.raise_free (s : State) (e : Nat) (items : List Nat) : (s.raise e items).free = s.free := rfl
@[simp] theorem State.raise_lastRead (s : State) (e : Nat) (items : List Nat) : (s.raise e items).lastRead = s.lastRead := rfl
@[simp] theorem State.raise_lastCpl (s : State) (e : Nat) (items : List Nat) : (s.raise e items).lastCpl = s.lastCpl := rfl
@[simp] theorem State.raise_pending (s : State) (e : Nat) (items : List Nat) : (s.raise e items).pending = s.pending := rfl

/-! ### raiseTo -/

@[simp] theorem State.raiseTo_regs (s : State) (e : Nat) (owner : Option Nat) (items : List Nat) : (s.raiseTo e owner items).regs = s.regs := by
  cases owner <;> rfl
@[simp] theorem State.raiseTo_mem (s : State) (e : Nat) (owner : Option Nat) (items : List Nat) : (s.raiseTo e owner items).mem = s.mem := by
  cases owner <;> rfl
@[simp] theorem State.raiseTo_latch (s : State) (e : Nat) (owner : Option Nat) (items : List Nat) : (s.raiseTo e owner items).latch = s.latch := by
  cases owner <;> rfl
@[simp] theorem State.raiseTo_marks (s : State) (e : Nat) (owner : Option Nat) (items : List Nat) : (s.raiseTo e owner items).marks = s.marks := by
  cases owner <;> rfl
@[simp] theorem State.raiseTo_pins (s : State) (e : Nat) (owner : Option Nat) (items : List Nat) : (s.raiseTo e owner items).pins = s.pins := by
  cases owner <;> rfl
@[simp] theorem State.raiseTo_hy (s : State) (e : Nat) (owner : Option Nat) (items : List Nat) : (s.raiseTo e owner items).hy = s.hy := by
  cases owner <;> rfl
@[simp] theorem State.raiseTo_hi (s : State) (e : Nat) (owner : Option Nat) (items : List Nat) : (s.raiseTo e owner items).hi = s.hi := by
  cases owner <;> rfl
@[simp] theorem State.raiseTo_nvj (s : State) (e : Nat) (owner : Option Nat) (items : List Nat) : (s.raiseTo e owner items).nvj = s.nvj := by
  cases owner <;> rfl
@[simp] theorem State.raiseTo_hk (s : State) (e : Nat) (owner : Option Nat) (items : List Nat) : (s.raiseTo e owner items).hk = s.hk := by
  cases owner <;> rfl
@[simp] theorem State.raiseTo_th (s : State) (e : Nat) (owner : Option Nat) (items : List Nat) : (s.raiseTo e owner items).th = s.th := by
  cases owner <;> rfl
@[simp] theorem State.raiseTo_pm (s : State) (e : Nat) (owner : Option Nat) (items : List Nat) : (s.raiseTo e owner items).pm = s.pm := by
  cases owner <;> rfl
@[simp] theorem State.raiseTo_tl (s : State) (e : Nat) (owner : Option Nat) (items : List Nat) : (s.raiseTo e owner items).tl = s.tl := by
  cases owner <;> rfl
@[simp] theorem State.raiseTo_rf (s : State) (e : Nat) (owner : Option Nat) (items : List Nat) : (s.raiseTo e owner items).rf = s.rf := by
  cases owner <;> rfl
@[simp] theorem State.raiseTo_cv (s : State) (e : Nat) (owner : Option Nat) (items : List Nat) : (s.raiseTo e owner items).cv = s.cv := by
  cases owner <;> rfl
@[simp] theorem State.raiseTo_dfe (s : State) (e : Nat) (owner : Option Nat) (items : List Nat) : (s.raiseTo e owner items).dfe = s.dfe := by
  cases owner <;> rfl
@[simp] theorem State.raiseTo_nvc (s : State) (e : Nat) (owner : Option Nat) (items : List Nat) : (s.raiseTo e owner items).nvc = s.nvc := by
  cases owner <;> rfl
@[simp] theorem State.raiseTo_bf (s : State) (e : Nat) (owner : Option Nat) (items : List Nat) : (s.raiseTo e owner items).bf = s.bf := by
  cases owner <;> rfl
@[simp] theorem State.raiseTo_ln (s : State) (e : Nat) (owner : Option Nat) (items : List Nat) : (s.raiseTo e owner items).ln = s.ln := by
  cases owner <;> rfl
@[simp] theorem State.raiseTo_fh (s : State) (e : Nat) (owner : Option Nat) (items : List Nat) : (s.raiseTo e owner items).fh = s.fh := by
  cases owner <;> rfl
@[simp] theorem State.raiseTo_ts (s : State) (e : Nat) (owner : Option Nat) (items : List Nat) : (s.raiseTo e owner items).ts = s.ts := by
  cases owner <;> rfl
@[simp] theorem State.raiseTo_mc (s : State) (e : Nat) (owner : Option Nat) (items : List Nat) : (s.raiseTo e owner items).mc = s.mc := by
  cases owner <;> rfl
@[simp] theorem State.raiseTo_dma (s : State) (e : Nat) (owner : Option Nat) (items : List Nat) : (s.raiseTo e owner items).dma = s.dma := by
  cases owner <;> rfl
@[simp] theorem State.raiseTo_now (s : State) (e : Nat) (owner : Option Nat) (items : List Nat) : (s.raiseTo e owner items).now = s.now := by
  cases owner <;> rfl
@[simp] theorem State.raiseTo_free (s : State) (e : Nat) (owner : Option Nat) (items : List Nat) : (s.raiseTo e owner items).free = s.free := by
  cases owner <;> rfl
@[simp] theorem State.raiseTo_lastRead (s : State) (e : Nat) (owner : Option Nat) (items : List Nat) : (s.raiseTo e owner items).lastRead = s.lastRead := by
  cases owner <;> rfl
@[simp] theorem State.raiseTo_lastCpl (s : State) (e : Nat) (owner : Option Nat) (items : List Nat) : (s.raiseTo e owner items).lastCpl = s.lastCpl := by
  cases owner <;> rfl
@[simp] theorem State.raiseTo_pending (s : State) (e : Nat) (owner : Option Nat) (items : List Nat) : (s.raiseTo e owner items).pending = s.pending := by
  cases owner <;> rfl

/-! ### A byte string -/

@[simp] theorem State.setBytes_regs (s : State) (a : Nat) (l : List Byte) : (s.setBytes a l).regs = s.regs := by
  induction l generalizing s a with
  | nil => rfl
  | cons b l ih => exact ih ..
@[simp] theorem State.setBytes_latch (s : State) (a : Nat) (l : List Byte) : (s.setBytes a l).latch = s.latch := by
  induction l generalizing s a with
  | nil => rfl
  | cons b l ih => exact ih ..
@[simp] theorem State.setBytes_raised (s : State) (a : Nat) (l : List Byte) : (s.setBytes a l).raised = s.raised := by
  induction l generalizing s a with
  | nil => rfl
  | cons b l ih => exact ih ..
@[simp] theorem State.setBytes_pins (s : State) (a : Nat) (l : List Byte) : (s.setBytes a l).pins = s.pins := by
  induction l generalizing s a with
  | nil => rfl
  | cons b l ih => exact ih ..
@[simp] theorem State.setBytes_hy (s : State) (a : Nat) (l : List Byte) : (s.setBytes a l).hy = s.hy := by
  induction l generalizing s a with
  | nil => rfl
  | cons b l ih => exact ih ..
@[simp] theorem State.setBytes_hi (s : State) (a : Nat) (l : List Byte) : (s.setBytes a l).hi = s.hi := by
  induction l generalizing s a with
  | nil => rfl
  | cons b l ih => exact ih ..
@[simp] theorem State.setBytes_nvj (s : State) (a : Nat) (l : List Byte) : (s.setBytes a l).nvj = s.nvj := by
  induction l generalizing s a with
  | nil => rfl
  | cons b l ih => exact ih ..
@[simp] theorem State.setBytes_hk (s : State) (a : Nat) (l : List Byte) : (s.setBytes a l).hk = s.hk := by
  induction l generalizing s a with
  | nil => rfl
  | cons b l ih => exact ih ..
@[simp] theorem State.setBytes_th (s : State) (a : Nat) (l : List Byte) : (s.setBytes a l).th = s.th := by
  induction l generalizing s a with
  | nil => rfl
  | cons b l ih => exact ih ..
@[simp] theorem State.setBytes_pm (s : State) (a : Nat) (l : List Byte) : (s.setBytes a l).pm = s.pm := by
  induction l generalizing s a with
  | nil => rfl
  | cons b l ih => exact ih ..
@[simp] theorem State.setBytes_tl (s : State) (a : Nat) (l : List Byte) : (s.setBytes a l).tl = s.tl := by
  induction l generalizing s a with
  | nil => rfl
  | cons b l ih => exact ih ..
@[simp] theorem State.setBytes_rf (s : State) (a : Nat) (l : List Byte) : (s.setBytes a l).rf = s.rf := by
  induction l generalizing s a with
  | nil => rfl
  | cons b l ih => exact ih ..
@[simp] theorem State.setBytes_cv (s : State) (a : Nat) (l : List Byte) : (s.setBytes a l).cv = s.cv := by
  induction l generalizing s a with
  | nil => rfl
  | cons b l ih => exact ih ..
@[simp] theorem State.setBytes_dfe (s : State) (a : Nat) (l : List Byte) : (s.setBytes a l).dfe = s.dfe := by
  induction l generalizing s a with
  | nil => rfl
  | cons b l ih => exact ih ..
@[simp] theorem State.setBytes_nvc (s : State) (a : Nat) (l : List Byte) : (s.setBytes a l).nvc = s.nvc := by
  induction l generalizing s a with
  | nil => rfl
  | cons b l ih => exact ih ..
@[simp] theorem State.setBytes_bf (s : State) (a : Nat) (l : List Byte) : (s.setBytes a l).bf = s.bf := by
  induction l generalizing s a with
  | nil => rfl
  | cons b l ih => exact ih ..
@[simp] theorem State.setBytes_ln (s : State) (a : Nat) (l : List Byte) : (s.setBytes a l).ln = s.ln := by
  induction l generalizing s a with
  | nil => rfl
  | cons b l ih => exact ih ..
@[simp] theorem State.setBytes_fh (s : State) (a : Nat) (l : List Byte) : (s.setBytes a l).fh = s.fh := by
  induction l generalizing s a with
  | nil => rfl
  | cons b l ih => exact ih ..
@[simp] theorem State.setBytes_ts (s : State) (a : Nat) (l : List Byte) : (s.setBytes a l).ts = s.ts := by
  induction l generalizing s a with
  | nil => rfl
  | cons b l ih => exact ih ..
@[simp] theorem State.setBytes_mc (s : State) (a : Nat) (l : List Byte) : (s.setBytes a l).mc = s.mc := by
  induction l generalizing s a with
  | nil => rfl
  | cons b l ih => exact ih ..
@[simp] theorem State.setBytes_dma (s : State) (a : Nat) (l : List Byte) : (s.setBytes a l).dma = s.dma := by
  induction l generalizing s a with
  | nil => rfl
  | cons b l ih => exact ih ..
@[simp] theorem State.setBytes_now (s : State) (a : Nat) (l : List Byte) : (s.setBytes a l).now = s.now := by
  induction l generalizing s a with
  | nil => rfl
  | cons b l ih => exact ih ..
@[simp] theorem State.setBytes_free (s : State) (a : Nat) (l : List Byte) : (s.setBytes a l).free = s.free := by
  induction l generalizing s a with
  | nil => rfl
  | cons b l ih => exact ih ..
@[simp] theorem State.setBytes_lastRead (s : State) (a : Nat) (l : List Byte) : (s.setBytes a l).lastRead = s.lastRead := by
  induction l generalizing s a with
  | nil => rfl
  | cons b l ih => exact ih ..
@[simp] theorem State.setBytes_lastCpl (s : State) (a : Nat) (l : List Byte) : (s.setBytes a l).lastCpl = s.lastCpl := by
  induction l generalizing s a with
  | nil => rfl
  | cons b l ih => exact ih ..
@[simp] theorem State.setBytes_pending (s : State) (a : Nat) (l : List Byte) : (s.setBytes a l).pending = s.pending := by
  induction l generalizing s a with
  | nil => rfl
  | cons b l ih => exact ih ..

end Sys2Proof.Machine
end

