-- ==== Sys2Proof/Laws/Ops.lean ====
section
/-! SUPPORT. What the named operations over registers and memory give: a read after a write, field by field, and what each
leaves alone. -/

namespace Sys2Proof.Machine

/-! ### Bit ranges -/

theorem fldGet_testBit (f : Fld) (w : Word) (i : Nat) : (fldGet f w).testBit i = (decide (i < f.w) && w.getLsbD (f.lo + i)) := by
  unfold fldGet
  rw [Nat.testBit_mod_two_pow, Nat.testBit_div_two_pow, BitVec.testBit_toNat, Nat.add_comm]

/-- A field is below its width's power of two. -/
theorem fldGet_lt (f : Fld) (w : Word) : fldGet f w < 2 ^ f.w := Nat.mod_lt _ (Nat.two_pow_pos _)

theorem fldSet_getLsbD (f : Fld) (w : Word) (v i : Nat) (hi : i < 32) :
    (fldSet f w v).getLsbD i = if f.lo ≤ i ∧ i < f.lo + f.w then v.testBit (i - f.lo) else w.getLsbD i := by
  have hmask : ∀ n : Nat, (BitVec.ofNat 32 (n * 2 ^ f.lo)).getLsbD i = (decide (f.lo ≤ i) && n.testBit (i - f.lo)) := by
    intro n
    rw [BitVec.getLsbD_ofNat, Nat.testBit_mul_two_pow]
    simp [hi]
  unfold fldSet
  simp only [BitVec.getLsbD_or, BitVec.getLsbD_and, BitVec.getLsbD_not, hmask, hi, decide_true, Bool.true_and,
    Nat.testBit_two_pow_sub_one, Nat.testBit_mod_two_pow]
  by_cases h1 : f.lo ≤ i
  · by_cases h2 : i < f.lo + f.w
    · have h3 : i - f.lo < f.w := by omega
      simp [h1, h2, h3]
    · have h3 : ¬ i - f.lo < f.w := by omega
      simp [h1, h2, h3]
  · simp [h1]

/-- The field set reads as the value, cut to its width. -/
theorem fldGet_fldSet_same (f : Fld) (w : Word) (v : Nat) (h : f.lo + f.w ≤ 32) : fldGet f (fldSet f w v) = v % 2 ^ f.w := by
  apply Nat.eq_of_testBit_eq
  intro i
  rw [fldGet_testBit, Nat.testBit_mod_two_pow]
  by_cases hi : i < f.w
  · rw [fldSet_getLsbD _ _ _ _ (by omega), if_pos (by omega)]
    simp
  · simp [hi]

/-- A field apart from the one set reads as before. -/
theorem fldGet_fldSet_ne (f g : Fld) (w : Word) (v : Nat) (h : g.lo + g.w ≤ f.lo ∨ f.lo + f.w ≤ g.lo) (hg : g.lo + g.w ≤ 32) :
    fldGet g (fldSet f w v) = fldGet g w := by
  apply Nat.eq_of_testBit_eq
  intro i
  rw [fldGet_testBit, fldGet_testBit]
  by_cases hi : i < g.w
  · rw [fldSet_getLsbD _ _ _ _ (by omega), if_neg (by omega)]
  · simp [hi]

/-! ### Registers -/

/-- States with the same register file read alike. -/
theorem State.rd_congr {s t : State} (h : t.regs = s.regs) (a : Nat) : t.rd a = s.rd a := by unfold State.rd; rw [h]
theorem State.get_congr {s t : State} (h : t.regs = s.regs) (a : Nat) (f : Fld) : t.get a f = s.get a f := by
  unfold State.get; rw [State.rd_congr h]
theorem State.flag_congr {s t : State} (h : t.regs = s.regs) (a : Nat) (f : Fld) : t.flag a f = s.flag a f := by
  unfold State.flag; rw [State.get_congr h]
theorem State.byte_congr {s t : State} (h : t.mem = s.mem) (a : Nat) : t.byte a = s.byte a := by unfold State.byte; rw [h]

@[simp] theorem State.rd_wr_same (s : State) (a : Nat) (v : Word) : (s.wr a v).rd a = v := sparseGet_set_same ..
theorem State.rd_wr_ne (s : State) {a b : Nat} (h : b ≠ a) (v : Word) : (s.wr a v).rd b = s.rd b := sparseGet_set_ne _ _ h _
@[simp] theorem State.rd_wrN_same (s : State) (a n : Nat) : (s.wrN a n).rd a = BitVec.ofNat 32 n := State.rd_wr_same ..
theorem State.rd_wrN_ne (s : State) {a b : Nat} (h : b ≠ a) (n : Nat) : (s.wrN a n).rd b = s.rd b := State.rd_wr_ne s h _
@[simp] theorem State.rd_put_same (s : State) (a : Nat) (f : Fld) (v : Nat) : (s.put a f v).rd a = fldSet f (s.rd a) v := State.rd_wr_same ..
theorem State.rd_put_ne (s : State) {a b : Nat} (h : b ≠ a) (f : Fld) (v : Nat) : (s.put a f v).rd b = s.rd b := State.rd_wr_ne s h _
theorem State.rd_setFlag_ne (s : State) {a b : Nat} (h : b ≠ a) (f : Fld) (v : Bool) : (s.setFlag a f v).rd b = s.rd b :=
  State.rd_put_ne s h _ _

@[simp] theorem State.rd_mark (s : State) (a b : Nat) (m : Word) : (s.mark a m).rd b = s.rd b := rfl
@[simp] theorem State.rd_stick_same (s : State) (a : Nat) (m : Word) : (s.stick a m).rd a = s.rd a ||| m := State.rd_wr_same ..
theorem State.rd_stick_ne (s : State) {a b : Nat} (h : b ≠ a) (m : Word) : (s.stick a m).rd b = s.rd b := State.rd_wr_ne s h _
theorem State.rd_stickFlag_ne (s : State) {a b : Nat} (h : b ≠ a) (f : Fld) : (s.stickFlag a f).rd b = s.rd b := State.rd_wr_ne s h _
theorem State.rd_count_ne (s : State) {a b : Nat} (h : b ≠ a) : (s.count a).rd b = s.rd b := State.rd_wr_ne s h _
/-- An error counter counts one more, up to its end (R90). -/
theorem State.rd_count_same (s : State) (a : Nat) : ((s.count a).rd a).toNat = min ((s.rd a).toNat + 1) (2 ^ 32 - 1) := by
  have h : (s.count a).rd a = if (s.rd a).toNat = 2 ^ 32 - 1 then s.rd a else s.rd a + 1 := State.rd_wr_same ..
  have hl := (s.rd a).isLt
  rw [h]
  split
  · omega
  · rw [BitVec.toNat_add]
    have : (1 : Word).toNat = 1 := rfl
    omega

/-- A field written reads back, cut to its width. -/
theorem State.get_put_same (s : State) (a : Nat) (f : Fld) (v : Nat) (h : f.lo + f.w ≤ 32) : (s.put a f v).get a f = v % 2 ^ f.w := by
  unfold State.get; rw [State.rd_put_same, fldGet_fldSet_same _ _ _ h]

/-- Another field of the register written reads as before. -/
theorem State.get_put_apart (s : State) (a : Nat) (f g : Fld) (v : Nat) (h : g.lo + g.w ≤ f.lo ∨ f.lo + f.w ≤ g.lo) (hg : g.lo + g.w ≤ 32) :
    (s.put a f v).get a g = s.get a g := by
  unfold State.get; rw [State.rd_put_same, fldGet_fldSet_ne _ _ _ _ h hg]

/-- A field of another register reads as before. -/
theorem State.get_put_ne (s : State) {a b : Nat} (h : b ≠ a) (f g : Fld) (v : Nat) : (s.put a f v).get b g = s.get b g := by
  unfold State.get; rw [State.rd_put_ne s h]
theorem State.get_setFlag_ne (s : State) {a b : Nat} (h : b ≠ a) (f g : Fld) (v : Bool) : (s.setFlag a f v).get b g = s.get b g :=
  State.get_put_ne s h _ _ _
theorem State.get_setFlag_apart (s : State) (a : Nat) (f g : Fld) (v : Bool) (h : g.lo + g.w ≤ f.lo ∨ f.lo + f.w ≤ g.lo)
    (hg : g.lo + g.w ≤ 32) : (s.setFlag a f v).get a g = s.get a g := State.get_put_apart s a f g _ h hg
theorem State.get_wr_ne (s : State) {a b : Nat} (h : b ≠ a) (v : Word) (g : Fld) : (s.wr a v).get b g = s.get b g := by
  unfold State.get; rw [State.rd_wr_ne s h]
theorem State.get_wrN_ne (s : State) {a b : Nat} (h : b ≠ a) (n : Nat) (g : Fld) : (s.wrN a n).get b g = s.get b g :=
  State.get_wr_ne s h _ _

/-- A one-bit field set to a truth value reads as it. -/
theorem State.flag_setFlag_same (s : State) (a : Nat) (f : Fld) (b : Bool) (h : f.lo + f.w ≤ 32) (hw : f.w = 1) :
    (s.setFlag a f b).flag a f = b := by
  unfold State.flag State.setFlag
  rw [State.get_put_same _ _ _ _ h, hw]
  cases b <;> rfl

theorem State.get_lt (s : State) (a : Nat) (f : Fld) : s.get a f < 2 ^ f.w := fldGet_lt _ _

/-! ### Registers under what writes no register -/

@[simp] theorem State.rd_setByte (s : State) (a b : Nat) (v : Byte) : (s.setByte a v).rd b = s.rd b := rfl
@[simp] theorem State.rd_setBytes (s : State) (a b : Nat) (l : List Byte) : (s.setBytes a l).rd b = s.rd b := State.rd_congr (by simp) b
@[simp] theorem State.rd_scrubMem (s : State) (a n b : Nat) : (s.scrubMem a n).rd b = s.rd b := rfl
@[simp] theorem State.rd_raiseAs (s : State) (e : Nat) (aud : Audience) (num : Nat) (items : List Nat) (b : Nat) :
    (s.raiseAs e aud num items).rd b = s.rd b := rfl
@[simp] theorem State.rd_raise (s : State) (e : Nat) (items : List Nat) (b : Nat) : (s.raise e items).rd b = s.rd b := rfl
@[simp] theorem State.rd_raiseTo (s : State) (e : Nat) (owner : Option Nat) (items : List Nat) (b : Nat) :
    (s.raiseTo e owner items).rd b = s.rd b := State.rd_congr (by simp) b
@[simp] theorem State.get_setBytes (s : State) (a b : Nat) (l : List Byte) (f : Fld) : (s.setBytes a l).get b f = s.get b f :=
  State.get_congr (by simp) b f
@[simp] theorem State.get_raise (s : State) (e : Nat) (items : List Nat) (b : Nat) (f : Fld) : (s.raise e items).get b f = s.get b f := rfl
@[simp] theorem State.get_raiseTo (s : State) (e : Nat) (owner : Option Nat) (items : List Nat) (b : Nat) (f : Fld) :
    (s.raiseTo e owner items).get b f = s.get b f := State.get_congr (by simp) b f
@[simp] theorem State.flag_raise (s : State) (e : Nat) (items : List Nat) (b : Nat) (f : Fld) : (s.raise e items).flag b f = s.flag b f := rfl

/-! ### Memory -/

@[simp] theorem State.byte_wr (s : State) (a b : Nat) (v : Word) : (s.wr a v).byte b = s.byte b := rfl
@[simp] theorem State.byte_put (s : State) (a b : Nat) (f : Fld) (v : Nat) : (s.put a f v).byte b = s.byte b := rfl
@[simp] theorem State.byte_setFlag (s : State) (a b : Nat) (f : Fld) (v : Bool) : (s.setFlag a f v).byte b = s.byte b := rfl
@[simp] theorem State.byte_setByte_same (s : State) (a : Nat) (v : Byte) : (s.setByte a v).byte a = v := sparseGet_set_same ..
theorem State.byte_setByte_ne (s : State) {a b : Nat} (h : b ≠ a) (v : Byte) : (s.setByte a v).byte b = s.byte b :=
  sparseGet_set_ne _ _ h _

/-- A byte string stored reads back byte by byte, and every byte outside it reads as before. -/
theorem State.byte_setBytes (s : State) (a : Nat) (l : List Byte) (b : Nat) :
    (s.setBytes a l).byte b = if h : a ≤ b ∧ b - a < l.length then l[b - a]'h.2 else s.byte b := by
  induction l generalizing s a with
  | nil => simp [State.setBytes]
  | cons x l ih =>
    unfold State.setBytes
    rw [ih]
    by_cases h1 : b = a
    · subst h1
      rw [dif_neg (by omega), dif_pos (by simp)]
      simp
    · by_cases h2 : a ≤ b ∧ b - a < (x :: l).length
      · have h3 : a + 1 ≤ b ∧ b - (a + 1) < l.length := by
          simp only [List.length_cons] at h2; omega
        rw [dif_pos h3, dif_pos h2]
        have h4 : b - a = (b - (a + 1)) + 1 := by omega
        simp [h4]
      · have h3 : ¬ (a + 1 ≤ b ∧ b - (a + 1) < l.length) := by
          simp only [List.length_cons] at h2; omega
        rw [dif_neg h3, dif_neg h2, State.byte_setByte_ne _ h1]

theorem State.byte_setBytes_out (s : State) (a : Nat) (l : List Byte) {b : Nat} (h : b < a ∨ a + l.length ≤ b) :
    (s.setBytes a l).byte b = s.byte b := by
  rw [State.byte_setBytes, dif_neg (by omega)]

/-- A span set back reads as unlisted; every byte outside it reads as before. -/
theorem State.byte_scrubMem (s : State) (a n b : Nat) :
    (s.scrubMem a n).byte b = if a ≤ b ∧ b < a + n then unlisted b else s.byte b := sparseGet_clear ..

theorem leBytes_length (n v : Nat) : (leBytes n v).length = n := by
  induction n generalizing v with
  | zero => rfl
  | succ n ih => simp [leBytes, ih]

end Sys2Proof.Machine
end

