-- ==== Sys2Proof/Laws/Within.lean ====
section
/-! SUPPORT. What every operation and every command leaves alone (`Within`), and what all of them keep: the queue, the time and the
canonical form of the tables. Here the general lemmas and those of the named operations; one lemma for each meaning and for each
operation it calls stands in the files Within1 to Within8, under the operation's name. -/

namespace Sys2Proof.Machine

variable {P : Nat → Prop} {L : Part → Prop}

theorem Part.same_refl (s : State) (p : Part) : p.same s s := by cases p <;> exact rfl

theorem Part.same_trans {s t u : State} {p : Part} (h : p.same s t) (k : p.same t u) : p.same s u := by
  cases p <;> exact Eq.trans k h

theorem Within.refl (s : State) : Within P L s s := ⟨⟨rfl, rfl, id, id⟩, fun _ _ => rfl, fun p _ => p.same_refl s⟩

theorem Within.trans {s t u : State} (h : Within P L s t) (k : Within P L t u) : Within P L s u :=
  ⟨⟨k.keeps.pending.trans h.keeps.pending, k.keeps.now.trans h.keeps.now, k.keeps.canonRegs ∘ h.keeps.canonRegs,
      k.keeps.canonMem ∘ h.keeps.canonMem⟩,
    fun a ha => (k.regs a ha).trans (h.regs a ha), fun p hp => Part.same_trans (h.parts p hp) (k.parts p hp)⟩

theorem Within.mono {P' : Nat → Prop} {L' : Part → Prop} {s t : State} (h : Within P L s t) (hP : ∀ a, P a → P' a)
    (hL : ∀ p, L p → L' p) : Within P' L' s t :=
  ⟨h.keeps, fun a ha => h.regs a (fun e => ha (hP a e)), fun p hp => h.parts p (fun e => hp (hL p e))⟩

/-- Where everything may change, only the queue, the time and the canonical forms say something. -/
theorem Within.all {s t : State} (hP : ∀ a, P a) (hL : ∀ p, L p) (k : Keeps s t) : Within P L s t :=
  ⟨k, fun a ha => absurd (hP a) ha, fun p hp => absurd (hL p) hp⟩

/-- A change of other fields than the tables, the time and the queue. -/
theorem Within.upd_parts {s u v : State} (hr : v.regs = u.regs) (hm : v.mem = u.mem) (hq : v.pending = u.pending) (hn : v.now = u.now)
    (hp : ∀ p, ¬ L p → p.same u v) : Within P L s v ↔ Within P L s u := by
  have hv : Within P L u v :=
    ⟨⟨hq, hn, fun h => hr ▸ h, fun h => hm ▸ h⟩, fun a _ => by unfold State.rd; rw [hr], hp⟩
  have hu : Within P L v u :=
    ⟨⟨hq.symm, hn.symm, fun h => hr ▸ h, fun h => hm ▸ h⟩, fun a _ => by unfold State.rd; rw [hr],
      fun p h => by have := hp p h; cases p <;> exact this.symm⟩
  exact ⟨fun h => h.trans hu, fun h => h.trans hv⟩

/-! ### Changes of the named parts -/

theorem Within.upd_bf {s u : State} {bf} (lbf : L .bf) :
    Within P L s (State.mk u.regs u.mem u.latch u.marks u.raised u.pins u.hy u.hi u.nvj u.hk u.th u.pm u.tl u.rf u.cv u.dfe
      u.nvc bf u.ln u.fh u.ts u.mc u.dma u.now u.free u.lastRead u.lastCpl u.pending) ↔ Within P L s u :=
  Within.upd_parts rfl rfl rfl rfl (fun p hp => by cases p <;> first | exact rfl | exact absurd (by assumption) hp)

theorem Within.upd_bf_fh {s u : State} {bf fh} (lbf : L .bf) (lfh : L .fh) :
    Within P L s (State.mk u.regs u.mem u.latch u.marks u.raised u.pins u.hy u.hi u.nvj u.hk u.th u.pm u.tl u.rf u.cv u.dfe
      u.nvc bf u.ln fh u.ts u.mc u.dma u.now u.free u.lastRead u.lastCpl u.pending) ↔ Within P L s u :=
  Within.upd_parts rfl rfl rfl rfl (fun p hp => by cases p <;> first | exact rfl | exact absurd (by assumption) hp)

theorem Within.upd_cv {s u : State} {cv} (lcv : L .cv) :
    Within P L s (State.mk u.regs u.mem u.latch u.marks u.raised u.pins u.hy u.hi u.nvj u.hk u.th u.pm u.tl u.rf cv u.dfe
      u.nvc u.bf u.ln u.fh u.ts u.mc u.dma u.now u.free u.lastRead u.lastCpl u.pending) ↔ Within P L s u :=
  Within.upd_parts rfl rfl rfl rfl (fun p hp => by cases p <;> first | exact rfl | exact absurd (by assumption) hp)

theorem Within.upd_cv_mc {s u : State} {cv mc} (lcv : L .cv) (lmc : L .mc) :
    Within P L s (State.mk u.regs u.mem u.latch u.marks u.raised u.pins u.hy u.hi u.nvj u.hk u.th u.pm u.tl u.rf cv u.dfe
      u.nvc u.bf u.ln u.fh u.ts mc u.dma u.now u.free u.lastRead u.lastCpl u.pending) ↔ Within P L s u :=
  Within.upd_parts rfl rfl rfl rfl (fun p hp => by cases p <;> first | exact rfl | exact absurd (by assumption) hp)

theorem Within.upd_dfe {s u : State} {dfe} (ldfe : L .dfe) :
    Within P L s (State.mk u.regs u.mem u.latch u.marks u.raised u.pins u.hy u.hi u.nvj u.hk u.th u.pm u.tl u.rf u.cv dfe
      u.nvc u.bf u.ln u.fh u.ts u.mc u.dma u.now u.free u.lastRead u.lastCpl u.pending) ↔ Within P L s u :=
  Within.upd_parts rfl rfl rfl rfl (fun p hp => by cases p <;> first | exact rfl | exact absurd (by assumption) hp)

theorem Within.upd_dma {s u : State} {dma} (ldma : L .dma) :
    Within P L s (State.mk u.regs u.mem u.latch u.marks u.raised u.pins u.hy u.hi u.nvj u.hk u.th u.pm u.tl u.rf u.cv u.dfe
      u.nvc u.bf u.ln u.fh u.ts u.mc dma u.now u.free u.lastRead u.lastCpl u.pending) ↔ Within P L s u :=
  Within.upd_parts rfl rfl rfl rfl (fun p hp => by cases p <;> first | exact rfl | exact absurd (by assumption) hp)

theorem Within.upd_fh {s u : State} {fh} (lfh : L .fh) :
    Within P L s (State.mk u.regs u.mem u.latch u.marks u.raised u.pins u.hy u.hi u.nvj u.hk u.th u.pm u.tl u.rf u.cv u.dfe
      u.nvc u.bf u.ln fh u.ts u.mc u.dma u.now u.free u.lastRead u.lastCpl u.pending) ↔ Within P L s u :=
  Within.upd_parts rfl rfl rfl rfl (fun p hp => by cases p <;> first | exact rfl | exact absurd (by assumption) hp)

theorem Within.upd_free {s u : State} {free} (lfree : L .free) :
    Within P L s (State.mk u.regs u.mem u.latch u.marks u.raised u.pins u.hy u.hi u.nvj u.hk u.th u.pm u.tl u.rf u.cv u.dfe
      u.nvc u.bf u.ln u.fh u.ts u.mc u.dma u.now free u.lastRead u.lastCpl u.pending) ↔ Within P L s u :=
  Within.upd_parts rfl rfl rfl rfl (fun p hp => by cases p <;> first | exact rfl | exact absurd (by assumption) hp)

theorem Within.upd_hi {s u : State} {hi} (lhi : L .hi) :
    Within P L s (State.mk u.regs u.mem u.latch u.marks u.raised u.pins u.hy hi u.nvj u.hk u.th u.pm u.tl u.rf u.cv u.dfe
      u.nvc u.bf u.ln u.fh u.ts u.mc u.dma u.now u.free u.lastRead u.lastCpl u.pending) ↔ Within P L s u :=
  Within.upd_parts rfl rfl rfl rfl (fun p hp => by cases p <;> first | exact rfl | exact absurd (by assumption) hp)

theorem Within.upd_hi_mc {s u : State} {hi mc} (lhi : L .hi) (lmc : L .mc) :
    Within P L s (State.mk u.regs u.mem u.latch u.marks u.raised u.pins u.hy hi u.nvj u.hk u.th u.pm u.tl u.rf u.cv u.dfe
      u.nvc u.bf u.ln u.fh u.ts mc u.dma u.now u.free u.lastRead u.lastCpl u.pending) ↔ Within P L s u :=
  Within.upd_parts rfl rfl rfl rfl (fun p hp => by cases p <;> first | exact rfl | exact absurd (by assumption) hp)

theorem Within.upd_hk {s u : State} {hk} (lhk : L .hk) :
    Within P L s (State.mk u.regs u.mem u.latch u.marks u.raised u.pins u.hy u.hi u.nvj hk u.th u.pm u.tl u.rf u.cv u.dfe
      u.nvc u.bf u.ln u.fh u.ts u.mc u.dma u.now u.free u.lastRead u.lastCpl u.pending) ↔ Within P L s u :=
  Within.upd_parts rfl rfl rfl rfl (fun p hp => by cases p <;> first | exact rfl | exact absurd (by assumption) hp)

theorem Within.upd_hy {s u : State} {hy} (lhy : L .hy) :
    Within P L s (State.mk u.regs u.mem u.latch u.marks u.raised u.pins hy u.hi u.nvj u.hk u.th u.pm u.tl u.rf u.cv u.dfe
      u.nvc u.bf u.ln u.fh u.ts u.mc u.dma u.now u.free u.lastRead u.lastCpl u.pending) ↔ Within P L s u :=
  Within.upd_parts rfl rfl rfl rfl (fun p hp => by cases p <;> first | exact rfl | exact absurd (by assumption) hp)

theorem Within.upd_hy_hk {s u : State} {hy hk} (lhy : L .hy) (lhk : L .hk) :
    Within P L s (State.mk u.regs u.mem u.latch u.marks u.raised u.pins hy u.hi u.nvj hk u.th u.pm u.tl u.rf u.cv u.dfe u.nvc
      u.bf u.ln u.fh u.ts u.mc u.dma u.now u.free u.lastRead u.lastCpl u.pending) ↔ Within P L s u :=
  Within.upd_parts rfl rfl rfl rfl (fun p hp => by cases p <;> first | exact rfl | exact absurd (by assumption) hp)

theorem Within.upd_hy_tl {s u : State} {hy tl} (lhy : L .hy) (ltl : L .tl) :
    Within P L s (State.mk u.regs u.mem u.latch u.marks u.raised u.pins hy u.hi u.nvj u.hk u.th u.pm tl u.rf u.cv u.dfe u.nvc
      u.bf u.ln u.fh u.ts u.mc u.dma u.now u.free u.lastRead u.lastCpl u.pending) ↔ Within P L s u :=
  Within.upd_parts rfl rfl rfl rfl (fun p hp => by cases p <;> first | exact rfl | exact absurd (by assumption) hp)

theorem Within.upd_hy_tl_dfe {s u : State} {hy tl dfe} (lhy : L .hy) (ltl : L .tl) (ldfe : L .dfe) :
    Within P L s (State.mk u.regs u.mem u.latch u.marks u.raised u.pins hy u.hi u.nvj u.hk u.th u.pm tl u.rf u.cv dfe u.nvc
      u.bf u.ln u.fh u.ts u.mc u.dma u.now u.free u.lastRead u.lastCpl u.pending) ↔ Within P L s u :=
  Within.upd_parts rfl rfl rfl rfl (fun p hp => by cases p <;> first | exact rfl | exact absurd (by assumption) hp)

theorem Within.upd_lastCpl {s u : State} {lastCpl} (llastCpl : L .lastCpl) :
    Within P L s (State.mk u.regs u.mem u.latch u.marks u.raised u.pins u.hy u.hi u.nvj u.hk u.th u.pm u.tl u.rf u.cv u.dfe
      u.nvc u.bf u.ln u.fh u.ts u.mc u.dma u.now u.free u.lastRead lastCpl u.pending) ↔ Within P L s u :=
  Within.upd_parts rfl rfl rfl rfl (fun p hp => by cases p <;> first | exact rfl | exact absurd (by assumption) hp)

theorem Within.upd_lastRead {s u : State} {lastRead} (llastRead : L .lastRead) :
    Within P L s (State.mk u.regs u.mem u.latch u.marks u.raised u.pins u.hy u.hi u.nvj u.hk u.th u.pm u.tl u.rf u.cv u.dfe
      u.nvc u.bf u.ln u.fh u.ts u.mc u.dma u.now u.free lastRead u.lastCpl u.pending) ↔ Within P L s u :=
  Within.upd_parts rfl rfl rfl rfl (fun p hp => by cases p <;> first | exact rfl | exact absurd (by assumption) hp)

theorem Within.upd_latch {s u : State} {latch} (llatch : L .latch) :
    Within P L s (State.mk u.regs u.mem latch u.marks u.raised u.pins u.hy u.hi u.nvj u.hk u.th u.pm u.tl u.rf u.cv u.dfe
      u.nvc u.bf u.ln u.fh u.ts u.mc u.dma u.now u.free u.lastRead u.lastCpl u.pending) ↔ Within P L s u :=
  Within.upd_parts rfl rfl rfl rfl (fun p hp => by cases p <;> first | exact rfl | exact absurd (by assumption) hp)

theorem Within.upd_ln {s u : State} {ln} (lln : L .ln) :
    Within P L s (State.mk u.regs u.mem u.latch u.marks u.raised u.pins u.hy u.hi u.nvj u.hk u.th u.pm u.tl u.rf u.cv u.dfe
      u.nvc u.bf ln u.fh u.ts u.mc u.dma u.now u.free u.lastRead u.lastCpl u.pending) ↔ Within P L s u :=
  Within.upd_parts rfl rfl rfl rfl (fun p hp => by cases p <;> first | exact rfl | exact absurd (by assumption) hp)

theorem Within.upd_marks {s u : State} {marks} (lmarks : L .marks) :
    Within P L s (State.mk u.regs u.mem u.latch marks u.raised u.pins u.hy u.hi u.nvj u.hk u.th u.pm u.tl u.rf u.cv u.dfe
      u.nvc u.bf u.ln u.fh u.ts u.mc u.dma u.now u.free u.lastRead u.lastCpl u.pending) ↔ Within P L s u :=
  Within.upd_parts rfl rfl rfl rfl (fun p hp => by cases p <;> first | exact rfl | exact absurd (by assumption) hp)

theorem Within.upd_mc {s u : State} {mc} (lmc : L .mc) :
    Within P L s (State.mk u.regs u.mem u.latch u.marks u.raised u.pins u.hy u.hi u.nvj u.hk u.th u.pm u.tl u.rf u.cv u.dfe
      u.nvc u.bf u.ln u.fh u.ts mc u.dma u.now u.free u.lastRead u.lastCpl u.pending) ↔ Within P L s u :=
  Within.upd_parts rfl rfl rfl rfl (fun p hp => by cases p <;> first | exact rfl | exact absurd (by assumption) hp)

theorem Within.upd_nvc {s u : State} {nvc} (lnvc : L .nvc) :
    Within P L s (State.mk u.regs u.mem u.latch u.marks u.raised u.pins u.hy u.hi u.nvj u.hk u.th u.pm u.tl u.rf u.cv u.dfe
      nvc u.bf u.ln u.fh u.ts u.mc u.dma u.now u.free u.lastRead u.lastCpl u.pending) ↔ Within P L s u :=
  Within.upd_parts rfl rfl rfl rfl (fun p hp => by cases p <;> first | exact rfl | exact absurd (by assumption) hp)

theorem Within.upd_nvc_dma {s u : State} {nvc dma} (lnvc : L .nvc) (ldma : L .dma) :
    Within P L s (State.mk u.regs u.mem u.latch u.marks u.raised u.pins u.hy u.hi u.nvj u.hk u.th u.pm u.tl u.rf u.cv u.dfe
      nvc u.bf u.ln u.fh u.ts u.mc dma u.now u.free u.lastRead u.lastCpl u.pending) ↔ Within P L s u :=
  Within.upd_parts rfl rfl rfl rfl (fun p hp => by cases p <;> first | exact rfl | exact absurd (by assumption) hp)

theorem Within.upd_nvj {s u : State} {nvj} (lnvj : L .nvj) :
    Within P L s (State.mk u.regs u.mem u.latch u.marks u.raised u.pins u.hy u.hi nvj u.hk u.th u.pm u.tl u.rf u.cv u.dfe
      u.nvc u.bf u.ln u.fh u.ts u.mc u.dma u.now u.free u.lastRead u.lastCpl u.pending) ↔ Within P L s u :=
  Within.upd_parts rfl rfl rfl rfl (fun p hp => by cases p <;> first | exact rfl | exact absurd (by assumption) hp)

theorem Within.upd_nvj_pm {s u : State} {nvj pm} (lnvj : L .nvj) (lpm : L .pm) :
    Within P L s (State.mk u.regs u.mem u.latch u.marks u.raised u.pins u.hy u.hi nvj u.hk u.th pm u.tl u.rf u.cv u.dfe u.nvc
      u.bf u.ln u.fh u.ts u.mc u.dma u.now u.free u.lastRead u.lastCpl u.pending) ↔ Within P L s u :=
  Within.upd_parts rfl rfl rfl rfl (fun p hp => by cases p <;> first | exact rfl | exact absurd (by assumption) hp)

theorem Within.upd_pins {s u : State} {pins} (lpins : L .pins) :
    Within P L s (State.mk u.regs u.mem u.latch u.marks u.raised pins u.hy u.hi u.nvj u.hk u.th u.pm u.tl u.rf u.cv u.dfe
      u.nvc u.bf u.ln u.fh u.ts u.mc u.dma u.now u.free u.lastRead u.lastCpl u.pending) ↔ Within P L s u :=
  Within.upd_parts rfl rfl rfl rfl (fun p hp => by cases p <;> first | exact rfl | exact absurd (by assumption) hp)

theorem Within.upd_pins_cv {s u : State} {pins cv} (lpins : L .pins) (lcv : L .cv) :
    Within P L s (State.mk u.regs u.mem u.latch u.marks u.raised pins u.hy u.hi u.nvj u.hk u.th u.pm u.tl u.rf cv u.dfe u.nvc
      u.bf u.ln u.fh u.ts u.mc u.dma u.now u.free u.lastRead u.lastCpl u.pending) ↔ Within P L s u :=
  Within.upd_parts rfl rfl rfl rfl (fun p hp => by cases p <;> first | exact rfl | exact absurd (by assumption) hp)

theorem Within.upd_pins_cv_dfe {s u : State} {pins cv dfe} (lpins : L .pins) (lcv : L .cv) (ldfe : L .dfe) :
    Within P L s (State.mk u.regs u.mem u.latch u.marks u.raised pins u.hy u.hi u.nvj u.hk u.th u.pm u.tl u.rf cv dfe u.nvc
      u.bf u.ln u.fh u.ts u.mc u.dma u.now u.free u.lastRead u.lastCpl u.pending) ↔ Within P L s u :=
  Within.upd_parts rfl rfl rfl rfl (fun p hp => by cases p <;> first | exact rfl | exact absurd (by assumption) hp)

theorem Within.upd_pins_hi {s u : State} {pins hi} (lpins : L .pins) (lhi : L .hi) :
    Within P L s (State.mk u.regs u.mem u.latch u.marks u.raised pins u.hy hi u.nvj u.hk u.th u.pm u.tl u.rf u.cv u.dfe u.nvc
      u.bf u.ln u.fh u.ts u.mc u.dma u.now u.free u.lastRead u.lastCpl u.pending) ↔ Within P L s u :=
  Within.upd_parts rfl rfl rfl rfl (fun p hp => by cases p <;> first | exact rfl | exact absurd (by assumption) hp)

theorem Within.upd_pins_tl {s u : State} {pins tl} (lpins : L .pins) (ltl : L .tl) :
    Within P L s (State.mk u.regs u.mem u.latch u.marks u.raised pins u.hy u.hi u.nvj u.hk u.th u.pm tl u.rf u.cv u.dfe u.nvc
      u.bf u.ln u.fh u.ts u.mc u.dma u.now u.free u.lastRead u.lastCpl u.pending) ↔ Within P L s u :=
  Within.upd_parts rfl rfl rfl rfl (fun p hp => by cases p <;> first | exact rfl | exact absurd (by assumption) hp)

theorem Within.upd_pm {s u : State} {pm} (lpm : L .pm) :
    Within P L s (State.mk u.regs u.mem u.latch u.marks u.raised u.pins u.hy u.hi u.nvj u.hk u.th pm u.tl u.rf u.cv u.dfe
      u.nvc u.bf u.ln u.fh u.ts u.mc u.dma u.now u.free u.lastRead u.lastCpl u.pending) ↔ Within P L s u :=
  Within.upd_parts rfl rfl rfl rfl (fun p hp => by cases p <;> first | exact rfl | exact absurd (by assumption) hp)

theorem Within.upd_pm_cv_mc {s u : State} {pm cv mc} (lpm : L .pm) (lcv : L .cv) (lmc : L .mc) :
    Within P L s (State.mk u.regs u.mem u.latch u.marks u.raised u.pins u.hy u.hi u.nvj u.hk u.th pm u.tl u.rf cv u.dfe u.nvc
      u.bf u.ln u.fh u.ts mc u.dma u.now u.free u.lastRead u.lastCpl u.pending) ↔ Within P L s u :=
  Within.upd_parts rfl rfl rfl rfl (fun p hp => by cases p <;> first | exact rfl | exact absurd (by assumption) hp)

theorem Within.upd_pm_ln {s u : State} {pm ln} (lpm : L .pm) (lln : L .ln) :
    Within P L s (State.mk u.regs u.mem u.latch u.marks u.raised u.pins u.hy u.hi u.nvj u.hk u.th pm u.tl u.rf u.cv u.dfe
      u.nvc u.bf ln u.fh u.ts u.mc u.dma u.now u.free u.lastRead u.lastCpl u.pending) ↔ Within P L s u :=
  Within.upd_parts rfl rfl rfl rfl (fun p hp => by cases p <;> first | exact rfl | exact absurd (by assumption) hp)

theorem Within.upd_pm_rf {s u : State} {pm rf} (lpm : L .pm) (lrf : L .rf) :
    Within P L s (State.mk u.regs u.mem u.latch u.marks u.raised u.pins u.hy u.hi u.nvj u.hk u.th pm u.tl rf u.cv u.dfe u.nvc
      u.bf u.ln u.fh u.ts u.mc u.dma u.now u.free u.lastRead u.lastCpl u.pending) ↔ Within P L s u :=
  Within.upd_parts rfl rfl rfl rfl (fun p hp => by cases p <;> first | exact rfl | exact absurd (by assumption) hp)

theorem Within.upd_raised {s u : State} {raised} (lraised : L .raised) :
    Within P L s (State.mk u.regs u.mem u.latch u.marks raised u.pins u.hy u.hi u.nvj u.hk u.th u.pm u.tl u.rf u.cv u.dfe
      u.nvc u.bf u.ln u.fh u.ts u.mc u.dma u.now u.free u.lastRead u.lastCpl u.pending) ↔ Within P L s u :=
  Within.upd_parts rfl rfl rfl rfl (fun p hp => by cases p <;> first | exact rfl | exact absurd (by assumption) hp)

theorem Within.upd_rf {s u : State} {rf} (lrf : L .rf) :
    Within P L s (State.mk u.regs u.mem u.latch u.marks u.raised u.pins u.hy u.hi u.nvj u.hk u.th u.pm u.tl rf u.cv u.dfe
      u.nvc u.bf u.ln u.fh u.ts u.mc u.dma u.now u.free u.lastRead u.lastCpl u.pending) ↔ Within P L s u :=
  Within.upd_parts rfl rfl rfl rfl (fun p hp => by cases p <;> first | exact rfl | exact absurd (by assumption) hp)

theorem Within.upd_rf_dfe {s u : State} {rf dfe} (lrf : L .rf) (ldfe : L .dfe) :
    Within P L s (State.mk u.regs u.mem u.latch u.marks u.raised u.pins u.hy u.hi u.nvj u.hk u.th u.pm u.tl rf u.cv dfe u.nvc
      u.bf u.ln u.fh u.ts u.mc u.dma u.now u.free u.lastRead u.lastCpl u.pending) ↔ Within P L s u :=
  Within.upd_parts rfl rfl rfl rfl (fun p hp => by cases p <;> first | exact rfl | exact absurd (by assumption) hp)

theorem Within.upd_th {s u : State} {th} (lth : L .th) :
    Within P L s (State.mk u.regs u.mem u.latch u.marks u.raised u.pins u.hy u.hi u.nvj u.hk th u.pm u.tl u.rf u.cv u.dfe
      u.nvc u.bf u.ln u.fh u.ts u.mc u.dma u.now u.free u.lastRead u.lastCpl u.pending) ↔ Within P L s u :=
  Within.upd_parts rfl rfl rfl rfl (fun p hp => by cases p <;> first | exact rfl | exact absurd (by assumption) hp)

theorem Within.upd_th_pm {s u : State} {th pm} (lth : L .th) (lpm : L .pm) :
    Within P L s (State.mk u.regs u.mem u.latch u.marks u.raised u.pins u.hy u.hi u.nvj u.hk th pm u.tl u.rf u.cv u.dfe u.nvc
      u.bf u.ln u.fh u.ts u.mc u.dma u.now u.free u.lastRead u.lastCpl u.pending) ↔ Within P L s u :=
  Within.upd_parts rfl rfl rfl rfl (fun p hp => by cases p <;> first | exact rfl | exact absurd (by assumption) hp)

theorem Within.upd_tl {s u : State} {tl} (ltl : L .tl) :
    Within P L s (State.mk u.regs u.mem u.latch u.marks u.raised u.pins u.hy u.hi u.nvj u.hk u.th u.pm tl u.rf u.cv u.dfe
      u.nvc u.bf u.ln u.fh u.ts u.mc u.dma u.now u.free u.lastRead u.lastCpl u.pending) ↔ Within P L s u :=
  Within.upd_parts rfl rfl rfl rfl (fun p hp => by cases p <;> first | exact rfl | exact absurd (by assumption) hp)

theorem Within.upd_tl_bf {s u : State} {tl bf} (ltl : L .tl) (lbf : L .bf) :
    Within P L s (State.mk u.regs u.mem u.latch u.marks u.raised u.pins u.hy u.hi u.nvj u.hk u.th u.pm tl u.rf u.cv u.dfe
      u.nvc bf u.ln u.fh u.ts u.mc u.dma u.now u.free u.lastRead u.lastCpl u.pending) ↔ Within P L s u :=
  Within.upd_parts rfl rfl rfl rfl (fun p hp => by cases p <;> first | exact rfl | exact absurd (by assumption) hp)

theorem Within.upd_tl_cv {s u : State} {tl cv} (ltl : L .tl) (lcv : L .cv) :
    Within P L s (State.mk u.regs u.mem u.latch u.marks u.raised u.pins u.hy u.hi u.nvj u.hk u.th u.pm tl u.rf cv u.dfe u.nvc
      u.bf u.ln u.fh u.ts u.mc u.dma u.now u.free u.lastRead u.lastCpl u.pending) ↔ Within P L s u :=
  Within.upd_parts rfl rfl rfl rfl (fun p hp => by cases p <;> first | exact rfl | exact absurd (by assumption) hp)

theorem Within.upd_tl_dfe {s u : State} {tl dfe} (ltl : L .tl) (ldfe : L .dfe) :
    Within P L s (State.mk u.regs u.mem u.latch u.marks u.raised u.pins u.hy u.hi u.nvj u.hk u.th u.pm tl u.rf u.cv dfe u.nvc
      u.bf u.ln u.fh u.ts u.mc u.dma u.now u.free u.lastRead u.lastCpl u.pending) ↔ Within P L s u :=
  Within.upd_parts rfl rfl rfl rfl (fun p hp => by cases p <;> first | exact rfl | exact absurd (by assumption) hp)

theorem Within.upd_tl_rf {s u : State} {tl rf} (ltl : L .tl) (lrf : L .rf) :
    Within P L s (State.mk u.regs u.mem u.latch u.marks u.raised u.pins u.hy u.hi u.nvj u.hk u.th u.pm tl rf u.cv u.dfe u.nvc
      u.bf u.ln u.fh u.ts u.mc u.dma u.now u.free u.lastRead u.lastCpl u.pending) ↔ Within P L s u :=
  Within.upd_parts rfl rfl rfl rfl (fun p hp => by cases p <;> first | exact rfl | exact absurd (by assumption) hp)

theorem Within.upd_tl_ts {s u : State} {tl ts} (ltl : L .tl) (lts : L .ts) :
    Within P L s (State.mk u.regs u.mem u.latch u.marks u.raised u.pins u.hy u.hi u.nvj u.hk u.th u.pm tl u.rf u.cv u.dfe
      u.nvc u.bf u.ln u.fh ts u.mc u.dma u.now u.free u.lastRead u.lastCpl u.pending) ↔ Within P L s u :=
  Within.upd_parts rfl rfl rfl rfl (fun p hp => by cases p <;> first | exact rfl | exact absurd (by assumption) hp)

theorem Within.upd_ts {s u : State} {ts} (lts : L .ts) :
    Within P L s (State.mk u.regs u.mem u.latch u.marks u.raised u.pins u.hy u.hi u.nvj u.hk u.th u.pm u.tl u.rf u.cv u.dfe
      u.nvc u.bf u.ln u.fh ts u.mc u.dma u.now u.free u.lastRead u.lastCpl u.pending) ↔ Within P L s u :=
  Within.upd_parts rfl rfl rfl rfl (fun p hp => by cases p <;> first | exact rfl | exact absurd (by assumption) hp)

/-! ### Conditionals, folds, results in pairs -/

theorem Within.ite {s t u : State} {c : Prop} [Decidable c] (h : Within P L s t) (k : Within P L s u) :
    Within P L s (if c then t else u) := by
  by_cases e : c
  · rw [if_pos e]; exact h
  · rw [if_neg e]; exact k

theorem Within.ite_fst {α : Type} {s : State} {p q : State × α} {c : Prop} [Decidable c] (h : Within P L s p.1) (k : Within P L s q.1) :
    Within P L s (if c then p else q).1 := by
  by_cases e : c
  · rw [if_pos e]; exact h
  · rw [if_neg e]; exact k

theorem Within.ite_snd {α : Type} {s : State} {p q : α × State} {c : Prop} [Decidable c] (h : Within P L s p.2) (k : Within P L s q.2) :
    Within P L s (if c then p else q).2 := by
  by_cases e : c
  · rw [if_pos e]; exact h
  · rw [if_neg e]; exact k

theorem Within.ite_thd {α β : Type} {s : State} {p q : α × β × State} {c : Prop} [Decidable c] (h : Within P L s p.2.2)
    (k : Within P L s q.2.2) : Within P L s (if c then p else q).2.2 := by
  by_cases e : c
  · rw [if_pos e]; exact h
  · rw [if_neg e]; exact k

theorem Within.ite_fth {α β γ : Type} {s : State} {p q : α × β × γ × State} {c : Prop} [Decidable c] (h : Within P L s p.2.2.2)
    (k : Within P L s q.2.2.2) : Within P L s (if c then p else q).2.2.2 := by
  by_cases e : c
  · rw [if_pos e]; exact h
  · rw [if_neg e]; exact k

theorem Within.fst_of {α : Type} {s t : State} {p : State × α} {a : α} (e : p = (t, a)) (h : Within P L s p.1) : Within P L s t := by
  subst e; exact h

theorem Within.snd_of {α : Type} {s t : State} {p : α × State} {a : α} (e : p = (a, t)) (h : Within P L s p.2) : Within P L s t := by
  subst e; exact h

theorem Within.thd_of {α β : Type} {s t : State} {p : α × β × State} {a : α} {b : β} (e : p = (a, b, t)) (h : Within P L s p.2.2) :
    Within P L s t := by
  subst e; exact h

theorem Within.opt_snd {α : Type} {s t : State} {o : Option (α × State)} {a : α} (e : o = some (a, t))
    (h : ∀ {q}, o = some q → Within P L s q.2) : Within P L s t := h e

theorem Within.foldl {α : Type} {s u : State} {f : State → α → State} {l : List α} (h : Within P L s u)
    (hf : ∀ t x, Within P L t (f t x)) : Within P L s (l.foldl f u) := by
  induction l generalizing u with
  | nil => exact h
  | cons x l ih => exact ih (h.trans (hf u x))

/-- A fold whose accumulator holds the state beside other data. -/
theorem Within.foldlBy {α β : Type} {s : State} (g : β → State) {u : β} {f : β → α → β} {l : List α} (h : Within P L s (g u))
    (hf : ∀ t x, Within P L (g t) (g (f t x))) : Within P L s (g (l.foldl f u)) := by
  induction l generalizing u with
  | nil => exact h
  | cons x l ih => exact ih (h.trans (hf u x))

theorem Within.each {α : Type} {s u : State} {f : State → α → State} {l : List α} (h : Within P L s u)
    (hf : ∀ t x, Within P L t (f t x)) : Within P L s (u.each l f) := Within.foldl h hf

/-! ### Outcomes -/

/-- Every next state that an outcome answers stays within. -/
def WithinNext (P : Nat → Prop) (L : Part → Prop) (s : State) (o : Host.Outcome State Fault Refusal) : Prop :=
  ∀ t, o = .next t → Within P L s t

theorem WithinNext.next {s t : State} (h : Within P L s t) : WithinNext P L s (.next t) := by
  intro u e; cases e; exact h

theorem WithinNext.ite {s : State} {o p : Host.Outcome State Fault Refusal} {c : Prop} [Decidable c] (h : WithinNext P L s o)
    (k : WithinNext P L s p) : WithinNext P L s (if c then o else p) := by
  by_cases e : c
  · rw [if_pos e]; exact h
  · rw [if_neg e]; exact k

theorem WithinNext.option {α : Type} {s : State} {o : Option α} {n : Host.Outcome State Fault Refusal}
    {f : α → Host.Outcome State Fault Refusal} (h : WithinNext P L s n) (k : ∀ a, WithinNext P L s (f a)) :
    WithinNext P L s (match o with
      | none => n
      | some a => f a) := by
  cases o with
  | none => exact h
  | some a => exact k a

theorem WithinNext.when_ {s t u : State} {g : Bool} (h : Within P L s t) (k : Within P L s u) : WithinNext P L s (when_ g t u) := by
  unfold Sys2Proof.Machine.when_; split <;> exact .next (by assumption)

/-- A command's effect as part of another (`State.act`). -/
theorem within_act {s u : State} {o : Host.Outcome State Fault Refusal} (h : Within P L s u) (k : WithinNext P L u o) :
    Within P L s (u.act o) := by
  cases o with
  | next t => exact h.trans (k t rfl)
  | fault _ => exact h
  | refused _ => exact h

/-! ### The named operations -/

/-- Writing a register changes that register at most. -/
theorem within_wr {s : State} {a : Nat} (ha : P a) (v : Word) : Within P L s (s.wr a v) :=
  ⟨⟨rfl, rfl, sparseWf_set a v, id⟩,
    fun b hb => sparseGet_set_ne resetVal s.regs (fun (e : b = a) => hb (by rw [e]; exact ha)) v, fun p _ => by cases p <;> exact rfl⟩

theorem within_wrN {s : State} {a : Nat} (ha : P a) (n : Nat) : Within P L s (s.wrN a n) := within_wr ha _
theorem within_put {s : State} {a : Nat} (ha : P a) (f : Fld) (v : Nat) : Within P L s (s.put a f v) := within_wr ha _
theorem within_setFlag {s : State} {a : Nat} (ha : P a) (f : Fld) (b : Bool) : Within P L s (s.setFlag a f b) := within_put ha _ _
theorem within_incSat {s : State} {a : Nat} (ha : P a) (f : Fld) : Within P L s (s.incSat a f) := within_put ha _ _
theorem within_incWrap {s : State} {a : Nat} (ha : P a) (f : Fld) : Within P L s (s.incWrap a f) := within_put ha _ _

theorem within_mark (lmarks : L .marks) {s : State} (a : Nat) (m : Word) : Within P L s (s.mark a m) :=
  (Within.upd_marks lmarks).2 (.refl s)

theorem within_stick (lmarks : L .marks) {s : State} {a : Nat} (ha : P a) (m : Word) : Within P L s (s.stick a m) :=
  (within_wr ha _).trans (within_mark lmarks a m)

theorem within_stickFlag (lmarks : L .marks) {s : State} {a : Nat} (ha : P a) (f : Fld) : Within P L s (s.stickFlag a f) :=
  within_stick lmarks ha _

theorem within_count (lmarks : L .marks) {s : State} {a : Nat} (ha : P a) : Within P L s (s.count a) :=
  (within_wr ha _).trans (within_mark lmarks a 1)

theorem within_countN (lmarks : L .marks) {s : State} {a : Nat} (ha : P a) (n : Nat) : Within P L s (s.countN a n) :=
  (within_wrN ha _).trans (within_mark lmarks a _)

theorem within_put64 {s : State} {a : Nat} (ha : P a) (hb : P (a + 4)) (n : Nat) : Within P L s (s.put64 a n) :=
  (within_wrN ha _).trans (within_wrN hb _)

theorem within_setByte (lmem : L .mem) (s : State) (a : Nat) (b : Byte) : Within P L s (s.setByte a b) :=
  ⟨⟨rfl, rfl, id, sparseWf_set a b⟩, fun _ _ => rfl, fun p hp => by
    cases p <;> first | exact rfl | exact absurd lmem hp⟩

theorem within_scrubMem (lmem : L .mem) (s : State) (a n : Nat) : Within P L s (s.scrubMem a n) :=
  ⟨⟨rfl, rfl, id, sparseWf_clear a n⟩, fun _ _ => rfl, fun p hp => by
    cases p <;> first | exact rfl | exact absurd lmem hp⟩

theorem within_fresh (lfree : L .free) (s : State) (w : Nat) : Within P L s (s.fresh w).2 := (Within.upd_free lfree).2 (.refl s)

theorem within_setBytes (lmem : L .mem) (s : State) (a : Nat) (l : List Byte) : Within P L s (s.setBytes a l) := by
  induction l generalizing s a with
  | nil => exact .refl s
  | cons b l ih => exact (within_setByte lmem s a b).trans (ih _ _)

end Sys2Proof.Machine
end

