-- ==== Sys2Proof/Laws/Within1.lean ====
section
/-! SUPPORT. What the operations and the commands of these files leave alone: Machine/Ops, Rings, Dram, Hyrno, Symbols, Beam, Jobs, Journal, Housekeeping, Periph. -/

namespace Sys2Proof.Machine

variable {P : Nat → Prop} {L : Part → Prop}

/-! ### Machine/Ops -/

theorem within_raiseAs (lraised : L .raised) (s : State) (e : Nat) (aud : Audience) (num : Nat) (items : List Nat) :
    Within P L s (State.raiseAs s e aud num items) := by
  unfold State.raiseAs
  with_reducible
    repeat' (first
        | apply Within.refl | assumption | simp only [↓Within.upd_raised lraised] | apply Within.ite | dsimp only | split)

theorem within_gustTake (lpm : L .pm) (s : State) (what idx : Nat) :
    ∀ {o}, (State.gustTake s what idx) = some o → Within P L s o := by
  intro o h
  unfold State.gustTake at h
  revert h
  with_reducible
    repeat' (first
        | apply Within.refl | assumption | simp only [↓Within.upd_pm lpm] | apply Within.ite | dsimp only
        | (intro h; first | (cases h; done) | injection h with h; subst h) | split | split)

theorem within_gustAsk (lpm : L .pm) (s : State) (rank what idx size : Nat) :
    Within P L s (State.gustAsk s rank what idx size) := by
  unfold State.gustAsk
  with_reducible
    repeat' (first
        | apply Within.refl | assumption | simp only [↓Within.upd_pm lpm] | apply Within.ite | dsimp only | split)

theorem within_raise (lraised : L .raised) (s : State) (e : Nat) (items : List Nat) : Within P L s (State.raise s e items) := by
  unfold State.raise
  with_reducible
    repeat' (first
        | apply Within.refl | assumption | apply Within.trans _ (within_raiseAs lraised ..) | apply Within.ite | dsimp only
        | split)

theorem within_setMemN (lmem : L .mem) (s : State) (a n v : Nat) : Within P L s (State.setMemN s a n v) := by
  unfold State.setMemN
  with_reducible
    repeat' (first
        | apply Within.refl | assumption | apply Within.trans _ (within_setBytes lmem ..) | apply Within.ite | dsimp only | split)

theorem within_divFree (lfree : L .free) (s : State) (n : Int) (d : Nat) : Within P L s (State.divFree s n d).2 := by
  unfold State.divFree
  with_reducible
    repeat' (first
        | apply Within.refl | assumption | apply Within.trans _ (within_fresh lfree ..) | apply Within.ite | apply Within.ite_snd
        | dsimp only | split | apply Within.snd_of (by assumption))

theorem within_raiseTo (lraised : L .raised) (s : State) (e : Nat) (owner : Option Nat) (items : List Nat) :
    Within P L s (State.raiseTo s e owner items) := by
  unfold State.raiseTo
  with_reducible
    repeat' (first
        | apply Within.refl | assumption | apply Within.trans _ (within_raiseAs lraised ..) | apply Within.ite | dsimp only
        | split)

/-! ### Machine/Rings -/

theorem within_msix (lhi : L .hi) (s : State) (fn vec : Nat) : Within P L s (State.msix s fn vec) := by
  unfold State.msix
  with_reducible
    repeat' (first
        | apply Within.refl | assumption | simp only [↓Within.upd_hi lhi] | apply Within.ite | dsimp only | split)

theorem within_ringSignal (lhi : L .hi) (s : State) (r : Nat) : Within P L s (State.ringSignal s r) := by
  unfold State.ringSignal
  with_reducible
    repeat' (first
        | apply Within.refl | assumption | apply Within.trans _ (within_msix lhi ..) | simp only [↓Within.upd_hi lhi]
        | apply Within.ite | dsimp only | split)

theorem within_ringWrote (lhi : L .hi) (s : State) (r : Nat) : Within P L s (State.ringWrote s r) := by
  unfold State.ringWrote
  with_reducible
    repeat' (first
        | apply Within.refl | assumption | apply Within.trans _ (within_ringSignal lhi ..) | simp only [↓Within.upd_hi lhi]
        | apply Within.ite | dsimp only | split)

theorem within_ringPush (wHI_RING_PROD : ∀ i, P (R.HI_RING_PROD i)) (lhi : L .hi) (lmem : L .mem) (s : State) (r : Nat)
    (rec : List Byte) : Within P L s (State.ringPush s r rec) := by
  unfold State.ringPush
  with_reducible
    repeat' (first
        | apply Within.refl | assumption | apply Within.trans _ (within_ringWrote lhi ..)
        | apply Within.trans _ (within_put ?_ ..) | apply Within.trans _ (within_setBytes lmem ..)
        | simp only [↓Within.upd_hi lhi] | apply Within.ite | apply wHI_RING_PROD | dsimp only | split)

theorem within_ringError (wHI_RING_STAT : ∀ i, P (R.HI_RING_STAT i)) (lraised : L .raised) (s : State) (r err : Nat) :
    Within P L s (State.ringError s r err) := by
  unfold State.ringError
  with_reducible
    repeat' (first
        | apply Within.refl | assumption | apply Within.trans _ (within_raiseTo lraised ..)
        | apply Within.trans _ (within_put ?_ ..) | apply Within.ite | apply wHI_RING_STAT | dsimp only | split)

theorem within_decodeErr (wHI_DECODE_ERR_CNT : P R.HI_DECODE_ERR_CNT) (lmarks : L .marks) (lraised : L .raised) (s : State) :
    Within P L s (State.decodeErr s) := by
  unfold State.decodeErr
  with_reducible
    repeat' (first
        | apply Within.refl | assumption | apply Within.trans _ (within_raise lraised ..)
        | apply Within.trans _ (within_count lmarks ?_ ..) | apply Within.ite | apply wHI_DECODE_ERR_CNT | dsimp only | split)

theorem within_store (wHI_DECODE_ERR_CNT : P R.HI_DECODE_ERR_CNT) (lmarks : L .marks) (lmem : L .mem) (lraised : L .raised)
    (s : State) (a : Nat) (b : List Byte) : Within P L s (State.store s a b) := by
  unfold State.store
  with_reducible
    repeat' (first
        | apply Within.refl | assumption | apply Within.trans _ (within_setBytes lmem ..)
        | apply Within.trans _ (within_decodeErr wHI_DECODE_ERR_CNT lmarks lraised ..) | apply Within.ite | dsimp only | split)

theorem within_load (wHI_DECODE_ERR_CNT : P R.HI_DECODE_ERR_CNT) (lmarks : L .marks) (lraised : L .raised) (s : State)
    (a n : Nat) : Within P L s (State.load s a n).2 := by
  unfold State.load
  with_reducible
    repeat' (first
        | apply Within.refl | assumption | apply Within.trans _ (within_decodeErr wHI_DECODE_ERR_CNT lmarks lraised ..)
        | apply Within.ite | apply Within.ite_snd | dsimp only | split)

/-! ### Machine/Dram -/

theorem within_gatherShow (wMC_STATUS : P R.MC_STATUS) (s : State) : Within P L s (State.gatherShow s) := by
  unfold State.gatherShow
  with_reducible
    repeat' (first
        | apply Within.refl | assumption | apply Within.trans _ (within_setFlag ?_ ..) | apply Within.ite | apply wMC_STATUS
        | dsimp only | split)

theorem within_spStart (wMC_STATUS : P R.MC_STATUS) (s : State) : Within P L s (State.spStart s) := by
  unfold State.spStart
  with_reducible
    repeat' (first
        | apply Within.refl | assumption | apply Within.trans _ (within_setFlag ?_ ..) | apply Within.ite | apply wMC_STATUS
        | dsimp only | split)

theorem within_execDqsGatherEnd (wMC_STATUS : P R.MC_STATUS) (lmc : L .mc) (lraised : L .raised) (ch : Fin 2) (ok : Bool)
    (ps : BitVec 8) (s : State) : WithinNext P L s (execDqsGatherEnd ch ok ps s) := by
  unfold execDqsGatherEnd
  with_reducible
    repeat' (first
        | apply Within.refl | assumption | apply Within.trans _ (within_gatherShow wMC_STATUS ..)
        | apply Within.trans _ (within_raise lraised ..) | apply Within.trans _ (within_spStart wMC_STATUS ..)
        | apply WithinNext.next | simp only [↓Within.upd_mc lmc] | apply Within.ite | apply WithinNext.ite | dsimp only | split)

theorem within_applyCorr (lmc : L .mc) (s : State) (ch : Nat) : Within P L s (State.applyCorr s ch) := by
  unfold State.applyCorr
  with_reducible
    repeat' (first
        | apply Within.refl | assumption | simp only [↓Within.upd_mc lmc] | apply Within.ite | dsimp only | apply Within.foldl
        | apply Within.foldlBy Prod.snd | apply Within.foldlBy Prod.fst | intro _ | split)

theorem within_setP (wMC_REFRESH : ∀ i, P (R.MC_REFRESH i)) (s : State) (ch : Nat) (p : Int) :
    Within P L s (State.setP s ch p) := by
  unfold State.setP
  with_reducible
    repeat' (first
        | apply Within.refl | assumption | apply Within.trans _ (within_put ?_ ..) | apply Within.ite | apply wMC_REFRESH
        | dsimp only | split)

theorem within_refresh (wMC_REFRESH : ∀ i, P (R.MC_REFRESH i)) (lmc : L .mc) (s : State) (ch : Nat) :
    Within P L s (State.refresh s ch) := by
  unfold State.refresh
  with_reducible
    repeat' (first
        | apply Within.refl | assumption | apply Within.trans _ (within_applyCorr lmc ..)
        | apply Within.trans _ (within_setP wMC_REFRESH ..) | apply Within.ite | dsimp only | split)

theorem within_execRefreshIssue (wMC_REFRESH : ∀ i, P (R.MC_REFRESH i)) (lmc : L .mc) (ch : Fin 2) (s : State) :
    WithinNext P L s (execRefreshIssue ch s) := by
  unfold execRefreshIssue
  with_reducible
    repeat' (first
        | apply Within.refl | assumption | apply Within.trans _ (within_refresh wMC_REFRESH lmc ..) | apply WithinNext.when_
        | apply WithinNext.next | apply Within.ite | apply WithinNext.ite | dsimp only | split)

theorem within_tokShow (wMC_PORT_STAT : ∀ i, P (R.MC_PORT_STAT i)) (s : State) (p n : Nat) :
    Within P L s (State.tokShow s p n) := by
  unfold State.tokShow
  with_reducible
    repeat' (first
        | apply Within.refl | assumption | apply Within.trans _ (within_setFlag ?_ ..) | apply Within.trans _ (within_put ?_ ..)
        | apply Within.ite | apply wMC_PORT_STAT | dsimp only | split)

theorem within_tokTake (wMC_PORT_STAT : ∀ i, P (R.MC_PORT_STAT i)) (lmc : L .mc) (s : State) (p n : Nat) :
    Within P L s (State.tokTake s p n) := by
  unfold State.tokTake
  with_reducible
    repeat' (first
        | apply Within.refl | assumption | apply Within.trans _ (within_tokShow wMC_PORT_STAT ..) | simp only [↓Within.upd_mc lmc]
        | apply Within.ite | dsimp only | split)

theorem within_dramAccess (wHI_DECODE_ERR_CNT : P R.HI_DECODE_ERR_CNT) (lmarks : L .marks) (lmc : L .mc) (lmem : L .mem)
    (lraised : L .raised) (s : State) (a n : Nat) (data : Option (List Byte)) : Within P L s (State.dramAccess s a n data) := by
  unfold State.dramAccess
  with_reducible
    repeat' (first
        | apply Within.refl | assumption | apply Within.trans _ (within_setBytes lmem ..)
        | apply Within.trans _ (within_decodeErr wHI_DECODE_ERR_CNT lmarks lraised ..) | simp only [↓Within.upd_mc lmc]
        | apply Within.ite | dsimp only | split)

theorem within_count48_by {s : State} {a : Nat} (ha : P a) (hb : P (a + 4)) (n : Nat) (f : State → State) (h : ∀ t, Within P L t (f t)) :
    Within P L s (s.count48 a n f) := by
  unfold State.count48
  dsimp only
  apply Within.ite
  · exact (within_put64 ha hb _).trans (h _)
  · exact within_put64 ha hb _

theorem within_mcCount (wMC_PERF_OVF : P R.MC_PERF_OVF) (wmcCounter : ∀ i j, P (mcCounter i j))
    (wmcCounter4 : ∀ i j, P (mcCounter i j + 4)) (lmarks : L .marks) (lraised : L .raised) (s : State) (p : Nat) (wr : Bool)
    (n : Nat) : Within P L s (State.mcCount s p wr n) := by
  unfold State.mcCount
  with_reducible
    repeat' (first
        | apply Within.refl | assumption | apply Within.trans _ (within_count48_by ?_ ?_ _ _ ?_)
        | apply Within.trans _ (within_raise lraised ..) | apply Within.trans _ (within_stick lmarks ?_ ..) | apply Within.ite
        | apply wMC_PERF_OVF | apply wmcCounter | apply wmcCounter4 | dsimp only | intro _ | split)

theorem within_execPortPieceGrant (wHI_DECODE_ERR_CNT : P R.HI_DECODE_ERR_CNT) (wMC_ECC_CORR_CNT : P R.MC_ECC_CORR_CNT)
    (wMC_ECC_UNCORR_CNT : P R.MC_ECC_UNCORR_CNT) (wMC_PERF_OVF : P R.MC_PERF_OVF) (wMC_PORT_STAT : ∀ i, P (R.MC_PORT_STAT i))
    (wMC_REFRESH : ∀ i, P (R.MC_REFRESH i)) (wmcCounter : ∀ i j, P (mcCounter i j)) (wmcCounter4 : ∀ i j, P (mcCounter i j + 4))
    (lfree : L .free) (lmarks : L .marks) (lmc : L .mc) (lmem : L .mem) (lraised : L .raised) (ch : Fin 2) (reqs : List MemReq)
    (ecc : Fin 3) (s : State) : WithinNext P L s (execPortPieceGrant ch reqs ecc s) := by
  unfold execPortPieceGrant
  with_reducible
    repeat' (first
        | apply Within.refl | assumption | apply Within.trans _ (within_refresh wMC_REFRESH lmc ..)
        | apply Within.trans _ (within_tokTake wMC_PORT_STAT lmc ..)
        | apply Within.trans _ (within_dramAccess wHI_DECODE_ERR_CNT lmarks lmc lmem lraised ..)
        | apply Within.trans _ (within_mcCount wMC_PERF_OVF wmcCounter wmcCounter4 lmarks lraised ..)
        | apply Within.trans _ (within_count lmarks ?_ ..) | apply Within.trans _ (within_fresh lfree ..)
        | apply Within.trans _ (within_raise lraised ..) | apply WithinNext.next | simp only [↓Within.upd_mc lmc]
        | apply Within.ite | apply WithinNext.ite | apply wMC_ECC_CORR_CNT | apply wMC_ECC_UNCORR_CNT | dsimp only | split
        | apply Within.snd_of (by assumption))

theorem within_selfRefresh (wMC_STATUS : P R.MC_STATUS) (s : State) (b : Bool) : Within P L s (State.selfRefresh s b) := by
  unfold State.selfRefresh
  with_reducible
    repeat' (first
        | apply Within.refl | assumption | apply Within.trans _ (within_setFlag ?_ ..) | apply Within.ite | apply wMC_STATUS
        | dsimp only | split)

theorem within_execSetpointChange (wMC_GATHER_DEFER_CNT : P R.MC_GATHER_DEFER_CNT) (wMC_STATUS : P R.MC_STATUS)
    (lmarks : L .marks) (lmc : L .mc) (sp : Fin 3) (s : State) : WithinNext P L s (execSetpointChange sp s) := by
  unfold execSetpointChange
  with_reducible
    repeat' (first
        | apply Within.refl | assumption | apply Within.trans _ (within_count lmarks ?_ ..)
        | apply Within.trans _ (within_spStart wMC_STATUS ..) | apply WithinNext.next | simp only [↓Within.upd_mc lmc]
        | apply Within.ite | apply WithinNext.ite | apply wMC_GATHER_DEFER_CNT | dsimp only | split)

theorem within_execRefreshRateChange (wMC_REFRESH : ∀ i, P (R.MC_REFRESH i)) (ch : Fin 2) (double : Bool) (s : State) :
    WithinNext P L s (execRefreshRateChange ch double s) := by
  unfold execRefreshRateChange
  with_reducible
    repeat' (first
        | apply Within.refl | assumption | apply Within.trans _ (within_setFlag ?_ ..) | apply WithinNext.next | apply Within.ite
        | apply WithinNext.ite | apply wMC_REFRESH | dsimp only | split)

theorem within_execSetpointChangeDone (wMC_PORT_CFG : ∀ i, P (R.MC_PORT_CFG i)) (wMC_STATUS : P R.MC_STATUS) (lfree : L .free)
    (lmc : L .mc) (lraised : L .raised) (s : State) : WithinNext P L s (execSetpointChangeDone s) := by
  unfold execSetpointChangeDone
  with_reducible
    repeat' (first
        | apply Within.refl | assumption | apply Within.trans _ (within_setFlag ?_ ..) | apply Within.trans _ (within_put ?_ ..)
        | apply Within.trans _ (within_divFree lfree ..) | apply Within.trans _ (within_raise lraised ..) | apply WithinNext.next
        | simp only [↓Within.upd_mc lmc] | apply Within.ite | apply WithinNext.ite | apply wMC_PORT_CFG | apply wMC_STATUS
        | dsimp only | apply Within.foldl | apply Within.foldlBy Prod.snd | apply Within.foldlBy Prod.fst | intro _ | split
        | apply Within.snd_of (by assumption))

theorem within_execRefreshDue (wMC_REFRESH : ∀ i, P (R.MC_REFRESH i)) (wMC_SPLIT_CNT : P R.MC_SPLIT_CNT) (lmarks : L .marks)
    (lmc : L .mc) (ch : Fin 2) (rt : Bool) (s : State) : WithinNext P L s (execRefreshDue ch rt s) := by
  unfold execRefreshDue
  with_reducible
    repeat' (first
        | apply Within.refl | assumption | apply Within.trans _ (within_setP wMC_REFRESH ..)
        | apply Within.trans _ (within_count lmarks ?_ ..) | apply Within.trans _ (within_refresh wMC_REFRESH lmc ..)
        | apply WithinNext.next | simp only [↓Within.upd_mc lmc] | apply Within.ite | apply WithinNext.ite | apply wMC_SPLIT_CNT
        | dsimp only | split)

theorem within_execDramTrainingDone (wHI_BOOT_STAT : P R.HI_BOOT_STAT) (wMC_STATUS : P R.MC_STATUS) (lmem : L .mem)
    (lraised : L .raised) (trained : BitVec 3) (step0 step1 step2 : Fin 4) (size : BitVec 5) (unfit : Bool) (s : State) :
    WithinNext P L s (execDramTrainingDone trained step0 step1 step2 size unfit s) := by
  unfold execDramTrainingDone
  with_reducible
    repeat' (first
        | apply Within.refl | assumption | apply Within.trans _ (within_raise lraised ..)
        | apply Within.trans _ (within_put ?_ ..) | apply Within.trans _ (within_setFlag ?_ ..)
        | apply Within.trans _ (within_scrubMem lmem ..) | apply WithinNext.next | apply Within.ite | apply WithinNext.ite
        | apply wHI_BOOT_STAT | apply wMC_STATUS | dsimp only | apply Within.foldl | apply Within.foldlBy Prod.snd
        | apply Within.foldlBy Prod.fst | intro _ | split)

theorem within_execDqsGatherStart (wMC_STATUS : P R.MC_STATUS) (lmc : L .mc) (ch : Fin 2) (s : State) :
    WithinNext P L s (execDqsGatherStart ch s) := by
  unfold execDqsGatherStart
  with_reducible
    repeat' (first
        | apply Within.refl | assumption | apply Within.trans _ (within_gatherShow wMC_STATUS ..) | apply WithinNext.when_
        | apply WithinNext.next | simp only [↓Within.upd_mc lmc] | apply Within.ite | apply WithinNext.ite | dsimp only | split)

theorem within_execMcCntWrap (wMC_PERF_OVF : P R.MC_PERF_OVF) (wmcCounter : ∀ i j, P (mcCounter i j))
    (wmcCounter4 : ∀ i j, P (mcCounter i j + 4)) (lmarks : L .marks) (lraised : L .raised) (port : Fin 8) (wr : Bool)
    (n : BitVec 12) (s : State) : WithinNext P L s (execMcCntWrap port wr n s) := by
  unfold execMcCntWrap
  with_reducible
    repeat' (first
        | apply Within.refl | assumption
        | apply Within.trans _ (within_mcCount wMC_PERF_OVF wmcCounter wmcCounter4 lmarks lraised ..) | apply WithinNext.when_
        | apply WithinNext.next | apply Within.ite | apply WithinNext.ite | dsimp only | split)

theorem within_mcTick (lmc : L .mc) (s : State) : Within P L s (State.mcTick s) := by
  unfold State.mcTick
  with_reducible
    repeat' (first
        | apply Within.refl | assumption | simp only [↓Within.upd_mc lmc] | apply Within.ite | dsimp only | split)

/-! ### Machine/Hyrno -/

theorem within_inflFall (wHI_CTX_STAT : ∀ i, P (R.HI_CTX_STAT i)) (lhy : L .hy) (s : State) (x : Nat) :
    Within P L s (State.inflFall s x) := by
  unfold State.inflFall
  with_reducible
    repeat' (first
        | apply Within.refl | assumption | apply Within.trans _ (within_put ?_ ..) | simp only [↓Within.upd_hy lhy]
        | apply Within.ite | apply wHI_CTX_STAT | dsimp only | split)

theorem within_retireCmd (wHI_CTX_STAT : ∀ i, P (R.HI_CTX_STAT i)) (wHI_INFL_TOTAL : P R.HI_INFL_TOTAL) (lhy : L .hy)
    (s : State) (c : Cmd) : Within P L s (State.retireCmd s c) := by
  unfold State.retireCmd
  with_reducible
    repeat' (first
        | apply Within.refl | assumption | apply Within.trans _ (within_inflFall wHI_CTX_STAT lhy ..)
        | apply Within.trans _ (within_put ?_ ..) | simp only [↓Within.upd_hy lhy] | apply Within.ite | apply wHI_CTX_STAT
        | apply wHI_INFL_TOTAL | dsimp only | split)

theorem within_postCpl (wHI_CMP_LOST_CNT : ∀ i, P (R.HI_CMP_LOST_CNT i)) (wHI_RING_PROD : ∀ i, P (R.HI_RING_PROD i))
    (lhi : L .hi) (llastCpl : L .lastCpl) (lmarks : L .marks) (lmem : L .mem) (s : State) (k : Completion) :
    Within P L s (State.postCpl s k) := by
  unfold State.postCpl
  with_reducible
    repeat' (first
        | apply Within.refl | assumption | apply Within.trans _ (within_count lmarks ?_ ..)
        | apply Within.trans _ (within_ringPush wHI_RING_PROD lhi lmem ..) | simp only [↓Within.upd_lastCpl llastCpl]
        | apply Within.ite | apply wHI_CMP_LOST_CNT | dsimp only | split)

theorem within_complete (wHI_CMP_LOST_CNT : ∀ i, P (R.HI_CMP_LOST_CNT i)) (wHI_CTX_STAT : ∀ i, P (R.HI_CTX_STAT i))
    (wHI_INFL_TOTAL : P R.HI_INFL_TOTAL) (wHI_RING_PROD : ∀ i, P (R.HI_RING_PROD i)) (lhi : L .hi) (lhy : L .hy)
    (llastCpl : L .lastCpl) (lmarks : L .marks) (lmem : L .mem) (s : State) (c : Cmd) (status detail results : Nat) :
    Within P L s (State.complete s c status detail results) := by
  unfold State.complete
  with_reducible
    repeat' (first
        | apply Within.refl | assumption | apply Within.trans _ (within_retireCmd wHI_CTX_STAT wHI_INFL_TOTAL lhy ..)
        | apply Within.trans _ (within_postCpl wHI_CMP_LOST_CNT wHI_RING_PROD lhi llastCpl lmarks lmem ..) | apply Within.ite
        | dsimp only | split)

theorem within_finishOwn (wHI_CMP_LOST_CNT : ∀ i, P (R.HI_CMP_LOST_CNT i)) (wHI_CTX_STAT : ∀ i, P (R.HI_CTX_STAT i))
    (wHI_INFL_TOTAL : P R.HI_INFL_TOTAL) (wHI_RING_PROD : ∀ i, P (R.HI_RING_PROD i)) (lhi : L .hi) (lhy : L .hy)
    (llastCpl : L .lastCpl) (lmarks : L .marks) (lmem : L .mem) (s : State) (p : Until → Bool) (status : Nat) :
    Within P L s (State.finishOwn s p status) := by
  unfold State.finishOwn
  with_reducible
    repeat' (first
        | apply Within.refl | assumption
        | apply Within.trans _ (within_complete wHI_CMP_LOST_CNT wHI_CTX_STAT wHI_INFL_TOTAL wHI_RING_PROD lhi lhy llastCpl lmarks lmem ..)
        | simp only [↓Within.upd_hy lhy] | apply Within.ite | dsimp only | apply Within.foldl | apply Within.foldlBy Prod.snd
        | apply Within.foldlBy Prod.fst | intro _ | split)

theorem within_dropCmd (wHI_CTX_STAT : ∀ i, P (R.HI_CTX_STAT i)) (wHI_INFL_TOTAL : P R.HI_INFL_TOTAL) (lhy : L .hy) (s : State)
    (c : Cmd) : Within P L s (State.dropCmd s c) := by
  unfold State.dropCmd
  with_reducible
    repeat' (first
        | apply Within.refl | assumption | apply Within.trans _ (within_retireCmd wHI_CTX_STAT wHI_INFL_TOTAL lhy ..)
        | apply Within.ite | dsimp only | split)

/-- How a command ends stays within, as far as its action's own state does. -/
def WithinEnd (P : Nat → Prop) (L : Part → Prop) (s : State) : CmdEnd → Prop
  | .done t _ _ _ => Within P L s t
  | .wait t _ _ => Within P L s t
  | .silent t => Within P L s t
theorem WithinEnd.done {s t : State} {a b c : Nat} (h : Within P L s t) : WithinEnd P L s (.done t a b c) := h
theorem WithinEnd.wait {s t : State} {u : Until} {d : List Nat} (h : Within P L s t) : WithinEnd P L s (.wait t u d) := h
theorem WithinEnd.silent {s t : State} (h : Within P L s t) : WithinEnd P L s (.silent t) := h
theorem WithinEnd.ite {s : State} {a b : CmdEnd} {c : Prop} [Decidable c] (h : WithinEnd P L s a) (k : WithinEnd P L s b) :
    WithinEnd P L s (if c then a else b) := by
  by_cases e : c
  · rw [if_pos e]; exact h
  · rw [if_neg e]; exact k
theorem within_runCmd (wHI_CMP_LOST_CNT : ∀ i, P (R.HI_CMP_LOST_CNT i)) (wHI_CTX_STAT : ∀ i, P (R.HI_CTX_STAT i))
    (wHI_INFL_TOTAL : P R.HI_INFL_TOTAL) (wHI_RING_PROD : ∀ i, P (R.HI_RING_PROD i)) (lhi : L .hi) (lhy : L .hy)
    (llastCpl : L .lastCpl) (lmarks : L .marks) (lmem : L .mem) {s : State} {c : Cmd} {needsMode : Bool}
    {res : List (Nat × Nat)} {checks : List Check} {act : CmdEnd}
    (h : WithinEnd P L s act) : WithinNext P L s (runCmd s c needsMode res checks act) := by
  unfold runCmd
  apply WithinNext.ite
  · exact .next (.refl s)
  · split
    · exact .next (within_complete wHI_CMP_LOST_CNT wHI_CTX_STAT wHI_INFL_TOTAL wHI_RING_PROD lhi lhy llastCpl lmarks lmem ..)
    · cases act with
      | done t a b r => exact .next (Within.trans h (within_complete wHI_CMP_LOST_CNT wHI_CTX_STAT wHI_INFL_TOTAL wHI_RING_PROD lhi lhy llastCpl lmarks lmem ..))
      | wait t u d => exact .next ((Within.upd_hy lhy).2 h)
      | silent t => exact .next (Within.trans h (within_dropCmd wHI_CTX_STAT wHI_INFL_TOTAL lhy ..))

theorem within_finish (wHI_CMP_LOST_CNT : ∀ i, P (R.HI_CMP_LOST_CNT i)) (wHI_CTX_STAT : ∀ i, P (R.HI_CTX_STAT i))
    (wHI_INFL_TOTAL : P R.HI_INFL_TOTAL) (wHI_RING_PROD : ∀ i, P (R.HI_RING_PROD i)) (lhi : L .hi) (lhy : L .hy)
    (llastCpl : L .lastCpl) (lmarks : L .marks) (lmem : L .mem) (s : State) (p : Until → Bool) (status detail results : Nat) :
    Within P L s (State.finish s p status detail results) := by
  unfold State.finish
  with_reducible
    repeat' (first
        | apply Within.refl | assumption
        | apply Within.trans _ (within_complete wHI_CMP_LOST_CNT wHI_CTX_STAT wHI_INFL_TOTAL wHI_RING_PROD lhi lhy llastCpl lmarks lmem ..)
        | simp only [↓Within.upd_hy lhy] | apply Within.ite | dsimp only | apply Within.foldl | apply Within.foldlBy Prod.snd
        | apply Within.foldlBy Prod.fst | intro _ | split)

/-! ### Machine/Symbols -/

theorem within_showNow (wTL_NOW : ∀ i, P (R.TL_NOW i)) (s : State) : Within P L s (State.showNow s) := by
  unfold State.showNow
  with_reducible
    repeat' (first
        | apply Within.refl | assumption | apply Within.trans _ (within_put ?_ ..) | apply Within.ite | apply wTL_NOW | dsimp only
        | apply Within.foldl | apply Within.foldlBy Prod.snd | apply Within.foldlBy Prod.fst | intro _ | split)

theorem within_setStat (wringWord : ∀ i j, P (ringWord i j)) (s : State) (i v : Nat) : Within P L s (State.setStat s i v) := by
  unfold State.setStat
  with_reducible
    repeat' (first
        | apply Within.refl | assumption | apply Within.trans _ (within_put ?_ ..) | apply Within.ite | apply wringWord
        | dsimp only | split)

/-! ### Machine/Beam -/

theorem within_revokeDone (wHI_CMP_LOST_CNT : ∀ i, P (R.HI_CMP_LOST_CNT i)) (wHI_CTX_STAT : ∀ i, P (R.HI_CTX_STAT i))
    (wHI_INFL_TOTAL : P R.HI_INFL_TOTAL) (wHI_RING_PROD : ∀ i, P (R.HI_RING_PROD i)) (lhi : L .hi) (lhy : L .hy)
    (llastCpl : L .lastCpl) (lmarks : L .marks) (lmem : L .mem) (s : State) (res : Nat × Nat) :
    Within P L s (State.revokeDone s res) := by
  unfold State.revokeDone
  with_reducible
    repeat' (first
        | apply Within.refl | assumption
        | apply Within.trans _ (within_finish wHI_CMP_LOST_CNT wHI_CTX_STAT wHI_INFL_TOTAL wHI_RING_PROD lhi lhy llastCpl lmarks lmem ..)
        | simp only [↓Within.upd_hy lhy] | apply Within.ite | dsimp only | split)

theorem within_raiseOnce (lbf : L .bf) (lraised : L .raised) (s : State) (e n sym : Nat) (owner : Option Nat) (items : List Nat)
    : Within P L s (State.raiseOnce s e n sym owner items) := by
  unfold State.raiseOnce
  with_reducible
    repeat' (first
        | apply Within.refl | assumption | apply Within.trans _ (within_raiseTo lraised ..) | simp only [↓Within.upd_bf lbf]
        | apply Within.ite | dsimp only | split)

theorem within_slotPassed (lbf : L .bf) (s : State) (sym : Nat) : Within P L s (State.slotPassed s sym) := by
  unfold State.slotPassed
  with_reducible
    repeat' (first
        | apply Within.refl | assumption | simp only [↓Within.upd_bf lbf] | apply Within.ite | dsimp only | split)

theorem within_poolShow (wBF_REGION_STAT : ∀ i, P (R.BF_REGION_STAT i)) (s : State) (r : Nat) :
    Within P L s (State.poolShow s r) := by
  unfold State.poolShow
  with_reducible
    repeat' (first
        | apply Within.refl | assumption | apply Within.trans _ (within_put ?_ ..) | apply Within.ite | apply wBF_REGION_STAT
        | dsimp only | split)

theorem within_poolBind (wBF_REGION_STAT : ∀ i, P (R.BF_REGION_STAT i)) (lbf : L .bf) (lmem : L .mem) (s : State) (r beam : Nat)
    (cells : List Byte) : ∀ {o}, (State.poolBind s r beam cells) = some o → Within P L s o := by
  intro o h
  unfold State.poolBind at h
  revert h
  with_reducible
    repeat' (first
        | apply Within.refl | assumption | apply Within.trans _ (within_setBytes lmem ..)
        | apply Within.trans _ (within_poolShow wBF_REGION_STAT ..) | simp only [↓Within.upd_bf lbf] | apply Within.ite
        | dsimp only | (intro h; first | (cases h; done) | injection h with h; subst h) | split | split)

theorem within_setPage (wBF_REGION_STAT : ∀ i, P (R.BF_REGION_STAT i)) (s : State) (r k v : Nat) :
    Within P L s (State.setPage s r k v) := by
  unfold State.setPage
  with_reducible
    repeat' (first
        | apply Within.refl | assumption | apply Within.trans _ (within_put ?_ ..) | apply Within.ite | apply wBF_REGION_STAT
        | dsimp only | split)

theorem within_pagesLeave (wBF_REGION_STAT : ∀ i, P (R.BF_REGION_STAT i)) (lbf : L .bf) (s : State) :
    Within P L s (State.pagesLeave s) := by
  unfold State.pagesLeave
  with_reducible
    repeat' (first
        | apply Within.refl | assumption | apply Within.trans _ (within_put ?_ ..)
        | apply Within.trans _ (within_setPage wBF_REGION_STAT ..) | simp only [↓Within.upd_bf lbf] | apply Within.ite
        | apply wBF_REGION_STAT | dsimp only | apply Within.foldl | apply Within.foldlBy Prod.snd | apply Within.foldlBy Prod.fst
        | intro _ | split)

theorem within_publish (wBF_REGION_STAT : ∀ i, P (R.BF_REGION_STAT i)) (s : State) (r : Nat) :
    Within P L s (State.publish s r) := by
  unfold State.publish
  with_reducible
    repeat' (first
        | apply Within.refl | assumption | apply Within.trans _ (within_setPage wBF_REGION_STAT ..) | apply Within.ite
        | dsimp only | split)

theorem within_bfShow (wBF_REGION_STAT : ∀ i, P (R.BF_REGION_STAT i)) (wBF_STATUS : P R.BF_STATUS) (s : State) :
    Within P L s (State.bfShow s) := by
  unfold State.bfShow
  with_reducible
    repeat' (first
        | apply Within.refl | assumption | apply Within.trans _ (within_setPage wBF_REGION_STAT ..)
        | apply Within.trans _ (within_setFlag ?_ ..) | apply Within.trans _ (within_put ?_ ..) | apply Within.ite
        | apply wBF_STATUS | dsimp only | apply Within.foldl | apply Within.foldlBy Prod.snd | apply Within.foldlBy Prod.fst
        | intro _ | split)

theorem within_execRegionScrubStart (wBF_REGION_STAT : ∀ i, P (R.BF_REGION_STAT i)) (wBF_STATUS : P R.BF_STATUS) (lbf : L .bf)
    (region : Fin 64) (s : State) : WithinNext P L s (execRegionScrubStart region s) := by
  unfold execRegionScrubStart
  with_reducible
    repeat' (first
        | apply Within.refl | assumption | apply Within.trans _ (within_bfShow wBF_REGION_STAT wBF_STATUS ..)
        | apply WithinNext.when_ | apply WithinNext.next | simp only [↓Within.upd_bf lbf] | apply Within.ite
        | apply WithinNext.ite | dsimp only | split)

theorem within_blockWrite (wBF_WRITE_BLOCK_CNT : ∀ i, P (R.BF_WRITE_BLOCK_CNT i)) (wHI_DECODE_ERR_CNT : P R.HI_DECODE_ERR_CNT)
    (lbf : L .bf) (lmarks : L .marks) (lraised : L .raised) (s : State) (x : Option Nat) (v : Nat) :
    Within P L s (State.blockWrite s x v) := by
  unfold State.blockWrite
  with_reducible
    repeat' (first
        | apply Within.refl | assumption | apply Within.trans _ (within_count lmarks ?_ ..)
        | apply Within.trans _ (within_decodeErr wHI_DECODE_ERR_CNT lmarks lraised ..)
        | apply Within.trans _ (within_raiseOnce lbf lraised ..) | apply Within.ite | apply wBF_WRITE_BLOCK_CNT | dsimp only
        | split)

theorem within_weightWrite (wBF_WRITE_BLOCK_CNT : ∀ i, P (R.BF_WRITE_BLOCK_CNT i)) (wHI_DECODE_ERR_CNT : P R.HI_DECODE_ERR_CNT)
    (lbf : L .bf) (lmarks : L .marks) (lmem : L .mem) (lraised : L .raised) (s : State) (x : Option Nat) (a : Nat)
    (data : List Byte) : Within P L s (State.weightWrite s x a data) := by
  unfold State.weightWrite
  with_reducible
    repeat' (first
        | apply Within.refl | assumption | apply Within.trans _ (within_count lmarks ?_ ..)
        | apply Within.trans _ (within_blockWrite wBF_WRITE_BLOCK_CNT wHI_DECODE_ERR_CNT lbf lmarks lraised ..)
        | apply Within.trans _ (within_setBytes lmem ..) | apply Within.ite | apply wBF_WRITE_BLOCK_CNT | dsimp only | split)

theorem within_execWeightWrite (wBF_WRITE_BLOCK_CNT : ∀ i, P (R.BF_WRITE_BLOCK_CNT i))
    (wHI_DECODE_ERR_CNT : P R.HI_DECODE_ERR_CNT) (lbf : L .bf) (lmarks : L .marks) (lmem : L .mem) (lraised : L .raised)
    (ctx : Option (Fin 8)) (addr : BitVec 22) (data : List Byte) (s : State) :
    WithinNext P L s (execWeightWrite ctx addr data s) := by
  unfold execWeightWrite
  with_reducible
    repeat' (first
        | apply Within.refl | assumption
        | apply Within.trans _ (within_weightWrite wBF_WRITE_BLOCK_CNT wHI_DECODE_ERR_CNT lbf lmarks lmem lraised ..)
        | apply WithinNext.next | apply Within.ite | apply WithinNext.ite | dsimp only | split)

theorem within_revokeRegion (wBF_REGION_CFG : ∀ i, P (R.BF_REGION_CFG i)) (wBF_REGION_STAT : ∀ i, P (R.BF_REGION_STAT i))
    (wBF_STATUS : P R.BF_STATUS) (lbf : L .bf) (s : State) (r : Nat) : Within P L s (State.revokeRegion s r) := by
  unfold State.revokeRegion
  with_reducible
    repeat' (first
        | apply Within.refl | assumption | apply Within.trans _ (within_setFlag ?_ ..)
        | apply Within.trans _ (within_bfShow wBF_REGION_STAT wBF_STATUS ..) | simp only [↓Within.upd_bf lbf] | apply Within.ite
        | apply wBF_REGION_CFG | apply wBF_REGION_STAT | dsimp only | split)

theorem within_dropSection (wBF_LEASE_DROP_CNT : ∀ i, P (R.BF_LEASE_DROP_CNT i)) (lbf : L .bf) (lmarks : L .marks)
    (lraised : L .raised) (s : State) (c x sym : Nat) : Within P L s (State.dropSection s c x sym) := by
  unfold State.dropSection
  with_reducible
    repeat' (first
        | apply Within.refl | assumption | apply Within.trans _ (within_raiseOnce lbf lraised ..)
        | apply Within.trans _ (within_count lmarks ?_ ..) | apply Within.ite | apply wBF_LEASE_DROP_CNT | dsimp only | split)

theorem within_slotRead (lbf : L .bf) (s : State) (r k sym : Nat) : Within P L s (State.slotRead s r k sym) := by
  unfold State.slotRead
  with_reducible
    repeat' (first
        | apply Within.refl | assumption | simp only [↓Within.upd_bf lbf] | apply Within.ite | dsimp only | split)

theorem within_execDrainingPageFree (wBF_REGION_STAT : ∀ i, P (R.BF_REGION_STAT i)) (region : Fin 64) (s : State) :
    WithinNext P L s (execDrainingPageFree region s) := by
  unfold execDrainingPageFree
  with_reducible
    repeat' (first
        | apply Within.refl | assumption | apply Within.trans _ (within_setPage wBF_REGION_STAT ..) | apply WithinNext.when_
        | apply WithinNext.next | apply Within.ite | apply WithinNext.ite | dsimp only | split)

theorem within_execBfRegionPub (wBF_REGION_STAT : ∀ i, P (R.BF_REGION_STAT i)) (region : Fin 64) (s : State) :
    WithinNext P L s (execBfRegionPub region s) := by
  unfold execBfRegionPub
  with_reducible
    repeat' (first
        | apply Within.refl | assumption | apply Within.trans _ (within_publish wBF_REGION_STAT ..) | apply WithinNext.next
        | apply Within.ite | apply WithinNext.ite | dsimp only | split)

theorem within_switchRegion (wBF_REGION_STAT : ∀ i, P (R.BF_REGION_STAT i)) (wBF_WPAGE_NOTREADY_CNT : P R.BF_WPAGE_NOTREADY_CNT)
    (lbf : L .bf) (lmarks : L .marks) (lraised : L .raised) (s : State) (r sym free : Nat) :
    Within P L s (State.switchRegion s r sym free) := by
  unfold State.switchRegion
  with_reducible
    repeat' (first
        | apply Within.refl | assumption | apply Within.trans _ (within_put ?_ ..)
        | apply Within.trans _ (within_setPage wBF_REGION_STAT ..) | apply Within.trans _ (within_incWrap ?_ ..)
        | apply Within.trans _ (within_raiseTo lraised ..) | apply Within.trans _ (within_count lmarks ?_ ..)
        | simp only [↓Within.upd_bf lbf] | apply Within.ite | apply wBF_REGION_STAT | apply wBF_WPAGE_NOTREADY_CNT | dsimp only
        | split)

theorem within_freeVec (wBF_FREE_VEC : P R.BF_FREE_VEC) (s : State) (n : Nat) : Within P L s (State.freeVec s n) := by
  unfold State.freeVec
  with_reducible
    repeat' (first
        | apply Within.refl | assumption | apply Within.trans _ (within_put ?_ ..) | apply Within.ite | apply wBF_FREE_VEC
        | dsimp only | split)

theorem within_execRegionScrubDone (wBF_FREE_VEC : P R.BF_FREE_VEC) (wBF_REGION_BASE : ∀ i, P (R.BF_REGION_BASE i))
    (wBF_REGION_CFG : ∀ i, P (R.BF_REGION_CFG i)) (wBF_REGION_STAT : ∀ i, P (R.BF_REGION_STAT i)) (wBF_STATUS : P R.BF_STATUS)
    (wHI_CMP_LOST_CNT : ∀ i, P (R.HI_CMP_LOST_CNT i)) (wHI_CTX_STAT : ∀ i, P (R.HI_CTX_STAT i))
    (wHI_INFL_TOTAL : P R.HI_INFL_TOTAL) (wHI_RING_PROD : ∀ i, P (R.HI_RING_PROD i)) (lbf : L .bf) (lhi : L .hi) (lhy : L .hy)
    (llastCpl : L .lastCpl) (lmarks : L .marks) (lmem : L .mem) (lraised : L .raised) (region : Fin 64) (s : State) :
    WithinNext P L s (execRegionScrubDone region s) := by
  unfold execRegionScrubDone
  with_reducible
    repeat' (first
        | apply Within.refl | assumption | apply Within.trans _ (within_freeVec wBF_FREE_VEC ..)
        | apply Within.trans _ (within_scrubMem lmem ..) | apply Within.trans _ (within_wr ?_ ..)
        | apply Within.trans _ (within_bfShow wBF_REGION_STAT wBF_STATUS ..)
        | apply Within.trans _ (within_revokeDone wHI_CMP_LOST_CNT wHI_CTX_STAT wHI_INFL_TOTAL wHI_RING_PROD lhi lhy llastCpl lmarks lmem ..)
        | apply Within.trans _ (within_raiseTo lraised ..) | apply WithinNext.next | simp only [↓Within.upd_bf lbf]
        | apply Within.ite | apply WithinNext.ite | apply wBF_REGION_BASE | apply wBF_REGION_CFG | apply wBF_REGION_STAT
        | dsimp only | split)

theorem within_execShrinkScrubDone (wBF_FREE_VEC : P R.BF_FREE_VEC) (wBF_REGION_STAT : ∀ i, P (R.BF_REGION_STAT i))
    (wBF_STATUS : P R.BF_STATUS) (wHI_CMP_LOST_CNT : ∀ i, P (R.HI_CMP_LOST_CNT i)) (wHI_CTX_STAT : ∀ i, P (R.HI_CTX_STAT i))
    (wHI_INFL_TOTAL : P R.HI_INFL_TOTAL) (wHI_RING_PROD : ∀ i, P (R.HI_RING_PROD i)) (lbf : L .bf) (lhi : L .hi) (lhy : L .hy)
    (llastCpl : L .lastCpl) (lmarks : L .marks) (lmem : L .mem) (region : Fin 64) (s : State) :
    WithinNext P L s (execShrinkScrubDone region s) := by
  unfold execShrinkScrubDone
  with_reducible
    repeat' (first
        | apply Within.refl | assumption | apply Within.trans _ (within_freeVec wBF_FREE_VEC ..)
        | apply Within.trans _ (within_scrubMem lmem ..)
        | apply Within.trans _ (within_revokeDone wHI_CMP_LOST_CNT wHI_CTX_STAT wHI_INFL_TOTAL wHI_RING_PROD lhi lhy llastCpl lmarks lmem ..)
        | apply Within.trans _ (within_bfShow wBF_REGION_STAT wBF_STATUS ..) | apply WithinNext.next
        | simp only [↓Within.upd_bf lbf] | apply Within.ite | apply WithinNext.ite | dsimp only | split)

/-! ### Machine/Jobs -/

theorem within_askResume (lpm : L .pm) (s : State) : Within P L s (State.askResume s) := by
  unfold State.askResume
  with_reducible
    repeat' (first
        | apply Within.refl | assumption | apply Within.trans _ (within_gustAsk lpm ..) | apply Within.ite | dsimp only | split)

theorem within_jobWdog (lfree : L .free) (s : State) (j : NvJob) : Within P L s (State.jobWdog s j).2 := by
  unfold State.jobWdog
  with_reducible
    repeat' (first
        | apply Within.refl | assumption | apply Within.trans _ (within_fresh lfree ..) | apply Within.ite | apply Within.ite_snd
        | dsimp only | split | apply Within.snd_of (by assumption))

theorem within_setCore (lnvc : L .nvc) (s : State) (c : Nat) (k : NvCore) : Within P L s (State.setCore s c k) := by
  unfold State.setCore
  with_reducible
    repeat' (first
        | apply Within.refl | assumption | simp only [↓Within.upd_nvc lnvc] | apply Within.ite | dsimp only | split)

theorem within_setCoreSt (wNVC_CORE_STAT : ∀ i, P (R.NVC_CORE_STAT i)) (s : State) (c v : Nat) :
    Within P L s (State.setCoreSt s c v) := by
  unfold State.setCoreSt
  with_reducible
    repeat' (first
        | apply Within.refl | assumption | apply Within.trans _ (within_put ?_ ..) | apply Within.ite | apply wNVC_CORE_STAT
        | dsimp only | split)

theorem within_releaseCores (wNVC_CORE_STAT : ∀ i, P (R.NVC_CORE_STAT i)) (lnvc : L .nvc) (s : State) (num : Nat) :
    Within P L s (State.releaseCores s num) := by
  unfold State.releaseCores
  with_reducible
    repeat' (first
        | apply Within.refl | assumption | apply Within.trans _ (within_setCore lnvc ..)
        | apply Within.trans _ (within_setCoreSt wNVC_CORE_STAT ..) | apply Within.ite | dsimp only | apply Within.foldl
        | apply Within.foldlBy Prod.snd | apply Within.foldlBy Prod.fst | intro _ | split)

theorem within_nvcShow (wNVC_STATUS : P R.NVC_STATUS) (s : State) : Within P L s (State.nvcShow s) := by
  unfold State.nvcShow
  with_reducible
    repeat' (first
        | apply Within.refl | assumption | apply Within.trans _ (within_put ?_ ..) | apply Within.ite | apply wNVC_STATUS
        | dsimp only | split)

theorem within_raiseCore (lraised : L .raised) (s : State) (e c : Nat) (items : List Nat) :
    Within P L s (State.raiseCore s e c items) := by
  unfold State.raiseCore
  with_reducible
    repeat' (first
        | apply Within.refl | assumption | apply Within.trans _ (within_raiseTo lraised ..)
        | apply Within.trans _ (within_raiseAs lraised ..) | apply Within.ite | dsimp only | split)

theorem within_nvCount (wNVC_PERF_OVF : ∀ i, P (R.NVC_PERF_OVF i)) (wnvCounter : ∀ i j, P (nvCounter i j))
    (wnvCounter4 : ∀ i j, P (nvCounter i j + 4)) (lmarks : L .marks) (lraised : L .raised) (s : State) (c k n : Nat) :
    Within P L s (State.nvCount s c k n) := by
  unfold State.nvCount
  with_reducible
    repeat' (first
        | apply Within.refl | assumption | apply Within.trans _ (within_count48_by ?_ ?_ _ _ ?_)
        | apply Within.trans _ (within_raiseCore lraised ..) | apply Within.trans _ (within_stick lmarks ?_ ..) | apply Within.ite
        | apply wNVC_PERF_OVF | apply wnvCounter | apply wnvCounter4 | dsimp only | intro _ | split)

theorem within_execNvcCntWrap (wNVC_PERF_OVF : ∀ i, P (R.NVC_PERF_OVF i)) (wnvCounter : ∀ i j, P (nvCounter i j))
    (wnvCounter4 : ∀ i j, P (nvCounter i j + 4)) (lmarks : L .marks) (lraised : L .raised) (core : Fin 16) (which : Fin 6)
    (n : BitVec 32) (s : State) : WithinNext P L s (execNvcCntWrap core which n s) := by
  unfold execNvcCntWrap
  with_reducible
    repeat' (first
        | apply Within.refl | assumption
        | apply Within.trans _ (within_nvCount wNVC_PERF_OVF wnvCounter wnvCounter4 lmarks lraised ..) | apply WithinNext.when_
        | apply WithinNext.next | apply Within.ite | apply WithinNext.ite | dsimp only | split)

theorem within_abortJobs (wNVC_CORE_STAT : ∀ i, P (R.NVC_CORE_STAT i)) (lnvc : L .nvc) (lraised : L .raised) (s : State) :
    Within P L s (State.abortJobs s) := by
  unfold State.abortJobs
  with_reducible
    repeat' (first
        | apply Within.refl | assumption | apply Within.trans _ (within_releaseCores wNVC_CORE_STAT lnvc ..)
        | apply Within.trans _ (within_raise lraised ..) | simp only [↓Within.upd_nvc lnvc] | apply Within.ite | dsimp only
        | apply Within.foldl | apply Within.foldlBy Prod.snd | apply Within.foldlBy Prod.fst | intro _ | split)

theorem within_dropJob (wNVC_CORE_STAT : ∀ i, P (R.NVC_CORE_STAT i)) (lnvc : L .nvc) (s : State) (num : Nat) :
    Within P L s (State.dropJob s num) := by
  unfold State.dropJob
  with_reducible
    repeat' (first
        | apply Within.refl | assumption | apply Within.trans _ (within_releaseCores wNVC_CORE_STAT lnvc ..)
        | simp only [↓Within.upd_nvc lnvc] | apply Within.ite | dsimp only | split)

theorem within_signalJob (wNVC_CORE_STAT : ∀ i, P (R.NVC_CORE_STAT i)) (wNVC_JOB_DONE : ∀ i, P (R.NVC_JOB_DONE i))
    (lnvc : L .nvc) (s : State) (num res : Nat) : Within P L s (State.signalJob s num res) := by
  unfold State.signalJob
  with_reducible
    repeat' (first
        | apply Within.refl | assumption | apply Within.trans _ (within_dropJob wNVC_CORE_STAT lnvc ..)
        | apply Within.trans _ (within_put ?_ ..) | apply Within.ite | apply wNVC_JOB_DONE | dsimp only | split)

theorem within_jobFault (wNVC_CORE_STAT : ∀ i, P (R.NVC_CORE_STAT i)) (lnvc : L .nvc) (s : State) (num : Nat) :
    Within P L s (State.jobFault s num) := by
  unfold State.jobFault
  with_reducible
    repeat' (first
        | apply Within.refl | assumption | apply Within.trans _ (within_dropJob wNVC_CORE_STAT lnvc ..)
        | apply Within.trans _ (within_releaseCores wNVC_CORE_STAT lnvc ..) | simp only [↓Within.upd_nvc lnvc] | apply Within.ite
        | dsimp only | split)

theorem within_haltCore (wNVC_CORE_STAT : ∀ i, P (R.NVC_CORE_STAT i)) (lnvc : L .nvc) (s : State) (c st cause : Nat) :
    Within P L s (State.haltCore s c st cause) := by
  unfold State.haltCore
  with_reducible
    repeat' (first
        | apply Within.refl | assumption | apply Within.trans _ (within_put ?_ ..)
        | apply Within.trans _ (within_setCoreSt wNVC_CORE_STAT ..) | apply Within.trans _ (within_setCore lnvc ..)
        | apply Within.trans _ (within_dropJob wNVC_CORE_STAT lnvc ..)
        | apply Within.trans _ (within_jobFault wNVC_CORE_STAT lnvc ..) | apply Within.ite | apply wNVC_CORE_STAT | dsimp only
        | split)

theorem within_execNvcWatchdogExpiry (wNVC_CORE_STAT : ∀ i, P (R.NVC_CORE_STAT i)) (lnvc : L .nvc) (lraised : L .raised)
    (core : Fin 16) (s : State) : WithinNext P L s (execNvcWatchdogExpiry core s) := by
  unfold execNvcWatchdogExpiry
  with_reducible
    repeat' (first
        | apply Within.refl | assumption | apply Within.trans _ (within_raiseCore lraised ..)
        | apply Within.trans _ (within_haltCore wNVC_CORE_STAT lnvc ..) | apply WithinNext.when_ | apply WithinNext.next
        | apply Within.ite | apply WithinNext.ite | dsimp only | split)

theorem within_allocJob (lhy : L .hy) (s : State) : ∀ {o}, (State.allocJob s) = some o → Within P L s o.2 := by
  intro o h
  unfold State.allocJob at h
  revert h
  with_reducible
    repeat' (first
        | apply Within.refl | assumption | simp only [↓Within.upd_hy lhy] | apply Within.ite | dsimp only
        | (intro h; first | (cases h; done) | injection h with h; subst h) | split | split)

theorem within_faultCore (wNVC_CORE_STAT : ∀ i, P (R.NVC_CORE_STAT i)) (lnvc : L .nvc) (lraised : L .raised) (s : State)
    (c cause : Nat) : Within P L s (State.faultCore s c cause) := by
  unfold State.faultCore
  with_reducible
    repeat' (first
        | apply Within.refl | assumption | apply Within.trans _ (within_raiseCore lraised ..)
        | apply Within.trans _ (within_haltCore wNVC_CORE_STAT lnvc ..) | apply Within.ite | dsimp only | split)

theorem within_startCore (wNVC_CORE_STAT : ∀ i, P (R.NVC_CORE_STAT i)) (lnvc : L .nvc) (s : State) (c : Nat) :
    Within P L s (State.startCore s c) := by
  unfold State.startCore
  with_reducible
    repeat' (first
        | apply Within.refl | assumption | apply Within.trans _ (within_put ?_ ..)
        | apply Within.trans _ (within_setCoreSt wNVC_CORE_STAT ..) | apply Within.trans _ (within_setCore lnvc ..)
        | apply Within.ite | apply wNVC_CORE_STAT | dsimp only | split)

theorem within_trigger (wNVC_CORE_STAT : ∀ i, P (R.NVC_CORE_STAT i)) (wNVC_TRIG_DROP_CNT : ∀ i, P (R.NVC_TRIG_DROP_CNT i))
    (lmarks : L .marks) (lnvc : L .nvc) (lraised : L .raised) (s : State) (c : Nat) : Within P L s (State.trigger s c) := by
  unfold State.trigger
  with_reducible
    repeat' (first
        | apply Within.refl | assumption | apply Within.trans _ (within_startCore wNVC_CORE_STAT lnvc ..)
        | apply Within.trans _ (within_raiseCore lraised ..) | apply Within.trans _ (within_count lmarks ?_ ..)
        | apply Within.trans _ (within_setCore lnvc ..) | apply Within.ite | apply wNVC_TRIG_DROP_CNT | dsimp only | split)

theorem within_kernelPublish (wBF_REGION_STAT : ∀ i, P (R.BF_REGION_STAT i)) (lraised : L .raised) (s : State) (c r : Nat) :
    Within P L s (State.kernelPublish s c r) := by
  unfold State.kernelPublish
  with_reducible
    repeat' (first
        | apply Within.refl | assumption | apply Within.trans _ (within_publish wBF_REGION_STAT ..)
        | apply Within.trans _ (within_raiseCore lraised ..) | apply Within.ite | dsimp only | split)

theorem within_execCoreResume (wNVC_CORE_STAT : ∀ i, P (R.NVC_CORE_STAT i)) (wNVC_STATUS : P R.NVC_STATUS) (lnvc : L .nvc)
    (lpm : L .pm) (lraised : L .raised) (core : Fin 16) (s : State) : WithinNext P L s (execCoreResume core s) := by
  unfold execCoreResume
  with_reducible
    repeat' (first
        | apply Within.refl | assumption | apply Within.trans _ (within_askResume lpm ..)
        | apply Within.trans _ (within_nvcShow wNVC_STATUS ..) | apply Within.trans _ (within_setCoreSt wNVC_CORE_STAT ..)
        | apply Within.trans _ (within_setCore lnvc ..) | apply Within.trans _ (within_raise lraised ..)
        | apply Within.trans _ (within_gustTake lpm _ _ _ (by assumption)) | apply WithinNext.next | apply Within.ite
        | apply WithinNext.ite | dsimp only | split)

theorem within_submitJob (lnvc : L .nvc) (s : State) (num kind : Nat) (args : List Nat) (need : Nat) :
    Within P L s (State.submitJob s num kind args need) := by
  unfold State.submitJob
  with_reducible
    repeat' (first
        | apply Within.refl | assumption | simp only [↓Within.upd_nvc lnvc] | apply Within.ite | dsimp only | split)

theorem within_partDone (wNVC_CORE_STAT : ∀ i, P (R.NVC_CORE_STAT i)) (wNVC_JOB_DONE : ∀ i, P (R.NVC_JOB_DONE i))
    (lnvc : L .nvc) (s : State) (num : Nat) (c : Option Nat) : Within P L s (State.partDone s num c) := by
  unfold State.partDone
  with_reducible
    repeat' (first
        | apply Within.refl | assumption | apply Within.trans _ (within_signalJob wNVC_CORE_STAT wNVC_JOB_DONE lnvc ..)
        | simp only [↓Within.upd_nvc lnvc] | apply Within.ite | dsimp only | split)

theorem within_reloadCore (wNVC_CORE_STAT : ∀ i, P (R.NVC_CORE_STAT i)) (wnvCounter : ∀ i j, P (nvCounter i j))
    (wnvCounter4 : ∀ i j, P (nvCounter i j + 4)) (lnvc : L .nvc) (s : State) (c : Nat) :
    Within P L s (State.reloadCore s c) := by
  unfold State.reloadCore
  with_reducible
    repeat' (first
        | apply Within.refl | assumption | apply Within.trans _ (within_put ?_ ..)
        | apply Within.trans _ (within_setCoreSt wNVC_CORE_STAT ..) | apply Within.trans _ (within_put64 ?_ ?_ ..)
        | apply Within.trans _ (within_setCore lnvc ..) | apply Within.ite | apply wNVC_CORE_STAT | apply wnvCounter
        | apply wnvCounter4 | dsimp only | apply Within.foldl | apply Within.foldlBy Prod.snd | apply Within.foldlBy Prod.fst
        | intro _ | split)

theorem within_execJobDispatch (wNVC_CORE_STAT : ∀ i, P (R.NVC_CORE_STAT i)) (wNVC_WDOG : ∀ i, P (R.NVC_WDOG i))
    (wnvCounter : ∀ i j, P (nvCounter i j)) (wnvCounter4 : ∀ i j, P (nvCounter i j + 4)) (lfree : L .free) (lnvc : L .nvc)
    (grp : Fin 2) (s : State) : WithinNext P L s (execJobDispatch grp s) := by
  unfold execJobDispatch
  with_reducible
    repeat' (first
        | apply Within.refl | assumption | apply Within.trans _ (within_jobWdog lfree ..)
        | apply Within.trans _ (within_startCore wNVC_CORE_STAT lnvc ..)
        | apply Within.trans _ (within_reloadCore wNVC_CORE_STAT wnvCounter wnvCounter4 lnvc ..)
        | apply Within.trans _ (within_wrN ?_ ..) | apply Within.trans _ (within_setCore lnvc ..) | apply WithinNext.next
        | simp only [↓Within.upd_nvc lnvc] | apply Within.ite | apply WithinNext.ite | apply wNVC_WDOG | dsimp only
        | apply Within.foldl | apply Within.foldlBy Prod.snd | apply Within.foldlBy Prod.fst | intro _ | split
        | apply Within.snd_of (by assumption))

theorem within_execJobRegister (lnvc : L .nvc) (s : State) : WithinNext P L s (execJobRegister s) := by
  unfold execJobRegister
  with_reducible
    repeat' (first
        | apply Within.refl | assumption | apply WithinNext.next | simp only [↓Within.upd_nvc lnvc] | apply Within.ite
        | apply WithinNext.ite | dsimp only | split)

theorem within_giveJob (lhy : L .hy) (s : State) (x num what : Nat) : Within P L s (State.giveJob s x num what) := by
  unfold State.giveJob
  with_reducible
    repeat' (first
        | apply Within.refl | assumption | simp only [↓Within.upd_hy lhy] | apply Within.ite | dsimp only | split)

theorem within_execCoreRevokeScrubDone (wHI_CMP_LOST_CNT : ∀ i, P (R.HI_CMP_LOST_CNT i))
    (wHI_CTX_STAT : ∀ i, P (R.HI_CTX_STAT i)) (wHI_INFL_TOTAL : P R.HI_INFL_TOTAL) (wHI_RING_PROD : ∀ i, P (R.HI_RING_PROD i))
    (wNVC_CORE_STAT : ∀ i, P (R.NVC_CORE_STAT i)) (wNVC_STATUS : P R.NVC_STATUS) (lhi : L .hi) (lhy : L .hy)
    (llastCpl : L .lastCpl) (lmarks : L .marks) (lmem : L .mem) (lnvc : L .nvc) (lraised : L .raised) (core : Fin 16)
    (s : State) : WithinNext P L s (execCoreRevokeScrubDone core s) := by
  unfold execCoreRevokeScrubDone
  with_reducible
    repeat' (first
        | apply Within.refl | assumption | apply Within.trans _ (within_scrubMem lmem ..)
        | apply Within.trans _ (within_put ?_ ..) | apply Within.trans _ (within_setCoreSt wNVC_CORE_STAT ..)
        | apply Within.trans _ (within_nvcShow wNVC_STATUS ..) | apply Within.trans _ (within_setCore lnvc ..)
        | apply Within.trans _ (within_revokeDone wHI_CMP_LOST_CNT wHI_CTX_STAT wHI_INFL_TOTAL wHI_RING_PROD lhi lhy llastCpl lmarks lmem ..)
        | apply Within.trans _ (within_raiseTo lraised ..) | apply WithinNext.next | apply Within.ite | apply WithinNext.ite
        | apply wNVC_CORE_STAT | dsimp only | split)

theorem within_execCorePause (wNVC_CORE_STAT : ∀ i, P (R.NVC_CORE_STAT i)) (wNVC_STATUS : P R.NVC_STATUS) (lnvc : L .nvc)
    (lraised : L .raised) (grp : Fin 3) (s : State) : WithinNext P L s (execCorePause grp s) := by
  unfold execCorePause
  with_reducible
    repeat' (first
        | apply Within.refl | assumption | apply Within.trans _ (within_setCoreSt wNVC_CORE_STAT ..)
        | apply Within.trans _ (within_setCore lnvc ..) | apply Within.trans _ (within_raise lraised ..)
        | apply Within.trans _ (within_nvcShow wNVC_STATUS ..) | apply WithinNext.next | apply Within.ite | apply WithinNext.ite
        | dsimp only | apply Within.foldl | apply Within.foldlBy Prod.snd | apply Within.foldlBy Prod.fst | intro _ | split)

theorem within_execControlStepDone (wNVC_CORE_STAT : ∀ i, P (R.NVC_CORE_STAT i)) (wNVC_JOB_DONE : ∀ i, P (R.NVC_JOB_DONE i))
    (lnvc : L .nvc) (job : BitVec 16) (s : State) : WithinNext P L s (execControlStepDone job s) := by
  unfold execControlStepDone
  with_reducible
    repeat' (first
        | apply Within.refl | assumption | apply Within.trans _ (within_partDone wNVC_CORE_STAT wNVC_JOB_DONE lnvc ..)
        | apply WithinNext.when_ | apply WithinNext.next | apply Within.ite | apply WithinNext.ite | dsimp only | split)

theorem within_revokeCore (wNVC_CORE_STAT : ∀ i, P (R.NVC_CORE_STAT i)) (wNVC_MBX_IN : ∀ i j, P (R.NVC_MBX_IN i j))
    (wNVC_MBX_OUT : ∀ i j, P (R.NVC_MBX_OUT i j)) (wNVC_STATUS : P R.NVC_STATUS) (lnvc : L .nvc) (s : State) (c : Nat) :
    Within P L s (State.revokeCore s c) := by
  unfold State.revokeCore
  with_reducible
    repeat' (first
        | apply Within.refl | assumption | apply Within.trans _ (within_put ?_ ..)
        | apply Within.trans _ (within_setCoreSt wNVC_CORE_STAT ..) | apply Within.trans _ (within_wr ?_ ..)
        | apply Within.trans _ (within_nvcShow wNVC_STATUS ..) | apply Within.trans _ (within_setCore lnvc ..) | apply Within.ite
        | apply wNVC_CORE_STAT | apply wNVC_MBX_IN | apply wNVC_MBX_OUT | dsimp only | apply Within.foldl
        | apply Within.foldlBy Prod.snd | apply Within.foldlBy Prod.fst | intro _ | split)

theorem within_runEnd (wNVC_CORE_STAT : ∀ i, P (R.NVC_CORE_STAT i)) (lnvc : L .nvc) (s : State) (c : Nat) :
    Within P L s (State.runEnd s c) := by
  unfold State.runEnd
  with_reducible
    repeat' (first
        | apply Within.refl | assumption | apply Within.trans _ (within_setCore lnvc ..)
        | apply Within.trans _ (within_setCoreSt wNVC_CORE_STAT ..)
        | apply Within.trans _ (within_startCore wNVC_CORE_STAT lnvc ..) | apply Within.ite | dsimp only | split)

/-! ### Machine/Journal -/

theorem within_jShow (wNVJ_STAT : P R.NVJ_STAT) (s : State) : Within P L s (State.jShow s) := by
  unfold State.jShow
  with_reducible
    repeat' (first
        | apply Within.refl | assumption | apply Within.trans _ (within_setFlag ?_ ..) | apply Within.ite | apply wNVJ_STAT
        | dsimp only | split)

theorem within_jQueue (wNVJ_STAT : P R.NVJ_STAT) (lnvj : L .nvj) (s : State) (ws : List JWrite) :
    Within P L s (State.jQueue s ws) := by
  unfold State.jQueue
  with_reducible
    repeat' (first
        | apply Within.refl | assumption | apply Within.trans _ (within_jShow wNVJ_STAT ..) | simp only [↓Within.upd_nvj lnvj]
        | apply Within.ite | dsimp only | split)

theorem within_slotRecord (wNVJ_STAT : P R.NVJ_STAT) (lnvj : L .nvj) (s : State) (base type : Nat) (rest : List Byte) :
    Within P L s (State.slotRecord s base type rest) := by
  unfold State.slotRecord
  with_reducible
    repeat' (first
        | apply Within.refl | assumption | apply Within.trans _ (within_jQueue wNVJ_STAT lnvj ..) | apply Within.ite | dsimp only
        | split)

theorem within_logRecord (wNVJ_STAT : P R.NVJ_STAT) (lnvj : L .nvj) (s : State) (items : List Nat) :
    Within P L s (State.logRecord s items) := by
  unfold State.logRecord
  with_reducible
    repeat' (first
        | apply Within.refl | assumption | apply Within.trans _ (within_jQueue wNVJ_STAT lnvj ..)
        | simp only [↓Within.upd_nvj lnvj] | apply Within.ite | dsimp only | split)

theorem within_journalObj (wNVJ_STAT : P R.NVJ_STAT) (lnvj : L .nvj) (s : State) (p : ObjPlace) (data : List Byte) :
    Within P L s (State.journalObj s p data).2 := by
  unfold State.journalObj
  with_reducible
    repeat' (first
        | apply Within.refl | assumption | apply Within.trans _ (within_jQueue wNVJ_STAT lnvj ..)
        | simp only [↓Within.upd_nvj lnvj] | apply Within.ite | apply Within.ite_snd | dsimp only | split)

theorem within_execJournalWriteStart (wNVJ_STAT : P R.NVJ_STAT) (lnvj : L .nvj) (rec : BitVec 12) (aon : Bool) (s : State) :
    WithinNext P L s (execJournalWriteStart rec aon s) := by
  unfold execJournalWriteStart
  with_reducible
    repeat' (first
        | apply Within.refl | assumption | apply Within.trans _ (within_jQueue wNVJ_STAT lnvj ..) | apply WithinNext.next
        | apply Within.ite | apply WithinNext.ite | dsimp only | split)

theorem within_jFlushAon (wNVJ_STAT : P R.NVJ_STAT) (lmem : L .mem) (lnvj : L .nvj) (s : State) :
    Within P L s (State.jFlushAon s) := by
  unfold State.jFlushAon
  with_reducible
    repeat' (first
        | apply Within.refl | assumption | apply Within.trans _ (within_jShow wNVJ_STAT ..)
        | apply Within.trans _ (within_setBytes lmem ..) | simp only [↓Within.upd_nvj lnvj] | apply Within.ite | dsimp only
        | apply Within.foldl | apply Within.foldlBy Prod.snd | apply Within.foldlBy Prod.fst | intro _ | split)

theorem within_journalOwn (wNVJ_STAT : P R.NVJ_STAT) (lnvj : L .nvj) (s : State) (type : Nat) (items : List Nat) :
    Within P L s (State.journalOwn s type items).2 := by
  unfold State.journalOwn
  with_reducible
    repeat' (first
        | apply Within.refl | assumption | apply Within.trans _ (within_journalObj wNVJ_STAT lnvj ..)
        | simp only [↓Within.upd_nvj lnvj] | apply Within.ite | apply Within.ite_snd | dsimp only | split
        | apply Within.snd_of (by assumption))

theorem within_jLocks (wNVJ_STAT : P R.NVJ_STAT) (s : State) : Within P L s (State.jLocks s) := by
  unfold State.jLocks
  with_reducible
    repeat' (first
        | apply Within.refl | assumption | apply Within.trans _ (within_setFlag ?_ ..) | apply Within.ite | apply wNVJ_STAT
        | dsimp only | split)

theorem within_jCut (wNVJ_STAT : P R.NVJ_STAT) (lmem : L .mem) (lnvj : L .nvj) (s : State) : Within P L s (State.jCut s) := by
  unfold State.jCut
  with_reducible
    repeat' (first
        | apply Within.refl | assumption | apply Within.trans _ (within_jShow wNVJ_STAT ..)
        | apply Within.trans _ (within_setBytes lmem ..) | simp only [↓Within.upd_nvj lnvj] | apply Within.ite | dsimp only
        | split)

/-! ### Machine/Housekeeping -/

theorem within_hkHeads (wHK_FIFO_RD : ∀ i, P (R.HK_FIFO_RD i)) (wHK_FIFO_RD_HI : ∀ i, P (R.HK_FIFO_RD_HI i)) (s : State) :
    Within P L s (State.hkHeads s) := by
  unfold State.hkHeads
  with_reducible
    repeat' (first
        | apply Within.refl | assumption | apply Within.trans _ (within_wr ?_ ..) | apply Within.ite | apply wHK_FIFO_RD
        | apply wHK_FIFO_RD_HI | dsimp only | split)

theorem within_hkLevels (wHK_FIFO_LVL : P R.HK_FIFO_LVL) (s : State) : Within P L s (State.hkLevels s) := by
  unfold State.hkLevels
  with_reducible
    repeat' (first
        | apply Within.refl | assumption | apply Within.trans _ (within_put ?_ ..) | apply Within.ite | apply wHK_FIFO_LVL
        | dsimp only | split)

theorem within_hkPop (wHK_FIFO_LVL : P R.HK_FIFO_LVL) (wHK_FIFO_RD : ∀ i, P (R.HK_FIFO_RD i))
    (wHK_FIFO_RD_HI : ∀ i, P (R.HK_FIFO_RD_HI i)) (lhk : L .hk) (s : State) (sq : Bool) : Within P L s (State.hkPop s sq) := by
  unfold State.hkPop
  with_reducible
    repeat' (first
        | apply Within.refl | assumption | apply Within.trans _ (within_hkHeads wHK_FIFO_RD wHK_FIFO_RD_HI ..)
        | apply Within.trans _ (within_hkLevels wHK_FIFO_LVL ..) | simp only [↓Within.upd_hk lhk] | apply Within.ite | dsimp only
        | split)

theorem within_hkIgnored (wHK_IGN_REG_CNT : P R.HK_IGN_REG_CNT) (wHK_IGN_SQ_CNT : P R.HK_IGN_SQ_CNT) (wHK_STAT : P R.HK_STAT)
    (lhk : L .hk) (lmarks : L .marks) (lraised : L .raised) (s : State) (sq : Bool) : Within P L s (State.hkIgnored s sq) := by
  unfold State.hkIgnored
  with_reducible
    repeat' (first
        | apply Within.refl | assumption | apply Within.trans _ (within_count lmarks ?_ ..)
        | apply Within.trans _ (within_stickFlag lmarks ?_ ..) | apply Within.trans _ (within_raise lraised ..)
        | simp only [↓Within.upd_hk lhk] | apply Within.ite | apply wHK_IGN_REG_CNT | apply wHK_IGN_SQ_CNT | apply wHK_STAT
        | dsimp only | split)

theorem within_hkShow (wHK_STAT : P R.HK_STAT) (s : State) : Within P L s (State.hkShow s) := by
  unfold State.hkShow
  with_reducible
    repeat' (first
        | apply Within.refl | assumption | apply Within.trans _ (within_setFlag ?_ ..) | apply Within.trans _ (within_put ?_ ..)
        | apply Within.ite | apply wHK_STAT | dsimp only | split)

theorem within_hkPower (wHK_STAT : P R.HK_STAT) (s : State) : Within P L s (State.hkPower s) := by
  unfold State.hkPower
  with_reducible
    repeat' (first
        | apply Within.refl | assumption | apply Within.trans _ (within_setFlag ?_ ..) | apply Within.ite | apply wHK_STAT
        | dsimp only | split)

theorem within_hkTrigSq (wHK_ABORT_CNT : P R.HK_ABORT_CNT) (wHK_IGN_REG_CNT : P R.HK_IGN_REG_CNT)
    (wHK_IGN_SQ_CNT : P R.HK_IGN_SQ_CNT) (wHK_STAT : P R.HK_STAT) (lhk : L .hk) (lmarks : L .marks) (lraised : L .raised)
    (s : State) : Within P L s (State.hkTrigSq s) := by
  unfold State.hkTrigSq
  with_reducible
    repeat' (first
        | apply Within.refl | assumption
        | apply Within.trans _ (within_hkIgnored wHK_IGN_REG_CNT wHK_IGN_SQ_CNT wHK_STAT lhk lmarks lraised ..)
        | apply Within.trans _ (within_hkShow wHK_STAT ..) | apply Within.trans _ (within_hkPower wHK_STAT ..)
        | apply Within.trans _ (within_stickFlag lmarks ?_ ..) | apply Within.trans _ (within_count lmarks ?_ ..)
        | simp only [↓Within.upd_hk lhk] | apply Within.ite | apply wHK_ABORT_CNT | apply wHK_STAT | dsimp only | split)

theorem within_execHkFifoRdPop (wHK_FIFO_LVL : P R.HK_FIFO_LVL) (wHK_FIFO_RD : ∀ i, P (R.HK_FIFO_RD i))
    (wHK_FIFO_RD_HI : ∀ i, P (R.HK_FIFO_RD_HI i)) (lhk : L .hk) (llastRead : L .lastRead) (squall : Bool) (s : State) :
    WithinNext P L s (execHkFifoRdPop squall s) := by
  unfold execHkFifoRdPop
  with_reducible
    repeat' (first
        | apply Within.refl | assumption | apply Within.trans _ (within_hkPop wHK_FIFO_LVL wHK_FIFO_RD wHK_FIFO_RD_HI lhk ..)
        | apply WithinNext.next | simp only [↓Within.upd_lastRead llastRead] | apply Within.ite | apply WithinNext.ite
        | dsimp only | split)

theorem within_hkIdle (wHK_STAT : P R.HK_STAT) (s : State) : Within P L s (State.hkIdle s) := by
  unfold State.hkIdle
  with_reducible
    repeat' (first
        | apply Within.refl | assumption | apply Within.trans _ (within_setFlag ?_ ..) | apply Within.ite | apply wHK_STAT
        | dsimp only | split)

theorem within_hkValue (lfree : L .free) (s : State) (ch : Nat) (raw : BitVec 24) :
    Within P L s (State.hkValue s ch raw).2 := by
  unfold State.hkValue
  with_reducible
    repeat' (first
        | apply Within.refl | assumption | apply Within.trans _ (within_divFree lfree ..) | apply Within.ite
        | apply Within.ite_snd | dsimp only | split | apply Within.snd_of (by assumption))

theorem within_hkPush (wHK_FIFO_LVL : P R.HK_FIFO_LVL) (wHK_FIFO_OVF_CNT : P R.HK_FIFO_OVF_CNT)
    (wHK_FIFO_RD : ∀ i, P (R.HK_FIFO_RD i)) (wHK_FIFO_RD_HI : ∀ i, P (R.HK_FIFO_RD_HI i)) (wHK_STAT : P R.HK_STAT) (lhk : L .hk)
    (lmarks : L .marks) (lraised : L .raised) (s : State) (sq : Bool) (e : Word × Word) :
    Within P L s (State.hkPush s sq e) := by
  unfold State.hkPush
  with_reducible
    repeat' (first
        | apply Within.refl | assumption | apply Within.trans _ (within_stickFlag lmarks ?_ ..)
        | apply Within.trans _ (within_count lmarks ?_ ..) | apply Within.trans _ (within_raise lraised ..)
        | apply Within.trans _ (within_hkHeads wHK_FIFO_RD wHK_FIFO_RD_HI ..)
        | apply Within.trans _ (within_hkLevels wHK_FIFO_LVL ..) | simp only [↓Within.upd_hk lhk] | apply Within.ite
        | apply wHK_FIFO_OVF_CNT | apply wHK_STAT | dsimp only | split)

theorem within_hkResult (wHK_DATA : ∀ i, P (R.HK_DATA i)) (wHK_FIFO_LVL : P R.HK_FIFO_LVL)
    (wHK_FIFO_OVF_CNT : P R.HK_FIFO_OVF_CNT) (wHK_FIFO_RD : ∀ i, P (R.HK_FIFO_RD i))
    (wHK_FIFO_RD_HI : ∀ i, P (R.HK_FIFO_RD_HI i)) (wHK_STAT : P R.HK_STAT) (lfree : L .free) (lhk : L .hk) (lmarks : L .marks)
    (lraised : L .raised) (s : State) (sq : Bool) (ch : Nat) (raw : BitVec 24) : Within P L s (State.hkResult s sq ch raw) := by
  unfold State.hkResult
  with_reducible
    repeat' (first
        | apply Within.refl | assumption | apply Within.trans _ (within_hkValue lfree ..)
        | apply Within.trans _ (within_put ?_ ..) | apply Within.trans _ (within_raise lraised ..)
        | apply Within.trans _ (within_hkPush wHK_FIFO_LVL wHK_FIFO_OVF_CNT wHK_FIFO_RD wHK_FIFO_RD_HI wHK_STAT lhk lmarks lraised ..)
        | simp only [↓Within.upd_hk lhk] | apply Within.ite | apply wHK_DATA | dsimp only | split
        | apply Within.snd_of (by assumption))

theorem within_hkStartReg (wHK_STAT : P R.HK_STAT) (lhk : L .hk) (s : State) : Within P L s (State.hkStartReg s) := by
  unfold State.hkStartReg
  with_reducible
    repeat' (first
        | apply Within.refl | assumption | apply Within.trans _ (within_hkShow wHK_STAT ..)
        | apply Within.trans _ (within_hkPower wHK_STAT ..) | simp only [↓Within.upd_hk lhk] | apply Within.ite | dsimp only
        | split)

theorem within_hkCalEnd (wHI_CMP_LOST_CNT : ∀ i, P (R.HI_CMP_LOST_CNT i)) (wHI_CTX_STAT : ∀ i, P (R.HI_CTX_STAT i))
    (wHI_INFL_TOTAL : P R.HI_INFL_TOTAL) (wHI_RING_PROD : ∀ i, P (R.HI_RING_PROD i)) (wHK_STAT : P R.HK_STAT)
    (wNVJ_STAT : P R.NVJ_STAT) (lfree : L .free) (lhi : L .hi) (lhk : L .hk) (lhy : L .hy) (llastCpl : L .lastCpl)
    (lmarks : L .marks) (lmem : L .mem) (lnvj : L .nvj) (s : State) (c : HkCal) : Within P L s (State.hkCalEnd s c) := by
  unfold State.hkCalEnd
  with_reducible
    repeat' (first
        | apply Within.refl | assumption | apply Within.trans _ (within_divFree lfree ..)
        | apply Within.trans _ (within_hkStartReg wHK_STAT lhk ..) | apply Within.trans _ (within_hkShow wHK_STAT ..)
        | apply Within.trans _ (within_hkIdle wHK_STAT ..)
        | apply Within.trans _ (within_finish wHI_CMP_LOST_CNT wHI_CTX_STAT wHI_INFL_TOTAL wHI_RING_PROD lhi lhy llastCpl lmarks lmem ..)
        | apply Within.trans _ (within_fresh lfree ..) | apply Within.trans _ (within_journalOwn wNVJ_STAT lnvj ..)
        | simp only [↓Within.upd_hy_hk lhy lhk] | apply Within.ite | dsimp only | split | apply Within.snd_of (by assumption))

theorem within_hkRegEnd (wHK_STAT : P R.HK_STAT) (lhk : L .hk) (s : State) : Within P L s (State.hkRegEnd s) := by
  unfold State.hkRegEnd
  with_reducible
    repeat' (first
        | apply Within.refl | assumption | apply Within.trans _ (within_hkShow wHK_STAT ..)
        | apply Within.trans _ (within_hkStartReg wHK_STAT lhk ..) | apply Within.trans _ (within_hkIdle wHK_STAT ..)
        | simp only [↓Within.upd_hk lhk] | apply Within.ite | dsimp only | split)

theorem within_execHkConversionDone (wHI_CMP_LOST_CNT : ∀ i, P (R.HI_CMP_LOST_CNT i)) (wHI_CTX_STAT : ∀ i, P (R.HI_CTX_STAT i))
    (wHI_INFL_TOTAL : P R.HI_INFL_TOTAL) (wHI_RING_PROD : ∀ i, P (R.HI_RING_PROD i)) (wHK_DATA : ∀ i, P (R.HK_DATA i))
    (wHK_FIFO_LVL : P R.HK_FIFO_LVL) (wHK_FIFO_OVF_CNT : P R.HK_FIFO_OVF_CNT) (wHK_FIFO_RD : ∀ i, P (R.HK_FIFO_RD i))
    (wHK_FIFO_RD_HI : ∀ i, P (R.HK_FIFO_RD_HI i)) (wHK_STAT : P R.HK_STAT) (wNVJ_STAT : P R.NVJ_STAT) (lfree : L .free)
    (lhi : L .hi) (lhk : L .hk) (lhy : L .hy) (llastCpl : L .lastCpl) (lmarks : L .marks) (lmem : L .mem) (lnvj : L .nvj)
    (lraised : L .raised) (raw : BitVec 24) (s : State) : WithinNext P L s (execHkConversionDone raw s) := by
  unfold execHkConversionDone
  with_reducible
    repeat' (first
        | apply Within.refl | assumption
        | apply Within.trans _ (within_hkResult wHK_DATA wHK_FIFO_LVL wHK_FIFO_OVF_CNT wHK_FIFO_RD wHK_FIFO_RD_HI wHK_STAT lfree lhk lmarks lraised ..)
        | apply Within.trans _ (within_hkShow wHK_STAT ..) | apply Within.trans _ (within_hkStartReg wHK_STAT lhk ..)
        | apply Within.trans _ (within_setFlag ?_ ..) | apply Within.trans _ (within_hkIdle wHK_STAT ..)
        | apply Within.trans _ (within_hkCalEnd wHI_CMP_LOST_CNT wHI_CTX_STAT wHI_INFL_TOTAL wHI_RING_PROD wHK_STAT wNVJ_STAT lfree lhi lhk lhy llastCpl lmarks lmem lnvj ..)
        | apply Within.trans _ (within_hkRegEnd wHK_STAT lhk ..) | apply WithinNext.next | simp only [↓Within.upd_hk lhk]
        | apply Within.ite | apply WithinNext.ite | apply wHK_STAT | dsimp only | split)

theorem within_execHkStartupDone (wHK_STAT : P R.HK_STAT) (s : State) : WithinNext P L s (execHkStartupDone s) := by
  unfold execHkStartupDone
  with_reducible
    repeat' (first
        | apply Within.refl | assumption | apply Within.trans _ (within_hkShow wHK_STAT ..)
        | apply Within.trans _ (within_setFlag ?_ ..) | apply WithinNext.when_ | apply WithinNext.next | apply Within.ite
        | apply WithinNext.ite | apply wHK_STAT | dsimp only | split)

theorem within_hkTrigReg (wHK_IGN_REG_CNT : P R.HK_IGN_REG_CNT) (wHK_IGN_SQ_CNT : P R.HK_IGN_SQ_CNT) (wHK_STAT : P R.HK_STAT)
    (lhk : L .hk) (lmarks : L .marks) (lraised : L .raised) (s : State) : Within P L s (State.hkTrigReg s) := by
  unfold State.hkTrigReg
  with_reducible
    repeat' (first
        | apply Within.refl | assumption
        | apply Within.trans _ (within_hkIgnored wHK_IGN_REG_CNT wHK_IGN_SQ_CNT wHK_STAT lhk lmarks lraised ..)
        | apply Within.trans _ (within_setFlag ?_ ..) | apply Within.trans _ (within_hkStartReg wHK_STAT lhk ..)
        | apply Within.ite | apply wHK_STAT | dsimp only | split)

theorem within_hkTrig (wHK_ABORT_CNT : P R.HK_ABORT_CNT) (wHK_IGN_REG_CNT : P R.HK_IGN_REG_CNT)
    (wHK_IGN_SQ_CNT : P R.HK_IGN_SQ_CNT) (wHK_STAT : P R.HK_STAT) (lhk : L .hk) (lmarks : L .marks) (lraised : L .raised)
    (s : State) (sq : Bool) : Within P L s (State.hkTrig s sq) := by
  unfold State.hkTrig
  with_reducible
    repeat' (first
        | apply Within.refl | assumption
        | apply Within.trans _ (within_hkTrigSq wHK_ABORT_CNT wHK_IGN_REG_CNT wHK_IGN_SQ_CNT wHK_STAT lhk lmarks lraised ..)
        | apply Within.trans _ (within_hkTrigReg wHK_IGN_REG_CNT wHK_IGN_SQ_CNT wHK_STAT lhk lmarks lraised ..) | apply Within.ite
        | dsimp only | split)

theorem within_execHkTimerExpiry (wHK_ABORT_CNT : P R.HK_ABORT_CNT) (wHK_IGN_REG_CNT : P R.HK_IGN_REG_CNT)
    (wHK_IGN_SQ_CNT : P R.HK_IGN_SQ_CNT) (wHK_STAT : P R.HK_STAT) (lhk : L .hk) (lmarks : L .marks) (lraised : L .raised)
    (squall : Bool) (s : State) : WithinNext P L s (execHkTimerExpiry squall s) := by
  unfold execHkTimerExpiry
  with_reducible
    repeat' (first
        | apply Within.refl | assumption
        | apply Within.trans _ (within_hkTrig wHK_ABORT_CNT wHK_IGN_REG_CNT wHK_IGN_SQ_CNT wHK_STAT lhk lmarks lraised ..)
        | apply WithinNext.when_ | apply WithinNext.next | simp only [↓Within.upd_hk lhk] | apply Within.ite
        | apply WithinNext.ite | dsimp only | split)

theorem within_hkSource (wHK_ABORT_CNT : P R.HK_ABORT_CNT) (wHK_IGN_REG_CNT : P R.HK_IGN_REG_CNT)
    (wHK_IGN_SQ_CNT : P R.HK_IGN_SQ_CNT) (wHK_STAT : P R.HK_STAT) (lhk : L .hk) (lmarks : L .marks) (lraised : L .raised)
    (s : State) (src gpio : Nat) : Within P L s (State.hkSource s src gpio) := by
  unfold State.hkSource
  with_reducible
    repeat' (first
        | apply Within.refl | assumption
        | apply Within.trans _ (within_hkTrig wHK_ABORT_CNT wHK_IGN_REG_CNT wHK_IGN_SQ_CNT wHK_STAT lhk lmarks lraised ..)
        | apply Within.ite | dsimp only | split)

/-! ### Machine/Periph -/

theorem within_i2cPut (lhi : L .hi) (s : State) (b : Byte) : Within P L s (State.i2cPut s b) := by
  unfold State.i2cPut
  with_reducible
    repeat' (first
        | apply Within.refl | assumption | simp only [↓Within.upd_hi lhi] | apply Within.ite | dsimp only | split)

theorem within_uartPut (lhi : L .hi) (s : State) (b : Byte) : Within P L s (State.uartPut s b) := by
  unfold State.uartPut
  with_reducible
    repeat' (first
        | apply Within.refl | assumption | simp only [↓Within.upd_hi lhi] | apply Within.ite | dsimp only | split)

theorem within_fifoShow (wHI_UART_RXD : P R.HI_UART_RXD) (wPM_I2C_RXD : P R.PM_I2C_RXD) (s : State) :
    Within P L s (State.fifoShow s) := by
  unfold State.fifoShow
  with_reducible
    repeat' (first
        | apply Within.refl | assumption | apply Within.trans _ (within_wr ?_ ..) | apply Within.ite | apply wHI_UART_RXD
        | apply wPM_I2C_RXD | dsimp only | split)

theorem within_uartPop (wHI_UART_RXD : P R.HI_UART_RXD) (wPM_I2C_RXD : P R.PM_I2C_RXD) (lhi : L .hi) (s : State) :
    Within P L s (State.uartPop s) := by
  unfold State.uartPop
  with_reducible
    repeat' (first
        | apply Within.refl | assumption | apply Within.trans _ (within_fifoShow wHI_UART_RXD wPM_I2C_RXD ..)
        | simp only [↓Within.upd_hi lhi] | apply Within.ite | dsimp only | split)

theorem within_i2cPop (wHI_UART_RXD : P R.HI_UART_RXD) (wPM_I2C_RXD : P R.PM_I2C_RXD) (lhi : L .hi) (s : State) :
    Within P L s (State.i2cPop s) := by
  unfold State.i2cPop
  with_reducible
    repeat' (first
        | apply Within.refl | assumption | apply Within.trans _ (within_fifoShow wHI_UART_RXD wPM_I2C_RXD ..)
        | simp only [↓Within.upd_hi lhi] | apply Within.ite | dsimp only | split)

theorem within_periphRead (wHI_UART_RXD : P R.HI_UART_RXD) (wHK_FIFO_LVL : P R.HK_FIFO_LVL)
    (wHK_FIFO_RD : ∀ i, P (R.HK_FIFO_RD i)) (wHK_FIFO_RD_HI : ∀ i, P (R.HK_FIFO_RD_HI i)) (wPM_I2C_RXD : P R.PM_I2C_RXD)
    (lhi : L .hi) (lhk : L .hk) (s : State) (a : Nat) : Within P L s (State.periphRead s a).2 := by
  unfold State.periphRead
  with_reducible
    repeat' (first
        | apply Within.refl | assumption | apply Within.trans _ (within_hkPop wHK_FIFO_LVL wHK_FIFO_RD wHK_FIFO_RD_HI lhk ..)
        | apply Within.trans _ (within_uartPop wHI_UART_RXD wPM_I2C_RXD lhi ..)
        | apply Within.trans _ (within_i2cPop wHI_UART_RXD wPM_I2C_RXD lhi ..) | apply Within.ite | apply Within.ite_snd
        | dsimp only | split)

theorem within_execUartRxCharacter (wHI_UART_OVF_CNT : P R.HI_UART_OVF_CNT) (wHI_UART_RXD : P R.HI_UART_RXD)
    (wPM_I2C_RXD : P R.PM_I2C_RXD) (lhi : L .hi) (lmarks : L .marks) (c : Byte) (s : State) :
    WithinNext P L s (execUartRxCharacter c s) := by
  unfold execUartRxCharacter
  with_reducible
    repeat' (first
        | apply Within.refl | assumption | apply Within.trans _ (within_count lmarks ?_ ..)
        | apply Within.trans _ (within_fifoShow wHI_UART_RXD wPM_I2C_RXD ..) | apply WithinNext.next
        | simp only [↓Within.upd_hi lhi] | apply Within.ite | apply WithinNext.ite | apply wHI_UART_OVF_CNT | dsimp only | split)

theorem within_execI2cRxdRead (wHI_UART_RXD : P R.HI_UART_RXD) (wPM_I2C_RXD : P R.PM_I2C_RXD) (lhi : L .hi)
    (llastRead : L .lastRead) (s : State) : WithinNext P L s (execI2cRxdRead s) := by
  unfold execI2cRxdRead
  with_reducible
    repeat' (first
        | apply Within.refl | assumption | apply Within.trans _ (within_i2cPop wHI_UART_RXD wPM_I2C_RXD lhi ..)
        | apply WithinNext.next | simp only [↓Within.upd_lastRead llastRead] | apply Within.ite | apply WithinNext.ite
        | dsimp only | split)

theorem within_periphWrite (lhi : L .hi) (s : State) (a : Nat) (data : List Byte) :
    Within P L s (State.periphWrite s a data) := by
  unfold State.periphWrite
  with_reducible
    repeat' (first
        | apply Within.refl | assumption | apply Within.trans _ (within_uartPut lhi ..)
        | apply Within.trans _ (within_i2cPut lhi ..) | apply Within.ite | dsimp only | apply Within.foldl
        | apply Within.foldlBy Prod.snd | apply Within.foldlBy Prod.fst | intro _ | split)

theorem within_periphBurst (wHI_UART_RXD : P R.HI_UART_RXD) (wHK_FIFO_LVL : P R.HK_FIFO_LVL)
    (wHK_FIFO_RD : ∀ i, P (R.HK_FIFO_RD i)) (wHK_FIFO_RD_HI : ∀ i, P (R.HK_FIFO_RD_HI i)) (wPM_I2C_RXD : P R.PM_I2C_RXD)
    (lhi : L .hi) (lhk : L .hk) (s : State) (a n : Nat) : Within P L s (s.periphBurst a n).2 := by
  induction n generalizing s with
  | zero => exact .refl s
  | succ n ih => exact (within_periphRead wHI_UART_RXD wHK_FIFO_LVL wHK_FIFO_RD wHK_FIFO_RD_HI wPM_I2C_RXD lhi lhk s a).trans (ih _)

theorem within_execUartRxdRead (wHI_UART_RXD : P R.HI_UART_RXD) (wPM_I2C_RXD : P R.PM_I2C_RXD) (lhi : L .hi)
    (llastRead : L .lastRead) (s : State) : WithinNext P L s (execUartRxdRead s) := by
  unfold execUartRxdRead
  with_reducible
    repeat' (first
        | apply Within.refl | assumption | apply Within.trans _ (within_uartPop wHI_UART_RXD wPM_I2C_RXD lhi ..)
        | apply WithinNext.next | simp only [↓Within.upd_lastRead llastRead] | apply Within.ite | apply WithinNext.ite
        | dsimp only | split)

theorem within_uartTick (lhi : L .hi) (s : State) : Within P L s (State.uartTick s) := by
  unfold State.uartTick
  with_reducible
    repeat' (first
        | apply Within.refl | assumption | simp only [↓Within.upd_hi lhi] | apply Within.ite | dsimp only | split)

end Sys2Proof.Machine
end

