-- ==== Sys2Proof/Laws/Within2.lean ====
section
/-! SUPPORT. What the operations and the commands of these files leave alone: Machine/Dma, Flags, Nvc, Rf, Capture, Converters. -/

namespace Sys2Proof.Machine

variable {P : Nat → Prop} {L : Part → Prop}

/-! ### Machine/Dma -/

theorem within_bulkCons (wHI_RING_CONS : ∀ i, P (R.HI_RING_CONS i)) (lhi : L .hi) (s : State) (c : Nat) :
    Within P L s (State.bulkCons s c) := by
  unfold State.bulkCons
  with_reducible
    repeat' (first
        | apply Within.refl | assumption | apply Within.trans _ (within_ringWrote lhi ..)
        | apply Within.trans _ (within_incWrap ?_ ..) | apply Within.ite | apply wHI_RING_CONS | dsimp only | split)

theorem within_readDesc (wHI_DECODE_ERR_CNT : P R.HI_DECODE_ERR_CNT) (ldma : L .dma) (lmarks : L .marks) (lraised : L .raised)
    (s : State) (c a : Nat) : Within P L s (State.readDesc s c a).2 := by
  unfold State.readDesc
  with_reducible
    repeat' (first
        | apply Within.refl | assumption | apply Within.trans _ (within_decodeErr wHI_DECODE_ERR_CNT lmarks lraised ..)
        | simp only [↓Within.upd_dma ldma] | apply Within.ite | apply Within.ite_snd | dsimp only | split)

theorem within_setDescs (ldma : L .dma) (s : State) (c : Nat) (l : List DmaDesc) : Within P L s (State.setDescs s c l) := by
  unfold State.setDescs
  with_reducible
    repeat' (first
        | apply Within.refl | assumption | simp only [↓Within.upd_dma ldma] | apply Within.ite | dsimp only | split)

theorem within_setChSt (wDMA_CH_STAT : ∀ i, P (R.DMA_CH_STAT i)) (s : State) (c v : Nat) :
    Within P L s (State.setChSt s c v) := by
  unfold State.setChSt
  with_reducible
    repeat' (first
        | apply Within.refl | assumption | apply Within.trans _ (within_put ?_ ..) | apply Within.ite | apply wDMA_CH_STAT
        | dsimp only | split)

theorem within_takeDesc (wDMA_CH_CUR : ∀ i, P (R.DMA_CH_CUR i)) (wDMA_CH_CUR4 : ∀ i, P (R.DMA_CH_CUR i + 4))
    (wDMA_CH_STAT : ∀ i, P (R.DMA_CH_STAT i)) (wHI_DECODE_ERR_CNT : P R.HI_DECODE_ERR_CNT) (ldma : L .dma) (lmarks : L .marks)
    (lraised : L .raised) (s : State) (c a : Nat) : Within P L s (State.takeDesc s c a) := by
  unfold State.takeDesc
  with_reducible
    repeat' (first
        | apply Within.refl | assumption | apply Within.trans _ (within_readDesc wHI_DECODE_ERR_CNT ldma lmarks lraised ..)
        | apply Within.trans _ (within_setDescs ldma ..) | apply Within.trans _ (within_setChSt wDMA_CH_STAT ..)
        | apply Within.trans _ (within_put64 ?_ ?_ ..) | apply Within.ite | apply wDMA_CH_CUR | apply wDMA_CH_CUR4 | dsimp only
        | split | apply Within.snd_of (by assumption))

theorem within_park (wDMA_CH_STAT : ∀ i, P (R.DMA_CH_STAT i)) (ldma : L .dma) (s : State) (c : Nat) :
    Within P L s (State.park s c) := by
  unfold State.park
  with_reducible
    repeat' (first
        | apply Within.refl | assumption | apply Within.trans _ (within_setChSt wDMA_CH_STAT ..)
        | simp only [↓Within.upd_dma ldma] | apply Within.ite | dsimp only | split)

theorem within_chNext (wDMA_CH_CUR : ∀ i, P (R.DMA_CH_CUR i)) (wDMA_CH_CUR4 : ∀ i, P (R.DMA_CH_CUR i + 4))
    (wDMA_CH_STAT : ∀ i, P (R.DMA_CH_STAT i)) (wHI_DECODE_ERR_CNT : P R.HI_DECODE_ERR_CNT) (ldma : L .dma) (lmarks : L .marks)
    (lraised : L .raised) (s : State) (c : Nat) : Within P L s (State.chNext s c) := by
  unfold State.chNext
  with_reducible
    repeat' (first
        | apply Within.refl | assumption
        | apply Within.trans _ (within_takeDesc wDMA_CH_CUR wDMA_CH_CUR4 wDMA_CH_STAT wHI_DECODE_ERR_CNT ldma lmarks lraised ..)
        | apply Within.trans _ (within_park wDMA_CH_STAT ldma ..) | apply Within.ite | dsimp only | split)

theorem within_execDmaChDoorbell (wDMA_CH_CUR : ∀ i, P (R.DMA_CH_CUR i)) (wDMA_CH_CUR4 : ∀ i, P (R.DMA_CH_CUR i + 4))
    (wDMA_CH_STAT : ∀ i, P (R.DMA_CH_STAT i)) (wHI_DECODE_ERR_CNT : P R.HI_DECODE_ERR_CNT) (ldma : L .dma) (lmarks : L .marks)
    (lraised : L .raised) (ch : Fin 16) (sameCycle : Bool) (s : State) :
    WithinNext P L s (execDmaChDoorbell ch sameCycle s) := by
  unfold execDmaChDoorbell
  with_reducible
    repeat' (first
        | apply Within.refl | assumption | apply Within.trans _ (within_incWrap ?_ ..)
        | apply Within.trans _ (within_chNext wDMA_CH_CUR wDMA_CH_CUR4 wDMA_CH_STAT wHI_DECODE_ERR_CNT ldma lmarks lraised ..)
        | apply WithinNext.next | apply Within.ite | apply WithinNext.ite | apply wDMA_CH_STAT | dsimp only | split)

theorem within_chDisable (wDMA_CH_CFG : ∀ i, P (R.DMA_CH_CFG i)) (wDMA_CH_STAT : ∀ i, P (R.DMA_CH_STAT i)) (ldma : L .dma)
    (lraised : L .raised) (s : State) (c : Nat) : Within P L s (State.chDisable s c) := by
  unfold State.chDisable
  with_reducible
    repeat' (first
        | apply Within.refl | assumption | apply Within.trans _ (within_setDescs ldma ..)
        | apply Within.trans _ (within_setChSt wDMA_CH_STAT ..) | apply Within.trans _ (within_setFlag ?_ ..)
        | apply Within.trans _ (within_raiseTo lraised ..) | apply Within.ite | apply wDMA_CH_CFG | dsimp only | split)

theorem within_chStart (wDMA_CH_CFG : ∀ i, P (R.DMA_CH_CFG i)) (wDMA_CH_CUR : ∀ i, P (R.DMA_CH_CUR i))
    (wDMA_CH_CUR4 : ∀ i, P (R.DMA_CH_CUR i + 4)) (wDMA_CH_STAT : ∀ i, P (R.DMA_CH_STAT i))
    (wHI_DECODE_ERR_CNT : P R.HI_DECODE_ERR_CNT) (ldma : L .dma) (lmarks : L .marks) (lraised : L .raised) (s : State) (c : Nat)
    : Within P L s (State.chStart s c) := by
  unfold State.chStart
  with_reducible
    repeat' (first
        | apply Within.refl | assumption | apply Within.trans _ (within_setFlag ?_ ..)
        | apply Within.trans _ (within_chNext wDMA_CH_CUR wDMA_CH_CUR4 wDMA_CH_STAT wHI_DECODE_ERR_CNT ldma lmarks lraised ..)
        | apply Within.trans _ (within_takeDesc wDMA_CH_CUR wDMA_CH_CUR4 wDMA_CH_STAT wHI_DECODE_ERR_CNT ldma lmarks lraised ..)
        | apply Within.ite | apply wDMA_CH_CFG | dsimp only | split)

theorem within_setDesc (ldma : L .dma) (s : State) (c : Nat) (d : DmaDesc) : Within P L s (State.setDesc s c d) := by
  unfold State.setDesc
  with_reducible
    repeat' (first
        | apply Within.refl | assumption | apply Within.trans _ (within_setDescs ldma ..) | apply Within.ite | dsimp only | split)

theorem within_dmaShow (wDMA_CH_STAT : ∀ i, P (R.DMA_CH_STAT i)) (wDMA_STATUS : P R.DMA_STATUS) (s : State) :
    Within P L s (State.dmaShow s) := by
  unfold State.dmaShow
  with_reducible
    repeat' (first
        | apply Within.refl | assumption | apply Within.trans _ (within_put ?_ ..) | apply Within.ite | apply wDMA_CH_STAT
        | apply wDMA_STATUS | dsimp only | apply Within.foldl | apply Within.foldlBy Prod.snd | apply Within.foldlBy Prod.fst
        | intro _ | split)

theorem within_descFail (wDMA_CH_STAT : ∀ i, P (R.DMA_CH_STAT i)) (wDMA_STATUS : P R.DMA_STATUS) (ldma : L .dma) (s : State)
    (c id err : Nat) : Within P L s (State.descFail s c id err) := by
  unfold State.descFail
  with_reducible
    repeat' (first
        | apply Within.refl | assumption | apply Within.trans _ (within_setDesc ldma ..)
        | apply Within.trans _ (within_dmaShow wDMA_CH_STAT wDMA_STATUS ..) | simp only [↓Within.upd_dma ldma] | apply Within.ite
        | dsimp only | split)

theorem within_readAhead (wDMA_CH_CUR : ∀ i, P (R.DMA_CH_CUR i)) (wDMA_CH_CUR4 : ∀ i, P (R.DMA_CH_CUR i + 4))
    (wDMA_CH_STAT : ∀ i, P (R.DMA_CH_STAT i)) (wHI_DECODE_ERR_CNT : P R.HI_DECODE_ERR_CNT) (ldma : L .dma) (lmarks : L .marks)
    (lraised : L .raised) (s : State) (c : Nat) : Within P L s (State.readAhead s c) := by
  unfold State.readAhead
  with_reducible
    repeat' (first
        | apply Within.refl | assumption | apply Within.trans _ (within_readDesc wHI_DECODE_ERR_CNT ldma lmarks lraised ..)
        | apply Within.trans _ (within_takeDesc wDMA_CH_CUR wDMA_CH_CUR4 wDMA_CH_STAT wHI_DECODE_ERR_CNT ldma lmarks lraised ..)
        | apply Within.ite | dsimp only | split | apply Within.snd_of (by assumption))

theorem within_pulse (ldma : L .dma) (lnvc : L .nvc) (s : State) (p : Nat) : Within P L s (State.pulse s p) := by
  unfold State.pulse
  with_reducible
    repeat' (first
        | apply Within.refl | assumption | simp only [↓Within.upd_nvc_dma lnvc ldma] | apply Within.ite | dsimp only | split)

theorem within_burstEnd (wDMA_CH_STAT : ∀ i, P (R.DMA_CH_STAT i)) (s : State) (c : Nat) :
    Within P L s (State.burstEnd s c) := by
  unfold State.burstEnd
  with_reducible
    repeat' (first
        | apply Within.refl | assumption | apply Within.trans _ (within_setChSt wDMA_CH_STAT ..) | apply Within.ite | dsimp only
        | split)

theorem within_execDmaChannelDisable (wDMA_CH_CFG : ∀ i, P (R.DMA_CH_CFG i)) (wDMA_CH_STAT : ∀ i, P (R.DMA_CH_STAT i))
    (ldma : L .dma) (lraised : L .raised) (ch : Fin 16) (s : State) : WithinNext P L s (execDmaChannelDisable ch s) := by
  unfold execDmaChannelDisable
  with_reducible
    repeat' (first
        | apply Within.refl | assumption | apply Within.trans _ (within_chDisable wDMA_CH_CFG wDMA_CH_STAT ldma lraised ..)
        | apply WithinNext.next | apply Within.ite | apply WithinNext.ite | dsimp only | split)

theorem within_recordsOut (lhi : L .hi) (s : State) (r : Nat) (b : List Byte) : Within P L s (State.recordsOut s r b) := by
  unfold State.recordsOut
  with_reducible
    repeat' (first
        | apply Within.refl | assumption | simp only [↓Within.upd_hi lhi] | apply Within.ite | dsimp only | split)

theorem within_burstStore_o (wBF_WRITE_BLOCK_CNT : ∀ i, P (R.BF_WRITE_BLOCK_CNT i)) (wHI_DECODE_ERR_CNT : P R.HI_DECODE_ERR_CNT)
    (lbf : L .bf) (lhi : L .hi) (lmarks : L .marks) (lmem : L .mem) (lraised : L .raised) (s : State) (c : Nat) (d : DmaDesc)
    (x : DmaSlot) : ∀ {o}, (State.burstStore s c d x).1 = some o → Within P L s o := by
  intro o h
  unfold State.burstStore at h
  revert h
  with_reducible
    repeat' (first
        | apply Within.refl | assumption | apply Within.trans _ (within_recordsOut lhi ..)
        | apply Within.trans _ (within_setBytes lmem ..) | apply Within.trans _ (within_periphWrite lhi ..)
        | apply Within.trans _ (within_decodeErr wHI_DECODE_ERR_CNT lmarks lraised ..)
        | apply Within.trans _ (within_blockWrite wBF_WRITE_BLOCK_CNT wHI_DECODE_ERR_CNT lbf lmarks lraised ..) | apply Within.ite
        | apply Within.ite_snd | dsimp only | (intro h; first | (cases h; done) | injection h with h; subst h) | split | split)

theorem within_burstStore (wBF_WRITE_BLOCK_CNT : ∀ i, P (R.BF_WRITE_BLOCK_CNT i)) (wHI_DECODE_ERR_CNT : P R.HI_DECODE_ERR_CNT)
    (lbf : L .bf) (lhi : L .hi) (lmarks : L .marks) (lmem : L .mem) (lraised : L .raised) (s : State) (c : Nat) (d : DmaDesc)
    (x : DmaSlot) : Within P L s (State.burstStore s c d x).2 := by
  unfold State.burstStore
  with_reducible
    repeat' (first
        | apply Within.refl | assumption | apply Within.trans _ (within_recordsOut lhi ..)
        | apply Within.trans _ (within_setBytes lmem ..) | apply Within.trans _ (within_periphWrite lhi ..)
        | apply Within.trans _ (within_decodeErr wHI_DECODE_ERR_CNT lmarks lraised ..)
        | apply Within.trans _ (within_blockWrite wBF_WRITE_BLOCK_CNT wHI_DECODE_ERR_CNT lbf lmarks lraised ..) | apply Within.ite
        | apply Within.ite_snd | dsimp only | (intro h; first | (cases h; done) | injection h with h; subst h) | split | split)

theorem within_dmaTick (ldma : L .dma) (s : State) : Within P L s (State.dmaTick s) := by
  unfold State.dmaTick
  with_reducible
    repeat' (first
        | apply Within.refl | assumption | simp only [↓Within.upd_dma ldma] | apply Within.ite | dsimp only | split)

theorem within_dmaCount (wDMA_CH_BYTES : ∀ i, P (R.DMA_CH_BYTES i)) (wDMA_CH_BYTES4 : ∀ i, P (R.DMA_CH_BYTES i + 4))
    (wDMA_CH_STAT : ∀ i, P (R.DMA_CH_STAT i)) (lmarks : L .marks) (lraised : L .raised) (s : State) (c n : Nat) :
    Within P L s (State.dmaCount s c n) := by
  unfold State.dmaCount
  with_reducible
    repeat' (first
        | apply Within.refl | assumption | apply Within.trans _ (within_count48_by ?_ ?_ _ _ ?_)
        | apply Within.trans _ (within_raiseTo lraised ..) | apply Within.trans _ (within_stickFlag lmarks ?_ ..)
        | apply Within.ite | apply wDMA_CH_BYTES | apply wDMA_CH_BYTES4 | apply wDMA_CH_STAT | dsimp only | intro _ | split)

theorem within_execDmaCntWrap (wDMA_CH_BYTES : ∀ i, P (R.DMA_CH_BYTES i)) (wDMA_CH_BYTES4 : ∀ i, P (R.DMA_CH_BYTES i + 4))
    (wDMA_CH_STAT : ∀ i, P (R.DMA_CH_STAT i)) (lmarks : L .marks) (lraised : L .raised) (ch : Fin 16) (n : BitVec 13)
    (s : State) : WithinNext P L s (execDmaCntWrap ch n s) := by
  unfold execDmaCntWrap
  with_reducible
    repeat' (first
        | apply Within.refl | assumption
        | apply Within.trans _ (within_dmaCount wDMA_CH_BYTES wDMA_CH_BYTES4 wDMA_CH_STAT lmarks lraised ..)
        | apply WithinNext.when_ | apply WithinNext.next | apply Within.ite | apply WithinNext.ite | dsimp only | split)

theorem within_chReset (wDMA_CH_CFG : ∀ i, P (R.DMA_CH_CFG i)) (wDMA_CH_STAT : ∀ i, P (R.DMA_CH_STAT i))
    (wDMA_STATUS : P R.DMA_STATUS) (ldma : L .dma) (s : State) (c : Nat) : Within P L s (State.chReset s c) := by
  unfold State.chReset
  with_reducible
    repeat' (first
        | apply Within.refl | assumption | apply Within.trans _ (within_setFlag ?_ ..) | apply Within.trans _ (within_put ?_ ..)
        | apply Within.trans _ (within_setChSt wDMA_CH_STAT ..)
        | apply Within.trans _ (within_dmaShow wDMA_CH_STAT wDMA_STATUS ..) | apply Within.trans _ (within_setDescs ldma ..)
        | simp only [↓Within.upd_dma ldma] | apply Within.ite | apply wDMA_CH_CFG | apply wDMA_CH_STAT | dsimp only | split)

theorem within_execDmaChannelReset (wDMA_CH_CFG : ∀ i, P (R.DMA_CH_CFG i)) (wDMA_CH_STAT : ∀ i, P (R.DMA_CH_STAT i))
    (wDMA_STATUS : P R.DMA_STATUS) (ldma : L .dma) (ch : Fin 16) (s : State) : WithinNext P L s (execDmaChannelReset ch s) := by
  unfold execDmaChannelReset
  with_reducible
    repeat' (first
        | apply Within.refl | assumption | apply Within.trans _ (within_chReset wDMA_CH_CFG wDMA_CH_STAT wDMA_STATUS ldma ..)
        | apply WithinNext.next | apply Within.ite | apply WithinNext.ite | dsimp only | split)

theorem within_execDmaRequestAssert (wDMA_CH_STAT : ∀ i, P (R.DMA_CH_STAT i)) (ldma : L .dma) (line : Fin 8) (s : State) :
    WithinNext P L s (execDmaRequestAssert line s) := by
  unfold execDmaRequestAssert
  with_reducible
    repeat' (first
        | apply Within.refl | assumption | apply Within.trans _ (within_setChSt wDMA_CH_STAT ..) | apply WithinNext.next
        | simp only [↓Within.upd_dma ldma] | apply Within.ite | apply WithinNext.ite | dsimp only | apply Within.foldl
        | apply Within.foldlBy Prod.snd | apply Within.foldlBy Prod.fst | intro _ | split)

theorem within_writeBack (wBF_WRITE_BLOCK_CNT : ∀ i, P (R.BF_WRITE_BLOCK_CNT i)) (wHI_DECODE_ERR_CNT : P R.HI_DECODE_ERR_CNT)
    (lmarks : L .marks) (lmem : L .mem) (lraised : L .raised) (s : State) (c : Nat) (d : DmaDesc) :
    Within P L s (State.writeBack s c d) := by
  unfold State.writeBack
  with_reducible
    repeat' (first
        | apply Within.refl | assumption | apply Within.trans _ (within_decodeErr wHI_DECODE_ERR_CNT lmarks lraised ..)
        | apply Within.trans _ (within_count lmarks ?_ ..) | apply Within.trans _ (within_setByte lmem ..) | apply Within.ite
        | apply wBF_WRITE_BLOCK_CNT | dsimp only | split)

theorem within_descErrEnd (wBF_WRITE_BLOCK_CNT : ∀ i, P (R.BF_WRITE_BLOCK_CNT i)) (wDMA_CH_CUR : ∀ i, P (R.DMA_CH_CUR i))
    (wDMA_CH_CUR4 : ∀ i, P (R.DMA_CH_CUR i + 4)) (wDMA_CH_ERR_CNT : ∀ i, P (R.DMA_CH_ERR_CNT i))
    (wDMA_CH_STAT : ∀ i, P (R.DMA_CH_STAT i)) (wHI_DECODE_ERR_CNT : P R.HI_DECODE_ERR_CNT)
    (wHI_RING_CONS : ∀ i, P (R.HI_RING_CONS i)) (wHI_RING_STAT : ∀ i, P (R.HI_RING_STAT i)) (ldma : L .dma) (lhi : L .hi)
    (lmarks : L .marks) (lmem : L .mem) (lraised : L .raised) (s : State) (c : Nat) (d : DmaDesc) :
    Within P L s (State.descErrEnd s c d) := by
  unfold State.descErrEnd
  with_reducible
    repeat' (first
        | apply Within.refl | assumption | apply Within.trans _ (within_put ?_ ..)
        | apply Within.trans _ (within_writeBack wBF_WRITE_BLOCK_CNT wHI_DECODE_ERR_CNT lmarks lmem lraised ..)
        | apply Within.trans _ (within_count lmarks ?_ ..) | apply Within.trans _ (within_raise lraised ..)
        | apply Within.trans _ (within_setChSt wDMA_CH_STAT ..) | apply Within.trans _ (within_raiseTo lraised ..)
        | apply Within.trans _ (within_park wDMA_CH_STAT ldma ..)
        | apply Within.trans _ (within_ringError wHI_RING_STAT lraised ..)
        | apply Within.trans _ (within_bulkCons wHI_RING_CONS lhi ..)
        | apply Within.trans _ (within_chNext wDMA_CH_CUR wDMA_CH_CUR4 wDMA_CH_STAT wHI_DECODE_ERR_CNT ldma lmarks lraised ..)
        | apply Within.ite | apply wDMA_CH_ERR_CNT | apply wDMA_CH_STAT | dsimp only | split)

theorem within_execDmaDescriptorComplete (wBF_WRITE_BLOCK_CNT : ∀ i, P (R.BF_WRITE_BLOCK_CNT i))
    (wDMA_CH_CUR : ∀ i, P (R.DMA_CH_CUR i)) (wDMA_CH_CUR4 : ∀ i, P (R.DMA_CH_CUR i + 4))
    (wDMA_CH_ERR_CNT : ∀ i, P (R.DMA_CH_ERR_CNT i)) (wDMA_CH_STAT : ∀ i, P (R.DMA_CH_STAT i))
    (wHI_DECODE_ERR_CNT : P R.HI_DECODE_ERR_CNT) (wHI_RING_CONS : ∀ i, P (R.HI_RING_CONS i))
    (wHI_RING_STAT : ∀ i, P (R.HI_RING_STAT i)) (ldma : L .dma) (lhi : L .hi) (lmarks : L .marks) (lmem : L .mem)
    (lnvc : L .nvc) (lraised : L .raised) (ch : Fin 16) (s : State) : WithinNext P L s (execDmaDescriptorComplete ch s) := by
  unfold execDmaDescriptorComplete
  with_reducible
    repeat' (first
        | apply Within.refl | assumption | apply Within.trans _ (within_setDescs ldma ..)
        | apply Within.trans _ (within_put64 ?_ ?_ ..)
        | apply Within.trans _ (within_descErrEnd wBF_WRITE_BLOCK_CNT wDMA_CH_CUR wDMA_CH_CUR4 wDMA_CH_ERR_CNT wDMA_CH_STAT wHI_DECODE_ERR_CNT wHI_RING_CONS wHI_RING_STAT ldma lhi lmarks lmem lraised ..)
        | apply Within.trans _ (within_writeBack wBF_WRITE_BLOCK_CNT wHI_DECODE_ERR_CNT lmarks lmem lraised ..)
        | apply Within.trans _ (within_bulkCons wHI_RING_CONS lhi ..) | apply Within.trans _ (within_pulse ldma lnvc ..)
        | apply Within.trans _ (within_chNext wDMA_CH_CUR wDMA_CH_CUR4 wDMA_CH_STAT wHI_DECODE_ERR_CNT ldma lmarks lraised ..)
        | apply WithinNext.next | apply Within.ite | apply WithinNext.ite | apply wDMA_CH_CUR | apply wDMA_CH_CUR4 | dsimp only
        | split)

theorem within_burstData (wHI_DECODE_ERR_CNT : P R.HI_DECODE_ERR_CNT) (wHI_UART_RXD : P R.HI_UART_RXD)
    (wHK_FIFO_LVL : P R.HK_FIFO_LVL) (wHK_FIFO_RD : ∀ i, P (R.HK_FIFO_RD i)) (wHK_FIFO_RD_HI : ∀ i, P (R.HK_FIFO_RD_HI i))
    (wPM_I2C_RXD : P R.PM_I2C_RXD) (ldma : L .dma) (lhi : L .hi) (lhk : L .hk) (lmarks : L .marks) (lraised : L .raised)
    (s : State) (c : Nat) (d : DmaDesc) (x : DmaSlot) : Within P L s (State.burstData s c d x).2 := by
  unfold State.burstData
  with_reducible
    repeat' (first
        | apply Within.refl | assumption
        | apply Within.trans _ (within_periphBurst wHI_UART_RXD wHK_FIFO_LVL wHK_FIFO_RD wHK_FIFO_RD_HI wPM_I2C_RXD lhi lhk ..)
        | apply Within.trans _ (within_decodeErr wHI_DECODE_ERR_CNT lmarks lraised ..) | simp only [↓Within.upd_dma ldma]
        | apply Within.ite | apply Within.ite_snd | dsimp only | split | apply Within.snd_of (by assumption))

theorem within_execDmaBurstFilled (wDMA_CH_STAT : ∀ i, P (R.DMA_CH_STAT i)) (wDMA_STATUS : P R.DMA_STATUS)
    (wHI_DECODE_ERR_CNT : P R.HI_DECODE_ERR_CNT) (wHI_UART_RXD : P R.HI_UART_RXD) (wHK_FIFO_LVL : P R.HK_FIFO_LVL)
    (wHK_FIFO_RD : ∀ i, P (R.HK_FIFO_RD i)) (wHK_FIFO_RD_HI : ∀ i, P (R.HK_FIFO_RD_HI i)) (wPM_I2C_RXD : P R.PM_I2C_RXD)
    (ldma : L .dma) (lhi : L .hi) (lhk : L .hk) (lmarks : L .marks) (lraised : L .raised) (slot : Fin 64) (hostErr : Bool)
    (s : State) : WithinNext P L s (execDmaBurstFilled slot hostErr s) := by
  unfold execDmaBurstFilled
  with_reducible
    repeat' (first
        | apply Within.refl | assumption | apply Within.trans _ (within_dmaShow wDMA_CH_STAT wDMA_STATUS ..)
        | apply Within.trans _ (within_descFail wDMA_CH_STAT wDMA_STATUS ldma ..)
        | apply Within.trans _ (within_burstData wHI_DECODE_ERR_CNT wHI_UART_RXD wHK_FIFO_LVL wHK_FIFO_RD wHK_FIFO_RD_HI wPM_I2C_RXD ldma lhi lhk lmarks lraised ..)
        | apply WithinNext.next | simp only [↓Within.upd_dma ldma] | apply Within.ite | apply WithinNext.ite | dsimp only | split
        | apply Within.snd_of (by assumption))

theorem within_execDmaBurstWrite (wBF_WRITE_BLOCK_CNT : ∀ i, P (R.BF_WRITE_BLOCK_CNT i))
    (wDMA_CH_BYTES : ∀ i, P (R.DMA_CH_BYTES i)) (wDMA_CH_BYTES4 : ∀ i, P (R.DMA_CH_BYTES i + 4))
    (wDMA_CH_STAT : ∀ i, P (R.DMA_CH_STAT i)) (wDMA_STATUS : P R.DMA_STATUS) (wHI_DECODE_ERR_CNT : P R.HI_DECODE_ERR_CNT)
    (lbf : L .bf) (ldma : L .dma) (lhi : L .hi) (lmarks : L .marks) (lmem : L .mem) (lraised : L .raised) (hostErr : Bool)
    (s : State) :
    WithinNext P L s (execDmaBurstWrite hostErr s) := by
  have fin : ∀ (u : State) (c : Nat) (x : DmaSlot), Within P L s u →
      Within P L s ((({ u with dma := { u.dma with lastWr := x.ch, slots := u.dma.slots.filter (fun y => y.slot != x.slot) } }).dmaShow).burstEnd
        c) := fun u c x h => (((Within.upd_dma ldma).2 h).trans (within_dmaShow wDMA_CH_STAT wDMA_STATUS ..)).trans (within_burstEnd wDMA_CH_STAT ..)
  unfold execDmaBurstWrite
  dsimp only
  split
  · exact .next (.refl s)
  · rename_i x _
    split
    · exact .next (.refl s)
    · rename_i d _
      apply WithinNext.ite
      · exact .next (fin _ _ _ (within_descFail wDMA_CH_STAT wDMA_STATUS ldma ..))
      · split
        · rename_i t u e
          have k : Within P L s t := within_burstStore_o wBF_WRITE_BLOCK_CNT wHI_DECODE_ERR_CNT lbf lhi lmarks lmem lraised s x.ch d x (by rw [e])
          exact .next (fin _ _ _ ((k.trans (within_setDesc ldma ..)).trans (within_dmaCount wDMA_CH_BYTES wDMA_CH_BYTES4 wDMA_CH_STAT lmarks lraised ..)))
        · rename_i t e
          have k : Within P L s t := .snd_of e (within_burstStore wBF_WRITE_BLOCK_CNT wHI_DECODE_ERR_CNT lbf lhi lmarks lmem lraised ..)
          exact .next (fin _ _ _ (k.trans (within_descFail wDMA_CH_STAT wDMA_STATUS ldma ..)))

theorem within_execDmaChannelEnable (wDMA_CH_CFG : ∀ i, P (R.DMA_CH_CFG i)) (wDMA_CH_CUR : ∀ i, P (R.DMA_CH_CUR i))
    (wDMA_CH_CUR4 : ∀ i, P (R.DMA_CH_CUR i + 4)) (wDMA_CH_STAT : ∀ i, P (R.DMA_CH_STAT i))
    (wHI_DECODE_ERR_CNT : P R.HI_DECODE_ERR_CNT) (ldma : L .dma) (lmarks : L .marks) (lraised : L .raised) (ch : Fin 16)
    (s : State) : WithinNext P L s (execDmaChannelEnable ch s) := by
  unfold execDmaChannelEnable
  with_reducible
    repeat' (first
        | apply Within.refl | assumption
        | apply Within.trans _ (within_chStart wDMA_CH_CFG wDMA_CH_CUR wDMA_CH_CUR4 wDMA_CH_STAT wHI_DECODE_ERR_CNT ldma lmarks lraised ..)
        | apply WithinNext.next | apply Within.ite | apply WithinNext.ite | dsimp only | split)

theorem within_execDmaBurstReadStart (wDMA_CH_CUR : ∀ i, P (R.DMA_CH_CUR i)) (wDMA_CH_CUR4 : ∀ i, P (R.DMA_CH_CUR i + 4))
    (wDMA_CH_STAT : ∀ i, P (R.DMA_CH_STAT i)) (wDMA_STATUS : P R.DMA_STATUS) (wHI_DECODE_ERR_CNT : P R.HI_DECODE_ERR_CNT)
    (ldma : L .dma) (lmarks : L .marks) (lraised : L .raised) (s : State) : WithinNext P L s (execDmaBurstReadStart s) := by
  unfold execDmaBurstReadStart
  with_reducible
    repeat' (first
        | apply Within.refl | assumption
        | apply Within.trans _ (within_readAhead wDMA_CH_CUR wDMA_CH_CUR4 wDMA_CH_STAT wHI_DECODE_ERR_CNT ldma lmarks lraised ..)
        | apply Within.trans _ (within_dmaShow wDMA_CH_STAT wDMA_STATUS ..) | apply Within.trans _ (within_setDesc ldma ..)
        | apply WithinNext.next | simp only [↓Within.upd_dma ldma] | apply Within.ite | apply WithinNext.ite | dsimp only | split)

theorem within_bulkBell (wDMA_CH_CUR : ∀ i, P (R.DMA_CH_CUR i)) (wDMA_CH_CUR4 : ∀ i, P (R.DMA_CH_CUR i + 4))
    (wDMA_CH_STAT : ∀ i, P (R.DMA_CH_STAT i)) (wHI_DECODE_ERR_CNT : P R.HI_DECODE_ERR_CNT) (ldma : L .dma) (lmarks : L .marks)
    (lraised : L .raised) (s : State) (c : Nat) : Within P L s (State.bulkBell s c) := by
  unfold State.bulkBell
  with_reducible
    repeat' (first
        | apply Within.refl | assumption
        | apply Within.trans _ (within_chNext wDMA_CH_CUR wDMA_CH_CUR4 wDMA_CH_STAT wHI_DECODE_ERR_CNT ldma lmarks lraised ..)
        | apply Within.ite | dsimp only | split)

/-! ### Machine/Flags -/

theorem within_nvFlags (wNVC_CORE_FLAGS : ∀ i, P (R.NVC_CORE_FLAGS i)) (lmarks : L .marks) (s : State) (c : Nat) (f : NvFlags) :
    Within P L s (State.nvFlags s c f) := by
  unfold State.nvFlags
  with_reducible
    repeat' (first
        | apply Within.refl | assumption | apply Within.trans _ (within_stick lmarks ?_ ..) | apply Within.ite
        | apply wNVC_CORE_FLAGS | dsimp only | split)

/-! ### Machine/Nvc -/

theorem within_streamPiece (wBF_WRITE_BLOCK_CNT : ∀ i, P (R.BF_WRITE_BLOCK_CNT i)) (wHI_DECODE_ERR_CNT : P R.HI_DECODE_ERR_CNT)
    (lbf : L .bf) (lmarks : L .marks) (lmem : L .mem) (lraised : L .raised) (s : State) (c loc rem : Nat) (d : StreamDesc)
    (data : List Byte) : Within P L s (State.streamPiece s c loc rem d data).1 := by
  unfold State.streamPiece
  with_reducible
    repeat' (first
        | apply Within.refl | assumption | apply Within.trans _ (within_setBytes lmem ..)
        | apply Within.trans _ (within_decodeErr wHI_DECODE_ERR_CNT lmarks lraised ..)
        | apply Within.trans _ (within_blockWrite wBF_WRITE_BLOCK_CNT wHI_DECODE_ERR_CNT lbf lmarks lraised ..) | apply Within.ite
        | apply Within.ite_fst | dsimp only | split)

theorem within_arrive (lnvc : L .nvc) (s : State) (c b n : Nat) : Within P L s (State.arrive s c b n) := by
  unfold State.arrive
  with_reducible
    repeat' (first
        | apply Within.refl | assumption | simp only [↓Within.upd_nvc lnvc] | apply Within.ite | dsimp only | split)

theorem within_slot0 (wNVC_MBX_OUT : ∀ i j, P (R.NVC_MBX_OUT i j)) (lnvc : L .nvc) (lraised : L .raised) (s : State) (c : Nat)
    (o : Op0) (free : Word) : Within P L s (State.slot0 s c o free) := by
  cases o
  all_goals
    dsimp only [State.slot0]
    with_reducible
      repeat' (first
        | apply Within.refl | apply Within.trans _ (within_setCore lnvc ..) | apply Within.trans _ (within_arrive lnvc ..)
        | apply Within.trans _ (within_wr ?_ ..) | apply Within.trans _ (within_raiseCore lraised ..) | apply Within.ite | apply wNVC_MBX_OUT)

theorem within_flow (wNVC_CORE_STAT : ∀ i, P (R.NVC_CORE_STAT i)) (lnvc : L .nvc) (s : State) (c : Nat) (w : Word) (o : Op0)
    (pc : Nat) : Within P L s (State.flow s c w o pc) := by
  unfold State.flow
  with_reducible
    repeat' (first
        | apply Within.refl | assumption | apply Within.trans _ (within_put ?_ ..) | apply Within.trans _ (within_setCore lnvc ..)
        | apply Within.ite | apply wNVC_CORE_STAT | dsimp only | split)

theorem within_bundle (wBF_REGION_STAT : ∀ i, P (R.BF_REGION_STAT i)) (wNVC_CORE_FLAGS : ∀ i, P (R.NVC_CORE_FLAGS i))
    (wNVC_CORE_STAT : ∀ i, P (R.NVC_CORE_STAT i)) (wNVC_JOB_DONE : ∀ i, P (R.NVC_JOB_DONE i))
    (wNVC_MBX_OUT : ∀ i j, P (R.NVC_MBX_OUT i j)) (wNVC_PERF_OVF : ∀ i, P (R.NVC_PERF_OVF i))
    (wnvCounter : ∀ i j, P (nvCounter i j)) (wnvCounter4 : ∀ i j, P (nvCounter i j + 4)) (lfree : L .free) (lmarks : L .marks)
    (lmem : L .mem) (lnvc : L .nvc) (lraised : L .raised) (s : State) (c pc : Nat) (w0 w1 w2 w3 : Word) (o0 : Op0) (o1 o2 : OpM)
    (o3 : Op3) (fe be : Nat) : Within P L s (State.bundle s c pc w0 w1 w2 w3 o0 o1 o2 o3 fe be) := by
  unfold State.bundle
  with_reducible
    repeat' (first
        | apply Within.refl | assumption | apply Within.trans _ (within_fresh lfree ..)
        | apply Within.trans _ (within_slot0 wNVC_MBX_OUT lnvc lraised ..) | apply Within.trans _ (within_setCore lnvc ..)
        | apply Within.trans _ (within_setBytes lmem ..) | apply Within.trans _ (within_nvFlags wNVC_CORE_FLAGS lmarks ..)
        | apply Within.trans _ (within_flow wNVC_CORE_STAT lnvc ..)
        | apply Within.trans _ (within_nvCount wNVC_PERF_OVF wnvCounter wnvCounter4 lmarks lraised ..)
        | apply Within.trans _ (within_partDone wNVC_CORE_STAT wNVC_JOB_DONE lnvc ..)
        | apply Within.trans _ (within_setCoreSt wNVC_CORE_STAT ..)
        | apply Within.trans _ (within_kernelPublish wBF_REGION_STAT lraised ..)
        | apply Within.trans _ (within_runEnd wNVC_CORE_STAT lnvc ..) | apply Within.ite | dsimp only | apply Within.foldl
        | apply Within.foldlBy Prod.snd | apply Within.foldlBy Prod.fst | intro _ | split | apply Within.snd_of (by assumption))

theorem within_execBundleIssue (wBF_REGION_STAT : ∀ i, P (R.BF_REGION_STAT i)) (wNVC_CORE_FLAGS : ∀ i, P (R.NVC_CORE_FLAGS i))
    (wNVC_CORE_STAT : ∀ i, P (R.NVC_CORE_STAT i)) (wNVC_JOB_DONE : ∀ i, P (R.NVC_JOB_DONE i))
    (wNVC_MBX_OUT : ∀ i j, P (R.NVC_MBX_OUT i j)) (wNVC_PERF_OVF : ∀ i, P (R.NVC_PERF_OVF i))
    (wnvCounter : ∀ i j, P (nvCounter i j)) (wnvCounter4 : ∀ i j, P (nvCounter i j + 4)) (lfree : L .free) (lmarks : L .marks)
    (lmem : L .mem) (lnvc : L .nvc) (lraised : L .raised) (core : Fin 16) (o0 : Op0) (o1 o2 : OpM) (o3 : Op3)
    (fe be : BitVec 32) (s : State) : WithinNext P L s (execBundleIssue core o0 o1 o2 o3 fe be s) := by
  unfold execBundleIssue
  with_reducible
    repeat' (first
        | apply Within.refl | assumption | apply Within.trans _ (within_faultCore wNVC_CORE_STAT lnvc lraised ..)
        | apply Within.trans _ (within_bundle wBF_REGION_STAT wNVC_CORE_FLAGS wNVC_CORE_STAT wNVC_JOB_DONE wNVC_MBX_OUT wNVC_PERF_OVF wnvCounter wnvCounter4 lfree lmarks lmem lnvc lraised ..)
        | apply WithinNext.next | apply Within.ite | apply WithinNext.ite | dsimp only | split)

theorem within_streamMove (wBF_WRITE_BLOCK_CNT : ∀ i, P (R.BF_WRITE_BLOCK_CNT i)) (wHI_DECODE_ERR_CNT : P R.HI_DECODE_ERR_CNT)
    (lbf : L .bf) (lmarks : L .marks) (lmem : L .mem) (lraised : L .raised) (s : State) (c : Nat) (x : NvStream) : Within P L s
    (State.streamMove s c x).1 := by
  unfold State.streamMove
  apply Within.foldlBy Prod.fst (.refl s)
  intro t i
  exact within_streamPiece wBF_WRITE_BLOCK_CNT wHI_DECODE_ERR_CNT lbf lmarks lmem lraised ..

theorem within_execStreamDescriptorDone (wBF_WRITE_BLOCK_CNT : ∀ i, P (R.BF_WRITE_BLOCK_CNT i))
    (wHI_DECODE_ERR_CNT : P R.HI_DECODE_ERR_CNT) (wNVC_CORE_FLAGS : ∀ i, P (R.NVC_CORE_FLAGS i)) (lbf : L .bf)
    (lmarks : L .marks) (lmem : L .mem) (lnvc : L .nvc) (lraised : L .raised) (core : Fin 16) (slot : Fin 4) (s : State) :
    WithinNext P L s (execStreamDescriptorDone core slot s) := by
  unfold execStreamDescriptorDone
  with_reducible
    repeat' (first
        | apply Within.refl | assumption
        | apply Within.trans _ (within_streamMove wBF_WRITE_BLOCK_CNT wHI_DECODE_ERR_CNT lbf lmarks lmem lraised ..)
        | apply Within.trans _ (within_setCore lnvc ..) | apply Within.trans _ (within_raiseCore lraised ..)
        | apply Within.trans _ (within_stickFlag lmarks ?_ ..) | apply WithinNext.next | apply Within.ite | apply WithinNext.ite
        | apply wNVC_CORE_FLAGS | dsimp only | split | apply Within.fst_of (by assumption))

theorem within_execBarrierRelease (lnvc : L .nvc) (b : Fin 8) (s : State) : WithinNext P L s (execBarrierRelease b s) := by
  unfold execBarrierRelease
  with_reducible
    repeat' (first
        | apply Within.refl | assumption | apply Within.trans _ (within_setCore lnvc ..) | apply WithinNext.next
        | simp only [↓Within.upd_nvc lnvc] | apply Within.ite | apply WithinNext.ite | dsimp only | apply Within.foldl
        | apply Within.foldlBy Prod.snd | apply Within.foldlBy Prod.fst | intro _ | split)

theorem within_execMailboxWaitRelease (lnvc : L .nvc) (core : Fin 16) (s : State) :
    WithinNext P L s (execMailboxWaitRelease core s) := by
  unfold execMailboxWaitRelease
  with_reducible
    repeat' (first
        | apply Within.refl | assumption | apply Within.trans _ (within_setCore lnvc ..) | apply WithinNext.when_
        | apply WithinNext.next | apply Within.ite | apply WithinNext.ite | dsimp only | split)

/-! ### Machine/Rf -/

theorem within_txen (lpins : L .pins) (s : State) (t : Nat) (b : Bool) : Within P L s (State.txen s t b) := by
  unfold State.txen
  with_reducible
    repeat' (first
        | apply Within.refl | assumption | simp only [↓Within.upd_pins lpins] | apply Within.ite | dsimp only | split)

theorem within_rxen (lpins : L .pins) (s : State) (t : Nat) (b : Bool) : Within P L s (State.rxen s t b) := by
  unfold State.rxen
  with_reducible
    repeat' (first
        | apply Within.refl | assumption | simp only [↓Within.upd_pins lpins] | apply Within.ite | dsimp only | split)

theorem within_execTddPinRise (lpins : L .pins) (tile : Fin 8) (tx : Bool) (s : State) :
    WithinNext P L s (execTddPinRise tile tx s) := by
  unfold execTddPinRise
  with_reducible
    repeat' (first
        | apply Within.refl | assumption | apply Within.trans _ (within_txen lpins ..)
        | apply Within.trans _ (within_rxen lpins ..) | apply WithinNext.when_ | apply WithinNext.next | apply Within.ite
        | apply WithinNext.ite | dsimp only | split)

theorem within_setBias (lrf : L .rf) (s : State) (p v : Nat) (fast : Bool) : Within P L s (State.setBias s p v fast) := by
  unfold State.setBias
  with_reducible
    repeat' (first
        | apply Within.refl | assumption | simp only [↓Within.upd_rf lrf] | apply Within.ite | dsimp only | split)

theorem within_biasDown (lrf : L .rf) (s : State) : Within P L s (State.biasDown s) := by
  unfold State.biasDown
  with_reducible
    repeat' (first
        | apply Within.refl | assumption | apply Within.trans _ (within_setBias lrf ..) | apply Within.ite | dsimp only
        | apply Within.foldl | apply Within.foldlBy Prod.snd | apply Within.foldlBy Prod.fst | intro _ | split)

theorem within_synOff (wRF_SYN_STATUS : ∀ i, P (R.RF_SYN_STATUS i)) (s : State) (n : Nat) :
    Within P L s (State.synOff s n) := by
  unfold State.synOff
  with_reducible
    repeat' (first
        | apply Within.refl | assumption | apply Within.trans _ (within_put ?_ ..) | apply Within.ite | apply wRF_SYN_STATUS
        | dsimp only | split)

theorem within_synStart (wRF_SYN_STATUS : ∀ i, P (R.RF_SYN_STATUS i)) (lrf : L .rf) (s : State) (n : Nat) :
    Within P L s (State.synStart s n) := by
  unfold State.synStart
  with_reducible
    repeat' (first
        | apply Within.refl | assumption | apply Within.trans _ (within_setFlag ?_ ..) | apply Within.trans _ (within_put ?_ ..)
        | simp only [↓Within.upd_rf lrf] | apply Within.ite | apply wRF_SYN_STATUS | dsimp only | split)

theorem within_synAll (wRF_SYN_STATUS : ∀ i, P (R.RF_SYN_STATUS i)) (lrf : L .rf) (s : State) :
    Within P L s (State.synAll s) := by
  unfold State.synAll
  with_reducible
    repeat' (first
        | apply Within.refl | assumption | apply Within.trans _ (within_synStart wRF_SYN_STATUS lrf ..) | apply Within.ite
        | dsimp only | apply Within.foldl | apply Within.foldlBy Prod.snd | apply Within.foldlBy Prod.fst | intro _ | split)

theorem within_execPabiasRampEnd (lrf : L .rf) (path : Fin 64) (s : State) : WithinNext P L s (execPabiasRampEnd path s) := by
  unfold execPabiasRampEnd
  with_reducible
    repeat' (first
        | apply Within.refl | assumption | apply Within.trans _ (within_setBias lrf ..) | apply WithinNext.next | apply Within.ite
        | apply WithinNext.ite | dsimp only | split)

theorem within_setMute (wRF_PATH_STATE : ∀ i, P (R.RF_PATH_STATE i)) (s : State) (p v : Nat) :
    Within P L s (State.setMute s p v) := by
  unfold State.setMute
  with_reducible
    repeat' (first
        | apply Within.refl | assumption | apply Within.trans _ (within_put ?_ ..) | apply Within.ite | apply wRF_PATH_STATE
        | dsimp only | split)

theorem within_capFlag (ldfe : L .dfe) (s : State) (bit : Nat) (p : Nat → Cap → Bool) :
    Within P L s (State.capFlag s bit p) := by
  unfold State.capFlag
  with_reducible
    repeat' (first
        | apply Within.refl | assumption | simp only [↓Within.upd_dfe ldfe] | apply Within.ite | dsimp only | split)

theorem within_biasTake (wRF_PABIAS_CFG : ∀ i, P (R.RF_PABIAS_CFG i)) (wRF_PABIAS_LVL : ∀ i, P (R.RF_PABIAS_LVL i))
    (lrf : L .rf) (s : State) (p : Nat) : Within P L s (State.biasTake s p) := by
  unfold State.biasTake
  with_reducible
    repeat' (first
        | apply Within.refl | assumption | apply Within.trans _ (within_wr ?_ ..) | simp only [↓Within.upd_rf lrf]
        | apply Within.ite | apply wRF_PABIAS_CFG | apply wRF_PABIAS_LVL | dsimp only | split)

theorem within_setTx (wRF_PABIAS_CFG : ∀ i, P (R.RF_PABIAS_CFG i)) (wRF_PABIAS_LVL : ∀ i, P (R.RF_PABIAS_LVL i))
    (wRF_PATH_STATE : ∀ i, P (R.RF_PATH_STATE i)) (ldfe : L .dfe) (lrf : L .rf) (s : State) (p v : Nat) :
    Within P L s (State.setTx s p v) := by
  unfold State.setTx
  with_reducible
    repeat' (first
        | apply Within.refl | assumption | apply Within.trans _ (within_capFlag ldfe ..) | apply Within.trans _ (within_put ?_ ..)
        | apply Within.trans _ (within_biasTake wRF_PABIAS_CFG wRF_PABIAS_LVL lrf ..) | apply Within.ite | apply wRF_PATH_STATE
        | dsimp only | split)

theorem within_muteTx (wRF_PABIAS_CFG : ∀ i, P (R.RF_PABIAS_CFG i)) (wRF_PABIAS_LVL : ∀ i, P (R.RF_PABIAS_LVL i))
    (wRF_PATH_STATE : ∀ i, P (R.RF_PATH_STATE i)) (ldfe : L .dfe) (lrf : L .rf) (s : State) (p cause : Nat) :
    Within P L s (State.muteTx s p cause) := by
  unfold State.muteTx
  with_reducible
    repeat' (first
        | apply Within.refl | assumption | apply Within.trans _ (within_setMute wRF_PATH_STATE ..)
        | apply Within.trans _ (within_setTx wRF_PABIAS_CFG wRF_PABIAS_LVL wRF_PATH_STATE ldfe lrf ..) | apply Within.ite
        | dsimp only | split)

theorem within_clipTo (lfree : L .free) (s : State) (lvl e : Nat) (v : Int) : Within P L s (State.clipTo s lvl e v).2 := by
  unfold State.clipTo
  with_reducible
    repeat' (first
        | apply Within.refl | assumption | apply Within.trans _ (within_fresh lfree ..) | apply Within.ite | apply Within.ite_snd
        | dsimp only | split | apply Within.snd_of (by assumption))

theorem within_rffeLate (wRF_RFFE_LATE_CNT : ∀ i, P (R.RF_RFFE_LATE_CNT i)) (lmarks : L .marks) (lraised : L .raised)
    (s : State) (q trig : Nat) : Within P L s (State.rffeLate s q trig) := by
  unfold State.rffeLate
  with_reducible
    repeat' (first
        | apply Within.refl | assumption | apply Within.trans _ (within_raise lraised ..)
        | apply Within.trans _ (within_count lmarks ?_ ..) | apply Within.ite | apply wRF_RFFE_LATE_CNT | dsimp only | split)

theorem within_rffeBegin (lrf : L .rf) (s : State) (q trig : Nat) : Within P L s (State.rffeBegin s q trig) := by
  unfold State.rffeBegin
  with_reducible
    repeat' (first
        | apply Within.refl | assumption | simp only [↓Within.upd_rf lrf] | apply Within.ite | dsimp only | split)

theorem within_guardMark (ldfe : L .dfe) (s : State) (p : Nat) : Within P L s (State.guardMark s p) := by
  unfold State.guardMark
  with_reducible
    repeat' (first
        | apply Within.refl | assumption | apply Within.trans _ (within_capFlag ldfe ..) | apply Within.ite | dsimp only | split)

theorem within_keepOut (ldfe : L .dfe) (s : State) (el p : Nat) (x : List (Int × Int)) :
    Within P L s (State.keepOut s el p x) := by
  unfold State.keepOut
  with_reducible
    repeat' (first
        | apply Within.refl | assumption | simp only [↓Within.upd_dfe ldfe] | apply Within.ite | dsimp only | split)

theorem within_clipPeak (wRF_REG_PEAK_CNT : ∀ i, P (R.RF_REG_PEAK_CNT i)) (ldfe : L .dfe) (lfree : L .free) (lmarks : L .marks)
    (lraised : L .raised) (lrf : L .rf) (s : State) (p : Nat) (x : Int × Int) : Within P L s (State.clipPeak s p x) := by
  unfold State.clipPeak
  with_reducible
    repeat' (first
        | apply Within.refl | assumption | apply Within.trans _ (within_clipTo lfree ..)
        | apply Within.trans _ (within_guardMark ldfe ..) | apply Within.trans _ (within_count lmarks ?_ ..)
        | apply Within.trans _ (within_keepOut ldfe ..) | apply Within.trans _ (within_raise lraised ..)
        | simp only [↓Within.upd_rf lrf] | apply Within.ite | apply wRF_REG_PEAK_CNT | dsimp only | split
        | apply Within.snd_of (by assumption))

theorem within_execGuardPeakClip (wRF_REG_PEAK_CNT : ∀ i, P (R.RF_REG_PEAK_CNT i)) (ldfe : L .dfe) (lfree : L .free)
    (lmarks : L .marks) (lraised : L .raised) (lrf : L .rf) (path : Fin 64) (i q : BitVec 16) (s : State) :
    WithinNext P L s (execGuardPeakClip path i q s) := by
  unfold execGuardPeakClip
  with_reducible
    repeat' (first
        | apply Within.refl | assumption
        | apply Within.trans _ (within_clipPeak wRF_REG_PEAK_CNT ldfe lfree lmarks lraised lrf ..) | apply WithinNext.when_
        | apply WithinNext.next | apply Within.ite | apply WithinNext.ite | dsimp only | split)

theorem within_execPabiasRampStart (lrf : L .rf) (path : Fin 64) (s : State) :
    WithinNext P L s (execPabiasRampStart path s) := by
  unfold execPabiasRampStart
  with_reducible
    repeat' (first
        | apply Within.refl | assumption | apply Within.trans _ (within_setBias lrf ..) | apply WithinNext.next | apply Within.ite
        | apply WithinNext.ite | dsimp only | split)

theorem within_setRx (wRF_PATH_STATE : ∀ i, P (R.RF_PATH_STATE i)) (s : State) (p v : Nat) :
    Within P L s (State.setRx s p v) := by
  unfold State.setRx
  with_reducible
    repeat' (first
        | apply Within.refl | assumption | apply Within.trans _ (within_put ?_ ..) | apply Within.ite | apply wRF_PATH_STATE
        | dsimp only | split)

theorem within_unmutePath (wRF_PABIAS_CFG : ∀ i, P (R.RF_PABIAS_CFG i)) (wRF_PABIAS_LVL : ∀ i, P (R.RF_PABIAS_LVL i))
    (wRF_PATH_STATE : ∀ i, P (R.RF_PATH_STATE i)) (ldfe : L .dfe) (lrf : L .rf) (s : State) (p : Nat) :
    Within P L s (State.unmutePath s p) := by
  unfold State.unmutePath
  with_reducible
    repeat' (first
        | apply Within.refl | assumption | apply Within.trans _ (within_setRx wRF_PATH_STATE ..)
        | apply Within.trans _ (within_setTx wRF_PABIAS_CFG wRF_PABIAS_LVL wRF_PATH_STATE ldfe lrf ..)
        | simp only [↓Within.upd_rf lrf] | apply Within.ite | dsimp only | split)

theorem within_dutyHit (wRF_REG_DUTY_CNT : ∀ i, P (R.RF_REG_DUTY_CNT i)) (lmarks : L .marks) (lraised : L .raised) (s : State)
    (p : Nat) : Within P L s (State.dutyHit s p) := by
  unfold State.dutyHit
  with_reducible
    repeat' (first
        | apply Within.refl | assumption | apply Within.trans _ (within_raise lraised ..)
        | apply Within.trans _ (within_count lmarks ?_ ..) | apply Within.ite | apply wRF_REG_DUTY_CNT | dsimp only | split)

theorem within_execGuardDutyLimit (wRF_PABIAS_CFG : ∀ i, P (R.RF_PABIAS_CFG i)) (wRF_PABIAS_LVL : ∀ i, P (R.RF_PABIAS_LVL i))
    (wRF_PATH_STATE : ∀ i, P (R.RF_PATH_STATE i)) (wRF_REG_DUTY_CNT : ∀ i, P (R.RF_REG_DUTY_CNT i)) (ldfe : L .dfe)
    (lmarks : L .marks) (lraised : L .raised) (lrf : L .rf) (path : Fin 64) (s : State) :
    WithinNext P L s (execGuardDutyLimit path s) := by
  unfold execGuardDutyLimit
  with_reducible
    repeat' (first
        | apply Within.refl | assumption | apply Within.trans _ (within_guardMark ldfe ..)
        | apply Within.trans _ (within_dutyHit wRF_REG_DUTY_CNT lmarks lraised ..)
        | apply Within.trans _ (within_muteTx wRF_PABIAS_CFG wRF_PABIAS_LVL wRF_PATH_STATE ldfe lrf ..) | apply WithinNext.next
        | simp only [↓Within.upd_rf lrf] | apply Within.ite | apply WithinNext.ite | dsimp only | apply Within.foldl
        | apply Within.foldlBy Prod.snd | apply Within.foldlBy Prod.fst | intro _ | split)

theorem within_calAbort (lcv : L .cv) (lraised : L .raised) (s : State) (p : Nat × Nat → Bool) :
    Within P L s (State.calAbort s p) := by
  unfold State.calAbort
  with_reducible
    repeat' (first
        | apply Within.refl | assumption | apply Within.trans _ (within_raise lraised ..) | simp only [↓Within.upd_cv lcv]
        | apply Within.ite | dsimp only | apply Within.foldl | apply Within.foldlBy Prod.snd | apply Within.foldlBy Prod.fst
        | intro _ | split)

theorem within_muteRx (wRF_PATH_STATE : ∀ i, P (R.RF_PATH_STATE i)) (s : State) (p cause : Nat) :
    Within P L s (State.muteRx s p cause) := by
  unfold State.muteRx
  with_reducible
    repeat' (first
        | apply Within.refl | assumption | apply Within.trans _ (within_setMute wRF_PATH_STATE ..)
        | apply Within.trans _ (within_setRx wRF_PATH_STATE ..) | apply Within.ite | dsimp only | split)

theorem within_execSynLockLoss (wRF_LO_UNLOCK_CNT : ∀ i, P (R.RF_LO_UNLOCK_CNT i)) (wRF_PABIAS_CFG : ∀ i, P (R.RF_PABIAS_CFG i))
    (wRF_PABIAS_LVL : ∀ i, P (R.RF_PABIAS_LVL i)) (wRF_PATH_STATE : ∀ i, P (R.RF_PATH_STATE i))
    (wRF_SYN_STATUS : ∀ i, P (R.RF_SYN_STATUS i)) (lcv : L .cv) (ldfe : L .dfe) (lmarks : L .marks) (lpins : L .pins)
    (lraised : L .raised) (lrf : L .rf) (ltl : L .tl) (syn : Fin 5) (s : State) : WithinNext P L s (execSynLockLoss syn s) := by
  unfold execSynLockLoss
  with_reducible
    repeat' (first
        | apply Within.refl | assumption | apply Within.trans _ (within_count lmarks ?_ ..)
        | apply Within.trans _ (within_incSat ?_ ..) | apply Within.trans _ (within_put ?_ ..)
        | apply Within.trans _ (within_raise lraised ..) | apply Within.trans _ (within_calAbort lcv lraised ..)
        | apply Within.trans _ (within_capFlag ldfe ..) | apply Within.trans _ (within_muteRx wRF_PATH_STATE ..)
        | apply Within.trans _ (within_muteTx wRF_PABIAS_CFG wRF_PABIAS_LVL wRF_PATH_STATE ldfe lrf ..)
        | apply Within.trans _ (within_txen lpins ..) | apply WithinNext.next | simp only [↓Within.upd_tl_rf ltl lrf]
        | apply Within.ite | apply WithinNext.ite | apply wRF_LO_UNLOCK_CNT | apply wRF_SYN_STATUS | dsimp only
        | apply Within.foldl | apply Within.foldlBy Prod.snd | apply Within.foldlBy Prod.fst | intro _ | split)

theorem within_setPath (wRF_PABIAS_CFG : ∀ i, P (R.RF_PABIAS_CFG i)) (wRF_PABIAS_LVL : ∀ i, P (R.RF_PABIAS_LVL i))
    (wRF_PATH_STATE : ∀ i, P (R.RF_PATH_STATE i)) (ldfe : L .dfe) (lrf : L .rf) (s : State) (tx : Bool) (p v : Nat) :
    Within P L s (State.setPath s tx p v) := by
  unfold State.setPath
  with_reducible
    repeat' (first
        | apply Within.refl | assumption
        | apply Within.trans _ (within_setTx wRF_PABIAS_CFG wRF_PABIAS_LVL wRF_PATH_STATE ldfe lrf ..)
        | apply Within.trans _ (within_setRx wRF_PATH_STATE ..) | apply Within.ite | dsimp only | split)

theorem within_execRffeListEnd (wRF_RFFE_LATE_CNT : ∀ i, P (R.RF_RFFE_LATE_CNT i)) (lmarks : L .marks) (lraised : L .raised)
    (lrf : L .rf) (q : Fin 4) (s : State) : WithinNext P L s (execRffeListEnd q s) := by
  unfold execRffeListEnd
  with_reducible
    repeat' (first
        | apply Within.refl | assumption | apply Within.trans _ (within_rffeLate wRF_RFFE_LATE_CNT lmarks lraised ..)
        | apply Within.trans _ (within_rffeBegin lrf ..) | apply WithinNext.next | simp only [↓Within.upd_rf lrf]
        | apply Within.ite | apply WithinNext.ite | dsimp only | split)

theorem within_synFail (wRF_SYN_STATUS : ∀ i, P (R.RF_SYN_STATUS i)) (lraised : L .raised) (lrf : L .rf) (s : State)
    (n us : Nat) : Within P L s (State.synFail s n us) := by
  unfold State.synFail
  with_reducible
    repeat' (first
        | apply Within.refl | assumption | apply Within.trans _ (within_raise lraised ..)
        | apply Within.trans _ (within_put ?_ ..) | simp only [↓Within.upd_rf lrf] | apply Within.ite | apply wRF_SYN_STATUS
        | dsimp only | split)

theorem within_execSynCalTimeout (wRF_SYN_STATUS : ∀ i, P (R.RF_SYN_STATUS i)) (lraised : L .raised) (lrf : L .rf) (syn : Fin 5)
    (s : State) : WithinNext P L s (execSynCalTimeout syn s) := by
  unfold execSynCalTimeout
  with_reducible
    repeat' (first
        | apply Within.refl | assumption | apply Within.trans _ (within_synFail wRF_SYN_STATUS lraised lrf ..)
        | apply WithinNext.when_ | apply WithinNext.next | apply Within.ite | apply WithinNext.ite | dsimp only | split)

theorem within_lostTick (wRF_SYN_STATUS : ∀ i, P (R.RF_SYN_STATUS i)) (lrf : L .rf) (s : State) :
    Within P L s (State.lostTick s) := by
  unfold State.lostTick
  with_reducible
    repeat' (first
        | apply Within.refl | assumption | apply Within.trans _ (within_synStart wRF_SYN_STATUS lrf ..) | apply Within.ite
        | dsimp only | apply Within.foldl | apply Within.foldlBy Prod.snd | apply Within.foldlBy Prod.fst | intro _ | split)

theorem within_execGuardRmsMute (wRF_PABIAS_CFG : ∀ i, P (R.RF_PABIAS_CFG i)) (wRF_PABIAS_LVL : ∀ i, P (R.RF_PABIAS_LVL i))
    (wRF_PATH_STATE : ∀ i, P (R.RF_PATH_STATE i)) (wRF_REG_RMS_CNT : ∀ i, P (R.RF_REG_RMS_CNT i)) (ldfe : L .dfe)
    (lmarks : L .marks) (lraised : L .raised) (lrf : L .rf) (path : Fin 64) (energy : BitVec 64) (s : State) :
    WithinNext P L s (execGuardRmsMute path energy s) := by
  unfold execGuardRmsMute
  with_reducible
    repeat' (first
        | apply Within.refl | assumption | apply Within.trans _ (within_raise lraised ..)
        | apply Within.trans _ (within_guardMark ldfe ..) | apply Within.trans _ (within_count lmarks ?_ ..)
        | apply Within.trans _ (within_muteTx wRF_PABIAS_CFG wRF_PABIAS_LVL wRF_PATH_STATE ldfe lrf ..) | apply WithinNext.next
        | simp only [↓Within.upd_rf lrf] | apply Within.ite | apply WithinNext.ite | apply wRF_REG_RMS_CNT | dsimp only | split)

theorem within_execGuardMuteEnd (wRF_PABIAS_CFG : ∀ i, P (R.RF_PABIAS_CFG i)) (wRF_PABIAS_LVL : ∀ i, P (R.RF_PABIAS_LVL i))
    (wRF_PATH_STATE : ∀ i, P (R.RF_PATH_STATE i)) (ldfe : L .dfe) (lrf : L .rf) (path : Fin 64) (s : State) :
    WithinNext P L s (execGuardMuteEnd path s) := by
  unfold execGuardMuteEnd
  with_reducible
    repeat' (first
        | apply Within.refl | assumption
        | apply Within.trans _ (within_unmutePath wRF_PABIAS_CFG wRF_PABIAS_LVL wRF_PATH_STATE ldfe lrf ..)
        | apply WithinNext.when_ | apply WithinNext.next | apply Within.ite | apply WithinNext.ite | dsimp only | split)

theorem within_execPabiasChargeTrip (wRF_PABIAS_CFG : ∀ i, P (R.RF_PABIAS_CFG i)) (wRF_PABIAS_LVL : ∀ i, P (R.RF_PABIAS_LVL i))
    (wRF_PATH_STATE : ∀ i, P (R.RF_PATH_STATE i)) (ldfe : L .dfe) (lraised : L .raised) (lrf : L .rf) (path : Fin 64)
    (s : State) : WithinNext P L s (execPabiasChargeTrip path s) := by
  unfold execPabiasChargeTrip
  with_reducible
    repeat' (first
        | apply Within.refl | assumption | apply Within.trans _ (within_raise lraised ..)
        | apply Within.trans _ (within_setTx wRF_PABIAS_CFG wRF_PABIAS_LVL wRF_PATH_STATE ldfe lrf ..)
        | apply Within.trans _ (within_setBias lrf ..) | apply WithinNext.when_ | apply WithinNext.next | apply Within.ite
        | apply WithinNext.ite | dsimp only | split)

theorem within_execSynCalDone (wRF_SYN_STATUS : ∀ i, P (R.RF_SYN_STATUS i)) (lraised : L .raised) (lrf : L .rf) (syn : Fin 5)
    (us : BitVec 8) (lock : Bool) (s : State) : WithinNext P L s (execSynCalDone syn us lock s) := by
  unfold execSynCalDone
  with_reducible
    repeat' (first
        | apply Within.refl | assumption | apply Within.trans _ (within_put ?_ ..)
        | apply Within.trans _ (within_synFail wRF_SYN_STATUS lraised lrf ..) | apply WithinNext.next | apply Within.ite
        | apply WithinNext.ite | apply wRF_SYN_STATUS | dsimp only | split)

theorem within_execTddPinFall (lpins : L .pins) (tile : Fin 8) (tx : Bool) (s : State) :
    WithinNext P L s (execTddPinFall tile tx s) := by
  unfold execTddPinFall
  with_reducible
    repeat' (first
        | apply Within.refl | assumption | apply Within.trans _ (within_txen lpins ..)
        | apply Within.trans _ (within_rxen lpins ..) | apply WithinNext.when_ | apply WithinNext.next | apply Within.ite
        | apply WithinNext.ite | dsimp only | split)

theorem within_regCount (wRF_REG_STATUS : P R.RF_REG_STATUS) (s : State) : Within P L s (State.regCount s) := by
  unfold State.regCount
  with_reducible
    repeat' (first
        | apply Within.refl | assumption | apply Within.trans _ (within_put ?_ ..) | apply Within.ite | apply wRF_REG_STATUS
        | dsimp only | split)

theorem within_muteTick (wRF_PABIAS_CFG : ∀ i, P (R.RF_PABIAS_CFG i)) (wRF_PABIAS_LVL : ∀ i, P (R.RF_PABIAS_LVL i))
    (wRF_PATH_STATE : ∀ i, P (R.RF_PATH_STATE i)) (ldfe : L .dfe) (lrf : L .rf) (s : State) :
    Within P L s (State.muteTick s) := by
  unfold State.muteTick
  with_reducible
    repeat' (first
        | apply Within.refl | assumption
        | apply Within.trans _ (within_unmutePath wRF_PABIAS_CFG wRF_PABIAS_LVL wRF_PATH_STATE ldfe lrf ..) | apply Within.ite
        | dsimp only | apply Within.foldl | apply Within.foldlBy Prod.snd | apply Within.foldlBy Prod.fst | intro _ | split)

theorem within_biasDrive (lrf : L .rf) (s : State) : Within P L s (State.biasDrive s) := by
  unfold State.biasDrive
  with_reducible
    repeat' (first
        | apply Within.refl | assumption | apply Within.trans _ (within_setBias lrf ..) | apply Within.ite | dsimp only
        | apply Within.foldl | apply Within.foldlBy Prod.snd | apply Within.foldlBy Prod.fst | intro _ | split)

theorem within_regApply (wRF_REG_DUTY : ∀ i, P (R.RF_REG_DUTY i)) (wRF_REG_PEAK : ∀ i, P (R.RF_REG_PEAK i))
    (wRF_REG_RANGE_HI : ∀ i, P (R.RF_REG_RANGE_HI i)) (wRF_REG_RANGE_LO : ∀ i, P (R.RF_REG_RANGE_LO i))
    (wRF_REG_RMS : ∀ i, P (R.RF_REG_RMS i)) (wRF_REG_STATUS : P R.RF_REG_STATUS) (s : State) (v : List Nat) :
    Within P L s (State.regApply s v) := by
  unfold State.regApply
  with_reducible
    repeat' (first
        | apply Within.refl | assumption | apply Within.trans _ (within_put ?_ ..)
        | apply Within.trans _ (within_regCount wRF_REG_STATUS ..) | apply Within.trans _ (within_wrN ?_ ..) | apply Within.ite
        | apply wRF_REG_DUTY | apply wRF_REG_PEAK | apply wRF_REG_RANGE_HI | apply wRF_REG_RANGE_LO | apply wRF_REG_RMS
        | dsimp only | apply Within.foldl | apply Within.foldlBy Prod.snd | apply Within.foldlBy Prod.fst | intro _ | split)

theorem within_tune (wRF_SYN_FREQ : ∀ i, P (R.RF_SYN_FREQ i)) (wRF_SYN_STATUS : ∀ i, P (R.RF_SYN_STATUS i)) (ldfe : L .dfe)
    (lrf : L .rf) (s : State) (n f r : Nat) : Within P L s (State.tune s n f r) := by
  unfold State.tune
  with_reducible
    repeat' (first
        | apply Within.refl | assumption | apply Within.trans _ (within_put ?_ ..) | apply Within.trans _ (within_capFlag ldfe ..)
        | apply Within.trans _ (within_synStart wRF_SYN_STATUS lrf ..) | simp only [↓Within.upd_rf lrf] | apply Within.ite
        | apply wRF_SYN_FREQ | apply wRF_SYN_STATUS | dsimp only | split)

theorem within_execRffeListStart (lrf : L .rf) (q : Fin 4) (trig : Fin 6) (s : State) :
    WithinNext P L s (execRffeListStart q trig s) := by
  unfold execRffeListStart
  with_reducible
    repeat' (first
        | apply Within.refl | assumption | apply Within.trans _ (within_rffeBegin lrf ..) | apply WithinNext.next
        | simp only [↓Within.upd_rf lrf] | apply Within.ite | apply WithinNext.ite | dsimp only | split)

/-! ### Machine/Capture -/

theorem within_execRtBurstGrant (wHI_DECODE_ERR_CNT : P R.HI_DECODE_ERR_CNT) (wMC_PERF_OVF : P R.MC_PERF_OVF)
    (wMC_PORT_STAT : ∀ i, P (R.MC_PORT_STAT i)) (wMC_REFRESH : ∀ i, P (R.MC_REFRESH i)) (wMC_RT_LATE_CNT : P R.MC_RT_LATE_CNT)
    (wMC_SPLIT_CNT : P R.MC_SPLIT_CNT) (wmcCounter : ∀ i j, P (mcCounter i j)) (wmcCounter4 : ∀ i j, P (mcCounter i j + 4))
    (ldfe : L .dfe) (lmarks : L .marks) (lmc : L .mc) (lmem : L .mem) (lraised : L .raised) (tile : Fin 8) (ns : BitVec 16)
    (s : State) : WithinNext P L s (execRtBurstGrant tile ns s) := by
  unfold execRtBurstGrant
  with_reducible
    repeat' (first
        | apply Within.refl | assumption | apply Within.trans _ (within_refresh wMC_REFRESH lmc ..)
        | apply Within.trans _ (within_count lmarks ?_ ..)
        | apply Within.trans _ (within_mcCount wMC_PERF_OVF wmcCounter wmcCounter4 lmarks lraised ..)
        | apply Within.trans _ (within_tokTake wMC_PORT_STAT lmc ..)
        | apply Within.trans _ (within_dramAccess wHI_DECODE_ERR_CNT lmarks lmc lmem lraised ..)
        | apply Within.trans _ (within_raise lraised ..) | apply WithinNext.next | simp only [↓Within.upd_dfe ldfe]
        | apply Within.ite | apply WithinNext.ite | apply wMC_RT_LATE_CNT | apply wMC_SPLIT_CNT | dsimp only | split)

theorem within_srsTrigger (wNVC_CORE_STAT : ∀ i, P (R.NVC_CORE_STAT i)) (wNVC_TRIG_DROP_CNT : ∀ i, P (R.NVC_TRIG_DROP_CNT i))
    (lmarks : L .marks) (lnvc : L .nvc) (lraised : L .raised) (s : State) (k : Srs) : Within P L s (State.srsTrigger s k) := by
  unfold State.srsTrigger
  with_reducible
    repeat' (first
        | apply Within.refl | assumption
        | apply Within.trans _ (within_trigger wNVC_CORE_STAT wNVC_TRIG_DROP_CNT lmarks lnvc lraised ..) | apply Within.ite
        | dsimp only | apply Within.foldl | apply Within.foldlBy Prod.snd | apply Within.foldlBy Prod.fst | intro _ | split)

theorem within_srsJob (lhy : L .hy) (lnvc : L .nvc) (s : State) (k : Srs) : Within P L s (State.srsJob s k) := by
  unfold State.srsJob
  with_reducible
    repeat' (first
        | apply Within.refl | assumption | apply Within.trans _ (within_submitJob lnvc ..) | simp only [↓Within.upd_hy lhy]
        | apply Within.ite | dsimp only | split)

theorem within_execSrsCaptureDone (wNVC_CORE_STAT : ∀ i, P (R.NVC_CORE_STAT i))
    (wNVC_TRIG_DROP_CNT : ∀ i, P (R.NVC_TRIG_DROP_CNT i)) (lbf : L .bf) (lfree : L .free) (lhy : L .hy) (lmarks : L .marks)
    (lmem : L .mem) (lnvc : L .nvc) (lraised : L .raised) (slot : Fin 4096) (tones : Unit) (s : State) :
    WithinNext P L s (execSrsCaptureDone slot tones s) := by
  unfold execSrsCaptureDone
  with_reducible
    repeat' (first
        | apply Within.refl | assumption | apply Within.trans _ (within_fresh lfree ..)
        | apply Within.trans _ (within_setBytes lmem ..) | apply Within.trans _ (within_raiseTo lraised ..)
        | apply Within.trans _ (within_srsTrigger wNVC_CORE_STAT wNVC_TRIG_DROP_CNT lmarks lnvc lraised ..)
        | apply Within.trans _ (within_srsJob lhy lnvc ..) | apply WithinNext.next | simp only [↓Within.upd_bf lbf]
        | apply Within.ite | apply WithinNext.ite | dsimp only | split | apply Within.snd_of (by assumption))

theorem within_recipWrite (lmem : L .mem) (s : State) (d : Recip) (at_ : Nat) (bad : List Nat) :
    Within P L s (State.recipWrite s d at_ bad) := by
  unfold State.recipWrite
  with_reducible
    repeat' (first
        | apply Within.refl | assumption | apply Within.trans _ (within_setBytes lmem ..) | apply Within.ite | dsimp only
        | apply Within.foldl | apply Within.foldlBy Prod.snd | apply Within.foldlBy Prod.fst | intro _ | split)

theorem within_execRecipJobEnd (wBF_RECIP_BADGRP_CNT : P R.BF_RECIP_BADGRP_CNT) (wBF_REGION_STAT : ∀ i, P (R.BF_REGION_STAT i))
    (wNVC_CORE_STAT : ∀ i, P (R.NVC_CORE_STAT i)) (wNVC_JOB_DONE : ∀ i, P (R.NVC_JOB_DONE i)) (lmarks : L .marks)
    (lmem : L .mem) (lnvc : L .nvc) (lraised : L .raised) (job : BitVec 16) (bad vecs : Unit) (s : State) :
    WithinNext P L s (execRecipJobEnd job bad vecs s) := by
  unfold execRecipJobEnd
  with_reducible
    repeat' (first
        | apply Within.refl | assumption | apply Within.trans _ (within_signalJob wNVC_CORE_STAT wNVC_JOB_DONE lnvc ..)
        | apply Within.trans _ (within_raiseTo lraised ..) | apply Within.trans _ (within_recipWrite lmem ..)
        | apply Within.trans _ (within_countN lmarks ?_ ..) | apply Within.trans _ (within_publish wBF_REGION_STAT ..)
        | apply WithinNext.next | apply Within.ite | apply WithinNext.ite | apply wBF_RECIP_BADGRP_CNT | dsimp only | split)

theorem within_execObsCaptureEnd (wDFE_CAP_STATUS : ∀ i, P (R.DFE_CAP_STATUS i)) (ldfe : L .dfe) (lraised : L .raised)
    (tile : Fin 8) (samples : List (BitVec 16 × BitVec 16) × List (List (BitVec 16 × BitVec 16))) (s : State) :
    WithinNext P L s (execObsCaptureEnd tile samples s) := by
  unfold execObsCaptureEnd
  with_reducible
    repeat' (first
        | apply Within.refl | assumption | apply Within.trans _ (within_put ?_ ..)
        | apply Within.trans _ (within_raiseTo lraised ..) | apply WithinNext.next | simp only [↓Within.upd_dfe ldfe]
        | apply Within.ite | apply WithinNext.ite | apply wDFE_CAP_STATUS | dsimp only | split)

/-! ### Machine/Converters -/

theorem within_setPhase (wCV_ADC_STATUS : ∀ i, P (R.CV_ADC_STATUS i)) (s : State) (c v : Nat) :
    Within P L s (State.setPhase s c v) := by
  unfold State.setPhase
  with_reducible
    repeat' (first
        | apply Within.refl | assumption | apply Within.trans _ (within_put ?_ ..) | apply Within.ite | apply wCV_ADC_STATUS
        | dsimp only | split)

theorem within_pairPhase (wCV_ADC_STATUS : ∀ i, P (R.CV_ADC_STATUS i)) (lcv : L .cv) (s : State) (a v : Nat) :
    Within P L s (State.pairPhase s a v) := by
  unfold State.pairPhase
  with_reducible
    repeat' (first
        | apply Within.refl | assumption | apply Within.trans _ (within_setPhase wCV_ADC_STATUS ..)
        | simp only [↓Within.upd_cv lcv] | apply Within.ite | dsimp only | split)

theorem within_execRotShadowStart (wCV_ADC_STATUS : ∀ i, P (R.CV_ADC_STATUS i)) (lcv : L .cv) (pair : Fin 72) (s : State) :
    WithinNext P L s (execRotShadowStart pair s) := by
  unfold execRotShadowStart
  with_reducible
    repeat' (first
        | apply Within.refl | assumption | apply Within.trans _ (within_pairPhase wCV_ADC_STATUS lcv ..) | apply WithinNext.when_
        | apply WithinNext.next | apply Within.ite | apply WithinNext.ite | dsimp only | split)

theorem within_shadowed (wCV_SLICE_COEF : ∀ i j, P (R.CV_SLICE_COEF i j)) (wCV_SLICE_TRIM : ∀ i j, P (R.CV_SLICE_TRIM i j))
    (lcv : L .cv) (s : State) (usable : Bool) (c : Nat) (x : Shadow) : Within P L s (State.shadowed s usable c x) := by
  unfold State.shadowed
  with_reducible
    repeat' (first
        | apply Within.refl | assumption | apply Within.trans _ (within_put ?_ ..) | simp only [↓Within.upd_cv lcv]
        | apply Within.ite | apply wCV_SLICE_COEF | apply wCV_SLICE_TRIM | dsimp only | split)

theorem within_execRotShadowEnd (wCV_ADC_STATUS : ∀ i, P (R.CV_ADC_STATUS i))
    (wCV_GATE_FAIL_CNT : ∀ i, P (R.CV_GATE_FAIL_CNT i)) (wCV_SLICE_COEF : ∀ i j, P (R.CV_SLICE_COEF i j))
    (wCV_SLICE_TRIM : ∀ i j, P (R.CV_SLICE_TRIM i j)) (lcv : L .cv) (lmarks : L .marks) (lraised : L .raised) (pair : Fin 72)
    (usable : Bool) (ci : SliceCal) (di ri : BitVec 16 × BitVec 16 × BitVec 16)
    (cq : SliceCal) (dq rq : BitVec 16 × BitVec 16 × BitVec 16) (s : State) :
    WithinNext P L s (execRotShadowEnd pair usable ci di ri cq dq rq s) := by
  unfold execRotShadowEnd
  with_reducible
    repeat' (first
        | apply Within.refl | assumption | apply Within.trans _ (within_shadowed wCV_SLICE_COEF wCV_SLICE_TRIM lcv ..)
        | apply Within.trans _ (within_pairPhase wCV_ADC_STATUS lcv ..) | apply Within.trans _ (within_raise lraised ..)
        | apply Within.trans _ (within_incSat ?_ ..) | apply Within.trans _ (within_count lmarks ?_ ..) | apply WithinNext.next
        | apply Within.ite | apply WithinNext.ite | apply wCV_ADC_STATUS | apply wCV_GATE_FAIL_CNT | dsimp only | split)

theorem within_mapSlot (wCV_ADC_MAP : ∀ i, P (R.CV_ADC_MAP i)) (wCV_SLICE_QUAL : ∀ i j, P (R.CV_SLICE_QUAL i j)) (s : State)
    (c j k : Nat) : Within P L s (State.mapSlot s c j k) := by
  unfold State.mapSlot
  with_reducible
    repeat' (first
        | apply Within.refl | assumption | apply Within.trans _ (within_put ?_ ..) | apply Within.ite | apply wCV_ADC_MAP
        | apply wCV_SLICE_QUAL | dsimp only | split)

theorem within_handover (wCV_ADC_MAP : ∀ i, P (R.CV_ADC_MAP i)) (wCV_ADC_SPUR : ∀ i, P (R.CV_ADC_SPUR i))
    (wCV_ADC_STATUS : ∀ i, P (R.CV_ADC_STATUS i)) (wCV_SLICE_QUAL : ∀ i j, P (R.CV_SLICE_QUAL i j)) (lcv : L .cv)
    (lraised : L .raised) (s : State) (c : Nat) : Within P L s (State.handover s c) := by
  unfold State.handover
  with_reducible
    repeat' (first
        | apply Within.refl | assumption | apply Within.trans _ (within_put ?_ ..)
        | apply Within.trans _ (within_mapSlot wCV_ADC_MAP wCV_SLICE_QUAL ..) | apply Within.trans _ (within_incWrap ?_ ..)
        | apply Within.trans _ (within_raise lraised ..) | simp only [↓Within.upd_cv lcv] | apply Within.ite | apply wCV_ADC_SPUR
        | apply wCV_ADC_STATUS | apply wCV_SLICE_QUAL | dsimp only | split)

theorem within_cvTick (lcv : L .cv) (lpins : L .pins) (s : State) : Within P L s (State.cvTick s) := by
  unfold State.cvTick
  with_reducible
    repeat' (first
        | apply Within.refl | assumption | simp only [↓Within.upd_pins_cv lpins lcv] | apply Within.ite | dsimp only | split)

theorem within_execRotSettleEnd (wCV_ADC_STATUS : ∀ i, P (R.CV_ADC_STATUS i)) (lcv : L .cv) (pair : Fin 72) (s : State) :
    WithinNext P L s (execRotSettleEnd pair s) := by
  unfold execRotSettleEnd
  with_reducible
    repeat' (first
        | apply Within.refl | assumption | apply Within.trans _ (within_pairPhase wCV_ADC_STATUS lcv ..) | apply WithinNext.when_
        | apply WithinNext.next | apply Within.ite | apply WithinNext.ite | dsimp only | split)

theorem within_agesTick (wCV_ORX_QUAL : ∀ i, P (R.CV_ORX_QUAL i)) (wCV_TXQ_QUAL : ∀ i, P (R.CV_TXQ_QUAL i))
    (wDFE_DPD_QUAL : ∀ i, P (R.DFE_DPD_QUAL i)) (s : State) : Within P L s (State.agesTick s) := by
  unfold State.agesTick
  with_reducible
    repeat' (first
        | apply Within.refl | assumption | apply Within.trans _ (within_incSat ?_ ..) | apply Within.ite | apply wCV_ORX_QUAL
        | apply wCV_TXQ_QUAL | apply wDFE_DPD_QUAL | dsimp only | apply Within.foldl | apply Within.foldlBy Prod.snd
        | apply Within.foldlBy Prod.fst | intro _ | split)

theorem within_stepEnd (lcv : L .cv) (ltl : L .tl) (s : State) (k x : Nat) : Within P L s (State.stepEnd s k x) := by
  unfold State.stepEnd
  with_reducible
    repeat' (first
        | apply Within.refl | assumption | simp only [↓Within.upd_tl_cv ltl lcv] | apply Within.ite | dsimp only | split)

theorem within_journalRetired (wNVJ_STAT : P R.NVJ_STAT) (lnvj : L .nvj) (s : State) :
    Within P L s (State.journalRetired s) := by
  unfold State.journalRetired
  with_reducible
    repeat' (first
        | apply Within.refl | assumption | apply Within.trans _ (within_journalOwn wNVJ_STAT lnvj ..) | apply Within.ite
        | dsimp only | split | apply Within.snd_of (by assumption))

theorem within_noSpare (wCV_ADC_SPUR : ∀ i, P (R.CV_ADC_SPUR i)) (wCV_ADC_STATUS : ∀ i, P (R.CV_ADC_STATUS i)) (s : State)
    (c : Nat) : Within P L s (State.noSpare s c) := by
  unfold State.noSpare
  with_reducible
    repeat' (first
        | apply Within.refl | assumption | apply Within.trans _ (within_setFlag ?_ ..) | apply Within.trans _ (within_put ?_ ..)
        | apply Within.trans _ (within_setPhase wCV_ADC_STATUS ..) | apply Within.ite | apply wCV_ADC_SPUR | apply wCV_ADC_STATUS
        | dsimp only | split)

theorem within_execTxqCalStepDone (wCV_TXQ_QUAL : ∀ i, P (R.CV_TXQ_QUAL i)) (lcv : L .cv) (lraised : L .raised) (ltl : L .tl)
    (path : Fin 64) (dci dcq eps phi : BitVec 18) (leak img : BitVec 8) (s : State) :
    WithinNext P L s (execTxqCalStepDone path dci dcq eps phi leak img s) := by
  unfold execTxqCalStepDone
  with_reducible
    repeat' (first
        | apply Within.refl | assumption | apply Within.trans _ (within_stepEnd lcv ltl ..)
        | apply Within.trans _ (within_put ?_ ..) | apply Within.trans _ (within_raise lraised ..) | apply WithinNext.next
        | simp only [↓Within.upd_cv lcv] | apply Within.ite | apply WithinNext.ite | apply wCV_TXQ_QUAL | dsimp only | split)

theorem within_sliceSet (wCV_SLICE_COEF : ∀ i j, P (R.CV_SLICE_COEF i j)) (wCV_SLICE_TRIM : ∀ i j, P (R.CV_SLICE_TRIM i j))
    (s : State) (c : SliceCal) : Within P L s (State.sliceSet s c) := by
  unfold State.sliceSet
  with_reducible
    repeat' (first
        | apply Within.refl | assumption | apply Within.trans _ (within_put ?_ ..) | apply Within.ite | apply wCV_SLICE_COEF
        | apply wCV_SLICE_TRIM | dsimp only | split)

theorem within_execRxqStatsDone (lcv : L .cv) (lraised : L .raised) (path : Fin 64) (imb dc : BitVec 16 × BitVec 16) (s : State) :
    WithinNext P L s (execRxqStatsDone path imb dc s) := by
  unfold execRxqStatsDone
  with_reducible
    repeat' (first
        | apply Within.refl | assumption | apply Within.trans _ (within_raise lraised ..) | apply WithinNext.next
        | simp only [↓Within.upd_cv lcv] | apply Within.ite | apply WithinNext.ite | dsimp only | split)

theorem within_pairFreeze (wCV_ADC_SPUR : ∀ i, P (R.CV_ADC_SPUR i)) (wCV_ADC_STATUS : ∀ i, P (R.CV_ADC_STATUS i)) (s : State)
    (a : Nat) : Within P L s (State.pairFreeze s a) := by
  unfold State.pairFreeze
  with_reducible
    repeat' (first
        | apply Within.refl | assumption | apply Within.trans _ (within_noSpare wCV_ADC_SPUR wCV_ADC_STATUS ..) | apply Within.ite
        | dsimp only | split)

theorem within_fgAdc (wCV_ADC_MAP : ∀ i, P (R.CV_ADC_MAP i)) (wCV_ADC_SPUR : ∀ i, P (R.CV_ADC_SPUR i))
    (wCV_ADC_STATUS : ∀ i, P (R.CV_ADC_STATUS i)) (wCV_SLICE_QUAL : ∀ i j, P (R.CV_SLICE_QUAL i j)) (lraised : L .raised)
    (s : State) (c : Nat) : Within P L s (State.fgAdc s c) := by
  unfold State.fgAdc
  with_reducible
    repeat' (first
        | apply Within.refl | assumption | apply Within.trans _ (within_setFlag ?_ ..) | apply Within.trans _ (within_put ?_ ..)
        | apply Within.trans _ (within_mapSlot wCV_ADC_MAP wCV_SLICE_QUAL ..) | apply Within.trans _ (within_raise lraised ..)
        | apply Within.trans _ (within_setPhase wCV_ADC_STATUS ..)
        | apply Within.trans _ (within_noSpare wCV_ADC_SPUR wCV_ADC_STATUS ..) | apply Within.ite | apply wCV_ADC_SPUR
        | apply wCV_ADC_STATUS | apply wCV_SLICE_QUAL | dsimp only | apply Within.foldl | apply Within.foldlBy Prod.snd
        | apply Within.foldlBy Prod.fst | intro _ | split)

theorem within_execForegroundCalDone (wCV_ADC_MAP : ∀ i, P (R.CV_ADC_MAP i)) (wCV_ADC_SPUR : ∀ i, P (R.CV_ADC_SPUR i))
    (wCV_ADC_STATUS : ∀ i, P (R.CV_ADC_STATUS i)) (wCV_SLICE_COEF : ∀ i j, P (R.CV_SLICE_COEF i j))
    (wCV_SLICE_QUAL : ∀ i j, P (R.CV_SLICE_QUAL i j)) (wCV_SLICE_TRIM : ∀ i j, P (R.CV_SLICE_TRIM i j))
    (wNVJ_STAT : P R.NVJ_STAT) (lcv : L .cv) (lnvj : L .nvj) (lraised : L .raised) (cals : List SliceCal) (s : State) :
    WithinNext P L s (execForegroundCalDone cals s) := by
  unfold execForegroundCalDone
  with_reducible
    repeat' (first
        | apply Within.refl | assumption | apply Within.trans _ (within_sliceSet wCV_SLICE_COEF wCV_SLICE_TRIM ..)
        | apply Within.trans _ (within_raise lraised ..) | apply Within.trans _ (within_setFlag ?_ ..)
        | apply Within.trans _ (within_pairFreeze wCV_ADC_SPUR wCV_ADC_STATUS ..)
        | apply Within.trans _ (within_fgAdc wCV_ADC_MAP wCV_ADC_SPUR wCV_ADC_STATUS wCV_SLICE_QUAL lraised ..)
        | apply Within.trans _ (within_journalRetired wNVJ_STAT lnvj ..) | apply WithinNext.next | simp only [↓Within.upd_cv lcv]
        | apply Within.ite | apply WithinNext.ite | apply wCV_SLICE_QUAL | dsimp only | apply Within.foldl
        | apply Within.foldlBy Prod.snd | apply Within.foldlBy Prod.fst | intro _ | split)

theorem within_execRotOfflineEnd (wCV_ADC_SPUR : ∀ i, P (R.CV_ADC_SPUR i)) (wCV_ADC_STATUS : ∀ i, P (R.CV_ADC_STATUS i))
    (wCV_SLICE_COEF : ∀ i j, P (R.CV_SLICE_COEF i j)) (wCV_SLICE_QUAL : ∀ i j, P (R.CV_SLICE_QUAL i j))
    (wCV_SLICE_TRIM : ∀ i j, P (R.CV_SLICE_TRIM i j)) (wNVJ_STAT : P R.NVJ_STAT) (lcv : L .cv) (lnvj : L .nvj)
    (lraised : L .raised) (pair : Fin 72) (ci cq : SliceCal) (s : State) :
    WithinNext P L s (execRotOfflineEnd pair ci cq s) := by
  unfold execRotOfflineEnd
  with_reducible
    repeat' (first
        | apply Within.refl | assumption | apply Within.trans _ (within_sliceSet wCV_SLICE_COEF wCV_SLICE_TRIM ..)
        | apply Within.trans _ (within_pairPhase wCV_ADC_STATUS lcv ..) | apply Within.trans _ (within_raise lraised ..)
        | apply Within.trans _ (within_setFlag ?_ ..) | apply Within.trans _ (within_journalRetired wNVJ_STAT lnvj ..)
        | apply Within.trans _ (within_noSpare wCV_ADC_SPUR wCV_ADC_STATUS ..) | apply WithinNext.next
        | simp only [↓Within.upd_cv lcv] | apply Within.ite | apply WithinNext.ite | apply wCV_SLICE_QUAL | dsimp only
        | apply Within.foldl | apply Within.foldlBy Prod.snd | apply Within.foldlBy Prod.fst | intro _ | split)

theorem within_execSliceHandover (wCV_ADC_MAP : ∀ i, P (R.CV_ADC_MAP i)) (wCV_ADC_SPUR : ∀ i, P (R.CV_ADC_SPUR i))
    (wCV_ADC_STATUS : ∀ i, P (R.CV_ADC_STATUS i)) (wCV_SLICE_QUAL : ∀ i j, P (R.CV_SLICE_QUAL i j)) (lcv : L .cv)
    (lraised : L .raised) (pair : Fin 72) (gi oi gq oq : Unit) (s : State) :
    WithinNext P L s (execSliceHandover pair gi oi gq oq s) := by
  unfold execSliceHandover
  with_reducible
    repeat' (first
        | apply Within.refl | assumption | apply Within.trans _ (within_pairPhase wCV_ADC_STATUS lcv ..)
        | apply Within.trans _ (within_handover wCV_ADC_MAP wCV_ADC_SPUR wCV_ADC_STATUS wCV_SLICE_QUAL lcv lraised ..)
        | apply WithinNext.next | simp only [↓Within.upd_cv lcv] | apply Within.ite | apply WithinNext.ite | dsimp only | split)

theorem within_execRxqCorrectionApply (wCV_RXQ : ∀ i, P (R.CV_RXQ i)) (lcv : L .cv) (path : Fin 64) (s : State) :
    WithinNext P L s (execRxqCorrectionApply path s) := by
  unfold execRxqCorrectionApply
  with_reducible
    repeat' (first
        | apply Within.refl | assumption | apply Within.trans _ (within_wr ?_ ..) | apply WithinNext.next
        | simp only [↓Within.upd_cv lcv] | apply Within.ite | apply WithinNext.ite | apply wCV_RXQ | dsimp only | split)

theorem within_execOrxCalStepDone (wCV_ORX_QUAL : ∀ i, P (R.CV_ORX_QUAL i)) (lcv : L .cv) (lraised : L .raised) (ltl : L .tl)
    (tile : Fin 8) (dc imb dev : BitVec 16) (vals : List Nat) (s : State) :
    WithinNext P L s (execOrxCalStepDone tile dc imb dev vals s) := by
  unfold execOrxCalStepDone
  with_reducible
    repeat' (first
        | apply Within.refl | assumption | apply Within.trans _ (within_stepEnd lcv ltl ..)
        | apply Within.trans _ (within_raise lraised ..) | apply Within.trans _ (within_put ?_ ..) | apply WithinNext.next
        | simp only [↓Within.upd_cv lcv] | apply Within.ite | apply WithinNext.ite | apply wCV_ORX_QUAL | dsimp only | split)

theorem within_execDacTrimDone (wCV_DAC_STATUS : ∀ i, P (R.CV_DAC_STATUS i)) (lcv : L .cv) (lraised : L .raised)
    (worst : List (Fin 128 × BitVec 8)) (s : State) : WithinNext P L s (execDacTrimDone worst s) := by
  unfold execDacTrimDone
  with_reducible
    repeat' (first
        | apply Within.refl | assumption | apply Within.trans _ (within_setFlag ?_ ..) | apply Within.trans _ (within_put ?_ ..)
        | apply Within.trans _ (within_raise lraised ..) | apply WithinNext.next | simp only [↓Within.upd_cv lcv]
        | apply Within.ite | apply WithinNext.ite | apply wCV_DAC_STATUS | dsimp only | apply Within.foldl
        | apply Within.foldlBy Prod.snd | apply Within.foldlBy Prod.fst | intro _ | split)

theorem within_execTxqValuesApply (wCV_TXQ_DC : ∀ i, P (R.CV_TXQ_DC i)) (wCV_TXQ_IMB : ∀ i, P (R.CV_TXQ_IMB i)) (lcv : L .cv)
    (path : Fin 64) (s : State) : WithinNext P L s (execTxqValuesApply path s) := by
  unfold execTxqValuesApply
  with_reducible
    repeat' (first
        | apply Within.refl | assumption | apply Within.trans _ (within_wr ?_ ..) | apply WithinNext.next
        | simp only [↓Within.upd_cv lcv] | apply Within.ite | apply WithinNext.ite | apply wCV_TXQ_DC | apply wCV_TXQ_IMB
        | dsimp only | split)

end Sys2Proof.Machine
end

