-- ==== Sys2Proof/Laws/Within3.lean ====
section
/-! SUPPORT. What the operations and the commands of these files leave alone: Machine/EventPath, Thermal, Power, Forecast, Lanes. -/

namespace Sys2Proof.Machine

variable {P : Nat → Prop} {L : Part → Prop}

/-! ### Machine/EventPath -/

theorem within_setEvBit (lmarks : L .marks) {s : State} {a : Nat → Nat} (ha : ∀ i, P (a i)) (n : Nat) : Within P L s
    (s.setEvBit a n) := within_stick lmarks (ha _) _

theorem within_evSticky (wHI_EVT_STICKY : ∀ i j, P (R.HI_EVT_STICKY i j)) (lmarks : L .marks) (s : State) (e : Event) (c : Nat)
    : Within P L s (State.evSticky s e c) := by
  unfold State.evSticky
  with_reducible
    repeat' (first
        | apply Within.refl | assumption | apply Within.trans _ (within_setEvBit lmarks ?_ ..) | apply Within.ite
        | apply wHI_EVT_STICKY | dsimp only | intro _ | split)

theorem within_overflowRecord (wHI_RING_PROD : ∀ i, P (R.HI_RING_PROD i)) (lhi : L .hi) (lmem : L .mem) (s : State) (c : Nat) :
    Within P L s (State.overflowRecord s c) := by
  unfold State.overflowRecord
  with_reducible
    repeat' (first
        | apply Within.refl | assumption | apply Within.trans _ (within_ringPush wHI_RING_PROD lhi lmem ..)
        | simp only [↓Within.upd_hi lhi] | apply Within.ite | dsimp only | split)

theorem within_evWrite (wHI_EVT_LOST_CNT : ∀ i, P (R.HI_EVT_LOST_CNT i)) (wHI_RING_PROD : ∀ i, P (R.HI_RING_PROD i))
    (lhi : L .hi) (lmarks : L .marks) (lmem : L .mem) (s : State) (e : Event) (c : Nat) :
    Within P L s (State.evWrite s e c) := by
  unfold State.evWrite
  with_reducible
    repeat' (first
        | apply Within.refl | assumption | apply Within.trans _ (within_overflowRecord wHI_RING_PROD lhi lmem ..)
        | apply Within.trans _ (within_ringPush wHI_RING_PROD lhi lmem ..) | apply Within.trans _ (within_count lmarks ?_ ..)
        | simp only [↓Within.upd_hi lhi] | apply Within.ite | apply wHI_EVT_LOST_CNT | dsimp only | split)

theorem within_deliver (wHI_ALERT_SUM : ∀ i, P (R.HI_ALERT_SUM i)) (wHI_EVT_LOST_CNT : ∀ i, P (R.HI_EVT_LOST_CNT i))
    (wHI_EVT_STICKY : ∀ i j, P (R.HI_EVT_STICKY i j)) (wHI_RING_PROD : ∀ i, P (R.HI_RING_PROD i)) (lhi : L .hi)
    (lmarks : L .marks) (lmem : L .mem) (s : State) (e : Event) : Within P L s (State.deliver s e) := by
  unfold State.deliver
  with_reducible
    repeat' (first
        | apply Within.refl | assumption | apply Within.trans _ (within_evSticky wHI_EVT_STICKY lmarks ..)
        | apply Within.trans _ (within_evWrite wHI_EVT_LOST_CNT wHI_RING_PROD lhi lmarks lmem ..)
        | apply Within.trans _ (within_setEvBit lmarks ?_ ..) | apply Within.ite | apply wHI_ALERT_SUM | dsimp only
        | apply Within.foldl | apply Within.foldlBy Prod.snd | apply Within.foldlBy Prod.fst | intro _ | split)

theorem within_execEventRecordWrite (wHI_ALERT_SUM : ∀ i, P (R.HI_ALERT_SUM i))
    (wHI_EVT_LOST_CNT : ∀ i, P (R.HI_EVT_LOST_CNT i)) (wHI_EVT_STICKY : ∀ i j, P (R.HI_EVT_STICKY i j))
    (wHI_RING_PROD : ∀ i, P (R.HI_RING_PROD i)) (lhi : L .hi) (lmarks : L .marks) (lmem : L .mem) (lraised : L .raised)
    (s : State) : WithinNext P L s (execEventRecordWrite s) := by
  unfold execEventRecordWrite
  with_reducible
    repeat' (first
        | apply Within.refl | assumption
        | apply Within.trans _ (within_deliver wHI_ALERT_SUM wHI_EVT_LOST_CNT wHI_EVT_STICKY wHI_RING_PROD lhi lmarks lmem ..)
        | apply WithinNext.next | simp only [↓Within.upd_raised lraised] | apply Within.ite | apply WithinNext.ite | dsimp only
        | split)

theorem within_execMsixItimeExpiry (lhi : L .hi) (ring : Fin 32) (s : State) :
    WithinNext P L s (execMsixItimeExpiry ring s) := by
  unfold execMsixItimeExpiry
  with_reducible
    repeat' (first
        | apply Within.refl | assumption | apply Within.trans _ (within_ringSignal lhi ..) | apply WithinNext.when_
        | apply WithinNext.next | apply Within.ite | apply WithinNext.ite | dsimp only | split)

/-! ### Machine/Thermal -/

theorem within_shutPeak (wPM_SHUT_INFO : P R.PM_SHUT_INFO) (s : State) (i : Nat) (x : Int) :
    Within P L s (State.shutPeak s i x) := by
  unfold State.shutPeak
  with_reducible
    repeat' (first
        | apply Within.refl | assumption | apply Within.trans _ (within_put ?_ ..) | apply Within.ite | apply wPM_SHUT_INFO
        | dsimp only | split)

theorem within_setSuspect (wTH_SENSOR : ∀ i, P (R.TH_SENSOR i)) (wTH_STAT : P R.TH_STAT) (wTH_SUSPECT_CNT : P R.TH_SUSPECT_CNT)
    (lmarks : L .marks) (lraised : L .raised) (s : State) (i : Nat) (b : Bool) : Within P L s (State.setSuspect s i b) := by
  unfold State.setSuspect
  with_reducible
    repeat' (first
        | apply Within.refl | assumption | apply Within.trans _ (within_setFlag ?_ ..)
        | apply Within.trans _ (within_count lmarks ?_ ..) | apply Within.trans _ (within_incSat ?_ ..)
        | apply Within.trans _ (within_raise lraised ..) | apply Within.trans _ (within_put ?_ ..) | apply Within.ite
        | apply wTH_SENSOR | apply wTH_STAT | apply wTH_SUSPECT_CNT | dsimp only | split)

theorem within_checkSensor (wTH_SENSOR : ∀ i, P (R.TH_SENSOR i)) (wTH_STAT : P R.TH_STAT) (wTH_SUSPECT_CNT : P R.TH_SUSPECT_CNT)
    (lmarks : L .marks) (lraised : L .raised) (lth : L .th) (s : State) (i : Nat) (x : Int) :
    Within P L s (State.checkSensor s i x) := by
  unfold State.checkSensor
  with_reducible
    repeat' (first
        | apply Within.refl | assumption
        | apply Within.trans _ (within_setSuspect wTH_SENSOR wTH_STAT wTH_SUSPECT_CNT lmarks lraised ..)
        | simp only [↓Within.upd_th lth] | apply Within.ite | dsimp only | split)

theorem within_meanSensor (wPM_AON_TEMP : P R.PM_AON_TEMP) (wTH_SENSOR : ∀ i, P (R.TH_SENSOR i)) (lfree : L .free) (lth : L .th)
    (s : State) (i : Nat) (x : Int) : Within P L s (State.meanSensor s i x) := by
  unfold State.meanSensor
  with_reducible
    repeat' (first
        | apply Within.refl | assumption | apply Within.trans _ (within_divFree lfree ..)
        | apply Within.trans _ (within_put ?_ ..) | simp only [↓Within.upd_th lth] | apply Within.ite | apply wPM_AON_TEMP
        | apply wTH_SENSOR | dsimp only | apply Within.foldl | apply Within.foldlBy Prod.snd | apply Within.foldlBy Prod.fst
        | intro _ | split | apply Within.snd_of (by assumption))

theorem within_execTempSample (wPM_AON_TEMP : P R.PM_AON_TEMP) (wPM_SHUT_INFO : P R.PM_SHUT_INFO)
    (wTH_SENSOR : ∀ i, P (R.TH_SENSOR i)) (wTH_STAT : P R.TH_STAT) (wTH_SUSPECT_CNT : P R.TH_SUSPECT_CNT) (lfree : L .free)
    (lmarks : L .marks) (lraised : L .raised) (lth : L .th) (sensor : Fin 48) (t : BitVec 16) (s : State) :
    WithinNext P L s (execTempSample sensor t s) := by
  unfold execTempSample
  with_reducible
    repeat' (first
        | apply Within.refl | assumption | apply Within.trans _ (within_shutPeak wPM_SHUT_INFO ..)
        | apply Within.trans _ (within_checkSensor wTH_SENSOR wTH_STAT wTH_SUSPECT_CNT lmarks lraised lth ..)
        | apply Within.trans _ (within_meanSensor wPM_AON_TEMP wTH_SENSOR lfree lth ..) | apply WithinNext.next | apply Within.ite
        | apply WithinNext.ite | dsimp only | split)

theorem within_harvest (lhi : L .hi) (lmem : L .mem) (s : State) (dump : Bool) : Within P L s (State.harvest s dump) := by
  unfold State.harvest
  with_reducible
    repeat' (first
        | apply Within.refl | assumption | apply Within.trans _ (within_setBytes lmem ..) | simp only [↓Within.upd_hi lhi]
        | apply Within.ite | dsimp only | split)

theorem within_setStage (wNVJ_STAT : P R.NVJ_STAT) (wTH_STAT : P R.TH_STAT) (wTH_THROTTLE_CNT : P R.TH_THROTTLE_CNT)
    (wTL_STATUS : P R.TL_STATUS) (lhi : L .hi) (lmarks : L .marks) (lmem : L .mem) (lnvj : L .nvj) (lpm : L .pm)
    (lraised : L .raised) (lth : L .th) (s : State) (n : Nat) : Within P L s (State.setStage s n) := by
  unfold State.setStage
  with_reducible
    repeat' (first
        | apply Within.refl | assumption | apply Within.trans _ (within_put ?_ ..)
        | apply Within.trans _ (within_count lmarks ?_ ..) | apply Within.trans _ (within_raise lraised ..)
        | apply Within.trans _ (within_setFlag ?_ ..) | apply Within.trans _ (within_logRecord wNVJ_STAT lnvj ..)
        | apply Within.trans _ (within_harvest lhi lmem ..) | apply Within.trans _ (within_askResume lpm ..)
        | simp only [↓Within.upd_th lth] | apply Within.ite | apply wTH_STAT | apply wTH_THROTTLE_CNT | apply wTL_STATUS
        | dsimp only | split)

theorem within_evaluate (wNVJ_STAT : P R.NVJ_STAT) (wTH_STAT : P R.TH_STAT) (wTH_THROTTLE_CNT : P R.TH_THROTTLE_CNT)
    (wTL_STATUS : P R.TL_STATUS) (lhi : L .hi) (lmarks : L .marks) (lmem : L .mem) (lnvj : L .nvj) (lpm : L .pm)
    (lraised : L .raised) (lth : L .th) (s : State) : Within P L s (State.evaluate s) := by
  unfold State.evaluate
  with_reducible
    repeat' (first
        | apply Within.refl | assumption | apply Within.trans _ (within_put ?_ ..)
        | apply Within.trans _ (within_raise lraised ..) | apply Within.trans _ (within_setFlag ?_ ..)
        | apply Within.trans _ (within_setStage wNVJ_STAT wTH_STAT wTH_THROTTLE_CNT wTL_STATUS lhi lmarks lmem lnvj lpm lraised lth ..)
        | simp only [↓Within.upd_th lth] | apply Within.ite | apply wTH_STAT | dsimp only | split)

theorem within_execTempEvaluate (wNVJ_STAT : P R.NVJ_STAT) (wTH_STAT : P R.TH_STAT) (wTH_THROTTLE_CNT : P R.TH_THROTTLE_CNT)
    (wTL_STATUS : P R.TL_STATUS) (lhi : L .hi) (lmarks : L .marks) (lmem : L .mem) (lnvj : L .nvj) (lpm : L .pm)
    (lraised : L .raised) (lth : L .th) (s : State) : WithinNext P L s (execTempEvaluate s) := by
  unfold execTempEvaluate
  with_reducible
    repeat' (first
        | apply Within.refl | assumption
        | apply Within.trans _ (within_evaluate wNVJ_STAT wTH_STAT wTH_THROTTLE_CNT wTL_STATUS lhi lmarks lmem lnvj lpm lraised lth ..)
        | apply Within.trans _ (within_setStage wNVJ_STAT wTH_STAT wTH_THROTTLE_CNT wTL_STATUS lhi lmarks lmem lnvj lpm lraised lth ..)
        | apply Within.trans _ (within_raise lraised ..) | apply Within.trans _ (within_setFlag ?_ ..) | apply WithinNext.next
        | apply Within.ite | apply WithinNext.ite | apply wTH_STAT | dsimp only | split)

theorem within_execHarvestSnapshot (lhi : L .hi) (lmem : L .mem) (s : State) : WithinNext P L s (execHarvestSnapshot s) := by
  unfold execHarvestSnapshot
  with_reducible
    repeat' (first
        | apply Within.refl | assumption | apply Within.trans _ (within_harvest lhi lmem ..) | apply WithinNext.when_
        | apply WithinNext.next | simp only [↓Within.upd_hi lhi] | apply Within.ite | apply WithinNext.ite | dsimp only | split)

theorem within_execWearReport (wTH_WEAR : ∀ i, P (R.TH_WEAR i)) (sensor : Fin 24) (slack : BitVec 12) (age : BitVec 16)
    (s : State) : WithinNext P L s (execWearReport sensor slack age s) := by
  unfold execWearReport
  with_reducible
    repeat' (first
        | apply Within.refl | assumption | apply Within.trans _ (within_put ?_ ..) | apply WithinNext.next | apply Within.ite
        | apply WithinNext.ite | apply wTH_WEAR | dsimp only | split)

theorem within_askVcore (wPM_VCORE : P R.PM_VCORE) (lpm : L .pm) (lraised : L .raised) (lth : L .th) (s : State) (mv : Nat)
    (ok : Bool) : Within P L s (State.askVcore s mv ok) := by
  unfold State.askVcore
  with_reducible
    repeat' (first
        | apply Within.refl | assumption | apply Within.trans _ (within_setFlag ?_ ..) | apply Within.trans _ (within_put ?_ ..)
        | apply Within.trans _ (within_raise lraised ..) | simp only [↓Within.upd_th_pm lth lpm] | apply Within.ite
        | apply wPM_VCORE | dsimp only | split)

theorem within_execPmbusRetry (wPM_VCORE : P R.PM_VCORE) (lpm : L .pm) (lraised : L .raised) (lth : L .th) (ok : Bool)
    (s : State) : WithinNext P L s (execPmbusRetry ok s) := by
  unfold execPmbusRetry
  with_reducible
    repeat' (first
        | apply Within.refl | assumption | apply Within.trans _ (within_askVcore wPM_VCORE lpm lraised lth ..)
        | apply WithinNext.when_ | apply WithinNext.next | apply Within.ite | apply WithinNext.ite | dsimp only | split)

theorem within_planV (wNVJ_STAT : P R.NVJ_STAT) (wPM_VCORE : P R.PM_VCORE) (wTH_MARGIN : P R.TH_MARGIN) (lnvj : L .nvj)
    (lpm : L .pm) (lraised : L .raised) (lth : L .th) (s : State) (mv : Nat) (ok : Bool) :
    Within P L s (State.planV s mv ok) := by
  unfold State.planV
  with_reducible
    repeat' (first
        | apply Within.refl | assumption | apply Within.trans _ (within_raise lraised ..)
        | apply Within.trans _ (within_put ?_ ..) | apply Within.trans _ (within_askVcore wPM_VCORE lpm lraised lth ..)
        | apply Within.trans _ (within_logRecord wNVJ_STAT lnvj ..) | apply Within.trans _ (within_journalOwn wNVJ_STAT lnvj ..)
        | apply Within.ite | apply wTH_MARGIN | dsimp only | split | apply Within.snd_of (by assumption))

theorem within_execMarginPlannerRun (wNVJ_STAT : P R.NVJ_STAT) (wPM_VCORE : P R.PM_VCORE) (wTH_MARGIN : P R.TH_MARGIN)
    (lnvj : L .nvj) (lpm : L .pm) (lraised : L .raised) (lth : L .th) (ok : Bool) (s : State) :
    WithinNext P L s (execMarginPlannerRun ok s) := by
  unfold execMarginPlannerRun
  with_reducible
    repeat' (first
        | apply Within.refl | assumption
        | apply Within.trans _ (within_planV wNVJ_STAT wPM_VCORE wTH_MARGIN lnvj lpm lraised lth ..)
        | apply Within.trans _ (within_raise lraised ..) | apply Within.trans _ (within_logRecord wNVJ_STAT lnvj ..)
        | apply Within.trans _ (within_journalOwn wNVJ_STAT lnvj ..) | apply Within.trans _ (within_put ?_ ..)
        | apply WithinNext.next | simp only [↓Within.upd_th lth] | apply Within.ite | apply WithinNext.ite | apply wTH_MARGIN
        | dsimp only | split | apply Within.snd_of (by assumption))

theorem within_execThrottleStep (wNVJ_STAT : P R.NVJ_STAT) (wTH_STAT : P R.TH_STAT) (wTH_THROTTLE_CNT : P R.TH_THROTTLE_CNT)
    (wTL_STATUS : P R.TL_STATUS) (lhi : L .hi) (lmarks : L .marks) (lmem : L .mem) (lnvj : L .nvj) (lpm : L .pm)
    (lraised : L .raised) (lth : L .th) (s : State) : WithinNext P L s (execThrottleStep s) := by
  unfold execThrottleStep
  with_reducible
    repeat' (first
        | apply Within.refl | assumption
        | apply Within.trans _ (within_setStage wNVJ_STAT wTH_STAT wTH_THROTTLE_CNT wTL_STATUS lhi lmarks lmem lnvj lpm lraised lth ..)
        | apply WithinNext.next | apply Within.ite | apply WithinNext.ite | dsimp only | split)

/-! ### Machine/Power -/

theorem within_dropMode (wHI_CTX_STAT : ∀ i, P (R.HI_CTX_STAT i)) (wHI_INFL_TOTAL : P R.HI_INFL_TOTAL) (lhy : L .hy) (s : State)
    : Within P L s (State.dropMode s) := by
  unfold State.dropMode
  with_reducible
    repeat' (first
        | apply Within.refl | assumption | apply Within.trans _ (within_dropCmd wHI_CTX_STAT wHI_INFL_TOTAL lhy ..)
        | simp only [↓Within.upd_hy lhy] | apply Within.ite | dsimp only | apply Within.foldl | apply Within.foldlBy Prod.snd
        | apply Within.foldlBy Prod.fst | intro _ | split)

theorem within_recordCause (wPM_MODE : P R.PM_MODE) (s : State) (cause : Nat) : Within P L s (State.recordCause s cause) := by
  unfold State.recordCause
  with_reducible
    repeat' (first
        | apply Within.refl | assumption | apply Within.trans _ (within_put ?_ ..) | apply Within.ite | apply wPM_MODE
        | dsimp only | split)

theorem within_coresOff (wNVC_CORE_STAT : ∀ i, P (R.NVC_CORE_STAT i)) (s : State) (m : Mode) :
    Within P L s (State.coresOff s m) := by
  unfold State.coresOff
  with_reducible
    repeat' (first
        | apply Within.refl | assumption | apply Within.trans _ (within_put ?_ ..) | apply Within.ite | apply wNVC_CORE_STAT
        | dsimp only | apply Within.foldl | apply Within.foldlBy Prod.snd | apply Within.foldlBy Prod.fst | intro _ | split)

theorem within_setMode (wNVC_CORE_STAT : ∀ i, P (R.NVC_CORE_STAT i)) (wPM_MODE : P R.PM_MODE) (lpm : L .pm) (s : State)
    (m : Mode) : Within P L s (State.setMode s m) := by
  unfold State.setMode
  with_reducible
    repeat' (first
        | apply Within.refl | assumption | apply Within.trans _ (within_coresOff wNVC_CORE_STAT ..)
        | apply Within.trans _ (within_put ?_ ..) | simp only [↓Within.upd_pm lpm] | apply Within.ite | apply wPM_MODE
        | dsimp only | split)

theorem within_execThermalHoldEntry (wAny : ∀ a, P a) (lAll : ∀ p, L p) (s : State) : WithinNext P L s (execThermalHoldEntry s) := by
  unfold execThermalHoldEntry
  apply WithinNext.ite
  · exact .next (.refl s)
  · apply WithinNext.next
    apply Within.trans _ (within_put (wAny _) ..)
    apply Within.trans _ (within_setFlag (wAny _) ..)
    apply Within.trans _ (within_setMode (fun _ => wAny _) (wAny _) (lAll _) ..)
    exact .all wAny lAll ⟨rfl, rfl,
      fun c => sparseWf_filter _ ((within_recordCause (L := L) (wAny _) s 5).keeps.canonRegs c), fun c => sparseWf_filter _ c⟩

theorem within_domBegin (lpm : L .pm) (s : State) (x : Option DomStep) : Within P L s (State.domBegin s x) := by
  unfold State.domBegin
  with_reducible
    repeat' (first
        | apply Within.refl | assumption | apply Within.trans _ (within_gustAsk lpm ..) | simp only [↓Within.upd_pm lpm]
        | apply Within.ite | dsimp only | apply Within.foldl | apply Within.foldlBy Prod.snd | apply Within.foldlBy Prod.fst
        | intro _ | split)

theorem within_thawTrigger (wPM_MODE : P R.PM_MODE) (lpm : L .pm) (s : State) (bit : Nat) :
    Within P L s (State.thawTrigger s bit) := by
  unfold State.thawTrigger
  with_reducible
    repeat' (first
        | apply Within.refl | assumption | apply Within.trans _ (within_domBegin lpm ..)
        | apply Within.trans _ (within_setFlag ?_ ..) | apply Within.trans _ (within_put ?_ ..) | simp only [↓Within.upd_pm lpm]
        | apply Within.ite | apply wPM_MODE | dsimp only | split)

theorem within_execFrostTimerExpiry (wPM_MODE : P R.PM_MODE) (lpm : L .pm) (s : State) :
    WithinNext P L s (execFrostTimerExpiry s) := by
  unfold execFrostTimerExpiry
  with_reducible
    repeat' (first
        | apply Within.refl | assumption | apply Within.trans _ (within_thawTrigger wPM_MODE lpm ..) | apply WithinNext.when_
        | apply WithinNext.next | apply Within.ite | apply WithinNext.ite | dsimp only | split)

theorem within_execSuppliesInRange (wNVC_CORE_STAT : ∀ i, P (R.NVC_CORE_STAT i)) (wPM_MODE : P R.PM_MODE) (lpm : L .pm)
    (s : State) : WithinNext P L s (execSuppliesInRange s) := by
  unfold execSuppliesInRange
  with_reducible
    repeat' (first
        | apply Within.refl | assumption | apply Within.trans _ (within_setMode wNVC_CORE_STAT wPM_MODE lpm ..)
        | apply WithinNext.when_ | apply WithinNext.next | simp only [↓Within.upd_pm lpm] | apply Within.ite
        | apply WithinNext.ite | dsimp only | split)

theorem within_disarmAll (ltl : L .tl) (s : State) : Within P L s (State.disarmAll s) := by
  unfold State.disarmAll
  with_reducible
    repeat' (first
        | apply Within.refl | assumption | simp only [↓Within.upd_tl ltl] | apply Within.ite | dsimp only | split)

theorem within_cutSymbols (wRF_PABIAS_CFG : ∀ i, P (R.RF_PABIAS_CFG i)) (wRF_PABIAS_LVL : ∀ i, P (R.RF_PABIAS_LVL i))
    (wRF_PATH_STATE : ∀ i, P (R.RF_PATH_STATE i)) (ldfe : L .dfe) (lpins : L .pins) (lrf : L .rf) (ltl : L .tl) (s : State) :
    Within P L s (State.cutSymbols s) := by
  unfold State.cutSymbols
  with_reducible
    repeat' (first
        | apply Within.refl | assumption
        | apply Within.trans _ (within_setPath wRF_PABIAS_CFG wRF_PABIAS_LVL wRF_PATH_STATE ldfe lrf ..)
        | simp only [↓Within.upd_pins_tl lpins ltl] | apply Within.ite | dsimp only | apply Within.foldl
        | apply Within.foldlBy Prod.snd | apply Within.foldlBy Prod.fst | intro _ | split)

theorem within_warmReset (wAny : ∀ a, P a) (lAll : ∀ p, L p) (s : State) (cause : Nat) : Within P L s (State.warmReset s cause) := by
  unfold State.warmReset
  apply Within.trans _ (within_setFlag (wAny _) ..)
  apply Within.trans _ (within_setMode (fun _ => wAny _) (wAny _) (lAll _) ..)
  exact .all wAny lAll ⟨rfl, rfl,
    fun c => sparseWf_filter _ ((within_recordCause (L := L) (wAny _) s cause).keeps.canonRegs c), fun c => sparseWf_filter _ c⟩

theorem within_toReset (wAny : ∀ a, P a) (lAll : ∀ p, L p) (s : State) (cause : Nat) :
    Within P L s (State.toReset s cause) := by
  unfold State.toReset
  with_reducible
    repeat' (first
        | apply Within.refl | assumption | apply Within.trans _ (within_setFlag ?_ ..) | apply Within.trans _ (within_put ?_ ..)
        | apply Within.trans _ (within_recordCause (wAny _) ..) | apply Within.trans _ (within_disarmAll (lAll _) ..)
        | apply Within.trans _ (within_biasDown (lAll _) ..)
        | apply Within.trans _ (within_cutSymbols (fun _ => wAny _) (fun _ => wAny _) (fun _ => wAny _) (lAll _) (lAll _) (lAll _) (lAll _) ..)
        | apply Within.trans _ (within_warmReset wAny lAll ..) | simp only [↓Within.upd_pm (lAll _)] | apply Within.ite
        | apply wAny | dsimp only | split)

theorem within_execFirmwareWatchdogExpiry (wAny : ∀ a, P a) (lAll : ∀ p, L p) (s : State) :
    WithinNext P L s (execFirmwareWatchdogExpiry s) := by
  unfold execFirmwareWatchdogExpiry
  with_reducible
    repeat' (first
        | apply Within.refl | assumption | apply Within.trans _ (within_toReset wAny lAll ..) | apply WithinNext.when_
        | apply WithinNext.next | apply Within.ite | apply WithinNext.ite | apply wAny | dsimp only | split)

theorem within_setDom (wPM_DOM_STAT : P R.PM_DOM_STAT) (s : State) (d : Nat) (b : Bool) :
    Within P L s (State.setDom s d b) := by
  unfold State.setDom
  with_reducible
    repeat' (first
        | apply Within.refl | assumption | apply Within.trans _ (within_put ?_ ..) | apply Within.ite | apply wPM_DOM_STAT
        | dsimp only | split)

theorem within_loseBanks (wPM_RET_LOST : P R.PM_RET_LOST) (wPM_RET_LOST_CNT : P R.PM_RET_LOST_CNT) (lmarks : L .marks)
    (lmem : L .mem) (s : State) (lost : BitVec 29) : Within P L s (State.loseBanks s lost) := by
  unfold State.loseBanks
  with_reducible
    repeat' (first
        | apply Within.refl | assumption | apply Within.trans _ (within_scrubMem lmem ..)
        | apply Within.trans _ (within_countN lmarks ?_ ..) | apply Within.trans _ (within_stick lmarks ?_ ..) | apply Within.ite
        | apply wPM_RET_LOST | apply wPM_RET_LOST_CNT | dsimp only | apply Within.foldl | apply Within.foldlBy Prod.snd
        | apply Within.foldlBy Prod.fst | intro _ | split)

theorem within_execTapReset (s : State) : WithinNext P L s (execTapReset s) := by
  unfold execTapReset
  with_reducible
    repeat' (first
        | apply Within.refl | assumption | apply WithinNext.next | apply Within.ite | apply WithinNext.ite | dsimp only | split)

theorem within_firstStage (wHI_BOOT_STAT : P R.HI_BOOT_STAT) (lpm : L .pm) (s : State) (slot : Nat) (fallback : Bool) :
    Within P L s (State.firstStage s slot fallback) := by
  unfold State.firstStage
  with_reducible
    repeat' (first
        | apply Within.refl | assumption | apply Within.trans _ (within_put ?_ ..) | apply Within.trans _ (within_setFlag ?_ ..)
        | simp only [↓Within.upd_pm lpm] | apply Within.ite | apply wHI_BOOT_STAT | dsimp only | split)

theorem within_execThermalShutdown (wHI_CTX_STAT : ∀ i, P (R.HI_CTX_STAT i)) (wHI_INFL_TOTAL : P R.HI_INFL_TOTAL)
    (wNVJ_STAT : P R.NVJ_STAT) (wPM_MODE : P R.PM_MODE) (wPM_SHUT_INFO : P R.PM_SHUT_INFO)
    (wRF_PABIAS_CFG : ∀ i, P (R.RF_PABIAS_CFG i)) (wRF_PABIAS_LVL : ∀ i, P (R.RF_PABIAS_LVL i))
    (wRF_PATH_STATE : ∀ i, P (R.RF_PATH_STATE i)) (ldfe : L .dfe) (lhy : L .hy) (lmem : L .mem) (lnvj : L .nvj)
    (lpins : L .pins) (lpm : L .pm) (lrf : L .rf) (ltl : L .tl) (sensor : Fin 48) (x : BitVec 16) (s : State) :
    WithinNext P L s (execThermalShutdown sensor x s) := by
  unfold execThermalShutdown
  with_reducible
    repeat' (first
        | apply Within.refl | assumption | apply Within.trans _ (within_jFlushAon wNVJ_STAT lmem lnvj ..)
        | apply Within.trans _ (within_slotRecord wNVJ_STAT lnvj ..) | apply Within.trans _ (within_jCut wNVJ_STAT lmem lnvj ..)
        | apply Within.trans _ (within_disarmAll ltl ..) | apply Within.trans _ (within_biasDown lrf ..)
        | apply Within.trans _ (within_cutSymbols wRF_PABIAS_CFG wRF_PABIAS_LVL wRF_PATH_STATE ldfe lpins lrf ltl ..)
        | apply Within.trans _ (within_dropMode wHI_CTX_STAT wHI_INFL_TOTAL lhy ..) | apply Within.trans _ (within_put ?_ ..)
        | apply Within.trans _ (within_setFlag ?_ ..) | apply WithinNext.next | simp only [↓Within.upd_pm lpm] | apply Within.ite
        | apply WithinNext.ite | apply wPM_MODE | apply wPM_SHUT_INFO | dsimp only | split)

theorem within_execGustCapApply (wPM_GUST_CFG : P R.PM_GUST_CFG) (lpm : L .pm) (s : State) :
    WithinNext P L s (execGustCapApply s) := by
  unfold execGustCapApply
  with_reducible
    repeat' (first
        | apply Within.refl | assumption | apply Within.trans _ (within_put ?_ ..) | apply WithinNext.next
        | simp only [↓Within.upd_pm lpm] | apply Within.ite | apply WithinNext.ite | apply wPM_GUST_CFG | dsimp only | split)

theorem within_powerOnState (wAny : ∀ a, P a) (lAll : ∀ p, L p) (s : State) (m : Mode) : Within P L s (State.powerOnState s m) := by
  unfold State.powerOnState
  apply Within.trans _ (within_jLocks (wAny _) ..)
  apply Within.trans _ (within_setMode (fun _ => wAny _) (wAny _) (lAll _) ..)
  exact .all wAny lAll ⟨rfl, rfl, fun _ => rfl, fun c => sparseWf_filter _ c⟩

theorem within_execPorstNAssert (wAny : ∀ a, P a) (lAll : ∀ p, L p) (s : State) : WithinNext P L s (execPorstNAssert s) := by
  unfold execPorstNAssert
  with_reducible
    repeat' (first
        | apply Within.refl | assumption | apply Within.trans _ (within_powerOnState wAny lAll ..)
        | apply Within.trans _ (within_jCut (wAny _) (lAll _) (lAll _) ..) | apply WithinNext.when_ | apply WithinNext.next
        | simp only [↓Within.upd_pm (lAll _)] | apply Within.ite | apply WithinNext.ite | apply wAny | dsimp only | split)

theorem within_thawRadio (wRF_SYN_STATUS : ∀ i, P (R.RF_SYN_STATUS i)) (lcv : L .cv) (lrf : L .rf) (s : State) :
    Within P L s (State.thawRadio s) := by
  unfold State.thawRadio
  with_reducible
    repeat' (first
        | apply Within.refl | assumption | apply Within.trans _ (within_synAll wRF_SYN_STATUS lrf ..)
        | simp only [↓Within.upd_cv lcv] | apply Within.ite | dsimp only | split)

theorem within_execDomainReady (wAny : ∀ a, P a) (lAll : ∀ p, L p) (lost : BitVec 29) (s : State) :
    WithinNext P L s (execDomainReady lost s) := by
  unfold execDomainReady
  with_reducible
    repeat' (first
        | apply Within.refl | assumption | apply Within.trans _ (within_domBegin (lAll _) ..)
        | apply Within.trans _ (within_setDom (wAny _) ..) | apply Within.trans _ (within_countN (lAll _) ?_ ..)
        | apply Within.trans _ (within_stick (lAll _) ?_ ..) | apply Within.trans _ (within_wr ?_ ..)
        | apply Within.trans _ (within_scrubMem (lAll _) ..) | apply Within.trans _ (within_warmReset wAny lAll ..)
        | apply Within.trans _ (within_gustAsk (lAll _) ..)
        | apply Within.trans _ (within_thawRadio (fun _ => wAny _) (lAll _) (lAll _) ..) | apply WithinNext.next
        | simp only [↓Within.upd_pm (lAll _)] | apply Within.ite | apply WithinNext.ite | apply wAny | dsimp only
        | apply Within.foldl | apply Within.foldlBy Prod.snd | apply Within.foldlBy Prod.fst | intro _ | split)

theorem within_holdClear (wAny : ∀ a, P a) (lAll : ∀ p, L p) (s : State) (v : Word) : Within P L s (State.holdClear s v) := by
  unfold State.holdClear
  with_reducible
    repeat' (first
        | apply Within.refl | assumption | apply Within.trans _ (within_warmReset wAny lAll ..)
        | simp only [↓Within.upd_pins (lAll _)] | apply Within.ite | apply wAny | dsimp only | split)

theorem within_execPmHoldClear (wAny : ∀ a, P a) (lAll : ∀ p, L p) (v : Word) (s : State) :
    WithinNext P L s (execPmHoldClear v s) := by
  unfold execPmHoldClear
  with_reducible
    repeat' (first
        | apply Within.refl | assumption | apply Within.trans _ (within_holdClear wAny lAll ..) | apply WithinNext.next
        | apply Within.ite | apply WithinNext.ite | apply wAny | dsimp only | split)

theorem within_tearRecord (lfree : L .free) (lmem : L .mem) (s : State) : Within P L s (State.tearRecord s) := by
  unfold State.tearRecord
  with_reducible
    repeat' (first
        | apply Within.refl | assumption | apply Within.trans _ (within_fresh lfree ..)
        | apply Within.trans _ (within_setBytes lmem ..) | apply Within.ite | dsimp only | split
        | apply Within.snd_of (by assumption))

theorem within_execSupplyLoss (wAny : ∀ a, P a) (lAll : ∀ p, L p) (rail : Fin 12) (s : State) :
    WithinNext P L s (execSupplyLoss rail s) := by
  unfold execSupplyLoss
  with_reducible
    repeat' (first
        | apply Within.refl | assumption | apply Within.trans _ (within_tearRecord (lAll _) (lAll _) ..)
        | apply Within.trans _ (within_jFlushAon (wAny _) (lAll _) (lAll _) ..)
        | apply Within.trans _ (within_slotRecord (wAny _) (lAll _) ..)
        | apply Within.trans _ (within_jCut (wAny _) (lAll _) (lAll _) ..)
        | apply Within.trans _ (within_powerOnState wAny lAll ..) | apply WithinNext.next | simp only [↓Within.upd_pm (lAll _)]
        | apply Within.ite | apply WithinNext.ite | apply wAny | dsimp only | split)

theorem within_execPmWake (wPM_MODE : P R.PM_MODE) (lpm : L .pm) (v : Word) (s : State) :
    WithinNext P L s (execPmWake v s) := by
  unfold execPmWake
  with_reducible
    repeat' (first
        | apply Within.refl | assumption | apply Within.trans _ (within_thawTrigger wPM_MODE lpm ..) | apply WithinNext.when_
        | apply WithinNext.next | apply Within.ite | apply WithinNext.ite | dsimp only | split)

theorem within_execReferencePllLock (wHI_BOOT_STAT : P R.HI_BOOT_STAT) (wTS_STATUS : P R.TS_STATUS) (lpm : L .pm) (s : State) :
    WithinNext P L s (execReferencePllLock s) := by
  unfold execReferencePllLock
  with_reducible
    repeat' (first
        | apply Within.refl | assumption | apply Within.trans _ (within_setFlag ?_ ..) | apply Within.trans _ (within_put ?_ ..)
        | apply WithinNext.next | simp only [↓Within.upd_pm lpm] | apply Within.ite | apply WithinNext.ite | apply wHI_BOOT_STAT
        | apply wTS_STATUS | dsimp only | split)

theorem within_scanTorn (wHI_BOOT_STAT : P R.HI_BOOT_STAT) (wNVJ_TORN_CNT : P R.NVJ_TORN_CNT) (lmem : L .mem) (s : State) :
    Within P L s (State.scanTorn s) := by
  unfold State.scanTorn
  with_reducible
    repeat' (first
        | apply Within.refl | assumption | apply Within.trans _ (within_scrubMem lmem ..)
        | apply Within.trans _ (within_wrN ?_ ..) | apply Within.trans _ (within_put ?_ ..) | apply Within.ite
        | apply wHI_BOOT_STAT | apply wNVJ_TORN_CNT | dsimp only | apply Within.foldl | apply Within.foldlBy Prod.snd
        | apply Within.foldlBy Prod.fst | intro _ | split)

theorem within_thawTick (wMC_STATUS : P R.MC_STATUS) (lmc : L .mc) (lpm : L .pm) (s : State) :
    Within P L s (State.thawTick s) := by
  unfold State.thawTick
  with_reducible
    repeat' (first
        | apply Within.refl | assumption | apply Within.trans _ (within_selfRefresh wMC_STATUS ..)
        | apply Within.trans _ (within_gatherShow wMC_STATUS ..) | apply Within.trans _ (within_domBegin lpm ..)
        | apply Within.trans _ (within_gustTake lpm _ _ _ (by assumption)) | simp only [↓Within.upd_mc lmc] | apply Within.ite
        | dsimp only | split)

theorem within_execBootRomDone (wHI_BOOT_STAT : P R.HI_BOOT_STAT) (wNVJ_STAT : P R.NVJ_STAT) (wNVJ_TORN_CNT : P R.NVJ_TORN_CNT)
    (lmem : L .mem) (lpm : L .pm) (active other : Bool) (host : Option Bool) (s : State) :
    WithinNext P L s (execBootRomDone active other host s) := by
  unfold execBootRomDone
  with_reducible
    repeat' (first
        | apply Within.refl | assumption | apply Within.trans _ (within_jLocks wNVJ_STAT ..)
        | apply Within.trans _ (within_scanTorn wHI_BOOT_STAT wNVJ_TORN_CNT lmem ..) | apply Within.trans _ (within_setFlag ?_ ..)
        | apply Within.trans _ (within_firstStage wHI_BOOT_STAT lpm ..) | apply Within.trans _ (within_put ?_ ..)
        | apply WithinNext.next | simp only [↓Within.upd_pm lpm] | apply Within.ite | apply WithinNext.ite | apply wHI_BOOT_STAT
        | dsimp only | split)

theorem within_execDomainReadyTimeout (wAny : ∀ a, P a) (lAll : ∀ p, L p) (s : State) :
    WithinNext P L s (execDomainReadyTimeout s) := by
  unfold execDomainReadyTimeout
  with_reducible
    repeat' (first
        | apply Within.refl | assumption | apply Within.trans _ (within_raise (lAll _) ..)
        | apply Within.trans _ (within_warmReset wAny lAll ..) | apply WithinNext.next | apply Within.ite | apply WithinNext.ite
        | apply wAny | dsimp only | split)

theorem within_showDebt (wPM_GUST_CFG : P R.PM_GUST_CFG) (s : State) : Within P L s (State.showDebt s) := by
  unfold State.showDebt
  with_reducible
    repeat' (first
        | apply Within.refl | assumption | apply Within.trans _ (within_put ?_ ..) | apply Within.ite | apply wPM_GUST_CFG
        | dsimp only | split)

theorem within_execFatalFirmwareFault (wAny : ∀ a, P a) (lAll : ∀ p, L p) (s : State) :
    WithinNext P L s (execFatalFirmwareFault s) := by
  unfold execFatalFirmwareFault
  with_reducible
    repeat' (first
        | apply Within.refl | assumption | apply Within.trans _ (within_harvest (lAll _) (lAll _) ..)
        | apply Within.trans _ (within_raise (lAll _) ..)
        | apply Within.trans _ (within_deliver (fun _ => wAny _) (fun _ => wAny _) (fun _ _ => wAny _) (fun _ => wAny _) (lAll _) (lAll _) (lAll _) ..)
        | apply Within.trans _ (within_toReset wAny lAll ..) | apply WithinNext.next | simp only [↓Within.upd_raised (lAll _)]
        | apply Within.ite | apply WithinNext.ite | apply wAny | dsimp only | apply Within.foldl | apply Within.foldlBy Prod.snd
        | apply Within.foldlBy Prod.fst | intro _ | split)

theorem within_execPorstNRelease (wNVC_CORE_STAT : ∀ i, P (R.NVC_CORE_STAT i)) (wPM_MODE : P R.PM_MODE) (lpm : L .pm)
    (s : State) : WithinNext P L s (execPorstNRelease s) := by
  unfold execPorstNRelease
  with_reducible
    repeat' (first
        | apply Within.refl | assumption | apply Within.trans _ (within_setMode wNVC_CORE_STAT wPM_MODE lpm ..)
        | apply WithinNext.when_ | apply WithinNext.next | simp only [↓Within.upd_pm lpm] | apply Within.ite
        | apply WithinNext.ite | dsimp only | split)

theorem within_execHiBootGo (wHI_BOOT_ACK : P R.HI_BOOT_ACK) (wHI_BOOT_CTRL : P R.HI_BOOT_CTRL)
    (wHI_BOOT_STAT : P R.HI_BOOT_STAT) (lmem : L .mem) (att : Attachment) (ofs : BitVec 20) (len : BitVec 11) (s : State) :
    WithinNext P L s (execHiBootGo att ofs len s) := by
  unfold execHiBootGo
  with_reducible
    repeat' (first
        | apply Within.refl | assumption | apply Within.trans _ (within_put ?_ ..) | apply Within.trans _ (within_setFlag ?_ ..)
        | apply Within.trans _ (within_incWrap ?_ ..) | apply Within.trans _ (within_setBytes lmem ..) | apply WithinNext.next
        | apply Within.ite | apply WithinNext.ite | apply wHI_BOOT_ACK | apply wHI_BOOT_CTRL | apply wHI_BOOT_STAT | dsimp only
        | split)

theorem within_execBistComplete (wNVC_CORE_STAT : ∀ i, P (R.NVC_CORE_STAT i)) (wPM_BIST_STAT : P R.PM_BIST_STAT)
    (wPM_MODE : P R.PM_MODE) (lpm : L .pm) (fail : BitVec 18) (vout oscout oscRef : Bool) (s : State) :
    WithinNext P L s (execBistComplete fail vout oscout oscRef s) := by
  unfold execBistComplete
  with_reducible
    repeat' (first
        | apply Within.refl | assumption | apply Within.trans _ (within_setFlag ?_ ..) | apply Within.trans _ (within_put ?_ ..)
        | apply Within.trans _ (within_setMode wNVC_CORE_STAT wPM_MODE lpm ..) | apply WithinNext.next
        | simp only [↓Within.upd_pm lpm] | apply Within.ite | apply WithinNext.ite | apply wPM_BIST_STAT | apply wPM_MODE
        | dsimp only | split)

theorem within_execWarmResetHoldEnd (wNVC_CORE_STAT : ∀ i, P (R.NVC_CORE_STAT i)) (wPM_MODE : P R.PM_MODE) (lpm : L .pm)
    (s : State) : WithinNext P L s (execWarmResetHoldEnd s) := by
  unfold execWarmResetHoldEnd
  with_reducible
    repeat' (first
        | apply Within.refl | assumption | apply Within.trans _ (within_setMode wNVC_CORE_STAT wPM_MODE lpm ..)
        | apply WithinNext.when_ | apply WithinNext.next | apply Within.ite | apply WithinNext.ite | dsimp only | split)

/-! ### Machine/Forecast -/

theorem within_toWait (ltl : L .tl) (s : State) (i : Nat) : Within P L s (State.toWait s i) := by
  unfold State.toWait
  with_reducible
    repeat' (first
        | apply Within.refl | assumption | simp only [↓Within.upd_tl ltl] | apply Within.ite | dsimp only | split)

theorem within_defer (wTL_DEFER_CNT : ∀ i, P (R.TL_DEFER_CNT i)) (wringWord : ∀ i j, P (ringWord i j)) (lmarks : L .marks)
    (lraised : L .raised) (ltl : L .tl) (s : State) (i : Nat) : Within P L s (State.defer s i) := by
  unfold State.defer
  with_reducible
    repeat' (first
        | apply Within.refl | assumption | apply Within.trans _ (within_count lmarks ?_ ..)
        | apply Within.trans _ (within_incSat ?_ ..) | apply Within.trans _ (within_setStat wringWord ..)
        | apply Within.trans _ (within_raise lraised ..) | apply Within.trans _ (within_toWait ltl ..)
        | simp only [↓Within.upd_tl ltl] | apply Within.ite | apply wTL_DEFER_CNT | apply wringWord | dsimp only | split)

theorem within_orxDiscard (lcv : L .cv) (lraised : L .raised) (s : State) (t : Nat) : Within P L s (State.orxDiscard s t) := by
  unfold State.orxDiscard
  with_reducible
    repeat' (first
        | apply Within.refl | assumption | apply Within.trans _ (within_raise lraised ..) | simp only [↓Within.upd_cv lcv]
        | apply Within.ite | dsimp only | split)

theorem within_obsStart (wDFE_CAP_STATUS : ∀ i, P (R.DFE_CAP_STATUS i)) (lcv : L .cv) (ldfe : L .dfe) (lpins : L .pins)
    (lraised : L .raised) (s : State) (i t p : Nat) : Within P L s (State.obsStart s i t p) := by
  unfold State.obsStart
  with_reducible
    repeat' (first
        | apply Within.refl | assumption | apply Within.trans _ (within_orxDiscard lcv lraised ..)
        | apply Within.trans _ (within_put ?_ ..) | simp only [↓Within.upd_pins_cv_dfe lpins lcv ldfe] | apply Within.ite
        | apply wDFE_CAP_STATUS | dsimp only | split)

theorem within_obsTile (wDFE_CAP_SKIP_CNT : ∀ i, P (R.DFE_CAP_SKIP_CNT i)) (wDFE_CAP_STATUS : ∀ i, P (R.DFE_CAP_STATUS i))
    (wringWord : ∀ i j, P (ringWord i j)) (lcv : L .cv) (ldfe : L .dfe) (lmarks : L .marks) (lpins : L .pins)
    (lraised : L .raised) (s : State) (i t : Nat) : Within P L s (State.obsTile s i t) := by
  unfold State.obsTile
  with_reducible
    repeat' (first
        | apply Within.refl | assumption | apply Within.trans _ (within_obsStart wDFE_CAP_STATUS lcv ldfe lpins lraised ..)
        | apply Within.trans _ (within_raiseTo lraised ..) | apply Within.trans _ (within_count lmarks ?_ ..)
        | apply Within.trans _ (within_setStat wringWord ..) | apply Within.ite | apply wDFE_CAP_SKIP_CNT | dsimp only | split)

theorem within_closeWindows (lcv : L .cv) (ltl : L .tl) (s : State) (p : Lent → Bool) :
    Within P L s (State.closeWindows s p) := by
  unfold State.closeWindows
  with_reducible
    repeat' (first
        | apply Within.refl | assumption | simp only [↓Within.upd_tl_cv ltl lcv] | apply Within.ite | dsimp only | split)

theorem within_windowTick (lcv : L .cv) (ltl : L .tl) (s : State) : Within P L s (State.windowTick s) := by
  unfold State.windowTick
  with_reducible
    repeat' (first
        | apply Within.refl | assumption | apply Within.trans _ (within_closeWindows lcv ltl ..) | apply Within.ite | dsimp only
        | split)

theorem within_showLive (wTL_STATUS : P R.TL_STATUS) (s : State) : Within P L s (State.showLive s) := by
  unfold State.showLive
  with_reducible
    repeat' (first
        | apply Within.refl | assumption | apply Within.trans _ (within_setFlag ?_ ..) | apply Within.trans _ (within_put ?_ ..)
        | apply Within.ite | apply wTL_STATUS | dsimp only | split)

theorem within_execDisarmGapExpiry (ltl : L .tl) (path : Fin 64) (tx : Bool) (s : State) :
    WithinNext P L s (execDisarmGapExpiry path tx s) := by
  unfold execDisarmGapExpiry
  with_reducible
    repeat' (first
        | apply Within.refl | assumption | apply WithinNext.when_ | apply WithinNext.next | simp only [↓Within.upd_tl ltl]
        | apply Within.ite | apply WithinNext.ite | dsimp only | split)

theorem within_dpdSwapPath (wDFE_DPD_NOTREADY_CNT : P R.DFE_DPD_NOTREADY_CNT) (wDFE_DPD_QUAL : ∀ i, P (R.DFE_DPD_QUAL i))
    (wDFE_DPD_STATUS : ∀ i, P (R.DFE_DPD_STATUS i)) (lmarks : L .marks) (lraised : L .raised) (s : State) (p : Nat) :
    Within P L s (State.dpdSwapPath s p).2 := by
  unfold State.dpdSwapPath
  with_reducible
    repeat' (first
        | apply Within.refl | assumption | apply Within.trans _ (within_put ?_ ..) | apply Within.trans _ (within_incWrap ?_ ..)
        | apply Within.trans _ (within_setFlag ?_ ..) | apply Within.trans _ (within_raise lraised ..)
        | apply Within.trans _ (within_count lmarks ?_ ..) | apply Within.ite | apply Within.ite_snd | apply wDFE_DPD_NOTREADY_CNT
        | apply wDFE_DPD_QUAL | apply wDFE_DPD_STATUS | dsimp only | split)

theorem within_dpdSwap (wDFE_DPD_NOTREADY_CNT : P R.DFE_DPD_NOTREADY_CNT) (wDFE_DPD_QUAL : ∀ i, P (R.DFE_DPD_QUAL i))
    (wDFE_DPD_STATUS : ∀ i, P (R.DFE_DPD_STATUS i)) (lmarks : L .marks) (lraised : L .raised) (s : State) (i : Nat) :
    Within P L s (State.dpdSwap s i) := by
  unfold State.dpdSwap
  with_reducible
    repeat' (first
        | apply Within.refl | assumption
        | apply Within.trans _ (within_dpdSwapPath wDFE_DPD_NOTREADY_CNT wDFE_DPD_QUAL wDFE_DPD_STATUS lmarks lraised ..)
        | apply Within.trans _ (within_raiseTo lraised ..) | apply Within.ite | dsimp only | apply Within.foldl
        | apply Within.foldlBy Prod.snd | apply Within.foldlBy Prod.fst | intro _ | split | apply Within.snd_of (by assumption))

theorem within_toIssued (ltl : L .tl) (s : State) (i : Nat) : Within P L s (State.toIssued s i) := by
  unfold State.toIssued
  with_reducible
    repeat' (first
        | apply Within.refl | assumption | simp only [↓Within.upd_tl ltl] | apply Within.ite | dsimp only | split)

theorem within_issued1 (wringWord : ∀ i j, P (ringWord i j)) (ltl : L .tl) (s : State) (i : Nat) :
    Within P L s (State.issued1 s i) := by
  unfold State.issued1
  with_reducible
    repeat' (first
        | apply Within.refl | assumption | apply Within.trans _ (within_setStat wringWord ..) | simp only [↓Within.upd_tl ltl]
        | apply Within.ite | dsimp only | split)

theorem within_issueOr_by (wTL_JOB_LATE_CNT : P R.TL_JOB_LATE_CNT) (wTL_LEASE_BLANK_CNT : P R.TL_LEASE_BLANK_CNT)
    (wringWord : ∀ i j, P (ringWord i j)) (lmarks : L .marks) (lraised : L .raised) (ltl : L .tl) (s : State) (i act : Nat)
    (hold : Option State) (eff : State → State)
    (hh : ∀ {u}, hold = some u → Within P L s u) (h : ∀ t, Within P L t (eff t)) : WithinNext P L s (s.issueOr i act hold eff) := by
  unfold State.issueOr
  dsimp only
  refine .ite (.next (.refl s)) (.ite (.next ?_) (.ite (.next ?_) ?_))
  · exact (((within_toIssued ltl s i).trans (within_setStat wringWord ..)).trans (within_count lmarks wTL_LEASE_BLANK_CNT)).trans
      (within_raiseTo lraised ..)
  · exact (((within_toIssued ltl s i).trans (within_setStat wringWord ..)).trans (within_count lmarks wTL_JOB_LATE_CNT)).trans
      (within_raiseTo lraised ..)
  · cases hold with
    | some u => exact .next (hh rfl)
    | none => exact .next (((within_toIssued ltl s i).trans (within_issued1 wringWord ltl ..)).trans (h _))

theorem within_issue_by (wTL_JOB_LATE_CNT : P R.TL_JOB_LATE_CNT) (wTL_LEASE_BLANK_CNT : P R.TL_LEASE_BLANK_CNT)
    (wringWord : ∀ i j, P (ringWord i j)) (lmarks : L .marks) (lraised : L .raised) (ltl : L .tl) (s : State) (i act : Nat)
    (eff : State → State)
    (h : ∀ t, Within P L t (eff t)) : WithinNext P L s (s.issue i act eff) :=
  within_issueOr_by wTL_JOB_LATE_CNT wTL_LEASE_BLANK_CNT wringWord lmarks lraised ltl s i act none eff (fun e => nomatch e) h

theorem within_execGuard (wTL_JOB_LATE_CNT : P R.TL_JOB_LATE_CNT) (wTL_LEASE_BLANK_CNT : P R.TL_LEASE_BLANK_CNT)
    (wringWord : ∀ i j, P (ringWord i j)) (lmarks : L .marks) (lraised : L .raised) (ltl : L .tl) (slot : Fin 4096) (s : State)
    : WithinNext P L s (execGuard slot s) := by
  unfold execGuard
  with_reducible
    repeat' (first
        | apply Within.refl | assumption | apply within_issue_by wTL_JOB_LATE_CNT wTL_LEASE_BLANK_CNT wringWord lmarks lraised ltl
        | apply WithinNext.next | simp only [↓Within.upd_tl ltl] | apply Within.ite | apply WithinNext.ite | dsimp only | intro _
        | split)

theorem within_gustStep (lpm : L .pm) (s : State) (tx : Bool) : Within P L s (State.gustStep s tx) := by
  unfold State.gustStep
  with_reducible
    repeat' (first
        | apply Within.refl | assumption | simp only [↓Within.upd_pm lpm] | apply Within.ite | dsimp only | split)

theorem within_headAdvance (wTL_HEAD : P R.TL_HEAD) (wTL_STATUS : P R.TL_STATUS) (s : State) :
    Within P L s (State.headAdvance s) := by
  unfold State.headAdvance
  with_reducible
    repeat' (first
        | apply Within.refl | assumption | apply Within.trans _ (within_showLive wTL_STATUS ..)
        | apply Within.trans _ (within_put ?_ ..) | apply Within.ite | apply wTL_HEAD | dsimp only | split)

theorem within_quotaFall (wHI_CMP_LOST_CNT : ∀ i, P (R.HI_CMP_LOST_CNT i)) (wHI_CTX_STAT : ∀ i, P (R.HI_CTX_STAT i))
    (wHI_INFL_TOTAL : P R.HI_INFL_TOTAL) (wHI_RING_PROD : ∀ i, P (R.HI_RING_PROD i))
    (wTL_PART_QUOTA : ∀ i, P (R.TL_PART_QUOTA i)) (lhi : L .hi) (lhy : L .hy) (llastCpl : L .lastCpl) (lmarks : L .marks)
    (lmem : L .mem) (ltl : L .tl) (s : State) (x : Nat) : Within P L s (State.quotaFall s x) := by
  unfold State.quotaFall
  with_reducible
    repeat' (first
        | apply Within.refl | assumption | apply Within.trans _ (within_put ?_ ..)
        | apply Within.trans _ (within_revokeDone wHI_CMP_LOST_CNT wHI_CTX_STAT wHI_INFL_TOTAL wHI_RING_PROD lhi lhy llastCpl lmarks lmem ..)
        | simp only [↓Within.upd_tl ltl] | apply Within.ite | apply wTL_PART_QUOTA | dsimp only | split)

theorem within_retireSlot (wHI_CMP_LOST_CNT : ∀ i, P (R.HI_CMP_LOST_CNT i)) (wHI_CTX_STAT : ∀ i, P (R.HI_CTX_STAT i))
    (wHI_INFL_TOTAL : P R.HI_INFL_TOTAL) (wHI_RING_PROD : ∀ i, P (R.HI_RING_PROD i)) (wTL_HEAD : P R.TL_HEAD)
    (wTL_PART_QUOTA : ∀ i, P (R.TL_PART_QUOTA i)) (wTL_PART_USED : ∀ i, P (R.TL_PART_USED i)) (wTL_STATUS : P R.TL_STATUS)
    (lhi : L .hi) (lhy : L .hy) (llastCpl : L .lastCpl) (lmarks : L .marks) (lmem : L .mem) (ltl : L .tl) (s : State) (i : Nat)
    : Within P L s (State.retireSlot s i) := by
  unfold State.retireSlot
  with_reducible
    repeat' (first
        | apply Within.refl | assumption | apply Within.trans _ (within_headAdvance wTL_HEAD wTL_STATUS ..)
        | apply Within.trans _ (within_quotaFall wHI_CMP_LOST_CNT wHI_CTX_STAT wHI_INFL_TOTAL wHI_RING_PROD wTL_PART_QUOTA lhi lhy llastCpl lmarks lmem ltl ..)
        | apply Within.trans _ (within_put ?_ ..) | simp only [↓Within.upd_tl ltl] | apply Within.ite | apply wTL_PART_USED
        | dsimp only | split)

theorem within_execEntryRetire (wHI_CMP_LOST_CNT : ∀ i, P (R.HI_CMP_LOST_CNT i)) (wHI_CTX_STAT : ∀ i, P (R.HI_CTX_STAT i))
    (wHI_INFL_TOTAL : P R.HI_INFL_TOTAL) (wHI_RING_PROD : ∀ i, P (R.HI_RING_PROD i)) (wTL_HEAD : P R.TL_HEAD)
    (wTL_PART_QUOTA : ∀ i, P (R.TL_PART_QUOTA i)) (wTL_PART_USED : ∀ i, P (R.TL_PART_USED i)) (wTL_STATUS : P R.TL_STATUS)
    (lhi : L .hi) (lhy : L .hy) (llastCpl : L .lastCpl) (lmarks : L .marks) (lmem : L .mem) (ltl : L .tl) (slot : Fin 4096)
    (s : State) : WithinNext P L s (execEntryRetire slot s) := by
  unfold execEntryRetire
  with_reducible
    repeat' (first
        | apply Within.refl | assumption
        | apply Within.trans _ (within_retireSlot wHI_CMP_LOST_CNT wHI_CTX_STAT wHI_INFL_TOTAL wHI_RING_PROD wTL_HEAD wTL_PART_QUOTA wTL_PART_USED wTL_STATUS lhi lhy llastCpl lmarks lmem ltl ..)
        | apply WithinNext.when_ | apply WithinNext.next | apply Within.ite | apply WithinNext.ite | dsimp only | split)

theorem within_takeBank (wBF_CAR_STAT : ∀ i, P (R.BF_CAR_STAT i)) (wCV_ACAL_STATUS : P R.CV_ACAL_STATUS) (lbf : L .bf)
    (lraised : L .raised) (s : State) (c st : Nat) : Within P L s (State.takeBank s c st) := by
  unfold State.takeBank
  with_reducible
    repeat' (first
        | apply Within.refl | assumption | apply Within.trans _ (within_raiseTo lraised ..)
        | apply Within.trans _ (within_put ?_ ..) | simp only [↓Within.upd_bf lbf] | apply Within.ite | apply wBF_CAR_STAT
        | apply wCV_ACAL_STATUS | dsimp only | split)

theorem within_execWpage (wBF_CAR_STAT : ∀ i, P (R.BF_CAR_STAT i)) (wBF_REGION_STAT : ∀ i, P (R.BF_REGION_STAT i))
    (wBF_WPAGE_NOTREADY_CNT : P R.BF_WPAGE_NOTREADY_CNT) (wCV_ACAL_STATUS : P R.CV_ACAL_STATUS)
    (wTL_JOB_LATE_CNT : P R.TL_JOB_LATE_CNT) (wTL_LEASE_BLANK_CNT : P R.TL_LEASE_BLANK_CNT)
    (wringWord : ∀ i j, P (ringWord i j)) (lbf : L .bf) (lmarks : L .marks) (lraised : L .raised) (ltl : L .tl)
    (slot : Fin 4096) (s : State) : WithinNext P L s (execWpage slot s) := by
  unfold execWpage
  with_reducible
    repeat' (first
        | apply Within.refl | assumption | apply within_issue_by wTL_JOB_LATE_CNT wTL_LEASE_BLANK_CNT wringWord lmarks lraised ltl
        | apply Within.trans _ (within_takeBank wBF_CAR_STAT wCV_ACAL_STATUS lbf lraised ..)
        | apply Within.trans _ (within_switchRegion wBF_REGION_STAT wBF_WPAGE_NOTREADY_CNT lbf lmarks lraised ..)
        | apply WithinNext.next | apply Within.ite | apply WithinNext.ite | dsimp only | apply Within.foldl
        | apply Within.foldlBy Prod.snd | apply Within.foldlBy Prod.fst | intro _ | split)

theorem within_putSlot (wringWord : ∀ i j, P (ringWord i j)) (s : State) (i : Nat) (w : List Word) :
    Within P L s (State.putSlot s i w) := by
  unfold State.putSlot
  with_reducible
    repeat' (first
        | apply Within.refl | assumption | apply Within.trans _ (within_wr ?_ ..) | apply Within.ite | apply wringWord
        | dsimp only | apply Within.foldl | apply Within.foldlBy Prod.snd | apply Within.foldlBy Prod.fst | intro _ | split)

theorem within_commit (wTL_HEAD : P R.TL_HEAD) (wTL_LATE_ENTRY_CNT : P R.TL_LATE_ENTRY_CNT)
    (wTL_PART_USED : ∀ i, P (R.TL_PART_USED i)) (wTL_STATUS : P R.TL_STATUS) (wTL_TAIL : P R.TL_TAIL)
    (wringWord : ∀ i j, P (ringWord i j)) (lmarks : L .marks) (lraised : L .raised) (ltl : L .tl) (s : State) (w : List Word)
    (host : Bool) : Within P L s (State.commit s w host) := by
  unfold State.commit
  with_reducible
    repeat' (first
        | apply Within.refl | assumption | apply Within.trans _ (within_put ?_ ..)
        | apply Within.trans _ (within_putSlot wringWord ..) | apply Within.trans _ (within_raiseTo lraised ..)
        | apply Within.trans _ (within_setStat wringWord ..) | apply Within.trans _ (within_count lmarks ?_ ..)
        | apply Within.trans _ (within_headAdvance wTL_HEAD wTL_STATUS ..) | apply Within.trans _ (within_wr ?_ ..)
        | apply Within.trans _ (within_showLive wTL_STATUS ..) | simp only [↓Within.upd_tl ltl] | apply Within.ite
        | apply wTL_LATE_ENTRY_CNT | apply wTL_PART_USED | apply wTL_TAIL | apply wringWord | dsimp only | split)

theorem within_execForecastCommit (wTL_HEAD : P R.TL_HEAD) (wTL_LATE_ENTRY_CNT : P R.TL_LATE_ENTRY_CNT)
    (wTL_PART_USED : ∀ i, P (R.TL_PART_USED i)) (wTL_STATUS : P R.TL_STATUS) (wTL_TAIL : P R.TL_TAIL)
    (wringWord : ∀ i j, P (ringWord i j)) (lmarks : L .marks) (lraised : L .raised) (ltl : L .tl) (entry : BitVec 256)
    (s : State) : WithinNext P L s (execForecastCommit entry s) := by
  unfold execForecastCommit
  with_reducible
    repeat' (first
        | apply Within.refl | assumption
        | apply Within.trans _ (within_commit wTL_HEAD wTL_LATE_ENTRY_CNT wTL_PART_USED wTL_STATUS wTL_TAIL wringWord lmarks lraised ltl ..)
        | apply WithinNext.next | apply Within.ite | apply WithinNext.ite | dsimp only | split)

theorem within_execDfeSync (wTL_JOB_LATE_CNT : P R.TL_JOB_LATE_CNT) (wTL_LEASE_BLANK_CNT : P R.TL_LEASE_BLANK_CNT)
    (wringWord : ∀ i j, P (ringWord i j)) (ldfe : L .dfe) (lmarks : L .marks) (lraised : L .raised) (ltl : L .tl)
    (slot : Fin 4096) (s : State) : WithinNext P L s (execDfeSync slot s) := by
  unfold execDfeSync
  with_reducible
    repeat' (first
        | apply Within.refl | assumption | apply within_issue_by wTL_JOB_LATE_CNT wTL_LEASE_BLANK_CNT wringWord lmarks lraised ltl
        | apply Within.trans _ (within_raiseTo lraised ..) | apply WithinNext.next | simp only [↓Within.upd_tl_dfe ltl ldfe]
        | apply Within.ite | apply WithinNext.ite | dsimp only | intro _ | split)

theorem within_setChain (ldfe : L .dfe) (s : State) (k : ChainSt) : Within P L s (State.setChain s k) := by
  unfold State.setChain
  with_reducible
    repeat' (first
        | apply Within.refl | assumption | simp only [↓Within.upd_dfe ldfe] | apply Within.ite | dsimp only | split)

theorem within_cfirSwapDir (wDFE_CFIR_EXTRA_CNT : P R.DFE_CFIR_EXTRA_CNT) (ldfe : L .dfe) (lmarks : L .marks)
    (lraised : L .raised) (s : State) (c dir tgt pmask : Nat) : Within P L s (State.cfirSwapDir s c dir tgt pmask) := by
  unfold State.cfirSwapDir
  with_reducible
    repeat' (first
        | apply Within.refl | assumption | apply Within.trans _ (within_raiseTo lraised ..)
        | apply Within.trans _ (within_count lmarks ?_ ..) | apply Within.trans _ (within_setChain ldfe ..)
        | simp only [↓Within.upd_dfe ldfe] | apply Within.ite | apply wDFE_CFIR_EXTRA_CNT | dsimp only | apply Within.foldl
        | apply Within.foldlBy Prod.snd | apply Within.foldlBy Prod.fst | intro _ | split)

theorem within_obsHold (wTL_DEFER_CNT : ∀ i, P (R.TL_DEFER_CNT i)) (wringWord : ∀ i j, P (ringWord i j)) (lmarks : L .marks)
    (lraised : L .raised) (ltl : L .tl) (s : State) (i : Nat) : ∀ {o}, (State.obsHold s i) = some o → Within P L s o := by
  intro o h
  unfold State.obsHold at h
  revert h
  with_reducible
    repeat' (first
        | apply Within.refl | assumption | apply Within.trans _ (within_toWait ltl ..)
        | apply Within.trans _ (within_defer wTL_DEFER_CNT wringWord lmarks lraised ltl ..) | apply Within.ite | dsimp only
        | (intro h; first | (cases h; done) | injection h with h; subst h) | split | split)

theorem within_execObsCap (wDFE_CAP_SKIP_CNT : ∀ i, P (R.DFE_CAP_SKIP_CNT i)) (wDFE_CAP_STATUS : ∀ i, P (R.DFE_CAP_STATUS i))
    (wTL_DEFER_CNT : ∀ i, P (R.TL_DEFER_CNT i)) (wTL_JOB_LATE_CNT : P R.TL_JOB_LATE_CNT)
    (wTL_LEASE_BLANK_CNT : P R.TL_LEASE_BLANK_CNT) (wringWord : ∀ i j, P (ringWord i j)) (lcv : L .cv) (ldfe : L .dfe)
    (lmarks : L .marks) (lpins : L .pins) (lraised : L .raised) (ltl : L .tl) (slot : Fin 4096) (s : State) :
    WithinNext P L s (execObsCap slot s) := by
  unfold execObsCap
  with_reducible
    repeat' (first
        | apply Within.refl | assumption
        | apply within_issueOr_by wTL_JOB_LATE_CNT wTL_LEASE_BLANK_CNT wringWord lmarks lraised ltl
        | exact within_obsHold wTL_DEFER_CNT wringWord lmarks lraised ltl ..
        | apply Within.trans _ (within_obsTile wDFE_CAP_SKIP_CNT wDFE_CAP_STATUS wringWord lcv ldfe lmarks lpins lraised ..)
        | apply Within.trans _ (within_obsHold wTL_DEFER_CNT wringWord lmarks lraised ltl _ _ (by assumption))
        | apply WithinNext.next | simp only [↓Within.upd_tl ltl] | apply Within.ite | apply WithinNext.ite | dsimp only
        | apply Within.foldl | apply Within.foldlBy Prod.snd | apply Within.foldlBy Prod.fst | intro _ | split)

theorem within_noRef (lcv : L .cv) (lraised : L .raised) (s : State) (q : Nat) : Within P L s (State.noRef s q) := by
  unfold State.noRef
  with_reducible
    repeat' (first
        | apply Within.refl | assumption | apply Within.trans _ (within_raise lraised ..) | simp only [↓Within.upd_cv lcv]
        | apply Within.ite | dsimp only | split)

theorem within_setF0 (wBF_CAR_F0 : ∀ i, P (R.BF_CAR_F0 i)) (lfree : L .free) (s : State) (c : Nat) :
    Within P L s (State.setF0 s c) := by
  unfold State.setF0
  with_reducible
    repeat' (first
        | apply Within.refl | assumption | apply Within.trans _ (within_divFree lfree ..)
        | apply Within.trans _ (within_put ?_ ..) | apply Within.ite | apply wBF_CAR_F0 | dsimp only | split
        | apply Within.snd_of (by assumption))

theorem within_chan (wBF_CAR_F0 : ∀ i, P (R.BF_CAR_F0 i)) (wRF_SYN_FREQ : ∀ i, P (R.RF_SYN_FREQ i))
    (wRF_SYN_STATUS : ∀ i, P (R.RF_SYN_STATUS i)) (lcv : L .cv) (ldfe : L .dfe) (lfree : L .free) (lraised : L .raised)
    (lrf : L .rf) (s : State) (i : Nat) : Within P L s (State.chan s i) := by
  unfold State.chan
  with_reducible
    repeat' (first
        | apply Within.refl | assumption | apply Within.trans _ (within_raiseTo lraised ..)
        | apply Within.trans _ (within_tune wRF_SYN_FREQ wRF_SYN_STATUS ldfe lrf ..)
        | apply Within.trans _ (within_noRef lcv lraised ..) | apply Within.trans _ (within_setF0 wBF_CAR_F0 lfree ..)
        | simp only [↓Within.upd_cv lcv] | apply Within.ite | dsimp only | apply Within.foldl | apply Within.foldlBy Prod.snd
        | apply Within.foldlBy Prod.fst | intro _ | split)

theorem within_execChan (wBF_CAR_F0 : ∀ i, P (R.BF_CAR_F0 i)) (wRF_SYN_FREQ : ∀ i, P (R.RF_SYN_FREQ i))
    (wRF_SYN_STATUS : ∀ i, P (R.RF_SYN_STATUS i)) (wTL_JOB_LATE_CNT : P R.TL_JOB_LATE_CNT)
    (wTL_LEASE_BLANK_CNT : P R.TL_LEASE_BLANK_CNT) (wringWord : ∀ i j, P (ringWord i j)) (lcv : L .cv) (ldfe : L .dfe)
    (lfree : L .free) (lmarks : L .marks) (lraised : L .raised) (lrf : L .rf) (ltl : L .tl) (slot : Fin 4096) (s : State) :
    WithinNext P L s (execChan slot s) := by
  unfold execChan
  with_reducible
    repeat' (first
        | apply Within.refl | assumption | apply within_issue_by wTL_JOB_LATE_CNT wTL_LEASE_BLANK_CNT wringWord lmarks lraised ltl
        | apply Within.trans _ (within_chan wBF_CAR_F0 wRF_SYN_FREQ wRF_SYN_STATUS lcv ldfe lfree lraised lrf ..)
        | apply WithinNext.next | apply Within.ite | apply WithinNext.ite | dsimp only | intro _ | split)

theorem within_dacOn (lrf : L .rf) (s : State) (p : Nat) : Within P L s (State.dacOn s p) := by
  unfold State.dacOn
  with_reducible
    repeat' (first
        | apply Within.refl | assumption | simp only [↓Within.upd_rf lrf] | apply Within.ite | dsimp only | split)

theorem within_execStagedEntryCommit (wTL_HEAD : P R.TL_HEAD) (wTL_LATE_ENTRY_CNT : P R.TL_LATE_ENTRY_CNT)
    (wTL_PART_USED : ∀ i, P (R.TL_PART_USED i)) (wTL_STATUS : P R.TL_STATUS) (wTL_TAIL : P R.TL_TAIL)
    (wringWord : ∀ i j, P (ringWord i j)) (lhy : L .hy) (lmarks : L .marks) (lraised : L .raised) (ltl : L .tl) (s : State) :
    WithinNext P L s (execStagedEntryCommit s) := by
  unfold execStagedEntryCommit
  with_reducible
    repeat' (first
        | apply Within.refl | assumption
        | apply Within.trans _ (within_commit wTL_HEAD wTL_LATE_ENTRY_CNT wTL_PART_USED wTL_STATUS wTL_TAIL wringWord lmarks lraised ltl ..)
        | apply WithinNext.next | simp only [↓Within.upd_hy lhy] | apply Within.ite | apply WithinNext.ite | dsimp only | split)

theorem within_execCfirSwap (wDFE_CFIR_EXTRA_CNT : P R.DFE_CFIR_EXTRA_CNT) (wTL_JOB_LATE_CNT : P R.TL_JOB_LATE_CNT)
    (wTL_LEASE_BLANK_CNT : P R.TL_LEASE_BLANK_CNT) (wringWord : ∀ i j, P (ringWord i j)) (ldfe : L .dfe) (lmarks : L .marks)
    (lraised : L .raised) (ltl : L .tl) (slot : Fin 4096) (s : State) : WithinNext P L s (execCfirSwap slot s) := by
  unfold execCfirSwap
  with_reducible
    repeat' (first
        | apply Within.refl | assumption | apply within_issue_by wTL_JOB_LATE_CNT wTL_LEASE_BLANK_CNT wringWord lmarks lraised ltl
        | apply Within.trans _ (within_cfirSwapDir wDFE_CFIR_EXTRA_CNT ldfe lmarks lraised ..) | apply WithinNext.next
        | apply Within.ite | apply WithinNext.ite | dsimp only | intro _ | split)

theorem within_dacOff (lrf : L .rf) (s : State) (p : Nat) : Within P L s (State.dacOff s p) := by
  unfold State.dacOff
  with_reducible
    repeat' (first
        | apply Within.refl | assumption | simp only [↓Within.upd_rf lrf] | apply Within.ite | dsimp only | split)

theorem within_execPathDisarmStep (wRF_PABIAS_CFG : ∀ i, P (R.RF_PABIAS_CFG i)) (wRF_PABIAS_LVL : ∀ i, P (R.RF_PABIAS_LVL i))
    (wRF_PATH_STATE : ∀ i, P (R.RF_PATH_STATE i)) (ldfe : L .dfe) (lpm : L .pm) (lrf : L .rf) (ltl : L .tl) (s : State) :
    WithinNext P L s (execPathDisarmStep s) := by
  unfold execPathDisarmStep
  with_reducible
    repeat' (first
        | apply Within.refl | assumption | apply Within.trans _ (within_gustStep lpm ..)
        | apply Within.trans _ (within_setPath wRF_PABIAS_CFG wRF_PABIAS_LVL wRF_PATH_STATE ldfe lrf ..)
        | apply Within.trans _ (within_dacOff lrf ..) | apply WithinNext.next | simp only [↓Within.upd_tl ltl] | apply Within.ite
        | apply WithinNext.ite | dsimp only | split)

theorem within_execArm (wTL_JOB_LATE_CNT : P R.TL_JOB_LATE_CNT) (wTL_LEASE_BLANK_CNT : P R.TL_LEASE_BLANK_CNT)
    (wringWord : ∀ i j, P (ringWord i j)) (lmarks : L .marks) (lraised : L .raised) (ltl : L .tl) (slot : Fin 4096) (s : State)
    : WithinNext P L s (execArm slot s) := by
  unfold execArm
  with_reducible
    repeat' (first
        | apply Within.refl | assumption | apply within_issue_by wTL_JOB_LATE_CNT wTL_LEASE_BLANK_CNT wringWord lmarks lraised ltl
        | apply WithinNext.next | simp only [↓Within.upd_tl ltl] | apply Within.ite | apply WithinNext.ite | dsimp only | intro _
        | split)

theorem within_swapTick (wDFE_CAR_STAT : ∀ i, P (R.DFE_CAR_STAT i)) (ldfe : L .dfe) (s : State) :
    Within P L s (State.swapTick s) := by
  unfold State.swapTick
  with_reducible
    repeat' (first
        | apply Within.refl | assumption | apply Within.trans _ (within_put ?_ ..) | simp only [↓Within.upd_dfe ldfe]
        | apply Within.ite | apply wDFE_CAR_STAT | dsimp only | apply Within.foldl | apply Within.foldlBy Prod.snd
        | apply Within.foldlBy Prod.fst | intro _ | split)

theorem within_execAuxTune (wRF_SYN_FREQ : ∀ i, P (R.RF_SYN_FREQ i)) (wRF_SYN_STATUS : ∀ i, P (R.RF_SYN_STATUS i))
    (wTL_JOB_LATE_CNT : P R.TL_JOB_LATE_CNT) (wTL_LEASE_BLANK_CNT : P R.TL_LEASE_BLANK_CNT)
    (wringWord : ∀ i j, P (ringWord i j)) (ldfe : L .dfe) (lmarks : L .marks) (lraised : L .raised) (lrf : L .rf) (ltl : L .tl)
    (slot : Fin 4096) (s : State) : WithinNext P L s (execAuxTune slot s) := by
  unfold execAuxTune
  with_reducible
    repeat' (first
        | apply Within.refl | assumption | apply within_issue_by wTL_JOB_LATE_CNT wTL_LEASE_BLANK_CNT wringWord lmarks lraised ltl
        | apply Within.trans _ (within_tune wRF_SYN_FREQ wRF_SYN_STATUS ldfe lrf ..)
        | apply Within.trans _ (within_raiseTo lraised ..) | apply WithinNext.next | apply Within.ite | apply WithinNext.ite
        | dsimp only | intro _ | split)

theorem within_dacTick (lrf : L .rf) (s : State) : Within P L s (State.dacTick s) := by
  unfold State.dacTick
  with_reducible
    repeat' (first
        | apply Within.refl | assumption | simp only [↓Within.upd_rf lrf] | apply Within.ite | dsimp only | apply Within.foldl
        | apply Within.foldlBy Prod.snd | apply Within.foldlBy Prod.fst | intro _ | split)

theorem within_gainTick (wRF_PATH_STATE : ∀ i, P (R.RF_PATH_STATE i)) (ltl : L .tl) (s : State) :
    Within P L s (State.gainTick s) := by
  unfold State.gainTick
  with_reducible
    repeat' (first
        | apply Within.refl | assumption | apply Within.trans _ (within_put ?_ ..) | simp only [↓Within.upd_tl ltl]
        | apply Within.ite | apply wRF_PATH_STATE | dsimp only | apply Within.foldl | apply Within.foldlBy Prod.snd
        | apply Within.foldlBy Prod.fst | intro _ | split)

theorem within_gain (wRF_PATH_STATE : ∀ i, P (R.RF_PATH_STATE i)) (ltl : L .tl) (s : State) (i : Nat) :
    Within P L s (State.gain s i) := by
  unfold State.gain
  with_reducible
    repeat' (first
        | apply Within.refl | assumption | apply Within.trans _ (within_gainTick wRF_PATH_STATE ltl ..)
        | simp only [↓Within.upd_tl ltl] | apply Within.ite | dsimp only | split)

theorem within_execDpdSwap (wDFE_DPD_NOTREADY_CNT : P R.DFE_DPD_NOTREADY_CNT) (wDFE_DPD_QUAL : ∀ i, P (R.DFE_DPD_QUAL i))
    (wDFE_DPD_STATUS : ∀ i, P (R.DFE_DPD_STATUS i)) (wTL_JOB_LATE_CNT : P R.TL_JOB_LATE_CNT)
    (wTL_LEASE_BLANK_CNT : P R.TL_LEASE_BLANK_CNT) (wringWord : ∀ i j, P (ringWord i j)) (lmarks : L .marks)
    (lraised : L .raised) (ltl : L .tl) (slot : Fin 4096) (s : State) : WithinNext P L s (execDpdSwap slot s) := by
  unfold execDpdSwap
  with_reducible
    repeat' (first
        | apply Within.refl | assumption | apply within_issue_by wTL_JOB_LATE_CNT wTL_LEASE_BLANK_CNT wringWord lmarks lraised ltl
        | apply Within.trans _ (within_dpdSwap wDFE_DPD_NOTREADY_CNT wDFE_DPD_QUAL wDFE_DPD_STATUS lmarks lraised ..)
        | apply WithinNext.next | apply Within.ite | apply WithinNext.ite | dsimp only | intro _ | split)

theorem within_execMark (wTL_JOB_LATE_CNT : P R.TL_JOB_LATE_CNT) (wTL_LEASE_BLANK_CNT : P R.TL_LEASE_BLANK_CNT)
    (wringWord : ∀ i j, P (ringWord i j)) (lmarks : L .marks) (lraised : L .raised) (ltl : L .tl) (slot : Fin 4096) (s : State)
    : WithinNext P L s (execMark slot s) := by
  unfold execMark
  with_reducible
    repeat' (first
        | apply Within.refl | assumption | apply within_issue_by wTL_JOB_LATE_CNT wTL_LEASE_BLANK_CNT wringWord lmarks lraised ltl
        | apply Within.trans _ (within_raiseTo lraised ..) | apply WithinNext.next | apply Within.ite | apply WithinNext.ite
        | dsimp only | intro _ | split)

theorem within_unstage (lhy : L .hy) (s : State) (p : Staged → Bool) : Within P L s (State.unstage s p) := by
  unfold State.unstage
  with_reducible
    repeat' (first
        | apply Within.refl | assumption | simp only [↓Within.upd_hy lhy] | apply Within.ite | dsimp only | split)

theorem within_discard (wHI_CMP_LOST_CNT : ∀ i, P (R.HI_CMP_LOST_CNT i)) (wHI_CTX_STAT : ∀ i, P (R.HI_CTX_STAT i))
    (wHI_INFL_TOTAL : P R.HI_INFL_TOTAL) (wHI_RING_PROD : ∀ i, P (R.HI_RING_PROD i)) (wTL_HEAD : P R.TL_HEAD)
    (wTL_PART_QUOTA : ∀ i, P (R.TL_PART_QUOTA i)) (wTL_PART_USED : ∀ i, P (R.TL_PART_USED i)) (wTL_STATUS : P R.TL_STATUS)
    (wringWord : ∀ i j, P (ringWord i j)) (lhi : L .hi) (lhy : L .hy) (llastCpl : L .lastCpl) (lmarks : L .marks)
    (lmem : L .mem) (lraised : L .raised) (ltl : L .tl) (s : State) : Within P L s (State.discard s) := by
  unfold State.discard
  with_reducible
    repeat' (first
        | apply Within.refl | assumption
        | apply Within.trans _ (within_retireSlot wHI_CMP_LOST_CNT wHI_CTX_STAT wHI_INFL_TOTAL wHI_RING_PROD wTL_HEAD wTL_PART_QUOTA wTL_PART_USED wTL_STATUS lhi lhy llastCpl lmarks lmem ltl ..)
        | apply Within.trans _ (within_setStat wringWord ..) | apply Within.trans _ (within_unstage lhy ..)
        | apply Within.trans _ (within_raiseTo lraised ..) | apply Within.ite | dsimp only | apply Within.foldl
        | apply Within.foldlBy Prod.snd | apply Within.foldlBy Prod.fst | intro _ | split)

theorem within_execGustStepGrant (wPM_GUST_CFG : P R.PM_GUST_CFG) (wPM_GUST_WAIT_CNT : P R.PM_GUST_WAIT_CNT) (lmarks : L .marks)
    (lpm : L .pm) (s : State) : WithinNext P L s (execGustStepGrant s) := by
  unfold execGustStepGrant
  with_reducible
    repeat' (first
        | apply Within.refl | assumption | apply Within.trans _ (within_count lmarks ?_ ..)
        | apply Within.trans _ (within_showDebt wPM_GUST_CFG ..) | apply WithinNext.next | simp only [↓Within.upd_pm lpm]
        | apply Within.ite | apply WithinNext.ite | apply wPM_GUST_WAIT_CNT | dsimp only | split)

theorem within_execPathArmStep (wRF_PABIAS_CFG : ∀ i, P (R.RF_PABIAS_CFG i)) (wRF_PABIAS_LVL : ∀ i, P (R.RF_PABIAS_LVL i))
    (wRF_PATH_STATE : ∀ i, P (R.RF_PATH_STATE i)) (ldfe : L .dfe) (lpm : L .pm) (lrf : L .rf) (ltl : L .tl) (s : State) :
    WithinNext P L s (execPathArmStep s) := by
  unfold execPathArmStep
  with_reducible
    repeat' (first
        | apply Within.refl | assumption | apply Within.trans _ (within_gustStep lpm ..)
        | apply Within.trans _ (within_setPath wRF_PABIAS_CFG wRF_PABIAS_LVL wRF_PATH_STATE ldfe lrf ..)
        | apply Within.trans _ (within_dacOn lrf ..) | apply WithinNext.next | simp only [↓Within.upd_tl ltl] | apply Within.ite
        | apply WithinNext.ite | dsimp only | split)

theorem within_execDisarm (wTL_JOB_LATE_CNT : P R.TL_JOB_LATE_CNT) (wTL_LEASE_BLANK_CNT : P R.TL_LEASE_BLANK_CNT)
    (wringWord : ∀ i j, P (ringWord i j)) (lmarks : L .marks) (lraised : L .raised) (ltl : L .tl) (slot : Fin 4096) (s : State)
    : WithinNext P L s (execDisarm slot s) := by
  unfold execDisarm
  with_reducible
    repeat' (first
        | apply Within.refl | assumption | apply within_issue_by wTL_JOB_LATE_CNT wTL_LEASE_BLANK_CNT wringWord lmarks lraised ltl
        | apply WithinNext.next | simp only [↓Within.upd_tl ltl] | apply Within.ite | apply WithinNext.ite | dsimp only | intro _
        | split)

theorem within_schedule (ltl : L .tl) (s : State) (i : Nat) (ul : Bool) : Within P L s (State.schedule s i ul) := by
  unfold State.schedule
  with_reducible
    repeat' (first
        | apply Within.refl | assumption | simp only [↓Within.upd_tl ltl] | apply Within.ite | dsimp only | split)

theorem within_execUlSym (wTL_JOB_LATE_CNT : P R.TL_JOB_LATE_CNT) (wTL_LEASE_BLANK_CNT : P R.TL_LEASE_BLANK_CNT)
    (wringWord : ∀ i j, P (ringWord i j)) (lmarks : L .marks) (lraised : L .raised) (ltl : L .tl) (slot : Fin 4096) (s : State)
    : WithinNext P L s (execUlSym slot s) := by
  unfold execUlSym
  with_reducible
    repeat' (first
        | apply Within.refl | assumption | apply within_issue_by wTL_JOB_LATE_CNT wTL_LEASE_BLANK_CNT wringWord lmarks lraised ltl
        | apply Within.trans _ (within_schedule ltl ..) | apply WithinNext.next | apply Within.ite | apply WithinNext.ite
        | dsimp only | intro _ | split)

theorem within_execGain (wRF_PATH_STATE : ∀ i, P (R.RF_PATH_STATE i)) (wTL_JOB_LATE_CNT : P R.TL_JOB_LATE_CNT)
    (wTL_LEASE_BLANK_CNT : P R.TL_LEASE_BLANK_CNT) (wringWord : ∀ i j, P (ringWord i j)) (lmarks : L .marks)
    (lraised : L .raised) (ltl : L .tl) (slot : Fin 4096) (s : State) : WithinNext P L s (execGain slot s) := by
  unfold execGain
  with_reducible
    repeat' (first
        | apply Within.refl | assumption | apply within_issue_by wTL_JOB_LATE_CNT wTL_LEASE_BLANK_CNT wringWord lmarks lraised ltl
        | apply Within.trans _ (within_gain wRF_PATH_STATE ltl ..) | apply WithinNext.next | apply Within.ite
        | apply WithinNext.ite | dsimp only | intro _ | split)

theorem within_bankTick (lbf : L .bf) (s : State) : Within P L s (State.bankTick s) := by
  unfold State.bankTick
  with_reducible
    repeat' (first
        | apply Within.refl | assumption | simp only [↓Within.upd_bf lbf] | apply Within.ite | dsimp only | split)

theorem within_execSrsCap (wTL_JOB_LATE_CNT : P R.TL_JOB_LATE_CNT) (wTL_LEASE_BLANK_CNT : P R.TL_LEASE_BLANK_CNT)
    (wringWord : ∀ i j, P (ringWord i j)) (lbf : L .bf) (lmarks : L .marks) (lraised : L .raised) (ltl : L .tl)
    (slot : Fin 4096) (s : State) : WithinNext P L s (execSrsCap slot s) := by
  unfold execSrsCap
  with_reducible
    repeat' (first
        | apply Within.refl | assumption | apply within_issue_by wTL_JOB_LATE_CNT wTL_LEASE_BLANK_CNT wringWord lmarks lraised ltl
        | apply WithinNext.next | simp only [↓Within.upd_bf lbf] | apply Within.ite | apply WithinNext.ite | dsimp only | intro _
        | split)

theorem within_execDlSym (wTL_JOB_LATE_CNT : P R.TL_JOB_LATE_CNT) (wTL_LEASE_BLANK_CNT : P R.TL_LEASE_BLANK_CNT)
    (wringWord : ∀ i j, P (ringWord i j)) (lmarks : L .marks) (lraised : L .raised) (ltl : L .tl) (slot : Fin 4096) (s : State)
    : WithinNext P L s (execDlSym slot s) := by
  unfold execDlSym
  with_reducible
    repeat' (first
        | apply Within.refl | assumption | apply within_issue_by wTL_JOB_LATE_CNT wTL_LEASE_BLANK_CNT wringWord lmarks lraised ltl
        | apply Within.trans _ (within_schedule ltl ..) | apply WithinNext.next | apply Within.ite | apply WithinNext.ite
        | dsimp only | intro _ | split)

/-! ### Machine/Lanes -/

theorem within_setLane (lln : L .ln) (s : State) (n : Nat) (l : Lane) : Within P L s (State.setLane s n l) := by
  unfold State.setLane
  with_reducible
    repeat' (first
        | apply Within.refl | assumption | simp only [↓Within.upd_ln lln] | apply Within.ite | dsimp only | split)

theorem within_setLaneTx (wLN_STATE : ∀ i, P (R.LN_STATE i)) (s : State) (n st : Nat) :
    Within P L s (State.setLaneTx s n st) := by
  unfold State.setLaneTx
  with_reducible
    repeat' (first
        | apply Within.refl | assumption | apply Within.trans _ (within_put ?_ ..) | apply Within.ite | apply wLN_STATE
        | dsimp only | split)

theorem within_synceLost (wTS_STATUS : P R.TS_STATUS) (lraised : L .raised) (s : State) (n : Nat) :
    Within P L s (State.synceLost s n) := by
  unfold State.synceLost
  with_reducible
    repeat' (first
        | apply Within.refl | assumption | apply Within.trans _ (within_raise lraised ..)
        | apply Within.trans _ (within_setFlag ?_ ..) | apply Within.ite | apply wTS_STATUS | dsimp only | split)

theorem within_setGrp (lln : L .ln) (s : State) (g : Nat) (x : LaneGroup) : Within P L s (State.setGrp s g x) := by
  unfold State.setGrp
  with_reducible
    repeat' (first
        | apply Within.refl | assumption | simp only [↓Within.upd_ln lln] | apply Within.ite | dsimp only | split)

theorem within_laneBit (wLN_STATUS : P R.LN_STATUS) (s : State) (f : Fld) (n : Nat) (b : Bool) :
    Within P L s (State.laneBit s f n b) := by
  unfold State.laneBit
  with_reducible
    repeat' (first
        | apply Within.refl | assumption | apply Within.trans _ (within_put ?_ ..) | apply Within.ite | apply wLN_STATUS
        | dsimp only | split)

theorem within_showLink (wLN_GROUP_STAT : ∀ i, P (R.LN_GROUP_STAT i)) (wLN_STATUS : P R.LN_STATUS) (s : State) (n : Nat) :
    Within P L s (State.showLink s n) := by
  unfold State.showLink
  with_reducible
    repeat' (first
        | apply Within.refl | assumption | apply Within.trans _ (within_laneBit wLN_STATUS ..)
        | apply Within.trans _ (within_setFlag ?_ ..) | apply Within.ite | apply wLN_GROUP_STAT | dsimp only | split)

theorem within_setLaneRx (wLN_GROUP_STAT : ∀ i, P (R.LN_GROUP_STAT i)) (wLN_STATE : ∀ i, P (R.LN_STATE i))
    (wLN_STATUS : P R.LN_STATUS) (wTS_STATUS : P R.TS_STATUS) (lln : L .ln) (lraised : L .raised) (s : State) (n st : Nat) :
    Within P L s (State.setLaneRx s n st) := by
  unfold State.setLaneRx
  with_reducible
    repeat' (first
        | apply Within.refl | assumption | apply Within.trans _ (within_put ?_ ..)
        | apply Within.trans _ (within_synceLost wTS_STATUS lraised ..) | apply Within.trans _ (within_setGrp lln ..)
        | apply Within.trans _ (within_showLink wLN_GROUP_STAT wLN_STATUS ..) | apply Within.ite | apply wLN_STATE | dsimp only
        | split)

theorem within_grpPower (wLN_GROUP_STAT : ∀ i, P (R.LN_GROUP_STAT i)) (wPM_DOM_STAT : P R.PM_DOM_STAT) (s : State) (g : Nat) :
    Within P L s (State.grpPower s g) := by
  unfold State.grpPower
  with_reducible
    repeat' (first
        | apply Within.refl | assumption | apply Within.trans _ (within_setDom wPM_DOM_STAT ..)
        | apply Within.trans _ (within_setFlag ?_ ..) | apply Within.ite | apply wLN_GROUP_STAT | dsimp only | split)

theorem within_lanePark (wLN_CTLE : ∀ i, P (R.LN_CTLE i)) (wLN_GROUP_STAT : ∀ i, P (R.LN_GROUP_STAT i))
    (wLN_STATE : ∀ i, P (R.LN_STATE i)) (wLN_STATUS : P R.LN_STATUS) (wPM_DOM_STAT : P R.PM_DOM_STAT)
    (wTS_STATUS : P R.TS_STATUS) (lln : L .ln) (lraised : L .raised) (s : State) (n : Nat) (off : Bool) :
    Within P L s (State.lanePark s n off) := by
  unfold State.lanePark
  with_reducible
    repeat' (first
        | apply Within.refl | assumption | apply Within.trans _ (within_setLaneTx wLN_STATE ..)
        | apply Within.trans _ (within_setLaneRx wLN_GROUP_STAT wLN_STATE wLN_STATUS wTS_STATUS lln lraised ..)
        | apply Within.trans _ (within_setFlag ?_ ..) | apply Within.trans _ (within_put ?_ ..)
        | apply Within.trans _ (within_laneBit wLN_STATUS ..)
        | apply Within.trans _ (within_grpPower wLN_GROUP_STAT wPM_DOM_STAT ..) | apply Within.trans _ (within_setLane lln ..)
        | apply Within.ite | apply wLN_CTLE | apply wLN_STATE | dsimp only | split)

theorem within_askExit (lln : L .ln) (lpm : L .pm) (s : State) (g : Nat) : Within P L s (State.askExit s g) := by
  unfold State.askExit
  with_reducible
    repeat' (first
        | apply Within.refl | assumption | apply Within.trans _ (within_gustAsk lpm ..)
        | apply Within.trans _ (within_setGrp lln ..) | apply Within.ite | dsimp only | split)

theorem within_lanePower (wLN_CTLE : ∀ i, P (R.LN_CTLE i)) (wLN_GROUP_STAT : ∀ i, P (R.LN_GROUP_STAT i))
    (wLN_STATE : ∀ i, P (R.LN_STATE i)) (wLN_STATUS : P R.LN_STATUS) (wPM_DOM_STAT : P R.PM_DOM_STAT)
    (wTS_STATUS : P R.TS_STATUS) (lln : L .ln) (lpm : L .pm) (lraised : L .raised) (s : State) (n st : Nat) :
    Within P L s (State.lanePower s n st) := by
  unfold State.lanePower
  with_reducible
    repeat' (first
        | apply Within.refl | assumption | apply Within.trans _ (within_setLane lln ..)
        | apply Within.trans _ (within_lanePark wLN_CTLE wLN_GROUP_STAT wLN_STATE wLN_STATUS wPM_DOM_STAT wTS_STATUS lln lraised ..)
        | apply Within.trans _ (within_grpPower wLN_GROUP_STAT wPM_DOM_STAT ..) | apply Within.trans _ (within_askExit lln lpm ..)
        | apply Within.trans _ (within_raise lraised ..) | apply Within.trans _ (within_setLaneTx wLN_STATE ..)
        | apply Within.trans _ (within_setFlag ?_ ..)
        | apply Within.trans _ (within_setLaneRx wLN_GROUP_STAT wLN_STATE wLN_STATUS wTS_STATUS lln lraised ..) | apply Within.ite
        | apply wLN_STATE | dsimp only | split)

theorem within_startHunt (wLN_GROUP_STAT : ∀ i, P (R.LN_GROUP_STAT i)) (wLN_STATE : ∀ i, P (R.LN_STATE i))
    (wLN_STATUS : P R.LN_STATUS) (wTS_STATUS : P R.TS_STATUS) (lln : L .ln) (lraised : L .raised) (s : State) (n : Nat)
    (again : Bool) : Within P L s (State.startHunt s n again) := by
  unfold State.startHunt
  with_reducible
    repeat' (first
        | apply Within.refl | assumption | apply Within.trans _ (within_incWrap ?_ ..)
        | apply Within.trans _ (within_setLaneRx wLN_GROUP_STAT wLN_STATE wLN_STATUS wTS_STATUS lln lraised ..)
        | apply Within.trans _ (within_setFlag ?_ ..) | apply Within.trans _ (within_setLane lln ..)
        | apply Within.trans _ (within_showLink wLN_GROUP_STAT wLN_STATUS ..) | apply Within.trans _ (within_setGrp lln ..)
        | apply Within.ite | apply wLN_STATE | dsimp only | split)

theorem within_execHuntStart (wLN_GROUP_STAT : ∀ i, P (R.LN_GROUP_STAT i)) (wLN_STATE : ∀ i, P (R.LN_STATE i))
    (wLN_STATUS : P R.LN_STATUS) (wTS_STATUS : P R.TS_STATUS) (lln : L .ln) (lraised : L .raised) (n : Fin 16) (s : State) :
    WithinNext P L s (execHuntStart n s) := by
  unfold execHuntStart
  with_reducible
    repeat' (first
        | apply Within.refl | assumption
        | apply Within.trans _ (within_startHunt wLN_GROUP_STAT wLN_STATE wLN_STATUS wTS_STATUS lln lraised ..)
        | apply WithinNext.next | apply Within.ite | apply WithinNext.ite | dsimp only | apply Within.foldl
        | apply Within.foldlBy Prod.snd | apply Within.foldlBy Prod.fst | intro _ | split)

theorem within_execFecCodeword (wLN_FEC_CORR_CNT : ∀ i, P (R.LN_FEC_CORR_CNT i))
    (wLN_FEC_UNCORR_CNT : ∀ i, P (R.LN_FEC_UNCORR_CNT i)) (lln : L .ln) (lmarks : L .marks) (lraised : L .raised) (g : Fin 4)
    (errs : BitVec 10) (s : State) : WithinNext P L s (execFecCodeword g errs s) := by
  unfold execFecCodeword
  with_reducible
    repeat' (first
        | apply Within.refl | assumption | apply Within.trans _ (within_count lmarks ?_ ..)
        | apply Within.trans _ (within_raise lraised ..) | apply Within.trans _ (within_setGrp lln ..) | apply WithinNext.next
        | apply Within.ite | apply WithinNext.ite | apply wLN_FEC_CORR_CNT | apply wLN_FEC_UNCORR_CNT | dsimp only | split)

theorem within_patClear (wLN_PAT_BITS : ∀ i, P (R.LN_PAT_BITS i)) (wLN_PAT_BITS4 : ∀ i, P (R.LN_PAT_BITS i + 4))
    (wLN_PAT_ERR_CNT : ∀ i, P (R.LN_PAT_ERR_CNT i)) (wLN_PAT_STAT : ∀ i, P (R.LN_PAT_STAT i)) (s : State) (n : Nat) :
    Within P L s (State.patClear s n) := by
  unfold State.patClear
  with_reducible
    repeat' (first
        | apply Within.refl | assumption | apply Within.trans _ (within_setFlag ?_ ..) | apply Within.trans _ (within_put ?_ ..)
        | apply Within.trans _ (within_put64 ?_ ?_ ..) | apply Within.trans _ (within_wr ?_ ..) | apply Within.ite
        | apply wLN_PAT_BITS | apply wLN_PAT_BITS4 | apply wLN_PAT_ERR_CNT | apply wLN_PAT_STAT | dsimp only | split)

theorem within_patCount (wLN_PAT_BITS : ∀ i, P (R.LN_PAT_BITS i)) (wLN_PAT_BITS4 : ∀ i, P (R.LN_PAT_BITS i + 4))
    (wLN_PAT_ERR_CNT : ∀ i, P (R.LN_PAT_ERR_CNT i)) (wLN_PAT_STAT : ∀ i, P (R.LN_PAT_STAT i)) (lmarks : L .marks)
    (lraised : L .raised) (s : State) (n bits errs : Nat) : Within P L s (State.patCount s n bits errs) := by
  unfold State.patCount
  with_reducible
    repeat' (first
        | apply Within.refl | assumption | apply Within.trans _ (within_countN lmarks ?_ ..)
        | apply Within.trans _ (within_put64 ?_ ?_ ..) | apply Within.trans _ (within_raise lraised ..)
        | apply Within.trans _ (within_setFlag ?_ ..) | apply Within.ite | apply wLN_PAT_BITS | apply wLN_PAT_BITS4
        | apply wLN_PAT_ERR_CNT | apply wLN_PAT_STAT | dsimp only | split)

theorem within_execLnCntWrap (wLN_PAT_BITS : ∀ i, P (R.LN_PAT_BITS i)) (wLN_PAT_BITS4 : ∀ i, P (R.LN_PAT_BITS i + 4))
    (wLN_PAT_ERR_CNT : ∀ i, P (R.LN_PAT_ERR_CNT i)) (wLN_PAT_STAT : ∀ i, P (R.LN_PAT_STAT i)) (lmarks : L .marks)
    (lraised : L .raised) (n : Fin 16) (errs : BitVec 32) (s : State) : WithinNext P L s (execLnCntWrap n errs s) := by
  unfold execLnCntWrap
  with_reducible
    repeat' (first
        | apply Within.refl | assumption
        | apply Within.trans _ (within_patCount wLN_PAT_BITS wLN_PAT_BITS4 wLN_PAT_ERR_CNT wLN_PAT_STAT lmarks lraised ..)
        | apply WithinNext.when_ | apply WithinNext.next | apply Within.ite | apply WithinNext.ite | dsimp only | split)

theorem within_laneDown (wLN_GROUP_STAT : ∀ i, P (R.LN_GROUP_STAT i)) (wLN_STATE : ∀ i, P (R.LN_STATE i))
    (wLN_STATUS : P R.LN_STATUS) (wTS_STATUS : P R.TS_STATUS) (lln : L .ln) (lraised : L .raised) (s : State) (n cause : Nat) :
    Within P L s (State.laneDown s n cause) := by
  unfold State.laneDown
  with_reducible
    repeat' (first
        | apply Within.refl | assumption | apply Within.trans _ (within_raise lraised ..)
        | apply Within.trans _ (within_startHunt wLN_GROUP_STAT wLN_STATE wLN_STATUS wTS_STATUS lln lraised ..)
        | apply Within.trans _ (within_put ?_ ..) | apply Within.ite | apply wLN_STATE | dsimp only | split)

theorem within_deskewFail (wLN_GROUP_STAT : ∀ i, P (R.LN_GROUP_STAT i)) (wLN_STATE : ∀ i, P (R.LN_STATE i))
    (wLN_STATUS : P R.LN_STATUS) (wTS_STATUS : P R.TS_STATUS) (lln : L .ln) (lraised : L .raised) (s : State) (g : Nat) :
    Within P L s (State.deskewFail s g) := by
  unfold State.deskewFail
  with_reducible
    repeat' (first
        | apply Within.refl | assumption
        | apply Within.trans _ (within_laneDown wLN_GROUP_STAT wLN_STATE wLN_STATUS wTS_STATUS lln lraised ..)
        | apply Within.trans _ (within_setGrp lln ..) | apply Within.trans _ (within_raise lraised ..) | apply Within.ite
        | dsimp only | apply Within.foldl | apply Within.foldlBy Prod.snd | apply Within.foldlBy Prod.fst | intro _ | split)

theorem within_galeBlock (wLN_STUFF_ERR_CNT : ∀ i, P (R.LN_STUFF_ERR_CNT i)) (lln : L .ln) (lmarks : L .marks) (s : State)
    (n : Nat) (line : List Bool) : Within P L s (State.galeBlock s n line).1 := by
  unfold State.galeBlock
  with_reducible
    repeat' (first
        | apply Within.refl | assumption | apply Within.trans _ (within_countN lmarks ?_ ..)
        | apply Within.trans _ (within_setLane lln ..) | apply Within.ite | apply Within.ite_fst | apply wLN_STUFF_ERR_CNT
        | dsimp only | split)

theorem within_badHeader (wLN_HDR_ERR_CNT : ∀ i, P (R.LN_HDR_ERR_CNT i)) (lln : L .ln) (lmarks : L .marks) (s : State) (n : Nat)
    (b : GaleBlock) : Within P L s (State.badHeader s n b) := by
  unfold State.badHeader
  with_reducible
    repeat' (first
        | apply Within.refl | assumption | apply Within.trans _ (within_setLane lln ..)
        | apply Within.trans _ (within_count lmarks ?_ ..) | apply Within.ite | apply wLN_HDR_ERR_CNT | dsimp only | split)

theorem within_galeRow_by (wLN_HDR_ERR_CNT : ∀ i, P (R.LN_HDR_ERR_CNT i)) (wLN_STUFF_ERR_CNT : ∀ i, P (R.LN_STUFF_ERR_CNT i))
    (lln : L .ln) (lmarks : L .marks) (s : State) (n : Nat) (line : List Bool) (kind : GaleBlock → Bool)
    (act : State → GaleBlock → State) (h : ∀ t b, Within P L t (act t b)) : Within P L s (s.galeRow n line kind act) := by
  unfold State.galeRow
  apply Within.ite
  · exact .refl s
  · split
    · exact .refl s
    · rename_i t b e
      have k : Within P L s t := .fst_of e (within_galeBlock wLN_STUFF_ERR_CNT lln lmarks s n line)
      apply Within.ite
      · exact k.trans (within_badHeader wLN_HDR_ERR_CNT lln lmarks ..)
      · apply Within.ite
        · exact k.trans (h t b)
        · exact .refl s

theorem within_passed (lln : L .ln) (s : State) (n : Nat) (b : GaleBlock) : Within P L s (State.passed s n b) := by
  unfold State.passed
  with_reducible
    repeat' (first
        | apply Within.refl | assumption | apply Within.trans _ (within_setLane lln ..) | apply Within.ite | dsimp only | split)

theorem within_frameErrLn (wLN_FRAME_ERR_CNT : ∀ i, P (R.LN_FRAME_ERR_CNT i)) (lmarks : L .marks) (s : State) (g : Nat) :
    Within P L s (State.frameErrLn s g) := by
  unfold State.frameErrLn
  with_reducible
    repeat' (first
        | apply Within.refl | assumption | apply Within.trans _ (within_count lmarks ?_ ..) | apply Within.ite
        | apply wLN_FRAME_ERR_CNT | dsimp only | split)

theorem within_cutMsg (wLN_FRAME_ERR_CNT : ∀ i, P (R.LN_FRAME_ERR_CNT i)) (lln : L .ln) (lmarks : L .marks) (s : State)
    (g : Nat) : Within P L s (State.cutMsg s g) := by
  unfold State.cutMsg
  with_reducible
    repeat' (first
        | apply Within.refl | assumption | apply Within.trans _ (within_frameErrLn wLN_FRAME_ERR_CNT lmarks ..)
        | apply Within.trans _ (within_setGrp lln ..) | apply Within.ite | dsimp only | split)

theorem within_addBytes (lln : L .ln) (s : State) (g len : Nat) (l : List Byte) : Within P L s (State.addBytes s g len l) := by
  unfold State.addBytes
  with_reducible
    repeat' (first
        | apply Within.refl | assumption | apply Within.trans _ (within_setGrp lln ..) | apply Within.ite | dsimp only | split)

theorem within_execGaleSomBlock (wLN_FRAME_ERR_CNT : ∀ i, P (R.LN_FRAME_ERR_CNT i))
    (wLN_HDR_ERR_CNT : ∀ i, P (R.LN_HDR_ERR_CNT i)) (wLN_STUFF_ERR_CNT : ∀ i, P (R.LN_STUFF_ERR_CNT i)) (lln : L .ln)
    (lmarks : L .marks) (n : Fin 16) (line : List Bool) (s : State) : WithinNext P L s (execGaleSomBlock n line s) := by
  unfold execGaleSomBlock
  with_reducible
    repeat' (first
        | apply Within.refl | assumption
        | apply Within.trans _ (within_galeRow_by wLN_HDR_ERR_CNT wLN_STUFF_ERR_CNT lln lmarks _ _ _ _ _ ?_)
        | apply Within.trans _ (within_passed lln ..) | apply Within.trans _ (within_setGrp lln ..)
        | apply Within.trans _ (within_cutMsg wLN_FRAME_ERR_CNT lln lmarks ..)
        | apply Within.trans _ (within_frameErrLn wLN_FRAME_ERR_CNT lmarks ..) | apply Within.trans _ (within_addBytes lln ..)
        | apply WithinNext.next | apply Within.ite | apply WithinNext.ite | dsimp only | intro _ | split)

theorem within_grpSettle (wHI_CMP_LOST_CNT : ∀ i, P (R.HI_CMP_LOST_CNT i)) (wHI_CTX_STAT : ∀ i, P (R.HI_CTX_STAT i))
    (wHI_INFL_TOTAL : P R.HI_INFL_TOTAL) (wHI_RING_PROD : ∀ i, P (R.HI_RING_PROD i)) (lhi : L .hi) (lhy : L .hy)
    (llastCpl : L .lastCpl) (lln : L .ln) (lmarks : L .marks) (lmem : L .mem) (lraised : L .raised) (s : State) (g : Nat) :
    Within P L s (State.grpSettle s g) := by
  unfold State.grpSettle
  with_reducible
    repeat' (first
        | apply Within.refl | assumption | apply Within.trans _ (within_setGrp lln ..)
        | apply Within.trans _ (within_finish wHI_CMP_LOST_CNT wHI_CTX_STAT wHI_INFL_TOTAL wHI_RING_PROD lhi lhy llastCpl lmarks lmem ..)
        | apply Within.trans _ (within_raise lraised ..) | apply Within.ite | dsimp only | split)

theorem within_laneStart (wLN_CTLE : ∀ i, P (R.LN_CTLE i)) (wLN_GROUP_STAT : ∀ i, P (R.LN_GROUP_STAT i))
    (wLN_STATE : ∀ i, P (R.LN_STATE i)) (wLN_STATUS : P R.LN_STATUS) (wTS_STATUS : P R.TS_STATUS) (lln : L .ln)
    (lraised : L .raised) (s : State) (n : Nat) : Within P L s (State.laneStart s n) := by
  unfold State.laneStart
  with_reducible
    repeat' (first
        | apply Within.refl | assumption | apply Within.trans _ (within_setLane lln ..)
        | apply Within.trans _ (within_setFlag ?_ ..) | apply Within.trans _ (within_setLaneTx wLN_STATE ..)
        | apply Within.trans _ (within_put ?_ ..)
        | apply Within.trans _ (within_setLaneRx wLN_GROUP_STAT wLN_STATE wLN_STATUS wTS_STATUS lln lraised ..)
        | apply Within.trans _ (within_startHunt wLN_GROUP_STAT wLN_STATE wLN_STATUS wTS_STATUS lln lraised ..) | apply Within.ite
        | apply wLN_CTLE | apply wLN_GROUP_STAT | dsimp only | split)

theorem within_execLanePowerExitDone (wHI_CMP_LOST_CNT : ∀ i, P (R.HI_CMP_LOST_CNT i)) (wHI_CTX_STAT : ∀ i, P (R.HI_CTX_STAT i))
    (wHI_INFL_TOTAL : P R.HI_INFL_TOTAL) (wHI_RING_PROD : ∀ i, P (R.HI_RING_PROD i)) (wLN_CTLE : ∀ i, P (R.LN_CTLE i))
    (wLN_GROUP_STAT : ∀ i, P (R.LN_GROUP_STAT i)) (wLN_STATE : ∀ i, P (R.LN_STATE i)) (wLN_STATUS : P R.LN_STATUS)
    (wTS_STATUS : P R.TS_STATUS) (lhi : L .hi) (lhy : L .hy) (llastCpl : L .lastCpl) (lln : L .ln) (lmarks : L .marks)
    (lmem : L .mem) (lpm : L .pm) (lraised : L .raised) (n : Fin 16) (s : State) :
    WithinNext P L s (execLanePowerExitDone n s) := by
  unfold execLanePowerExitDone
  with_reducible
    repeat' (first
        | apply Within.refl | assumption | apply Within.trans _ (within_setGrp lln ..)
        | apply Within.trans _ (within_setLaneTx wLN_STATE ..)
        | apply Within.trans _ (within_setLaneRx wLN_GROUP_STAT wLN_STATE wLN_STATUS wTS_STATUS lln lraised ..)
        | apply Within.trans _ (within_setLane lln ..)
        | apply Within.trans _ (within_grpSettle wHI_CMP_LOST_CNT wHI_CTX_STAT wHI_INFL_TOTAL wHI_RING_PROD lhi lhy llastCpl lln lmarks lmem lraised ..)
        | apply Within.trans _ (within_laneStart wLN_CTLE wLN_GROUP_STAT wLN_STATE wLN_STATUS wTS_STATUS lln lraised ..)
        | apply Within.trans _ (within_raise lraised ..)
        | apply Within.trans _ (within_startHunt wLN_GROUP_STAT wLN_STATE wLN_STATUS wTS_STATUS lln lraised ..)
        | apply Within.trans _ (within_gustTake lpm _ _ _ (by assumption)) | apply WithinNext.next | apply Within.ite
        | apply WithinNext.ite | dsimp only | split)
  all_goals
    rename_i t e
    split at e
    · cases e; exact .refl s
    · obtain ⟨u, hu, rfl⟩ := Option.map_eq_some_iff.mp e
      exact (within_gustTake lpm s _ _ hu).trans (within_setGrp lln ..)

theorem within_lanesDown (wLN_GROUP_STAT : ∀ i, P (R.LN_GROUP_STAT i)) (wLN_STATE : ∀ i, P (R.LN_STATE i))
    (wLN_STATUS : P R.LN_STATUS) (wTS_STATUS : P R.TS_STATUS) (lln : L .ln) (lraised : L .raised) (s : State) (n cause : Nat) :
    Within P L s (State.lanesDown s n cause) := by
  unfold State.lanesDown
  with_reducible
    repeat' (first
        | apply Within.refl | assumption
        | apply Within.trans _ (within_laneDown wLN_GROUP_STAT wLN_STATE wLN_STATUS wTS_STATUS lln lraised ..) | apply Within.ite
        | dsimp only | apply Within.foldl | apply Within.foldlBy Prod.snd | apply Within.foldlBy Prod.fst | intro _ | split)

theorem within_execBlockLockLost (wLN_GROUP_STAT : ∀ i, P (R.LN_GROUP_STAT i)) (wLN_HDR_ERR_CNT : ∀ i, P (R.LN_HDR_ERR_CNT i))
    (wLN_LOCK_LOSS_CNT : ∀ i, P (R.LN_LOCK_LOSS_CNT i)) (wLN_STATE : ∀ i, P (R.LN_STATE i)) (wLN_STATUS : P R.LN_STATUS)
    (wTS_STATUS : P R.TS_STATUS) (lln : L .ln) (lmarks : L .marks) (lraised : L .raised) (n : Fin 16) (bad : BitVec 16)
    (s : State) : WithinNext P L s (execBlockLockLost n bad s) := by
  unfold execBlockLockLost
  with_reducible
    repeat' (first
        | apply Within.refl | assumption | apply Within.trans _ (within_countN lmarks ?_ ..)
        | apply Within.trans _ (within_setFlag ?_ ..) | apply Within.trans _ (within_count lmarks ?_ ..)
        | apply Within.trans _ (within_lanesDown wLN_GROUP_STAT wLN_STATE wLN_STATUS wTS_STATUS lln lraised ..)
        | apply WithinNext.next | apply Within.ite | apply WithinNext.ite | apply wLN_HDR_ERR_CNT | apply wLN_LOCK_LOSS_CNT
        | apply wLN_STATE | dsimp only | split)

theorem within_execHuntWindowExpiry (wLN_GROUP_STAT : ∀ i, P (R.LN_GROUP_STAT i)) (wLN_STATE : ∀ i, P (R.LN_STATE i))
    (wLN_STATUS : P R.LN_STATUS) (wTS_STATUS : P R.TS_STATUS) (lln : L .ln) (lraised : L .raised) (n : Fin 16) (s : State) :
    WithinNext P L s (execHuntWindowExpiry n s) := by
  unfold execHuntWindowExpiry
  with_reducible
    repeat' (first
        | apply Within.refl | assumption | apply Within.trans _ (within_setFlag ?_ ..)
        | apply Within.trans _ (within_setLaneRx wLN_GROUP_STAT wLN_STATE wLN_STATUS wTS_STATUS lln lraised ..)
        | apply Within.trans _ (within_raise lraised ..) | apply WithinNext.next | apply Within.ite | apply WithinNext.ite
        | apply wLN_STATE | dsimp only | apply Within.foldl | apply Within.foldlBy Prod.snd | apply Within.foldlBy Prod.fst
        | intro _ | split)

theorem within_execGaleAlignSend (lln : L .ln) (n : Fin 16) (s : State) : WithinNext P L s (execGaleAlignSend n s) := by
  unfold execGaleAlignSend
  with_reducible
    repeat' (first
        | apply Within.refl | assumption | apply Within.trans _ (within_setLane lln ..) | apply WithinNext.next | apply Within.ite
        | apply WithinNext.ite | dsimp only | split)

theorem within_execSignalPresent (wLN_STATE : ∀ i, P (R.LN_STATE i)) (wLN_STATUS : P R.LN_STATUS) (n : Fin 16) (s : State) :
    WithinNext P L s (execSignalPresent n s) := by
  unfold execSignalPresent
  with_reducible
    repeat' (first
        | apply Within.refl | assumption | apply Within.trans _ (within_laneBit wLN_STATUS ..)
        | apply Within.trans _ (within_setFlag ?_ ..) | apply WithinNext.when_ | apply WithinNext.next | apply Within.ite
        | apply WithinNext.ite | apply wLN_STATE | dsimp only | split)

theorem within_execGaleIdleBlock (wLN_FRAME_ERR_CNT : ∀ i, P (R.LN_FRAME_ERR_CNT i))
    (wLN_HDR_ERR_CNT : ∀ i, P (R.LN_HDR_ERR_CNT i)) (wLN_STUFF_ERR_CNT : ∀ i, P (R.LN_STUFF_ERR_CNT i)) (lln : L .ln)
    (lmarks : L .marks) (n : Fin 16) (line : List Bool) (s : State) : WithinNext P L s (execGaleIdleBlock n line s) := by
  unfold execGaleIdleBlock
  with_reducible
    repeat' (first
        | apply Within.refl | assumption
        | apply Within.trans _ (within_galeRow_by wLN_HDR_ERR_CNT wLN_STUFF_ERR_CNT lln lmarks _ _ _ _ _ ?_)
        | apply Within.trans _ (within_passed lln ..) | apply Within.trans _ (within_setGrp lln ..)
        | apply Within.trans _ (within_cutMsg wLN_FRAME_ERR_CNT lln lmarks ..) | apply WithinNext.next | apply Within.ite
        | apply WithinNext.ite | dsimp only | intro _ | split)

theorem within_groupApply (wHI_CMP_LOST_CNT : ∀ i, P (R.HI_CMP_LOST_CNT i)) (wHI_CTX_STAT : ∀ i, P (R.HI_CTX_STAT i))
    (wHI_INFL_TOTAL : P R.HI_INFL_TOTAL) (wHI_RING_PROD : ∀ i, P (R.HI_RING_PROD i)) (wLN_CTLE : ∀ i, P (R.LN_CTLE i))
    (wLN_GROUP_CFG : ∀ i, P (R.LN_GROUP_CFG i)) (wLN_GROUP_STAT : ∀ i, P (R.LN_GROUP_STAT i))
    (wLN_STATE : ∀ i, P (R.LN_STATE i)) (wLN_STATUS : P R.LN_STATUS) (wPM_DOM_STAT : P R.PM_DOM_STAT)
    (wTS_STATUS : P R.TS_STATUS) (lhi : L .hi) (lhy : L .hy) (llastCpl : L .lastCpl) (lln : L .ln) (lmarks : L .marks)
    (lmem : L .mem) (lpm : L .pm) (lraised : L .raised) (s : State) (g : Nat) (cfg : Word) :
    Within P L s (State.groupApply s g cfg) := by
  unfold State.groupApply
  with_reducible
    repeat' (first
        | apply Within.refl | assumption
        | apply Within.trans _ (within_lanePark wLN_CTLE wLN_GROUP_STAT wLN_STATE wLN_STATUS wPM_DOM_STAT wTS_STATUS lln lraised ..)
        | apply Within.trans _ (within_put ?_ ..) | apply Within.trans _ (within_wr ?_ ..)
        | apply Within.trans _ (within_setGrp lln ..)
        | apply Within.trans _ (within_lanePower wLN_CTLE wLN_GROUP_STAT wLN_STATE wLN_STATUS wPM_DOM_STAT wTS_STATUS lln lpm lraised ..)
        | apply Within.trans _ (within_grpSettle wHI_CMP_LOST_CNT wHI_CTX_STAT wHI_INFL_TOTAL wHI_RING_PROD lhi lhy llastCpl lln lmarks lmem lraised ..)
        | apply Within.ite | apply wLN_GROUP_CFG | apply wLN_GROUP_STAT | dsimp only | apply Within.foldl
        | apply Within.foldlBy Prod.snd | apply Within.foldlBy Prod.fst | intro _ | split)

theorem within_execHighBer (wLN_GROUP_STAT : ∀ i, P (R.LN_GROUP_STAT i)) (wLN_STATE : ∀ i, P (R.LN_STATE i))
    (wLN_STATUS : P R.LN_STATUS) (wTS_STATUS : P R.TS_STATUS) (lln : L .ln) (lraised : L .raised) (g : Fin 4) (s : State) :
    WithinNext P L s (execHighBer g s) := by
  unfold execHighBer
  with_reducible
    repeat' (first
        | apply Within.refl | assumption
        | apply Within.trans _ (within_lanesDown wLN_GROUP_STAT wLN_STATE wLN_STATUS wTS_STATUS lln lraised ..)
        | apply Within.trans _ (within_raise lraised ..) | apply WithinNext.when_ | apply WithinNext.next | apply Within.ite
        | apply WithinNext.ite | dsimp only | split)

theorem within_streamBlock (lln : L .ln) (s : State) (n hdr p : Nat) : Within P L s (State.streamBlock s n hdr p) := by
  unfold State.streamBlock
  with_reducible
    repeat' (first
        | apply Within.refl | assumption | apply Within.trans _ (within_setLane lln ..) | apply Within.ite | dsimp only | split)

theorem within_laneUp (wLN_GROUP_STAT : ∀ i, P (R.LN_GROUP_STAT i)) (wLN_STATE : ∀ i, P (R.LN_STATE i))
    (wLN_STATUS : P R.LN_STATUS) (wTS_STATUS : P R.TS_STATUS) (lln : L .ln) (lraised : L .raised) (s : State) (n : Nat) :
    Within P L s (State.laneUp s n) := by
  unfold State.laneUp
  with_reducible
    repeat' (first
        | apply Within.refl | assumption | apply Within.trans _ (within_raise lraised ..)
        | apply Within.trans _ (within_setLaneRx wLN_GROUP_STAT wLN_STATE wLN_STATUS wTS_STATUS lln lraised ..) | apply Within.ite
        | dsimp only | split)

theorem within_galeUp (wLN_GROUP_STAT : ∀ i, P (R.LN_GROUP_STAT i)) (wLN_STATE : ∀ i, P (R.LN_STATE i))
    (wLN_STATUS : P R.LN_STATUS) (wTS_STATUS : P R.TS_STATUS) (lln : L .ln) (lraised : L .raised) (s : State) (g : Nat) :
    Within P L s (State.galeUp s g) := by
  unfold State.galeUp
  with_reducible
    repeat' (first
        | apply Within.refl | assumption
        | apply Within.trans _ (within_laneUp wLN_GROUP_STAT wLN_STATE wLN_STATUS wTS_STATUS lln lraised ..)
        | apply Within.trans _ (within_setLane lln ..) | apply Within.ite | dsimp only | apply Within.foldl
        | apply Within.foldlBy Prod.snd | apply Within.foldlBy Prod.fst | intro _ | split)

theorem within_execGaleSyncBlock (wLN_GROUP_STAT : ∀ i, P (R.LN_GROUP_STAT i)) (wLN_HDR_ERR_CNT : ∀ i, P (R.LN_HDR_ERR_CNT i))
    (wLN_RESYNC_CNT : ∀ i, P (R.LN_RESYNC_CNT i)) (wLN_STATE : ∀ i, P (R.LN_STATE i)) (wLN_STATUS : P R.LN_STATUS)
    (wLN_STUFF_ERR_CNT : ∀ i, P (R.LN_STUFF_ERR_CNT i)) (wTS_STATUS : P R.TS_STATUS) (lln : L .ln) (lmarks : L .marks)
    (lraised : L .raised) (n : Fin 16) (line : List Bool) (s : State) : WithinNext P L s (execGaleSyncBlock n line s) := by
  unfold execGaleSyncBlock
  with_reducible
    repeat' (first
        | apply Within.refl | assumption
        | apply Within.trans _ (within_galeRow_by wLN_HDR_ERR_CNT wLN_STUFF_ERR_CNT lln lmarks _ _ _ _ _ ?_)
        | apply Within.trans _ (within_count lmarks ?_ ..) | apply Within.trans _ (within_setLane lln ..)
        | apply Within.trans _ (within_galeUp wLN_GROUP_STAT wLN_STATE wLN_STATUS wTS_STATUS lln lraised ..)
        | apply WithinNext.next | apply Within.ite | apply WithinNext.ite | apply wLN_RESYNC_CNT | dsimp only | intro _ | split)

theorem within_execGaleAbortBlock (wLN_FRAME_ERR_CNT : ∀ i, P (R.LN_FRAME_ERR_CNT i))
    (wLN_HDR_ERR_CNT : ∀ i, P (R.LN_HDR_ERR_CNT i)) (wLN_STUFF_ERR_CNT : ∀ i, P (R.LN_STUFF_ERR_CNT i)) (lln : L .ln)
    (lmarks : L .marks) (n : Fin 16) (line : List Bool) (s : State) : WithinNext P L s (execGaleAbortBlock n line s) := by
  unfold execGaleAbortBlock
  with_reducible
    repeat' (first
        | apply Within.refl | assumption
        | apply Within.trans _ (within_galeRow_by wLN_HDR_ERR_CNT wLN_STUFF_ERR_CNT lln lmarks _ _ _ _ _ ?_)
        | apply Within.trans _ (within_passed lln ..) | apply Within.trans _ (within_cutMsg wLN_FRAME_ERR_CNT lln lmarks ..)
        | apply WithinNext.next | apply Within.ite | apply WithinNext.ite | dsimp only | intro _ | split)

theorem within_ctleNow (wLN_CTLE : ∀ i, P (R.LN_CTLE i)) (s : State) (n peak eye : Nat) :
    Within P L s (State.ctleNow s n peak eye) := by
  unfold State.ctleNow
  with_reducible
    repeat' (first
        | apply Within.refl | assumption | apply Within.trans _ (within_put ?_ ..) | apply Within.trans _ (within_setFlag ?_ ..)
        | apply Within.ite | apply wLN_CTLE | dsimp only | split)

theorem within_execCdrLock (wLN_CTLE : ∀ i, P (R.LN_CTLE i)) (wLN_STATE : ∀ i, P (R.LN_STATE i)) (n : Fin 16) (peak : Fin 21)
    (eye : BitVec 8) (s : State) : WithinNext P L s (execCdrLock n peak eye s) := by
  unfold execCdrLock
  with_reducible
    repeat' (first
        | apply Within.refl | assumption | apply Within.trans _ (within_ctleNow wLN_CTLE ..)
        | apply Within.trans _ (within_setFlag ?_ ..) | apply WithinNext.when_ | apply WithinNext.next | apply Within.ite
        | apply WithinNext.ite | apply wLN_STATE | dsimp only | split)

theorem within_execLnPatStatClr (wLN_PAT_BITS : ∀ i, P (R.LN_PAT_BITS i)) (wLN_PAT_BITS4 : ∀ i, P (R.LN_PAT_BITS i + 4))
    (wLN_PAT_ERR_CNT : ∀ i, P (R.LN_PAT_ERR_CNT i)) (wLN_PAT_STAT : ∀ i, P (R.LN_PAT_STAT i)) (n : Fin 16) (s : State) :
    WithinNext P L s (execLnPatStatClr n s) := by
  unfold execLnPatStatClr
  with_reducible
    repeat' (first
        | apply Within.refl | assumption
        | apply Within.trans _ (within_patClear wLN_PAT_BITS wLN_PAT_BITS4 wLN_PAT_ERR_CNT wLN_PAT_STAT ..)
        | apply WithinNext.next | apply Within.ite | apply WithinNext.ite | dsimp only | split)

theorem within_execGroupChangeApply (wHI_CMP_LOST_CNT : ∀ i, P (R.HI_CMP_LOST_CNT i)) (wHI_CTX_STAT : ∀ i, P (R.HI_CTX_STAT i))
    (wHI_INFL_TOTAL : P R.HI_INFL_TOTAL) (wHI_RING_PROD : ∀ i, P (R.HI_RING_PROD i)) (wLN_CTLE : ∀ i, P (R.LN_CTLE i))
    (wLN_GROUP_CFG : ∀ i, P (R.LN_GROUP_CFG i)) (wLN_GROUP_STAT : ∀ i, P (R.LN_GROUP_STAT i))
    (wLN_STATE : ∀ i, P (R.LN_STATE i)) (wLN_STATUS : P R.LN_STATUS) (wPM_DOM_STAT : P R.PM_DOM_STAT)
    (wTS_STATUS : P R.TS_STATUS) (lhi : L .hi) (lhy : L .hy) (llastCpl : L .lastCpl) (lln : L .ln) (lmarks : L .marks)
    (lmem : L .mem) (lpm : L .pm) (lraised : L .raised) (g : Fin 4) (s : State) :
    WithinNext P L s (execGroupChangeApply g s) := by
  unfold execGroupChangeApply
  with_reducible
    repeat' (first
        | apply Within.refl | assumption
        | apply Within.trans _ (within_groupApply wHI_CMP_LOST_CNT wHI_CTX_STAT wHI_INFL_TOTAL wHI_RING_PROD wLN_CTLE wLN_GROUP_CFG wLN_GROUP_STAT wLN_STATE wLN_STATUS wPM_DOM_STAT wTS_STATUS lhi lhy llastCpl lln lmarks lmem lpm lraised ..)
        | apply Within.trans _ (within_setGrp lln ..) | apply WithinNext.next | apply Within.ite | apply WithinNext.ite
        | dsimp only | split)

theorem within_execGaleSyncSend (lln : L .ln) (n : Fin 16) (s : State) : WithinNext P L s (execGaleSyncSend n s) := by
  unfold execGaleSyncSend
  with_reducible
    repeat' (first
        | apply Within.refl | assumption | apply Within.trans _ (within_setLane lln ..) | apply WithinNext.next | apply Within.ite
        | apply WithinNext.ite | dsimp only | split)

theorem within_execGaleDataBlock (wLN_FRAME_ERR_CNT : ∀ i, P (R.LN_FRAME_ERR_CNT i))
    (wLN_HDR_ERR_CNT : ∀ i, P (R.LN_HDR_ERR_CNT i)) (wLN_STUFF_ERR_CNT : ∀ i, P (R.LN_STUFF_ERR_CNT i)) (lln : L .ln)
    (lmarks : L .marks) (n : Fin 16) (line : List Bool) (s : State) : WithinNext P L s (execGaleDataBlock n line s) := by
  unfold execGaleDataBlock
  with_reducible
    repeat' (first
        | apply Within.refl | assumption
        | apply Within.trans _ (within_galeRow_by wLN_HDR_ERR_CNT wLN_STUFF_ERR_CNT lln lmarks _ _ _ _ _ ?_)
        | apply Within.trans _ (within_passed lln ..) | apply Within.trans _ (within_addBytes lln ..)
        | apply Within.trans _ (within_setGrp lln ..) | apply Within.trans _ (within_frameErrLn wLN_FRAME_ERR_CNT lmarks ..)
        | apply WithinNext.next | apply Within.ite | apply WithinNext.ite | dsimp only | intro _ | split)

theorem within_execPatternSync (wLN_PAT_STAT : ∀ i, P (R.LN_PAT_STAT i)) (lraised : L .raised) (n : Fin 16) (s : State) :
    WithinNext P L s (execPatternSync n s) := by
  unfold execPatternSync
  with_reducible
    repeat' (first
        | apply Within.refl | assumption | apply Within.trans _ (within_raise lraised ..)
        | apply Within.trans _ (within_setFlag ?_ ..) | apply WithinNext.when_ | apply WithinNext.next | apply Within.ite
        | apply WithinNext.ite | apply wLN_PAT_STAT | dsimp only | split)

theorem within_execBlockLockGained (wLN_GROUP_STAT : ∀ i, P (R.LN_GROUP_STAT i)) (wLN_STATE : ∀ i, P (R.LN_STATE i))
    (wLN_STATUS : P R.LN_STATUS) (wTS_STATUS : P R.TS_STATUS) (lln : L .ln) (lraised : L .raised) (n : Fin 16) (s : State) :
    WithinNext P L s (execBlockLockGained n s) := by
  unfold execBlockLockGained
  with_reducible
    repeat' (first
        | apply Within.refl | assumption | apply Within.trans _ (within_setFlag ?_ ..)
        | apply Within.trans _ (within_setLaneRx wLN_GROUP_STAT wLN_STATE wLN_STATUS wTS_STATUS lln lraised ..)
        | apply WithinNext.next | apply Within.ite | apply WithinNext.ite | apply wLN_STATE | dsimp only | apply Within.foldl
        | apply Within.foldlBy Prod.snd | apply Within.foldlBy Prod.fst | intro _ | split)

theorem within_execLanePllUnlock (wLN_GROUP_STAT : ∀ i, P (R.LN_GROUP_STAT i)) (wLN_STATE : ∀ i, P (R.LN_STATE i))
    (wLN_STATUS : P R.LN_STATUS) (wTS_STATUS : P R.TS_STATUS) (lfree : L .free) (lln : L .ln) (lraised : L .raised) (g : Fin 4)
    (s : State) : WithinNext P L s (execLanePllUnlock g s) := by
  unfold execLanePllUnlock
  with_reducible
    repeat' (first
        | apply Within.refl | assumption | apply Within.trans _ (within_fresh lfree ..)
        | apply Within.trans _ (within_raise lraised ..) | apply Within.trans _ (within_setFlag ?_ ..)
        | apply Within.trans _ (within_laneDown wLN_GROUP_STAT wLN_STATE wLN_STATUS wTS_STATUS lln lraised ..)
        | apply WithinNext.next | apply Within.ite | apply WithinNext.ite | apply wLN_GROUP_STAT | dsimp only | apply Within.foldl
        | apply Within.foldlBy Prod.snd | apply Within.foldlBy Prod.fst | intro _ | split | apply Within.snd_of (by assumption))

theorem within_execLanePllLock (wLN_GROUP_STAT : ∀ i, P (R.LN_GROUP_STAT i)) (g : Fin 4) (s : State) :
    WithinNext P L s (execLanePllLock g s) := by
  unfold execLanePllLock
  with_reducible
    repeat' (first
        | apply Within.refl | assumption | apply Within.trans _ (within_setFlag ?_ ..) | apply WithinNext.when_
        | apply WithinNext.next | apply Within.ite | apply WithinNext.ite | apply wLN_GROUP_STAT | dsimp only | split)

theorem within_execCdrLockLoss (wLN_GROUP_STAT : ∀ i, P (R.LN_GROUP_STAT i)) (wLN_STATE : ∀ i, P (R.LN_STATE i))
    (wLN_STATUS : P R.LN_STATUS) (wTS_STATUS : P R.TS_STATUS) (lln : L .ln) (lraised : L .raised) (n : Fin 16) (s : State) :
    WithinNext P L s (execCdrLockLoss n s) := by
  unfold execCdrLockLoss
  with_reducible
    repeat' (first
        | apply Within.refl | assumption
        | apply Within.trans _ (within_lanesDown wLN_GROUP_STAT wLN_STATE wLN_STATUS wTS_STATUS lln lraised ..)
        | apply Within.trans _ (within_setFlag ?_ ..) | apply WithinNext.when_ | apply WithinNext.next | apply Within.ite
        | apply WithinNext.ite | apply wLN_STATE | dsimp only | split)

theorem within_execCtleLimitTimeout (wLN_CTLE : ∀ i, P (R.LN_CTLE i)) (lraised : L .raised) (n : Fin 16) (high : Bool)
    (s : State) : WithinNext P L s (execCtleLimitTimeout n high s) := by
  unfold execCtleLimitTimeout
  with_reducible
    repeat' (first
        | apply Within.refl | assumption | apply Within.trans _ (within_raise lraised ..)
        | apply Within.trans _ (within_setFlag ?_ ..) | apply Within.trans _ (within_put ?_ ..) | apply WithinNext.next
        | apply Within.ite | apply WithinNext.ite | apply wLN_CTLE | dsimp only | split)

theorem within_galeMsg (lln : L .ln) (s : State) (g : Nat) (b : List Byte) : Within P L s (State.galeMsg s g b) := by
  unfold State.galeMsg
  with_reducible
    repeat' (first
        | apply Within.refl | assumption | apply Within.trans _ (within_setLane lln ..)
        | apply Within.trans _ (within_streamBlock lln ..) | apply Within.ite | dsimp only | apply Within.foldl
        | apply Within.foldlBy Prod.snd | apply Within.foldlBy Prod.fst | intro _ | split)

theorem within_execGaleAlignBlock (wLN_GROUP_STAT : ∀ i, P (R.LN_GROUP_STAT i)) (wLN_HDR_ERR_CNT : ∀ i, P (R.LN_HDR_ERR_CNT i))
    (wLN_STATE : ∀ i, P (R.LN_STATE i)) (wLN_STATUS : P R.LN_STATUS) (wLN_STUFF_ERR_CNT : ∀ i, P (R.LN_STUFF_ERR_CNT i))
    (wTS_STATUS : P R.TS_STATUS) (lln : L .ln) (lmarks : L .marks) (lraised : L .raised) (n : Fin 16) (line : List Bool)
    (skew : BitVec 8) (s : State) : WithinNext P L s (execGaleAlignBlock n line skew s) := by
  unfold execGaleAlignBlock
  with_reducible
    repeat' (first
        | apply Within.refl | assumption
        | apply Within.trans _ (within_galeRow_by wLN_HDR_ERR_CNT wLN_STUFF_ERR_CNT lln lmarks _ _ _ _ _ ?_)
        | apply Within.trans _ (within_passed lln ..) | apply Within.trans _ (within_put ?_ ..)
        | apply Within.trans _ (within_setLane lln ..)
        | apply Within.trans _ (within_deskewFail wLN_GROUP_STAT wLN_STATE wLN_STATUS wTS_STATUS lln lraised ..)
        | apply Within.trans _ (within_galeUp wLN_GROUP_STAT wLN_STATE wLN_STATUS wTS_STATUS lln lraised ..)
        | apply WithinNext.next | apply Within.ite | apply WithinNext.ite | apply wLN_GROUP_STAT | apply wLN_STATE | dsimp only
        | intro _ | split)

theorem within_execPatternSyncLoss (wLN_PAT_BITS : ∀ i, P (R.LN_PAT_BITS i)) (wLN_PAT_BITS4 : ∀ i, P (R.LN_PAT_BITS i + 4))
    (wLN_PAT_ERR_CNT : ∀ i, P (R.LN_PAT_ERR_CNT i)) (wLN_PAT_STAT : ∀ i, P (R.LN_PAT_STAT i)) (lmarks : L .marks)
    (lraised : L .raised) (n : Fin 16) (bits : BitVec 48) (errs : BitVec 32) (s : State) :
    WithinNext P L s (execPatternSyncLoss n bits errs s) := by
  unfold execPatternSyncLoss
  with_reducible
    repeat' (first
        | apply Within.refl | assumption | apply Within.trans _ (within_setFlag ?_ ..)
        | apply Within.trans _ (within_patCount wLN_PAT_BITS wLN_PAT_BITS4 wLN_PAT_ERR_CNT wLN_PAT_STAT lmarks lraised ..)
        | apply Within.trans _ (within_raise lraised ..) | apply Within.trans _ (within_incSat ?_ ..) | apply WithinNext.next
        | apply Within.ite | apply WithinNext.ite | apply wLN_PAT_STAT | dsimp only | split)

theorem within_execLosDeclared (wLN_GROUP_STAT : ∀ i, P (R.LN_GROUP_STAT i)) (wLN_LOS_CNT : ∀ i, P (R.LN_LOS_CNT i))
    (wLN_STATE : ∀ i, P (R.LN_STATE i)) (wLN_STATUS : P R.LN_STATUS) (wTS_STATUS : P R.TS_STATUS) (lln : L .ln)
    (lmarks : L .marks) (lraised : L .raised) (n : Fin 16) (s : State) : WithinNext P L s (execLosDeclared n s) := by
  unfold execLosDeclared
  with_reducible
    repeat' (first
        | apply Within.refl | assumption | apply Within.trans _ (within_laneBit wLN_STATUS ..)
        | apply Within.trans _ (within_setFlag ?_ ..) | apply Within.trans _ (within_count lmarks ?_ ..)
        | apply Within.trans _ (within_lanesDown wLN_GROUP_STAT wLN_STATE wLN_STATUS wTS_STATUS lln lraised ..)
        | apply WithinNext.next | apply Within.ite | apply WithinNext.ite | apply wLN_LOS_CNT | apply wLN_STATE | dsimp only
        | split)

theorem within_execAlignmentMarkerLock (wLN_GROUP_STAT : ∀ i, P (R.LN_GROUP_STAT i)) (wLN_STATE : ∀ i, P (R.LN_STATE i))
    (wLN_STATUS : P R.LN_STATUS) (wTS_STATUS : P R.TS_STATUS) (lln : L .ln) (lraised : L .raised) (n : Fin 16) (s : State) :
    WithinNext P L s (execAlignmentMarkerLock n s) := by
  unfold execAlignmentMarkerLock
  with_reducible
    repeat' (first
        | apply Within.refl | assumption | apply Within.trans _ (within_setLane lln ..)
        | apply Within.trans _ (within_laneUp wLN_GROUP_STAT wLN_STATE wLN_STATUS wTS_STATUS lln lraised ..)
        | apply WithinNext.next | apply Within.ite | apply WithinNext.ite | dsimp only | apply Within.foldl
        | apply Within.foldlBy Prod.snd | apply Within.foldlBy Prod.fst | intro _ | split)

end Sys2Proof.Machine
end

