-- ==== Sys2Proof/Laws/Within4.lean ====
section
/-! SUPPORT. What the operations and the commands of these files leave alone: Machine/Ports, Packets, Array, Service, Leases, Attach. -/

namespace Sys2Proof.Machine

variable {P : Nat → Prop} {L : Part → Prop}

/-! ### Machine/Ports -/

theorem within_drop (wFH_DROP_CNT : ∀ i j, P (R.FH_DROP_CNT i j)) (lfh : L .fh) (lmarks : L .marks) (lraised : L .raised)
    (s : State) (g k : Nat) : Within P L s (State.drop s g k) := by
  unfold State.drop
  with_reducible
    repeat' (first
        | apply Within.refl | assumption | apply Within.trans _ (within_count lmarks ?_ ..)
        | apply Within.trans _ (within_raise lraised ..) | simp only [↓Within.upd_fh lfh] | apply Within.ite | apply wFH_DROP_CNT
        | dsimp only | split)

theorem within_txQueue (wFH_DROP_CNT : ∀ i j, P (R.FH_DROP_CNT i j)) (lfh : L .fh) (lmarks : L .marks) (lraised : L .raised)
    (s : State) (f : TxFrame) : Within P L s (State.txQueue s f) := by
  unfold State.txQueue
  with_reducible
    repeat' (first
        | apply Within.refl | assumption | apply Within.trans _ (within_drop wFH_DROP_CNT lfh lmarks lraised ..)
        | simp only [↓Within.upd_fh lfh] | apply Within.ite | dsimp only | split)

theorem within_execDelayRequest (wFH_DROP_CNT : ∀ i j, P (R.FH_DROP_CNT i j)) (lfh : L .fh) (lmarks : L .marks)
    (lraised : L .raised) (g : Fin 4) (id : BitVec 8) (t2 : BitVec 32) (s : State) :
    WithinNext P L s (execDelayRequest g id t2 s) := by
  unfold execDelayRequest
  with_reducible
    repeat' (first
        | apply Within.refl | assumption | apply Within.trans _ (within_txQueue wFH_DROP_CNT lfh lmarks lraised ..)
        | apply WithinNext.when_ | apply WithinNext.next | apply Within.ite | apply WithinNext.ite | dsimp only | split)

theorem within_expire (wFH_DROP_CNT : ∀ i j, P (R.FH_DROP_CNT i j)) (lfh : L .fh) (lmarks : L .marks) (lraised : L .raised)
    (s : State) (g cls slot k : Nat) (d : Int) : Within P L s (State.expire s g cls slot k d) := by
  unfold State.expire
  with_reducible
    repeat' (first
        | apply Within.refl | assumption | apply Within.trans _ (within_drop wFH_DROP_CNT lfh lmarks lraised ..)
        | simp only [↓Within.upd_fh lfh] | apply Within.ite | dsimp only | apply Within.foldl | apply Within.foldlBy Prod.snd
        | apply Within.foldlBy Prod.fst | intro _ | split)

theorem within_frameCount (wFH_PORT_STAT : ∀ i, P (R.FH_PORT_STAT i)) (wFH_RX_FRAMES : ∀ i, P (R.FH_RX_FRAMES i))
    (wFH_RX_FRAMES4 : ∀ i, P (R.FH_RX_FRAMES i + 4)) (wFH_TX_FRAMES : ∀ i, P (R.FH_TX_FRAMES i))
    (wFH_TX_FRAMES4 : ∀ i, P (R.FH_TX_FRAMES i + 4)) (lmarks : L .marks) (lraised : L .raised) (s : State) (g : Nat) (tx : Bool)
    : Within P L s (State.frameCount s g tx) := by
  unfold State.frameCount
  with_reducible
    repeat' (first
        | apply Within.refl | assumption | apply Within.trans _ (within_count48_by ?_ ?_ _ _ ?_)
        | apply Within.trans _ (within_raise lraised ..) | apply Within.trans _ (within_stickFlag lmarks ?_ ..) | apply Within.ite
        | apply wFH_PORT_STAT | apply wFH_RX_FRAMES | apply wFH_RX_FRAMES4 | apply wFH_TX_FRAMES | apply wFH_TX_FRAMES4
        | dsimp only | intro _ | split)

theorem within_launch (wFH_FLOW : ∀ i j, P (R.FH_FLOW i j)) (wFH_PORT_STAT : ∀ i, P (R.FH_PORT_STAT i))
    (wFH_RX_FRAMES : ∀ i, P (R.FH_RX_FRAMES i)) (wFH_RX_FRAMES4 : ∀ i, P (R.FH_RX_FRAMES i + 4))
    (wFH_TX_FRAMES : ∀ i, P (R.FH_TX_FRAMES i)) (wFH_TX_FRAMES4 : ∀ i, P (R.FH_TX_FRAMES i + 4)) (lfh : L .fh) (lln : L .ln)
    (lmarks : L .marks) (lraised : L .raised) (s : State) (f : TxFrame) : Within P L s (State.launch s f) := by
  unfold State.launch
  with_reducible
    repeat' (first
        | apply Within.refl | assumption | apply Within.trans _ (within_galeMsg lln ..)
        | apply Within.trans _ (within_frameCount wFH_PORT_STAT wFH_RX_FRAMES wFH_RX_FRAMES4 wFH_TX_FRAMES wFH_TX_FRAMES4 lmarks lraised ..)
        | apply Within.trans _ (within_incWrap ?_ ..) | simp only [↓Within.upd_fh lfh] | apply Within.ite | apply wFH_FLOW
        | dsimp only | split)

theorem within_delayStart (wFH_DROP_CNT : ∀ i j, P (R.FH_DROP_CNT i j)) (lfh : L .fh) (lmarks : L .marks) (lraised : L .raised)
    (s : State) (g id : Nat) (ctx : Option Nat) : Within P L s (State.delayStart s g id ctx) := by
  unfold State.delayStart
  with_reducible
    repeat' (first
        | apply Within.refl | assumption | apply Within.trans _ (within_txQueue wFH_DROP_CNT lfh lmarks lraised ..)
        | simp only [↓Within.upd_fh lfh] | apply Within.ite | dsimp only | split)

theorem within_raiseFrame (lfh : L .fh) (lraised : L .raised) (s : State) (e n : Nat) (owner : Option Nat) (items : List Nat) :
    Within P L s (State.raiseFrame s e n owner items) := by
  unfold State.raiseFrame
  with_reducible
    repeat' (first
        | apply Within.refl | assumption | apply Within.trans _ (within_raiseTo lraised ..) | simp only [↓Within.upd_fh lfh]
        | apply Within.ite | dsimp only | split)

theorem within_forward (wFH_DROP_CNT : ∀ i j, P (R.FH_DROP_CNT i j)) (lfh : L .fh) (lmarks : L .marks) (lraised : L .raised)
    (s : State) (g out : Nat) (f : EthFrame) : Within P L s (State.forward s g out f) := by
  unfold State.forward
  with_reducible
    repeat' (first
        | apply Within.refl | assumption | apply Within.trans _ (within_txQueue wFH_DROP_CNT lfh lmarks lraised ..)
        | apply Within.trans _ (within_raiseFrame lfh lraised ..) | simp only [↓Within.upd_fh lfh] | apply Within.ite | dsimp only
        | split)

theorem within_rxQueue (wFH_DROP_CNT : ∀ i j, P (R.FH_DROP_CNT i j)) (lfh : L .fh) (lmarks : L .marks) (lraised : L .raised)
    (s : State) (f : RxFrame) : Within P L s (State.rxQueue s f) := by
  unfold State.rxQueue
  with_reducible
    repeat' (first
        | apply Within.refl | assumption | apply Within.trans _ (within_drop wFH_DROP_CNT lfh lmarks lraised ..)
        | simp only [↓Within.upd_fh lfh] | apply Within.ite | dsimp only | split)

theorem within_classify (wFH_DROP_CNT : ∀ i j, P (R.FH_DROP_CNT i j)) (lfh : L .fh) (lmarks : L .marks) (lraised : L .raised)
    (s : State) (g : Nat) (f : EthFrame) : Within P L s (State.classify s g f) := by
  unfold State.classify
  with_reducible
    repeat' (first
        | apply Within.refl | assumption | apply Within.trans _ (within_forward wFH_DROP_CNT lfh lmarks lraised ..)
        | apply Within.trans _ (within_drop wFH_DROP_CNT lfh lmarks lraised ..)
        | apply Within.trans _ (within_rxQueue wFH_DROP_CNT lfh lmarks lraised ..) | apply Within.ite | dsimp only | split)

theorem within_execEthernetFrame (wFH_DROP_CNT : ∀ i j, P (R.FH_DROP_CNT i j)) (wFH_PORT_STAT : ∀ i, P (R.FH_PORT_STAT i))
    (wFH_RX_FRAMES : ∀ i, P (R.FH_RX_FRAMES i)) (wFH_RX_FRAMES4 : ∀ i, P (R.FH_RX_FRAMES i + 4))
    (wFH_TX_FRAMES : ∀ i, P (R.FH_TX_FRAMES i)) (wFH_TX_FRAMES4 : ∀ i, P (R.FH_TX_FRAMES i + 4)) (lfh : L .fh)
    (lmarks : L .marks) (lraised : L .raised) (g : Fin 4) (f : EthFrame) (s : State) :
    WithinNext P L s (execEthernetFrame g f s) := by
  unfold execEthernetFrame
  with_reducible
    repeat' (first
        | apply Within.refl | assumption | apply Within.trans _ (within_classify wFH_DROP_CNT lfh lmarks lraised ..)
        | apply Within.trans _ (within_frameCount wFH_PORT_STAT wFH_RX_FRAMES wFH_RX_FRAMES4 wFH_TX_FRAMES wFH_TX_FRAMES4 lmarks lraised ..)
        | apply Within.trans _ (within_drop wFH_DROP_CNT lfh lmarks lraised ..)
        | apply Within.trans _ (within_forward wFH_DROP_CNT lfh lmarks lraised ..) | apply WithinNext.next | apply Within.ite
        | apply WithinNext.ite | dsimp only | split)

theorem within_rxTake (lfh : L .fh) (s : State) (g : Nat) (p : FrameKind → Bool) : Within P L s (State.rxTake s g p) := by
  unfold State.rxTake
  with_reducible
    repeat' (first
        | apply Within.refl | assumption | simp only [↓Within.upd_fh lfh] | apply Within.ite | dsimp only | split)

theorem within_execArpOrNdFrame (wFH_DROP_CNT : ∀ i j, P (R.FH_DROP_CNT i j)) (lfh : L .fh) (lmarks : L .marks)
    (lraised : L .raised) (g : Fin 4) (len : BitVec 14) (s : State) : WithinNext P L s (execArpOrNdFrame g len s) := by
  unfold execArpOrNdFrame
  with_reducible
    repeat' (first
        | apply Within.refl | assumption | apply Within.trans _ (within_txQueue wFH_DROP_CNT lfh lmarks lraised ..)
        | apply Within.trans _ (within_rxTake lfh ..) | apply WithinNext.next | apply Within.ite | apply WithinNext.ite
        | dsimp only | split)

theorem within_execFirmLaunchExpiry (wFH_DROP_CNT : ∀ i j, P (R.FH_DROP_CNT i j)) (lfh : L .fh) (lmarks : L .marks)
    (lraised : L .raised) (g : Fin 4) (slot : Fin 4096) (k : Fin 14) (s : State) :
    WithinNext P L s (execFirmLaunchExpiry g slot k s) := by
  unfold execFirmLaunchExpiry
  with_reducible
    repeat' (first
        | apply Within.refl | assumption | apply Within.trans _ (within_expire wFH_DROP_CNT lfh lmarks lraised ..)
        | apply WithinNext.next | apply Within.ite | apply WithinNext.ite | dsimp only | split)

theorem within_execEgressFrameStart (wFH_FLOW : ∀ i j, P (R.FH_FLOW i j)) (wFH_PORT_STAT : ∀ i, P (R.FH_PORT_STAT i))
    (wFH_RX_FRAMES : ∀ i, P (R.FH_RX_FRAMES i)) (wFH_RX_FRAMES4 : ∀ i, P (R.FH_RX_FRAMES i + 4))
    (wFH_TX_FRAMES : ∀ i, P (R.FH_TX_FRAMES i)) (wFH_TX_FRAMES4 : ∀ i, P (R.FH_TX_FRAMES i + 4)) (lfh : L .fh) (lln : L .ln)
    (lmarks : L .marks) (lraised : L .raised) (g : Fin 4) (s : State) : WithinNext P L s (execEgressFrameStart g s) := by
  unfold execEgressFrameStart
  with_reducible
    repeat' (first
        | apply Within.refl | assumption
        | apply Within.trans _ (within_launch wFH_FLOW wFH_PORT_STAT wFH_RX_FRAMES wFH_RX_FRAMES4 wFH_TX_FRAMES wFH_TX_FRAMES4 lfh lln lmarks lraised ..)
        | apply WithinNext.next | apply Within.ite | apply WithinNext.ite | dsimp only | split)

theorem within_execOtherIpFrame (lfh : L .fh) (g : Fin 4) (s : State) : WithinNext P L s (execOtherIpFrame g s) := by
  unfold execOtherIpFrame
  with_reducible
    repeat' (first
        | apply Within.refl | assumption | apply Within.trans _ (within_rxTake lfh ..) | apply WithinNext.next | apply Within.ite
        | apply WithinNext.ite | dsimp only | split)

theorem within_execFhCntWrap (wFH_PORT_STAT : ∀ i, P (R.FH_PORT_STAT i)) (wFH_RX_FRAMES : ∀ i, P (R.FH_RX_FRAMES i))
    (wFH_RX_FRAMES4 : ∀ i, P (R.FH_RX_FRAMES i + 4)) (wFH_TX_FRAMES : ∀ i, P (R.FH_TX_FRAMES i))
    (wFH_TX_FRAMES4 : ∀ i, P (R.FH_TX_FRAMES i + 4)) (lmarks : L .marks) (lraised : L .raised) (g : Fin 4) (tx : Bool)
    (s : State) : WithinNext P L s (execFhCntWrap g tx s) := by
  unfold execFhCntWrap
  with_reducible
    repeat' (first
        | apply Within.refl | assumption
        | apply Within.trans _ (within_frameCount wFH_PORT_STAT wFH_RX_FRAMES wFH_RX_FRAMES4 wFH_TX_FRAMES wFH_TX_FRAMES4 lmarks lraised ..)
        | apply WithinNext.when_ | apply WithinNext.next | apply Within.ite | apply WithinNext.ite | dsimp only | split)

theorem within_execDelayResponse (wHI_CMP_LOST_CNT : ∀ i, P (R.HI_CMP_LOST_CNT i)) (wHI_CTX_STAT : ∀ i, P (R.HI_CTX_STAT i))
    (wHI_INFL_TOTAL : P R.HI_INFL_TOTAL) (wHI_RING_PROD : ∀ i, P (R.HI_RING_PROD i)) (lfh : L .fh) (lhi : L .hi) (lhy : L .hy)
    (llastCpl : L .lastCpl) (lmarks : L .marks) (lmem : L .mem) (lraised : L .raised) (g : Fin 4) (id : BitVec 8)
    (t2 comp : BitVec 32) (s : State) : WithinNext P L s (execDelayResponse g id t2 comp s) := by
  unfold execDelayResponse
  with_reducible
    repeat' (first
        | apply Within.refl | assumption
        | apply Within.trans _ (within_finish wHI_CMP_LOST_CNT wHI_CTX_STAT wHI_INFL_TOTAL wHI_RING_PROD lhi lhy llastCpl lmarks lmem ..)
        | apply Within.trans _ (within_raiseTo lraised ..) | apply WithinNext.next | simp only [↓Within.upd_fh lfh]
        | apply Within.ite | apply WithinNext.ite | dsimp only | split)

theorem within_execHardLaunchExpiry (wFH_DROP_CNT : ∀ i j, P (R.FH_DROP_CNT i j)) (lfh : L .fh) (lmarks : L .marks)
    (lraised : L .raised) (g : Fin 4) (slot : Fin 4096) (k : Fin 14) (s : State) :
    WithinNext P L s (execHardLaunchExpiry g slot k s) := by
  unfold execHardLaunchExpiry
  with_reducible
    repeat' (first
        | apply Within.refl | assumption | apply Within.trans _ (within_raise lraised ..)
        | apply Within.trans _ (within_expire wFH_DROP_CNT lfh lmarks lraised ..) | apply WithinNext.next | apply Within.ite
        | apply WithinNext.ite | dsimp only | split)

theorem within_execRemoteDelayRequest (wFH_DROP_CNT : ∀ i j, P (R.FH_DROP_CNT i j)) (lfh : L .fh) (lmarks : L .marks)
    (lraised : L .raised) (g : Fin 4) (id : BitVec 8) (s : State) : WithinNext P L s (execRemoteDelayRequest g id s) := by
  unfold execRemoteDelayRequest
  with_reducible
    repeat' (first
        | apply Within.refl | assumption | apply Within.trans _ (within_delayStart wFH_DROP_CNT lfh lmarks lraised ..)
        | apply WithinNext.when_ | apply WithinNext.next | apply Within.ite | apply WithinNext.ite | dsimp only | split)

theorem within_execHardLaunch (wFH_FLOW : ∀ i j, P (R.FH_FLOW i j)) (wFH_PORT_STAT : ∀ i, P (R.FH_PORT_STAT i))
    (wFH_RX_FRAMES : ∀ i, P (R.FH_RX_FRAMES i)) (wFH_RX_FRAMES4 : ∀ i, P (R.FH_RX_FRAMES i + 4))
    (wFH_TX_FRAMES : ∀ i, P (R.FH_TX_FRAMES i)) (wFH_TX_FRAMES4 : ∀ i, P (R.FH_TX_FRAMES i + 4)) (lfh : L .fh) (lln : L .ln)
    (lmarks : L .marks) (lraised : L .raised) (g : Fin 4) (slot : Fin 4096) (k : Fin 14) (n : Nat) (s : State) :
    WithinNext P L s (execHardLaunch g slot k n s) := by
  unfold execHardLaunch
  with_reducible
    repeat' (first
        | apply Within.refl | assumption
        | apply Within.trans _ (within_launch wFH_FLOW wFH_PORT_STAT wFH_RX_FRAMES wFH_RX_FRAMES4 wFH_TX_FRAMES wFH_TX_FRAMES4 lfh lln lmarks lraised ..)
        | apply WithinNext.next | apply Within.ite | apply WithinNext.ite | dsimp only | apply Within.foldl
        | apply Within.foldlBy Prod.snd | apply Within.foldlBy Prod.fst | intro _ | split)

/-! ### Machine/Packets -/

theorem within_offWindow (wFH_DROP_CNT : ∀ i j, P (R.FH_DROP_CNT i j)) (wFH_FLOW : ∀ i j, P (R.FH_FLOW i j)) (lfh : L .fh)
    (lmarks : L .marks) (lraised : L .raised) (s : State) (g f : Nat) (late : Bool) (stamp : Nat) :
    Within P L s (State.offWindow s g f late stamp) := by
  unfold State.offWindow
  with_reducible
    repeat' (first
        | apply Within.refl | assumption | apply Within.trans _ (within_raiseFrame lfh lraised ..)
        | apply Within.trans _ (within_incSat ?_ ..) | apply Within.trans _ (within_drop wFH_DROP_CNT lfh lmarks lraised ..)
        | apply Within.ite | apply wFH_FLOW | dsimp only | split)

theorem within_showSects (wFH_SECT_USED : ∀ i, P (R.FH_SECT_USED i)) (s : State) : Within P L s (State.showSects s) := by
  unfold State.showSects
  with_reducible
    repeat' (first
        | apply Within.refl | assumption | apply Within.trans _ (within_put ?_ ..) | apply Within.ite | apply wFH_SECT_USED
        | dsimp only | apply Within.foldl | apply Within.foldlBy Prod.snd | apply Within.foldlBy Prod.fst | intro _ | split)

theorem within_flowEnd (wFH_SECT_USED : ∀ i, P (R.FH_SECT_USED i)) (lfh : L .fh) (lraised : L .raised) (s : State) (f : Nat) :
    Within P L s (State.flowEnd s f) := by
  unfold State.flowEnd
  with_reducible
    repeat' (first
        | apply Within.refl | assumption | apply Within.trans _ (within_raiseTo lraised ..)
        | apply Within.trans _ (within_showSects wFH_SECT_USED ..) | simp only [↓Within.upd_fh lfh] | apply Within.ite
        | dsimp only | split)

theorem within_showResv (wFH_RESV : ∀ i, P (R.FH_RESV i)) (lfree : L .free) (s : State) : Within P L s (State.showResv s) := by
  unfold State.showResv
  with_reducible
    repeat' (first
        | apply Within.refl | assumption | apply Within.trans _ (within_divFree lfree ..)
        | apply Within.trans _ (within_put ?_ ..) | apply Within.ite | apply wFH_RESV | dsimp only | apply Within.foldl
        | apply Within.foldlBy Prod.snd | apply Within.foldlBy Prod.fst | intro _ | split | apply Within.snd_of (by assumption))

theorem within_sectReplace (lfh : L .fh) (s : State) (f id : Nat) : Within P L s (State.sectReplace s f id) := by
  unfold State.sectReplace
  with_reducible
    repeat' (first
        | apply Within.refl | assumption | simp only [↓Within.upd_fh lfh] | apply Within.ite | dsimp only | split)

theorem within_sectPurge (wFH_SECT_USED : ∀ i, P (R.FH_SECT_USED i)) (lfh : L .fh) (s : State) :
    Within P L s (State.sectPurge s) := by
  unfold State.sectPurge
  with_reducible
    repeat' (first
        | apply Within.refl | assumption | apply Within.trans _ (within_showSects wFH_SECT_USED ..)
        | simp only [↓Within.upd_fh lfh] | apply Within.ite | dsimp only | split)

theorem within_weightComp (lfree : L .free) (s : State) (wfmt : Bool) (meth width exp : Nat) (m : BitVec 16) :
    Within P L s (State.weightComp s wfmt meth width exp m).2 := by
  unfold State.weightComp
  with_reducible
    repeat' (first
        | apply Within.refl | assumption | apply Within.trans _ (within_divFree lfree ..) | apply Within.ite
        | apply Within.ite_snd | dsimp only | split | apply Within.snd_of (by assumption))

theorem within_weightCells (lfree : L .free) (s : State) (c : Nat) (wfmt : Bool) (meth width exp : Nat)
    (w : List (BitVec 16 × BitVec 16)) : Within P L s (State.weightCells s c wfmt meth width exp w).2 := by
  unfold State.weightCells
  with_reducible
    repeat' (first
        | apply Within.refl | assumption | apply Within.trans _ (within_weightComp lfree ..) | apply Within.ite
        | apply Within.ite_snd | dsimp only | apply Within.foldl | apply Within.foldlBy Prod.snd | apply Within.foldlBy Prod.fst
        | intro _ | split | apply Within.snd_of (by assumption))

theorem within_bindWeights (wBF_LEASE_DROP_CNT : ∀ i, P (R.BF_LEASE_DROP_CNT i))
    (wBF_POOL_FULL_CNT : ∀ i, P (R.BF_POOL_FULL_CNT i)) (wBF_REGION_STAT : ∀ i, P (R.BF_REGION_STAT i))
    (wBF_WEIGHT_LATE_CNT : ∀ i, P (R.BF_WEIGHT_LATE_CNT i)) (lbf : L .bf) (lfree : L .free) (lmarks : L .marks) (lmem : L .mem)
    (lraised : L .raised) (s : State) (c owner : Nat) (ul : Bool) (stamp f beam meth width exp : Nat)
    (w : List (BitVec 16 × BitVec 16)) : Within P L s (State.bindWeights s c owner ul stamp f beam meth width exp w).1 := by
  unfold State.bindWeights
  with_reducible
    repeat' (first
        | apply Within.refl | assumption | apply Within.trans _ (within_dropSection wBF_LEASE_DROP_CNT lbf lmarks lraised ..)
        | apply Within.trans _ (within_weightCells lfree ..) | apply Within.trans _ (within_raiseOnce lbf lraised ..)
        | apply Within.trans _ (within_count lmarks ?_ ..) | apply Within.trans _ (within_raiseTo lraised ..)
        | apply Within.trans _ (within_poolBind wBF_REGION_STAT lbf lmem _ _ _ _ (by assumption)) | apply Within.ite
        | apply Within.ite_fst | apply wBF_POOL_FULL_CNT | apply wBF_WEIGHT_LATE_CNT | dsimp only | split
        | apply Within.snd_of (by assumption))

theorem within_cSection (wBF_LEASE_DROP_CNT : ∀ i, P (R.BF_LEASE_DROP_CNT i))
    (wBF_POOL_FULL_CNT : ∀ i, P (R.BF_POOL_FULL_CNT i)) (wBF_REGION_STAT : ∀ i, P (R.BF_REGION_STAT i))
    (wBF_WEIGHT_LATE_CNT : ∀ i, P (R.BF_WEIGHT_LATE_CNT i)) (wFH_DROP_CNT : ∀ i j, P (R.FH_DROP_CNT i j))
    (wFH_FLOW : ∀ i j, P (R.FH_FLOW i j)) (wFH_SECT_USED : ∀ i, P (R.FH_SECT_USED i)) (lbf : L .bf) (lfh : L .fh)
    (lfree : L .free) (lmarks : L .marks) (lmem : L .mem) (lraised : L .raised) (s : State) (g f : Nat) (m : CMsg) (stamp : Nat)
    (x : CSection) : Within P L s (State.cSection s g f m stamp x) := by
  unfold State.cSection
  with_reducible
    repeat' (first
        | apply Within.refl | assumption | apply Within.trans _ (within_drop wFH_DROP_CNT lfh lmarks lraised ..)
        | apply Within.trans _ (within_offWindow wFH_DROP_CNT wFH_FLOW lfh lmarks lraised ..)
        | apply Within.trans _ (within_sectReplace lfh ..) | apply Within.trans _ (within_sectPurge wFH_SECT_USED lfh ..)
        | apply Within.trans _ (within_raiseFrame lfh lraised ..)
        | apply Within.trans _ (within_bindWeights wBF_LEASE_DROP_CNT wBF_POOL_FULL_CNT wBF_REGION_STAT wBF_WEIGHT_LATE_CNT lbf lfree lmarks lmem lraised ..)
        | apply Within.trans _ (within_showSects wFH_SECT_USED ..) | simp only [↓Within.upd_fh lfh] | apply Within.ite
        | dsimp only | split | apply Within.fst_of (by assumption))

theorem within_flowSeq (wFH_FLOW : ∀ i j, P (R.FH_FLOW i j)) (lfh : L .fh) (lraised : L .raised) (s : State) (f seq : Nat) :
    Within P L s (State.flowSeq s f seq) := by
  unfold State.flowSeq
  with_reducible
    repeat' (first
        | apply Within.refl | assumption | apply Within.trans _ (within_put ?_ ..)
        | apply Within.trans _ (within_raiseFrame lfh lraised ..) | apply Within.ite | apply wFH_FLOW | dsimp only | split)

theorem within_cPlaneAt (wBF_LEASE_DROP_CNT : ∀ i, P (R.BF_LEASE_DROP_CNT i))
    (wBF_POOL_FULL_CNT : ∀ i, P (R.BF_POOL_FULL_CNT i)) (wBF_REGION_STAT : ∀ i, P (R.BF_REGION_STAT i))
    (wBF_WEIGHT_LATE_CNT : ∀ i, P (R.BF_WEIGHT_LATE_CNT i)) (wFH_DROP_CNT : ∀ i j, P (R.FH_DROP_CNT i j))
    (wFH_FLOW : ∀ i j, P (R.FH_FLOW i j)) (wFH_SECT_USED : ∀ i, P (R.FH_SECT_USED i)) (lbf : L .bf) (lfh : L .fh)
    (lfree : L .free) (lmarks : L .marks) (lmem : L .mem) (lraised : L .raised) (s : State) (g : Nat) (m : CMsg) (f : Nat)
    (y4 : Option Nat) : WithinNext P L s (State.cPlaneAt s g m f y4) := by
  unfold State.cPlaneAt
  with_reducible
    repeat' (first
        | apply Within.refl | assumption | apply Within.trans _ (within_drop wFH_DROP_CNT lfh lmarks lraised ..)
        | apply Within.trans _ (within_cSection wBF_LEASE_DROP_CNT wBF_POOL_FULL_CNT wBF_REGION_STAT wBF_WEIGHT_LATE_CNT wFH_DROP_CNT wFH_FLOW wFH_SECT_USED lbf lfh lfree lmarks lmem lraised ..)
        | apply Within.trans _ (within_flowSeq wFH_FLOW lfh lraised ..) | apply WithinNext.next | apply Within.ite
        | apply WithinNext.ite | dsimp only | apply Within.foldl | apply Within.foldlBy Prod.snd | apply Within.foldlBy Prod.fst
        | intro _ | split)

theorem within_cPlaneOf (wBF_LEASE_DROP_CNT : ∀ i, P (R.BF_LEASE_DROP_CNT i))
    (wBF_POOL_FULL_CNT : ∀ i, P (R.BF_POOL_FULL_CNT i)) (wBF_REGION_STAT : ∀ i, P (R.BF_REGION_STAT i))
    (wBF_WEIGHT_LATE_CNT : ∀ i, P (R.BF_WEIGHT_LATE_CNT i)) (wFH_DROP_CNT : ∀ i j, P (R.FH_DROP_CNT i j))
    (wFH_FLOW : ∀ i j, P (R.FH_FLOW i j)) (wFH_SECT_USED : ∀ i, P (R.FH_SECT_USED i)) (lbf : L .bf) (lfh : L .fh)
    (lfree : L .free) (lmarks : L .marks) (lmem : L .mem) (lraised : L .raised) (s : State) (g : Nat) (m : CMsg)
    (y3 : Option Nat) : WithinNext P L s (State.cPlaneOf s g m y3) := by
  unfold State.cPlaneOf
  with_reducible
    repeat' (first
        | apply Within.refl | assumption | apply Within.trans _ (within_drop wFH_DROP_CNT lfh lmarks lraised ..)
        | apply within_cPlaneAt wBF_LEASE_DROP_CNT wBF_POOL_FULL_CNT wBF_REGION_STAT wBF_WEIGHT_LATE_CNT wFH_DROP_CNT wFH_FLOW wFH_SECT_USED lbf lfh lfree lmarks lmem lraised
        | apply WithinNext.next | apply Within.ite | apply WithinNext.ite | dsimp only | split)

theorem within_execCPlaneMessage (wBF_LEASE_DROP_CNT : ∀ i, P (R.BF_LEASE_DROP_CNT i))
    (wBF_POOL_FULL_CNT : ∀ i, P (R.BF_POOL_FULL_CNT i)) (wBF_REGION_STAT : ∀ i, P (R.BF_REGION_STAT i))
    (wBF_WEIGHT_LATE_CNT : ∀ i, P (R.BF_WEIGHT_LATE_CNT i)) (wFH_DROP_CNT : ∀ i j, P (R.FH_DROP_CNT i j))
    (wFH_FLOW : ∀ i j, P (R.FH_FLOW i j)) (wFH_SECT_USED : ∀ i, P (R.FH_SECT_USED i)) (lbf : L .bf) (lfh : L .fh)
    (lfree : L .free) (lmarks : L .marks) (lmem : L .mem) (lraised : L .raised) (g : Fin 4) (m : CMsg) (s : State) :
    WithinNext P L s (execCPlaneMessage g m s) := by
  unfold execCPlaneMessage
  with_reducible
    repeat' (first
        | apply Within.refl | assumption | apply Within.trans _ (within_drop wFH_DROP_CNT lfh lmarks lraised ..)
        | apply within_cPlaneOf wBF_LEASE_DROP_CNT wBF_POOL_FULL_CNT wBF_REGION_STAT wBF_WEIGHT_LATE_CNT wFH_DROP_CNT wFH_FLOW wFH_SECT_USED lbf lfh lfree lmarks lmem lraised
        | apply WithinNext.next | apply Within.ite | apply WithinNext.ite | dsimp only | split)

theorem within_dlWindow_by (wFH_DROP_CNT : ∀ i j, P (R.FH_DROP_CNT i j)) (wFH_FLOW : ∀ i j, P (R.FH_FLOW i j)) (lfh : L .fh)
    (lmarks : L .marks) (lraised : L .raised) (s : State) (g f stamp age1 age2 : Nat) (ok : State → State)
    (h : ∀ t, Within P L t (ok t)) : Within P L s (s.dlWindow g f stamp age1 age2 ok) := by
  unfold State.dlWindow
  with_reducible
    repeat' (first | apply Within.trans _ (within_offWindow wFH_DROP_CNT wFH_FLOW lfh lmarks lraised ..) | exact h _ | apply Within.refl | apply Within.ite)

theorem within_storePut (lfh : L .fh) (s : State) (k : Cell) : Within P L s (State.storePut s k) := by
  unfold State.storePut
  with_reducible
    repeat' (first
        | apply Within.refl | assumption | simp only [↓Within.upd_fh lfh] | apply Within.ite | dsimp only | split)

theorem within_decompSat (lfh : L .fh) (lraised : L .raised) (s : State) (f stamp : Nat) :
    Within P L s (State.decompSat s f stamp) := by
  unfold State.decompSat
  with_reducible
    repeat' (first
        | apply Within.refl | assumption | apply Within.trans _ (within_raiseTo lraised ..) | simp only [↓Within.upd_fh lfh]
        | apply Within.ite | dsimp only | split)

theorem within_place (lfh : L .fh) (lraised : L .raised) (s : State) (f stamp sect prb meth w i : Nat) (data : List Byte) :
    Within P L s (State.place s f stamp sect prb meth w i data) := by
  unfold State.place
  with_reducible
    repeat' (first
        | apply Within.refl | assumption | apply Within.trans _ (within_storePut lfh ..)
        | apply Within.trans _ (within_decompSat lfh lraised ..) | apply Within.ite | dsimp only | split)

theorem within_uSection (wFH_DROP_CNT : ∀ i j, P (R.FH_DROP_CNT i j)) (wFH_FLOW : ∀ i j, P (R.FH_FLOW i j)) (lfh : L .fh)
    (lmarks : L .marks) (lraised : L .raised) (s : State) (g f : Nat) (m : UMsg) (stamp : Nat) (x : USection) :
    Within P L s (State.uSection s g f m stamp x) := by
  unfold State.uSection
  with_reducible
    repeat' (first
        | apply Within.refl | assumption | apply Within.trans _ (within_drop wFH_DROP_CNT lfh lmarks lraised ..)
        | apply Within.trans _ (within_dlWindow_by wFH_DROP_CNT wFH_FLOW lfh lmarks lraised _ _ _ _ _ _ _ ?_)
        | apply Within.trans _ (within_place lfh lraised ..) | apply Within.trans _ (within_raiseFrame lfh lraised ..)
        | apply Within.trans _ (within_incSat ?_ ..) | apply Within.ite | apply wFH_FLOW | dsimp only | apply Within.foldl
        | apply Within.foldlBy Prod.snd | apply Within.foldlBy Prod.fst | intro _ | split)

theorem within_uSections (wFH_DROP_CNT : ∀ i j, P (R.FH_DROP_CNT i j)) (wFH_FLOW : ∀ i j, P (R.FH_FLOW i j)) (lfh : L .fh)
    (lmarks : L .marks) (lraised : L .raised) (s : State) (g f : Nat) (m : UMsg) (stamp : Nat) (l : List USection) :
    Within P L s (s.uSections g f m stamp l) := by
  induction l generalizing s stamp with
  | nil => exact .refl s
  | cons x l ih => exact (within_uSection wFH_DROP_CNT wFH_FLOW lfh lmarks lraised ..).trans (ih _ _)

theorem within_uPlaneAt (wFH_DROP_CNT : ∀ i j, P (R.FH_DROP_CNT i j)) (wFH_FLOW : ∀ i j, P (R.FH_FLOW i j))
    (wFH_SECT_USED : ∀ i, P (R.FH_SECT_USED i)) (lfh : L .fh) (lmarks : L .marks) (lraised : L .raised) (s : State) (g : Nat)
    (m : UMsg) (f : Nat) (y4 : Option Nat) : WithinNext P L s (State.uPlaneAt s g m f y4) := by
  unfold State.uPlaneAt
  with_reducible
    repeat' (first
        | apply Within.refl | assumption | apply Within.trans _ (within_drop wFH_DROP_CNT lfh lmarks lraised ..)
        | apply Within.trans _ (within_uSections wFH_DROP_CNT wFH_FLOW lfh lmarks lraised ..)
        | apply Within.trans _ (within_flowSeq wFH_FLOW lfh lraised ..)
        | apply Within.trans _ (within_sectPurge wFH_SECT_USED lfh ..)
        | apply Within.trans _ (within_dlWindow_by wFH_DROP_CNT wFH_FLOW lfh lmarks lraised _ _ _ _ _ _ _ ?_)
        | apply Within.trans _ (within_place lfh lraised ..) | apply WithinNext.next | apply Within.ite | apply WithinNext.ite
        | dsimp only | apply Within.foldl | apply Within.foldlBy Prod.snd | apply Within.foldlBy Prod.fst | intro _ | split)

theorem within_uPlaneOf (wFH_DROP_CNT : ∀ i j, P (R.FH_DROP_CNT i j)) (wFH_FLOW : ∀ i j, P (R.FH_FLOW i j))
    (wFH_SECT_USED : ∀ i, P (R.FH_SECT_USED i)) (lfh : L .fh) (lmarks : L .marks) (lraised : L .raised) (s : State) (g : Nat)
    (m : UMsg) (y3 : Option Nat) : WithinNext P L s (State.uPlaneOf s g m y3) := by
  unfold State.uPlaneOf
  with_reducible
    repeat' (first
        | apply Within.refl | assumption | apply Within.trans _ (within_drop wFH_DROP_CNT lfh lmarks lraised ..)
        | apply within_uPlaneAt wFH_DROP_CNT wFH_FLOW wFH_SECT_USED lfh lmarks lraised | apply WithinNext.next | apply Within.ite
        | apply WithinNext.ite | dsimp only | split)

theorem within_execUPlaneMessage (wFH_DROP_CNT : ∀ i j, P (R.FH_DROP_CNT i j)) (wFH_FLOW : ∀ i j, P (R.FH_FLOW i j))
    (wFH_SECT_USED : ∀ i, P (R.FH_SECT_USED i)) (lfh : L .fh) (lmarks : L .marks) (lraised : L .raised) (g : Fin 4) (m : UMsg)
    (s : State) : WithinNext P L s (execUPlaneMessage g m s) := by
  unfold execUPlaneMessage
  with_reducible
    repeat' (first
        | apply Within.refl | assumption | apply Within.trans _ (within_drop wFH_DROP_CNT lfh lmarks lraised ..)
        | apply within_uPlaneOf wFH_DROP_CNT wFH_FLOW wFH_SECT_USED lfh lmarks lraised | apply WithinNext.next | apply Within.ite
        | apply WithinNext.ite | dsimp only | split)

/-! ### Machine/Array -/

theorem within_acalStage (wCV_ACAL_STATUS : P R.CV_ACAL_STATUS) (wCV_ACBANK : ∀ i j, P (R.CV_ACBANK i j)) (lraised : L .raised)
    (s : State) (words : List Nat) : Within P L s (State.acalStage s words) := by
  unfold State.acalStage
  with_reducible
    repeat' (first
        | apply Within.refl | assumption | apply Within.trans _ (within_wrN ?_ ..)
        | apply Within.trans _ (within_raise lraised ..) | apply Within.trans _ (within_put ?_ ..) | apply Within.ite
        | apply wCV_ACAL_STATUS | apply wCV_ACBANK | dsimp only | apply Within.foldl | apply Within.foldlBy Prod.snd
        | apply Within.foldlBy Prod.fst | intro _ | split)

theorem within_stageEntry (lhy : L .hy) (s : State) (ctx target : Nat) (w : List Word) (held : Bool) :
    Within P L s (State.stageEntry s ctx target w held) := by
  unfold State.stageEntry
  with_reducible
    repeat' (first
        | apply Within.refl | assumption | simp only [↓Within.upd_hy lhy] | apply Within.ite | dsimp only | split)

theorem within_stageOwnAt (lhy : L .hy) (s : State) (x num d : Nat) (mk : Nat → List Word) :
    Within P L s (State.stageOwnAt s x num d mk) := by
  unfold State.stageOwnAt
  with_reducible
    repeat' (first
        | apply Within.refl | assumption | apply Within.trans _ (within_stageEntry lhy ..) | apply Within.ite | dsimp only | split)

theorem within_acalPages (lhy : L .hy) (s : State) : Within P L s (State.acalPages s) := by
  unfold State.acalPages
  with_reducible
    repeat' (first
        | apply Within.refl | assumption | apply Within.trans _ (within_stageOwnAt lhy ..) | apply Within.ite | dsimp only
        | apply Within.foldl | apply Within.foldlBy Prod.snd | apply Within.foldlBy Prod.fst | intro _ | split)

theorem within_acalDone (wCV_ACAL_STATUS : P R.CV_ACAL_STATUS) (wCV_ACBANK : ∀ i j, P (R.CV_ACBANK i j))
    (wHI_CMP_LOST_CNT : ∀ i, P (R.HI_CMP_LOST_CNT i)) (wHI_CTX_STAT : ∀ i, P (R.HI_CTX_STAT i))
    (wHI_INFL_TOTAL : P R.HI_INFL_TOTAL) (wHI_RING_PROD : ∀ i, P (R.HI_RING_PROD i)) (wNVJ_STAT : P R.NVJ_STAT) (lhi : L .hi)
    (lhy : L .hy) (llastCpl : L .lastCpl) (lmarks : L .marks) (lmem : L .mem) (lnvj : L .nvj) (lraised : L .raised) (s : State)
    (words : List Nat) (point : Nat) : Within P L s (State.acalDone s words point) := by
  unfold State.acalDone
  with_reducible
    repeat' (first
        | apply Within.refl | assumption | apply Within.trans _ (within_acalStage wCV_ACAL_STATUS wCV_ACBANK lraised ..)
        | apply Within.trans _ (within_journalObj wNVJ_STAT lnvj ..) | apply Within.trans _ (within_acalPages lhy ..)
        | apply Within.trans _ (within_finish wHI_CMP_LOST_CNT wHI_CTX_STAT wHI_INFL_TOTAL wHI_RING_PROD lhi lhy llastCpl lmarks lmem ..)
        | apply Within.ite | dsimp only | split | apply Within.snd_of (by assumption))

theorem within_execAcalResultWrite (wCV_ACAL_STATUS : P R.CV_ACAL_STATUS) (wCV_ACBANK : ∀ i j, P (R.CV_ACBANK i j))
    (wHI_CMP_LOST_CNT : ∀ i, P (R.HI_CMP_LOST_CNT i)) (wHI_CTX_STAT : ∀ i, P (R.HI_CTX_STAT i))
    (wHI_INFL_TOTAL : P R.HI_INFL_TOTAL) (wHI_RING_PROD : ∀ i, P (R.HI_RING_PROD i)) (wNVJ_STAT : P R.NVJ_STAT) (lcv : L .cv)
    (lhi : L .hi) (lhy : L .hy) (llastCpl : L .lastCpl) (lmarks : L .marks) (lmem : L .mem) (lnvj : L .nvj)
    (lraised : L .raised) (s : State) : WithinNext P L s (execAcalResultWrite s) := by
  unfold execAcalResultWrite
  with_reducible
    repeat' (first
        | apply Within.refl | assumption
        | apply Within.trans _ (within_acalDone wCV_ACAL_STATUS wCV_ACBANK wHI_CMP_LOST_CNT wHI_CTX_STAT wHI_INFL_TOTAL wHI_RING_PROD wNVJ_STAT lhi lhy llastCpl lmarks lmem lnvj lraised ..)
        | apply WithinNext.when_ | apply WithinNext.next | simp only [↓Within.upd_cv lcv] | apply Within.ite
        | apply WithinNext.ite | dsimp only | split)

theorem within_sweepEnd (wCV_ACAL_STATUS : P R.CV_ACAL_STATUS) (lcv : L .cv) (lhy : L .hy) (lnvc : L .nvc) (s : State) :
    Within P L s (State.sweepEnd s) := by
  unfold State.sweepEnd
  with_reducible
    repeat' (first
        | apply Within.refl | assumption | apply Within.trans _ (within_put ?_ ..)
        | apply Within.trans _ (within_submitJob lnvc ..) | apply Within.trans _ (within_incWrap ?_ ..)
        | apply Within.trans _ (Within.opt_snd (by assumption) (within_allocJob lhy _)) | simp only [↓Within.upd_cv lcv]
        | apply Within.ite | apply wCV_ACAL_STATUS | dsimp only | split | apply Within.snd_of (by assumption))

theorem within_execAcalStepDone (wCV_ACAL_STATUS : P R.CV_ACAL_STATUS) (lcv : L .cv) (lhy : L .hy) (lnvc : L .nvc) (ltl : L .tl)
    (pos : Fin 16) (pairs : List PairEst) (s : State) : WithinNext P L s (execAcalStepDone pos pairs s) := by
  unfold execAcalStepDone
  with_reducible
    repeat' (first
        | apply Within.refl | assumption | apply Within.trans _ (within_stepEnd lcv ltl ..)
        | apply Within.trans _ (within_sweepEnd wCV_ACAL_STATUS lcv lhy lnvc ..) | apply WithinNext.next
        | simp only [↓Within.upd_cv lcv] | apply Within.ite | apply WithinNext.ite | dsimp only | split)

theorem within_borrowHold (wTL_DEFER_CNT : ∀ i, P (R.TL_DEFER_CNT i)) (wringWord : ∀ i j, P (ringWord i j)) (lcv : L .cv)
    (lmarks : L .marks) (lraised : L .raised) (ltl : L .tl) (s : State) (i : Nat) :
    ∀ {o}, (State.borrowHold s i) = some o → Within P L s o := by
  intro o h
  unfold State.borrowHold at h
  revert h
  with_reducible
    repeat' (first
        | apply Within.refl | assumption | apply Within.trans _ (within_noRef lcv lraised ..)
        | apply Within.trans _ (within_toWait ltl ..)
        | apply Within.trans _ (within_defer wTL_DEFER_CNT wringWord lmarks lraised ltl ..) | apply Within.ite | dsimp only
        | apply Within.foldl | apply Within.foldlBy Prod.snd | apply Within.foldlBy Prod.fst
        | (intro h; first | (cases h; done) | injection h with h; subst h) | split | intro _ | split)

theorem within_execAcalSolveDone (wCV_ACAL_RESID : P R.CV_ACAL_RESID) (wCV_ACAL_STATUS : P R.CV_ACAL_STATUS)
    (wCV_ACBANK : ∀ i j, P (R.CV_ACBANK i j)) (wHI_CMP_LOST_CNT : ∀ i, P (R.HI_CMP_LOST_CNT i))
    (wHI_CTX_STAT : ∀ i, P (R.HI_CTX_STAT i)) (wHI_INFL_TOTAL : P R.HI_INFL_TOTAL) (wHI_RING_PROD : ∀ i, P (R.HI_RING_PROD i))
    (wNVC_CORE_STAT : ∀ i, P (R.NVC_CORE_STAT i)) (wNVC_JOB_DONE : ∀ i, P (R.NVC_JOB_DONE i)) (wNVJ_STAT : P R.NVJ_STAT)
    (lcv : L .cv) (lfree : L .free) (lhi : L .hi) (lhy : L .hy) (llastCpl : L .lastCpl) (lmarks : L .marks) (lmem : L .mem)
    (lnvc : L .nvc) (lnvj : L .nvj) (lraised : L .raised) (rows drop db deg words lost : Unit) (s : State) :
    WithinNext P L s (execAcalSolveDone rows drop db deg words lost s) := by
  unfold execAcalSolveDone
  with_reducible
    repeat' (first
        | apply Within.refl | assumption | apply Within.trans _ (within_put ?_ ..)
        | apply Within.trans _ (within_raise lraised ..) | apply Within.trans _ (within_dropJob wNVC_CORE_STAT lnvc ..)
        | apply Within.trans _ (within_finish wHI_CMP_LOST_CNT wHI_CTX_STAT wHI_INFL_TOTAL wHI_RING_PROD lhi lhy llastCpl lmarks lmem ..)
        | apply Within.trans _ (within_fresh lfree ..)
        | apply Within.trans _ (within_signalJob wNVC_CORE_STAT wNVC_JOB_DONE lnvc ..)
        | apply Within.trans _ (within_acalDone wCV_ACAL_STATUS wCV_ACBANK wHI_CMP_LOST_CNT wHI_CTX_STAT wHI_INFL_TOTAL wHI_RING_PROD wNVJ_STAT lhi lhy llastCpl lmarks lmem lnvj lraised ..)
        | apply WithinNext.next | simp only [↓Within.upd_cv lcv] | apply Within.ite | apply WithinNext.ite | apply wCV_ACAL_RESID
        | apply wCV_ACAL_STATUS | dsimp only | apply Within.foldl | apply Within.foldlBy Prod.snd | apply Within.foldlBy Prod.fst
        | intro _ | split | apply Within.snd_of (by assumption))

theorem within_sweepTick (wCV_ACAL_STATUS : P R.CV_ACAL_STATUS) (lcv : L .cv) (ltl : L .tl) (s : State) :
    Within P L s (State.sweepTick s) := by
  unfold State.sweepTick
  with_reducible
    repeat' (first
        | apply Within.refl | assumption | apply Within.trans _ (within_put ?_ ..) | simp only [↓Within.upd_tl_cv ltl lcv]
        | apply Within.ite | apply wCV_ACAL_STATUS | dsimp only | split)

theorem within_execBorrowIntervalExpiry (lcv : L .cv) (lraised : L .raised) (ltl : L .tl) (kind : Fin 5) (s : State) :
    WithinNext P L s (execBorrowIntervalExpiry kind s) := by
  unfold execBorrowIntervalExpiry
  with_reducible
    repeat' (first
        | apply Within.refl | assumption | apply Within.trans _ (within_raise lraised ..) | apply WithinNext.next
        | simp only [↓Within.upd_tl_cv ltl lcv] | apply Within.ite | apply WithinNext.ite | dsimp only | split)

theorem within_borrow (wCV_ACAL_STATUS : P R.CV_ACAL_STATUS) (lcv : L .cv) (ltl : L .tl) (s : State) (i : Nat) (qs : List Nat)
    (n : Nat) (win : List Lent) : Within P L s (State.borrow s i qs n win) := by
  unfold State.borrow
  with_reducible
    repeat' (first
        | apply Within.refl | assumption | apply Within.trans _ (within_put ?_ ..) | simp only [↓Within.upd_tl_cv ltl lcv]
        | apply Within.ite | apply wCV_ACAL_STATUS | dsimp only | split)

theorem within_execCalBorrow (wCV_ACAL_STATUS : P R.CV_ACAL_STATUS) (wTL_DEFER_CNT : ∀ i, P (R.TL_DEFER_CNT i))
    (wTL_JOB_LATE_CNT : P R.TL_JOB_LATE_CNT) (wTL_LEASE_BLANK_CNT : P R.TL_LEASE_BLANK_CNT)
    (wringWord : ∀ i j, P (ringWord i j)) (lcv : L .cv) (lmarks : L .marks) (lraised : L .raised) (ltl : L .tl)
    (slot : Fin 4096) (s : State) : WithinNext P L s (execCalBorrow slot s) := by
  unfold execCalBorrow
  with_reducible
    repeat' (first
        | apply Within.refl | assumption
        | apply within_issueOr_by wTL_JOB_LATE_CNT wTL_LEASE_BLANK_CNT wringWord lmarks lraised ltl
        | exact within_borrowHold wTL_DEFER_CNT wringWord lcv lmarks lraised ltl ..
        | apply Within.trans _ (within_borrow wCV_ACAL_STATUS lcv ltl ..)
        | apply Within.trans _ (within_borrowHold wTL_DEFER_CNT wringWord lcv lmarks lraised ltl _ _ (by assumption))
        | apply WithinNext.next | apply Within.ite | apply WithinNext.ite | dsimp only | intro _ | split)

/-! ### Machine/Service -/

theorem within_skipPath (wRF_PATH_SKIP_CNT : ∀ i, P (R.RF_PATH_SKIP_CNT i)) (lmarks : L .marks) (lraised : L .raised)
    (lrf : L .rf) (s : State) (y : Sym) (p : Nat) : Within P L s (State.skipPath s y p) := by
  unfold State.skipPath
  with_reducible
    repeat' (first
        | apply Within.refl | assumption | apply Within.trans _ (within_count lmarks ?_ ..)
        | apply Within.trans _ (within_raiseTo lraised ..) | simp only [↓Within.upd_rf lrf] | apply Within.ite
        | apply wRF_PATH_SKIP_CNT | dsimp only | split)

theorem within_execTlCtrlAlign (ltl : L .tl) (s : State) : WithinNext P L s (execTlCtrlAlign s) := by
  unfold execTlCtrlAlign
  with_reducible
    repeat' (first
        | apply Within.refl | assumption | apply WithinNext.when_ | apply WithinNext.next | simp only [↓Within.upd_tl ltl]
        | apply Within.ite | apply WithinNext.ite | dsimp only | split)

theorem within_dutyEnd (wRF_REG_DUTY_CNT : ∀ i, P (R.RF_REG_DUTY_CNT i)) (lmarks : L .marks) (lraised : L .raised) (lrf : L .rf)
    (s : State) : Within P L s (State.dutyEnd s) := by
  unfold State.dutyEnd
  with_reducible
    repeat' (first
        | apply Within.refl | assumption | apply Within.trans _ (within_dutyHit wRF_REG_DUTY_CNT lmarks lraised ..)
        | simp only [↓Within.upd_rf lrf] | apply Within.ite | dsimp only | apply Within.foldl | apply Within.foldlBy Prod.snd
        | apply Within.foldlBy Prod.fst | intro _ | split)

theorem within_setSym (ltl : L .tl) (s : State) (y : Sym) : Within P L s (State.setSym s y) := by
  unfold State.setSym
  with_reducible
    repeat' (first
        | apply Within.refl | assumption | simp only [↓Within.upd_tl ltl] | apply Within.ite | dsimp only | split)

theorem within_srsBad (lbf : L .bf) (s : State) (y : Sym) (p : Nat → Bool) : Within P L s (State.srsBad s y p) := by
  unfold State.srsBad
  with_reducible
    repeat' (first
        | apply Within.refl | assumption | simp only [↓Within.upd_bf lbf] | apply Within.ite | dsimp only | split)

theorem within_txFirst (wDFE_CFR_CFG : ∀ i, P (R.DFE_CFR_CFG i)) (wDFE_DPD_STATUS : ∀ i, P (R.DFE_DPD_STATUS i)) (ldfe : L .dfe)
    (lrf : L .rf) (s : State) (p : Nat) : Within P L s (State.txFirst s p) := by
  unfold State.txFirst
  with_reducible
    repeat' (first
        | apply Within.refl | assumption | apply Within.trans _ (within_setFlag ?_ ..) | apply Within.trans _ (within_wr ?_ ..)
        | simp only [↓Within.upd_rf_dfe lrf ldfe] | apply Within.ite | apply wDFE_CFR_CFG | apply wDFE_DPD_STATUS | dsimp only
        | split)

theorem within_pathStart (wDFE_CFR_CFG : ∀ i, P (R.DFE_CFR_CFG i)) (wDFE_DPD_STATUS : ∀ i, P (R.DFE_DPD_STATUS i))
    (wRF_PABIAS_CFG : ∀ i, P (R.RF_PABIAS_CFG i)) (wRF_PABIAS_LVL : ∀ i, P (R.RF_PABIAS_LVL i))
    (wRF_PATH_SKIP_CNT : ∀ i, P (R.RF_PATH_SKIP_CNT i)) (wRF_PATH_STATE : ∀ i, P (R.RF_PATH_STATE i)) (ldfe : L .dfe)
    (lmarks : L .marks) (lraised : L .raised) (lrf : L .rf) (s : State) (y : Sym) (p : Nat) :
    Within P L s (State.pathStart s y p) := by
  unfold State.pathStart
  with_reducible
    repeat' (first
        | apply Within.refl | assumption | apply Within.trans _ (within_skipPath wRF_PATH_SKIP_CNT lmarks lraised lrf ..)
        | apply Within.trans _ (within_setPath wRF_PABIAS_CFG wRF_PABIAS_LVL wRF_PATH_STATE ldfe lrf ..)
        | apply Within.trans _ (within_txFirst wDFE_CFR_CFG wDFE_DPD_STATUS ldfe lrf ..) | apply Within.ite | dsimp only | split)

theorem within_execSymbolStart (wDFE_CFR_CFG : ∀ i, P (R.DFE_CFR_CFG i)) (wDFE_DPD_STATUS : ∀ i, P (R.DFE_DPD_STATUS i))
    (wRF_PABIAS_CFG : ∀ i, P (R.RF_PABIAS_CFG i)) (wRF_PABIAS_LVL : ∀ i, P (R.RF_PABIAS_LVL i))
    (wRF_PATH_SKIP_CNT : ∀ i, P (R.RF_PATH_SKIP_CNT i)) (wRF_PATH_STATE : ∀ i, P (R.RF_PATH_STATE i))
    (wTL_FILL_BLANK_CNT : P R.TL_FILL_BLANK_CNT) (wringWord : ∀ i j, P (ringWord i j)) (lbf : L .bf) (lcv : L .cv)
    (ldfe : L .dfe) (lmarks : L .marks) (lraised : L .raised) (lrf : L .rf) (ltl : L .tl) (slot : Fin 4096) (k : Fin 14)
    (s : State) : WithinNext P L s (execSymbolStart slot k s) := by
  unfold execSymbolStart
  with_reducible
    repeat' (first
        | apply Within.refl | assumption | apply Within.trans _ (within_closeWindows lcv ltl ..)
        | apply Within.trans _ (within_unmutePath wRF_PABIAS_CFG wRF_PABIAS_LVL wRF_PATH_STATE ldfe lrf ..)
        | apply Within.trans _ (within_raiseTo lraised ..) | apply Within.trans _ (within_count lmarks ?_ ..)
        | apply Within.trans _ (within_setStat wringWord ..) | apply Within.trans _ (within_setSym ltl ..)
        | apply Within.trans _ (within_srsBad lbf ..)
        | apply Within.trans _ (within_pathStart wDFE_CFR_CFG wDFE_DPD_STATUS wRF_PABIAS_CFG wRF_PABIAS_LVL wRF_PATH_SKIP_CNT wRF_PATH_STATE ldfe lmarks lraised lrf ..)
        | apply WithinNext.next | apply Within.ite | apply WithinNext.ite | apply wTL_FILL_BLANK_CNT | dsimp only
        | apply Within.foldl | apply Within.foldlBy Prod.snd | apply Within.foldlBy Prod.fst | intro _ | split)

theorem within_dpdEnable (wDFE_DPD_STATUS : ∀ i, P (R.DFE_DPD_STATUS i)) (ldfe : L .dfe) (s : State) (p : Nat) (en : Bool) :
    Within P L s (State.dpdEnable s p en) := by
  unfold State.dpdEnable
  with_reducible
    repeat' (first
        | apply Within.refl | assumption | apply Within.trans _ (within_setFlag ?_ ..) | simp only [↓Within.upd_dfe ldfe]
        | apply Within.ite | apply wDFE_DPD_STATUS | dsimp only | split)

theorem within_lateLo (wTL_LATE_LO_CNT : ∀ i, P (R.TL_LATE_LO_CNT i)) (lbf : L .bf) (lmarks : L .marks) (lraised : L .raised)
    (s : State) (q stamp : Nat) : Within P L s (State.lateLo s q stamp) := by
  unfold State.lateLo
  with_reducible
    repeat' (first
        | apply Within.refl | assumption | apply Within.trans _ (within_raiseOnce lbf lraised ..)
        | apply Within.trans _ (within_count lmarks ?_ ..) | apply Within.ite | apply wTL_LATE_LO_CNT | dsimp only | split)

theorem within_discardWork (lbf : L .bf) (lfh : L .fh) (s : State) (slot k : Nat) :
    Within P L s (State.discardWork s slot k) := by
  unfold State.discardWork
  with_reducible
    repeat' (first
        | apply Within.refl | assumption | simp only [↓Within.upd_bf_fh lbf lfh] | apply Within.ite | dsimp only | split)

theorem within_pathEnd (wRF_PABIAS_CFG : ∀ i, P (R.RF_PABIAS_CFG i)) (wRF_PABIAS_LVL : ∀ i, P (R.RF_PABIAS_LVL i))
    (wRF_PATH_STATE : ∀ i, P (R.RF_PATH_STATE i)) (ldfe : L .dfe) (lrf : L .rf) (s : State) (y : Sym) (p : Nat) :
    Within P L s (State.pathEnd s y p) := by
  unfold State.pathEnd
  with_reducible
    repeat' (first
        | apply Within.refl | assumption
        | apply Within.trans _ (within_setPath wRF_PABIAS_CFG wRF_PABIAS_LVL wRF_PATH_STATE ldfe lrf ..)
        | simp only [↓Within.upd_rf lrf] | apply Within.ite | dsimp only | split)

theorem within_overrun (wTL_OVERRUN_CNT : ∀ i, P (R.TL_OVERRUN_CNT i)) (wringWord : ∀ i j, P (ringWord i j)) (lbf : L .bf)
    (lfh : L .fh) (lmarks : L .marks) (lraised : L .raised) (ltl : L .tl) (s : State) (y : Sym) (stage : Nat) :
    Within P L s (State.overrun s y stage) := by
  unfold State.overrun
  with_reducible
    repeat' (first
        | apply Within.refl | assumption | apply Within.trans _ (within_count lmarks ?_ ..)
        | apply Within.trans _ (within_setStat wringWord ..) | apply Within.trans _ (within_setSym ltl ..)
        | apply Within.trans _ (within_srsBad lbf ..) | apply Within.trans _ (within_discardWork lbf lfh ..)
        | apply Within.trans _ (within_raiseTo lraised ..) | apply Within.ite | apply wTL_OVERRUN_CNT | dsimp only | split)

theorem within_execStageDeadline (wTL_OVERRUN_CNT : ∀ i, P (R.TL_OVERRUN_CNT i)) (wringWord : ∀ i j, P (ringWord i j))
    (lbf : L .bf) (lfh : L .fh) (lmarks : L .marks) (lraised : L .raised) (ltl : L .tl) (stage : Fin 6) (slot : Fin 4096)
    (k : Fin 14) (s : State) : WithinNext P L s (execStageDeadline stage slot k s) := by
  unfold execStageDeadline
  with_reducible
    repeat' (first
        | apply Within.refl | assumption
        | apply Within.trans _ (within_overrun wTL_OVERRUN_CNT wringWord lbf lfh lmarks lraised ltl ..) | apply WithinNext.next
        | apply Within.ite | apply WithinNext.ite | dsimp only | split)

theorem within_frameApply (wRF_REG_DUTY : ∀ i, P (R.RF_REG_DUTY i)) (wRF_REG_PEAK : ∀ i, P (R.RF_REG_PEAK i))
    (wRF_REG_RANGE_HI : ∀ i, P (R.RF_REG_RANGE_HI i)) (wRF_REG_RANGE_LO : ∀ i, P (R.RF_REG_RANGE_LO i))
    (wRF_REG_RMS : ∀ i, P (R.RF_REG_RMS i)) (wRF_REG_STATUS : P R.RF_REG_STATUS) (wRF_TDD_LAG : P R.RF_TDD_LAG)
    (wRF_TDD_LEAD : P R.RF_TDD_LEAD) (lrf : L .rf) (s : State) : Within P L s (State.frameApply s) := by
  unfold State.frameApply
  with_reducible
    repeat' (first
        | apply Within.refl | assumption
        | apply Within.trans _ (within_regApply wRF_REG_DUTY wRF_REG_PEAK wRF_REG_RANGE_HI wRF_REG_RANGE_LO wRF_REG_RMS wRF_REG_STATUS ..)
        | apply Within.trans _ (within_put ?_ ..) | simp only [↓Within.upd_rf lrf] | apply Within.ite | apply wRF_TDD_LAG
        | apply wRF_TDD_LEAD | dsimp only | split)

theorem within_newFrame (wTL_NOW : ∀ i, P (R.TL_NOW i)) (ltl : L .tl) (s : State) : Within P L s (State.newFrame s) := by
  unfold State.newFrame
  with_reducible
    repeat' (first
        | apply Within.refl | assumption | apply Within.trans _ (within_showNow wTL_NOW ..) | simp only [↓Within.upd_tl ltl]
        | apply Within.ite | dsimp only | split)

theorem within_cfrFigure (wDFE_CFR_STAT : ∀ i, P (R.DFE_CFR_STAT i)) (lraised : L .raised) (s : State) (p : Nat) :
    Within P L s (State.cfrFigure s p) := by
  unfold State.cfrFigure
  with_reducible
    repeat' (first
        | apply Within.refl | assumption | apply Within.trans _ (within_put ?_ ..)
        | apply Within.trans _ (within_raise lraised ..) | apply Within.ite | apply wDFE_CFR_STAT | dsimp only | split)

theorem within_execFrameBoundary (wDFE_CFR_STAT : ∀ i, P (R.DFE_CFR_STAT i)) (wHK_ABORT_CNT : P R.HK_ABORT_CNT)
    (wHK_IGN_REG_CNT : P R.HK_IGN_REG_CNT) (wHK_IGN_SQ_CNT : P R.HK_IGN_SQ_CNT) (wHK_STAT : P R.HK_STAT)
    (wRF_REG_DUTY : ∀ i, P (R.RF_REG_DUTY i)) (wRF_REG_DUTY_CNT : ∀ i, P (R.RF_REG_DUTY_CNT i))
    (wRF_REG_PEAK : ∀ i, P (R.RF_REG_PEAK i)) (wRF_REG_RANGE_HI : ∀ i, P (R.RF_REG_RANGE_HI i))
    (wRF_REG_RANGE_LO : ∀ i, P (R.RF_REG_RANGE_LO i)) (wRF_REG_RMS : ∀ i, P (R.RF_REG_RMS i))
    (wRF_REG_STATUS : P R.RF_REG_STATUS) (wRF_TDD_LAG : P R.RF_TDD_LAG) (wRF_TDD_LEAD : P R.RF_TDD_LEAD)
    (wTL_FRAME_ERR : P R.TL_FRAME_ERR) (wTL_NOW : ∀ i, P (R.TL_NOW i)) (ldfe : L .dfe) (lhk : L .hk) (lmarks : L .marks)
    (lraised : L .raised) (lrf : L .rf) (ltl : L .tl) (cfr : Unit) (s : State) :
    WithinNext P L s (execFrameBoundary cfr s) := by
  unfold execFrameBoundary
  with_reducible
    repeat' (first
        | apply Within.refl | assumption | apply Within.trans _ (within_newFrame wTL_NOW ltl ..)
        | apply Within.trans _ (within_wrN ?_ ..) | apply Within.trans _ (within_raise lraised ..)
        | apply Within.trans _ (within_frameApply wRF_REG_DUTY wRF_REG_PEAK wRF_REG_RANGE_HI wRF_REG_RANGE_LO wRF_REG_RMS wRF_REG_STATUS wRF_TDD_LAG wRF_TDD_LEAD lrf ..)
        | apply Within.trans _ (within_dutyEnd wRF_REG_DUTY_CNT lmarks lraised lrf ..)
        | apply Within.trans _ (within_hkSource wHK_ABORT_CNT wHK_IGN_REG_CNT wHK_IGN_SQ_CNT wHK_STAT lhk lmarks lraised ..)
        | apply Within.trans _ (within_cfrFigure wDFE_CFR_STAT lraised ..) | apply WithinNext.next
        | simp only [↓Within.upd_dfe ldfe] | apply Within.ite | apply WithinNext.ite | apply wTL_FRAME_ERR | dsimp only
        | apply Within.foldl | apply Within.foldlBy Prod.snd | apply Within.foldlBy Prod.fst | intro _ | split)

theorem within_capBlank (wDFE_CAP_STATUS : ∀ i, P (R.DFE_CAP_STATUS i)) (wringWord : ∀ i j, P (ringWord i j)) (ldfe : L .dfe)
    (s : State) (p : Nat → Cap → Bool) : Within P L s (State.capBlank s p) := by
  unfold State.capBlank
  with_reducible
    repeat' (first
        | apply Within.refl | assumption | apply Within.trans _ (within_setStat wringWord ..)
        | apply Within.trans _ (within_put ?_ ..) | simp only [↓Within.upd_dfe ldfe] | apply Within.ite | apply wDFE_CAP_STATUS
        | dsimp only | apply Within.foldl | apply Within.foldlBy Prod.snd | apply Within.foldlBy Prod.fst | intro _ | split)

theorem within_obsBlank (wDFE_CAP_STATUS : ∀ i, P (R.DFE_CAP_STATUS i)) (wTL_LATE_LO_CNT : ∀ i, P (R.TL_LATE_LO_CNT i))
    (wringWord : ∀ i j, P (ringWord i j)) (lbf : L .bf) (ldfe : L .dfe) (lmarks : L .marks) (lraised : L .raised) (s : State)
    (slot : Nat) : Within P L s (State.obsBlank s slot) := by
  unfold State.obsBlank
  with_reducible
    repeat' (first
        | apply Within.refl | assumption | apply Within.trans _ (within_lateLo wTL_LATE_LO_CNT lbf lmarks lraised ..)
        | apply Within.trans _ (within_capBlank wDFE_CAP_STATUS wringWord ldfe ..) | apply Within.ite | dsimp only
        | apply Within.foldl | apply Within.foldlBy Prod.snd | apply Within.foldlBy Prod.fst | intro _ | split)

theorem within_execLockCheck (wDFE_CAP_STATUS : ∀ i, P (R.DFE_CAP_STATUS i)) (wTL_LATE_LO_CNT : ∀ i, P (R.TL_LATE_LO_CNT i))
    (wTL_TURN_BLANK_CNT : P R.TL_TURN_BLANK_CNT) (wringWord : ∀ i j, P (ringWord i j)) (lbf : L .bf) (ldfe : L .dfe)
    (lmarks : L .marks) (lraised : L .raised) (ltl : L .tl) (slot : Fin 4096) (k : Fin 14) (s : State) :
    WithinNext P L s (execLockCheck slot k s) := by
  unfold execLockCheck
  with_reducible
    repeat' (first
        | apply Within.refl | assumption
        | apply Within.trans _ (within_obsBlank wDFE_CAP_STATUS wTL_LATE_LO_CNT wringWord lbf ldfe lmarks lraised ..)
        | apply Within.trans _ (within_raiseTo lraised ..) | apply Within.trans _ (within_count lmarks ?_ ..)
        | apply Within.trans _ (within_setSym ltl ..) | apply Within.trans _ (within_capBlank wDFE_CAP_STATUS wringWord ldfe ..)
        | apply Within.trans _ (within_lateLo wTL_LATE_LO_CNT lbf lmarks lraised ..)
        | apply Within.trans _ (within_setStat wringWord ..) | apply WithinNext.when_ | apply WithinNext.next | apply Within.ite
        | apply WithinNext.ite | apply wTL_TURN_BLANK_CNT | dsimp only | apply Within.foldl | apply Within.foldlBy Prod.snd
        | apply Within.foldlBy Prod.fst | intro _ | split)

theorem within_execFrameAlignEdge (wHI_CMP_LOST_CNT : ∀ i, P (R.HI_CMP_LOST_CNT i)) (wHI_CTX_STAT : ∀ i, P (R.HI_CTX_STAT i))
    (wHI_INFL_TOTAL : P R.HI_INFL_TOTAL) (wHI_RING_PROD : ∀ i, P (R.HI_RING_PROD i)) (wTL_NOW : ∀ i, P (R.TL_NOW i))
    (wTL_STATUS : P R.TL_STATUS) (lhi : L .hi) (lhy : L .hy) (llastCpl : L .lastCpl) (lmarks : L .marks) (lmem : L .mem)
    (ltl : L .tl) (s : State) : WithinNext P L s (execFrameAlignEdge s) := by
  unfold execFrameAlignEdge
  with_reducible
    repeat' (first
        | apply Within.refl | assumption | apply Within.trans _ (within_newFrame wTL_NOW ltl ..)
        | apply Within.trans _ (within_finish wHI_CMP_LOST_CNT wHI_CTX_STAT wHI_INFL_TOTAL wHI_RING_PROD lhi lhy llastCpl lmarks lmem ..)
        | apply Within.trans _ (within_setFlag ?_ ..) | apply WithinNext.next | simp only [↓Within.upd_tl ltl] | apply Within.ite
        | apply WithinNext.ite | apply wTL_STATUS | dsimp only | split)

theorem within_execTlSfnLoad (ltl : L .tl) (sfn : BitVec 10) (s : State) : WithinNext P L s (execTlSfnLoad sfn s) := by
  unfold execTlSfnLoad
  with_reducible
    repeat' (first
        | apply Within.refl | assumption | apply WithinNext.next | simp only [↓Within.upd_tl ltl] | apply Within.ite
        | apply WithinNext.ite | dsimp only | split)

theorem within_execSymbolEnd (wRF_PABIAS_CFG : ∀ i, P (R.RF_PABIAS_CFG i)) (wRF_PABIAS_LVL : ∀ i, P (R.RF_PABIAS_LVL i))
    (wRF_PATH_STATE : ∀ i, P (R.RF_PATH_STATE i)) (lbf : L .bf) (ldfe : L .dfe) (lrf : L .rf) (ltl : L .tl) (slot : Fin 4096)
    (k : Fin 14) (s : State) : WithinNext P L s (execSymbolEnd slot k s) := by
  unfold execSymbolEnd
  with_reducible
    repeat' (first
        | apply Within.refl | assumption | apply Within.trans _ (within_srsBad lbf ..)
        | apply Within.trans _ (within_pathEnd wRF_PABIAS_CFG wRF_PABIAS_LVL wRF_PATH_STATE ldfe lrf ..)
        | apply Within.trans _ (within_setSym ltl ..) | apply WithinNext.next | simp only [↓Within.upd_tl ltl] | apply Within.ite
        | apply WithinNext.ite | dsimp only | apply Within.foldl | apply Within.foldlBy Prod.snd | apply Within.foldlBy Prod.fst
        | intro _ | split)

theorem within_lateTick (wTL_OVERRUN_CNT : ∀ i, P (R.TL_OVERRUN_CNT i)) (wringWord : ∀ i j, P (ringWord i j)) (lbf : L .bf)
    (lfh : L .fh) (lmarks : L .marks) (lraised : L .raised) (ltl : L .tl) (s : State) : Within P L s (State.lateTick s) := by
  unfold State.lateTick
  with_reducible
    repeat' (first
        | apply Within.refl | assumption
        | apply Within.trans _ (within_overrun wTL_OVERRUN_CNT wringWord lbf lfh lmarks lraised ltl ..)
        | simp only [↓Within.upd_bf lbf] | apply Within.ite | dsimp only | apply Within.foldl | apply Within.foldlBy Prod.snd
        | apply Within.foldlBy Prod.fst | intro _ | split)

/-! ### Machine/Leases -/

theorem within_cfrChange (ldfe : L .dfe) (s : State) (pmask : Nat) : Within P L s (State.cfrChange s pmask) := by
  unfold State.cfrChange
  with_reducible
    repeat' (first
        | apply Within.refl | assumption | simp only [↓Within.upd_dfe ldfe] | apply Within.ite | dsimp only | split)

theorem within_rmsWindows (wRF_REG_RMS : ∀ i, P (R.RF_REG_RMS i)) (s : State) (pmask : Nat) :
    Within P L s (State.rmsWindows s pmask) := by
  unfold State.rmsWindows
  with_reducible
    repeat' (first
        | apply Within.refl | assumption | apply Within.trans _ (within_put ?_ ..) | apply Within.ite | apply wRF_REG_RMS
        | dsimp only | apply Within.foldl | apply Within.foldlBy Prod.snd | apply Within.foldlBy Prod.fst | intro _ | split)

theorem within_carOff (wBF_REGION_STAT : ∀ i, P (R.BF_REGION_STAT i)) (wBF_STATUS : P R.BF_STATUS)
    (wDFE_CAR_CFG : ∀ i, P (R.DFE_CAR_CFG i)) (wFH_RESV : ∀ i, P (R.FH_RESV i)) (wFH_SECT_USED : ∀ i, P (R.FH_SECT_USED i))
    (wRF_REG_RMS : ∀ i, P (R.RF_REG_RMS i)) (ldfe : L .dfe) (lfh : L .fh) (lfree : L .free) (lraised : L .raised) (s : State)
    (c : Nat) : Within P L s (State.carOff s c) := by
  unfold State.carOff
  with_reducible
    repeat' (first
        | apply Within.refl | assumption | apply Within.trans _ (within_setFlag ?_ ..)
        | apply Within.trans _ (within_flowEnd wFH_SECT_USED lfh lraised ..)
        | apply Within.trans _ (within_showResv wFH_RESV lfree ..)
        | apply Within.trans _ (within_bfShow wBF_REGION_STAT wBF_STATUS ..) | apply Within.trans _ (within_cfrChange ldfe ..)
        | apply Within.trans _ (within_rmsWindows wRF_REG_RMS ..) | apply Within.ite | apply wDFE_CAR_CFG | dsimp only
        | apply Within.foldl | apply Within.foldlBy Prod.snd | apply Within.foldlBy Prod.fst | intro _ | split)

theorem within_auditRow (wBF_FREE_VEC : P R.BF_FREE_VEC) (wFH_RESV : ∀ i, P (R.FH_RESV i))
    (wFH_SECT_USED : ∀ i, P (R.FH_SECT_USED i)) (wHI_CTX_STAT : ∀ i, P (R.HI_CTX_STAT i)) (wHI_INFL_TOTAL : P R.HI_INFL_TOTAL)
    (wTL_PART_USED : ∀ i, P (R.TL_PART_USED i)) (wTL_STATUS : P R.TL_STATUS) (lfree : L .free) (s : State) (row : Nat) :
    Within P L s (State.auditRow s row).2 := by
  unfold State.auditRow
  with_reducible
    repeat' (first
        | apply Within.refl | assumption | apply Within.trans _ (within_put ?_ ..)
        | apply Within.trans _ (within_showLive wTL_STATUS ..) | apply Within.trans _ (within_showResv wFH_RESV lfree ..)
        | apply Within.ite | apply Within.ite_snd | apply wBF_FREE_VEC | apply wFH_SECT_USED | apply wHI_CTX_STAT
        | apply wHI_INFL_TOTAL | apply wTL_PART_USED | dsimp only | apply Within.foldl | apply Within.foldlBy Prod.snd
        | apply Within.foldlBy Prod.fst | intro _ | split)

theorem within_dropLease (lhy : L .hy) (s : State) (res idx : Nat) : Within P L s (State.dropLease s res idx) := by
  unfold State.dropLease
  with_reducible
    repeat' (first
        | apply Within.refl | assumption | simp only [↓Within.upd_hy lhy] | apply Within.ite | dsimp only | split)

theorem within_stopStep (wBF_REGION_STAT : ∀ i, P (R.BF_REGION_STAT i)) (wBF_STATUS : P R.BF_STATUS)
    (wDFE_CAR_CFG : ∀ i, P (R.DFE_CAR_CFG i)) (wFH_RESV : ∀ i, P (R.FH_RESV i)) (wFH_SECT_USED : ∀ i, P (R.FH_SECT_USED i))
    (wHI_CMP_LOST_CNT : ∀ i, P (R.HI_CMP_LOST_CNT i)) (wHI_CTX_STAT : ∀ i, P (R.HI_CTX_STAT i))
    (wHI_INFL_TOTAL : P R.HI_INFL_TOTAL) (wHI_RING_PROD : ∀ i, P (R.HI_RING_PROD i)) (wRF_REG_RMS : ∀ i, P (R.RF_REG_RMS i))
    (ldfe : L .dfe) (lfh : L .fh) (lfree : L .free) (lhi : L .hi) (lhy : L .hy) (llastCpl : L .lastCpl) (lmarks : L .marks)
    (lmem : L .mem) (lraised : L .raised) (ltl : L .tl) (s : State) (c why : Nat) : Within P L s (State.stopStep s c why) := by
  unfold State.stopStep
  with_reducible
    repeat' (first
        | apply Within.refl | assumption
        | apply Within.trans _ (within_revokeDone wHI_CMP_LOST_CNT wHI_CTX_STAT wHI_INFL_TOTAL wHI_RING_PROD lhi lhy llastCpl lmarks lmem ..)
        | apply Within.trans _ (within_carOff wBF_REGION_STAT wBF_STATUS wDFE_CAR_CFG wFH_RESV wFH_SECT_USED wRF_REG_RMS ldfe lfh lfree lraised ..)
        | apply Within.trans _ (within_finishOwn wHI_CMP_LOST_CNT wHI_CTX_STAT wHI_INFL_TOTAL wHI_RING_PROD lhi lhy llastCpl lmarks lmem ..)
        | simp only [↓Within.upd_hy_tl lhy ltl] | apply Within.ite | dsimp only | split)

theorem within_heldTick (lhi : L .hi) (s : State) : Within P L s (State.heldTick s) := by
  unfold State.heldTick
  with_reducible
    repeat' (first
        | apply Within.refl | assumption | simp only [↓Within.upd_hi lhi] | apply Within.ite | dsimp only | split)

theorem within_pulseDesign (wDFE_CFR_PULSE : ∀ i j, P (R.DFE_CFR_PULSE i j)) (s : State) (k : Nat) :
    Within P L s (State.pulseDesign s k) := by
  unfold State.pulseDesign
  with_reducible
    repeat' (first
        | apply Within.refl | assumption | apply Within.trans _ (within_wr ?_ ..) | apply Within.ite | apply wDFE_CFR_PULSE
        | dsimp only | apply Within.foldl | apply Within.foldlBy Prod.snd | apply Within.foldlBy Prod.fst | intro _ | split)

theorem within_pulseTick (wDFE_CFR_PULSE : ∀ i j, P (R.DFE_CFR_PULSE i j)) (ldfe : L .dfe) (s : State) :
    Within P L s (State.pulseTick s) := by
  unfold State.pulseTick
  with_reducible
    repeat' (first
        | apply Within.refl | assumption | apply Within.trans _ (within_pulseDesign wDFE_CFR_PULSE ..)
        | simp only [↓Within.upd_dfe ldfe] | apply Within.ite | dsimp only | apply Within.foldl | apply Within.foldlBy Prod.snd
        | apply Within.foldlBy Prod.fst | intro _ | split)

theorem within_execBlockScrubDone (wHI_CMP_LOST_CNT : ∀ i, P (R.HI_CMP_LOST_CNT i)) (wHI_CTX_STAT : ∀ i, P (R.HI_CTX_STAT i))
    (wHI_INFL_TOTAL : P R.HI_INFL_TOTAL) (wHI_RING_PROD : ∀ i, P (R.HI_RING_PROD i)) (lhi : L .hi) (lhy : L .hy)
    (llastCpl : L .lastCpl) (lmarks : L .marks) (lmem : L .mem) (dram : Bool) (block : BitVec 14) (s : State) :
    WithinNext P L s (execBlockScrubDone dram block s) := by
  unfold execBlockScrubDone
  with_reducible
    repeat' (first
        | apply Within.refl | assumption
        | apply Within.trans _ (within_revokeDone wHI_CMP_LOST_CNT wHI_CTX_STAT wHI_INFL_TOTAL wHI_RING_PROD lhi lhy llastCpl lmarks lmem ..)
        | apply Within.trans _ (within_scrubMem lmem ..) | apply WithinNext.when_ | apply WithinNext.next
        | simp only [↓Within.upd_hy lhy] | apply Within.ite | apply WithinNext.ite | dsimp only | split)

theorem within_revokeCar (wFH_FLOW : ∀ i j, P (R.FH_FLOW i j)) (wFH_SECT_USED : ∀ i, P (R.FH_SECT_USED i)) (lfh : L .fh)
    (lhy : L .hy) (lraised : L .raised) (ltl : L .tl) (s : State) (c : Nat) : Within P L s (State.revokeCar s c) := by
  unfold State.revokeCar
  with_reducible
    repeat' (first
        | apply Within.refl | assumption | apply Within.trans _ (within_setFlag ?_ ..)
        | apply Within.trans _ (within_flowEnd wFH_SECT_USED lfh lraised ..) | apply Within.trans _ (within_unstage lhy ..)
        | apply Within.trans _ (within_dropLease lhy ..) | simp only [↓Within.upd_hy_tl lhy ltl] | apply Within.ite
        | apply wFH_FLOW | dsimp only | apply Within.foldl | apply Within.foldlBy Prod.snd | apply Within.foldlBy Prod.fst
        | intro _ | split)

theorem within_setHolder (wHI_CTX_STAT : ∀ i, P (R.HI_CTX_STAT i)) (wHI_MODE_LEASE : P R.HI_MODE_LEASE) (lraised : L .raised)
    (s : State) (c : Option Nat) : Within P L s (State.setHolder s c) := by
  unfold State.setHolder
  with_reducible
    repeat' (first
        | apply Within.refl | assumption | apply Within.trans _ (within_wrN ?_ ..) | apply Within.trans _ (within_setFlag ?_ ..)
        | apply Within.trans _ (within_raise lraised ..) | apply Within.ite | apply wHI_CTX_STAT | apply wHI_MODE_LEASE
        | dsimp only | apply Within.foldl | apply Within.foldlBy Prod.snd | apply Within.foldlBy Prod.fst | intro _ | split)

theorem within_settle (wBF_REGION_STAT : ∀ i, P (R.BF_REGION_STAT i)) (wBF_STATUS : P R.BF_STATUS)
    (wDFE_CAR_CFG : ∀ i, P (R.DFE_CAR_CFG i)) (wFH_RESV : ∀ i, P (R.FH_RESV i)) (wFH_SECT_USED : ∀ i, P (R.FH_SECT_USED i))
    (wHI_CMP_LOST_CNT : ∀ i, P (R.HI_CMP_LOST_CNT i)) (wHI_CTX_STAT : ∀ i, P (R.HI_CTX_STAT i))
    (wHI_INFL_TOTAL : P R.HI_INFL_TOTAL) (wHI_RING_PROD : ∀ i, P (R.HI_RING_PROD i)) (wRF_REG_RMS : ∀ i, P (R.RF_REG_RMS i))
    (lbf : L .bf) (ldfe : L .dfe) (lfh : L .fh) (lfree : L .free) (lhi : L .hi) (lhy : L .hy) (llastCpl : L .lastCpl)
    (lmarks : L .marks) (lmem : L .mem) (lraised : L .raised) (ltl : L .tl) (s : State) : Within P L s (State.settle s) := by
  unfold State.settle
  with_reducible
    repeat' (first
        | apply Within.refl | assumption
        | apply Within.trans _ (within_stopStep wBF_REGION_STAT wBF_STATUS wDFE_CAR_CFG wFH_RESV wFH_SECT_USED wHI_CMP_LOST_CNT wHI_CTX_STAT wHI_INFL_TOTAL wHI_RING_PROD wRF_REG_RMS ldfe lfh lfree lhi lhy llastCpl lmarks lmem lraised ltl ..)
        | apply Within.trans _ (within_pagesLeave wBF_REGION_STAT lbf ..)
        | apply Within.trans _ (within_revokeDone wHI_CMP_LOST_CNT wHI_CTX_STAT wHI_INFL_TOTAL wHI_RING_PROD lhi lhy llastCpl lmarks lmem ..)
        | apply Within.ite | dsimp only | apply Within.foldl | apply Within.foldlBy Prod.snd | apply Within.foldlBy Prod.fst
        | intro _ | split)

theorem within_holderExpired (wHI_CTX_STAT : ∀ i, P (R.HI_CTX_STAT i)) (wHI_MODE_LEASE : P R.HI_MODE_LEASE)
    (lraised : L .raised) (s : State) (c : Nat) : Within P L s (State.holderExpired s c) := by
  unfold State.holderExpired
  with_reducible
    repeat' (first
        | apply Within.refl | assumption | apply Within.trans _ (within_setHolder wHI_CTX_STAT wHI_MODE_LEASE lraised ..)
        | apply Within.ite | dsimp only | split)

theorem within_revokeRes (wBF_REGION_CFG : ∀ i, P (R.BF_REGION_CFG i)) (wBF_REGION_STAT : ∀ i, P (R.BF_REGION_STAT i))
    (wBF_STATUS : P R.BF_STATUS) (wDMA_CH_CFG : ∀ i, P (R.DMA_CH_CFG i)) (wDMA_CH_STAT : ∀ i, P (R.DMA_CH_STAT i))
    (wDMA_STATUS : P R.DMA_STATUS) (wFH_FLOW : ∀ i j, P (R.FH_FLOW i j)) (wFH_SECT_QUOTA : ∀ i, P (R.FH_SECT_QUOTA i))
    (wFH_SECT_USED : ∀ i, P (R.FH_SECT_USED i)) (wHI_CMP_LOST_CNT : ∀ i, P (R.HI_CMP_LOST_CNT i))
    (wHI_CTX_STAT : ∀ i, P (R.HI_CTX_STAT i)) (wHI_INFL_TOTAL : P R.HI_INFL_TOTAL) (wHI_RING_CFG : ∀ i, P (R.HI_RING_CFG i))
    (wHI_RING_PROD : ∀ i, P (R.HI_RING_PROD i)) (wHI_RING_STAT : ∀ i, P (R.HI_RING_STAT i))
    (wNVC_CORE_STAT : ∀ i, P (R.NVC_CORE_STAT i)) (wNVC_MBX_IN : ∀ i j, P (R.NVC_MBX_IN i j))
    (wNVC_MBX_OUT : ∀ i j, P (R.NVC_MBX_OUT i j)) (wNVC_STATUS : P R.NVC_STATUS) (wTL_PART_QUOTA : ∀ i, P (R.TL_PART_QUOTA i))
    (lbf : L .bf) (ldfe : L .dfe) (ldma : L .dma) (lfh : L .fh) (lhi : L .hi) (lhy : L .hy) (llastCpl : L .lastCpl)
    (lmarks : L .marks) (lmem : L .mem) (lnvc : L .nvc) (lraised : L .raised) (ltl : L .tl) (s : State) (x res idx : Nat) :
    Within P L s (State.revokeRes s x res idx).1 := by
  unfold State.revokeRes
  with_reducible
    repeat' (first
        | apply Within.refl | assumption | apply Within.trans _ (within_raiseTo lraised ..)
        | apply Within.trans _ (within_revokeCar wFH_FLOW wFH_SECT_USED lfh lhy lraised ltl ..)
        | apply Within.trans _ (within_revokeRegion wBF_REGION_CFG wBF_REGION_STAT wBF_STATUS lbf ..)
        | apply Within.trans _ (within_dropJob wNVC_CORE_STAT lnvc ..) | apply Within.trans _ (within_unstage lhy ..)
        | apply Within.trans _ (within_quotaFall wHI_CMP_LOST_CNT wHI_CTX_STAT wHI_INFL_TOTAL wHI_RING_PROD wTL_PART_QUOTA lhi lhy llastCpl lmarks lmem ltl ..)
        | apply Within.trans _ (within_put ?_ ..) | apply Within.trans _ (within_dropLease lhy ..)
        | apply Within.trans _ (within_revokeCore wNVC_CORE_STAT wNVC_MBX_IN wNVC_MBX_OUT wNVC_STATUS lnvc ..)
        | apply Within.trans _ (within_chReset wDMA_CH_CFG wDMA_CH_STAT wDMA_STATUS ldma ..)
        | apply Within.trans _ (within_setFlag ?_ ..) | apply Within.trans _ (within_inflFall wHI_CTX_STAT lhy ..)
        | simp only [↓Within.upd_hy_tl_dfe lhy ltl ldfe] | apply Within.ite | apply Within.ite_fst | apply wFH_SECT_QUOTA
        | apply wHI_RING_CFG | apply wHI_RING_STAT | dsimp only | apply Within.foldl | apply Within.foldlBy Prod.snd
        | apply Within.foldlBy Prod.fst | intro _ | split)

theorem within_execCtxHoldExpiry (wBF_REGION_CFG : ∀ i, P (R.BF_REGION_CFG i)) (wBF_REGION_STAT : ∀ i, P (R.BF_REGION_STAT i))
    (wBF_STATUS : P R.BF_STATUS) (wDFE_CAR_CFG : ∀ i, P (R.DFE_CAR_CFG i)) (wDMA_CH_CFG : ∀ i, P (R.DMA_CH_CFG i))
    (wDMA_CH_STAT : ∀ i, P (R.DMA_CH_STAT i)) (wDMA_STATUS : P R.DMA_STATUS) (wFH_FLOW : ∀ i j, P (R.FH_FLOW i j))
    (wFH_RESV : ∀ i, P (R.FH_RESV i)) (wFH_SECT_QUOTA : ∀ i, P (R.FH_SECT_QUOTA i)) (wFH_SECT_USED : ∀ i, P (R.FH_SECT_USED i))
    (wHI_CMP_LOST_CNT : ∀ i, P (R.HI_CMP_LOST_CNT i)) (wHI_CTX_STAT : ∀ i, P (R.HI_CTX_STAT i))
    (wHI_INFL_TOTAL : P R.HI_INFL_TOTAL) (wHI_MODE_LEASE : P R.HI_MODE_LEASE) (wHI_RING_CFG : ∀ i, P (R.HI_RING_CFG i))
    (wHI_RING_PROD : ∀ i, P (R.HI_RING_PROD i)) (wHI_RING_STAT : ∀ i, P (R.HI_RING_STAT i))
    (wNVC_CORE_STAT : ∀ i, P (R.NVC_CORE_STAT i)) (wNVC_MBX_IN : ∀ i j, P (R.NVC_MBX_IN i j))
    (wNVC_MBX_OUT : ∀ i j, P (R.NVC_MBX_OUT i j)) (wNVC_STATUS : P R.NVC_STATUS) (wRF_REG_RMS : ∀ i, P (R.RF_REG_RMS i))
    (wTL_PART_QUOTA : ∀ i, P (R.TL_PART_QUOTA i)) (lbf : L .bf) (ldfe : L .dfe) (ldma : L .dma) (lfh : L .fh) (lfree : L .free)
    (lhi : L .hi) (lhy : L .hy) (llastCpl : L .lastCpl) (lmarks : L .marks) (lmem : L .mem) (lnvc : L .nvc)
    (lraised : L .raised) (ltl : L .tl) (c : Fin 8) (s : State) : WithinNext P L s (execCtxHoldExpiry c s) := by
  unfold execCtxHoldExpiry
  with_reducible
    repeat' (first
        | apply Within.refl | assumption | apply Within.trans _ (within_raise lraised ..)
        | apply Within.trans _ (within_put ?_ ..)
        | apply Within.trans _ (within_settle wBF_REGION_STAT wBF_STATUS wDFE_CAR_CFG wFH_RESV wFH_SECT_USED wHI_CMP_LOST_CNT wHI_CTX_STAT wHI_INFL_TOTAL wHI_RING_PROD wRF_REG_RMS lbf ldfe lfh lfree lhi lhy llastCpl lmarks lmem lraised ltl ..)
        | apply Within.trans _ (within_holderExpired wHI_CTX_STAT wHI_MODE_LEASE lraised ..)
        | apply Within.trans _ (within_revokeRes wBF_REGION_CFG wBF_REGION_STAT wBF_STATUS wDMA_CH_CFG wDMA_CH_STAT wDMA_STATUS wFH_FLOW wFH_SECT_QUOTA wFH_SECT_USED wHI_CMP_LOST_CNT wHI_CTX_STAT wHI_INFL_TOTAL wHI_RING_CFG wHI_RING_PROD wHI_RING_STAT wNVC_CORE_STAT wNVC_MBX_IN wNVC_MBX_OUT wNVC_STATUS wTL_PART_QUOTA lbf ldfe ldma lfh lhi lhy llastCpl lmarks lmem lnvc lraised ltl ..)
        | apply WithinNext.next | apply Within.ite | apply WithinNext.ite | apply wHI_CTX_STAT | dsimp only | apply Within.foldl
        | apply Within.foldlBy Prod.snd | apply Within.foldlBy Prod.fst | intro _ | split | apply Within.fst_of (by assumption))

theorem within_execBooksAudit (wBF_FREE_VEC : P R.BF_FREE_VEC) (wFH_RESV : ∀ i, P (R.FH_RESV i))
    (wFH_SECT_USED : ∀ i, P (R.FH_SECT_USED i)) (wHI_CTX_STAT : ∀ i, P (R.HI_CTX_STAT i)) (wHI_INFL_TOTAL : P R.HI_INFL_TOTAL)
    (wTL_PART_USED : ∀ i, P (R.TL_PART_USED i)) (wTL_STATUS : P R.TL_STATUS) (lfree : L .free) (lhy : L .hy)
    (lraised : L .raised) (s : State) : WithinNext P L s (execBooksAudit s) := by
  unfold execBooksAudit
  with_reducible
    repeat' (first
        | apply Within.refl | assumption
        | apply Within.trans _ (within_auditRow wBF_FREE_VEC wFH_RESV wFH_SECT_USED wHI_CTX_STAT wHI_INFL_TOTAL wTL_PART_USED wTL_STATUS lfree ..)
        | apply Within.trans _ (within_raise lraised ..) | apply WithinNext.next | simp only [↓Within.upd_hy lhy]
        | apply Within.ite | apply WithinNext.ite | dsimp only | apply Within.foldl | apply Within.foldlBy Prod.snd
        | apply Within.foldlBy Prod.fst | intro _ | split | apply Within.snd_of (by assumption))

/-! ### Machine/Attach -/

theorem within_detach (wHI_CTX_STAT : ∀ i, P (R.HI_CTX_STAT i)) (wHI_RING_STAT : ∀ i, P (R.HI_RING_STAT i)) (lhi : L .hi)
    (lraised : L .raised) (s : State) (c : Nat) : Within P L s (State.detach s c) := by
  unfold State.detach
  with_reducible
    repeat' (first
        | apply Within.refl | assumption | apply Within.trans _ (within_put ?_ ..)
        | apply Within.trans _ (within_raise lraised ..) | simp only [↓Within.upd_hi lhi] | apply Within.ite | apply wHI_CTX_STAT
        | apply wHI_RING_STAT | dsimp only | apply Within.foldl | apply Within.foldlBy Prod.snd | apply Within.foldlBy Prod.fst
        | intro _ | split)

theorem within_linkDown (wHI_CTX_STAT : ∀ i, P (R.HI_CTX_STAT i)) (wHI_RING_STAT : ∀ i, P (R.HI_RING_STAT i)) (lhi : L .hi)
    (lraised : L .raised) (s : State) (f : Nat) : Within P L s (State.linkDown s f) := by
  unfold State.linkDown
  with_reducible
    repeat' (first
        | apply Within.refl | assumption | apply Within.trans _ (within_detach wHI_CTX_STAT wHI_RING_STAT lhi lraised ..)
        | simp only [↓Within.upd_hi lhi] | apply Within.ite | dsimp only | apply Within.foldl | apply Within.foldlBy Prod.snd
        | apply Within.foldlBy Prod.fst | intro _ | split)

theorem within_execPcieLinkDown (wHI_CTX_STAT : ∀ i, P (R.HI_CTX_STAT i)) (wHI_RING_STAT : ∀ i, P (R.HI_RING_STAT i))
    (lhi : L .hi) (lraised : L .raised) (f : Fin 2) (s : State) : WithinNext P L s (execPcieLinkDown f s) := by
  unfold execPcieLinkDown
  with_reducible
    repeat' (first
        | apply Within.refl | assumption | apply Within.trans _ (within_linkDown wHI_CTX_STAT wHI_RING_STAT lhi lraised ..)
        | apply WithinNext.next | apply Within.ite | apply WithinNext.ite | dsimp only | split)

theorem within_ringOff (wDMA_CH_CFG : ∀ i, P (R.DMA_CH_CFG i)) (wDMA_CH_STAT : ∀ i, P (R.DMA_CH_STAT i))
    (wDMA_STATUS : P R.DMA_STATUS) (wHI_RING_CFG : ∀ i, P (R.HI_RING_CFG i)) (wHI_RING_STAT : ∀ i, P (R.HI_RING_STAT i))
    (ldma : L .dma) (s : State) (r : Nat) : Within P L s (State.ringOff s r) := by
  unfold State.ringOff
  with_reducible
    repeat' (first
        | apply Within.refl | assumption | apply Within.trans _ (within_put ?_ ..) | apply Within.trans _ (within_setFlag ?_ ..)
        | apply Within.trans _ (within_chReset wDMA_CH_CFG wDMA_CH_STAT wDMA_STATUS ldma ..) | apply Within.ite
        | apply wHI_RING_CFG | apply wHI_RING_STAT | dsimp only | split)

theorem within_attach (wDMA_CH_CFG : ∀ i, P (R.DMA_CH_CFG i)) (wDMA_CH_STAT : ∀ i, P (R.DMA_CH_STAT i))
    (wDMA_STATUS : P R.DMA_STATUS) (wHI_CTX_STAT : ∀ i, P (R.HI_CTX_STAT i)) (wHI_MODE_LEASE : P R.HI_MODE_LEASE)
    (wHI_RING_CFG : ∀ i, P (R.HI_RING_CFG i)) (wHI_RING_STAT : ∀ i, P (R.HI_RING_STAT i)) (ldma : L .dma) (lraised : L .raised)
    (s : State) (c : Nat) : Within P L s (State.attach s c) := by
  unfold State.attach
  with_reducible
    repeat' (first
        | apply Within.refl | assumption
        | apply Within.trans _ (within_ringOff wDMA_CH_CFG wDMA_CH_STAT wDMA_STATUS wHI_RING_CFG wHI_RING_STAT ldma ..)
        | apply Within.trans _ (within_raise lraised ..) | apply Within.trans _ (within_put ?_ ..)
        | apply Within.trans _ (within_setHolder wHI_CTX_STAT wHI_MODE_LEASE lraised ..) | apply Within.ite | apply wHI_CTX_STAT
        | dsimp only | apply Within.foldl | apply Within.foldlBy Prod.snd | apply Within.foldlBy Prod.fst | intro _ | split)

theorem within_execPcieLinkUp (wDMA_CH_CFG : ∀ i, P (R.DMA_CH_CFG i)) (wDMA_CH_STAT : ∀ i, P (R.DMA_CH_STAT i))
    (wDMA_STATUS : P R.DMA_STATUS) (wHI_CTX_STAT : ∀ i, P (R.HI_CTX_STAT i)) (wHI_MODE_LEASE : P R.HI_MODE_LEASE)
    (wHI_RING_CFG : ∀ i, P (R.HI_RING_CFG i)) (wHI_RING_STAT : ∀ i, P (R.HI_RING_STAT i)) (ldma : L .dma) (lhi : L .hi)
    (lraised : L .raised) (f : Fin 2) (s : State) : WithinNext P L s (execPcieLinkUp f s) := by
  unfold execPcieLinkUp
  with_reducible
    repeat' (first
        | apply Within.refl | assumption
        | apply Within.trans _ (within_attach wDMA_CH_CFG wDMA_CH_STAT wDMA_STATUS wHI_CTX_STAT wHI_MODE_LEASE wHI_RING_CFG wHI_RING_STAT ldma lraised ..)
        | apply WithinNext.when_ | apply WithinNext.next | simp only [↓Within.upd_hi lhi] | apply Within.ite
        | apply WithinNext.ite | dsimp only | apply Within.foldl | apply Within.foldlBy Prod.snd | apply Within.foldlBy Prod.fst
        | intro _ | split)

theorem within_execInbandSilenceTimeout (wHI_CTX_STAT : ∀ i, P (R.HI_CTX_STAT i)) (wHI_RING_STAT : ∀ i, P (R.HI_RING_STAT i))
    (lhi : L .hi) (lraised : L .raised) (c : Fin 8) (s : State) : WithinNext P L s (execInbandSilenceTimeout c s) := by
  unfold execInbandSilenceTimeout
  with_reducible
    repeat' (first
        | apply Within.refl | assumption | apply Within.trans _ (within_detach wHI_CTX_STAT wHI_RING_STAT lhi lraised ..)
        | apply WithinNext.when_ | apply WithinNext.next | apply Within.ite | apply WithinNext.ite | dsimp only | split)

theorem within_execPerstAssert (wHI_CTX_STAT : ∀ i, P (R.HI_CTX_STAT i)) (wHI_RING_STAT : ∀ i, P (R.HI_RING_STAT i))
    (lhi : L .hi) (lpins : L .pins) (lraised : L .raised) (which : Fin 2) (s : State) :
    WithinNext P L s (execPerstAssert which s) := by
  unfold execPerstAssert
  with_reducible
    repeat' (first
        | apply Within.refl | assumption | apply Within.trans _ (within_linkDown wHI_CTX_STAT wHI_RING_STAT lhi lraised ..)
        | apply WithinNext.next | simp only [↓Within.upd_pins_hi lpins lhi] | apply Within.ite | apply WithinNext.ite | dsimp only
        | apply Within.foldl | apply Within.foldlBy Prod.snd | apply Within.foldlBy Prod.fst | intro _ | split)

theorem within_execPerstRelease (wPM_MODE : P R.PM_MODE) (lpins : L .pins) (lpm : L .pm) (which : Fin 2) (s : State) :
    WithinNext P L s (execPerstRelease which s) := by
  unfold execPerstRelease
  with_reducible
    repeat' (first
        | apply Within.refl | assumption | apply Within.trans _ (within_thawTrigger wPM_MODE lpm ..) | apply WithinNext.next
        | simp only [↓Within.upd_pins lpins] | apply Within.ite | apply WithinNext.ite | dsimp only | split)

end Sys2Proof.Machine
end

