-- ==== Sys2Proof/Laws/Within5.lean ====
section
/-! SUPPORT. What the operations and the commands of these files leave alone: Machine/Time, Access, JournalDone, Modes, BootEnd. -/

namespace Sys2Proof.Machine

variable {P : Nat → Prop} {L : Part → Prop}

/-! ### Machine/Time -/

theorem within_showDom (wTS_DOM_FREQ : ∀ i, P (R.TS_DOM_FREQ i)) (wTS_DOM_STAT : ∀ i, P (R.TS_DOM_STAT i))
    (wTS_DOM_VOFS : ∀ i, P (R.TS_DOM_VOFS i)) (wTS_DOM_VOFS4 : ∀ i, P (R.TS_DOM_VOFS i + 4)) (lfree : L .free) (s : State)
    (d : Nat) : Within P L s (State.showDom s d) := by
  unfold State.showDom
  with_reducible
    repeat' (first
        | apply Within.refl | assumption | apply Within.trans _ (within_divFree lfree ..)
        | apply Within.trans _ (within_wrN ?_ ..) | apply Within.trans _ (within_put64 ?_ ?_ ..)
        | apply Within.trans _ (within_setFlag ?_ ..) | apply Within.ite | apply wTS_DOM_FREQ | apply wTS_DOM_STAT
        | apply wTS_DOM_VOFS | apply wTS_DOM_VOFS4 | dsimp only | split | apply Within.snd_of (by assumption))

theorem within_setTime (lts : L .ts) (s : State) (d : Nat) (x : TimeDom) : Within P L s (State.setTime s d x) := by
  unfold State.setTime
  with_reducible
    repeat' (first
        | apply Within.refl | assumption | simp only [↓Within.upd_ts lts] | apply Within.ite | dsimp only | split)

theorem within_markSel (wTS_CTRL : P R.TS_CTRL) (wTS_DOM_STAT : ∀ i, P (R.TS_DOM_STAT i)) (wTS_STATUS : P R.TS_STATUS)
    (s : State) (d : Nat) : Within P L s (State.markSel s d) := by
  unfold State.markSel
  with_reducible
    repeat' (first
        | apply Within.refl | assumption | apply Within.trans _ (within_put ?_ ..) | apply Within.trans _ (within_setFlag ?_ ..)
        | apply Within.ite | apply wTS_CTRL | apply wTS_DOM_STAT | apply wTS_STATUS | dsimp only | split)

theorem within_servoOut (wTS_DOM_FREQ : ∀ i, P (R.TS_DOM_FREQ i)) (wTS_DOM_STAT : ∀ i, P (R.TS_DOM_STAT i))
    (wTS_DOM_VOFS : ∀ i, P (R.TS_DOM_VOFS i)) (wTS_DOM_VOFS4 : ∀ i, P (R.TS_DOM_VOFS i + 4)) (lfree : L .free)
    (lraised : L .raised) (lts : L .ts) (s : State) (d : Nat) (x : TimeDom) : Within P L s (State.servoOut s d x) := by
  unfold State.servoOut
  with_reducible
    repeat' (first
        | apply Within.refl | assumption | apply Within.trans _ (within_setFlag ?_ ..)
        | apply Within.trans _ (within_setTime lts ..) | apply Within.trans _ (within_raise lraised ..)
        | apply Within.trans _ (within_showDom wTS_DOM_FREQ wTS_DOM_STAT wTS_DOM_VOFS wTS_DOM_VOFS4 lfree ..) | apply Within.ite
        | apply wTS_DOM_STAT | dsimp only | split)

theorem within_stepCnt (wTS_CNT : P R.TS_CNT) (wTS_CNT4 : P (R.TS_CNT + 4)) (wTS_STATUS : P R.TS_STATUS) (lraised : L .raised)
    (s : State) (v : Int) : Within P L s (State.stepCnt s v) := by
  unfold State.stepCnt
  with_reducible
    repeat' (first
        | apply Within.refl | assumption | apply Within.trans _ (within_put64 ?_ ?_ ..)
        | apply Within.trans _ (within_raise lraised ..) | apply Within.trans _ (within_setFlag ?_ ..) | apply Within.ite
        | apply wTS_CNT | apply wTS_CNT4 | apply wTS_STATUS | dsimp only | split)

theorem within_select (wTS_CNT : P R.TS_CNT) (wTS_CNT4 : P (R.TS_CNT + 4)) (wTS_CTRL : P R.TS_CTRL)
    (wTS_DOM_FREQ : ∀ i, P (R.TS_DOM_FREQ i)) (wTS_DOM_STAT : ∀ i, P (R.TS_DOM_STAT i))
    (wTS_DOM_VOFS : ∀ i, P (R.TS_DOM_VOFS i)) (wTS_DOM_VOFS4 : ∀ i, P (R.TS_DOM_VOFS i + 4)) (wTS_STATUS : P R.TS_STATUS)
    (lfree : L .free) (lraised : L .raised) (lts : L .ts) (s : State) (d : Nat) : Within P L s (State.select s d) := by
  unfold State.select
  with_reducible
    repeat' (first
        | apply Within.refl | assumption
        | apply Within.trans _ (within_showDom wTS_DOM_FREQ wTS_DOM_STAT wTS_DOM_VOFS wTS_DOM_VOFS4 lfree ..)
        | apply Within.trans _ (within_setTime lts ..) | apply Within.trans _ (within_markSel wTS_CTRL wTS_DOM_STAT wTS_STATUS ..)
        | apply Within.trans _ (within_raise lraised ..)
        | apply Within.trans _ (within_servoOut wTS_DOM_FREQ wTS_DOM_STAT wTS_DOM_VOFS wTS_DOM_VOFS4 lfree lraised lts ..)
        | apply Within.trans _ (within_stepCnt wTS_CNT wTS_CNT4 wTS_STATUS lraised ..) | apply Within.ite | dsimp only | split)

theorem within_ppsTick (lpins : L .pins) (s : State) : Within P L s (State.ppsTick s) := by
  unfold State.ppsTick
  with_reducible
    repeat' (first
        | apply Within.refl | assumption | simp only [↓Within.upd_pins lpins] | apply Within.ite | dsimp only | split)

theorem within_setDomState (wTS_DOM_STAT : ∀ i, P (R.TS_DOM_STAT i)) (s : State) (d v : Nat) :
    Within P L s (State.setDomState s d v) := by
  unfold State.setDomState
  with_reducible
    repeat' (first
        | apply Within.refl | assumption | apply Within.trans _ (within_put ?_ ..) | apply Within.ite | apply wTS_DOM_STAT
        | dsimp only | split)

theorem within_accept (wTS_DOM_FREQ : ∀ i, P (R.TS_DOM_FREQ i)) (wTS_DOM_LAST : ∀ i, P (R.TS_DOM_LAST i))
    (wTS_DOM_STAT : ∀ i, P (R.TS_DOM_STAT i)) (wTS_DOM_VOFS : ∀ i, P (R.TS_DOM_VOFS i))
    (wTS_DOM_VOFS4 : ∀ i, P (R.TS_DOM_VOFS i + 4)) (lfree : L .free) (lraised : L .raised) (lts : L .ts) (s : State) (d : Nat)
    (raw e : Int) : Within P L s (State.accept s d raw e) := by
  unfold State.accept
  with_reducible
    repeat' (first
        | apply Within.refl | assumption | apply Within.trans _ (within_incWrap ?_ ..) | apply Within.trans _ (within_wrN ?_ ..)
        | apply Within.trans _ (within_raise lraised ..) | apply Within.trans _ (within_setDomState wTS_DOM_STAT ..)
        | apply Within.trans _ (within_servoOut wTS_DOM_FREQ wTS_DOM_STAT wTS_DOM_VOFS wTS_DOM_VOFS4 lfree lraised lts ..)
        | apply Within.ite | apply wTS_DOM_LAST | apply wTS_DOM_STAT | dsimp only | split)

theorem within_stepOut (wTS_CNT : P R.TS_CNT) (wTS_CNT4 : P (R.TS_CNT + 4)) (wTS_DOM_FREQ : ∀ i, P (R.TS_DOM_FREQ i))
    (wTS_DOM_LAST : ∀ i, P (R.TS_DOM_LAST i)) (wTS_DOM_STAT : ∀ i, P (R.TS_DOM_STAT i))
    (wTS_DOM_VOFS : ∀ i, P (R.TS_DOM_VOFS i)) (wTS_DOM_VOFS4 : ∀ i, P (R.TS_DOM_VOFS i + 4)) (wTS_STATUS : P R.TS_STATUS)
    (lfree : L .free) (lraised : L .raised) (lts : L .ts) (s : State) (d : Nat) (e : Int) :
    Within P L s (State.stepOut s d e) := by
  unfold State.stepOut
  with_reducible
    repeat' (first
        | apply Within.refl | assumption
        | apply Within.trans _ (within_accept wTS_DOM_FREQ wTS_DOM_LAST wTS_DOM_STAT wTS_DOM_VOFS wTS_DOM_VOFS4 lfree lraised lts ..)
        | apply Within.trans _ (within_setTime lts ..)
        | apply Within.trans _ (within_stepCnt wTS_CNT wTS_CNT4 wTS_STATUS lraised ..) | apply Within.ite | dsimp only | split)

theorem within_execServoUpdate (wTS_CNT : P R.TS_CNT) (wTS_CNT4 : P (R.TS_CNT + 4)) (wTS_DOM_FREQ : ∀ i, P (R.TS_DOM_FREQ i))
    (wTS_DOM_LAST : ∀ i, P (R.TS_DOM_LAST i)) (wTS_DOM_STAT : ∀ i, P (R.TS_DOM_STAT i))
    (wTS_DOM_VOFS : ∀ i, P (R.TS_DOM_VOFS i)) (wTS_DOM_VOFS4 : ∀ i, P (R.TS_DOM_VOFS i + 4))
    (wTS_SAMPLE_REJ_CNT : ∀ i, P (R.TS_SAMPLE_REJ_CNT i)) (wTS_STATUS : P R.TS_STATUS) (lfree : L .free) (lmarks : L .marks)
    (lraised : L .raised) (lts : L .ts) (d : Fin 2) (s : State) : WithinNext P L s (execServoUpdate d s) := by
  unfold execServoUpdate
  with_reducible
    repeat' (first
        | apply Within.refl | assumption | apply Within.trans _ (within_setTime lts ..)
        | apply Within.trans _ (within_count lmarks ?_ ..) | apply Within.trans _ (within_setDomState wTS_DOM_STAT ..)
        | apply Within.trans _ (within_stepOut wTS_CNT wTS_CNT4 wTS_DOM_FREQ wTS_DOM_LAST wTS_DOM_STAT wTS_DOM_VOFS wTS_DOM_VOFS4 wTS_STATUS lfree lraised lts ..)
        | apply Within.trans _ (within_accept wTS_DOM_FREQ wTS_DOM_LAST wTS_DOM_STAT wTS_DOM_VOFS wTS_DOM_VOFS4 lfree lraised lts ..)
        | apply WithinNext.next | apply Within.ite | apply WithinNext.ite | apply wTS_SAMPLE_REJ_CNT | dsimp only | split)

theorem within_newInc (wTS_INC_CUR : P R.TS_INC_CUR) (wTS_INC_CUR4 : P (R.TS_INC_CUR + 4)) (wTS_PLL_STEER : P R.TS_PLL_STEER)
    (lfree : L .free) (lts : L .ts) (s : State) : Within P L s (State.newInc s) := by
  unfold State.newInc
  with_reducible
    repeat' (first
        | apply Within.refl | assumption | apply Within.trans _ (within_divFree lfree ..)
        | apply Within.trans _ (within_put64 ?_ ?_ ..) | apply Within.trans _ (within_wrN ?_ ..) | simp only [↓Within.upd_ts lts]
        | apply Within.ite | apply wTS_INC_CUR | apply wTS_INC_CUR4 | apply wTS_PLL_STEER | dsimp only | split
        | apply Within.snd_of (by assumption))

theorem within_qlSelect (wTS_STATUS : P R.TS_STATUS) (wTS_SYNCE_CFG : P R.TS_SYNCE_CFG) (s : State) :
    Within P L s (State.qlSelect s) := by
  unfold State.qlSelect
  with_reducible
    repeat' (first
        | apply Within.refl | assumption | apply Within.trans _ (within_setFlag ?_ ..) | apply Within.trans _ (within_put ?_ ..)
        | apply Within.ite | apply wTS_STATUS | apply wTS_SYNCE_CFG | dsimp only | apply Within.foldl
        | apply Within.foldlBy Prod.snd | apply Within.foldlBy Prod.fst | intro _ | split)

theorem within_execEsmcFrame (wTS_STATUS : P R.TS_STATUS) (wTS_SYNCE_CFG : P R.TS_SYNCE_CFG) (lfh : L .fh) (lts : L .ts)
    (g : Fin 4) (ql : BitVec 4) (s : State) : WithinNext P L s (execEsmcFrame g ql s) := by
  unfold execEsmcFrame
  with_reducible
    repeat' (first
        | apply Within.refl | assumption | apply Within.trans _ (within_rxTake lfh ..)
        | apply Within.trans _ (within_qlSelect wTS_STATUS wTS_SYNCE_CFG ..) | apply WithinNext.next
        | simp only [↓Within.upd_ts lts] | apply Within.ite | apply WithinNext.ite | dsimp only | split)

theorem within_autoSelect (wTS_CNT : P R.TS_CNT) (wTS_CNT4 : P (R.TS_CNT + 4)) (wTS_CTRL : P R.TS_CTRL)
    (wTS_DOM_FREQ : ∀ i, P (R.TS_DOM_FREQ i)) (wTS_DOM_STAT : ∀ i, P (R.TS_DOM_STAT i))
    (wTS_DOM_VOFS : ∀ i, P (R.TS_DOM_VOFS i)) (wTS_DOM_VOFS4 : ∀ i, P (R.TS_DOM_VOFS i + 4)) (wTS_STATUS : P R.TS_STATUS)
    (lfree : L .free) (lraised : L .raised) (lts : L .ts) (s : State) (d : Nat) : Within P L s (State.autoSelect s d) := by
  unfold State.autoSelect
  with_reducible
    repeat' (first
        | apply Within.refl | assumption
        | apply Within.trans _ (within_select wTS_CNT wTS_CNT4 wTS_CTRL wTS_DOM_FREQ wTS_DOM_STAT wTS_DOM_VOFS wTS_DOM_VOFS4 wTS_STATUS lfree lraised lts ..)
        | apply Within.ite | dsimp only | split)

theorem within_execHoldoverTimeout (wTS_CNT : P R.TS_CNT) (wTS_CNT4 : P (R.TS_CNT + 4)) (wTS_CTRL : P R.TS_CTRL)
    (wTS_DOM_FREQ : ∀ i, P (R.TS_DOM_FREQ i)) (wTS_DOM_STAT : ∀ i, P (R.TS_DOM_STAT i))
    (wTS_DOM_VOFS : ∀ i, P (R.TS_DOM_VOFS i)) (wTS_DOM_VOFS4 : ∀ i, P (R.TS_DOM_VOFS i + 4)) (wTS_STATUS : P R.TS_STATUS)
    (lfree : L .free) (lraised : L .raised) (lts : L .ts) (d : Fin 2) (s : State) :
    WithinNext P L s (execHoldoverTimeout d s) := by
  unfold execHoldoverTimeout
  with_reducible
    repeat' (first
        | apply Within.refl | assumption
        | apply Within.trans _ (within_autoSelect wTS_CNT wTS_CNT4 wTS_CTRL wTS_DOM_FREQ wTS_DOM_STAT wTS_DOM_VOFS wTS_DOM_VOFS4 wTS_STATUS lfree lraised lts ..)
        | apply Within.trans _ (within_raise lraised ..)
        | apply Within.trans _ (within_servoOut wTS_DOM_FREQ wTS_DOM_STAT wTS_DOM_VOFS wTS_DOM_VOFS4 lfree lraised lts ..)
        | apply Within.trans _ (within_setDomState wTS_DOM_STAT ..) | apply WithinNext.next | apply Within.ite
        | apply WithinNext.ite | dsimp only | split)

theorem within_execSynceGateEnd (wTS_DOM_FREQ : ∀ i, P (R.TS_DOM_FREQ i)) (wTS_DOM_STAT : ∀ i, P (R.TS_DOM_STAT i))
    (wTS_DOM_VOFS : ∀ i, P (R.TS_DOM_VOFS i)) (wTS_DOM_VOFS4 : ∀ i, P (R.TS_DOM_VOFS i + 4)) (wTS_STATUS : P R.TS_STATUS)
    (wTS_SYNCE_MEAS : P R.TS_SYNCE_MEAS) (lfree : L .free) (lraised : L .raised) (lts : L .ts) (meas : BitVec 32) (s : State) :
    WithinNext P L s (execSynceGateEnd meas s) := by
  unfold execSynceGateEnd
  with_reducible
    repeat' (first
        | apply Within.refl | assumption | apply Within.trans _ (within_synceLost wTS_STATUS lraised ..)
        | apply Within.trans _ (within_setFlag ?_ ..) | apply Within.trans _ (within_wr ?_ ..)
        | apply Within.trans _ (within_servoOut wTS_DOM_FREQ wTS_DOM_STAT wTS_DOM_VOFS wTS_DOM_VOFS4 lfree lraised lts ..)
        | apply WithinNext.next | simp only [↓Within.upd_ts lts] | apply Within.ite | apply WithinNext.ite | apply wTS_STATUS
        | apply wTS_SYNCE_MEAS | dsimp only | apply Within.foldl | apply Within.foldlBy Prod.snd | apply Within.foldlBy Prod.fst
        | intro _ | split)

theorem within_tsTick (wTS_CNT : P R.TS_CNT) (wTS_CNT4 : P (R.TS_CNT + 4)) (wTS_DOM_STAT : ∀ i, P (R.TS_DOM_STAT i))
    (wTS_DOM_VOFS : ∀ i, P (R.TS_DOM_VOFS i)) (wTS_DOM_VOFS4 : ∀ i, P (R.TS_DOM_VOFS i + 4)) (lts : L .ts) (s : State) :
    Within P L s (State.tsTick s) := by
  unfold State.tsTick
  with_reducible
    repeat' (first
        | apply Within.refl | assumption | apply Within.trans _ (within_put64 ?_ ?_ ..)
        | apply Within.trans _ (within_setTime lts ..) | apply Within.trans _ (within_setFlag ?_ ..) | apply Within.ite
        | apply wTS_CNT | apply wTS_CNT4 | apply wTS_DOM_STAT | apply wTS_DOM_VOFS | apply wTS_DOM_VOFS4 | dsimp only
        | apply Within.foldl | apply Within.foldlBy Prod.snd | apply Within.foldlBy Prod.fst | intro _ | split)

theorem within_execRefclkReturn (wTS_STATUS : P R.TS_STATUS) (s : State) : WithinNext P L s (execRefclkReturn s) := by
  unfold execRefclkReturn
  with_reducible
    repeat' (first
        | apply Within.refl | assumption | apply Within.trans _ (within_setFlag ?_ ..) | apply WithinNext.when_
        | apply WithinNext.next | apply Within.ite | apply WithinNext.ite | apply wTS_STATUS | dsimp only | split)

theorem within_execPtpMessage (lfh : L .fh) (lts : L .ts) (g : Fin 4) (num : BitVec 8) (k : PtpKind) (s : State) :
    WithinNext P L s (execPtpMessage g num k s) := by
  unfold execPtpMessage
  with_reducible
    repeat' (first
        | apply Within.refl | assumption | apply Within.trans _ (within_rxTake lfh ..)
        | apply Within.trans _ (within_setTime lts ..) | apply WithinNext.next | apply Within.ite | apply WithinNext.ite
        | dsimp only | split)

theorem within_execTsCtrlStep (wTS_CNT : P R.TS_CNT) (wTS_CNT4 : P (R.TS_CNT + 4)) (wTS_STATUS : P R.TS_STATUS)
    (wTS_STEP_REFUSED_CNT : P R.TS_STEP_REFUSED_CNT) (lmarks : L .marks) (lraised : L .raised) (s : State) :
    WithinNext P L s (execTsCtrlStep s) := by
  unfold execTsCtrlStep
  with_reducible
    repeat' (first
        | apply Within.refl | assumption | apply Within.trans _ (within_count lmarks ?_ ..)
        | apply Within.trans _ (within_stepCnt wTS_CNT wTS_CNT4 wTS_STATUS lraised ..) | apply WithinNext.next | apply Within.ite
        | apply WithinNext.ite | apply wTS_STEP_REFUSED_CNT | dsimp only | split)

theorem within_sample (wTS_SAMPLE_REJ_CNT : ∀ i, P (R.TS_SAMPLE_REJ_CNT i)) (lmarks : L .marks) (lts : L .ts) (s : State)
    (d : Nat) (e : Int) : Within P L s (State.sample s d e) := by
  unfold State.sample
  with_reducible
    repeat' (first
        | apply Within.refl | assumption | apply Within.trans _ (within_count lmarks ?_ ..)
        | apply Within.trans _ (within_setTime lts ..) | apply Within.ite | apply wTS_SAMPLE_REJ_CNT | dsimp only | split)

theorem within_execTsDomOfsWrite (wTS_SAMPLE_REJ_CNT : ∀ i, P (R.TS_SAMPLE_REJ_CNT i)) (lmarks : L .marks) (lts : L .ts)
    (d : Fin 2) (e : BitVec 32) (s : State) : WithinNext P L s (execTsDomOfsWrite d e s) := by
  unfold execTsDomOfsWrite
  with_reducible
    repeat' (first
        | apply Within.refl | assumption | apply Within.trans _ (within_sample wTS_SAMPLE_REJ_CNT lmarks lts ..)
        | apply WithinNext.when_ | apply WithinNext.next | apply Within.ite | apply WithinNext.ite | dsimp only | split)

theorem within_esmcSend (wFH_DROP_CNT : ∀ i j, P (R.FH_DROP_CNT i j)) (lfh : L .fh) (lfree : L .free) (lmarks : L .marks)
    (lraised : L .raised) (lts : L .ts) (s : State) : Within P L s (State.esmcSend s) := by
  unfold State.esmcSend
  with_reducible
    repeat' (first
        | apply Within.refl | assumption | apply Within.trans _ (within_fresh lfree ..)
        | apply Within.trans _ (within_txQueue wFH_DROP_CNT lfh lmarks lraised ..) | simp only [↓Within.upd_ts lts]
        | apply Within.ite | dsimp only | apply Within.foldl | apply Within.foldlBy Prod.snd | apply Within.foldlBy Prod.fst
        | intro _ | split | apply Within.snd_of (by assumption))

theorem within_execEsmcSend (wFH_DROP_CNT : ∀ i j, P (R.FH_DROP_CNT i j)) (lfh : L .fh) (lfree : L .free) (lmarks : L .marks)
    (lraised : L .raised) (lts : L .ts) (s : State) : WithinNext P L s (execEsmcSend s) := by
  unfold execEsmcSend
  with_reducible
    repeat' (first
        | apply Within.refl | assumption | apply Within.trans _ (within_esmcSend wFH_DROP_CNT lfh lfree lmarks lraised lts ..)
        | apply WithinNext.when_ | apply WithinNext.next | apply Within.ite | apply WithinNext.ite | dsimp only | split)

theorem within_execPpsInTimeout (wTS_STATUS : P R.TS_STATUS) (lraised : L .raised) (lts : L .ts) (s : State) :
    WithinNext P L s (execPpsInTimeout s) := by
  unfold execPpsInTimeout
  with_reducible
    repeat' (first
        | apply Within.refl | assumption | apply Within.trans _ (within_raise lraised ..)
        | apply Within.trans _ (within_setFlag ?_ ..) | apply WithinNext.when_ | apply WithinNext.next
        | simp only [↓Within.upd_ts lts] | apply Within.ite | apply WithinNext.ite | apply wTS_STATUS | dsimp only | split)

theorem within_execPpsOutRise (lpins : L .pins) (s : State) : WithinNext P L s (execPpsOutRise s) := by
  unfold execPpsOutRise
  with_reducible
    repeat' (first
        | apply Within.refl | assumption | apply WithinNext.when_ | apply WithinNext.next | simp only [↓Within.upd_pins lpins]
        | apply Within.ite | apply WithinNext.ite | dsimp only | split)

theorem within_execIncRecompute (wTS_INC_CUR : P R.TS_INC_CUR) (wTS_INC_CUR4 : P (R.TS_INC_CUR + 4))
    (wTS_PLL_STEER : P R.TS_PLL_STEER) (lfree : L .free) (lts : L .ts) (s : State) : WithinNext P L s (execIncRecompute s) := by
  unfold execIncRecompute
  with_reducible
    repeat' (first
        | apply Within.refl | assumption
        | apply Within.trans _ (within_newInc wTS_INC_CUR wTS_INC_CUR4 wTS_PLL_STEER lfree lts ..) | apply WithinNext.when_
        | apply WithinNext.next | apply Within.ite | apply WithinNext.ite | dsimp only | split)

theorem within_execSecondEdge (wNVJ_TAI_SHADOW : P R.NVJ_TAI_SHADOW) (wNVJ_TAI_SHADOW4 : P (R.NVJ_TAI_SHADOW + 4))
    (wTS_PPS_NEXT : P R.TS_PPS_NEXT) (lhy : L .hy) (s : State) : WithinNext P L s (execSecondEdge s) := by
  unfold execSecondEdge
  with_reducible
    repeat' (first
        | apply Within.refl | assumption | apply Within.trans _ (within_put64 ?_ ?_ ..) | apply Within.trans _ (within_wrN ?_ ..)
        | apply WithinNext.when_ | apply WithinNext.next | simp only [↓Within.upd_hy lhy] | apply Within.ite
        | apply WithinNext.ite | apply wNVJ_TAI_SHADOW | apply wNVJ_TAI_SHADOW4 | apply wTS_PPS_NEXT | dsimp only | split)

theorem within_execPpsInEdge (wTS_PPS_GLITCH_CNT : P R.TS_PPS_GLITCH_CNT) (wTS_PPS_IN_TS : P R.TS_PPS_IN_TS)
    (wTS_SAMPLE_REJ_CNT : ∀ i, P (R.TS_SAMPLE_REJ_CNT i)) (wTS_STATUS : P R.TS_STATUS) (lmarks : L .marks) (lts : L .ts)
    (ts : BitVec 32) (s : State) : WithinNext P L s (execPpsInEdge ts s) := by
  unfold execPpsInEdge
  with_reducible
    repeat' (first
        | apply Within.refl | assumption | apply Within.trans _ (within_count lmarks ?_ ..)
        | apply Within.trans _ (within_wrN ?_ ..) | apply Within.trans _ (within_setFlag ?_ ..)
        | apply Within.trans _ (within_sample wTS_SAMPLE_REJ_CNT lmarks lts ..) | apply WithinNext.next
        | simp only [↓Within.upd_ts lts] | apply Within.ite | apply WithinNext.ite | apply wTS_PPS_GLITCH_CNT
        | apply wTS_PPS_IN_TS | apply wTS_STATUS | dsimp only | apply Within.foldl | apply Within.foldlBy Prod.snd
        | apply Within.foldlBy Prod.fst | intro _ | split)

theorem within_execPpsOutFall (lpins : L .pins) (s : State) : WithinNext P L s (execPpsOutFall s) := by
  unfold execPpsOutFall
  with_reducible
    repeat' (first
        | apply Within.refl | assumption | apply WithinNext.when_ | apply WithinNext.next | simp only [↓Within.upd_pins lpins]
        | apply Within.ite | apply WithinNext.ite | dsimp only | split)

theorem within_execTsCtrlSel (wTS_CNT : P R.TS_CNT) (wTS_CNT4 : P (R.TS_CNT + 4)) (wTS_CTRL : P R.TS_CTRL)
    (wTS_DOM_FREQ : ∀ i, P (R.TS_DOM_FREQ i)) (wTS_DOM_STAT : ∀ i, P (R.TS_DOM_STAT i))
    (wTS_DOM_VOFS : ∀ i, P (R.TS_DOM_VOFS i)) (wTS_DOM_VOFS4 : ∀ i, P (R.TS_DOM_VOFS i + 4)) (wTS_STATUS : P R.TS_STATUS)
    (lfree : L .free) (lraised : L .raised) (lts : L .ts) (d : Fin 2) (s : State) : WithinNext P L s (execTsCtrlSel d s) := by
  unfold execTsCtrlSel
  with_reducible
    repeat' (first
        | apply Within.refl | assumption
        | apply Within.trans _ (within_select wTS_CNT wTS_CNT4 wTS_CTRL wTS_DOM_FREQ wTS_DOM_STAT wTS_DOM_VOFS wTS_DOM_VOFS4 wTS_STATUS lfree lraised lts ..)
        | apply WithinNext.when_ | apply WithinNext.next | apply Within.ite | apply WithinNext.ite | dsimp only | split)

theorem within_execRefclkLoss (wTS_STATUS : P R.TS_STATUS) (lraised : L .raised) (s : State) :
    WithinNext P L s (execRefclkLoss s) := by
  unfold execRefclkLoss
  with_reducible
    repeat' (first
        | apply Within.refl | assumption | apply Within.trans _ (within_raise lraised ..)
        | apply Within.trans _ (within_setFlag ?_ ..) | apply WithinNext.when_ | apply WithinNext.next | apply Within.ite
        | apply WithinNext.ite | apply wTS_STATUS | dsimp only | split)

/-! ### Machine/Access -/

theorem within_consWrite (wHI_RING_CONS : ∀ i, P (R.HI_RING_CONS i)) (wHI_RING_PROD : ∀ i, P (R.HI_RING_PROD i))
    (wHI_RING_STAT : ∀ i, P (R.HI_RING_STAT i)) (lhi : L .hi) (lmem : L .mem) (lraised : L .raised) (s : State) (r : Nat)
    (v : Word) : Within P L s (State.consWrite s r v) := by
  unfold State.consWrite
  with_reducible
    repeat' (first
        | apply Within.refl | assumption | apply Within.trans _ (within_put ?_ ..)
        | apply Within.trans _ (within_ringError wHI_RING_STAT lraised ..)
        | apply Within.trans _ (within_overflowRecord wHI_RING_PROD lhi lmem ..) | simp only [↓Within.upd_hi lhi]
        | apply Within.ite | apply wHI_RING_CONS | dsimp only | split)

theorem within_prodWrite (wDMA_CH_CUR : ∀ i, P (R.DMA_CH_CUR i)) (wDMA_CH_CUR4 : ∀ i, P (R.DMA_CH_CUR i + 4))
    (wDMA_CH_STAT : ∀ i, P (R.DMA_CH_STAT i)) (wHI_DECODE_ERR_CNT : P R.HI_DECODE_ERR_CNT)
    (wHI_RING_PROD : ∀ i, P (R.HI_RING_PROD i)) (wHI_RING_STAT : ∀ i, P (R.HI_RING_STAT i)) (ldma : L .dma) (lhi : L .hi)
    (lmarks : L .marks) (lraised : L .raised) (s : State) (r : Nat) (v : Word) : Within P L s (State.prodWrite s r v) := by
  unfold State.prodWrite
  with_reducible
    repeat' (first
        | apply Within.refl | assumption | apply Within.trans _ (within_put ?_ ..)
        | apply Within.trans _ (within_ringError wHI_RING_STAT lraised ..)
        | apply Within.trans _ (within_bulkBell wDMA_CH_CUR wDMA_CH_CUR4 wDMA_CH_STAT wHI_DECODE_ERR_CNT ldma lmarks lraised ..)
        | simp only [↓Within.upd_hi lhi] | apply Within.ite | apply wHI_RING_PROD | dsimp only | split)

theorem within_writeAs {s t : State} {w : Width} {a : Nat} (h : Within P L s t) : Within P L s (s.writeAs w a t) :=
  .ite h (.refl s)

theorem within_regWrite (wAny : ∀ a, P a) (s : State) (a : Nat) (v : Word) : Within P L s (s.regWrite a v) := by
  unfold State.regWrite
  split
  · exact .refl s
  · exact .ite (within_wr (wAny _) _) (within_wr (wAny _) _)

theorem within_ringCfg (wDMA_CH_CFG : ∀ i, P (R.DMA_CH_CFG i)) (wDMA_CH_CUR : ∀ i, P (R.DMA_CH_CUR i))
    (wDMA_CH_CUR4 : ∀ i, P (R.DMA_CH_CUR i + 4)) (wDMA_CH_STAT : ∀ i, P (R.DMA_CH_STAT i)) (wDMA_STATUS : P R.DMA_STATUS)
    (wHI_DECODE_ERR_CNT : P R.HI_DECODE_ERR_CNT) (wHI_RING_CFG : ∀ i, P (R.HI_RING_CFG i))
    (wHI_RING_CONS : ∀ i, P (R.HI_RING_CONS i)) (wHI_RING_PROD : ∀ i, P (R.HI_RING_PROD i))
    (wHI_RING_STAT : ∀ i, P (R.HI_RING_STAT i)) (ldma : L .dma) (lhi : L .hi) (lmarks : L .marks) (lraised : L .raised)
    (s : State) (r : Nat) (v : Word) : Within P L s (State.ringCfg s r v) := by
  unfold State.ringCfg
  with_reducible
    repeat' (first
        | apply Within.refl | assumption
        | apply Within.trans _ (within_ringOff wDMA_CH_CFG wDMA_CH_STAT wDMA_STATUS wHI_RING_CFG wHI_RING_STAT ldma ..)
        | apply Within.trans _ (within_wr ?_ ..) | apply Within.trans _ (within_setFlag ?_ ..)
        | apply Within.trans _ (within_put ?_ ..) | apply Within.trans _ (within_ringError wHI_RING_STAT lraised ..)
        | apply Within.trans _ (within_chStart wDMA_CH_CFG wDMA_CH_CUR wDMA_CH_CUR4 wDMA_CH_STAT wHI_DECODE_ERR_CNT ldma lmarks lraised ..)
        | simp only [↓Within.upd_hi lhi] | apply Within.ite | apply wHI_RING_CFG | apply wHI_RING_CONS | apply wHI_RING_PROD
        | apply wHI_RING_STAT | dsimp only | split)

theorem within_posNext (lhi : L .hi) (s : State) (r : Nat) : Within P L s (State.posNext s r) := by
  unfold State.posNext
  with_reducible
    repeat' (first
        | apply Within.refl | assumption | simp only [↓Within.upd_hi lhi] | apply Within.ite | dsimp only | split)

theorem within_dataWrite (wHI_DECODE_ERR_CNT : P R.HI_DECODE_ERR_CNT) (lhi : L .hi) (lmarks : L .marks) (lmem : L .mem)
    (lraised : L .raised) (s : State) (r : Nat) (v : Word) : Within P L s (State.dataWrite s r v) := by
  unfold State.dataWrite
  with_reducible
    repeat' (first
        | apply Within.refl | assumption | apply Within.trans _ (within_posNext lhi ..)
        | apply Within.trans _ (within_store wHI_DECODE_ERR_CNT lmarks lmem lraised ..) | apply Within.ite | dsimp only | split)

theorem within_tlCtrlWrite (wAny : ∀ a, P a) (ltl : L .tl) (s : State) (v : Word) : Within P L s (State.tlCtrlWrite s v) := by
  unfold State.tlCtrlWrite
  with_reducible
    repeat' (first
        | apply Within.refl | assumption | apply Within.trans _ (within_regWrite wAny ..)
        | apply Within.trans _ (within_setFlag ?_ ..) | apply within_act | apply within_execTlCtrlAlign ltl | apply Within.ite
        | apply wAny | dsimp only | intro _ | split)

theorem within_tsCtrlWrite (wTS_CNT : P R.TS_CNT) (wTS_CNT4 : P (R.TS_CNT + 4)) (wTS_CTRL : P R.TS_CTRL)
    (wTS_DOM_FREQ : ∀ i, P (R.TS_DOM_FREQ i)) (wTS_DOM_STAT : ∀ i, P (R.TS_DOM_STAT i))
    (wTS_DOM_VOFS : ∀ i, P (R.TS_DOM_VOFS i)) (wTS_DOM_VOFS4 : ∀ i, P (R.TS_DOM_VOFS i + 4)) (wTS_STATUS : P R.TS_STATUS)
    (wTS_STEP_REFUSED_CNT : P R.TS_STEP_REFUSED_CNT) (lfree : L .free) (lmarks : L .marks) (lraised : L .raised) (lts : L .ts)
    (s : State) (v : Word) (dbg : Bool) : Within P L s (State.tsCtrlWrite s v dbg) := by
  unfold State.tsCtrlWrite
  with_reducible
    repeat' (first
        | apply Within.refl | assumption | apply Within.trans _ (within_setFlag ?_ ..) | apply within_act
        | apply within_execTsCtrlSel wTS_CNT wTS_CNT4 wTS_CTRL wTS_DOM_FREQ wTS_DOM_STAT wTS_DOM_VOFS wTS_DOM_VOFS4 wTS_STATUS lfree lraised lts
        | apply within_execTsCtrlStep wTS_CNT wTS_CNT4 wTS_STATUS wTS_STEP_REFUSED_CNT lmarks lraised | apply Within.ite
        | apply wTS_CTRL | dsimp only | intro _ | split)

theorem within_dmaCfgWrite (wAny : ∀ a, P a) (ldma : L .dma) (lmarks : L .marks) (lraised : L .raised) (s : State) (c : Nat)
    (v : Word) : Within P L s (State.dmaCfgWrite s c v) := by
  unfold State.dmaCfgWrite
  with_reducible
    repeat' (first
        | apply Within.refl | assumption | apply Within.trans _ (within_setFlag ?_ ..)
        | apply Within.trans _ (within_regWrite wAny ..)
        | apply Within.trans _ (within_chReset (fun _ => wAny _) (fun _ => wAny _) (wAny _) ldma ..)
        | apply Within.trans _ (within_chStart (fun _ => wAny _) (fun _ => wAny _) (fun _ => wAny _) (fun _ => wAny _) (wAny _) ldma lmarks lraised ..)
        | apply Within.trans _ (within_chDisable (fun _ => wAny _) (fun _ => wAny _) ldma lraised ..) | apply Within.ite
        | apply wAny | dsimp only | split)

theorem within_actionWrite (wAny : ∀ a, P a) (ldma : L .dma) (lfree : L .free) (lhi : L .hi) (lmarks : L .marks) (lnvj : L .nvj)
    (lpm : L .pm) (lraised : L .raised) (ltl : L .tl) (lts : L .ts) (s : State) (a : Nat) (v : Word) (dbg : Bool) :
    ∀ {o}, (State.actionWrite s a v dbg) = some o → Within P L s o := by
  intro o h
  unfold State.actionWrite at h
  revert h
  with_reducible
    repeat' (first
        | apply Within.refl | assumption | apply Within.trans _ (within_uartPut lhi ..)
        | apply Within.trans _ (within_i2cPut lhi ..) | apply within_act | apply within_execTlSfnLoad ltl
        | apply Within.trans _ (within_tlCtrlWrite wAny ltl ..)
        | apply Within.trans _ (within_tsCtrlWrite (wAny _) (wAny _) (wAny _) (fun _ => wAny _) (fun _ => wAny _) (fun _ => wAny _) (fun _ => wAny _) (wAny _) (wAny _) lfree lmarks lraised lts ..)
        | apply within_execJournalWriteStart (wAny _) lnvj | apply within_execPmWake (wAny _) lpm
        | apply within_execTsDomOfsWrite (fun _ => wAny _) lmarks lts | apply Within.trans _ (within_publish (fun _ => wAny _) ..)
        | apply Within.trans _ (within_patClear (fun _ => wAny _) (fun _ => wAny _) (fun _ => wAny _) (fun _ => wAny _) ..)
        | apply Within.trans _ (within_dmaCfgWrite wAny ldma lmarks lraised ..)
        | apply within_execDmaChDoorbell (fun _ => wAny _) (fun _ => wAny _) (fun _ => wAny _) (wAny _) ldma lmarks lraised
        | apply Within.ite | apply wAny | dsimp only | (intro h; first | (cases h; done) | injection h with h; subst h) | split
        | intro _ | split)

theorem within_plainWrite (wAny : ∀ a, P a) (ldfe : L .dfe) (ldma : L .dma) (lfree : L .free) (lhi : L .hi) (lmarks : L .marks)
    (lmc : L .mc) (lnvj : L .nvj) (lpm : L .pm) (lraised : L .raised) (ltl : L .tl) (lts : L .ts) (s : State) (a : Nat)
    (v : Word) (dbg : Bool) : Within P L s (State.plainWrite s a v dbg) := by
  unfold State.plainWrite
  with_reducible
    repeat' (first
        | apply Within.refl | assumption | apply Within.trans _ (within_regWrite wAny ..)
        | apply Within.trans _ (within_dpdEnable (fun _ => wAny _) ldfe ..)
        | apply Within.trans _ (within_actionWrite wAny ldma lfree lhi lmarks lnvj lpm lraised ltl lts _ _ _ _ (by assumption))
        | simp only [↓Within.upd_mc lmc] | apply Within.ite | apply wAny | dsimp only | split)

theorem within_dbgWrite (wAny : ∀ a, P a) (ldfe : L .dfe) (ldma : L .dma) (lfree : L .free) (lhi : L .hi) (lmarks : L .marks)
    (lmc : L .mc) (lnvj : L .nvj) (lpm : L .pm) (lraised : L .raised) (ltl : L .tl) (lts : L .ts) (s : State) (c ofs : Nat)
    (v : Word) : Within P L s (State.dbgWrite s c ofs v) := by
  unfold State.dbgWrite
  with_reducible
    repeat' (first
        | apply Within.refl | assumption | apply Within.trans _ (within_decodeErr (wAny _) lmarks lraised ..)
        | apply Within.trans _ (within_logRecord (wAny _) lnvj ..) | apply Within.trans _ (within_raise lraised ..)
        | apply Within.trans _ (within_plainWrite wAny ldfe ldma lfree lhi lmarks lmc lnvj lpm lraised ltl lts ..)
        | apply Within.trans _ (within_count lmarks ?_ ..) | apply Within.ite | apply wAny | dsimp only | split)

theorem within_bar0Write (wAny : ∀ a, P a) (ldfe : L .dfe) (ldma : L .dma) (lfree : L .free) (lhi : L .hi) (lmarks : L .marks)
    (lmc : L .mc) (lmem : L .mem) (lnvj : L .nvj) (lpm : L .pm) (lraised : L .raised) (ltl : L .tl) (lts : L .ts) (s : State)
    (att ofs : Nat) (v : Word) : Within P L s (State.bar0Write s att ofs v) := by
  unfold State.bar0Write
  with_reducible
    repeat' (first
        | apply Within.refl | assumption | apply Within.trans _ (within_regWrite wAny ..)
        | apply Within.trans _ (within_ringCfg (fun _ => wAny _) (fun _ => wAny _) (fun _ => wAny _) (fun _ => wAny _) (wAny _) (wAny _) (fun _ => wAny _) (fun _ => wAny _) (fun _ => wAny _) (fun _ => wAny _) ldma lhi lmarks lraised ..)
        | apply Within.trans _ (within_prodWrite (fun _ => wAny _) (fun _ => wAny _) (fun _ => wAny _) (wAny _) (fun _ => wAny _) (fun _ => wAny _) ldma lhi lmarks lraised ..)
        | apply Within.trans _ (within_consWrite (fun _ => wAny _) (fun _ => wAny _) (fun _ => wAny _) lhi lmem lraised ..)
        | apply Within.trans _ (within_dataWrite (wAny _) lhi lmarks lmem lraised ..)
        | apply Within.trans _ (within_dbgWrite wAny ldfe ldma lfree lhi lmarks lmc lnvj lpm lraised ltl lts ..)
        | apply Within.ite | apply wAny | dsimp only | split)

theorem within_execDebugWindowWrite (wAny : ∀ a, P a) (ldfe : L .dfe) (ldma : L .dma) (lfree : L .free) (lhi : L .hi)
    (lmarks : L .marks) (lmc : L .mc) (lmem : L .mem) (lnvj : L .nvj) (lpm : L .pm) (lraised : L .raised) (ltl : L .tl)
    (lts : L .ts) (att : Attachment × Width) (c : Fin 8) (ofs : BitVec 12) (v : Word) (s : State) :
    WithinNext P L s (execDebugWindowWrite att c ofs v s) := by
  unfold execDebugWindowWrite
  with_reducible
    repeat' (first
        | apply Within.refl | assumption | apply within_writeAs
        | apply Within.trans _ (within_bar0Write wAny ldfe ldma lfree lhi lmarks lmc lmem lnvj lpm lraised ltl lts ..)
        | apply WithinNext.when_ | apply WithinNext.next | apply Within.ite | apply WithinNext.ite | apply wAny | dsimp only
        | split)

theorem within_regRead (wHI_UART_RXD : P R.HI_UART_RXD) (wHK_FIFO_LVL : P R.HK_FIFO_LVL) (wHK_FIFO_RD : ∀ i, P (R.HK_FIFO_RD i))
    (wHK_FIFO_RD_HI : ∀ i, P (R.HK_FIFO_RD_HI i)) (wPM_I2C_RXD : P R.PM_I2C_RXD) (lfree : L .free) (lhi : L .hi) (lhk : L .hk)
    (llatch : L .latch) (s : State) (a : Nat) : Within P L s (State.regRead s a).2 := by
  unfold State.regRead
  with_reducible
    repeat' (first
        | apply Within.refl | assumption | apply Within.trans _ (within_fresh lfree ..)
        | apply Within.trans _ (within_hkPop wHK_FIFO_LVL wHK_FIFO_RD wHK_FIFO_RD_HI lhk ..)
        | apply Within.trans _ (within_uartPop wHI_UART_RXD wPM_I2C_RXD lhi ..)
        | apply Within.trans _ (within_i2cPop wHI_UART_RXD wPM_I2C_RXD lhi ..) | simp only [↓Within.upd_latch llatch]
        | apply Within.ite | apply Within.ite_snd | dsimp only | split | apply Within.snd_of (by assumption))

theorem within_dataRead (wHI_DECODE_ERR_CNT : P R.HI_DECODE_ERR_CNT) (lhi : L .hi) (lmarks : L .marks) (lraised : L .raised)
    (s : State) (r : Nat) : Within P L s (State.dataRead s r).2 := by
  unfold State.dataRead
  with_reducible
    repeat' (first
        | apply Within.refl | assumption | apply Within.trans _ (within_load wHI_DECODE_ERR_CNT lmarks lraised ..)
        | apply Within.trans _ (within_posNext lhi ..) | apply Within.ite | apply Within.ite_snd | dsimp only | split
        | apply Within.snd_of (by assumption))

theorem within_dbgRead (wHI_DBG_DENY_CNT : ∀ i, P (R.HI_DBG_DENY_CNT i)) (wHI_DECODE_ERR_CNT : P R.HI_DECODE_ERR_CNT)
    (wHI_UART_RXD : P R.HI_UART_RXD) (wHK_FIFO_LVL : P R.HK_FIFO_LVL) (wHK_FIFO_RD : ∀ i, P (R.HK_FIFO_RD i))
    (wHK_FIFO_RD_HI : ∀ i, P (R.HK_FIFO_RD_HI i)) (wPM_I2C_RXD : P R.PM_I2C_RXD) (lfree : L .free) (lhi : L .hi) (lhk : L .hk)
    (llatch : L .latch) (lmarks : L .marks) (lraised : L .raised) (s : State) (c ofs : Nat) :
    Within P L s (State.dbgRead s c ofs).2 := by
  unfold State.dbgRead
  with_reducible
    repeat' (first
        | apply Within.refl | assumption | apply Within.trans _ (within_decodeErr wHI_DECODE_ERR_CNT lmarks lraised ..)
        | apply Within.trans _ (within_count lmarks ?_ ..)
        | apply Within.trans _ (within_regRead wHI_UART_RXD wHK_FIFO_LVL wHK_FIFO_RD wHK_FIFO_RD_HI wPM_I2C_RXD lfree lhi lhk llatch ..)
        | apply Within.ite | apply Within.ite_snd | apply wHI_DBG_DENY_CNT | dsimp only | split
        | apply Within.snd_of (by assumption))

theorem within_bar0Read (wHI_DBG_DENY_CNT : ∀ i, P (R.HI_DBG_DENY_CNT i)) (wHI_DECODE_ERR_CNT : P R.HI_DECODE_ERR_CNT)
    (wHI_UART_RXD : P R.HI_UART_RXD) (wHK_FIFO_LVL : P R.HK_FIFO_LVL) (wHK_FIFO_RD : ∀ i, P (R.HK_FIFO_RD i))
    (wHK_FIFO_RD_HI : ∀ i, P (R.HK_FIFO_RD_HI i)) (wPM_I2C_RXD : P R.PM_I2C_RXD) (lfree : L .free) (lhi : L .hi) (lhk : L .hk)
    (llatch : L .latch) (lmarks : L .marks) (lraised : L .raised) (s : State) (att ofs : Nat) : Within P L s
    (State.bar0Read s att ofs).2 := by
  unfold State.bar0Read
  dsimp only
  with_reducible
    repeat' (first
      | apply Within.refl | apply within_regRead wHI_UART_RXD wHK_FIFO_LVL wHK_FIFO_RD wHK_FIFO_RD_HI wPM_I2C_RXD lfree lhi lhk llatch | apply within_dataRead wHI_DECODE_ERR_CNT lhi lmarks lraised | apply within_dbgRead wHI_DBG_DENY_CNT wHI_DECODE_ERR_CNT wHI_UART_RXD wHK_FIFO_LVL wHK_FIFO_RD wHK_FIFO_RD_HI wPM_I2C_RXD lfree lhi lhk llatch lmarks lraised
      | apply Within.ite_snd)

theorem within_answer (llastRead : L .lastRead) {s : State} {r : Word × State} (h : Within P L s r.2) : Within P L s (State.answer r) :=
  (Within.upd_lastRead llastRead).2 h

theorem within_readAs (llastRead : L .lastRead) {s : State} {r : Word × State} {w : Width} {a : Nat} (h : Within P L s r.2) :
    Within P L s (s.readAs w a r) := by
  unfold State.readAs
  exact .ite (within_answer llastRead h) (within_answer llastRead (.refl s))

theorem within_execDebugWindowRead (wHI_DBG_DENY_CNT : ∀ i, P (R.HI_DBG_DENY_CNT i))
    (wHI_DECODE_ERR_CNT : P R.HI_DECODE_ERR_CNT) (wHI_UART_RXD : P R.HI_UART_RXD) (wHK_FIFO_LVL : P R.HK_FIFO_LVL)
    (wHK_FIFO_RD : ∀ i, P (R.HK_FIFO_RD i)) (wHK_FIFO_RD_HI : ∀ i, P (R.HK_FIFO_RD_HI i)) (wPM_I2C_RXD : P R.PM_I2C_RXD)
    (lfree : L .free) (lhi : L .hi) (lhk : L .hk) (llastRead : L .lastRead) (llatch : L .latch) (lmarks : L .marks)
    (lraised : L .raised) (att : Attachment × Width) (c : Fin 8) (ofs : BitVec 12) (s : State) :
    WithinNext P L s (execDebugWindowRead att c ofs s) := by
  unfold execDebugWindowRead
  with_reducible
    repeat' (first
        | apply Within.refl | assumption | apply within_readAs llastRead
        | apply Within.trans _ (within_bar0Read wHI_DBG_DENY_CNT wHI_DECODE_ERR_CNT wHI_UART_RXD wHK_FIFO_LVL wHK_FIFO_RD wHK_FIFO_RD_HI wPM_I2C_RXD lfree lhi lhk llatch lmarks lraised ..)
        | apply WithinNext.when_ | apply WithinNext.next | apply Within.ite | apply WithinNext.ite | dsimp only | intro _ | split
        | apply Within.snd_of (by assumption))

theorem within_execRingEnable (wAny : ∀ a, P a) (ldfe : L .dfe) (ldma : L .dma) (lfree : L .free) (lhi : L .hi)
    (lmarks : L .marks) (lmc : L .mc) (lmem : L .mem) (lnvj : L .nvj) (lpm : L .pm) (lraised : L .raised) (ltl : L .tl)
    (lts : L .ts) (att : Attachment) (ring : Fin 32) (v : Word) (s : State) :
    WithinNext P L s (execRingEnable att ring v s) := by
  unfold execRingEnable
  with_reducible
    repeat' (first
        | apply Within.refl | assumption
        | apply Within.trans _ (within_bar0Write wAny ldfe ldma lfree lhi lmarks lmc lmem lnvj lpm lraised ltl lts ..)
        | apply WithinNext.when_ | apply WithinNext.next | apply Within.ite | apply WithinNext.ite | apply wAny | dsimp only
        | split)

theorem within_execRingDataWrite (wAny : ∀ a, P a) (ldfe : L .dfe) (ldma : L .dma) (lfree : L .free) (lhi : L .hi)
    (lmarks : L .marks) (lmc : L .mc) (lmem : L .mem) (lnvj : L .nvj) (lpm : L .pm) (lraised : L .raised) (ltl : L .tl)
    (lts : L .ts) (att : Attachment) (ring : Fin 32) (v : Word) (s : State) :
    WithinNext P L s (execRingDataWrite att ring v s) := by
  unfold execRingDataWrite
  with_reducible
    repeat' (first
        | apply Within.refl | assumption
        | apply Within.trans _ (within_bar0Write wAny ldfe ldma lfree lhi lmarks lmc lmem lnvj lpm lraised ltl lts ..)
        | apply WithinNext.when_ | apply WithinNext.next | apply Within.ite | apply WithinNext.ite | apply wAny | dsimp only
        | split)

theorem within_execRegisterWrite (wAny : ∀ a, P a) (ldfe : L .dfe) (ldma : L .dma) (lfree : L .free) (lhi : L .hi)
    (lmarks : L .marks) (lmc : L .mc) (lmem : L .mem) (lnvj : L .nvj) (lpm : L .pm) (lraised : L .raised) (ltl : L .tl)
    (lts : L .ts) (via : Via) (addr : BitVec 32) (v : Word) (s : State) :
    WithinNext P L s (execRegisterWrite via addr v s) := by
  unfold execRegisterWrite
  with_reducible
    repeat' (first
        | apply Within.refl | assumption | apply within_writeAs
        | apply Within.trans _ (within_plainWrite wAny ldfe ldma lfree lhi lmarks lmc lnvj lpm lraised ltl lts ..)
        | apply Within.trans _ (within_bar0Write wAny ldfe ldma lfree lhi lmarks lmc lmem lnvj lpm lraised ltl lts ..)
        | apply WithinNext.when_ | apply WithinNext.next | apply Within.ite | apply WithinNext.ite | apply wAny | dsimp only
        | split)

theorem within_execRingConsWrite (wAny : ∀ a, P a) (ldfe : L .dfe) (ldma : L .dma) (lfree : L .free) (lhi : L .hi)
    (lmarks : L .marks) (lmc : L .mc) (lmem : L .mem) (lnvj : L .nvj) (lpm : L .pm) (lraised : L .raised) (ltl : L .tl)
    (lts : L .ts) (att : Attachment) (ring : Fin 32) (v : Word) (s : State) :
    WithinNext P L s (execRingConsWrite att ring v s) := by
  unfold execRingConsWrite
  with_reducible
    repeat' (first
        | apply Within.refl | assumption
        | apply Within.trans _ (within_bar0Write wAny ldfe ldma lfree lhi lmarks lmc lmem lnvj lpm lraised ltl lts ..)
        | apply WithinNext.when_ | apply WithinNext.next | apply Within.ite | apply WithinNext.ite | apply wAny | dsimp only
        | split)

theorem within_execAlertSumClear (wAny : ∀ a, P a) (ldfe : L .dfe) (ldma : L .dma) (lfree : L .free) (lhi : L .hi)
    (lmarks : L .marks) (lmc : L .mc) (lmem : L .mem) (lnvj : L .nvj) (lpm : L .pm) (lraised : L .raised) (ltl : L .tl)
    (lts : L .ts) (att : Attachment) (i : Fin 8) (v : Word) (s : State) : WithinNext P L s (execAlertSumClear att i v s) := by
  unfold execAlertSumClear
  with_reducible
    repeat' (first
        | apply Within.refl | assumption
        | apply Within.trans _ (within_bar0Write wAny ldfe ldma lfree lhi lmarks lmc lmem lnvj lpm lraised ltl lts ..)
        | apply WithinNext.when_ | apply WithinNext.next | apply Within.ite | apply WithinNext.ite | apply wAny | dsimp only
        | split)

theorem within_execRingDataRead (wHI_DBG_DENY_CNT : ∀ i, P (R.HI_DBG_DENY_CNT i)) (wHI_DECODE_ERR_CNT : P R.HI_DECODE_ERR_CNT)
    (wHI_UART_RXD : P R.HI_UART_RXD) (wHK_FIFO_LVL : P R.HK_FIFO_LVL) (wHK_FIFO_RD : ∀ i, P (R.HK_FIFO_RD i))
    (wHK_FIFO_RD_HI : ∀ i, P (R.HK_FIFO_RD_HI i)) (wPM_I2C_RXD : P R.PM_I2C_RXD) (lfree : L .free) (lhi : L .hi) (lhk : L .hk)
    (llastRead : L .lastRead) (llatch : L .latch) (lmarks : L .marks) (lraised : L .raised) (att : Attachment) (ring : Fin 32)
    (s : State) : WithinNext P L s (execRingDataRead att ring s) := by
  unfold execRingDataRead
  with_reducible
    repeat' (first
        | apply Within.refl | assumption | apply within_answer llastRead
        | apply Within.trans _ (within_bar0Read wHI_DBG_DENY_CNT wHI_DECODE_ERR_CNT wHI_UART_RXD wHK_FIFO_LVL wHK_FIFO_RD wHK_FIFO_RD_HI wPM_I2C_RXD lfree lhi lhk llatch lmarks lraised ..)
        | apply WithinNext.when_ | apply WithinNext.next | apply Within.ite | apply WithinNext.ite | dsimp only | intro _ | split
        | apply Within.snd_of (by assumption))

theorem within_execRingProdWrite (wAny : ∀ a, P a) (ldfe : L .dfe) (ldma : L .dma) (lfree : L .free) (lhi : L .hi)
    (lmarks : L .marks) (lmc : L .mc) (lmem : L .mem) (lnvj : L .nvj) (lpm : L .pm) (lraised : L .raised) (ltl : L .tl)
    (lts : L .ts) (att : Attachment) (ring : Fin 32) (v : Word) (s : State) :
    WithinNext P L s (execRingProdWrite att ring v s) := by
  unfold execRingProdWrite
  with_reducible
    repeat' (first
        | apply Within.refl | assumption
        | apply Within.trans _ (within_bar0Write wAny ldfe ldma lfree lhi lmarks lmc lmem lnvj lpm lraised ltl lts ..)
        | apply WithinNext.when_ | apply WithinNext.next | apply Within.ite | apply WithinNext.ite | apply wAny | dsimp only
        | split)

theorem within_execReg64LowRead (wHI_DBG_DENY_CNT : ∀ i, P (R.HI_DBG_DENY_CNT i)) (wHI_DECODE_ERR_CNT : P R.HI_DECODE_ERR_CNT)
    (wHI_UART_RXD : P R.HI_UART_RXD) (wHK_FIFO_LVL : P R.HK_FIFO_LVL) (wHK_FIFO_RD : ∀ i, P (R.HK_FIFO_RD i))
    (wHK_FIFO_RD_HI : ∀ i, P (R.HK_FIFO_RD_HI i)) (wPM_I2C_RXD : P R.PM_I2C_RXD) (lfree : L .free) (lhi : L .hi) (lhk : L .hk)
    (llastRead : L .lastRead) (llatch : L .latch) (lmarks : L .marks) (lraised : L .raised) (via : Via) (addr : BitVec 32)
    (s : State) : WithinNext P L s (execReg64LowRead via addr s) := by
  unfold execReg64LowRead
  with_reducible
    repeat' (first
        | apply Within.refl | assumption | apply within_readAs llastRead
        | apply Within.trans _ (within_regRead wHI_UART_RXD wHK_FIFO_LVL wHK_FIFO_RD wHK_FIFO_RD_HI wPM_I2C_RXD lfree lhi lhk llatch ..)
        | apply Within.trans _ (within_bar0Read wHI_DBG_DENY_CNT wHI_DECODE_ERR_CNT wHI_UART_RXD wHK_FIFO_LVL wHK_FIFO_RD wHK_FIFO_RD_HI wPM_I2C_RXD lfree lhi lhk llatch lmarks lraised ..)
        | apply WithinNext.when_ | apply WithinNext.next | apply Within.ite | apply WithinNext.ite | dsimp only | intro _ | split
        | apply Within.snd_of (by assumption))

theorem within_execCounterClear (wAny : ∀ a, P a) (ldfe : L .dfe) (ldma : L .dma) (lfree : L .free) (lhi : L .hi)
    (lmarks : L .marks) (lmc : L .mc) (lmem : L .mem) (lnvj : L .nvj) (lpm : L .pm) (lraised : L .raised) (ltl : L .tl)
    (lts : L .ts) (via : Via) (addr : BitVec 32) (v : Word) (s : State) :
    WithinNext P L s (execCounterClear via addr v s) := by
  unfold execCounterClear
  with_reducible
    repeat' (first
        | apply Within.refl | assumption | apply within_writeAs | apply Within.trans _ (within_regWrite wAny ..)
        | apply Within.trans _ (within_bar0Write wAny ldfe ldma lfree lhi lmarks lmc lmem lnvj lpm lraised ltl lts ..)
        | apply WithinNext.when_ | apply WithinNext.next | apply Within.ite | apply WithinNext.ite | apply wAny | dsimp only
        | split)

/-! ### Machine/JournalDone -/

theorem within_jPop (wNVJ_STAT : P R.NVJ_STAT) (lnvj : L .nvj) (s : State) (n : Nat) (ok : Bool) :
    Within P L s (State.jPop s n ok) := by
  unfold State.jPop
  with_reducible
    repeat' (first
        | apply Within.refl | assumption | apply Within.trans _ (within_jShow wNVJ_STAT ..)
        | apply Within.trans _ (within_setFlag ?_ ..) | apply Within.trans _ (within_put ?_ ..) | simp only [↓Within.upd_nvj lnvj]
        | apply Within.ite | apply wNVJ_STAT | dsimp only | split)

theorem within_endJob (wHI_CMP_LOST_CNT : ∀ i, P (R.HI_CMP_LOST_CNT i)) (wHI_CTX_STAT : ∀ i, P (R.HI_CTX_STAT i))
    (wHI_INFL_TOTAL : P R.HI_INFL_TOTAL) (wHI_RING_PROD : ∀ i, P (R.HI_RING_PROD i)) (lhi : L .hi) (lhy : L .hy)
    (llastCpl : L .lastCpl) (lmarks : L .marks) (lmem : L .mem) (s : State) (j : Job) (status results : Nat) :
    Within P L s (State.endJob s j status results) := by
  unfold State.endJob
  with_reducible
    repeat' (first
        | apply Within.refl | assumption
        | apply Within.trans _ (within_complete wHI_CMP_LOST_CNT wHI_CTX_STAT wHI_INFL_TOTAL wHI_RING_PROD lhi lhy llastCpl lmarks lmem ..)
        | simp only [↓Within.upd_hy lhy] | apply Within.ite | dsimp only | split)

theorem within_lockRecord (wNVJ_STAT : P R.NVJ_STAT) (lnvj : L .nvj) (s : State) (inst : Nat) :
    Within P L s (State.lockRecord s inst).2 := by
  unfold State.lockRecord
  with_reducible
    repeat' (first
        | apply Within.refl | assumption | apply Within.trans _ (within_jQueue wNVJ_STAT lnvj ..)
        | simp only [↓Within.upd_nvj lnvj] | apply Within.ite | apply Within.ite_snd | dsimp only | split)

theorem within_waitOn (lhy : L .hy) (s : State) (j : Job) (u : Until) (data : List Nat) :
    Within P L s (State.waitOn s j u data) := by
  unfold State.waitOn
  with_reducible
    repeat' (first
        | apply Within.refl | assumption | simp only [↓Within.upd_hy lhy] | apply Within.ite | dsimp only | split)

theorem within_groupEnd (wCV_ACAL_STATUS : P R.CV_ACAL_STATUS) (wHI_CMP_LOST_CNT : ∀ i, P (R.HI_CMP_LOST_CNT i))
    (wHI_CTX_STAT : ∀ i, P (R.HI_CTX_STAT i)) (wHI_INFL_TOTAL : P R.HI_INFL_TOTAL) (wHI_RING_PROD : ∀ i, P (R.HI_RING_PROD i))
    (wHK_CAL : ∀ i, P (R.HK_CAL i)) (wHK_CAL_HI : ∀ i, P (R.HK_CAL_HI i)) (wNVJ_STAT : P R.NVJ_STAT) (wPM_MODE : P R.PM_MODE)
    (wRF_REG_DUTY : ∀ i, P (R.RF_REG_DUTY i)) (wRF_REG_PEAK : ∀ i, P (R.RF_REG_PEAK i))
    (wRF_REG_RANGE_HI : ∀ i, P (R.RF_REG_RANGE_HI i)) (wRF_REG_RANGE_LO : ∀ i, P (R.RF_REG_RANGE_LO i))
    (wRF_REG_RMS : ∀ i, P (R.RF_REG_RMS i)) (wRF_REG_STATUS : P R.RF_REG_STATUS) (lhi : L .hi) (lhy : L .hy)
    (llastCpl : L .lastCpl) (lmarks : L .marks) (lmem : L .mem) (lnvj : L .nvj) (lpm : L .pm) (lraised : L .raised)
    (lrf : L .rf) (s : State) (j : Job) : Within P L s (State.groupEnd s j) := by
  unfold State.groupEnd
  with_reducible
    repeat' (first
        | apply Within.refl | assumption
        | apply Within.trans _ (within_endJob wHI_CMP_LOST_CNT wHI_CTX_STAT wHI_INFL_TOTAL wHI_RING_PROD lhi lhy llastCpl lmarks lmem ..)
        | apply Within.trans _ (within_regApply wRF_REG_DUTY wRF_REG_PEAK wRF_REG_RANGE_HI wRF_REG_RANGE_LO wRF_REG_RMS wRF_REG_STATUS ..)
        | apply Within.trans _ (within_lockRecord wNVJ_STAT lnvj ..) | apply Within.trans _ (within_waitOn lhy ..)
        | apply Within.trans _ (within_jLocks wNVJ_STAT ..) | apply Within.trans _ (within_raise lraised ..)
        | apply Within.trans _ (within_setFlag ?_ ..) | apply Within.trans _ (within_put ?_ ..)
        | simp only [↓Within.upd_pm_rf lpm lrf] | apply Within.ite | apply wCV_ACAL_STATUS | apply wHK_CAL | apply wHK_CAL_HI
        | apply wPM_MODE | apply wRF_REG_STATUS | dsimp only | split | apply Within.snd_of (by assumption))

theorem within_execJournalRecordDone (wCV_ACAL_STATUS : P R.CV_ACAL_STATUS) (wHI_CMP_LOST_CNT : ∀ i, P (R.HI_CMP_LOST_CNT i))
    (wHI_CTX_STAT : ∀ i, P (R.HI_CTX_STAT i)) (wHI_INFL_TOTAL : P R.HI_INFL_TOTAL) (wHI_RING_PROD : ∀ i, P (R.HI_RING_PROD i))
    (wHK_CAL : ∀ i, P (R.HK_CAL i)) (wHK_CAL_HI : ∀ i, P (R.HK_CAL_HI i)) (wNVJ_STAT : P R.NVJ_STAT)
    (wNVJ_WFAIL_CNT : P R.NVJ_WFAIL_CNT) (wPM_MODE : P R.PM_MODE) (wRF_REG_DUTY : ∀ i, P (R.RF_REG_DUTY i))
    (wRF_REG_PEAK : ∀ i, P (R.RF_REG_PEAK i)) (wRF_REG_RANGE_HI : ∀ i, P (R.RF_REG_RANGE_HI i))
    (wRF_REG_RANGE_LO : ∀ i, P (R.RF_REG_RANGE_LO i)) (wRF_REG_RMS : ∀ i, P (R.RF_REG_RMS i))
    (wRF_REG_STATUS : P R.RF_REG_STATUS) (lfree : L .free) (lhi : L .hi) (lhy : L .hy) (llastCpl : L .lastCpl)
    (lmarks : L .marks) (lmem : L .mem) (lnvj : L .nvj) (lpm : L .pm) (lraised : L .raised) (lrf : L .rf) (ok : Bool)
    (s : State) : WithinNext P L s (execJournalRecordDone ok s) := by
  unfold execJournalRecordDone
  with_reducible
    repeat' (first
        | apply Within.refl | assumption | apply Within.trans _ (within_jPop wNVJ_STAT lnvj ..)
        | apply Within.trans _ (within_setBytes lmem ..)
        | apply Within.trans _ (within_groupEnd wCV_ACAL_STATUS wHI_CMP_LOST_CNT wHI_CTX_STAT wHI_INFL_TOTAL wHI_RING_PROD wHK_CAL wHK_CAL_HI wNVJ_STAT wPM_MODE wRF_REG_DUTY wRF_REG_PEAK wRF_REG_RANGE_HI wRF_REG_RANGE_LO wRF_REG_RMS wRF_REG_STATUS lhi lhy llastCpl lmarks lmem lnvj lpm lraised lrf ..)
        | apply Within.trans _ (within_jLocks wNVJ_STAT ..) | apply Within.trans _ (within_fresh lfree ..)
        | apply Within.trans _ (within_raise lraised ..) | apply Within.trans _ (within_count lmarks ?_ ..)
        | apply Within.trans _ (within_jShow wNVJ_STAT ..)
        | apply Within.trans _ (within_finish wHI_CMP_LOST_CNT wHI_CTX_STAT wHI_INFL_TOTAL wHI_RING_PROD lhi lhy llastCpl lmarks lmem ..)
        | apply WithinNext.next | simp only [↓Within.upd_nvj lnvj] | apply Within.ite | apply WithinNext.ite
        | apply wNVJ_WFAIL_CNT | dsimp only | apply Within.foldl | apply Within.foldlBy Prod.snd | apply Within.foldlBy Prod.fst
        | intro _ | split | apply Within.snd_of (by assumption))

/-! ### Machine/Modes -/

theorem within_rampTick (lpm : L .pm) (lrf : L .rf) (ltl : L .tl) (s : State) : Within P L s (State.rampTick s) := by
  unfold State.rampTick
  with_reducible
    repeat' (first
        | apply Within.refl | assumption | apply Within.trans _ (within_disarmAll ltl ..)
        | apply Within.trans _ (within_biasDown lrf ..) | simp only [↓Within.upd_pm lpm] | apply Within.ite | dsimp only | split)

theorem within_holdTx (wHI_CMP_LOST_CNT : ∀ i, P (R.HI_CMP_LOST_CNT i)) (wHI_CTX_STAT : ∀ i, P (R.HI_CTX_STAT i))
    (wHI_INFL_TOTAL : P R.HI_INFL_TOTAL) (wHI_RING_PROD : ∀ i, P (R.HI_RING_PROD i)) (lhi : L .hi) (lhy : L .hy)
    (llastCpl : L .lastCpl) (lmarks : L .marks) (lmem : L .mem) (lpins : L .pins) (ltl : L .tl) (s : State) (m : Mode) :
    Within P L s (State.holdTx s m) := by
  unfold State.holdTx
  with_reducible
    repeat' (first
        | apply Within.refl | assumption
        | apply Within.trans _ (within_finish wHI_CMP_LOST_CNT wHI_CTX_STAT wHI_INFL_TOTAL wHI_RING_PROD lhi lhy llastCpl lmarks lmem ..)
        | simp only [↓Within.upd_pins_tl lpins ltl] | apply Within.ite | dsimp only | split)

theorem within_tlRun (wTL_CTRL : P R.TL_CTRL) (wTL_STATUS : P R.TL_STATUS) (s : State) (b : Bool) :
    Within P L s (State.tlRun s b) := by
  unfold State.tlRun
  with_reducible
    repeat' (first
        | apply Within.refl | assumption | apply Within.trans _ (within_setFlag ?_ ..) | apply Within.trans _ (within_put ?_ ..)
        | apply Within.ite | apply wTL_CTRL | apply wTL_STATUS | dsimp only | split)

theorem within_enterMode (wRF_SYN_STATUS : ∀ i, P (R.RF_SYN_STATUS i)) (wTL_CTRL : P R.TL_CTRL) (wTL_STATUS : P R.TL_STATUS)
    (lrf : L .rf) (s : State) (old new : Mode) : Within P L s (State.enterMode s old new) := by
  unfold State.enterMode
  with_reducible
    repeat' (first
        | apply Within.refl | assumption | apply Within.trans _ (within_tlRun wTL_CTRL wTL_STATUS ..)
        | apply Within.trans _ (within_synOff wRF_SYN_STATUS ..) | apply Within.trans _ (within_synAll wRF_SYN_STATUS lrf ..)
        | apply Within.ite | dsimp only | apply Within.foldl | apply Within.foldlBy Prod.snd | apply Within.foldlBy Prod.fst
        | intro _ | split)

theorem within_modeDone (wHI_CMP_LOST_CNT : ∀ i, P (R.HI_CMP_LOST_CNT i)) (wHI_CTX_STAT : ∀ i, P (R.HI_CTX_STAT i))
    (wHI_INFL_TOTAL : P R.HI_INFL_TOTAL) (wHI_RING_PROD : ∀ i, P (R.HI_RING_PROD i))
    (wNVC_CORE_STAT : ∀ i, P (R.NVC_CORE_STAT i)) (wPM_MODE : P R.PM_MODE) (wRF_SYN_STATUS : ∀ i, P (R.RF_SYN_STATUS i))
    (wTL_CTRL : P R.TL_CTRL) (wTL_STATUS : P R.TL_STATUS) (lhi : L .hi) (lhy : L .hy) (llastCpl : L .lastCpl)
    (lmarks : L .marks) (lmem : L .mem) (lpins : L .pins) (lpm : L .pm) (lraised : L .raised) (lrf : L .rf) (ltl : L .tl)
    (s : State) (m : Mode) : Within P L s (State.modeDone s m) := by
  unfold State.modeDone
  with_reducible
    repeat' (first
        | apply Within.refl | assumption | apply Within.trans _ (within_setFlag ?_ ..)
        | apply Within.trans _ (within_setMode wNVC_CORE_STAT wPM_MODE lpm ..)
        | apply Within.trans _ (within_recordCause wPM_MODE ..)
        | apply Within.trans _ (within_holdTx wHI_CMP_LOST_CNT wHI_CTX_STAT wHI_INFL_TOTAL wHI_RING_PROD lhi lhy llastCpl lmarks lmem lpins ltl ..)
        | apply Within.trans _ (within_enterMode wRF_SYN_STATUS wTL_CTRL wTL_STATUS lrf ..)
        | apply Within.trans _ (within_raise lraised ..)
        | apply Within.trans _ (within_endJob wHI_CMP_LOST_CNT wHI_CTX_STAT wHI_INFL_TOTAL wHI_RING_PROD lhi lhy llastCpl lmarks lmem ..)
        | simp only [↓Within.upd_pm lpm] | apply Within.ite | apply wPM_MODE | dsimp only | apply Within.foldl
        | apply Within.foldlBy Prod.snd | apply Within.foldlBy Prod.fst | intro _ | split)

theorem within_execModeTransitionComplete (wHI_CMP_LOST_CNT : ∀ i, P (R.HI_CMP_LOST_CNT i))
    (wHI_CTX_STAT : ∀ i, P (R.HI_CTX_STAT i)) (wHI_INFL_TOTAL : P R.HI_INFL_TOTAL) (wHI_RING_PROD : ∀ i, P (R.HI_RING_PROD i))
    (wNVC_CORE_STAT : ∀ i, P (R.NVC_CORE_STAT i)) (wPM_MODE : P R.PM_MODE) (wRF_SYN_STATUS : ∀ i, P (R.RF_SYN_STATUS i))
    (wTL_CTRL : P R.TL_CTRL) (wTL_STATUS : P R.TL_STATUS) (lhi : L .hi) (lhy : L .hy) (llastCpl : L .lastCpl)
    (lmarks : L .marks) (lmem : L .mem) (lpins : L .pins) (lpm : L .pm) (lraised : L .raised) (lrf : L .rf) (ltl : L .tl)
    (s : State) : WithinNext P L s (execModeTransitionComplete s) := by
  unfold execModeTransitionComplete
  with_reducible
    repeat' (first
        | apply Within.refl | assumption
        | apply Within.trans _ (within_modeDone wHI_CMP_LOST_CNT wHI_CTX_STAT wHI_INFL_TOTAL wHI_RING_PROD wNVC_CORE_STAT wPM_MODE wRF_SYN_STATUS wTL_CTRL wTL_STATUS lhi lhy llastCpl lmarks lmem lpins lpm lraised lrf ltl ..)
        | apply WithinNext.next | apply Within.ite | apply WithinNext.ite | dsimp only | split)

theorem within_execFrostEntryDone (wHI_CTX_STAT : ∀ i, P (R.HI_CTX_STAT i)) (wHI_RING_STAT : ∀ i, P (R.HI_RING_STAT i))
    (wNVC_CORE_STAT : ∀ i, P (R.NVC_CORE_STAT i)) (wPM_MODE : P R.PM_MODE) (wRF_SYN_STATUS : ∀ i, P (R.RF_SYN_STATUS i))
    (wTS_STATUS : P R.TS_STATUS) (lhi : L .hi) (lpm : L .pm) (lraised : L .raised) (s : State) :
    WithinNext P L s (execFrostEntryDone s) := by
  unfold execFrostEntryDone
  with_reducible
    repeat' (first
        | apply Within.refl | assumption | apply Within.trans _ (within_setFlag ?_ ..)
        | apply Within.trans _ (within_setMode wNVC_CORE_STAT wPM_MODE lpm ..) | apply Within.trans _ (within_raise lraised ..)
        | apply Within.trans _ (within_put ?_ ..)
        | apply Within.trans _ (within_linkDown wHI_CTX_STAT wHI_RING_STAT lhi lraised ..)
        | apply Within.trans _ (within_synOff wRF_SYN_STATUS ..)
        | apply Within.trans _ (within_detach wHI_CTX_STAT wHI_RING_STAT lhi lraised ..)
        | apply Within.trans _ (within_thawTrigger wPM_MODE lpm ..) | apply WithinNext.next | simp only [↓Within.upd_pm lpm]
        | apply Within.ite | apply WithinNext.ite | apply wPM_MODE | apply wTS_STATUS | dsimp only | apply Within.foldl
        | apply Within.foldlBy Prod.snd | apply Within.foldlBy Prod.fst | intro _ | split)

theorem within_frostGo (wHI_CMP_LOST_CNT : ∀ i, P (R.HI_CMP_LOST_CNT i)) (wHI_CTX_STAT : ∀ i, P (R.HI_CTX_STAT i))
    (wHI_INFL_TOTAL : P R.HI_INFL_TOTAL) (wHI_RING_PROD : ∀ i, P (R.HI_RING_PROD i)) (wLN_CTLE : ∀ i, P (R.LN_CTLE i))
    (wLN_GROUP_STAT : ∀ i, P (R.LN_GROUP_STAT i)) (wLN_STATE : ∀ i, P (R.LN_STATE i)) (wLN_STATUS : P R.LN_STATUS)
    (wMC_STATUS : P R.MC_STATUS) (wNVC_CORE_STAT : ∀ i, P (R.NVC_CORE_STAT i)) (wPM_DOM_STAT : P R.PM_DOM_STAT)
    (wTL_CTRL : P R.TL_CTRL) (wTL_STATUS : P R.TL_STATUS) (wTS_STATUS : P R.TS_STATUS) (lhi : L .hi) (lhy : L .hy)
    (llastCpl : L .lastCpl) (lln : L .ln) (lmarks : L .marks) (lmem : L .mem) (lnvc : L .nvc) (lpm : L .pm)
    (lraised : L .raised) (s : State) (f : FrostReq) : Within P L s (State.frostGo s f) := by
  unfold State.frostGo
  with_reducible
    repeat' (first
        | apply Within.refl | assumption | apply Within.trans _ (within_abortJobs wNVC_CORE_STAT lnvc lraised ..)
        | apply Within.trans _ (within_finish wHI_CMP_LOST_CNT wHI_CTX_STAT wHI_INFL_TOTAL wHI_RING_PROD lhi lhy llastCpl lmarks lmem ..)
        | apply Within.trans _ (within_lanePower wLN_CTLE wLN_GROUP_STAT wLN_STATE wLN_STATUS wPM_DOM_STAT wTS_STATUS lln lpm lraised ..)
        | apply Within.trans _ (within_selfRefresh wMC_STATUS ..) | apply Within.trans _ (within_tlRun wTL_CTRL wTL_STATUS ..)
        | apply Within.trans _ (within_domBegin lpm ..) | simp only [↓Within.upd_pm_ln lpm lln] | apply Within.ite | dsimp only
        | apply Within.foldl | apply Within.foldlBy Prod.snd | apply Within.foldlBy Prod.fst | intro _ | split)

theorem within_execThawComplete (wLN_CTLE : ∀ i, P (R.LN_CTLE i)) (wLN_GROUP_STAT : ∀ i, P (R.LN_GROUP_STAT i))
    (wLN_STATE : ∀ i, P (R.LN_STATE i)) (wLN_STATUS : P R.LN_STATUS) (wNVC_CORE_STAT : ∀ i, P (R.NVC_CORE_STAT i))
    (wPM_DOM_STAT : P R.PM_DOM_STAT) (wPM_MODE : P R.PM_MODE) (wTL_CTRL : P R.TL_CTRL) (wTL_STATUS : P R.TL_STATUS)
    (wTS_STATUS : P R.TS_STATUS) (lln : L .ln) (lpm : L .pm) (lraised : L .raised) (s : State) :
    WithinNext P L s (execThawComplete s) := by
  unfold execThawComplete
  with_reducible
    repeat' (first
        | apply Within.refl | assumption | apply Within.trans _ (within_setFlag ?_ ..)
        | apply Within.trans _ (within_setMode wNVC_CORE_STAT wPM_MODE lpm ..) | apply Within.trans _ (within_raise lraised ..)
        | apply Within.trans _ (within_put ?_ ..) | apply Within.trans _ (within_raiseAs lraised ..)
        | apply Within.trans _ (within_lanePower wLN_CTLE wLN_GROUP_STAT wLN_STATE wLN_STATUS wPM_DOM_STAT wTS_STATUS lln lpm lraised ..)
        | apply Within.trans _ (within_tlRun wTL_CTRL wTL_STATUS ..) | apply WithinNext.next | simp only [↓Within.upd_pm lpm]
        | apply Within.ite | apply WithinNext.ite | apply wPM_MODE | apply wTS_STATUS | dsimp only | apply Within.foldl
        | apply Within.foldlBy Prod.snd | apply Within.foldlBy Prod.fst | intro _ | split)

theorem within_frostRefuse (wHI_CMP_LOST_CNT : ∀ i, P (R.HI_CMP_LOST_CNT i)) (wHI_CTX_STAT : ∀ i, P (R.HI_CTX_STAT i))
    (wHI_INFL_TOTAL : P R.HI_INFL_TOTAL) (wHI_RING_PROD : ∀ i, P (R.HI_RING_PROD i)) (wPM_FROST_STAT : P R.PM_FROST_STAT)
    (wPM_MODE : P R.PM_MODE) (wPM_ROLLBACK_CNT : P R.PM_ROLLBACK_CNT) (wTL_CTRL : P R.TL_CTRL) (wTL_STATUS : P R.TL_STATUS)
    (lhi : L .hi) (lhy : L .hy) (llastCpl : L .lastCpl) (lmarks : L .marks) (lmem : L .mem) (lpm : L .pm) (lraised : L .raised)
    (s : State) (k reason : Nat) : Within P L s (State.frostRefuse s k reason) := by
  unfold State.frostRefuse
  with_reducible
    repeat' (first
        | apply Within.refl | assumption | apply Within.trans _ (within_put ?_ ..)
        | apply Within.trans _ (within_raise lraised ..) | apply Within.trans _ (within_count lmarks ?_ ..)
        | apply Within.trans _ (within_setFlag ?_ ..) | apply Within.trans _ (within_tlRun wTL_CTRL wTL_STATUS ..)
        | apply Within.trans _ (within_finish wHI_CMP_LOST_CNT wHI_CTX_STAT wHI_INFL_TOTAL wHI_RING_PROD lhi lhy llastCpl lmarks lmem ..)
        | simp only [↓Within.upd_pm lpm] | apply Within.ite | apply wPM_FROST_STAT | apply wPM_MODE | apply wPM_ROLLBACK_CNT
        | dsimp only | split)

theorem within_beginMode (wPM_MODE : P R.PM_MODE) (lpm : L .pm) (s : State) (m : Mode) (cause : Nat) :
    Within P L s (State.beginMode s m cause) := by
  unfold State.beginMode
  with_reducible
    repeat' (first
        | apply Within.refl | assumption | apply Within.trans _ (within_setFlag ?_ ..) | apply Within.trans _ (within_put ?_ ..)
        | simp only [↓Within.upd_pm lpm] | apply Within.ite | apply wPM_MODE | dsimp only | split)

theorem within_execFrostAnswerTimeout (wHI_CMP_LOST_CNT : ∀ i, P (R.HI_CMP_LOST_CNT i))
    (wHI_CTX_STAT : ∀ i, P (R.HI_CTX_STAT i)) (wHI_INFL_TOTAL : P R.HI_INFL_TOTAL) (wHI_RING_PROD : ∀ i, P (R.HI_RING_PROD i))
    (wPM_FROST_STAT : P R.PM_FROST_STAT) (wPM_MODE : P R.PM_MODE) (wPM_ROLLBACK_CNT : P R.PM_ROLLBACK_CNT)
    (wTL_CTRL : P R.TL_CTRL) (wTL_STATUS : P R.TL_STATUS) (lfree : L .free) (lhi : L .hi) (lhy : L .hy) (llastCpl : L .lastCpl)
    (lmarks : L .marks) (lmem : L .mem) (lpm : L .pm) (lraised : L .raised) (s : State) :
    WithinNext P L s (execFrostAnswerTimeout s) := by
  unfold execFrostAnswerTimeout
  with_reducible
    repeat' (first
        | apply Within.refl | assumption
        | apply Within.trans _ (within_frostRefuse wHI_CMP_LOST_CNT wHI_CTX_STAT wHI_INFL_TOTAL wHI_RING_PROD wPM_FROST_STAT wPM_MODE wPM_ROLLBACK_CNT wTL_CTRL wTL_STATUS lhi lhy llastCpl lmarks lmem lpm lraised ..)
        | apply Within.trans _ (within_fresh lfree ..) | apply WithinNext.next | apply Within.ite | apply WithinNext.ite
        | dsimp only | split | apply Within.snd_of (by assumption))

theorem within_execRadioRampDownDone (wAny : ∀ a, P a) (lAll : ∀ p, L p) (s : State) :
    WithinNext P L s (execRadioRampDownDone s) := by
  unfold execRadioRampDownDone
  with_reducible
    repeat' (first
        | apply Within.refl | assumption | apply Within.trans _ (within_warmReset wAny lAll ..)
        | apply Within.trans _ (within_carOff (fun _ => wAny _) (wAny _) (fun _ => wAny _) (fun _ => wAny _) (fun _ => wAny _) (fun _ => wAny _) (lAll _) (lAll _) (lAll _) (lAll _) ..)
        | apply Within.trans _ (within_modeDone (fun _ => wAny _) (fun _ => wAny _) (wAny _) (fun _ => wAny _) (fun _ => wAny _) (wAny _) (fun _ => wAny _) (wAny _) (wAny _) (lAll _) (lAll _) (lAll _) (lAll _) (lAll _) (lAll _) (lAll _) (lAll _) (lAll _) (lAll _) ..)
        | apply WithinNext.next | simp only [↓Within.upd_hy (lAll _)] | apply Within.ite | apply WithinNext.ite | apply wAny
        | dsimp only | apply Within.foldl | apply Within.foldlBy Prod.snd | apply Within.foldlBy Prod.fst | intro _ | split)

theorem within_execFrostBlockAnswer (wHI_CMP_LOST_CNT : ∀ i, P (R.HI_CMP_LOST_CNT i)) (wHI_CTX_STAT : ∀ i, P (R.HI_CTX_STAT i))
    (wHI_INFL_TOTAL : P R.HI_INFL_TOTAL) (wHI_RING_PROD : ∀ i, P (R.HI_RING_PROD i)) (wLN_CTLE : ∀ i, P (R.LN_CTLE i))
    (wLN_GROUP_STAT : ∀ i, P (R.LN_GROUP_STAT i)) (wLN_STATE : ∀ i, P (R.LN_STATE i)) (wLN_STATUS : P R.LN_STATUS)
    (wMC_STATUS : P R.MC_STATUS) (wNVC_CORE_STAT : ∀ i, P (R.NVC_CORE_STAT i)) (wPM_DOM_STAT : P R.PM_DOM_STAT)
    (wPM_FROST_STAT : P R.PM_FROST_STAT) (wPM_MODE : P R.PM_MODE) (wPM_ROLLBACK_CNT : P R.PM_ROLLBACK_CNT)
    (wTL_CTRL : P R.TL_CTRL) (wTL_STATUS : P R.TL_STATUS) (wTS_STATUS : P R.TS_STATUS) (lhi : L .hi) (lhy : L .hy)
    (llastCpl : L .lastCpl) (lln : L .ln) (lmarks : L .marks) (lmem : L .mem) (lnvc : L .nvc) (lpm : L .pm)
    (lraised : L .raised) (s : State) : WithinNext P L s (execFrostBlockAnswer s) := by
  unfold execFrostBlockAnswer
  with_reducible
    repeat' (first
        | apply Within.refl | assumption
        | apply Within.trans _ (within_frostRefuse wHI_CMP_LOST_CNT wHI_CTX_STAT wHI_INFL_TOTAL wHI_RING_PROD wPM_FROST_STAT wPM_MODE wPM_ROLLBACK_CNT wTL_CTRL wTL_STATUS lhi lhy llastCpl lmarks lmem lpm lraised ..)
        | apply Within.trans _ (within_tlRun wTL_CTRL wTL_STATUS ..)
        | apply Within.trans _ (within_frostGo wHI_CMP_LOST_CNT wHI_CTX_STAT wHI_INFL_TOTAL wHI_RING_PROD wLN_CTLE wLN_GROUP_STAT wLN_STATE wLN_STATUS wMC_STATUS wNVC_CORE_STAT wPM_DOM_STAT wTL_CTRL wTL_STATUS wTS_STATUS lhi lhy llastCpl lln lmarks lmem lnvc lpm lraised ..)
        | apply WithinNext.next | simp only [↓Within.upd_pm lpm] | apply Within.ite | apply WithinNext.ite | dsimp only | split)

/-! ### Machine/BootEnd -/

theorem within_regPut {s : State} {a : Nat} (ha : P a) (w : Word) : Within P L s (s.regPut a w) := by
  unfold State.regPut
  split
  · exact within_wr ha _
  · exact .refl s

theorem within_loadLanes (wHI_CMP_LOST_CNT : ∀ i, P (R.HI_CMP_LOST_CNT i)) (wHI_CTX_STAT : ∀ i, P (R.HI_CTX_STAT i))
    (wHI_INFL_TOTAL : P R.HI_INFL_TOTAL) (wHI_RING_PROD : ∀ i, P (R.HI_RING_PROD i)) (wLN_CTLE : ∀ i, P (R.LN_CTLE i))
    (wLN_GROUP_CFG : ∀ i, P (R.LN_GROUP_CFG i)) (wLN_GROUP_STAT : ∀ i, P (R.LN_GROUP_STAT i))
    (wLN_STATE : ∀ i, P (R.LN_STATE i)) (wLN_STATUS : P R.LN_STATUS) (wLN_TXEQ : ∀ i, P (R.LN_TXEQ i))
    (wPM_DOM_STAT : P R.PM_DOM_STAT) (wTS_STATUS : P R.TS_STATUS) (lhi : L .hi) (lhy : L .hy) (llastCpl : L .lastCpl)
    (lln : L .ln) (lmarks : L .marks) (lmem : L .mem) (lpm : L .pm) (lraised : L .raised) (s : State) :
    Within P L s (State.loadLanes s) := by
  unfold State.loadLanes
  with_reducible
    repeat' (first
        | apply Within.refl | assumption | apply Within.trans _ (within_regPut ?_ ..)
        | apply Within.trans _ (within_groupApply wHI_CMP_LOST_CNT wHI_CTX_STAT wHI_INFL_TOTAL wHI_RING_PROD wLN_CTLE wLN_GROUP_CFG wLN_GROUP_STAT wLN_STATE wLN_STATUS wPM_DOM_STAT wTS_STATUS lhi lhy llastCpl lln lmarks lmem lpm lraised ..)
        | apply Within.ite | apply wLN_CTLE | apply wLN_TXEQ | dsimp only | apply Within.foldl | apply Within.foldlBy Prod.snd
        | apply Within.foldlBy Prod.fst | intro _ | split)

theorem within_bootLease (wBF_FREE_VEC : P R.BF_FREE_VEC) (wBF_REGION_BASE : ∀ i, P (R.BF_REGION_BASE i))
    (wBF_REGION_CFG : ∀ i, P (R.BF_REGION_CFG i)) (wFH_SECT_QUOTA : ∀ i, P (R.FH_SECT_QUOTA i))
    (wHI_CTX_STAT : ∀ i, P (R.HI_CTX_STAT i)) (wHI_RING_STAT : ∀ i, P (R.HI_RING_STAT i))
    (wNVC_CORE_STAT : ∀ i, P (R.NVC_CORE_STAT i)) (wTL_PART_QUOTA : ∀ i, P (R.TL_PART_QUOTA i)) (lhy : L .hy) (s : State)
    (l : LeaseRec) : Within P L s (State.bootLease s l) := by
  unfold State.bootLease
  with_reducible
    repeat' (first
        | apply Within.refl | assumption | apply Within.trans _ (within_put ?_ ..) | simp only [↓Within.upd_hy lhy]
        | apply Within.ite | apply wBF_FREE_VEC | apply wBF_REGION_BASE | apply wBF_REGION_CFG | apply wFH_SECT_QUOTA
        | apply wHI_CTX_STAT | apply wHI_RING_STAT | apply wNVC_CORE_STAT | apply wTL_PART_QUOTA | dsimp only | apply Within.foldl
        | apply Within.foldlBy Prod.snd | apply Within.foldlBy Prod.fst | intro _ | split)

theorem within_loadLeases (wBF_FREE_VEC : P R.BF_FREE_VEC) (wBF_REGION_BASE : ∀ i, P (R.BF_REGION_BASE i))
    (wBF_REGION_CFG : ∀ i, P (R.BF_REGION_CFG i)) (wFH_SECT_QUOTA : ∀ i, P (R.FH_SECT_QUOTA i))
    (wHI_CTX_STAT : ∀ i, P (R.HI_CTX_STAT i)) (wHI_RING_STAT : ∀ i, P (R.HI_RING_STAT i))
    (wNVC_CORE_STAT : ∀ i, P (R.NVC_CORE_STAT i)) (wTL_PART_QUOTA : ∀ i, P (R.TL_PART_QUOTA i)) (lhy : L .hy) (s : State) :
    Within P L s (State.loadLeases s) := by
  unfold State.loadLeases
  with_reducible
    repeat' (first
        | apply Within.refl | assumption
        | apply Within.trans _ (within_bootLease wBF_FREE_VEC wBF_REGION_BASE wBF_REGION_CFG wFH_SECT_QUOTA wHI_CTX_STAT wHI_RING_STAT wNVC_CORE_STAT wTL_PART_QUOTA lhy ..)
        | apply Within.trans _ (within_put ?_ ..) | apply Within.ite | apply wHI_CTX_STAT | dsimp only | apply Within.foldl
        | apply Within.foldlBy Prod.snd | apply Within.foldlBy Prod.fst | intro _ | split)

theorem within_loadHost (wHI_CTX_BIND : ∀ i, P (R.HI_CTX_BIND i)) (wHI_CTX_STAT : ∀ i, P (R.HI_CTX_STAT i))
    (wHI_MODE_LEASE : P R.HI_MODE_LEASE) (lhi : L .hi) (lraised : L .raised) (s : State) : Within P L s (State.loadHost s) := by
  unfold State.loadHost
  with_reducible
    repeat' (first
        | apply Within.refl | assumption | apply Within.trans _ (within_put ?_ ..) | apply Within.trans _ (within_setFlag ?_ ..)
        | apply Within.trans _ (within_setHolder wHI_CTX_STAT wHI_MODE_LEASE lraised ..) | simp only [↓Within.upd_hi lhi]
        | apply Within.ite | apply wHI_CTX_BIND | apply wHI_CTX_STAT | dsimp only | apply Within.foldl
        | apply Within.foldlBy Prod.snd | apply Within.foldlBy Prod.fst | intro _ | split)

theorem within_loadBoard (wHI_UART_CFG : P R.HI_UART_CFG) (wPM_GPIO_CFG : ∀ i, P (R.PM_GPIO_CFG i))
    (wPM_I2C_CFG : P R.PM_I2C_CFG) (wRF_PATH_AVAIL : P R.RF_PATH_AVAIL) (wRF_PATH_AVAIL4 : P (R.RF_PATH_AVAIL + 4))
    (wRF_PATH_STATE : ∀ i, P (R.RF_PATH_STATE i)) (wTS_STATUS : P R.TS_STATUS) (lhi : L .hi) (lmc : L .mc) (s : State) :
    Within P L s (State.loadBoard s) := by
  unfold State.loadBoard
  with_reducible
    repeat' (first
        | apply Within.refl | assumption | apply Within.trans _ (within_setFlag ?_ ..)
        | apply Within.trans _ (within_put64 ?_ ?_ ..) | apply Within.trans _ (within_put ?_ ..)
        | apply Within.trans _ (within_wr ?_ ..) | simp only [↓Within.upd_hi_mc lhi lmc] | apply Within.ite | apply wHI_UART_CFG
        | apply wPM_GPIO_CFG | apply wPM_I2C_CFG | apply wRF_PATH_AVAIL | apply wRF_PATH_AVAIL4 | apply wRF_PATH_STATE
        | apply wTS_STATUS | dsimp only | apply Within.foldl | apply Within.foldlBy Prod.snd | apply Within.foldlBy Prod.fst
        | intro _ | split)

theorem within_loadOwn (wCV_ACAL_STATUS : P R.CV_ACAL_STATUS) (wCV_ACBANK : ∀ i j, P (R.CV_ACBANK i j))
    (wCV_SLICE_QUAL : ∀ i j, P (R.CV_SLICE_QUAL i j)) (wHK_CAL : ∀ i, P (R.HK_CAL i)) (wHK_CAL_HI : ∀ i, P (R.HK_CAL_HI i))
    (lraised : L .raised) (s : State) : Within P L s (State.loadOwn s) := by
  unfold State.loadOwn
  with_reducible
    repeat' (first
        | apply Within.refl | assumption | apply Within.trans _ (within_setFlag ?_ ..) | apply Within.trans _ (within_put ?_ ..)
        | apply Within.trans _ (within_acalStage wCV_ACAL_STATUS wCV_ACBANK lraised ..) | apply Within.ite | apply wCV_SLICE_QUAL
        | apply wHK_CAL | apply wHK_CAL_HI | dsimp only | apply Within.foldl | apply Within.foldlBy Prod.snd
        | apply Within.foldlBy Prod.fst | intro _ | split)

theorem within_loadReg (wCV_ACAL_STATUS : P R.CV_ACAL_STATUS) (wRF_REG_DUTY : ∀ i, P (R.RF_REG_DUTY i))
    (wRF_REG_PEAK : ∀ i, P (R.RF_REG_PEAK i)) (wRF_REG_RANGE_HI : ∀ i, P (R.RF_REG_RANGE_HI i))
    (wRF_REG_RANGE_LO : ∀ i, P (R.RF_REG_RANGE_LO i)) (wRF_REG_RMS : ∀ i, P (R.RF_REG_RMS i))
    (wRF_REG_STATUS : P R.RF_REG_STATUS) (s : State) : Within P L s (State.loadReg s) := by
  unfold State.loadReg
  with_reducible
    repeat' (first
        | apply Within.refl | assumption | apply Within.trans _ (within_setFlag ?_ ..)
        | apply Within.trans _ (within_regApply wRF_REG_DUTY wRF_REG_PEAK wRF_REG_RANGE_HI wRF_REG_RANGE_LO wRF_REG_RMS wRF_REG_STATUS ..)
        | apply Within.ite | apply wCV_ACAL_STATUS | apply wRF_REG_STATUS | dsimp only | split)

theorem within_bootReports (wNVJ_STAT : P R.NVJ_STAT) (lnvj : L .nvj) (lpm : L .pm) (lraised : L .raised) (s : State) :
    Within P L s (State.bootReports s) := by
  unfold State.bootReports
  with_reducible
    repeat' (first
        | apply Within.refl | assumption | apply Within.trans _ (within_raise lraised ..)
        | apply Within.trans _ (within_logRecord wNVJ_STAT lnvj ..) | apply Within.trans _ (within_journalObj wNVJ_STAT lnvj ..)
        | simp only [↓Within.upd_pm lpm] | apply Within.ite | dsimp only | split | apply Within.snd_of (by assumption))

theorem within_attachAll (wDMA_CH_CFG : ∀ i, P (R.DMA_CH_CFG i)) (wDMA_CH_STAT : ∀ i, P (R.DMA_CH_STAT i))
    (wDMA_STATUS : P R.DMA_STATUS) (wHI_CTX_STAT : ∀ i, P (R.HI_CTX_STAT i)) (wHI_MODE_LEASE : P R.HI_MODE_LEASE)
    (wHI_RING_CFG : ∀ i, P (R.HI_RING_CFG i)) (wHI_RING_STAT : ∀ i, P (R.HI_RING_STAT i)) (ldma : L .dma) (lraised : L .raised)
    (s : State) : Within P L s (State.attachAll s) := by
  unfold State.attachAll
  with_reducible
    repeat' (first
        | apply Within.refl | assumption
        | apply Within.trans _ (within_attach wDMA_CH_CFG wDMA_CH_STAT wDMA_STATUS wHI_CTX_STAT wHI_MODE_LEASE wHI_RING_CFG wHI_RING_STAT ldma lraised ..)
        | apply Within.ite | dsimp only | apply Within.foldl | apply Within.foldlBy Prod.snd | apply Within.foldlBy Prod.fst
        | intro _ | split)

theorem within_execMainImageVerified (wBF_FREE_VEC : P R.BF_FREE_VEC) (wBF_REGION_BASE : ∀ i, P (R.BF_REGION_BASE i))
    (wBF_REGION_CFG : ∀ i, P (R.BF_REGION_CFG i)) (wCV_ACAL_STATUS : P R.CV_ACAL_STATUS)
    (wCV_ACBANK : ∀ i j, P (R.CV_ACBANK i j)) (wCV_SLICE_QUAL : ∀ i j, P (R.CV_SLICE_QUAL i j))
    (wDMA_CH_CFG : ∀ i, P (R.DMA_CH_CFG i)) (wDMA_CH_STAT : ∀ i, P (R.DMA_CH_STAT i)) (wDMA_STATUS : P R.DMA_STATUS)
    (wFH_SECT_QUOTA : ∀ i, P (R.FH_SECT_QUOTA i)) (wHI_BOOT_STAT : P R.HI_BOOT_STAT)
    (wHI_CMP_LOST_CNT : ∀ i, P (R.HI_CMP_LOST_CNT i)) (wHI_CTX_BIND : ∀ i, P (R.HI_CTX_BIND i))
    (wHI_CTX_STAT : ∀ i, P (R.HI_CTX_STAT i)) (wHI_INFL_TOTAL : P R.HI_INFL_TOTAL) (wHI_MODE_LEASE : P R.HI_MODE_LEASE)
    (wHI_RING_CFG : ∀ i, P (R.HI_RING_CFG i)) (wHI_RING_PROD : ∀ i, P (R.HI_RING_PROD i))
    (wHI_RING_STAT : ∀ i, P (R.HI_RING_STAT i)) (wHI_UART_CFG : P R.HI_UART_CFG) (wHK_CAL : ∀ i, P (R.HK_CAL i))
    (wHK_CAL_HI : ∀ i, P (R.HK_CAL_HI i)) (wLN_CTLE : ∀ i, P (R.LN_CTLE i)) (wLN_GROUP_CFG : ∀ i, P (R.LN_GROUP_CFG i))
    (wLN_GROUP_STAT : ∀ i, P (R.LN_GROUP_STAT i)) (wLN_STATE : ∀ i, P (R.LN_STATE i)) (wLN_STATUS : P R.LN_STATUS)
    (wLN_TXEQ : ∀ i, P (R.LN_TXEQ i)) (wNVC_CORE_STAT : ∀ i, P (R.NVC_CORE_STAT i)) (wNVJ_STAT : P R.NVJ_STAT)
    (wPM_DOM_STAT : P R.PM_DOM_STAT) (wPM_GPIO_CFG : ∀ i, P (R.PM_GPIO_CFG i)) (wPM_I2C_CFG : P R.PM_I2C_CFG)
    (wPM_MODE : P R.PM_MODE) (wRF_PATH_AVAIL : P R.RF_PATH_AVAIL) (wRF_PATH_AVAIL4 : P (R.RF_PATH_AVAIL + 4))
    (wRF_PATH_STATE : ∀ i, P (R.RF_PATH_STATE i)) (wRF_REG_DUTY : ∀ i, P (R.RF_REG_DUTY i))
    (wRF_REG_PEAK : ∀ i, P (R.RF_REG_PEAK i)) (wRF_REG_RANGE_HI : ∀ i, P (R.RF_REG_RANGE_HI i))
    (wRF_REG_RANGE_LO : ∀ i, P (R.RF_REG_RANGE_LO i)) (wRF_REG_RMS : ∀ i, P (R.RF_REG_RMS i))
    (wRF_REG_STATUS : P R.RF_REG_STATUS) (wTL_PART_QUOTA : ∀ i, P (R.TL_PART_QUOTA i)) (wTS_STATUS : P R.TS_STATUS)
    (ldma : L .dma) (lhi : L .hi) (lhy : L .hy) (llastCpl : L .lastCpl) (lln : L .ln) (lmarks : L .marks) (lmc : L .mc)
    (lmem : L .mem) (lnvj : L .nvj) (lpm : L .pm) (lraised : L .raised) (lrf : L .rf) (ok : Bool) (s : State) :
    WithinNext P L s (execMainImageVerified ok s) := by
  unfold execMainImageVerified
  with_reducible
    repeat' (first
        | apply Within.refl | assumption | apply Within.trans _ (within_put ?_ ..)
        | apply Within.trans _ (within_loadLanes wHI_CMP_LOST_CNT wHI_CTX_STAT wHI_INFL_TOTAL wHI_RING_PROD wLN_CTLE wLN_GROUP_CFG wLN_GROUP_STAT wLN_STATE wLN_STATUS wLN_TXEQ wPM_DOM_STAT wTS_STATUS lhi lhy llastCpl lln lmarks lmem lpm lraised ..)
        | apply Within.trans _ (within_loadLeases wBF_FREE_VEC wBF_REGION_BASE wBF_REGION_CFG wFH_SECT_QUOTA wHI_CTX_STAT wHI_RING_STAT wNVC_CORE_STAT wTL_PART_QUOTA lhy ..)
        | apply Within.trans _ (within_loadHost wHI_CTX_BIND wHI_CTX_STAT wHI_MODE_LEASE lhi lraised ..)
        | apply Within.trans _ (within_loadBoard wHI_UART_CFG wPM_GPIO_CFG wPM_I2C_CFG wRF_PATH_AVAIL wRF_PATH_AVAIL4 wRF_PATH_STATE wTS_STATUS lhi lmc ..)
        | apply Within.trans _ (within_biasDrive lrf ..)
        | apply Within.trans _ (within_loadOwn wCV_ACAL_STATUS wCV_ACBANK wCV_SLICE_QUAL wHK_CAL wHK_CAL_HI lraised ..)
        | apply Within.trans _ (within_loadReg wCV_ACAL_STATUS wRF_REG_DUTY wRF_REG_PEAK wRF_REG_RANGE_HI wRF_REG_RANGE_LO wRF_REG_RMS wRF_REG_STATUS ..)
        | apply Within.trans _ (within_setFlag ?_ ..) | apply Within.trans _ (within_setMode wNVC_CORE_STAT wPM_MODE lpm ..)
        | apply Within.trans _ (within_bootReports wNVJ_STAT lnvj lpm lraised ..) | apply Within.trans _ (within_raise lraised ..)
        | apply Within.trans _ (within_attachAll wDMA_CH_CFG wDMA_CH_STAT wDMA_STATUS wHI_CTX_STAT wHI_MODE_LEASE wHI_RING_CFG wHI_RING_STAT ldma lraised ..)
        | apply WithinNext.next | simp only [↓Within.upd_hi lhi] | apply Within.ite | apply WithinNext.ite | apply wHI_BOOT_STAT
        | apply wPM_MODE | dsimp only | split)

end Sys2Proof.Machine
end

