-- ==== Sys2Proof/Laws/Within6.lean ====
section
/-! SUPPORT. What the operations and the commands of these files leave alone: Machine/Training, Chains, Staging, CmdCar, CmdBeam, CmdCal, CmdSys. -/

namespace Sys2Proof.Machine

variable {P : Nat → Prop} {L : Part → Prop}

/-! ### Machine/Training -/

theorem within_dpdFigures (wDFE_DPD_QUAL : ∀ i, P (R.DFE_DPD_QUAL i)) (s : State) (p : Nat) (f : DpdFit) :
    Within P L s (State.dpdFigures s p f) := by
  unfold State.dpdFigures
  with_reducible
    repeat' (first
        | apply Within.refl | assumption | apply Within.trans _ (within_put ?_ ..) | apply Within.ite | apply wDFE_DPD_QUAL
        | dsimp only | split)

theorem within_loadHead (wDFE_DPD_STATUS : ∀ i, P (R.DFE_DPD_STATUS i)) (s : State) : Within P L s (State.loadHead s) := by
  unfold State.loadHead
  with_reducible
    repeat' (first
        | apply Within.refl | assumption | apply Within.trans _ (within_setFlag ?_ ..) | apply Within.ite | apply wDFE_DPD_STATUS
        | dsimp only | split)

theorem within_loaderStart (wDFE_DPD_STATUS : ∀ i, P (R.DFE_DPD_STATUS i)) (ldfe : L .dfe) (s : State) (p at_ job : Nat) :
    Within P L s (State.loaderStart s p at_ job) := by
  unfold State.loaderStart
  with_reducible
    repeat' (first
        | apply Within.refl | assumption | apply Within.trans _ (within_loadHead wDFE_DPD_STATUS ..)
        | simp only [↓Within.upd_dfe ldfe] | apply Within.ite | dsimp only | split)

theorem within_execDpdLoaderStart (wDFE_DPD_STATUS : ∀ i, P (R.DFE_DPD_STATUS i)) (ldfe : L .dfe) (path : Fin 64)
    (at_ : BitVec 22) (job : BitVec 16) (s : State) : WithinNext P L s (execDpdLoaderStart path at_ job s) := by
  unfold execDpdLoaderStart
  with_reducible
    repeat' (first
        | apply Within.refl | assumption | apply Within.trans _ (within_loaderStart wDFE_DPD_STATUS ldfe ..)
        | apply WithinNext.next | apply Within.ite | apply WithinNext.ite | dsimp only | split)

theorem within_trainPath (ldfe : L .dfe) (lhy : L .hy) (lnvc : L .nvc) (s : State) (num p k ctx : Nat) :
    Within P L s (State.trainPath s num p k ctx) := by
  unfold State.trainPath
  with_reducible
    repeat' (first
        | apply Within.refl | assumption | apply Within.trans _ (within_submitJob lnvc ..)
        | apply Within.trans _ (within_giveJob lhy ..) | simp only [↓Within.upd_dfe ldfe] | apply Within.ite | dsimp only | split)

theorem within_autoTrain (ldfe : L .dfe) (lhy : L .hy) (lnvc : L .nvc) (s : State) (p ctx : Nat) :
    Within P L s (State.autoTrain s p ctx) := by
  unfold State.autoTrain
  with_reducible
    repeat' (first
        | apply Within.refl | assumption | apply Within.trans _ (within_trainPath ldfe lhy lnvc ..)
        | apply Within.trans _ (Within.opt_snd (by assumption) (within_allocJob lhy _)) | apply Within.ite | dsimp only | split
        | apply Within.snd_of (by assumption))

theorem within_execCaptureDrainEnd (wDFE_CAP_STATUS : ∀ i, P (R.DFE_CAP_STATUS i))
    (wHI_CMP_LOST_CNT : ∀ i, P (R.HI_CMP_LOST_CNT i)) (wHI_CTX_STAT : ∀ i, P (R.HI_CTX_STAT i))
    (wHI_INFL_TOTAL : P R.HI_INFL_TOTAL) (wHI_RING_PROD : ∀ i, P (R.HI_RING_PROD i)) (ldfe : L .dfe) (lhi : L .hi) (lhy : L .hy)
    (llastCpl : L .lastCpl) (lmarks : L .marks) (lmem : L .mem) (lnvc : L .nvc) (lraised : L .raised) (tile : Fin 8) (s : State)
    : WithinNext P L s (execCaptureDrainEnd tile s) := by
  unfold execCaptureDrainEnd
  with_reducible
    repeat' (first
        | apply Within.refl | assumption | apply Within.trans _ (within_incWrap ?_ ..) | apply Within.trans _ (within_put ?_ ..)
        | apply Within.trans _ (within_revokeDone wHI_CMP_LOST_CNT wHI_CTX_STAT wHI_INFL_TOTAL wHI_RING_PROD lhi lhy llastCpl lmarks lmem ..)
        | apply Within.trans _ (within_autoTrain ldfe lhy lnvc ..) | apply Within.trans _ (within_raiseTo lraised ..)
        | apply WithinNext.next | simp only [↓Within.upd_dfe ldfe] | apply Within.ite | apply WithinNext.ite
        | apply wDFE_CAP_STATUS | dsimp only | split)

theorem within_fillBank (wDFE_DPD_BANK : ∀ i j, P (R.DFE_DPD_BANK i j)) (s : State) (p a : Nat) :
    Within P L s (State.fillBank s p a) := by
  unfold State.fillBank
  with_reducible
    repeat' (first
        | apply Within.refl | assumption | apply Within.trans _ (within_wrN ?_ ..) | apply Within.ite | apply wDFE_DPD_BANK
        | dsimp only | apply Within.foldl | apply Within.foldlBy Prod.snd | apply Within.foldlBy Prod.fst | intro _ | split)

theorem within_autoSwap (lhy : L .hy) (s : State) (p j : Nat) : Within P L s (State.autoSwap s p j) := by
  unfold State.autoSwap
  with_reducible
    repeat' (first
        | apply Within.refl | assumption | apply Within.trans _ (within_stageOwnAt lhy ..) | apply Within.ite | dsimp only | split)

theorem within_trainSignal (wNVC_CORE_STAT : ∀ i, P (R.NVC_CORE_STAT i)) (wNVC_JOB_DONE : ∀ i, P (R.NVC_JOB_DONE i))
    (ldfe : L .dfe) (lhy : L .hy) (lnvc : L .nvc) (s : State) (j p : Nat) : Within P L s (State.trainSignal s j p) := by
  unfold State.trainSignal
  with_reducible
    repeat' (first
        | apply Within.refl | assumption | apply Within.trans _ (within_autoSwap lhy ..)
        | apply Within.trans _ (within_signalJob wNVC_CORE_STAT wNVC_JOB_DONE lnvc ..) | simp only [↓Within.upd_dfe ldfe]
        | apply Within.ite | dsimp only | split)

theorem within_execDpdLoaderDone (wDFE_DPD_BANK : ∀ i j, P (R.DFE_DPD_BANK i j)) (wDFE_DPD_STATUS : ∀ i, P (R.DFE_DPD_STATUS i))
    (wHI_CMP_LOST_CNT : ∀ i, P (R.HI_CMP_LOST_CNT i)) (wHI_CTX_STAT : ∀ i, P (R.HI_CTX_STAT i))
    (wHI_INFL_TOTAL : P R.HI_INFL_TOTAL) (wHI_RING_PROD : ∀ i, P (R.HI_RING_PROD i))
    (wNVC_CORE_STAT : ∀ i, P (R.NVC_CORE_STAT i)) (wNVC_JOB_DONE : ∀ i, P (R.NVC_JOB_DONE i)) (ldfe : L .dfe) (lhi : L .hi)
    (lhy : L .hy) (llastCpl : L .lastCpl) (lmarks : L .marks) (lmem : L .mem) (lnvc : L .nvc) (s : State) :
    WithinNext P L s (execDpdLoaderDone s) := by
  unfold execDpdLoaderDone
  with_reducible
    repeat' (first
        | apply Within.refl | assumption | apply Within.trans _ (within_setFlag ?_ ..)
        | apply Within.trans _ (within_fillBank wDFE_DPD_BANK ..)
        | apply Within.trans _ (within_trainSignal wNVC_CORE_STAT wNVC_JOB_DONE ldfe lhy lnvc ..)
        | apply Within.trans _ (within_loadHead wDFE_DPD_STATUS ..)
        | apply Within.trans _ (within_finish wHI_CMP_LOST_CNT wHI_CTX_STAT wHI_INFL_TOTAL wHI_RING_PROD lhi lhy llastCpl lmarks lmem ..)
        | apply WithinNext.next | simp only [↓Within.upd_dfe ldfe] | apply Within.ite | apply WithinNext.ite
        | apply wDFE_DPD_STATUS | dsimp only | split)

theorem within_autoCap (lfree : L .free) (lhy : L .hy) (s : State) (p : Nat) : Within P L s (State.autoCap s p) := by
  unfold State.autoCap
  with_reducible
    repeat' (first
        | apply Within.refl | assumption | apply Within.trans _ (within_fresh lfree ..)
        | apply Within.trans _ (within_stageEntry lhy ..) | apply Within.ite | dsimp only | split
        | apply Within.snd_of (by assumption))

theorem within_execDpdTrainJobEnd (wDFE_DPD_QUAL : ∀ i, P (R.DFE_DPD_QUAL i)) (wDFE_DPD_STATUS : ∀ i, P (R.DFE_DPD_STATUS i))
    (wNVC_CORE_STAT : ∀ i, P (R.NVC_CORE_STAT i)) (wNVC_JOB_DONE : ∀ i, P (R.NVC_JOB_DONE i)) (ldfe : L .dfe) (lhy : L .hy)
    (lmem : L .mem) (lnvc : L .nvc) (lraised : L .raised) (job : BitVec 16) (result : Unit) (at_ : BitVec 22)
    (bank nmse aclr gain : Unit) (s : State) :
    WithinNext P L s (execDpdTrainJobEnd job result at_ bank nmse aclr gain s) := by
  unfold execDpdTrainJobEnd
  with_reducible
    repeat' (first
        | apply Within.refl | assumption | apply Within.trans _ (within_dropJob wNVC_CORE_STAT lnvc ..)
        | apply Within.trans _ (within_releaseCores wNVC_CORE_STAT lnvc ..) | apply Within.trans _ (within_put ?_ ..)
        | apply Within.trans _ (within_setBytes lmem ..) | apply Within.trans _ (within_dpdFigures wDFE_DPD_QUAL ..)
        | apply Within.trans _ (within_trainSignal wNVC_CORE_STAT wNVC_JOB_DONE ldfe lhy lnvc ..)
        | apply Within.trans _ (within_raise lraised ..) | apply Within.trans _ (within_incSat ?_ ..)
        | apply Within.trans _ (within_setFlag ?_ ..) | apply WithinNext.next | simp only [↓Within.upd_dfe ldfe]
        | apply Within.ite | apply WithinNext.ite | apply wDFE_DPD_STATUS | dsimp only | split)

theorem within_autoTick (lfree : L .free) (lhy : L .hy) (s : State) : Within P L s (State.autoTick s) := by
  unfold State.autoTick
  with_reducible
    repeat' (first
        | apply Within.refl | assumption | apply Within.trans _ (within_autoCap lfree lhy ..) | apply Within.ite | dsimp only
        | apply Within.foldl | apply Within.foldlBy Prod.snd | apply Within.foldlBy Prod.fst | intro _ | split)

/-! ### Machine/Chains -/

theorem within_roundTie (lfree : L .free) (s : State) (v : Int) (n : Nat) : Within P L s (State.roundTie s v n).2 := by
  unfold State.roundTie
  with_reducible
    repeat' (first
        | apply Within.refl | assumption | apply Within.trans _ (within_fresh lfree ..) | apply Within.ite | apply Within.ite_snd
        | dsimp only | split | apply Within.snd_of (by assumption))

theorem within_narrow (lfree : L .free) (s : State) (w n : Nat) (v : Int × Int) : Within P L s (State.narrow s w n v).2.2 := by
  unfold State.narrow
  with_reducible
    repeat' (first
        | apply Within.refl | assumption | apply Within.trans _ (within_roundTie lfree ..) | apply Within.ite
        | apply Within.ite_thd | dsimp only | split | apply Within.snd_of (by assumption))

theorem within_narrows (lfree : L .free) (s : State) (w n : Nat) (l : List (Int × Int)) : Within P L s (s.narrows w n l).2.2 := by
  induction l generalizing s with
  | nil => exact .refl s
  | cons v l ih => exact (within_narrow lfree s w n v).trans (ih _)

theorem within_hbUp (lfree : L .free) (s : State) (taps : List Int) (h x : List (Int × Int)) :
    Within P L s (State.hbUp s taps h x).2.2 := by
  unfold State.hbUp
  with_reducible
    repeat' (first
        | apply Within.refl | assumption | apply Within.trans _ (within_narrows lfree ..) | apply Within.ite
        | apply Within.ite_thd | dsimp only | split | apply Within.snd_of (by assumption) | apply Within.thd_of (by assumption))

theorem within_satCount (lbf : L .bf) (lmarks : L .marks) (lraised : L .raised) {s : State} {reg : Nat} (ha : P reg) (ev : Nat)
    (y : Sym) (p n : Nat) :
    Within P L s (s.satCount reg ev y p n) := by
  unfold State.satCount
  exact .ite (.refl s) ((within_countN lmarks ha _).trans (within_raiseOnce lbf lraised ..))

theorem within_dfeSat (wDFE_SAT_CNT : ∀ i, P (R.DFE_SAT_CNT i)) (lbf : L .bf) (lmarks : L .marks) (lraised : L .raised)
    (s : State) (y : Sym) (p n : Nat) : Within P L s (State.dfeSat s y p n) := by
  unfold State.dfeSat
  with_reducible
    repeat' (first
        | apply Within.refl | assumption | apply Within.trans _ (within_satCount lbf lmarks lraised ?_ ..) | apply Within.ite
        | apply wDFE_SAT_CNT | dsimp only | split)

theorem within_txStep (lfree : L .free) (s : State) (k : ChainSt) (x : List (Int × Int)) : Within P L s (s.txStep k x).2.2.2 := by
  have h : ∀ (u : State) (w n : Nat) (l : List (Int × Int)), Within P L u (u.narrows w n l).2.2 := fun u w n l => within_narrows lfree ..
  have b : ∀ (u : State) (t : List Int) (l x : List (Int × Int)), Within P L u (u.hbUp t l x).2.2 := fun u t l x => within_hbUp lfree ..
  unfold State.txStep
  dsimp only
  have hu : Within P L s (if s.carHb k.car = 0 then ((x, k.hb2), 0, s) else s.hbUp hb2Taps k.hb2 x).2.2 := .ite_thd (.refl s) (b ..)
  generalize (if s.carHb k.car = 0 then ((x, k.hb2), 0, s) else s.hbUp hb2Taps k.hb2 x) = u at hu ⊢
  have hv : Within P L s (if s.carHb k.car = 2 then u.2.2.hbUp hb1Taps k.hb1 u.1.1 else ((u.1.1, k.hb1), 0, u.2.2)).2.2 :=
    .ite_thd (hu.trans (b ..)) hu
  generalize (if s.carHb k.car = 2 then u.2.2.hbUp hb1Taps k.hb1 u.1.1 else ((u.1.1, k.hb1), 0, u.2.2)) = v at hv ⊢
  exact (hv.trans (h _ 18 14 _)).trans (h _ 18 16 _)

theorem within_guardSample (wRF_REG_PEAK_CNT : ∀ i, P (R.RF_REG_PEAK_CNT i)) (ldfe : L .dfe) (lfree : L .free)
    (lmarks : L .marks) (lraised : L .raised) (lrf : L .rf) (s : State) (p : Nat) (x : Int × Int) :
    Within P L s (State.guardSample s p x).2 := by
  unfold State.guardSample
  with_reducible
    repeat' (first
        | apply Within.refl | assumption
        | apply Within.trans _ (within_clipPeak wRF_REG_PEAK_CNT ldfe lfree lmarks lraised lrf ..)
        | apply Within.trans _ (within_keepOut ldfe ..) | apply Within.ite | apply Within.ite_snd | dsimp only | split)

theorem within_guardRun (wRF_REG_PEAK_CNT : ∀ i, P (R.RF_REG_PEAK_CNT i)) (ldfe : L .dfe) (lfree : L .free) (lmarks : L .marks)
    (lraised : L .raised) (lrf : L .rf) (s : State) (p : Nat) (x : List (Int × Int)) :
    Within P L s (State.guardRun s p x).2 := by
  unfold State.guardRun
  with_reducible
    repeat' (first
        | apply Within.refl | assumption
        | apply Within.trans _ (within_guardSample wRF_REG_PEAK_CNT ldfe lfree lmarks lraised lrf ..) | apply Within.ite
        | apply Within.ite_snd | dsimp only | apply Within.foldl | apply Within.foldlBy Prod.snd | apply Within.foldlBy Prod.fst
        | intro _ | split | apply Within.snd_of (by assumption))

theorem within_dacRun (wRF_REG_PEAK_CNT : ∀ i, P (R.RF_REG_PEAK_CNT i)) (ldfe : L .dfe) (lfree : L .free) (lmarks : L .marks)
    (lraised : L .raised) (lrf : L .rf) (s : State) (p : Nat) (x : List (Int × Int)) : Within P L s (State.dacRun s p x) := by
  unfold State.dacRun
  with_reducible
    repeat' (first
        | apply Within.refl | assumption
        | apply Within.trans _ (within_guardRun wRF_REG_PEAK_CNT ldfe lfree lmarks lraised lrf ..)
        | apply Within.trans _ (within_narrows lfree ..) | apply Within.trans _ (within_keepOut ldfe ..) | apply Within.ite
        | dsimp only | split | apply Within.snd_of (by assumption) | apply Within.thd_of (by assumption))

theorem within_chainAt (ldfe : L .dfe) (s : State) (y : Sym) (p n : Nat) : Within P L s (State.chainAt s y p n).2 := by
  unfold State.chainAt
  with_reducible
    repeat' (first
        | apply Within.refl | assumption | simp only [↓Within.upd_dfe ldfe] | apply Within.ite | apply Within.ite_snd | dsimp only
        | apply Within.foldl | apply Within.foldlBy Prod.snd | apply Within.foldlBy Prod.fst | intro _ | split)

theorem within_cfrSee (ldfe : L .dfe) (s : State) (p : Nat) (x y : List (Int × Int)) : Within P L s (State.cfrSee s p x y) := by
  unfold State.cfrSee
  with_reducible
    repeat' (first
        | apply Within.refl | assumption | simp only [↓Within.upd_dfe ldfe] | apply Within.ite | dsimp only | split)

theorem within_txSum (lfree : L .free) (s : State) (p : Nat) : Within P L s (State.txSum s p).2.2 := by
  unfold State.txSum
  with_reducible
    repeat' (first
        | apply Within.refl | assumption | apply Within.trans _ (within_narrows lfree ..) | apply Within.ite
        | apply Within.ite_thd | dsimp only | apply Within.foldl | apply Within.foldlBy Prod.snd | apply Within.foldlBy Prod.fst
        | intro _ | split | apply Within.snd_of (by assumption) | apply Within.thd_of (by assumption))

theorem within_cfrStep (lfree : L .free) (s : State) (slot thr : Nat) (a : CfrSt × List (Int × Int) × Nat × State) (x : Int × Int) :
    Within P L a.2.2.2 (s.cfrStep slot thr a x).2.2.2 := by
  unfold State.cfrStep
  dsimp only
  apply Within.trans _ (within_narrow lfree ..)
  exact .ite ((within_clipTo lfree ..).trans (within_clipTo lfree ..)) (.refl _)

theorem within_cfrStage (ldfe : L .dfe) (lfree : L .free) (s : State) (p st : Nat) (x : List (Int × Int)) : Within P L s
    (s.cfrStage p st x).2.2 := by
  unfold State.cfrStage
  exact (Within.upd_dfe ldfe).2 (Within.foldlBy (fun q : CfrSt × List (Int × Int) × Nat × State => q.2.2.2) (.refl s)
    (fun t i => within_cfrStep lfree s _ _ t i))

theorem within_hbDown (lfree : L .free) (s : State) (taps : List Int) (sh : Nat) (h : List (Int × Int)) (k : Nat)
    (x : List (Int × Int)) : Within P L s (State.hbDown s taps sh h k x).2.2 := by
  unfold State.hbDown
  with_reducible
    repeat' (first
        | apply Within.refl | assumption | apply Within.trans _ (within_narrows lfree ..) | apply Within.ite
        | apply Within.ite_thd | dsimp only | split | apply Within.snd_of (by assumption) | apply Within.thd_of (by assumption))

theorem within_rxStep (lfree : L .free) (s : State) (k : ChainSt) (x : List (Int × Int)) : Within P L s (s.rxStep k x).2.2.2 := by
  have h : ∀ (u : State) (w n : Nat) (l : List (Int × Int)), Within P L u (u.narrows w n l).2.2 := fun u w n l => within_narrows lfree ..
  have d : ∀ (u : State) (t : List Int) (n : Nat) (l : List (Int × Int)) (k : Nat) (x : List (Int × Int)),
      Within P L u (u.hbDown t n l k x).2.2 := fun u t n l k x => within_hbDown lfree ..
  unfold State.rxStep
  dsimp only
  refine .ite_fth (((h _ _ _ _).trans (h _ _ _ _)).trans (h _ _ _ _)) (Within.trans ?_ (d _ _ _ _ _ _))
  exact .ite_thd ((h _ _ _ _).trans (h _ _ _ _)) (((h _ _ _ _).trans (h _ _ _ _)).trans (d _ _ _ _ _ _))

theorem within_chainRun (ldfe : L .dfe) (lfree : L .free) (s : State) (y : Sym) (p n : Nat) (x : List (Int × Int)) : Within P L
    s (s.chainRun y p n x).2.2 := by
  unfold State.chainRun
  dsimp only
  refine Within.trans (Within.trans (within_chainAt ldfe s y p n) ?_) (within_setChain ldfe ..)
  split
  · exact within_rxStep lfree ..
  · exact within_txStep lfree ..

theorem within_adcPair (lfree : L .free) (s : State) (a n : Nat) (raw : List (BitVec 12 × BitVec 12)) :
    Within P L s (State.adcPair s a n raw).2 := by
  unfold State.adcPair
  with_reducible
    repeat' (first
        | apply Within.refl | assumption | apply Within.trans _ (within_narrows lfree ..) | apply Within.ite
        | apply Within.ite_snd | dsimp only | split | apply Within.snd_of (by assumption) | apply Within.thd_of (by assumption))

theorem within_cfrRun (wDFE_CFR_EXH_CNT : ∀ i, P (R.DFE_CFR_EXH_CNT i)) (lbf : L .bf) (ldfe : L .dfe) (lfree : L .free)
    (lmarks : L .marks) (lraised : L .raised) (s : State) (y : Sym) (p : Nat) (x : List (Int × Int)) : Within P L s
    (s.cfrRun y p x).2 := by
  unfold State.cfrRun
  dsimp only
  with_reducible
    apply Within.trans _ (within_satCount lbf lmarks lraised (wDFE_CFR_EXH_CNT _) ..)
    apply Within.trans _ (within_keepOut ldfe ..)
    apply Within.trans _ (within_cfrSee ldfe ..)
    exact Within.foldlBy (fun q : List (Int × Int) × Nat × State => q.2.2) (.refl s) (fun _ _ => within_cfrStage ldfe lfree ..)

theorem within_rxCorrect (lfree : L .free) (s : State) (p : Nat) (x : List (Int × Int)) :
    Within P L s (State.rxCorrect s p x).2 := by
  unfold State.rxCorrect
  with_reducible
    repeat' (first
        | apply Within.refl | assumption | apply Within.trans _ (within_narrows lfree ..) | apply Within.ite
        | apply Within.ite_snd | dsimp only | split | apply Within.snd_of (by assumption) | apply Within.thd_of (by assumption))

theorem within_dpdRun (lfree : L .free) (s : State) (p n : Nat) : Within P L s (State.dpdRun s p n).2.2 := by
  unfold State.dpdRun
  with_reducible
    repeat' (first
        | apply Within.refl | assumption | apply Within.trans _ (within_narrows lfree ..) | apply Within.ite
        | apply Within.ite_thd | dsimp only | split | apply Within.snd_of (by assumption) | apply Within.thd_of (by assumption))

/-! ### Machine/Staging -/

theorem within_stageHost (lhy : L .hy) (s : State) (x : Nat) (w : List Word) : Within P L s (State.stageHost s x w).2 := by
  unfold State.stageHost
  with_reducible
    repeat' (first
        | apply Within.refl | assumption | apply Within.trans _ (within_giveJob lhy ..)
        | apply Within.trans _ (within_stageEntry lhy ..)
        | apply Within.trans _ (Within.opt_snd (by assumption) (within_allocJob lhy _)) | simp only [↓Within.upd_hy lhy]
        | apply Within.ite | apply Within.ite_snd | dsimp only | split | apply Within.snd_of (by assumption))

/-! ### Machine/CmdCar -/

theorem within_startCar (wBF_CAR_F0 : ∀ i, P (R.BF_CAR_F0 i)) (wBF_REGION_STAT : ∀ i, P (R.BF_REGION_STAT i))
    (wBF_STATUS : P R.BF_STATUS) (wDFE_CAR_CFG : ∀ i, P (R.DFE_CAR_CFG i)) (wFH_RESV : ∀ i, P (R.FH_RESV i))
    (wRF_REG_RMS : ∀ i, P (R.RF_REG_RMS i)) (ldfe : L .dfe) (lfree : L .free) (lhy : L .hy) (s : State) (x k first : Nat) :
    Within P L s (State.startCar s x k first) := by
  unfold State.startCar
  with_reducible
    repeat' (first
        | apply Within.refl | assumption | apply Within.trans _ (within_stageEntry lhy ..)
        | apply Within.trans _ (within_setF0 wBF_CAR_F0 lfree ..) | apply Within.trans _ (within_setFlag ?_ ..)
        | apply Within.trans _ (within_showResv wFH_RESV lfree ..)
        | apply Within.trans _ (within_bfShow wBF_REGION_STAT wBF_STATUS ..) | apply Within.trans _ (within_cfrChange ldfe ..)
        | apply Within.trans _ (within_rmsWindows wRF_REG_RMS ..) | apply Within.ite | apply wDFE_CAR_CFG | dsimp only | split)

theorem within_execCarStart (wBF_CAR_F0 : ∀ i, P (R.BF_CAR_F0 i)) (wBF_REGION_STAT : ∀ i, P (R.BF_REGION_STAT i))
    (wBF_STATUS : P R.BF_STATUS) (wDFE_CAR_CFG : ∀ i, P (R.DFE_CAR_CFG i)) (wFH_RESV : ∀ i, P (R.FH_RESV i))
    (wHI_CMP_LOST_CNT : ∀ i, P (R.HI_CMP_LOST_CNT i)) (wHI_CTX_STAT : ∀ i, P (R.HI_CTX_STAT i))
    (wHI_INFL_TOTAL : P R.HI_INFL_TOTAL) (wHI_RING_PROD : ∀ i, P (R.HI_RING_PROD i)) (wRF_REG_RMS : ∀ i, P (R.RF_REG_RMS i))
    (ldfe : L .dfe) (lfree : L .free) (lhi : L .hi) (lhy : L .hy) (llastCpl : L .lastCpl) (lmarks : L .marks) (lmem : L .mem)
    (c : Cmd) (s : State) : WithinNext P L s (execCarStart c s) := by
  unfold execCarStart
  with_reducible
    repeat' (first
        | apply Within.refl | assumption
        | apply Within.trans _ (within_startCar wBF_CAR_F0 wBF_REGION_STAT wBF_STATUS wDFE_CAR_CFG wFH_RESV wRF_REG_RMS ldfe lfree lhy ..)
        | apply within_runCmd wHI_CMP_LOST_CNT wHI_CTX_STAT wHI_INFL_TOTAL wHI_RING_PROD lhi lhy llastCpl lmarks lmem
        | apply WithinEnd.ite | apply WithinNext.next | apply WithinEnd.done | apply Within.ite | apply WithinNext.ite
        | dsimp only | intro _ | split)

theorem within_execFlowRead (wHI_CMP_LOST_CNT : ∀ i, P (R.HI_CMP_LOST_CNT i)) (wHI_CTX_STAT : ∀ i, P (R.HI_CTX_STAT i))
    (wHI_INFL_TOTAL : P R.HI_INFL_TOTAL) (wHI_RING_PROD : ∀ i, P (R.HI_RING_PROD i)) (lhi : L .hi) (lhy : L .hy)
    (llastCpl : L .lastCpl) (lmarks : L .marks) (lmem : L .mem) (c : Cmd) (s : State) :
    WithinNext P L s (execFlowRead c s) := by
  unfold execFlowRead
  with_reducible
    repeat' (first
        | apply Within.refl | assumption
        | apply within_runCmd wHI_CMP_LOST_CNT wHI_CTX_STAT wHI_INFL_TOTAL wHI_RING_PROD lhi lhy llastCpl lmarks lmem
        | apply WithinEnd.ite | apply WithinNext.next | apply WithinEnd.done | apply Within.ite | apply WithinNext.ite
        | dsimp only | intro _ | split)

theorem within_setPort (wFH_MCAST : ∀ i, P (R.FH_MCAST i)) (wFH_MCAST4 : ∀ i, P (R.FH_MCAST i + 4))
    (wFH_PORT_CFG : ∀ i, P (R.FH_PORT_CFG i)) (wFH_PORT_MAC : ∀ i, P (R.FH_PORT_MAC i))
    (wFH_PORT_MAC4 : ∀ i, P (R.FH_PORT_MAC i + 4)) (wFH_UADDR_CFG : P R.FH_UADDR_CFG) (wFH_VLAN : ∀ i j, P (R.FH_VLAN i j))
    (s : State) (c : Cmd) (g item : Nat) : Within P L s (State.setPort s c g item) := by
  unfold State.setPort
  with_reducible
    repeat' (first
        | apply Within.refl | assumption | apply Within.trans _ (within_put64 ?_ ?_ ..) | apply Within.trans _ (within_wrN ?_ ..)
        | apply Within.ite | apply wFH_MCAST | apply wFH_MCAST4 | apply wFH_PORT_CFG | apply wFH_PORT_MAC | apply wFH_PORT_MAC4
        | apply wFH_UADDR_CFG | apply wFH_VLAN | dsimp only | apply Within.foldl | apply Within.foldlBy Prod.snd
        | apply Within.foldlBy Prod.fst | intro _ | split)

theorem within_install (wDFE_CAR_CFG : ∀ i, P (R.DFE_CAR_CFG i)) (wDFE_CAR_CIC : ∀ i, P (R.DFE_CAR_CIC i))
    (wDFE_CAR_CIC_HI : ∀ i, P (R.DFE_CAR_CIC_HI i)) (wDFE_CAR_STAT : ∀ i, P (R.DFE_CAR_STAT i))
    (wDFE_CAR_TXSH : ∀ i, P (R.DFE_CAR_TXSH i)) (ldfe : L .dfe) (s : State) (k : Nat) (x : Chain) :
    Within P L s (State.install s k x) := by
  unfold State.install
  with_reducible
    repeat' (first
        | apply Within.refl | assumption | apply Within.trans _ (within_wrN ?_ ..) | apply Within.trans _ (within_put ?_ ..)
        | simp only [↓Within.upd_dfe ldfe] | apply Within.ite | apply wDFE_CAR_CFG | apply wDFE_CAR_CIC | apply wDFE_CAR_CIC_HI
        | apply wDFE_CAR_STAT | apply wDFE_CAR_TXSH | dsimp only | split)

theorem within_execCarChain (wDFE_CAR_CFG : ∀ i, P (R.DFE_CAR_CFG i)) (wDFE_CAR_CIC : ∀ i, P (R.DFE_CAR_CIC i))
    (wDFE_CAR_CIC_HI : ∀ i, P (R.DFE_CAR_CIC_HI i)) (wDFE_CAR_STAT : ∀ i, P (R.DFE_CAR_STAT i))
    (wDFE_CAR_TXSH : ∀ i, P (R.DFE_CAR_TXSH i)) (wHI_CMP_LOST_CNT : ∀ i, P (R.HI_CMP_LOST_CNT i))
    (wHI_CTX_STAT : ∀ i, P (R.HI_CTX_STAT i)) (wHI_INFL_TOTAL : P R.HI_INFL_TOTAL) (wHI_RING_PROD : ∀ i, P (R.HI_RING_PROD i))
    (ldfe : L .dfe) (lhi : L .hi) (lhy : L .hy) (llastCpl : L .lastCpl) (lmarks : L .marks) (lmem : L .mem) (c : Cmd)
    (s : State) : WithinNext P L s (execCarChain c s) := by
  unfold execCarChain
  with_reducible
    repeat' (first
        | apply Within.refl | assumption
        | apply Within.trans _ (within_install wDFE_CAR_CFG wDFE_CAR_CIC wDFE_CAR_CIC_HI wDFE_CAR_STAT wDFE_CAR_TXSH ldfe ..)
        | apply within_runCmd wHI_CMP_LOST_CNT wHI_CTX_STAT wHI_INFL_TOTAL wHI_RING_PROD lhi lhy llastCpl lmarks lmem
        | apply WithinEnd.ite | apply WithinNext.next | apply WithinEnd.done | apply Within.ite | apply WithinNext.ite
        | dsimp only | intro _ | split)

theorem within_configCar (wBF_CAR_CFG : ∀ i, P (R.BF_CAR_CFG i)) (wBF_CAR_STAT : ∀ i, P (R.BF_CAR_STAT i))
    (wDFE_CAR_CFG : ∀ i, P (R.DFE_CAR_CFG i)) (wDFE_CAR_CIC : ∀ i, P (R.DFE_CAR_CIC i))
    (wDFE_CAR_CIC_HI : ∀ i, P (R.DFE_CAR_CIC_HI i)) (wDFE_CAR_GAIN : ∀ i, P (R.DFE_CAR_GAIN i))
    (wDFE_CAR_NCO_RX : ∀ i, P (R.DFE_CAR_NCO_RX i)) (wDFE_CAR_NCO_TX : ∀ i, P (R.DFE_CAR_NCO_TX i))
    (wDFE_CAR_PMASK : ∀ i, P (R.DFE_CAR_PMASK i)) (wDFE_CAR_PMASK4 : ∀ i, P (R.DFE_CAR_PMASK i + 4))
    (wDFE_CAR_STAT : ∀ i, P (R.DFE_CAR_STAT i)) (wDFE_CAR_TXSH : ∀ i, P (R.DFE_CAR_TXSH i))
    (wTL_CAR_ULADV : ∀ i, P (R.TL_CAR_ULADV i)) (ldfe : L .dfe) (s : State) (c : Cmd) : Within P L s (State.configCar s c) := by
  unfold State.configCar
  with_reducible
    repeat' (first
        | apply Within.refl | assumption | apply Within.trans _ (within_put64 ?_ ?_ ..) | apply Within.trans _ (within_wrN ?_ ..)
        | apply Within.trans _ (within_setFlag ?_ ..) | apply Within.trans _ (within_put ?_ ..)
        | apply Within.trans _ (within_install wDFE_CAR_CFG wDFE_CAR_CIC wDFE_CAR_CIC_HI wDFE_CAR_STAT wDFE_CAR_TXSH ldfe ..)
        | apply Within.ite | apply wBF_CAR_CFG | apply wBF_CAR_STAT | apply wDFE_CAR_CFG | apply wDFE_CAR_GAIN
        | apply wDFE_CAR_NCO_RX | apply wDFE_CAR_NCO_TX | apply wDFE_CAR_PMASK | apply wDFE_CAR_PMASK4 | apply wTL_CAR_ULADV
        | dsimp only | split)

theorem within_portLaunch (wFH_LAUNCH : ∀ i, P (R.FH_LAUNCH i)) (wFH_RESV : ∀ i, P (R.FH_RESV i)) (lfh : L .fh)
    (lfree : L .free) (s : State) (g : Nat) (w : Word) (inn out : Nat) : Within P L s (State.portLaunch s g w inn out) := by
  unfold State.portLaunch
  with_reducible
    repeat' (first
        | apply Within.refl | assumption | apply Within.trans _ (within_showResv wFH_RESV lfree ..)
        | apply Within.trans _ (within_wr ?_ ..) | simp only [↓Within.upd_fh lfh] | apply Within.ite | apply wFH_LAUNCH
        | dsimp only | split)

theorem within_execPortSet (wFH_MCAST : ∀ i, P (R.FH_MCAST i)) (wFH_MCAST4 : ∀ i, P (R.FH_MCAST i + 4))
    (wFH_PORT_CFG : ∀ i, P (R.FH_PORT_CFG i)) (wFH_PORT_MAC : ∀ i, P (R.FH_PORT_MAC i))
    (wFH_PORT_MAC4 : ∀ i, P (R.FH_PORT_MAC i + 4)) (wFH_UADDR_CFG : P R.FH_UADDR_CFG) (wFH_VLAN : ∀ i j, P (R.FH_VLAN i j))
    (wHI_CMP_LOST_CNT : ∀ i, P (R.HI_CMP_LOST_CNT i)) (wHI_CTX_STAT : ∀ i, P (R.HI_CTX_STAT i))
    (wHI_INFL_TOTAL : P R.HI_INFL_TOTAL) (wHI_RING_PROD : ∀ i, P (R.HI_RING_PROD i)) (lfh : L .fh) (lhi : L .hi) (lhy : L .hy)
    (llastCpl : L .lastCpl) (lmarks : L .marks) (lmem : L .mem) (c : Cmd) (s : State) : WithinNext P L s (execPortSet c s) := by
  unfold execPortSet
  with_reducible
    repeat' (first
        | apply Within.refl | assumption
        | apply Within.trans _ (within_portLaunch (fun _ => wAny _) (fun _ => wAny _) lfh (lAll _) ..)
        | apply Within.trans _ (within_setPort wFH_MCAST wFH_MCAST4 wFH_PORT_CFG wFH_PORT_MAC wFH_PORT_MAC4 wFH_UADDR_CFG wFH_VLAN ..)
        | apply within_runCmd wHI_CMP_LOST_CNT wHI_CTX_STAT wHI_INFL_TOTAL wHI_RING_PROD lhi lhy llastCpl lmarks lmem
        | apply WithinEnd.ite | apply WithinNext.next | apply WithinEnd.done | simp only [↓Within.upd_fh lfh] | apply Within.ite
        | apply WithinNext.ite | dsimp only | intro _ | split)

theorem within_execCarConfig (wBF_CAR_CFG : ∀ i, P (R.BF_CAR_CFG i)) (wBF_CAR_STAT : ∀ i, P (R.BF_CAR_STAT i))
    (wDFE_CAR_CFG : ∀ i, P (R.DFE_CAR_CFG i)) (wDFE_CAR_CIC : ∀ i, P (R.DFE_CAR_CIC i))
    (wDFE_CAR_CIC_HI : ∀ i, P (R.DFE_CAR_CIC_HI i)) (wDFE_CAR_GAIN : ∀ i, P (R.DFE_CAR_GAIN i))
    (wDFE_CAR_NCO_RX : ∀ i, P (R.DFE_CAR_NCO_RX i)) (wDFE_CAR_NCO_TX : ∀ i, P (R.DFE_CAR_NCO_TX i))
    (wDFE_CAR_PMASK : ∀ i, P (R.DFE_CAR_PMASK i)) (wDFE_CAR_PMASK4 : ∀ i, P (R.DFE_CAR_PMASK i + 4))
    (wDFE_CAR_STAT : ∀ i, P (R.DFE_CAR_STAT i)) (wDFE_CAR_TXSH : ∀ i, P (R.DFE_CAR_TXSH i))
    (wHI_CMP_LOST_CNT : ∀ i, P (R.HI_CMP_LOST_CNT i)) (wHI_CTX_STAT : ∀ i, P (R.HI_CTX_STAT i))
    (wHI_INFL_TOTAL : P R.HI_INFL_TOTAL) (wHI_RING_PROD : ∀ i, P (R.HI_RING_PROD i)) (wTL_CAR_ULADV : ∀ i, P (R.TL_CAR_ULADV i))
    (ldfe : L .dfe) (lhi : L .hi) (lhy : L .hy) (llastCpl : L .lastCpl) (lmarks : L .marks) (lmem : L .mem) (c : Cmd)
    (s : State) : WithinNext P L s (execCarConfig c s) := by
  unfold execCarConfig
  with_reducible
    repeat' (first
        | apply Within.refl | assumption
        | apply Within.trans _ (within_configCar wBF_CAR_CFG wBF_CAR_STAT wDFE_CAR_CFG wDFE_CAR_CIC wDFE_CAR_CIC_HI wDFE_CAR_GAIN wDFE_CAR_NCO_RX wDFE_CAR_NCO_TX wDFE_CAR_PMASK wDFE_CAR_PMASK4 wDFE_CAR_STAT wDFE_CAR_TXSH wTL_CAR_ULADV ldfe ..)
        | apply within_runCmd wHI_CMP_LOST_CNT wHI_CTX_STAT wHI_INFL_TOTAL wHI_RING_PROD lhi lhy llastCpl lmarks lmem
        | apply WithinEnd.ite | apply WithinNext.next | apply WithinEnd.done | apply Within.ite | apply WithinNext.ite
        | dsimp only | intro _ | split)

theorem within_setFlow (wFH_FLOW : ∀ i j, P (R.FH_FLOW i j)) (wFH_SECT_USED : ∀ i, P (R.FH_SECT_USED i)) (lfh : L .fh)
    (lraised : L .raised) (s : State) (f x w0 w1 w2 : Nat) : Within P L s (State.setFlow s f x w0 w1 w2) := by
  unfold State.setFlow
  with_reducible
    repeat' (first
        | apply Within.refl | assumption | apply Within.trans _ (within_flowEnd wFH_SECT_USED lfh lraised ..)
        | apply Within.trans _ (within_wrN ?_ ..) | apply Within.trans _ (within_wr ?_ ..) | apply Within.ite | apply wFH_FLOW
        | dsimp only | apply Within.foldl | apply Within.foldlBy Prod.snd | apply Within.foldlBy Prod.fst | intro _ | split)

theorem within_execCarStop (wHI_CMP_LOST_CNT : ∀ i, P (R.HI_CMP_LOST_CNT i)) (wHI_CTX_STAT : ∀ i, P (R.HI_CTX_STAT i))
    (wHI_INFL_TOTAL : P R.HI_INFL_TOTAL) (wHI_RING_PROD : ∀ i, P (R.HI_RING_PROD i)) (lhi : L .hi) (lhy : L .hy)
    (llastCpl : L .lastCpl) (lmarks : L .marks) (lmem : L .mem) (c : Cmd) (s : State) : WithinNext P L s (execCarStop c s) := by
  unfold execCarStop
  with_reducible
    repeat' (first
        | apply Within.refl | assumption | apply Within.trans _ (within_unstage lhy ..)
        | apply within_runCmd wHI_CMP_LOST_CNT wHI_CTX_STAT wHI_INFL_TOTAL wHI_RING_PROD lhi lhy llastCpl lmarks lmem
        | apply WithinEnd.ite | apply WithinNext.next | apply WithinEnd.wait | simp only [↓Within.upd_hy lhy] | apply Within.ite
        | apply WithinNext.ite | dsimp only | intro _ | split)

theorem within_execFlowSet (wFH_FLOW : ∀ i j, P (R.FH_FLOW i j)) (wFH_SECT_USED : ∀ i, P (R.FH_SECT_USED i))
    (wHI_CMP_LOST_CNT : ∀ i, P (R.HI_CMP_LOST_CNT i)) (wHI_CTX_STAT : ∀ i, P (R.HI_CTX_STAT i))
    (wHI_INFL_TOTAL : P R.HI_INFL_TOTAL) (wHI_RING_PROD : ∀ i, P (R.HI_RING_PROD i)) (lfh : L .fh) (lhi : L .hi) (lhy : L .hy)
    (llastCpl : L .lastCpl) (lmarks : L .marks) (lmem : L .mem) (lraised : L .raised) (c : Cmd) (s : State) :
    WithinNext P L s (execFlowSet c s) := by
  unfold execFlowSet
  with_reducible
    repeat' (first
        | apply Within.refl | assumption | apply Within.trans _ (within_setFlow wFH_FLOW wFH_SECT_USED lfh lraised ..)
        | apply within_runCmd wHI_CMP_LOST_CNT wHI_CTX_STAT wHI_INFL_TOTAL wHI_RING_PROD lhi lhy llastCpl lmarks lmem
        | apply WithinEnd.ite | apply WithinNext.next | apply WithinEnd.done | apply Within.ite | apply WithinNext.ite
        | dsimp only | intro _ | split)

theorem within_execCarCfir (wDFE_CFIR : ∀ i j, P (R.DFE_CFIR i j)) (wHI_CMP_LOST_CNT : ∀ i, P (R.HI_CMP_LOST_CNT i))
    (wHI_CTX_STAT : ∀ i, P (R.HI_CTX_STAT i)) (wHI_INFL_TOTAL : P R.HI_INFL_TOTAL) (wHI_RING_PROD : ∀ i, P (R.HI_RING_PROD i))
    (lhi : L .hi) (lhy : L .hy) (llastCpl : L .lastCpl) (lmarks : L .marks) (lmem : L .mem) (c : Cmd) (s : State) :
    WithinNext P L s (execCarCfir c s) := by
  unfold execCarCfir
  with_reducible
    repeat' (first
        | apply Within.refl | assumption | apply Within.trans _ (within_wrN ?_ ..)
        | apply within_runCmd wHI_CMP_LOST_CNT wHI_CTX_STAT wHI_INFL_TOTAL wHI_RING_PROD lhi lhy llastCpl lmarks lmem
        | apply WithinEnd.ite | apply WithinNext.next | apply WithinEnd.done | apply Within.ite | apply WithinNext.ite
        | apply wDFE_CFIR | dsimp only | apply Within.foldl | apply Within.foldlBy Prod.snd | apply Within.foldlBy Prod.fst
        | intro _ | split)

/-! ### Machine/CmdBeam -/

theorem within_execBeamLoad (wBF_REGION_STAT : ∀ i, P (R.BF_REGION_STAT i)) (wHI_CMP_LOST_CNT : ∀ i, P (R.HI_CMP_LOST_CNT i))
    (wHI_CTX_STAT : ∀ i, P (R.HI_CTX_STAT i)) (wHI_INFL_TOTAL : P R.HI_INFL_TOTAL) (wHI_RING_PROD : ∀ i, P (R.HI_RING_PROD i))
    (lhi : L .hi) (lhy : L .hy) (llastCpl : L .lastCpl) (lmarks : L .marks) (lmem : L .mem) (c : Cmd) (s : State) :
    WithinNext P L s (execBeamLoad c s) := by
  unfold execBeamLoad
  with_reducible
    repeat' (first
        | apply Within.refl | assumption | apply Within.trans _ (within_setBytes lmem ..)
        | apply Within.trans _ (within_publish wBF_REGION_STAT ..)
        | apply within_runCmd wHI_CMP_LOST_CNT wHI_CTX_STAT wHI_INFL_TOTAL wHI_RING_PROD lhi lhy llastCpl lmarks lmem
        | apply WithinEnd.ite | apply WithinNext.next | apply WithinEnd.done | apply Within.ite | apply WithinNext.ite
        | dsimp only | intro _ | split)

theorem within_execFcCancel (wHI_CMP_LOST_CNT : ∀ i, P (R.HI_CMP_LOST_CNT i)) (wHI_CTX_STAT : ∀ i, P (R.HI_CTX_STAT i))
    (wHI_INFL_TOTAL : P R.HI_INFL_TOTAL) (wHI_RING_PROD : ∀ i, P (R.HI_RING_PROD i)) (lhi : L .hi) (lhy : L .hy)
    (llastCpl : L .lastCpl) (lmarks : L .marks) (lmem : L .mem) (c : Cmd) (s : State) :
    WithinNext P L s (execFcCancel c s) := by
  unfold execFcCancel
  with_reducible
    repeat' (first
        | apply Within.refl | assumption | apply Within.trans _ (within_unstage lhy ..)
        | apply within_runCmd wHI_CMP_LOST_CNT wHI_CTX_STAT wHI_INFL_TOTAL wHI_RING_PROD lhi lhy llastCpl lmarks lmem
        | apply WithinEnd.ite | apply WithinNext.next | apply WithinEnd.done | apply Within.ite | apply WithinNext.ite
        | dsimp only | intro _ | split)

theorem within_stageAll (lhy : L .hy) (x : Nat) (ws : List (List Word)) (n job : Nat) (s : State) :
    Within P L s (State.stageAll x ws n job s).2.2.2 := by
  induction ws generalizing n job s with
  | nil => exact .refl s
  | cons w ws ih =>
    unfold State.stageAll
    split
    · exact .refl s
    · exact (within_stageHost lhy s x w).trans (ih ..)

theorem within_execFcBatch (wHI_CMP_LOST_CNT : ∀ i, P (R.HI_CMP_LOST_CNT i)) (wHI_CTX_STAT : ∀ i, P (R.HI_CTX_STAT i))
    (wHI_INFL_TOTAL : P R.HI_INFL_TOTAL) (wHI_RING_PROD : ∀ i, P (R.HI_RING_PROD i)) (lfree : L .free) (lhi : L .hi)
    (lhy : L .hy) (llastCpl : L .lastCpl) (lmarks : L .marks) (lmem : L .mem) (c : Cmd) (s : State) :
    WithinNext P L s (execFcBatch c s) := by
  unfold execFcBatch
  with_reducible
    repeat' (first
        | apply Within.refl | assumption | apply Within.trans _ (within_stageAll lhy ..)
        | apply Within.trans _ (within_fresh lfree ..)
        | apply within_runCmd wHI_CMP_LOST_CNT wHI_CTX_STAT wHI_INFL_TOTAL wHI_RING_PROD lhi lhy llastCpl lmarks lmem
        | apply WithinEnd.ite | apply WithinNext.next | apply WithinEnd.done | simp only [↓Within.upd_free lfree]
        | apply Within.ite | apply WithinNext.ite | dsimp only | intro _ | split | apply Within.snd_of (by assumption)
        | apply Within.thd_of (by assumption))

theorem within_setRegion (wBF_REGION_CFG : ∀ i, P (R.BF_REGION_CFG i)) (wBF_REGION_STAT : ∀ i, P (R.BF_REGION_STAT i))
    (wBF_STATUS : P R.BF_STATUS) (lbf : L .bf) (s : State) (r v : Nat) (en paged : Bool) :
    Within P L s (State.setRegion s r v en paged) := by
  unfold State.setRegion
  with_reducible
    repeat' (first
        | apply Within.refl | assumption | apply Within.trans _ (within_bfShow wBF_REGION_STAT wBF_STATUS ..)
        | apply Within.trans _ (within_wrN ?_ ..) | apply Within.trans _ (within_put ?_ ..)
        | apply Within.trans _ (within_setPage wBF_REGION_STAT ..)
        | apply Within.trans _ (within_pagesLeave wBF_REGION_STAT lbf ..) | simp only [↓Within.upd_bf lbf] | apply Within.ite
        | apply wBF_REGION_CFG | apply wBF_REGION_STAT | dsimp only | split)

theorem within_execFcEntry (wHI_CMP_LOST_CNT : ∀ i, P (R.HI_CMP_LOST_CNT i)) (wHI_CTX_STAT : ∀ i, P (R.HI_CTX_STAT i))
    (wHI_INFL_TOTAL : P R.HI_INFL_TOTAL) (wHI_RING_PROD : ∀ i, P (R.HI_RING_PROD i)) (lhi : L .hi) (lhy : L .hy)
    (llastCpl : L .lastCpl) (lmarks : L .marks) (lmem : L .mem) (c : Cmd) (s : State) : WithinNext P L s (execFcEntry c s) := by
  unfold execFcEntry
  with_reducible
    repeat' (first
        | apply Within.refl | assumption | apply Within.trans _ (within_stageHost lhy ..)
        | apply within_runCmd wHI_CMP_LOST_CNT wHI_CTX_STAT wHI_INFL_TOTAL wHI_RING_PROD lhi lhy llastCpl lmarks lmem
        | apply WithinEnd.ite | apply WithinNext.next | apply WithinEnd.done | apply Within.ite | apply WithinNext.ite
        | dsimp only | intro _ | split | apply Within.snd_of (by assumption))

theorem within_execBeamRead (wHI_CMP_LOST_CNT : ∀ i, P (R.HI_CMP_LOST_CNT i)) (wHI_CTX_STAT : ∀ i, P (R.HI_CTX_STAT i))
    (wHI_INFL_TOTAL : P R.HI_INFL_TOTAL) (wHI_RING_PROD : ∀ i, P (R.HI_RING_PROD i)) (lhi : L .hi) (lhy : L .hy)
    (llastCpl : L .lastCpl) (lmarks : L .marks) (lmem : L .mem) (c : Cmd) (s : State) :
    WithinNext P L s (execBeamRead c s) := by
  unfold execBeamRead
  with_reducible
    repeat' (first
        | apply Within.refl | assumption | apply Within.trans _ (within_setBytes lmem ..)
        | apply within_runCmd wHI_CMP_LOST_CNT wHI_CTX_STAT wHI_INFL_TOTAL wHI_RING_PROD lhi lhy llastCpl lmarks lmem
        | apply WithinEnd.ite | apply WithinNext.next | apply WithinEnd.done | apply Within.ite | apply WithinNext.ite
        | dsimp only | intro _ | split)

theorem within_execFcStatus (wHI_CMP_LOST_CNT : ∀ i, P (R.HI_CMP_LOST_CNT i)) (wHI_CTX_STAT : ∀ i, P (R.HI_CTX_STAT i))
    (wHI_INFL_TOTAL : P R.HI_INFL_TOTAL) (wHI_RING_PROD : ∀ i, P (R.HI_RING_PROD i)) (lhi : L .hi) (lhy : L .hy)
    (llastCpl : L .lastCpl) (lmarks : L .marks) (lmem : L .mem) (c : Cmd) (s : State) :
    WithinNext P L s (execFcStatus c s) := by
  unfold execFcStatus
  with_reducible
    repeat' (first
        | apply Within.refl | assumption
        | apply within_runCmd wHI_CMP_LOST_CNT wHI_CTX_STAT wHI_INFL_TOTAL wHI_RING_PROD lhi lhy llastCpl lmarks lmem
        | apply WithinEnd.ite | apply WithinNext.next | apply WithinEnd.done | apply Within.ite | apply WithinNext.ite
        | dsimp only | intro _ | split)

theorem within_execBeamRecipSet (wHI_CMP_LOST_CNT : ∀ i, P (R.HI_CMP_LOST_CNT i)) (wHI_CTX_STAT : ∀ i, P (R.HI_CTX_STAT i))
    (wHI_INFL_TOTAL : P R.HI_INFL_TOTAL) (wHI_RING_PROD : ∀ i, P (R.HI_RING_PROD i)) (lbf : L .bf) (lhi : L .hi) (lhy : L .hy)
    (llastCpl : L .lastCpl) (lmarks : L .marks) (lmem : L .mem) (c : Cmd) (s : State) :
    WithinNext P L s (execBeamRecipSet c s) := by
  unfold execBeamRecipSet
  with_reducible
    repeat' (first
        | apply Within.refl | assumption
        | apply within_runCmd wHI_CMP_LOST_CNT wHI_CTX_STAT wHI_INFL_TOTAL wHI_RING_PROD lhi lhy llastCpl lmarks lmem
        | apply WithinEnd.ite | apply WithinNext.next | apply WithinEnd.done | simp only [↓Within.upd_bf lbf] | apply Within.ite
        | apply WithinNext.ite | dsimp only | intro _ | split)

theorem within_execBeamRegionSet (wBF_REGION_CFG : ∀ i, P (R.BF_REGION_CFG i)) (wBF_REGION_STAT : ∀ i, P (R.BF_REGION_STAT i))
    (wBF_STATUS : P R.BF_STATUS) (wHI_CMP_LOST_CNT : ∀ i, P (R.HI_CMP_LOST_CNT i)) (wHI_CTX_STAT : ∀ i, P (R.HI_CTX_STAT i))
    (wHI_INFL_TOTAL : P R.HI_INFL_TOTAL) (wHI_RING_PROD : ∀ i, P (R.HI_RING_PROD i)) (lbf : L .bf) (lhi : L .hi) (lhy : L .hy)
    (llastCpl : L .lastCpl) (lmarks : L .marks) (lmem : L .mem) (c : Cmd) (s : State) :
    WithinNext P L s (execBeamRegionSet c s) := by
  unfold execBeamRegionSet
  with_reducible
    repeat' (first
        | apply Within.refl | assumption
        | apply Within.trans _ (within_setRegion wBF_REGION_CFG wBF_REGION_STAT wBF_STATUS lbf ..)
        | apply within_runCmd wHI_CMP_LOST_CNT wHI_CTX_STAT wHI_INFL_TOTAL wHI_RING_PROD lhi lhy llastCpl lmarks lmem
        | apply WithinEnd.ite | apply WithinNext.next | apply WithinEnd.done | apply Within.ite | apply WithinNext.ite
        | dsimp only | intro _ | split)

/-! ### Machine/CmdCal -/

theorem within_execFeFaultClear (wHI_CMP_LOST_CNT : ∀ i, P (R.HI_CMP_LOST_CNT i)) (wHI_CTX_STAT : ∀ i, P (R.HI_CTX_STAT i))
    (wHI_INFL_TOTAL : P R.HI_INFL_TOTAL) (wHI_RING_PROD : ∀ i, P (R.HI_RING_PROD i))
    (wRF_PABIAS_CFG : ∀ i, P (R.RF_PABIAS_CFG i)) (wRF_PABIAS_LVL : ∀ i, P (R.RF_PABIAS_LVL i))
    (wRF_PATH_STATE : ∀ i, P (R.RF_PATH_STATE i)) (ldfe : L .dfe) (lhi : L .hi) (lhy : L .hy) (llastCpl : L .lastCpl)
    (lmarks : L .marks) (lmem : L .mem) (lrf : L .rf) (c : Cmd) (s : State) : WithinNext P L s (execFeFaultClear c s) := by
  unfold execFeFaultClear
  with_reducible
    repeat' (first
        | apply Within.refl | assumption | apply Within.trans _ (within_setBias lrf ..)
        | apply Within.trans _ (within_setTx wRF_PABIAS_CFG wRF_PABIAS_LVL wRF_PATH_STATE ldfe lrf ..)
        | apply within_runCmd wHI_CMP_LOST_CNT wHI_CTX_STAT wHI_INFL_TOTAL wHI_RING_PROD lhi lhy llastCpl lmarks lmem
        | apply WithinEnd.ite | apply WithinNext.next | apply WithinEnd.done | apply Within.ite | apply WithinNext.ite
        | dsimp only | apply Within.foldl | apply Within.foldlBy Prod.snd | apply Within.foldlBy Prod.fst | intro _ | split)

theorem within_execCalSweep (wCV_ACAL_STATUS : P R.CV_ACAL_STATUS) (wHI_CMP_LOST_CNT : ∀ i, P (R.HI_CMP_LOST_CNT i))
    (wHI_CTX_STAT : ∀ i, P (R.HI_CTX_STAT i)) (wHI_INFL_TOTAL : P R.HI_INFL_TOTAL) (wHI_RING_PROD : ∀ i, P (R.HI_RING_PROD i))
    (lcv : L .cv) (lhi : L .hi) (lhy : L .hy) (llastCpl : L .lastCpl) (lmarks : L .marks) (lmem : L .mem) (c : Cmd) (s : State)
    : WithinNext P L s (execCalSweep c s) := by
  unfold execCalSweep
  with_reducible
    repeat' (first
        | apply Within.refl | assumption | apply Within.trans _ (within_put ?_ ..)
        | apply within_runCmd wHI_CMP_LOST_CNT wHI_CTX_STAT wHI_INFL_TOTAL wHI_RING_PROD lhi lhy llastCpl lmarks lmem
        | apply WithinEnd.ite | apply WithinNext.next | apply WithinEnd.wait | simp only [↓Within.upd_cv lcv] | apply Within.ite
        | apply WithinNext.ite | apply wCV_ACAL_STATUS | dsimp only | intro _ | split)

theorem within_execDpdTrain (wHI_CMP_LOST_CNT : ∀ i, P (R.HI_CMP_LOST_CNT i)) (wHI_CTX_STAT : ∀ i, P (R.HI_CTX_STAT i))
    (wHI_INFL_TOTAL : P R.HI_INFL_TOTAL) (wHI_RING_PROD : ∀ i, P (R.HI_RING_PROD i)) (ldfe : L .dfe) (lhi : L .hi) (lhy : L .hy)
    (llastCpl : L .lastCpl) (lmarks : L .marks) (lmem : L .mem) (lnvc : L .nvc) (c : Cmd) (s : State) :
    WithinNext P L s (execDpdTrain c s) := by
  unfold execDpdTrain
  with_reducible
    repeat' (first
        | apply Within.refl | assumption | apply Within.trans _ (within_trainPath ldfe lhy lnvc ..)
        | apply Within.trans _ (Within.opt_snd (by assumption) (within_allocJob lhy _))
        | apply within_runCmd wHI_CMP_LOST_CNT wHI_CTX_STAT wHI_INFL_TOTAL wHI_RING_PROD lhi lhy llastCpl lmarks lmem
        | apply WithinEnd.ite | apply WithinNext.next | apply WithinEnd.done | apply Within.ite | apply WithinNext.ite
        | dsimp only | intro _ | split | apply Within.snd_of (by assumption))

theorem within_cfrWait (ldfe : L .dfe) (lfree : L .free) (s : State) (p w : Nat) : Within P L s (State.cfrWait s p w) := by
  unfold State.cfrWait
  with_reducible
    repeat' (first
        | apply Within.refl | assumption | apply Within.trans _ (within_fresh lfree ..) | simp only [↓Within.upd_dfe ldfe]
        | apply Within.ite | dsimp only | split | apply Within.snd_of (by assumption))

theorem within_execCalRotSet (wCV_ROT_CFG : P R.CV_ROT_CFG) (wCV_SPUR_THR : P R.CV_SPUR_THR)
    (wHI_CMP_LOST_CNT : ∀ i, P (R.HI_CMP_LOST_CNT i)) (wHI_CTX_STAT : ∀ i, P (R.HI_CTX_STAT i))
    (wHI_INFL_TOTAL : P R.HI_INFL_TOTAL) (wHI_RING_PROD : ∀ i, P (R.HI_RING_PROD i)) (lcv : L .cv) (lhi : L .hi) (lhy : L .hy)
    (llastCpl : L .lastCpl) (lmarks : L .marks) (lmem : L .mem) (c : Cmd) (s : State) :
    WithinNext P L s (execCalRotSet c s) := by
  unfold execCalRotSet
  with_reducible
    repeat' (first
        | apply Within.refl | assumption | apply Within.trans _ (within_wrN ?_ ..)
        | apply within_runCmd wHI_CMP_LOST_CNT wHI_CTX_STAT wHI_INFL_TOTAL wHI_RING_PROD lhi lhy llastCpl lmarks lmem
        | apply WithinEnd.ite | apply WithinNext.next | apply WithinEnd.done | simp only [↓Within.upd_cv lcv] | apply Within.ite
        | apply WithinNext.ite | apply wCV_ROT_CFG | apply wCV_SPUR_THR | dsimp only | intro _ | split)

theorem within_execCalStatus (wHI_CMP_LOST_CNT : ∀ i, P (R.HI_CMP_LOST_CNT i)) (wHI_CTX_STAT : ∀ i, P (R.HI_CTX_STAT i))
    (wHI_INFL_TOTAL : P R.HI_INFL_TOTAL) (wHI_RING_PROD : ∀ i, P (R.HI_RING_PROD i)) (lhi : L .hi) (lhy : L .hy)
    (llastCpl : L .lastCpl) (lmarks : L .marks) (lmem : L .mem) (c : Cmd) (s : State) :
    WithinNext P L s (execCalStatus c s) := by
  unfold execCalStatus
  with_reducible
    repeat' (first
        | apply Within.refl | assumption
        | apply within_runCmd wHI_CMP_LOST_CNT wHI_CTX_STAT wHI_INFL_TOTAL wHI_RING_PROD lhi lhy llastCpl lmarks lmem
        | apply WithinEnd.ite | apply WithinNext.next | apply WithinEnd.done | apply Within.ite | apply WithinNext.ite
        | dsimp only | apply Within.foldl | apply Within.foldlBy Prod.snd | apply Within.foldlBy Prod.fst | intro _ | split)

theorem within_execCapGet (wHI_CMP_LOST_CNT : ∀ i, P (R.HI_CMP_LOST_CNT i)) (wHI_CTX_STAT : ∀ i, P (R.HI_CTX_STAT i))
    (wHI_INFL_TOTAL : P R.HI_INFL_TOTAL) (wHI_RING_PROD : ∀ i, P (R.HI_RING_PROD i)) (ldfe : L .dfe) (lhi : L .hi) (lhy : L .hy)
    (llastCpl : L .lastCpl) (lmarks : L .marks) (lmem : L .mem) (c : Cmd) (s : State) : WithinNext P L s (execCapGet c s) := by
  unfold execCapGet
  with_reducible
    repeat' (first
        | apply Within.refl | assumption | apply Within.trans _ (within_setBytes lmem ..)
        | apply within_runCmd wHI_CMP_LOST_CNT wHI_CTX_STAT wHI_INFL_TOTAL wHI_RING_PROD lhi lhy llastCpl lmarks lmem
        | apply WithinEnd.ite | apply WithinNext.next | apply WithinEnd.done | apply WithinEnd.silent
        | simp only [↓Within.upd_dfe ldfe] | apply Within.ite | apply WithinNext.ite | dsimp only | intro _ | split)

theorem within_sweepLimit (wCV_ACAL_STATUS : P R.CV_ACAL_STATUS) (wHI_CMP_LOST_CNT : ∀ i, P (R.HI_CMP_LOST_CNT i))
    (wHI_CTX_STAT : ∀ i, P (R.HI_CTX_STAT i)) (wHI_INFL_TOTAL : P R.HI_INFL_TOTAL) (wHI_RING_PROD : ∀ i, P (R.HI_RING_PROD i))
    (wNVC_CORE_STAT : ∀ i, P (R.NVC_CORE_STAT i)) (lcv : L .cv) (lhi : L .hi) (lhy : L .hy) (llastCpl : L .lastCpl)
    (lmarks : L .marks) (lmem : L .mem) (lnvc : L .nvc) (s : State) : Within P L s (State.sweepLimit s) := by
  unfold State.sweepLimit
  with_reducible
    repeat' (first
        | apply Within.refl | assumption | apply Within.trans _ (within_dropJob wNVC_CORE_STAT lnvc ..)
        | apply Within.trans _ (within_put ?_ ..)
        | apply Within.trans _ (within_finish wHI_CMP_LOST_CNT wHI_CTX_STAT wHI_INFL_TOTAL wHI_RING_PROD lhi lhy llastCpl lmarks lmem ..)
        | simp only [↓Within.upd_cv lcv] | apply Within.ite | apply wCV_ACAL_STATUS | dsimp only | split)

theorem within_execRffeAccess (wHI_CMP_LOST_CNT : ∀ i, P (R.HI_CMP_LOST_CNT i)) (wHI_CTX_STAT : ∀ i, P (R.HI_CTX_STAT i))
    (wHI_INFL_TOTAL : P R.HI_INFL_TOTAL) (wHI_RING_PROD : ∀ i, P (R.HI_RING_PROD i)) (lfree : L .free) (lhi : L .hi)
    (lhy : L .hy) (llastCpl : L .lastCpl) (lmarks : L .marks) (lmem : L .mem) (lraised : L .raised) (lrf : L .rf) (c : Cmd)
    (fits parity : Bool) (data : BitVec 128) (s : State) : WithinNext P L s (execRffeAccess c fits parity data s) := by
  unfold execRffeAccess
  with_reducible
    repeat' (first
        | apply Within.refl | assumption | apply Within.trans _ (within_fresh lfree ..)
        | apply Within.trans _ (within_raise lraised ..)
        | apply within_runCmd wHI_CMP_LOST_CNT wHI_CTX_STAT wHI_INFL_TOTAL wHI_RING_PROD lhi lhy llastCpl lmarks lmem
        | apply WithinEnd.ite | apply WithinNext.next | apply WithinEnd.done | simp only [↓Within.upd_rf lrf] | apply Within.ite
        | apply WithinNext.ite | dsimp only | intro _ | split | apply Within.snd_of (by assumption))

theorem within_execAcalRefLock (wHI_CMP_LOST_CNT : ∀ i, P (R.HI_CMP_LOST_CNT i)) (wHI_CTX_STAT : ∀ i, P (R.HI_CTX_STAT i))
    (wHI_INFL_TOTAL : P R.HI_INFL_TOTAL) (wHI_RING_PROD : ∀ i, P (R.HI_RING_PROD i)) (wNVJ_STAT : P R.NVJ_STAT) (lhi : L .hi)
    (lhy : L .hy) (llastCpl : L .lastCpl) (lmarks : L .marks) (lmem : L .mem) (lnvj : L .nvj) (c : Cmd) (s : State) :
    WithinNext P L s (execAcalRefLock c s) := by
  unfold execAcalRefLock
  with_reducible
    repeat' (first
        | apply Within.refl | assumption | apply Within.trans _ (within_lockRecord wNVJ_STAT lnvj ..)
        | apply within_runCmd wHI_CMP_LOST_CNT wHI_CTX_STAT wHI_INFL_TOTAL wHI_RING_PROD lhi lhy llastCpl lmarks lmem
        | apply WithinEnd.ite | apply WithinNext.next | apply WithinEnd.done | apply WithinEnd.wait | apply Within.ite
        | apply WithinNext.ite | dsimp only | intro _ | split | apply Within.snd_of (by assumption))

theorem within_execDpdResume (wDFE_DPD_STATUS : ∀ i, P (R.DFE_DPD_STATUS i)) (wHI_CMP_LOST_CNT : ∀ i, P (R.HI_CMP_LOST_CNT i))
    (wHI_CTX_STAT : ∀ i, P (R.HI_CTX_STAT i)) (wHI_INFL_TOTAL : P R.HI_INFL_TOTAL) (wHI_RING_PROD : ∀ i, P (R.HI_RING_PROD i))
    (lhi : L .hi) (lhy : L .hy) (llastCpl : L .lastCpl) (lmarks : L .marks) (lmem : L .mem) (c : Cmd) (s : State) :
    WithinNext P L s (execDpdResume c s) := by
  unfold execDpdResume
  with_reducible
    repeat' (first
        | apply Within.refl | assumption | apply Within.trans _ (within_put ?_ ..) | apply Within.trans _ (within_setFlag ?_ ..)
        | apply within_runCmd wHI_CMP_LOST_CNT wHI_CTX_STAT wHI_INFL_TOTAL wHI_RING_PROD lhi lhy llastCpl lmarks lmem
        | apply WithinEnd.ite | apply WithinNext.next | apply WithinEnd.done | apply Within.ite | apply WithinNext.ite
        | apply wDFE_DPD_STATUS | dsimp only | apply Within.foldl | apply Within.foldlBy Prod.snd | apply Within.foldlBy Prod.fst
        | intro _ | split)

theorem within_setPabias (wRF_PABIAS_CFG : ∀ i, P (R.RF_PABIAS_CFG i)) (wRF_PABIAS_LVL : ∀ i, P (R.RF_PABIAS_LVL i))
    (lrf : L .rf) (s : State) (p cfg lvl : Nat) : Within P L s (State.setPabias s p cfg lvl) := by
  unfold State.setPabias
  with_reducible
    repeat' (first
        | apply Within.refl | assumption | apply Within.trans _ (within_biasTake wRF_PABIAS_CFG wRF_PABIAS_LVL lrf ..)
        | simp only [↓Within.upd_rf lrf] | apply Within.ite | dsimp only | split)

theorem within_execFePabias (wHI_CMP_LOST_CNT : ∀ i, P (R.HI_CMP_LOST_CNT i)) (wHI_CTX_STAT : ∀ i, P (R.HI_CTX_STAT i))
    (wHI_INFL_TOTAL : P R.HI_INFL_TOTAL) (wHI_RING_PROD : ∀ i, P (R.HI_RING_PROD i))
    (wRF_PABIAS_CFG : ∀ i, P (R.RF_PABIAS_CFG i)) (wRF_PABIAS_LVL : ∀ i, P (R.RF_PABIAS_LVL i)) (lhi : L .hi) (lhy : L .hy)
    (llastCpl : L .lastCpl) (lmarks : L .marks) (lmem : L .mem) (lrf : L .rf) (c : Cmd) (s : State) :
    WithinNext P L s (execFePabias c s) := by
  unfold execFePabias
  with_reducible
    repeat' (first
        | apply Within.refl | assumption | apply Within.trans _ (within_setPabias wRF_PABIAS_CFG wRF_PABIAS_LVL lrf ..)
        | apply within_runCmd wHI_CMP_LOST_CNT wHI_CTX_STAT wHI_INFL_TOTAL wHI_RING_PROD lhi lhy llastCpl lmarks lmem
        | apply WithinEnd.ite | apply WithinNext.next | apply WithinEnd.done | apply Within.ite | apply WithinNext.ite
        | dsimp only | apply Within.foldl | apply Within.foldlBy Prod.snd | apply Within.foldlBy Prod.fst | intro _ | split)

theorem within_execAcalRefRecord (wHI_CMP_LOST_CNT : ∀ i, P (R.HI_CMP_LOST_CNT i)) (wHI_CTX_STAT : ∀ i, P (R.HI_CTX_STAT i))
    (wHI_INFL_TOTAL : P R.HI_INFL_TOTAL) (wHI_RING_PROD : ∀ i, P (R.HI_RING_PROD i)) (wNVJ_STAT : P R.NVJ_STAT) (lhi : L .hi)
    (lhy : L .hy) (llastCpl : L .lastCpl) (lmarks : L .marks) (lmem : L .mem) (lnvj : L .nvj) (c : Cmd) (s : State) :
    WithinNext P L s (execAcalRefRecord c s) := by
  unfold execAcalRefRecord
  with_reducible
    repeat' (first
        | apply Within.refl | assumption | apply Within.trans _ (within_journalObj wNVJ_STAT lnvj ..)
        | apply within_runCmd wHI_CMP_LOST_CNT wHI_CTX_STAT wHI_INFL_TOTAL wHI_RING_PROD lhi lhy llastCpl lmarks lmem
        | apply WithinEnd.ite | apply WithinNext.next | apply WithinEnd.wait | apply Within.ite | apply WithinNext.ite
        | dsimp only | intro _ | split | apply Within.snd_of (by assumption))

theorem within_execDpdNbr (wDFE_DPD_NBR : ∀ i, P (R.DFE_DPD_NBR i)) (wHI_CMP_LOST_CNT : ∀ i, P (R.HI_CMP_LOST_CNT i))
    (wHI_CTX_STAT : ∀ i, P (R.HI_CTX_STAT i)) (wHI_INFL_TOTAL : P R.HI_INFL_TOTAL) (wHI_RING_PROD : ∀ i, P (R.HI_RING_PROD i))
    (lhi : L .hi) (lhy : L .hy) (llastCpl : L .lastCpl) (lmarks : L .marks) (lmem : L .mem) (c : Cmd) (s : State) :
    WithinNext P L s (execDpdNbr c s) := by
  unfold execDpdNbr
  with_reducible
    repeat' (first
        | apply Within.refl | assumption | apply Within.trans _ (within_regPut ?_ ..)
        | apply within_runCmd wHI_CMP_LOST_CNT wHI_CTX_STAT wHI_INFL_TOTAL wHI_RING_PROD lhi lhy llastCpl lmarks lmem
        | apply WithinEnd.ite | apply WithinNext.next | apply WithinEnd.done | apply Within.ite | apply WithinNext.ite
        | apply wDFE_DPD_NBR | dsimp only | intro _ | split)

theorem within_execRffeList (wHI_CMP_LOST_CNT : ∀ i, P (R.HI_CMP_LOST_CNT i)) (wHI_CTX_STAT : ∀ i, P (R.HI_CTX_STAT i))
    (wHI_INFL_TOTAL : P R.HI_INFL_TOTAL) (wHI_RING_PROD : ∀ i, P (R.HI_RING_PROD i)) (wRF_RFFE_CFG : ∀ i, P (R.RF_RFFE_CFG i))
    (wRF_RFFE_MEM : ∀ i j, P (R.RF_RFFE_MEM i j)) (lhi : L .hi) (lhy : L .hy) (llastCpl : L .lastCpl) (lmarks : L .marks)
    (lmem : L .mem) (c : Cmd) (overlap : Bool) (s : State) : WithinNext P L s (execRffeList c overlap s) := by
  unfold execRffeList
  with_reducible
    repeat' (first
        | apply Within.refl | assumption | apply Within.trans _ (within_wrN ?_ ..)
        | apply within_runCmd wHI_CMP_LOST_CNT wHI_CTX_STAT wHI_INFL_TOTAL wHI_RING_PROD lhi lhy llastCpl lmarks lmem
        | apply WithinEnd.ite | apply WithinNext.next | apply WithinEnd.done | apply Within.ite | apply WithinNext.ite
        | apply wRF_RFFE_CFG | apply wRF_RFFE_MEM | dsimp only | apply Within.foldl | apply Within.foldlBy Prod.snd
        | apply Within.foldlBy Prod.fst | intro _ | split)

theorem within_execCalInterval (wHI_CMP_LOST_CNT : ∀ i, P (R.HI_CMP_LOST_CNT i)) (wHI_CTX_STAT : ∀ i, P (R.HI_CTX_STAT i))
    (wHI_INFL_TOTAL : P R.HI_INFL_TOTAL) (wHI_RING_PROD : ∀ i, P (R.HI_RING_PROD i)) (lcv : L .cv) (lhi : L .hi) (lhy : L .hy)
    (llastCpl : L .lastCpl) (lmarks : L .marks) (lmem : L .mem) (c : Cmd) (s : State) :
    WithinNext P L s (execCalInterval c s) := by
  unfold execCalInterval
  with_reducible
    repeat' (first
        | apply Within.refl | assumption
        | apply within_runCmd wHI_CMP_LOST_CNT wHI_CTX_STAT wHI_INFL_TOTAL wHI_RING_PROD lhi lhy llastCpl lmarks lmem
        | apply WithinEnd.ite | apply WithinNext.next | apply WithinEnd.done | simp only [↓Within.upd_cv lcv] | apply Within.ite
        | apply WithinNext.ite | dsimp only | intro _ | split)

theorem within_execCapFree (wHI_CMP_LOST_CNT : ∀ i, P (R.HI_CMP_LOST_CNT i)) (wHI_CTX_STAT : ∀ i, P (R.HI_CTX_STAT i))
    (wHI_INFL_TOTAL : P R.HI_INFL_TOTAL) (wHI_RING_PROD : ∀ i, P (R.HI_RING_PROD i)) (ldfe : L .dfe) (lhi : L .hi) (lhy : L .hy)
    (llastCpl : L .lastCpl) (lmarks : L .marks) (lmem : L .mem) (c : Cmd) (s : State) : WithinNext P L s (execCapFree c s) := by
  unfold execCapFree
  with_reducible
    repeat' (first
        | apply Within.refl | assumption
        | apply within_runCmd wHI_CMP_LOST_CNT wHI_CTX_STAT wHI_INFL_TOTAL wHI_RING_PROD lhi lhy llastCpl lmarks lmem
        | apply WithinEnd.ite | apply WithinNext.next | apply WithinEnd.done | simp only [↓Within.upd_dfe ldfe] | apply Within.ite
        | apply WithinNext.ite | dsimp only | intro _ | split)

theorem within_execCfrConfig (wHI_CMP_LOST_CNT : ∀ i, P (R.HI_CMP_LOST_CNT i)) (wHI_CTX_STAT : ∀ i, P (R.HI_CTX_STAT i))
    (wHI_INFL_TOTAL : P R.HI_INFL_TOTAL) (wHI_RING_PROD : ∀ i, P (R.HI_RING_PROD i)) (ldfe : L .dfe) (lfree : L .free)
    (lhi : L .hi) (lhy : L .hy) (llastCpl : L .lastCpl) (lmarks : L .marks) (lmem : L .mem) (c : Cmd) (s : State) :
    WithinNext P L s (execCfrConfig c s) := by
  unfold execCfrConfig
  with_reducible
    repeat' (first
        | apply Within.refl | assumption | apply Within.trans _ (within_cfrWait ldfe lfree ..)
        | apply within_runCmd wHI_CMP_LOST_CNT wHI_CTX_STAT wHI_INFL_TOTAL wHI_RING_PROD lhi lhy llastCpl lmarks lmem
        | apply WithinEnd.ite | apply WithinNext.next | apply WithinEnd.done | apply Within.ite | apply WithinNext.ite
        | dsimp only | apply Within.foldl | apply Within.foldlBy Prod.snd | apply Within.foldlBy Prod.fst | intro _ | split)

theorem within_execDpdCoef (wDFE_DPD_STATUS : ∀ i, P (R.DFE_DPD_STATUS i)) (wHI_CMP_LOST_CNT : ∀ i, P (R.HI_CMP_LOST_CNT i))
    (wHI_CTX_STAT : ∀ i, P (R.HI_CTX_STAT i)) (wHI_INFL_TOTAL : P R.HI_INFL_TOTAL) (wHI_RING_PROD : ∀ i, P (R.HI_RING_PROD i))
    (ldfe : L .dfe) (lhi : L .hi) (lhy : L .hy) (llastCpl : L .lastCpl) (lmarks : L .marks) (lmem : L .mem) (c : Cmd)
    (s : State) : WithinNext P L s (execDpdCoef c s) := by
  unfold execDpdCoef
  with_reducible
    repeat' (first
        | apply Within.refl | assumption | apply Within.trans _ (within_loaderStart wDFE_DPD_STATUS ldfe ..)
        | apply Within.trans _ (within_setBytes lmem ..)
        | apply within_runCmd wHI_CMP_LOST_CNT wHI_CTX_STAT wHI_INFL_TOTAL wHI_RING_PROD lhi lhy llastCpl lmarks lmem
        | apply WithinEnd.ite | apply WithinNext.next | apply WithinEnd.done | apply WithinEnd.wait | apply Within.ite
        | apply WithinNext.ite | dsimp only | intro _ | split)

theorem within_execFeTdd (wHI_CMP_LOST_CNT : ∀ i, P (R.HI_CMP_LOST_CNT i)) (wHI_CTX_STAT : ∀ i, P (R.HI_CTX_STAT i))
    (wHI_INFL_TOTAL : P R.HI_INFL_TOTAL) (wHI_RING_PROD : ∀ i, P (R.HI_RING_PROD i)) (lhi : L .hi) (lhy : L .hy)
    (llastCpl : L .lastCpl) (lmarks : L .marks) (lmem : L .mem) (lrf : L .rf) (c : Cmd) (s : State) :
    WithinNext P L s (execFeTdd c s) := by
  unfold execFeTdd
  with_reducible
    repeat' (first
        | apply Within.refl | assumption
        | apply within_runCmd wHI_CMP_LOST_CNT wHI_CTX_STAT wHI_INFL_TOTAL wHI_RING_PROD lhi lhy llastCpl lmarks lmem
        | apply WithinEnd.ite | apply WithinNext.next | apply WithinEnd.done | simp only [↓Within.upd_rf lrf] | apply Within.ite
        | apply WithinNext.ite | dsimp only | intro _ | split)

theorem within_execDpdConfig (wDFE_DPD_CFG : ∀ i, P (R.DFE_DPD_CFG i)) (wDFE_DPD_STATUS : ∀ i, P (R.DFE_DPD_STATUS i))
    (wHI_CMP_LOST_CNT : ∀ i, P (R.HI_CMP_LOST_CNT i)) (wHI_CTX_STAT : ∀ i, P (R.HI_CTX_STAT i))
    (wHI_INFL_TOTAL : P R.HI_INFL_TOTAL) (wHI_RING_PROD : ∀ i, P (R.HI_RING_PROD i)) (ldfe : L .dfe) (lhi : L .hi) (lhy : L .hy)
    (llastCpl : L .lastCpl) (lmarks : L .marks) (lmem : L .mem) (c : Cmd) (s : State) :
    WithinNext P L s (execDpdConfig c s) := by
  unfold execDpdConfig
  with_reducible
    repeat' (first
        | apply Within.refl | assumption | apply Within.trans _ (within_dpdEnable wDFE_DPD_STATUS ldfe ..)
        | apply Within.trans _ (within_wrN ?_ ..)
        | apply within_runCmd wHI_CMP_LOST_CNT wHI_CTX_STAT wHI_INFL_TOTAL wHI_RING_PROD lhi lhy llastCpl lmarks lmem
        | apply WithinEnd.ite | apply WithinNext.next | apply WithinEnd.done | simp only [↓Within.upd_dfe ldfe] | apply Within.ite
        | apply WithinNext.ite | apply wDFE_DPD_CFG | dsimp only | apply Within.foldl | apply Within.foldlBy Prod.snd
        | apply Within.foldlBy Prod.fst | intro _ | split)

/-! ### Machine/CmdSys -/

theorem within_leaseEnd (wBF_REGION_CFG : ∀ i, P (R.BF_REGION_CFG i)) (wBF_REGION_STAT : ∀ i, P (R.BF_REGION_STAT i))
    (wBF_STATUS : P R.BF_STATUS) (wDMA_CH_CFG : ∀ i, P (R.DMA_CH_CFG i)) (wDMA_CH_STAT : ∀ i, P (R.DMA_CH_STAT i))
    (wDMA_STATUS : P R.DMA_STATUS) (wFH_FLOW : ∀ i j, P (R.FH_FLOW i j)) (wFH_SECT_QUOTA : ∀ i, P (R.FH_SECT_QUOTA i))
    (wFH_SECT_USED : ∀ i, P (R.FH_SECT_USED i)) (wHI_CMP_LOST_CNT : ∀ i, P (R.HI_CMP_LOST_CNT i))
    (wHI_CTX_STAT : ∀ i, P (R.HI_CTX_STAT i)) (wHI_INFL_TOTAL : P R.HI_INFL_TOTAL) (wHI_RING_CFG : ∀ i, P (R.HI_RING_CFG i))
    (wHI_RING_PROD : ∀ i, P (R.HI_RING_PROD i)) (wHI_RING_STAT : ∀ i, P (R.HI_RING_STAT i))
    (wNVC_CORE_STAT : ∀ i, P (R.NVC_CORE_STAT i)) (wNVC_MBX_IN : ∀ i j, P (R.NVC_MBX_IN i j))
    (wNVC_MBX_OUT : ∀ i j, P (R.NVC_MBX_OUT i j)) (wNVC_STATUS : P R.NVC_STATUS) (wTL_PART_QUOTA : ∀ i, P (R.TL_PART_QUOTA i))
    (lbf : L .bf) (ldfe : L .dfe) (ldma : L .dma) (lfh : L .fh) (lhi : L .hi) (lhy : L .hy) (llastCpl : L .lastCpl)
    (lmarks : L .marks) (lmem : L .mem) (lnvc : L .nvc) (lraised : L .raised) (ltl : L .tl) (s : State) (c : Cmd)
    (x res idx : Nat) (who : List Check) : WithinNext P L s (State.leaseEnd s c x res idx who) := by
  unfold State.leaseEnd
  with_reducible
    repeat' (first
        | apply Within.refl | assumption
        | apply Within.trans _ (within_revokeRes wBF_REGION_CFG wBF_REGION_STAT wBF_STATUS wDMA_CH_CFG wDMA_CH_STAT wDMA_STATUS wFH_FLOW wFH_SECT_QUOTA wFH_SECT_USED wHI_CMP_LOST_CNT wHI_CTX_STAT wHI_INFL_TOTAL wHI_RING_CFG wHI_RING_PROD wHI_RING_STAT wNVC_CORE_STAT wNVC_MBX_IN wNVC_MBX_OUT wNVC_STATUS wTL_PART_QUOTA lbf ldfe ldma lfh lhi lhy llastCpl lmarks lmem lnvc lraised ltl ..)
        | apply within_runCmd wHI_CMP_LOST_CNT wHI_CTX_STAT wHI_INFL_TOTAL wHI_RING_PROD lhi lhy llastCpl lmarks lmem
        | apply WithinEnd.ite | apply WithinNext.next | apply WithinEnd.done | apply WithinEnd.wait | apply Within.ite
        | apply WithinNext.ite | dsimp only | intro _ | split | apply Within.fst_of (by assumption))

theorem within_execSysSerial (wHI_CMP_LOST_CNT : ∀ i, P (R.HI_CMP_LOST_CNT i)) (wHI_CTX_STAT : ∀ i, P (R.HI_CTX_STAT i))
    (wHI_INFL_TOTAL : P R.HI_INFL_TOTAL) (wHI_RING_PROD : ∀ i, P (R.HI_RING_PROD i)) (lhi : L .hi) (lhy : L .hy)
    (llastCpl : L .lastCpl) (lmarks : L .marks) (lmem : L .mem) (c : Cmd) (s : State) :
    WithinNext P L s (execSysSerial c s) := by
  unfold execSysSerial
  with_reducible
    repeat' (first
        | apply Within.refl | assumption
        | apply within_runCmd wHI_CMP_LOST_CNT wHI_CTX_STAT wHI_INFL_TOTAL wHI_RING_PROD lhi lhy llastCpl lmarks lmem
        | apply WithinEnd.ite | apply WithinNext.next | apply WithinEnd.done | apply Within.ite | apply WithinNext.ite
        | dsimp only | intro _ | split)

theorem within_execSysGpio (wHI_CMP_LOST_CNT : ∀ i, P (R.HI_CMP_LOST_CNT i)) (wHI_CTX_STAT : ∀ i, P (R.HI_CTX_STAT i))
    (wHI_INFL_TOTAL : P R.HI_INFL_TOTAL) (wHI_RING_PROD : ∀ i, P (R.HI_RING_PROD i)) (wPM_GPIO_CFG : ∀ i, P (R.PM_GPIO_CFG i))
    (lhi : L .hi) (lhy : L .hy) (llastCpl : L .lastCpl) (lmarks : L .marks) (lmem : L .mem) (c : Cmd) (s : State) :
    WithinNext P L s (execSysGpio c s) := by
  unfold execSysGpio
  with_reducible
    repeat' (first
        | apply Within.refl | assumption | apply Within.trans _ (within_wrN ?_ ..)
        | apply within_runCmd wHI_CMP_LOST_CNT wHI_CTX_STAT wHI_INFL_TOTAL wHI_RING_PROD lhi lhy llastCpl lmarks lmem
        | apply WithinEnd.ite | apply WithinNext.next | apply WithinEnd.done | apply Within.ite | apply WithinNext.ite
        | apply wPM_GPIO_CFG | dsimp only | intro _ | split)

theorem within_resizeRegion (wBF_FREE_VEC : P R.BF_FREE_VEC) (wBF_REGION_BASE : ∀ i, P (R.BF_REGION_BASE i))
    (wBF_REGION_STAT : ∀ i, P (R.BF_REGION_STAT i)) (wBF_STATUS : P R.BF_STATUS) (lbf : L .bf) (s : State) (x r n : Nat) :
    Within P L s (State.resizeRegion s x r n) := by
  unfold State.resizeRegion
  with_reducible
    repeat' (first
        | apply Within.refl | assumption | apply Within.trans _ (within_put ?_ ..)
        | apply Within.trans _ (within_bfShow wBF_REGION_STAT wBF_STATUS ..) | simp only [↓Within.upd_bf lbf] | apply Within.ite
        | apply wBF_FREE_VEC | apply wBF_REGION_BASE | dsimp only | split)

theorem within_execSysReset (wAny : ∀ a, P a) (lAll : ∀ p, L p) (c : Cmd) (s : State) :
    WithinNext P L s (execSysReset c s) := by
  unfold execSysReset
  with_reducible
    repeat' (first
        | apply Within.refl | assumption | apply Within.trans _ (within_toReset wAny lAll ..)
        | apply within_runCmd (fun _ => wAny _) (fun _ => wAny _) (wAny _) (fun _ => wAny _) (lAll _) (lAll _) (lAll _) (lAll _) (lAll _)
        | apply WithinEnd.ite | apply WithinNext.next | apply WithinEnd.silent | apply Within.ite | apply WithinNext.ite
        | apply wAny | dsimp only | intro _ | split)

theorem within_newRegion (wBF_FREE_VEC : P R.BF_FREE_VEC) (wBF_REGION_BASE : ∀ i, P (R.BF_REGION_BASE i))
    (wBF_REGION_CFG : ∀ i, P (R.BF_REGION_CFG i)) (wBF_REGION_STAT : ∀ i, P (R.BF_REGION_STAT i)) (lbf : L .bf) (s : State)
    (x r base n : Nat) : Within P L s (State.newRegion s x r base n) := by
  unfold State.newRegion
  with_reducible
    repeat' (first
        | apply Within.refl | assumption | apply Within.trans _ (within_wr ?_ ..) | apply Within.trans _ (within_put ?_ ..)
        | simp only [↓Within.upd_bf lbf] | apply Within.ite | apply wBF_FREE_VEC | apply wBF_REGION_BASE | apply wBF_REGION_CFG
        | apply wBF_REGION_STAT | dsimp only | split)

theorem within_setQuota (wFH_SECT_QUOTA : ∀ i, P (R.FH_SECT_QUOTA i)) (wHI_CTX_STAT : ∀ i, P (R.HI_CTX_STAT i))
    (wTL_PART_QUOTA : ∀ i, P (R.TL_PART_QUOTA i)) (lhy : L .hy) (ltl : L .tl) (s : State) (res x n : Nat) :
    Within P L s (State.setQuota s res x n) := by
  unfold State.setQuota
  with_reducible
    repeat' (first
        | apply Within.refl | assumption | apply Within.trans _ (within_put ?_ ..) | simp only [↓Within.upd_hy_tl lhy ltl]
        | apply Within.ite | apply wFH_SECT_QUOTA | apply wHI_CTX_STAT | apply wTL_PART_QUOTA | dsimp only | split)

theorem within_execLeaseRelease (wBF_REGION_CFG : ∀ i, P (R.BF_REGION_CFG i)) (wBF_REGION_STAT : ∀ i, P (R.BF_REGION_STAT i))
    (wBF_STATUS : P R.BF_STATUS) (wDMA_CH_CFG : ∀ i, P (R.DMA_CH_CFG i)) (wDMA_CH_STAT : ∀ i, P (R.DMA_CH_STAT i))
    (wDMA_STATUS : P R.DMA_STATUS) (wFH_FLOW : ∀ i j, P (R.FH_FLOW i j)) (wFH_SECT_QUOTA : ∀ i, P (R.FH_SECT_QUOTA i))
    (wFH_SECT_USED : ∀ i, P (R.FH_SECT_USED i)) (wHI_CMP_LOST_CNT : ∀ i, P (R.HI_CMP_LOST_CNT i))
    (wHI_CTX_STAT : ∀ i, P (R.HI_CTX_STAT i)) (wHI_INFL_TOTAL : P R.HI_INFL_TOTAL) (wHI_RING_CFG : ∀ i, P (R.HI_RING_CFG i))
    (wHI_RING_PROD : ∀ i, P (R.HI_RING_PROD i)) (wHI_RING_STAT : ∀ i, P (R.HI_RING_STAT i))
    (wNVC_CORE_STAT : ∀ i, P (R.NVC_CORE_STAT i)) (wNVC_MBX_IN : ∀ i j, P (R.NVC_MBX_IN i j))
    (wNVC_MBX_OUT : ∀ i j, P (R.NVC_MBX_OUT i j)) (wNVC_STATUS : P R.NVC_STATUS) (wTL_PART_QUOTA : ∀ i, P (R.TL_PART_QUOTA i))
    (lbf : L .bf) (ldfe : L .dfe) (ldma : L .dma) (lfh : L .fh) (lhi : L .hi) (lhy : L .hy) (llastCpl : L .lastCpl)
    (lmarks : L .marks) (lmem : L .mem) (lnvc : L .nvc) (lraised : L .raised) (ltl : L .tl) (c : Cmd) (s : State) :
    WithinNext P L s (execLeaseRelease c s) := by
  unfold execLeaseRelease
  with_reducible
    repeat' (first
        | apply Within.refl | assumption
        | apply within_leaseEnd wBF_REGION_CFG wBF_REGION_STAT wBF_STATUS wDMA_CH_CFG wDMA_CH_STAT wDMA_STATUS wFH_FLOW wFH_SECT_QUOTA wFH_SECT_USED wHI_CMP_LOST_CNT wHI_CTX_STAT wHI_INFL_TOTAL wHI_RING_CFG wHI_RING_PROD wHI_RING_STAT wNVC_CORE_STAT wNVC_MBX_IN wNVC_MBX_OUT wNVC_STATUS wTL_PART_QUOTA lbf ldfe ldma lfh lhi lhy llastCpl lmarks lmem lnvc lraised ltl
        | apply WithinNext.next | apply Within.ite | apply WithinNext.ite | dsimp only | split)

theorem within_addLease (lhy : L .hy) (s : State) (x res idx run : Nat) : Within P L s (State.addLease s x res idx run) := by
  unfold State.addLease
  with_reducible
    repeat' (first
        | apply Within.refl | assumption | simp only [↓Within.upd_hy lhy] | apply Within.ite | dsimp only | split)

theorem within_grant (wBF_FREE_VEC : P R.BF_FREE_VEC) (wBF_REGION_BASE : ∀ i, P (R.BF_REGION_BASE i))
    (wBF_REGION_CFG : ∀ i, P (R.BF_REGION_CFG i)) (wBF_REGION_STAT : ∀ i, P (R.BF_REGION_STAT i)) (wBF_STATUS : P R.BF_STATUS)
    (wFH_SECT_QUOTA : ∀ i, P (R.FH_SECT_QUOTA i)) (wHI_CTX_STAT : ∀ i, P (R.HI_CTX_STAT i)) (wHI_MODE_LEASE : P R.HI_MODE_LEASE)
    (wHI_RING_STAT : ∀ i, P (R.HI_RING_STAT i)) (wNVC_CORE_STAT : ∀ i, P (R.NVC_CORE_STAT i))
    (wTL_PART_QUOTA : ∀ i, P (R.TL_PART_QUOTA i)) (lbf : L .bf) (lhy : L .hy) (lraised : L .raised) (ltl : L .tl) (s : State)
    (x res a idx n : Nat) : Within P L s (State.grant s x res a idx n).1 := by
  unfold State.grant
  with_reducible
    repeat' (first
        | apply Within.refl | assumption | apply Within.trans _ (within_raiseTo lraised ..)
        | apply Within.trans _ (within_setHolder wHI_CTX_STAT wHI_MODE_LEASE lraised ..)
        | apply Within.trans _ (within_setQuota wFH_SECT_QUOTA wHI_CTX_STAT wTL_PART_QUOTA lhy ltl ..)
        | apply Within.trans _ (within_bfShow wBF_REGION_STAT wBF_STATUS ..)
        | apply Within.trans _ (within_newRegion wBF_FREE_VEC wBF_REGION_BASE wBF_REGION_CFG wBF_REGION_STAT lbf ..)
        | apply Within.trans _ (within_resizeRegion wBF_FREE_VEC wBF_REGION_BASE wBF_REGION_STAT wBF_STATUS lbf ..)
        | apply Within.trans _ (within_addLease lhy ..) | apply Within.trans _ (within_put ?_ ..) | apply Within.ite
        | apply Within.ite_fst | apply wHI_RING_STAT | apply wNVC_CORE_STAT | dsimp only | apply Within.foldl
        | apply Within.foldlBy Prod.snd | apply Within.foldlBy Prod.fst | intro _ | split)

theorem within_execLeaseGrant (wBF_FREE_VEC : P R.BF_FREE_VEC) (wBF_REGION_BASE : ∀ i, P (R.BF_REGION_BASE i))
    (wBF_REGION_CFG : ∀ i, P (R.BF_REGION_CFG i)) (wBF_REGION_STAT : ∀ i, P (R.BF_REGION_STAT i)) (wBF_STATUS : P R.BF_STATUS)
    (wFH_SECT_QUOTA : ∀ i, P (R.FH_SECT_QUOTA i)) (wHI_CMP_LOST_CNT : ∀ i, P (R.HI_CMP_LOST_CNT i))
    (wHI_CTX_STAT : ∀ i, P (R.HI_CTX_STAT i)) (wHI_INFL_TOTAL : P R.HI_INFL_TOTAL) (wHI_MODE_LEASE : P R.HI_MODE_LEASE)
    (wHI_RING_PROD : ∀ i, P (R.HI_RING_PROD i)) (wHI_RING_STAT : ∀ i, P (R.HI_RING_STAT i))
    (wNVC_CORE_STAT : ∀ i, P (R.NVC_CORE_STAT i)) (wTL_PART_QUOTA : ∀ i, P (R.TL_PART_QUOTA i)) (lbf : L .bf) (lhi : L .hi)
    (lhy : L .hy) (llastCpl : L .lastCpl) (lmarks : L .marks) (lmem : L .mem) (lraised : L .raised) (ltl : L .tl) (c : Cmd)
    (s : State) : WithinNext P L s (execLeaseGrant c s) := by
  unfold execLeaseGrant
  with_reducible
    repeat' (first
        | apply Within.refl | assumption
        | apply Within.trans _ (within_grant wBF_FREE_VEC wBF_REGION_BASE wBF_REGION_CFG wBF_REGION_STAT wBF_STATUS wFH_SECT_QUOTA wHI_CTX_STAT wHI_MODE_LEASE wHI_RING_STAT wNVC_CORE_STAT wTL_PART_QUOTA lbf lhy lraised ltl ..)
        | apply within_runCmd wHI_CMP_LOST_CNT wHI_CTX_STAT wHI_INFL_TOTAL wHI_RING_PROD lhi lhy llastCpl lmarks lmem
        | apply WithinEnd.ite | apply WithinNext.next | apply WithinEnd.done | apply Within.ite | apply WithinNext.ite
        | dsimp only | intro _ | split | apply Within.fst_of (by assumption))

theorem within_execSysI2c (wHI_CMP_LOST_CNT : ∀ i, P (R.HI_CMP_LOST_CNT i)) (wHI_CTX_STAT : ∀ i, P (R.HI_CTX_STAT i))
    (wHI_INFL_TOTAL : P R.HI_INFL_TOTAL) (wHI_RING_PROD : ∀ i, P (R.HI_RING_PROD i)) (lhi : L .hi) (lhy : L .hy)
    (llastCpl : L .lastCpl) (lmarks : L .marks) (lmem : L .mem) (c : Cmd) (s : State) : WithinNext P L s (execSysI2c c s) := by
  unfold execSysI2c
  with_reducible
    repeat' (first
        | apply Within.refl | assumption | apply Within.trans _ (within_i2cPut lhi ..)
        | apply within_runCmd wHI_CMP_LOST_CNT wHI_CTX_STAT wHI_INFL_TOTAL wHI_RING_PROD lhi lhy llastCpl lmarks lmem
        | apply WithinEnd.ite | apply WithinNext.next | apply WithinEnd.wait | apply Within.ite | apply WithinNext.ite
        | dsimp only | apply Within.foldl | apply Within.foldlBy Prod.snd | apply Within.foldlBy Prod.fst | intro _ | split)

theorem within_execSysInfo (wHI_CMP_LOST_CNT : ∀ i, P (R.HI_CMP_LOST_CNT i)) (wHI_CTX_STAT : ∀ i, P (R.HI_CTX_STAT i))
    (wHI_INFL_TOTAL : P R.HI_INFL_TOTAL) (wHI_RING_PROD : ∀ i, P (R.HI_RING_PROD i)) (lhi : L .hi) (lhy : L .hy)
    (llastCpl : L .lastCpl) (lmarks : L .marks) (lmem : L .mem) (c : Cmd) (s : State) : WithinNext P L s (execSysInfo c s) := by
  unfold execSysInfo
  with_reducible
    repeat' (first
        | apply Within.refl | assumption
        | apply within_runCmd wHI_CMP_LOST_CNT wHI_CTX_STAT wHI_INFL_TOTAL wHI_RING_PROD lhi lhy llastCpl lmarks lmem
        | apply WithinEnd.ite | apply WithinNext.next | apply WithinEnd.done | apply Within.ite | apply WithinNext.ite
        | dsimp only | intro _ | split)

theorem within_execSysEcho (wHI_CMP_LOST_CNT : ∀ i, P (R.HI_CMP_LOST_CNT i)) (wHI_CTX_STAT : ∀ i, P (R.HI_CTX_STAT i))
    (wHI_INFL_TOTAL : P R.HI_INFL_TOTAL) (wHI_RING_PROD : ∀ i, P (R.HI_RING_PROD i)) (lhi : L .hi) (lhy : L .hy)
    (llastCpl : L .lastCpl) (lmarks : L .marks) (lmem : L .mem) (c : Cmd) (s : State) : WithinNext P L s (execSysEcho c s) := by
  unfold execSysEcho
  with_reducible
    repeat' (first
        | apply Within.refl | assumption
        | apply within_runCmd wHI_CMP_LOST_CNT wHI_CTX_STAT wHI_INFL_TOTAL wHI_RING_PROD lhi lhy llastCpl lmarks lmem
        | apply WithinEnd.ite | apply WithinNext.next | apply WithinEnd.done | apply Within.ite | apply WithinNext.ite
        | dsimp only | intro _ | split)

theorem within_execLeaseRevoke (wBF_REGION_CFG : ∀ i, P (R.BF_REGION_CFG i)) (wBF_REGION_STAT : ∀ i, P (R.BF_REGION_STAT i))
    (wBF_STATUS : P R.BF_STATUS) (wDMA_CH_CFG : ∀ i, P (R.DMA_CH_CFG i)) (wDMA_CH_STAT : ∀ i, P (R.DMA_CH_STAT i))
    (wDMA_STATUS : P R.DMA_STATUS) (wFH_FLOW : ∀ i j, P (R.FH_FLOW i j)) (wFH_SECT_QUOTA : ∀ i, P (R.FH_SECT_QUOTA i))
    (wFH_SECT_USED : ∀ i, P (R.FH_SECT_USED i)) (wHI_CMP_LOST_CNT : ∀ i, P (R.HI_CMP_LOST_CNT i))
    (wHI_CTX_STAT : ∀ i, P (R.HI_CTX_STAT i)) (wHI_INFL_TOTAL : P R.HI_INFL_TOTAL) (wHI_RING_CFG : ∀ i, P (R.HI_RING_CFG i))
    (wHI_RING_PROD : ∀ i, P (R.HI_RING_PROD i)) (wHI_RING_STAT : ∀ i, P (R.HI_RING_STAT i))
    (wNVC_CORE_STAT : ∀ i, P (R.NVC_CORE_STAT i)) (wNVC_MBX_IN : ∀ i j, P (R.NVC_MBX_IN i j))
    (wNVC_MBX_OUT : ∀ i j, P (R.NVC_MBX_OUT i j)) (wNVC_STATUS : P R.NVC_STATUS) (wTL_PART_QUOTA : ∀ i, P (R.TL_PART_QUOTA i))
    (lbf : L .bf) (ldfe : L .dfe) (ldma : L .dma) (lfh : L .fh) (lhi : L .hi) (lhy : L .hy) (llastCpl : L .lastCpl)
    (lmarks : L .marks) (lmem : L .mem) (lnvc : L .nvc) (lraised : L .raised) (ltl : L .tl) (c : Cmd) (s : State) :
    WithinNext P L s (execLeaseRevoke c s) := by
  unfold execLeaseRevoke
  with_reducible
    repeat' (first
        | apply Within.refl | assumption
        | apply within_leaseEnd wBF_REGION_CFG wBF_REGION_STAT wBF_STATUS wDMA_CH_CFG wDMA_CH_STAT wDMA_STATUS wFH_FLOW wFH_SECT_QUOTA wFH_SECT_USED wHI_CMP_LOST_CNT wHI_CTX_STAT wHI_INFL_TOTAL wHI_RING_CFG wHI_RING_PROD wHI_RING_STAT wNVC_CORE_STAT wNVC_MBX_IN wNVC_MBX_OUT wNVC_STATUS wTL_PART_QUOTA lbf ldfe ldma lfh lhi lhy llastCpl lmarks lmem lnvc lraised ltl
        | apply WithinNext.next | apply Within.ite | apply WithinNext.ite | dsimp only | split)

theorem within_startMode (wHI_CMP_LOST_CNT : ∀ i, P (R.HI_CMP_LOST_CNT i)) (wHI_CTX_STAT : ∀ i, P (R.HI_CTX_STAT i))
    (wHI_INFL_TOTAL : P R.HI_INFL_TOTAL) (wHI_RING_PROD : ∀ i, P (R.HI_RING_PROD i)) (wPM_MODE : P R.PM_MODE)
    (wRF_SYN_STATUS : ∀ i, P (R.RF_SYN_STATUS i)) (wTL_HEAD : P R.TL_HEAD) (wTL_PART_QUOTA : ∀ i, P (R.TL_PART_QUOTA i))
    (wTL_PART_USED : ∀ i, P (R.TL_PART_USED i)) (wTL_STATUS : P R.TL_STATUS) (wringWord : ∀ i j, P (ringWord i j)) (lcv : L .cv)
    (lhi : L .hi) (lhy : L .hy) (llastCpl : L .lastCpl) (lmarks : L .marks) (lmc : L .mc) (lmem : L .mem) (lpm : L .pm)
    (lraised : L .raised) (lrf : L .rf) (ltl : L .tl) (s : State) (m : Mode) : Within P L s (State.startMode s m) := by
  unfold State.startMode
  with_reducible
    repeat' (first
        | apply Within.refl | assumption | apply Within.trans _ (within_beginMode wPM_MODE lpm ..)
        | apply Within.trans _ (within_discard wHI_CMP_LOST_CNT wHI_CTX_STAT wHI_INFL_TOTAL wHI_RING_PROD wTL_HEAD wTL_PART_QUOTA wTL_PART_USED wTL_STATUS wringWord lhi lhy llastCpl lmarks lmem lraised ltl ..)
        | apply Within.trans _ (within_synAll wRF_SYN_STATUS lrf ..) | simp only [↓Within.upd_pm_cv_mc lpm lcv lmc]
        | apply Within.ite | dsimp only | split)

theorem within_execSysSetMode (wHI_CMP_LOST_CNT : ∀ i, P (R.HI_CMP_LOST_CNT i)) (wHI_CTX_STAT : ∀ i, P (R.HI_CTX_STAT i))
    (wHI_INFL_TOTAL : P R.HI_INFL_TOTAL) (wHI_RING_PROD : ∀ i, P (R.HI_RING_PROD i)) (wPM_MODE : P R.PM_MODE)
    (wRF_SYN_STATUS : ∀ i, P (R.RF_SYN_STATUS i)) (wTL_HEAD : P R.TL_HEAD) (wTL_PART_QUOTA : ∀ i, P (R.TL_PART_QUOTA i))
    (wTL_PART_USED : ∀ i, P (R.TL_PART_USED i)) (wTL_STATUS : P R.TL_STATUS) (wringWord : ∀ i j, P (ringWord i j)) (lcv : L .cv)
    (lhi : L .hi) (lhy : L .hy) (llastCpl : L .lastCpl) (lmarks : L .marks) (lmc : L .mc) (lmem : L .mem) (lpm : L .pm)
    (lraised : L .raised) (lrf : L .rf) (ltl : L .tl) (c : Cmd) (s : State) : WithinNext P L s (execSysSetMode c s) := by
  unfold execSysSetMode
  with_reducible
    repeat' (first
        | apply Within.refl | assumption
        | apply Within.trans _ (within_startMode wHI_CMP_LOST_CNT wHI_CTX_STAT wHI_INFL_TOTAL wHI_RING_PROD wPM_MODE wRF_SYN_STATUS wTL_HEAD wTL_PART_QUOTA wTL_PART_USED wTL_STATUS wringWord lcv lhi lhy llastCpl lmarks lmc lmem lpm lraised lrf ltl ..)
        | apply within_runCmd wHI_CMP_LOST_CNT wHI_CTX_STAT wHI_INFL_TOTAL wHI_RING_PROD lhi lhy llastCpl lmarks lmem
        | apply WithinEnd.ite | apply WithinNext.next | apply WithinEnd.wait | apply Within.ite | apply WithinNext.ite
        | dsimp only | intro _ | split)

theorem within_execLeaseQuery (wHI_CMP_LOST_CNT : ∀ i, P (R.HI_CMP_LOST_CNT i)) (wHI_CTX_STAT : ∀ i, P (R.HI_CTX_STAT i))
    (wHI_INFL_TOTAL : P R.HI_INFL_TOTAL) (wHI_RING_PROD : ∀ i, P (R.HI_RING_PROD i)) (lhi : L .hi) (lhy : L .hy)
    (llastCpl : L .lastCpl) (lmarks : L .marks) (lmem : L .mem) (c : Cmd) (s : State) :
    WithinNext P L s (execLeaseQuery c s) := by
  unfold execLeaseQuery
  with_reducible
    repeat' (first
        | apply Within.refl | assumption
        | apply within_runCmd wHI_CMP_LOST_CNT wHI_CTX_STAT wHI_INFL_TOTAL wHI_RING_PROD lhi lhy llastCpl lmarks lmem
        | apply WithinEnd.ite | apply WithinNext.next | apply WithinEnd.done | apply Within.ite | apply WithinNext.ite
        | dsimp only | intro _ | split)

theorem within_execLeaseTakeMode (wHI_CMP_LOST_CNT : ∀ i, P (R.HI_CMP_LOST_CNT i)) (wHI_CTX_STAT : ∀ i, P (R.HI_CTX_STAT i))
    (wHI_INFL_TOTAL : P R.HI_INFL_TOTAL) (wHI_MODE_LEASE : P R.HI_MODE_LEASE) (wHI_RING_PROD : ∀ i, P (R.HI_RING_PROD i))
    (wNVJ_STAT : P R.NVJ_STAT) (lhi : L .hi) (lhy : L .hy) (llastCpl : L .lastCpl) (lmarks : L .marks) (lmem : L .mem)
    (lnvj : L .nvj) (lraised : L .raised) (c : Cmd) (s : State) : WithinNext P L s (execLeaseTakeMode c s) := by
  unfold execLeaseTakeMode
  with_reducible
    repeat' (first
        | apply Within.refl | assumption | apply Within.trans _ (within_logRecord wNVJ_STAT lnvj ..)
        | apply Within.trans _ (within_setHolder wHI_CTX_STAT wHI_MODE_LEASE lraised ..)
        | apply within_runCmd wHI_CMP_LOST_CNT wHI_CTX_STAT wHI_INFL_TOTAL wHI_RING_PROD lhi lhy llastCpl lmarks lmem
        | apply WithinEnd.ite | apply WithinNext.next | apply WithinEnd.done | apply Within.ite | apply WithinNext.ite
        | dsimp only | intro _ | split)

end Sys2Proof.Machine
end

