-- ==== Sys2Proof/Laws/Within7.lean ====
section
/-! SUPPORT. What the operations and the commands of these files leave alone: Machine/CmdFw, CmdLane, CmdMon, CmdTime, Transport, Cycle, Datapath. -/

namespace Sys2Proof.Machine

variable {P : Nat → Prop} {L : Part → Prop}

/-! ### Machine/CmdFw -/

theorem within_execFwUpdateBegin (wHI_CMP_LOST_CNT : ∀ i, P (R.HI_CMP_LOST_CNT i)) (wHI_CTX_STAT : ∀ i, P (R.HI_CTX_STAT i))
    (wHI_INFL_TOTAL : P R.HI_INFL_TOTAL) (wHI_RING_PROD : ∀ i, P (R.HI_RING_PROD i)) (wPM_MODE : P R.PM_MODE) (lhi : L .hi)
    (lhy : L .hy) (llastCpl : L .lastCpl) (lmarks : L .marks) (lmem : L .mem) (lpm : L .pm) (c : Cmd) (s : State) :
    WithinNext P L s (execFwUpdateBegin c s) := by
  unfold execFwUpdateBegin
  with_reducible
    repeat' (first
        | apply Within.refl | assumption | apply Within.trans _ (within_beginMode wPM_MODE lpm ..)
        | apply within_runCmd wHI_CMP_LOST_CNT wHI_CTX_STAT wHI_INFL_TOTAL wHI_RING_PROD lhi lhy llastCpl lmarks lmem
        | apply WithinEnd.ite | apply WithinNext.next | apply WithinEnd.wait | simp only [↓Within.upd_pm lpm] | apply Within.ite
        | apply WithinNext.ite | dsimp only | intro _ | split)

theorem within_execKernelStart (wHI_CMP_LOST_CNT : ∀ i, P (R.HI_CMP_LOST_CNT i)) (wHI_CTX_STAT : ∀ i, P (R.HI_CTX_STAT i))
    (wHI_INFL_TOTAL : P R.HI_INFL_TOTAL) (wHI_RING_PROD : ∀ i, P (R.HI_RING_PROD i))
    (wNVC_CORE_STAT : ∀ i, P (R.NVC_CORE_STAT i)) (wNVC_TRIG_DROP_CNT : ∀ i, P (R.NVC_TRIG_DROP_CNT i))
    (wNVC_WDOG : ∀ i, P (R.NVC_WDOG i)) (lfree : L .free) (lhi : L .hi) (lhy : L .hy) (llastCpl : L .lastCpl)
    (lmarks : L .marks) (lmem : L .mem) (lnvc : L .nvc) (lraised : L .raised) (c : Cmd) (s : State) :
    WithinNext P L s (execKernelStart c s) := by
  unfold execKernelStart
  with_reducible
    repeat' (first
        | apply Within.refl | assumption | apply Within.trans _ (within_divFree lfree ..)
        | apply Within.trans _ (within_wrN ?_ ..) | apply Within.trans _ (within_setCore lnvc ..)
        | apply Within.trans _ (within_trigger wNVC_CORE_STAT wNVC_TRIG_DROP_CNT lmarks lnvc lraised ..)
        | apply within_runCmd wHI_CMP_LOST_CNT wHI_CTX_STAT wHI_INFL_TOTAL wHI_RING_PROD lhi lhy llastCpl lmarks lmem
        | apply WithinEnd.ite | apply WithinNext.next | apply WithinEnd.done | apply Within.ite | apply WithinNext.ite
        | apply wNVC_WDOG | dsimp only | intro _ | split | apply Within.snd_of (by assumption))

theorem within_abortJob (wHI_CMP_LOST_CNT : ∀ i, P (R.HI_CMP_LOST_CNT i)) (wHI_CTX_STAT : ∀ i, P (R.HI_CTX_STAT i))
    (wHI_INFL_TOTAL : P R.HI_INFL_TOTAL) (wHI_RING_PROD : ∀ i, P (R.HI_RING_PROD i)) (lfree : L .free) (lhi : L .hi)
    (lhy : L .hy) (llastCpl : L .lastCpl) (lmarks : L .marks) (lmem : L .mem) (s : State) (j : Job) :
    Within P L s (State.abortJob s j) := by
  unfold State.abortJob
  with_reducible
    repeat' (first
        | apply Within.refl | assumption
        | apply Within.trans _ (within_complete wHI_CMP_LOST_CNT wHI_CTX_STAT wHI_INFL_TOTAL wHI_RING_PROD lhi lhy llastCpl lmarks lmem ..)
        | apply Within.trans _ (within_fresh lfree ..) | simp only [↓Within.upd_hy lhy] | apply Within.ite | dsimp only | split
        | apply Within.snd_of (by assumption))

theorem within_execKernelStop (wHI_CMP_LOST_CNT : ∀ i, P (R.HI_CMP_LOST_CNT i)) (wHI_CTX_STAT : ∀ i, P (R.HI_CTX_STAT i))
    (wHI_INFL_TOTAL : P R.HI_INFL_TOTAL) (wHI_RING_PROD : ∀ i, P (R.HI_RING_PROD i))
    (wNVC_CORE_STAT : ∀ i, P (R.NVC_CORE_STAT i)) (lhi : L .hi) (lhy : L .hy) (llastCpl : L .lastCpl) (lmarks : L .marks)
    (lmem : L .mem) (lnvc : L .nvc) (c : Cmd) (s : State) : WithinNext P L s (execKernelStop c s) := by
  unfold execKernelStop
  with_reducible
    repeat' (first
        | apply Within.refl | assumption | apply Within.trans _ (within_setCore lnvc ..) | apply Within.trans _ (within_put ?_ ..)
        | apply Within.trans _ (within_setCoreSt wNVC_CORE_STAT ..)
        | apply within_runCmd wHI_CMP_LOST_CNT wHI_CTX_STAT wHI_INFL_TOTAL wHI_RING_PROD lhi lhy llastCpl lmarks lmem
        | apply WithinEnd.ite | apply WithinNext.next | apply WithinEnd.done | apply Within.ite | apply WithinNext.ite
        | apply wNVC_CORE_STAT | dsimp only | intro _ | split)

theorem within_execFwUpdateWrite (wHI_CMP_LOST_CNT : ∀ i, P (R.HI_CMP_LOST_CNT i)) (wHI_CTX_STAT : ∀ i, P (R.HI_CTX_STAT i))
    (wHI_INFL_TOTAL : P R.HI_INFL_TOTAL) (wHI_RING_PROD : ∀ i, P (R.HI_RING_PROD i)) (lfree : L .free) (lhi : L .hi)
    (lhy : L .hy) (llastCpl : L .lastCpl) (lmarks : L .marks) (lmem : L .mem) (c : Cmd) (good : Bool) (s : State) :
    WithinNext P L s (execFwUpdateWrite c good s) := by
  unfold execFwUpdateWrite
  with_reducible
    repeat' (first
        | apply Within.refl | assumption | apply Within.trans _ (within_fresh lfree ..)
        | apply Within.trans _ (within_setBytes lmem ..)
        | apply within_runCmd wHI_CMP_LOST_CNT wHI_CTX_STAT wHI_INFL_TOTAL wHI_RING_PROD lhi lhy llastCpl lmarks lmem
        | apply WithinEnd.ite | apply WithinNext.next | apply WithinEnd.done | apply Within.ite | apply WithinNext.ite
        | dsimp only | intro _ | split | apply Within.snd_of (by assumption))

theorem within_execKernelStatus (wHI_CMP_LOST_CNT : ∀ i, P (R.HI_CMP_LOST_CNT i)) (wHI_CTX_STAT : ∀ i, P (R.HI_CTX_STAT i))
    (wHI_INFL_TOTAL : P R.HI_INFL_TOTAL) (wHI_RING_PROD : ∀ i, P (R.HI_RING_PROD i)) (lhi : L .hi) (lhy : L .hy)
    (llastCpl : L .lastCpl) (lmarks : L .marks) (lmem : L .mem) (c : Cmd) (s : State) :
    WithinNext P L s (execKernelStatus c s) := by
  unfold execKernelStatus
  with_reducible
    repeat' (first
        | apply Within.refl | assumption
        | apply within_runCmd wHI_CMP_LOST_CNT wHI_CTX_STAT wHI_INFL_TOTAL wHI_RING_PROD lhi lhy llastCpl lmarks lmem
        | apply WithinEnd.ite | apply WithinNext.next | apply WithinEnd.done | apply Within.ite | apply WithinNext.ite
        | dsimp only | intro _ | split)

theorem within_execKernelLoad (wHI_CMP_LOST_CNT : ∀ i, P (R.HI_CMP_LOST_CNT i)) (wHI_CTX_STAT : ∀ i, P (R.HI_CTX_STAT i))
    (wHI_INFL_TOTAL : P R.HI_INFL_TOTAL) (wHI_RING_PROD : ∀ i, P (R.HI_RING_PROD i))
    (wNVC_CORE_STAT : ∀ i, P (R.NVC_CORE_STAT i)) (wnvCounter : ∀ i j, P (nvCounter i j))
    (wnvCounter4 : ∀ i j, P (nvCounter i j + 4)) (lhi : L .hi) (lhy : L .hy) (llastCpl : L .lastCpl) (lmarks : L .marks)
    (lmem : L .mem) (lnvc : L .nvc) (c : Cmd) (s : State) : WithinNext P L s (execKernelLoad c s) := by
  unfold execKernelLoad
  with_reducible
    repeat' (first
        | apply Within.refl | assumption | apply Within.trans _ (within_setBytes lmem ..)
        | apply Within.trans _ (within_reloadCore wNVC_CORE_STAT wnvCounter wnvCounter4 lnvc ..)
        | apply Within.trans _ (within_setCore lnvc ..)
        | apply within_runCmd wHI_CMP_LOST_CNT wHI_CTX_STAT wHI_INFL_TOTAL wHI_RING_PROD lhi lhy llastCpl lmarks lmem
        | apply WithinEnd.ite | apply WithinNext.next | apply WithinEnd.done | apply Within.ite | apply WithinNext.ite
        | dsimp only | intro _ | split)

theorem within_execFwUpdateCommit (wHI_CMP_LOST_CNT : ∀ i, P (R.HI_CMP_LOST_CNT i)) (wHI_CTX_STAT : ∀ i, P (R.HI_CTX_STAT i))
    (wHI_INFL_TOTAL : P R.HI_INFL_TOTAL) (wHI_RING_PROD : ∀ i, P (R.HI_RING_PROD i)) (wNVJ_STAT : P R.NVJ_STAT)
    (wPM_MODE : P R.PM_MODE) (lhi : L .hi) (lhy : L .hy) (llastCpl : L .lastCpl) (lmarks : L .marks) (lmem : L .mem)
    (lnvj : L .nvj) (lpm : L .pm) (c : Cmd) (good : Bool) (s : State) : WithinNext P L s (execFwUpdateCommit c good s) := by
  unfold execFwUpdateCommit
  with_reducible
    repeat' (first
        | apply Within.refl | assumption | apply Within.trans _ (within_journalObj wNVJ_STAT lnvj ..)
        | apply Within.trans _ (within_beginMode wPM_MODE lpm ..)
        | apply within_runCmd wHI_CMP_LOST_CNT wHI_CTX_STAT wHI_INFL_TOTAL wHI_RING_PROD lhi lhy llastCpl lmarks lmem
        | apply WithinEnd.ite | apply WithinNext.next | apply WithinEnd.wait | apply Within.ite | apply WithinNext.ite
        | dsimp only | intro _ | split | apply Within.snd_of (by assumption))

theorem within_execCfgRecord (wHI_CMP_LOST_CNT : ∀ i, P (R.HI_CMP_LOST_CNT i)) (wHI_CTX_STAT : ∀ i, P (R.HI_CTX_STAT i))
    (wHI_INFL_TOTAL : P R.HI_INFL_TOTAL) (wHI_RING_PROD : ∀ i, P (R.HI_RING_PROD i)) (wNVJ_STAT : P R.NVJ_STAT) (lhi : L .hi)
    (lhy : L .hy) (llastCpl : L .lastCpl) (lmarks : L .marks) (lmem : L .mem) (lnvj : L .nvj) (c : Cmd) (s : State) :
    WithinNext P L s (execCfgRecord c s) := by
  unfold execCfgRecord
  with_reducible
    repeat' (first
        | apply Within.refl | assumption | apply Within.trans _ (within_journalObj wNVJ_STAT lnvj ..)
        | apply within_runCmd wHI_CMP_LOST_CNT wHI_CTX_STAT wHI_INFL_TOTAL wHI_RING_PROD lhi lhy llastCpl lmarks lmem
        | apply WithinEnd.ite | apply WithinNext.next | apply WithinEnd.wait | apply Within.ite | apply WithinNext.ite
        | dsimp only | intro _ | split | apply Within.snd_of (by assumption))

theorem within_execKernelMbx (wHI_CMP_LOST_CNT : ∀ i, P (R.HI_CMP_LOST_CNT i)) (wHI_CTX_STAT : ∀ i, P (R.HI_CTX_STAT i))
    (wHI_INFL_TOTAL : P R.HI_INFL_TOTAL) (wHI_RING_PROD : ∀ i, P (R.HI_RING_PROD i))
    (wNVC_CORE_STAT : ∀ i, P (R.NVC_CORE_STAT i)) (wNVC_MBX_IN : ∀ i j, P (R.NVC_MBX_IN i j))
    (wNVC_TRIG_DROP_CNT : ∀ i, P (R.NVC_TRIG_DROP_CNT i)) (lhi : L .hi) (lhy : L .hy) (llastCpl : L .lastCpl)
    (lmarks : L .marks) (lmem : L .mem) (lnvc : L .nvc) (lraised : L .raised) (c : Cmd) (s : State) :
    WithinNext P L s (execKernelMbx c s) := by
  unfold execKernelMbx
  with_reducible
    repeat' (first
        | apply Within.refl | assumption | apply Within.trans _ (within_wrN ?_ ..) | apply Within.trans _ (within_setCore lnvc ..)
        | apply Within.trans _ (within_trigger wNVC_CORE_STAT wNVC_TRIG_DROP_CNT lmarks lnvc lraised ..)
        | apply within_runCmd wHI_CMP_LOST_CNT wHI_CTX_STAT wHI_INFL_TOTAL wHI_RING_PROD lhi lhy llastCpl lmarks lmem
        | apply WithinEnd.ite | apply WithinNext.next | apply WithinEnd.done | apply Within.ite | apply WithinNext.ite
        | apply wNVC_MBX_IN | dsimp only | apply Within.foldl | apply Within.foldlBy Prod.snd | apply Within.foldlBy Prod.fst
        | intro _ | split)

theorem within_execFwUpdateAbort (wHI_CMP_LOST_CNT : ∀ i, P (R.HI_CMP_LOST_CNT i)) (wHI_CTX_STAT : ∀ i, P (R.HI_CTX_STAT i))
    (wHI_INFL_TOTAL : P R.HI_INFL_TOTAL) (wHI_RING_PROD : ∀ i, P (R.HI_RING_PROD i)) (wNVJ_STAT : P R.NVJ_STAT)
    (wPM_MODE : P R.PM_MODE) (lfree : L .free) (lhi : L .hi) (lhy : L .hy) (llastCpl : L .lastCpl) (lmarks : L .marks)
    (lmem : L .mem) (lnvj : L .nvj) (lpm : L .pm) (c : Cmd) (s : State) : WithinNext P L s (execFwUpdateAbort c s) := by
  unfold execFwUpdateAbort
  with_reducible
    repeat' (first
        | apply Within.refl | assumption | apply Within.trans _ (within_jShow wNVJ_STAT ..)
        | apply Within.trans _ (within_abortJob wHI_CMP_LOST_CNT wHI_CTX_STAT wHI_INFL_TOTAL wHI_RING_PROD lfree lhi lhy llastCpl lmarks lmem ..)
        | apply Within.trans _ (within_beginMode wPM_MODE lpm ..)
        | apply within_runCmd wHI_CMP_LOST_CNT wHI_CTX_STAT wHI_INFL_TOTAL wHI_RING_PROD lhi lhy llastCpl lmarks lmem
        | apply WithinEnd.ite | apply WithinNext.next | apply WithinEnd.wait | simp only [↓Within.upd_nvj_pm lnvj lpm]
        | apply Within.ite | apply WithinNext.ite | dsimp only | apply Within.foldl | apply Within.foldlBy Prod.snd
        | apply Within.foldlBy Prod.fst | intro _ | split)

/-! ### Machine/CmdLane -/

theorem within_testStart (wLN_GROUP_STAT : ∀ i, P (R.LN_GROUP_STAT i)) (wLN_PAT_BITS : ∀ i, P (R.LN_PAT_BITS i))
    (wLN_PAT_BITS4 : ∀ i, P (R.LN_PAT_BITS i + 4)) (wLN_PAT_CFG : ∀ i, P (R.LN_PAT_CFG i))
    (wLN_PAT_ERR_CNT : ∀ i, P (R.LN_PAT_ERR_CNT i)) (wLN_PAT_STAT : ∀ i, P (R.LN_PAT_STAT i))
    (wLN_PAT_USER : ∀ i, P (R.LN_PAT_USER i)) (wLN_PAT_USER4 : ∀ i, P (R.LN_PAT_USER i + 4)) (wLN_STATE : ∀ i, P (R.LN_STATE i))
    (wLN_STATUS : P R.LN_STATUS) (wTS_STATUS : P R.TS_STATUS) (lln : L .ln) (lraised : L .raised) (s : State) (n cfg user : Nat)
    : Within P L s (State.testStart s n cfg user) := by
  unfold State.testStart
  with_reducible
    repeat' (first
        | apply Within.refl | assumption | apply Within.trans _ (within_setFlag ?_ ..)
        | apply Within.trans _ (within_put64 ?_ ?_ ..) | apply Within.trans _ (within_wrN ?_ ..)
        | apply Within.trans _ (within_setLaneTx wLN_STATE ..)
        | apply Within.trans _ (within_setLaneRx wLN_GROUP_STAT wLN_STATE wLN_STATUS wTS_STATUS lln lraised ..)
        | apply Within.trans _ (within_patClear wLN_PAT_BITS wLN_PAT_BITS4 wLN_PAT_ERR_CNT wLN_PAT_STAT ..) | apply Within.ite
        | apply wLN_PAT_CFG | apply wLN_PAT_STAT | apply wLN_PAT_USER | apply wLN_PAT_USER4 | apply wLN_STATE | dsimp only | split)

theorem within_execLaneGroupSet (wHI_CMP_LOST_CNT : ∀ i, P (R.HI_CMP_LOST_CNT i)) (wHI_CTX_STAT : ∀ i, P (R.HI_CTX_STAT i))
    (wHI_INFL_TOTAL : P R.HI_INFL_TOTAL) (wHI_RING_PROD : ∀ i, P (R.HI_RING_PROD i)) (wLN_CTLE : ∀ i, P (R.LN_CTLE i))
    (wLN_GROUP_CFG : ∀ i, P (R.LN_GROUP_CFG i)) (wLN_GROUP_STAT : ∀ i, P (R.LN_GROUP_STAT i))
    (wLN_STATE : ∀ i, P (R.LN_STATE i)) (wLN_STATUS : P R.LN_STATUS) (wPM_DOM_STAT : P R.PM_DOM_STAT)
    (wTS_STATUS : P R.TS_STATUS) (lhi : L .hi) (lhy : L .hy) (llastCpl : L .lastCpl) (lln : L .ln) (lmarks : L .marks)
    (lmem : L .mem) (lpm : L .pm) (lraised : L .raised) (c : Cmd) (s : State) :
    WithinNext P L s (execLaneGroupSet c s) := by
  unfold execLaneGroupSet
  apply within_runCmd wHI_CMP_LOST_CNT wHI_CTX_STAT wHI_INFL_TOTAL wHI_RING_PROD lhi lhy llastCpl lmarks lmem
  refine .ite (.done ?_) (.ite (.wait ?_) (.done ?_))
  · exact within_setGrp lln ..
  · exact within_groupApply wHI_CMP_LOST_CNT wHI_CTX_STAT wHI_INFL_TOTAL wHI_RING_PROD wLN_CTLE wLN_GROUP_CFG wLN_GROUP_STAT wLN_STATE wLN_STATUS wPM_DOM_STAT wTS_STATUS lhi lhy llastCpl lln lmarks lmem lpm lraised ..
  · exact within_groupApply wHI_CMP_LOST_CNT wHI_CTX_STAT wHI_INFL_TOTAL wHI_RING_PROD wLN_CTLE wLN_GROUP_CFG wLN_GROUP_STAT wLN_STATE wLN_STATUS wPM_DOM_STAT wTS_STATUS lhi lhy llastCpl lln lmarks lmem lpm lraised ..

theorem within_execLaneStatus (wHI_CMP_LOST_CNT : ∀ i, P (R.HI_CMP_LOST_CNT i)) (wHI_CTX_STAT : ∀ i, P (R.HI_CTX_STAT i))
    (wHI_INFL_TOTAL : P R.HI_INFL_TOTAL) (wHI_RING_PROD : ∀ i, P (R.HI_RING_PROD i)) (wLN_PAT_BITS : ∀ i, P (R.LN_PAT_BITS i))
    (wLN_PAT_BITS4 : ∀ i, P (R.LN_PAT_BITS i + 4)) (wLN_PAT_ERR_CNT : ∀ i, P (R.LN_PAT_ERR_CNT i))
    (wLN_PAT_STAT : ∀ i, P (R.LN_PAT_STAT i)) (lhi : L .hi) (lhy : L .hy) (llastCpl : L .lastCpl) (lmarks : L .marks)
    (lmem : L .mem) (lraised : L .raised) (c : Cmd) (bits : BitVec 48) (errs : BitVec 32) (s : State) :
    WithinNext P L s (execLaneStatus c bits errs s) := by
  unfold execLaneStatus
  extract_lets
  with_reducible
    repeat' (first
        | apply Within.refl | assumption
        | apply Within.trans _ (within_patCount wLN_PAT_BITS wLN_PAT_BITS4 wLN_PAT_ERR_CNT wLN_PAT_STAT lmarks lraised ..)
        | apply within_runCmd wHI_CMP_LOST_CNT wHI_CTX_STAT wHI_INFL_TOTAL wHI_RING_PROD lhi lhy llastCpl lmarks lmem
        | apply WithinEnd.ite | apply WithinNext.next | apply WithinEnd.done | apply Within.ite | apply WithinNext.ite
        | dsimp only | intro _ | split)

theorem within_execLaneEq (wHI_CMP_LOST_CNT : ∀ i, P (R.HI_CMP_LOST_CNT i)) (wHI_CTX_STAT : ∀ i, P (R.HI_CTX_STAT i))
    (wHI_INFL_TOTAL : P R.HI_INFL_TOTAL) (wHI_RING_PROD : ∀ i, P (R.HI_RING_PROD i)) (wLN_CTLE : ∀ i, P (R.LN_CTLE i))
    (wLN_TXEQ : ∀ i, P (R.LN_TXEQ i)) (lhi : L .hi) (lhy : L .hy) (llastCpl : L .lastCpl) (lmarks : L .marks) (lmem : L .mem)
    (c : Cmd) (s : State) : WithinNext P L s (execLaneEq c s) := by
  unfold execLaneEq
  extract_lets
  with_reducible
    repeat' (first
        | apply Within.refl | assumption | apply Within.trans _ (within_wrN ?_ ..) | apply Within.trans _ (within_setFlag ?_ ..)
        | apply Within.trans _ (within_put ?_ ..)
        | apply within_runCmd wHI_CMP_LOST_CNT wHI_CTX_STAT wHI_INFL_TOTAL wHI_RING_PROD lhi lhy llastCpl lmarks lmem
        | apply WithinEnd.ite | apply WithinNext.next | apply WithinEnd.done | apply Within.ite | apply WithinNext.ite
        | apply wLN_CTLE | apply wLN_TXEQ | dsimp only | intro _ | split)

theorem within_testStop (wLN_GROUP_STAT : ∀ i, P (R.LN_GROUP_STAT i)) (wLN_PAT_BITS : ∀ i, P (R.LN_PAT_BITS i))
    (wLN_PAT_BITS4 : ∀ i, P (R.LN_PAT_BITS i + 4)) (wLN_PAT_CFG : ∀ i, P (R.LN_PAT_CFG i))
    (wLN_PAT_ERR_CNT : ∀ i, P (R.LN_PAT_ERR_CNT i)) (wLN_PAT_STAT : ∀ i, P (R.LN_PAT_STAT i))
    (wLN_STATE : ∀ i, P (R.LN_STATE i)) (wLN_STATUS : P R.LN_STATUS) (wTS_STATUS : P R.TS_STATUS) (lln : L .ln)
    (lmarks : L .marks) (lraised : L .raised) (s : State) (n bits errs : Nat) :
    Within P L s (State.testStop s n bits errs) := by
  unfold State.testStop
  with_reducible
    repeat' (first
        | apply Within.refl | assumption
        | apply Within.trans _ (within_patCount wLN_PAT_BITS wLN_PAT_BITS4 wLN_PAT_ERR_CNT wLN_PAT_STAT lmarks lraised ..)
        | apply Within.trans _ (within_setFlag ?_ ..)
        | apply Within.trans _ (within_startHunt wLN_GROUP_STAT wLN_STATE wLN_STATUS wTS_STATUS lln lraised ..)
        | apply Within.trans _ (within_setLaneTx wLN_STATE ..) | apply Within.ite | apply wLN_PAT_CFG | dsimp only | split)

theorem within_execLaneTest (wHI_CMP_LOST_CNT : ∀ i, P (R.HI_CMP_LOST_CNT i)) (wHI_CTX_STAT : ∀ i, P (R.HI_CTX_STAT i))
    (wHI_INFL_TOTAL : P R.HI_INFL_TOTAL) (wHI_RING_PROD : ∀ i, P (R.HI_RING_PROD i))
    (wLN_GROUP_STAT : ∀ i, P (R.LN_GROUP_STAT i)) (wLN_PAT_BITS : ∀ i, P (R.LN_PAT_BITS i))
    (wLN_PAT_BITS4 : ∀ i, P (R.LN_PAT_BITS i + 4)) (wLN_PAT_CFG : ∀ i, P (R.LN_PAT_CFG i))
    (wLN_PAT_ERR_CNT : ∀ i, P (R.LN_PAT_ERR_CNT i)) (wLN_PAT_STAT : ∀ i, P (R.LN_PAT_STAT i))
    (wLN_PAT_USER : ∀ i, P (R.LN_PAT_USER i)) (wLN_PAT_USER4 : ∀ i, P (R.LN_PAT_USER i + 4)) (wLN_STATE : ∀ i, P (R.LN_STATE i))
    (wLN_STATUS : P R.LN_STATUS) (wTS_STATUS : P R.TS_STATUS) (lhi : L .hi) (lhy : L .hy) (llastCpl : L .lastCpl) (lln : L .ln)
    (lmarks : L .marks) (lmem : L .mem) (lraised : L .raised) (c : Cmd) (seen : List (BitVec 48 × BitVec 32)) (s : State) :
    WithinNext P L s (execLaneTest c seen s) := by
  unfold execLaneTest
  extract_lets
  with_reducible
    repeat' (first
        | apply Within.refl | assumption
        | apply Within.trans _ (within_testStart wLN_GROUP_STAT wLN_PAT_BITS wLN_PAT_BITS4 wLN_PAT_CFG wLN_PAT_ERR_CNT wLN_PAT_STAT wLN_PAT_USER wLN_PAT_USER4 wLN_STATE wLN_STATUS wTS_STATUS lln lraised ..)
        | apply Within.trans _ (within_testStop wLN_GROUP_STAT wLN_PAT_BITS wLN_PAT_BITS4 wLN_PAT_CFG wLN_PAT_ERR_CNT wLN_PAT_STAT wLN_STATE wLN_STATUS wTS_STATUS lln lmarks lraised ..)
        | apply within_runCmd wHI_CMP_LOST_CNT wHI_CTX_STAT wHI_INFL_TOTAL wHI_RING_PROD lhi lhy llastCpl lmarks lmem
        | apply WithinEnd.ite | apply WithinNext.next | apply WithinEnd.done | apply Within.ite | apply WithinNext.ite
        | dsimp only | apply Within.foldl | apply Within.foldlBy Prod.snd | apply Within.foldlBy Prod.fst | intro _ | split)

theorem within_execLanePower (wHI_CMP_LOST_CNT : ∀ i, P (R.HI_CMP_LOST_CNT i)) (wHI_CTX_STAT : ∀ i, P (R.HI_CTX_STAT i))
    (wHI_INFL_TOTAL : P R.HI_INFL_TOTAL) (wHI_RING_PROD : ∀ i, P (R.HI_RING_PROD i)) (wLN_CTLE : ∀ i, P (R.LN_CTLE i))
    (wLN_GROUP_STAT : ∀ i, P (R.LN_GROUP_STAT i)) (wLN_STATE : ∀ i, P (R.LN_STATE i)) (wLN_STATUS : P R.LN_STATUS)
    (wPM_DOM_STAT : P R.PM_DOM_STAT) (wTS_STATUS : P R.TS_STATUS) (lhi : L .hi) (lhy : L .hy) (llastCpl : L .lastCpl)
    (lln : L .ln) (lmarks : L .marks) (lmem : L .mem) (lpm : L .pm) (lraised : L .raised) (c : Cmd) (s : State) :
    WithinNext P L s (execLanePower c s) := by
  unfold execLanePower
  extract_lets
  with_reducible
    repeat' (first
        | apply Within.refl | assumption
        | apply Within.trans _ (within_lanePower wLN_CTLE wLN_GROUP_STAT wLN_STATE wLN_STATUS wPM_DOM_STAT wTS_STATUS lln lpm lraised ..)
        | apply within_runCmd wHI_CMP_LOST_CNT wHI_CTX_STAT wHI_INFL_TOTAL wHI_RING_PROD lhi lhy llastCpl lmarks lmem
        | apply WithinEnd.ite | apply WithinNext.next | apply WithinEnd.done | apply WithinEnd.wait | apply Within.ite
        | apply WithinNext.ite | dsimp only | apply Within.foldl | apply Within.foldlBy Prod.snd | apply Within.foldlBy Prod.fst
        | intro _ | split)

/-! ### Machine/CmdMon -/

theorem within_nearest (lfree : L .free) (s : State) (n d : Nat) : Within P L s (State.nearest s n d).2 := by
  unfold State.nearest
  with_reducible
    repeat' (first
        | apply Within.refl | assumption | apply Within.trans _ (within_fresh lfree ..) | apply Within.ite | apply Within.ite_snd
        | dsimp only | split | apply Within.snd_of (by assumption))

theorem within_hkArm (wHK_ABORT_CNT : P R.HK_ABORT_CNT) (wHK_IGN_REG_CNT : P R.HK_IGN_REG_CNT)
    (wHK_IGN_SQ_CNT : P R.HK_IGN_SQ_CNT) (wHK_STAT : P R.HK_STAT) (lhk : L .hk) (lmarks : L .marks) (lraised : L .raised)
    (s : State) (i src : Nat) : Within P L s (State.hkArm s i src) := by
  unfold State.hkArm
  with_reducible
    repeat' (first
        | apply Within.refl | assumption
        | apply Within.trans _ (within_hkTrig wHK_ABORT_CNT wHK_IGN_REG_CNT wHK_IGN_SQ_CNT wHK_STAT lhk lmarks lraised ..)
        | apply Within.trans _ (within_hkShow wHK_STAT ..) | apply Within.trans _ (within_hkIdle wHK_STAT ..)
        | apply Within.trans _ (within_setFlag ?_ ..) | simp only [↓Within.upd_hk lhk] | apply Within.ite | apply wHK_STAT
        | dsimp only | split)

theorem within_execMonHkSeq (wHI_CMP_LOST_CNT : ∀ i, P (R.HI_CMP_LOST_CNT i)) (wHI_CTX_STAT : ∀ i, P (R.HI_CTX_STAT i))
    (wHI_INFL_TOTAL : P R.HI_INFL_TOTAL) (wHI_RING_PROD : ∀ i, P (R.HI_RING_PROD i)) (wHK_ABORT_CNT : P R.HK_ABORT_CNT)
    (wHK_IGN_REG_CNT : P R.HK_IGN_REG_CNT) (wHK_IGN_SQ_CNT : P R.HK_IGN_SQ_CNT) (wHK_SEQ_CFG : ∀ i, P (R.HK_SEQ_CFG i))
    (wHK_SEQ_LIST : ∀ i j, P (R.HK_SEQ_LIST i j)) (wHK_SEQ_OSR : ∀ i, P (R.HK_SEQ_OSR i)) (wHK_STAT : P R.HK_STAT)
    (wHK_TIMER : ∀ i, P (R.HK_TIMER i)) (lfree : L .free) (lhi : L .hi) (lhk : L .hk) (lhy : L .hy) (llastCpl : L .lastCpl)
    (lmarks : L .marks) (lmem : L .mem) (lraised : L .raised) (c : Cmd) (s : State) : WithinNext P L s (execMonHkSeq c s) := by
  unfold execMonHkSeq
  with_reducible
    repeat' (first
        | apply Within.refl | assumption | apply Within.trans _ (within_nearest lfree ..)
        | apply Within.trans _ (within_wrN ?_ ..)
        | apply Within.trans _ (within_hkArm wHK_ABORT_CNT wHK_IGN_REG_CNT wHK_IGN_SQ_CNT wHK_STAT lhk lmarks lraised ..)
        | apply within_runCmd wHI_CMP_LOST_CNT wHI_CTX_STAT wHI_INFL_TOTAL wHI_RING_PROD lhi lhy llastCpl lmarks lmem
        | apply WithinEnd.ite | apply WithinNext.next | apply WithinEnd.done | apply Within.ite | apply WithinNext.ite
        | apply wHK_SEQ_CFG | apply wHK_SEQ_LIST | apply wHK_SEQ_OSR | apply wHK_TIMER | dsimp only | apply Within.foldl
        | apply Within.foldlBy Prod.snd | apply Within.foldlBy Prod.fst | intro _ | split | apply Within.snd_of (by assumption))

theorem within_execPwrGust (wHI_CMP_LOST_CNT : ∀ i, P (R.HI_CMP_LOST_CNT i)) (wHI_CTX_STAT : ∀ i, P (R.HI_CTX_STAT i))
    (wHI_INFL_TOTAL : P R.HI_INFL_TOTAL) (wHI_RING_PROD : ∀ i, P (R.HI_RING_PROD i)) (lhi : L .hi) (lhy : L .hy)
    (llastCpl : L .lastCpl) (lmarks : L .marks) (lmem : L .mem) (lpm : L .pm) (c : Cmd) (s : State) :
    WithinNext P L s (execPwrGust c s) := by
  unfold execPwrGust
  with_reducible
    repeat' (first
        | apply Within.refl | assumption
        | apply within_runCmd wHI_CMP_LOST_CNT wHI_CTX_STAT wHI_INFL_TOTAL wHI_RING_PROD lhi lhy llastCpl lmarks lmem
        | apply WithinEnd.ite | apply WithinNext.next | apply WithinEnd.done | simp only [↓Within.upd_pm lpm] | apply Within.ite
        | apply WithinNext.ite | dsimp only | intro _ | split)

theorem within_execMonWear (wHI_CMP_LOST_CNT : ∀ i, P (R.HI_CMP_LOST_CNT i)) (wHI_CTX_STAT : ∀ i, P (R.HI_CTX_STAT i))
    (wHI_INFL_TOTAL : P R.HI_INFL_TOTAL) (wHI_RING_PROD : ∀ i, P (R.HI_RING_PROD i)) (lhi : L .hi) (lhy : L .hy)
    (llastCpl : L .lastCpl) (lmarks : L .marks) (lmem : L .mem) (c : Cmd) (s : State) : WithinNext P L s (execMonWear c s) := by
  unfold execMonWear
  with_reducible
    repeat' (first
        | apply Within.refl | assumption
        | apply within_runCmd wHI_CMP_LOST_CNT wHI_CTX_STAT wHI_INFL_TOTAL wHI_RING_PROD lhi lhy llastCpl lmarks lmem
        | apply WithinEnd.ite | apply WithinNext.next | apply WithinEnd.done | apply Within.ite | apply WithinNext.ite
        | dsimp only | intro _ | split)

theorem within_execRegSet (wHI_CMP_LOST_CNT : ∀ i, P (R.HI_CMP_LOST_CNT i)) (wHI_CTX_STAT : ∀ i, P (R.HI_CTX_STAT i))
    (wHI_INFL_TOTAL : P R.HI_INFL_TOTAL) (wHI_RING_PROD : ∀ i, P (R.HI_RING_PROD i)) (wNVJ_STAT : P R.NVJ_STAT) (lhi : L .hi)
    (lhy : L .hy) (llastCpl : L .lastCpl) (lmarks : L .marks) (lmem : L .mem) (lnvj : L .nvj) (c : Cmd) (s : State) :
    WithinNext P L s (execRegSet c s) := by
  unfold execRegSet
  with_reducible
    repeat' (first
        | apply Within.refl | assumption | apply Within.trans _ (within_journalObj wNVJ_STAT lnvj ..)
        | apply within_runCmd wHI_CMP_LOST_CNT wHI_CTX_STAT wHI_INFL_TOTAL wHI_RING_PROD lhi lhy llastCpl lmarks lmem
        | apply WithinEnd.ite | apply WithinNext.next | apply WithinEnd.wait | apply Within.ite | apply WithinNext.ite
        | dsimp only | intro _ | split | apply Within.snd_of (by assumption))

theorem within_execMonHkCal (wHI_CMP_LOST_CNT : ∀ i, P (R.HI_CMP_LOST_CNT i)) (wHI_CTX_STAT : ∀ i, P (R.HI_CTX_STAT i))
    (wHI_INFL_TOTAL : P R.HI_INFL_TOTAL) (wHI_RING_PROD : ∀ i, P (R.HI_RING_PROD i)) (wHK_STAT : P R.HK_STAT) (lhi : L .hi)
    (lhk : L .hk) (lhy : L .hy) (llastCpl : L .lastCpl) (lmarks : L .marks) (lmem : L .mem) (c : Cmd) (s : State) :
    WithinNext P L s (execMonHkCal c s) := by
  unfold execMonHkCal
  with_reducible
    repeat' (first
        | apply Within.refl | assumption | apply Within.trans _ (within_hkShow wHK_STAT ..)
        | apply Within.trans _ (within_hkPower wHK_STAT ..)
        | apply within_runCmd wHI_CMP_LOST_CNT wHI_CTX_STAT wHI_INFL_TOTAL wHI_RING_PROD lhi lhy llastCpl lmarks lmem
        | apply WithinEnd.ite | apply WithinNext.next | apply WithinEnd.wait | simp only [↓Within.upd_hk lhk] | apply Within.ite
        | apply WithinNext.ite | dsimp only | intro _ | split)

theorem within_execMonHarvest (wHI_CMP_LOST_CNT : ∀ i, P (R.HI_CMP_LOST_CNT i)) (wHI_CTX_STAT : ∀ i, P (R.HI_CTX_STAT i))
    (wHI_INFL_TOTAL : P R.HI_INFL_TOTAL) (wHI_RING_PROD : ∀ i, P (R.HI_RING_PROD i)) (lhi : L .hi) (lhy : L .hy)
    (llastCpl : L .lastCpl) (lmarks : L .marks) (lmem : L .mem) (c : Cmd) (s : State) :
    WithinNext P L s (execMonHarvest c s) := by
  unfold execMonHarvest
  with_reducible
    repeat' (first
        | apply Within.refl | assumption
        | apply within_runCmd wHI_CMP_LOST_CNT wHI_CTX_STAT wHI_INFL_TOTAL wHI_RING_PROD lhi lhy llastCpl lmarks lmem
        | apply WithinEnd.ite | apply WithinNext.next | apply WithinEnd.done | simp only [↓Within.upd_hi lhi] | apply Within.ite
        | apply WithinNext.ite | dsimp only | intro _ | split)

theorem within_execPwrStatus (wHI_CMP_LOST_CNT : ∀ i, P (R.HI_CMP_LOST_CNT i)) (wHI_CTX_STAT : ∀ i, P (R.HI_CTX_STAT i))
    (wHI_INFL_TOTAL : P R.HI_INFL_TOTAL) (wHI_RING_PROD : ∀ i, P (R.HI_RING_PROD i)) (lfree : L .free) (lhi : L .hi)
    (lhy : L .hy) (llastCpl : L .lastCpl) (lmarks : L .marks) (lmem : L .mem) (c : Cmd) (s : State) :
    WithinNext P L s (execPwrStatus c s) := by
  unfold execPwrStatus
  with_reducible
    repeat' (first
        | apply Within.refl | assumption | apply Within.trans _ (within_fresh lfree ..)
        | apply within_runCmd wHI_CMP_LOST_CNT wHI_CTX_STAT wHI_INFL_TOTAL wHI_RING_PROD lhi lhy llastCpl lmarks lmem
        | apply WithinEnd.ite | apply WithinNext.next | apply WithinEnd.done | apply Within.ite | apply WithinNext.ite
        | dsimp only | intro _ | split | apply Within.snd_of (by assumption))

theorem within_execMonHkRead (wHI_CMP_LOST_CNT : ∀ i, P (R.HI_CMP_LOST_CNT i)) (wHI_CTX_STAT : ∀ i, P (R.HI_CTX_STAT i))
    (wHI_INFL_TOTAL : P R.HI_INFL_TOTAL) (wHI_RING_PROD : ∀ i, P (R.HI_RING_PROD i)) (lhi : L .hi) (lhy : L .hy)
    (llastCpl : L .lastCpl) (lmarks : L .marks) (lmem : L .mem) (c : Cmd) (s : State) :
    WithinNext P L s (execMonHkRead c s) := by
  unfold execMonHkRead
  with_reducible
    repeat' (first
        | apply Within.refl | assumption
        | apply within_runCmd wHI_CMP_LOST_CNT wHI_CTX_STAT wHI_INFL_TOTAL wHI_RING_PROD lhi lhy llastCpl lmarks lmem
        | apply WithinEnd.ite | apply WithinNext.next | apply WithinEnd.done | apply Within.ite | apply WithinNext.ite
        | dsimp only | intro _ | split)

theorem within_execMonJournalRead (wHI_CMP_LOST_CNT : ∀ i, P (R.HI_CMP_LOST_CNT i)) (wHI_CTX_STAT : ∀ i, P (R.HI_CTX_STAT i))
    (wHI_INFL_TOTAL : P R.HI_INFL_TOTAL) (wHI_RING_PROD : ∀ i, P (R.HI_RING_PROD i)) (lhi : L .hi) (lhy : L .hy)
    (llastCpl : L .lastCpl) (lmarks : L .marks) (lmem : L .mem) (c : Cmd) (s : State) :
    WithinNext P L s (execMonJournalRead c s) := by
  unfold execMonJournalRead
  with_reducible
    repeat' (first
        | apply Within.refl | assumption | apply Within.trans _ (within_setBytes lmem ..)
        | apply within_runCmd wHI_CMP_LOST_CNT wHI_CTX_STAT wHI_INFL_TOTAL wHI_RING_PROD lhi lhy llastCpl lmarks lmem
        | apply WithinEnd.ite | apply WithinNext.next | apply WithinEnd.done | apply Within.ite | apply WithinNext.ite
        | dsimp only | intro _ | split)

theorem within_execMonTemp (wHI_CMP_LOST_CNT : ∀ i, P (R.HI_CMP_LOST_CNT i)) (wHI_CTX_STAT : ∀ i, P (R.HI_CTX_STAT i))
    (wHI_INFL_TOTAL : P R.HI_INFL_TOTAL) (wHI_RING_PROD : ∀ i, P (R.HI_RING_PROD i)) (lhi : L .hi) (lhy : L .hy)
    (llastCpl : L .lastCpl) (lmarks : L .marks) (lmem : L .mem) (c : Cmd) (s : State) : WithinNext P L s (execMonTemp c s) := by
  unfold execMonTemp
  with_reducible
    repeat' (first
        | apply Within.refl | assumption | apply Within.trans _ (within_setBytes lmem ..)
        | apply within_runCmd wHI_CMP_LOST_CNT wHI_CTX_STAT wHI_INFL_TOTAL wHI_RING_PROD lhi lhy llastCpl lmarks lmem
        | apply WithinEnd.ite | apply WithinNext.next | apply WithinEnd.done | apply Within.ite | apply WithinNext.ite
        | dsimp only | intro _ | split)

theorem within_execPwrFrost (wHI_CMP_LOST_CNT : ∀ i, P (R.HI_CMP_LOST_CNT i)) (wHI_CTX_STAT : ∀ i, P (R.HI_CTX_STAT i))
    (wHI_INFL_TOTAL : P R.HI_INFL_TOTAL) (wHI_RING_PROD : ∀ i, P (R.HI_RING_PROD i)) (wPM_MODE : P R.PM_MODE) (lhi : L .hi)
    (lhy : L .hy) (llastCpl : L .lastCpl) (lmarks : L .marks) (lmem : L .mem) (lpm : L .pm) (c : Cmd) (s : State) :
    WithinNext P L s (execPwrFrost c s) := by
  unfold execPwrFrost
  with_reducible
    repeat' (first
        | apply Within.refl | assumption | apply Within.trans _ (within_beginMode wPM_MODE lpm ..)
        | apply within_runCmd wHI_CMP_LOST_CNT wHI_CTX_STAT wHI_INFL_TOTAL wHI_RING_PROD lhi lhy llastCpl lmarks lmem
        | apply WithinEnd.ite | apply WithinNext.next | apply WithinEnd.wait | simp only [↓Within.upd_pm lpm] | apply Within.ite
        | apply WithinNext.ite | dsimp only | intro _ | split)

theorem within_execRegLock (wHI_CMP_LOST_CNT : ∀ i, P (R.HI_CMP_LOST_CNT i)) (wHI_CTX_STAT : ∀ i, P (R.HI_CTX_STAT i))
    (wHI_INFL_TOTAL : P R.HI_INFL_TOTAL) (wHI_RING_PROD : ∀ i, P (R.HI_RING_PROD i)) (wNVJ_STAT : P R.NVJ_STAT) (lhi : L .hi)
    (lhy : L .hy) (llastCpl : L .lastCpl) (lmarks : L .marks) (lmem : L .mem) (lnvj : L .nvj) (c : Cmd) (s : State) :
    WithinNext P L s (execRegLock c s) := by
  unfold execRegLock
  with_reducible
    repeat' (first
        | apply Within.refl | assumption | apply Within.trans _ (within_journalObj wNVJ_STAT lnvj ..)
        | apply within_runCmd wHI_CMP_LOST_CNT wHI_CTX_STAT wHI_INFL_TOTAL wHI_RING_PROD lhi lhy llastCpl lmarks lmem
        | apply WithinEnd.ite | apply WithinNext.next | apply WithinEnd.wait | apply Within.ite | apply WithinNext.ite
        | dsimp only | intro _ | split | apply Within.snd_of (by assumption))

theorem within_execRegStatus (wHI_CMP_LOST_CNT : ∀ i, P (R.HI_CMP_LOST_CNT i)) (wHI_CTX_STAT : ∀ i, P (R.HI_CTX_STAT i))
    (wHI_INFL_TOTAL : P R.HI_INFL_TOTAL) (wHI_RING_PROD : ∀ i, P (R.HI_RING_PROD i)) (lhi : L .hi) (lhy : L .hy)
    (llastCpl : L .lastCpl) (lmarks : L .marks) (lmem : L .mem) (c : Cmd) (s : State) :
    WithinNext P L s (execRegStatus c s) := by
  unfold execRegStatus
  with_reducible
    repeat' (first
        | apply Within.refl | assumption
        | apply within_runCmd wHI_CMP_LOST_CNT wHI_CTX_STAT wHI_INFL_TOTAL wHI_RING_PROD lhi lhy llastCpl lmarks lmem
        | apply WithinEnd.ite | apply WithinNext.next | apply WithinEnd.done | apply Within.ite | apply WithinNext.ite
        | dsimp only | intro _ | split)

/-! ### Machine/CmdTime -/

theorem within_newSource (wTS_DOM_FREQ : ∀ i, P (R.TS_DOM_FREQ i)) (wTS_DOM_STAT : ∀ i, P (R.TS_DOM_STAT i))
    (wTS_DOM_VOFS : ∀ i, P (R.TS_DOM_VOFS i)) (wTS_DOM_VOFS4 : ∀ i, P (R.TS_DOM_VOFS i + 4)) (lfree : L .free) (lts : L .ts)
    (s : State) (d src : Nat) : Within P L s (State.newSource s d src) := by
  unfold State.newSource
  with_reducible
    repeat' (first
        | apply Within.refl | assumption | apply Within.trans _ (within_setTime lts ..)
        | apply Within.trans _ (within_showDom wTS_DOM_FREQ wTS_DOM_STAT wTS_DOM_VOFS wTS_DOM_VOFS4 lfree ..)
        | apply Within.trans _ (within_setFlag ?_ ..) | apply Within.trans _ (within_setDomState wTS_DOM_STAT ..)
        | apply Within.ite | apply wTS_DOM_STAT | dsimp only | split)

theorem within_execTimeDomainSet (wHI_CMP_LOST_CNT : ∀ i, P (R.HI_CMP_LOST_CNT i)) (wHI_CTX_STAT : ∀ i, P (R.HI_CTX_STAT i))
    (wHI_INFL_TOTAL : P R.HI_INFL_TOTAL) (wHI_RING_PROD : ∀ i, P (R.HI_RING_PROD i)) (wTS_DOM_CFG : ∀ i, P (R.TS_DOM_CFG i))
    (wTS_DOM_FREQ : ∀ i, P (R.TS_DOM_FREQ i)) (wTS_DOM_GAIN : ∀ i, P (R.TS_DOM_GAIN i)) (wTS_DOM_LIM : ∀ i, P (R.TS_DOM_LIM i))
    (wTS_DOM_STAT : ∀ i, P (R.TS_DOM_STAT i)) (wTS_DOM_VOFS : ∀ i, P (R.TS_DOM_VOFS i))
    (wTS_DOM_VOFS4 : ∀ i, P (R.TS_DOM_VOFS i + 4)) (lfree : L .free) (lhi : L .hi) (lhy : L .hy) (llastCpl : L .lastCpl)
    (lmarks : L .marks) (lmem : L .mem) (lts : L .ts) (c : Cmd) (s : State) : WithinNext P L s (execTimeDomainSet c s) := by
  unfold execTimeDomainSet
  with_reducible
    repeat' (first
        | apply Within.refl | assumption | apply Within.trans _ (within_wrN ?_ ..) | apply Within.trans _ (within_setTime lts ..)
        | apply Within.trans _ (within_newSource wTS_DOM_FREQ wTS_DOM_STAT wTS_DOM_VOFS wTS_DOM_VOFS4 lfree lts ..)
        | apply within_runCmd wHI_CMP_LOST_CNT wHI_CTX_STAT wHI_INFL_TOTAL wHI_RING_PROD lhi lhy llastCpl lmarks lmem
        | apply WithinEnd.ite | apply WithinNext.next | apply WithinEnd.done | apply Within.ite | apply WithinNext.ite
        | apply wTS_DOM_CFG | apply wTS_DOM_GAIN | apply wTS_DOM_LIM | dsimp only | intro _ | split)

theorem within_execTimeSynce (wHI_CMP_LOST_CNT : ∀ i, P (R.HI_CMP_LOST_CNT i)) (wHI_CTX_STAT : ∀ i, P (R.HI_CTX_STAT i))
    (wHI_INFL_TOTAL : P R.HI_INFL_TOTAL) (wHI_RING_PROD : ∀ i, P (R.HI_RING_PROD i)) (wTS_STATUS : P R.TS_STATUS)
    (wTS_SYNCE_CFG : P R.TS_SYNCE_CFG) (lhi : L .hi) (lhy : L .hy) (llastCpl : L .lastCpl) (lmarks : L .marks) (lmem : L .mem)
    (lts : L .ts) (c : Cmd) (s : State) : WithinNext P L s (execTimeSynce c s) := by
  unfold execTimeSynce
  with_reducible
    repeat' (first
        | apply Within.refl | assumption | apply Within.trans _ (within_wrN ?_ ..) | apply Within.trans _ (within_setFlag ?_ ..)
        | apply Within.trans _ (within_qlSelect wTS_STATUS wTS_SYNCE_CFG ..)
        | apply within_runCmd wHI_CMP_LOST_CNT wHI_CTX_STAT wHI_INFL_TOTAL wHI_RING_PROD lhi lhy llastCpl lmarks lmem
        | apply WithinEnd.ite | apply WithinNext.next | apply WithinEnd.done | simp only [↓Within.upd_ts lts] | apply Within.ite
        | apply WithinNext.ite | apply wTS_STATUS | apply wTS_SYNCE_CFG | dsimp only | intro _ | split)

theorem within_execTimeSelect (wHI_CMP_LOST_CNT : ∀ i, P (R.HI_CMP_LOST_CNT i)) (wHI_CTX_STAT : ∀ i, P (R.HI_CTX_STAT i))
    (wHI_INFL_TOTAL : P R.HI_INFL_TOTAL) (wHI_RING_PROD : ∀ i, P (R.HI_RING_PROD i)) (wTS_CNT : P R.TS_CNT)
    (wTS_CNT4 : P (R.TS_CNT + 4)) (wTS_CTRL : P R.TS_CTRL) (wTS_DOM_FREQ : ∀ i, P (R.TS_DOM_FREQ i))
    (wTS_DOM_STAT : ∀ i, P (R.TS_DOM_STAT i)) (wTS_DOM_VOFS : ∀ i, P (R.TS_DOM_VOFS i))
    (wTS_DOM_VOFS4 : ∀ i, P (R.TS_DOM_VOFS i + 4)) (wTS_STATUS : P R.TS_STATUS) (lfree : L .free) (lhi : L .hi) (lhy : L .hy)
    (llastCpl : L .lastCpl) (lmarks : L .marks) (lmem : L .mem) (lraised : L .raised) (lts : L .ts) (c : Cmd) (s : State) :
    WithinNext P L s (execTimeSelect c s) := by
  unfold execTimeSelect
  with_reducible
    repeat' (first
        | apply Within.refl | assumption
        | apply Within.trans _ (within_select wTS_CNT wTS_CNT4 wTS_CTRL wTS_DOM_FREQ wTS_DOM_STAT wTS_DOM_VOFS wTS_DOM_VOFS4 wTS_STATUS lfree lraised lts ..)
        | apply within_runCmd wHI_CMP_LOST_CNT wHI_CTX_STAT wHI_INFL_TOTAL wHI_RING_PROD lhi lhy llastCpl lmarks lmem
        | apply WithinEnd.ite | apply WithinNext.next | apply WithinEnd.done | simp only [↓Within.upd_ts lts] | apply Within.ite
        | apply WithinNext.ite | dsimp only | intro _ | split)

theorem within_delayLimit (wHI_CMP_LOST_CNT : ∀ i, P (R.HI_CMP_LOST_CNT i)) (wHI_CTX_STAT : ∀ i, P (R.HI_CTX_STAT i))
    (wHI_INFL_TOTAL : P R.HI_INFL_TOTAL) (wHI_RING_PROD : ∀ i, P (R.HI_RING_PROD i)) (lfh : L .fh) (lhi : L .hi) (lhy : L .hy)
    (llastCpl : L .lastCpl) (lmarks : L .marks) (lmem : L .mem) (s : State) : Within P L s (State.delayLimit s) := by
  unfold State.delayLimit
  with_reducible
    repeat' (first
        | apply Within.refl | assumption
        | apply Within.trans _ (within_finish wHI_CMP_LOST_CNT wHI_CTX_STAT wHI_INFL_TOTAL wHI_RING_PROD lhi lhy llastCpl lmarks lmem ..)
        | simp only [↓Within.upd_fh lfh] | apply Within.ite | dsimp only | apply Within.foldl | apply Within.foldlBy Prod.snd
        | apply Within.foldlBy Prod.fst | intro _ | split)

theorem within_execTimeFrame (wHI_CMP_LOST_CNT : ∀ i, P (R.HI_CMP_LOST_CNT i)) (wHI_CTX_STAT : ∀ i, P (R.HI_CTX_STAT i))
    (wHI_INFL_TOTAL : P R.HI_INFL_TOTAL) (wHI_RING_PROD : ∀ i, P (R.HI_RING_PROD i)) (wTS_FRAME_OFS : P R.TS_FRAME_OFS)
    (lhi : L .hi) (lhy : L .hy) (llastCpl : L .lastCpl) (lmarks : L .marks) (lmem : L .mem) (ltl : L .tl) (lts : L .ts)
    (c : Cmd) (s : State) : WithinNext P L s (execTimeFrame c s) := by
  unfold execTimeFrame
  with_reducible
    repeat' (first
        | apply Within.refl | assumption | apply Within.trans _ (within_wrN ?_ ..)
        | apply within_runCmd wHI_CMP_LOST_CNT wHI_CTX_STAT wHI_INFL_TOTAL wHI_RING_PROD lhi lhy llastCpl lmarks lmem
        | apply WithinEnd.ite | apply WithinNext.next | apply WithinEnd.wait | simp only [↓Within.upd_tl_ts ltl lts]
        | apply Within.ite | apply WithinNext.ite | apply wTS_FRAME_OFS | dsimp only | intro _ | split)

theorem within_execTimePtpStats (wHI_CMP_LOST_CNT : ∀ i, P (R.HI_CMP_LOST_CNT i)) (wHI_CTX_STAT : ∀ i, P (R.HI_CTX_STAT i))
    (wHI_INFL_TOTAL : P R.HI_INFL_TOTAL) (wHI_RING_PROD : ∀ i, P (R.HI_RING_PROD i)) (lhi : L .hi) (lhy : L .hy)
    (llastCpl : L .lastCpl) (lmarks : L .marks) (lmem : L .mem) (c : Cmd) (s : State) :
    WithinNext P L s (execTimePtpStats c s) := by
  unfold execTimePtpStats
  with_reducible
    repeat' (first
        | apply Within.refl | assumption
        | apply within_runCmd wHI_CMP_LOST_CNT wHI_CTX_STAT wHI_INFL_TOTAL wHI_RING_PROD lhi lhy llastCpl lmarks lmem
        | apply WithinEnd.ite | apply WithinNext.next | apply WithinEnd.done | apply Within.ite | apply WithinNext.ite
        | dsimp only | intro _ | split)

theorem within_execTimePps (wHI_CMP_LOST_CNT : ∀ i, P (R.HI_CMP_LOST_CNT i)) (wHI_CTX_STAT : ∀ i, P (R.HI_CTX_STAT i))
    (wHI_INFL_TOTAL : P R.HI_INFL_TOTAL) (wHI_RING_PROD : ∀ i, P (R.HI_RING_PROD i)) (wTS_PPS_CFG : P R.TS_PPS_CFG)
    (wTS_PPS_DLY : P R.TS_PPS_DLY) (lhi : L .hi) (lhy : L .hy) (llastCpl : L .lastCpl) (lmarks : L .marks) (lmem : L .mem)
    (lpins : L .pins) (c : Cmd) (s : State) : WithinNext P L s (execTimePps c s) := by
  unfold execTimePps
  with_reducible
    repeat' (first
        | apply Within.refl | assumption | apply Within.trans _ (within_wrN ?_ ..)
        | apply within_runCmd wHI_CMP_LOST_CNT wHI_CTX_STAT wHI_INFL_TOTAL wHI_RING_PROD lhi lhy llastCpl lmarks lmem
        | apply WithinEnd.ite | apply WithinNext.next | apply WithinEnd.done | simp only [↓Within.upd_pins lpins]
        | apply Within.ite | apply WithinNext.ite | apply wTS_PPS_CFG | apply wTS_PPS_DLY | dsimp only | intro _ | split)

theorem within_execTimeGet (wHI_CMP_LOST_CNT : ∀ i, P (R.HI_CMP_LOST_CNT i)) (wHI_CTX_STAT : ∀ i, P (R.HI_CTX_STAT i))
    (wHI_INFL_TOTAL : P R.HI_INFL_TOTAL) (wHI_RING_PROD : ∀ i, P (R.HI_RING_PROD i)) (lhi : L .hi) (lhy : L .hy)
    (llastCpl : L .lastCpl) (lmarks : L .marks) (lmem : L .mem) (c : Cmd) (s : State) : WithinNext P L s (execTimeGet c s) := by
  unfold execTimeGet
  with_reducible
    repeat' (first
        | apply Within.refl | assumption
        | apply within_runCmd wHI_CMP_LOST_CNT wHI_CTX_STAT wHI_INFL_TOTAL wHI_RING_PROD lhi lhy llastCpl lmarks lmem
        | apply WithinEnd.ite | apply WithinNext.next | apply WithinEnd.done | apply Within.ite | apply WithinNext.ite
        | dsimp only | intro _ | split)

theorem within_execTimeDelay (wFH_DROP_CNT : ∀ i j, P (R.FH_DROP_CNT i j)) (wHI_CMP_LOST_CNT : ∀ i, P (R.HI_CMP_LOST_CNT i))
    (wHI_CTX_STAT : ∀ i, P (R.HI_CTX_STAT i)) (wHI_INFL_TOTAL : P R.HI_INFL_TOTAL) (wHI_RING_PROD : ∀ i, P (R.HI_RING_PROD i))
    (lfh : L .fh) (lhi : L .hi) (lhy : L .hy) (llastCpl : L .lastCpl) (lmarks : L .marks) (lmem : L .mem) (lraised : L .raised)
    (c : Cmd) (s : State) : WithinNext P L s (execTimeDelay c s) := by
  unfold execTimeDelay
  with_reducible
    repeat' (first
        | apply Within.refl | assumption | apply Within.trans _ (within_delayStart wFH_DROP_CNT lfh lmarks lraised ..)
        | apply within_runCmd wHI_CMP_LOST_CNT wHI_CTX_STAT wHI_INFL_TOTAL wHI_RING_PROD lhi lhy llastCpl lmarks lmem
        | apply WithinEnd.ite | apply WithinNext.next | apply WithinEnd.wait | apply Within.ite | apply WithinNext.ite
        | dsimp only | intro _ | split)

/-! ### Machine/Transport -/

theorem within_i2cGot (wHI_UART_RXD : P R.HI_UART_RXD) (wPM_I2C_RXD : P R.PM_I2C_RXD) (lhi : L .hi) (s : State)
    (data : List Byte) : Within P L s (State.i2cGot s data) := by
  unfold State.i2cGot
  with_reducible
    repeat' (first
        | apply Within.refl | assumption | apply Within.trans _ (within_fifoShow wHI_UART_RXD wPM_I2C_RXD ..)
        | simp only [↓Within.upd_hi lhi] | apply Within.ite | dsimp only | split)

theorem within_execI2cTransferDone (wHI_CMP_LOST_CNT : ∀ i, P (R.HI_CMP_LOST_CNT i)) (wHI_CTX_STAT : ∀ i, P (R.HI_CTX_STAT i))
    (wHI_INFL_TOTAL : P R.HI_INFL_TOTAL) (wHI_RING_PROD : ∀ i, P (R.HI_RING_PROD i)) (wHI_UART_RXD : P R.HI_UART_RXD)
    (wPM_I2C_NAK_CNT : P R.PM_I2C_NAK_CNT) (wPM_I2C_RXD : P R.PM_I2C_RXD) (lhi : L .hi) (lhy : L .hy) (llastCpl : L .lastCpl)
    (lmarks : L .marks) (lmem : L .mem) (nak : Option (BitVec 8)) (data : List Byte) (s : State) :
    WithinNext P L s (execI2cTransferDone nak data s) := by
  unfold execI2cTransferDone
  with_reducible
    repeat' (first
        | apply Within.refl | assumption
        | apply Within.trans _ (within_finish wHI_CMP_LOST_CNT wHI_CTX_STAT wHI_INFL_TOTAL wHI_RING_PROD lhi lhy llastCpl lmarks lmem ..)
        | apply Within.trans _ (within_count lmarks ?_ ..) | apply Within.trans _ (within_i2cGot wHI_UART_RXD wPM_I2C_RXD lhi ..)
        | apply WithinNext.next | simp only [↓Within.upd_hi lhi] | apply Within.ite | apply WithinNext.ite | apply wPM_I2C_NAK_CNT
        | dsimp only | split)

theorem within_inWords (wHI_DBG_DENY_CNT : ∀ i, P (R.HI_DBG_DENY_CNT i)) (wHI_DECODE_ERR_CNT : P R.HI_DECODE_ERR_CNT)
    (wHI_UART_RXD : P R.HI_UART_RXD) (wHK_FIFO_LVL : P R.HK_FIFO_LVL) (wHK_FIFO_RD : ∀ i, P (R.HK_FIFO_RD i))
    (wHK_FIFO_RD_HI : ∀ i, P (R.HK_FIFO_RD_HI i)) (wPM_I2C_RXD : P R.PM_I2C_RXD) (lfree : L .free) (lhi : L .hi) (lhk : L .hk)
    (llatch : L .latch) (lmarks : L .marks) (lraised : L .raised) (s : State) (ofs n : Nat) : Within P L s (s.inWords ofs n).2
    := by
  induction n generalizing s ofs with
  | zero => exact .refl s
  | succ n ih => exact (within_bar0Read wHI_DBG_DENY_CNT wHI_DECODE_ERR_CNT wHI_UART_RXD wHK_FIFO_LVL wHK_FIFO_RD wHK_FIFO_RD_HI wPM_I2C_RXD lfree lhi lhk llatch lmarks lraised s 2 ofs).trans (ih _ _)

theorem within_inPush (wDMA_CH_CUR : ∀ i, P (R.DMA_CH_CUR i)) (wDMA_CH_CUR4 : ∀ i, P (R.DMA_CH_CUR i + 4))
    (wDMA_CH_STAT : ∀ i, P (R.DMA_CH_STAT i)) (wHI_DECODE_ERR_CNT : P R.HI_DECODE_ERR_CNT)
    (wHI_RING_PROD : ∀ i, P (R.HI_RING_PROD i)) (wHI_RING_STAT : ∀ i, P (R.HI_RING_STAT i)) (ldma : L .dma) (lhi : L .hi)
    (lmarks : L .marks) (lmem : L .mem) (lraised : L .raised) (s : State) (o : InOp) : Within P L s (State.inPush s o) := by
  unfold State.inPush
  with_reducible
    repeat' (first
        | apply Within.refl | assumption | apply Within.trans _ (within_setBytes lmem ..)
        | apply Within.trans _ (within_prodWrite wDMA_CH_CUR wDMA_CH_CUR4 wDMA_CH_STAT wHI_DECODE_ERR_CNT wHI_RING_PROD wHI_RING_STAT ldma lhi lmarks lraised ..)
        | simp only [↓Within.upd_dma ldma] | apply Within.ite | dsimp only | apply Within.foldl | apply Within.foldlBy Prod.snd
        | apply Within.foldlBy Prod.fst | intro _ | split)

theorem within_inOp (wAny : ∀ a, P a) (ldfe : L .dfe) (ldma : L .dma) (lfree : L .free) (lhi : L .hi) (lhk : L .hk)
    (llatch : L .latch) (lmarks : L .marks) (lmc : L .mc) (lmem : L .mem) (lnvj : L .nvj) (lpm : L .pm) (lraised : L .raised)
    (ltl : L .tl) (lts : L .ts) (a : List Byte × Nat × State) (o : InOp) : Within P L a.2.2 (State.inOp a o).2.2 := by
  unfold State.inOp
  dsimp only
  split
  · exact within_inWords (fun _ => wAny _) (wAny _) (wAny _) (wAny _) (fun _ => wAny _) (fun _ => wAny _) (wAny _) lfree lhi lhk llatch lmarks lraised ..
  · split
    · apply Within.foldl (.refl _)
      intro t i
      exact within_bar0Write wAny ldfe ldma lfree lhi lmarks lmc lmem lnvj lpm lraised ltl lts ..
    · exact within_inPush (fun _ => wAny _) (fun _ => wAny _) (fun _ => wAny _) (wAny _) (fun _ => wAny _) (fun _ => wAny _) ldma lhi lmarks lmem lraised ..

theorem within_spiRead (wHI_DBG_DENY_CNT : ∀ i, P (R.HI_DBG_DENY_CNT i)) (wHI_DECODE_ERR_CNT : P R.HI_DECODE_ERR_CNT)
    (wHI_UART_RXD : P R.HI_UART_RXD) (wHK_FIFO_LVL : P R.HK_FIFO_LVL) (wHK_FIFO_RD : ∀ i, P (R.HK_FIFO_RD i))
    (wHK_FIFO_RD_HI : ∀ i, P (R.HK_FIFO_RD_HI i)) (wPM_I2C_RXD : P R.PM_I2C_RXD) (lfree : L .free) (lhi : L .hi) (lhk : L .hk)
    (llatch : L .latch) (lmarks : L .marks) (lraised : L .raised) (s : State) (ofs : Nat) :
    Within P L s (State.spiRead s ofs).2 := by
  unfold State.spiRead
  with_reducible
    repeat' (first
        | apply Within.refl | assumption
        | apply Within.trans _ (within_bar0Read wHI_DBG_DENY_CNT wHI_DECODE_ERR_CNT wHI_UART_RXD wHK_FIFO_LVL wHK_FIFO_RD wHK_FIFO_RD_HI wPM_I2C_RXD lfree lhi lhk llatch lmarks lraised ..)
        | apply Within.ite | apply Within.ite_snd | dsimp only | split | apply Within.snd_of (by assumption))

theorem within_spiBad (wHI_SPI_CRC_CNT : P R.HI_SPI_CRC_CNT) (lmarks : L .marks) (s : State) :
    Within P L s (State.spiBad s) := by
  unfold State.spiBad
  with_reducible
    repeat' (first
        | apply Within.refl | assumption | apply Within.trans _ (within_count lmarks ?_ ..) | apply Within.ite
        | apply wHI_SPI_CRC_CNT | dsimp only | split)

theorem within_spiWords (wHI_DBG_DENY_CNT : ∀ i, P (R.HI_DBG_DENY_CNT i)) (wHI_DECODE_ERR_CNT : P R.HI_DECODE_ERR_CNT)
    (wHI_UART_RXD : P R.HI_UART_RXD) (wHK_FIFO_LVL : P R.HK_FIFO_LVL) (wHK_FIFO_RD : ∀ i, P (R.HK_FIFO_RD i))
    (wHK_FIFO_RD_HI : ∀ i, P (R.HK_FIFO_RD_HI i)) (wPM_I2C_RXD : P R.PM_I2C_RXD) (lfree : L .free) (lhi : L .hi) (lhk : L .hk)
    (llatch : L .latch) (lmarks : L .marks) (lraised : L .raised) (s : State) (ofs n : Nat) : Within P L s (s.spiWords ofs n).2
    := by
  induction n generalizing s ofs with
  | zero => exact .refl s
  | succ n ih => exact (within_spiRead wHI_DBG_DENY_CNT wHI_DECODE_ERR_CNT wHI_UART_RXD wHK_FIFO_LVL wHK_FIFO_RD wHK_FIFO_RD_HI wPM_I2C_RXD lfree lhi lhk llatch lmarks lraised s ofs).trans (ih _ _)

theorem within_aonWrite (wAny : ∀ a, P a) (lAll : ∀ p, L p) (s : State) (ofs : Nat) (v : Word) :
    Within P L s (State.aonWrite s ofs v) := by
  unfold State.aonWrite
  with_reducible
    repeat' (first
        | apply Within.refl | assumption | apply Within.trans _ (within_holdClear wAny lAll ..)
        | apply Within.trans _ (within_thawTrigger (wAny _) (lAll _) ..) | apply Within.ite | apply wAny | dsimp only | split)

theorem within_spiWrite (wAny : ∀ a, P a) (lAll : ∀ p, L p) (s : State) (ofs : Nat) (v : Word) :
    Within P L s (State.spiWrite s ofs v) := by
  unfold State.spiWrite
  with_reducible
    repeat' (first
        | apply Within.refl | assumption | apply Within.trans _ (within_aonWrite wAny lAll ..)
        | apply Within.trans _ (within_bar0Write wAny (lAll _) (lAll _) (lAll _) (lAll _) (lAll _) (lAll _) (lAll _) (lAll _) (lAll _) (lAll _) (lAll _) (lAll _) ..)
        | apply Within.ite | apply wAny | dsimp only | split)

theorem within_execSpiTransaction (wAny : ∀ a, P a) (lAll : ∀ p, L p) (b : List Byte) (s : State) :
    WithinNext P L s (execSpiTransaction b s) := by
  unfold execSpiTransaction
  with_reducible
    repeat' (first
        | apply Within.refl | assumption | apply Within.trans _ (within_spiBad (wAny _) (lAll _) ..)
        | apply Within.trans _ (within_spiWords (fun _ => wAny _) (wAny _) (wAny _) (wAny _) (fun _ => wAny _) (fun _ => wAny _) (wAny _) (lAll _) (lAll _) (lAll _) (lAll _) (lAll _) (lAll _) ..)
        | apply Within.trans _ (within_spiWrite wAny lAll ..) | apply WithinNext.next | simp only [↓Within.upd_hi (lAll _)]
        | apply Within.ite | apply WithinNext.ite | apply wAny | dsimp only | apply Within.foldl | apply Within.foldlBy Prod.snd
        | apply Within.foldlBy Prod.fst | intro _ | split | apply Within.snd_of (by assumption))

theorem within_execCommandConsume (wHI_CMD_BAD_CNT : ∀ i, P (R.HI_CMD_BAD_CNT i))
    (wHI_CMP_LOST_CNT : ∀ i, P (R.HI_CMP_LOST_CNT i)) (wHI_CTX_STAT : ∀ i, P (R.HI_CTX_STAT i))
    (wHI_INFL_TOTAL : P R.HI_INFL_TOTAL) (wHI_RING_CONS : ∀ i, P (R.HI_RING_CONS i)) (wHI_RING_PROD : ∀ i, P (R.HI_RING_PROD i))
    (wHI_RING_STAT : ∀ i, P (R.HI_RING_STAT i)) (lhi : L .hi) (lhy : L .hy) (llastCpl : L .lastCpl) (lmarks : L .marks)
    (lmem : L .mem) (c : Fin 8) (s : State) : WithinNext P L s (execCommandConsume c s) := by
  unfold execCommandConsume
  with_reducible
    repeat' (first
        | apply Within.refl | assumption | apply Within.trans _ (within_put ?_ ..) | apply Within.trans _ (within_incWrap ?_ ..)
        | apply Within.trans _ (within_postCpl wHI_CMP_LOST_CNT wHI_RING_PROD lhi llastCpl lmarks lmem ..)
        | apply Within.trans _ (within_count lmarks ?_ ..) | apply WithinNext.next | simp only [↓Within.upd_hy lhy]
        | apply Within.ite | apply WithinNext.ite | apply wHI_CMD_BAD_CNT | apply wHI_CTX_STAT | apply wHI_INFL_TOTAL
        | apply wHI_RING_CONS | apply wHI_RING_STAT | dsimp only | split)

theorem within_execGpioTriggerEdge (wHK_ABORT_CNT : P R.HK_ABORT_CNT) (wHK_IGN_REG_CNT : P R.HK_IGN_REG_CNT)
    (wHK_IGN_SQ_CNT : P R.HK_IGN_SQ_CNT) (wHK_STAT : P R.HK_STAT) (wPM_GPIO_IN : P R.PM_GPIO_IN) (wPM_MODE : P R.PM_MODE)
    (lhk : L .hk) (lmarks : L .marks) (lpm : L .pm) (lraised : L .raised) (k : Fin 32) (s : State) :
    WithinNext P L s (execGpioTriggerEdge k s) := by
  unfold execGpioTriggerEdge
  with_reducible
    repeat' (first
        | apply Within.refl | assumption | apply Within.trans _ (within_wr ?_ ..)
        | apply Within.trans _ (within_thawTrigger wPM_MODE lpm ..)
        | apply Within.trans _ (within_hkSource wHK_ABORT_CNT wHK_IGN_REG_CNT wHK_IGN_SQ_CNT wHK_STAT lhk lmarks lraised ..)
        | apply WithinNext.next | apply Within.ite | apply WithinNext.ite | apply wPM_GPIO_IN | dsimp only | split)

theorem within_inAnswer (wFH_DROP_CNT : ∀ i j, P (R.FH_DROP_CNT i j)) (lfh : L .fh) (lhi : L .hi) (lmarks : L .marks)
    (lraised : L .raised) (s : State) (c : Nat) (rec : InbandRec) (cls : Nat) (ops : List Byte) (n : Nat) :
    Within P L s (State.inAnswer s c rec cls ops n) := by
  unfold State.inAnswer
  with_reducible
    repeat' (first
        | apply Within.refl | assumption | apply Within.trans _ (within_txQueue wFH_DROP_CNT lfh lmarks lraised ..)
        | simp only [↓Within.upd_hi lhi] | apply Within.ite | dsimp only | split)

theorem within_execInbandFrame (wAny : ∀ a, P a) (ldfe : L .dfe) (ldma : L .dma) (lfh : L .fh) (lfree : L .free) (lhi : L .hi)
    (lhk : L .hk) (llatch : L .latch) (lmarks : L .marks) (lmc : L .mc) (lmem : L .mem) (lnvj : L .nvj) (lpm : L .pm)
    (lraised : L .raised) (ltl : L .tl) (lts : L .ts) (g : Fin 4) (src : BitVec 48) (vlan : BitVec 12) (b : List Byte)
    (s : State) : WithinNext P L s (execInbandFrame g src vlan b s) := by
  unfold execInbandFrame
  with_reducible
    repeat' (first
        | apply Within.refl | assumption
        | apply Within.trans _ (within_attach (fun _ => wAny _) (fun _ => wAny _) (wAny _) (fun _ => wAny _) (wAny _) (fun _ => wAny _) (fun _ => wAny _) ldma lraised ..)
        | apply Within.trans _ (within_inOp wAny ldfe ldma lfree lhi lhk llatch lmarks lmc lmem lnvj lpm lraised ltl lts ..)
        | apply Within.trans _ (within_inAnswer (fun _ _ => wAny _) lfh lhi lmarks lraised ..)
        | apply Within.trans _ (within_count lmarks ?_ ..) | apply WithinNext.next | simp only [↓Within.upd_hi lhi]
        | apply Within.ite | apply WithinNext.ite | apply wAny | dsimp only | apply Within.foldl | apply Within.foldlBy Prod.snd
        | apply Within.foldlBy Prod.fst | apply Within.foldlBy (fun p : List Byte × Nat × State => p.2.2) | intro _ | split
        | apply Within.snd_of (by assumption) | apply Within.thd_of (by assumption))

theorem within_recordsTick (wFH_DROP_CNT : ∀ i j, P (R.FH_DROP_CNT i j)) (lfh : L .fh) (lhi : L .hi) (lmarks : L .marks)
    (lraised : L .raised) (s : State) : Within P L s (State.recordsTick s) := by
  unfold State.recordsTick
  with_reducible
    repeat' (first
        | apply Within.refl | assumption | apply Within.trans _ (within_inAnswer wFH_DROP_CNT lfh lhi lmarks lraised ..)
        | simp only [↓Within.upd_hi lhi] | apply Within.ite | dsimp only | apply Within.foldl | apply Within.foldlBy Prod.snd
        | apply Within.foldlBy Prod.fst | intro _ | split)

/-! ### Machine/Cycle -/

theorem within_debtTick (wPM_GUST_CFG : P R.PM_GUST_CFG) (lpm : L .pm) (s : State) : Within P L s (State.debtTick s) := by
  unfold State.debtTick
  with_reducible
    repeat' (first
        | apply Within.refl | assumption | apply Within.trans _ (within_showDebt wPM_GUST_CFG ..) | simp only [↓Within.upd_pm lpm]
        | apply Within.ite | dsimp only | split)

theorem within_frameTick (wTL_NOW : ∀ i, P (R.TL_NOW i)) (ltl : L .tl) (s : State) : Within P L s (State.frameTick s) := by
  unfold State.frameTick
  with_reducible
    repeat' (first
        | apply Within.refl | assumption | apply Within.trans _ (within_showNow wTL_NOW ..)
        | apply Within.trans _ (within_newFrame wTL_NOW ltl ..) | simp only [↓Within.upd_tl ltl] | apply Within.ite | dsimp only
        | split)

theorem within_pausedTick (wNVC_PERF_OVF : ∀ i, P (R.NVC_PERF_OVF i)) (wnvCounter : ∀ i j, P (nvCounter i j))
    (wnvCounter4 : ∀ i j, P (nvCounter i j + 4)) (lmarks : L .marks) (lraised : L .raised) (s : State) :
    Within P L s (State.pausedTick s) := by
  unfold State.pausedTick
  with_reducible
    repeat' (first
        | apply Within.refl | assumption
        | apply Within.trans _ (within_nvCount wNVC_PERF_OVF wnvCounter wnvCounter4 lmarks lraised ..) | apply Within.ite
        | dsimp only | apply Within.foldl | apply Within.foldlBy Prod.snd | apply Within.foldlBy Prod.fst | intro _ | split)

theorem within_launchTick (wFH_LAUNCH : ∀ i, P (R.FH_LAUNCH i)) (wFH_RESV : ∀ i, P (R.FH_RESV i)) (lfh : L .fh)
    (lfree : L .free) (s : State) : Within P L s (State.launchTick s) := by
  unfold State.launchTick
  with_reducible
    repeat' (first
        | apply Within.refl | assumption | apply Within.trans _ (within_portLaunch wFH_LAUNCH wFH_RESV lfh lfree ..)
        | simp only [↓Within.upd_fh lfh] | apply Within.ite | dsimp only | apply Within.foldl | apply Within.foldlBy Prod.snd
        | apply Within.foldlBy Prod.fst | intro _ | split)

theorem within_fillTick (wDFE_CAR_STAT : ∀ i, P (R.DFE_CAR_STAT i)) (ltl : L .tl) (s : State) :
    Within P L s (State.fillTick s) := by
  unfold State.fillTick
  with_reducible
    repeat' (first
        | apply Within.refl | assumption | apply Within.trans _ (within_setFlag ?_ ..) | simp only [↓Within.upd_tl ltl]
        | apply Within.ite | apply wDFE_CAR_STAT | dsimp only | apply Within.foldl | apply Within.foldlBy Prod.snd
        | apply Within.foldlBy Prod.fst | intro _ | split)

theorem within_radioTick (wBF_REGION_STAT : ∀ i, P (R.BF_REGION_STAT i)) (wBF_STATUS : P R.BF_STATUS)
    (wCV_ACAL_STATUS : P R.CV_ACAL_STATUS) (wCV_ORX_QUAL : ∀ i, P (R.CV_ORX_QUAL i)) (wCV_TXQ_QUAL : ∀ i, P (R.CV_TXQ_QUAL i))
    (wDFE_CAR_CFG : ∀ i, P (R.DFE_CAR_CFG i)) (wDFE_CAR_STAT : ∀ i, P (R.DFE_CAR_STAT i))
    (wDFE_CFR_PULSE : ∀ i j, P (R.DFE_CFR_PULSE i j)) (wDFE_DPD_QUAL : ∀ i, P (R.DFE_DPD_QUAL i))
    (wFH_LAUNCH : ∀ i, P (R.FH_LAUNCH i)) (wFH_RESV : ∀ i, P (R.FH_RESV i)) (wFH_SECT_USED : ∀ i, P (R.FH_SECT_USED i))
    (wHI_CMP_LOST_CNT : ∀ i, P (R.HI_CMP_LOST_CNT i)) (wHI_CTX_STAT : ∀ i, P (R.HI_CTX_STAT i))
    (wHI_INFL_TOTAL : P R.HI_INFL_TOTAL) (wHI_RING_PROD : ∀ i, P (R.HI_RING_PROD i))
    (wNVC_CORE_STAT : ∀ i, P (R.NVC_CORE_STAT i)) (wNVC_PERF_OVF : ∀ i, P (R.NVC_PERF_OVF i))
    (wRF_PABIAS_CFG : ∀ i, P (R.RF_PABIAS_CFG i)) (wRF_PABIAS_LVL : ∀ i, P (R.RF_PABIAS_LVL i))
    (wRF_PATH_STATE : ∀ i, P (R.RF_PATH_STATE i)) (wRF_REG_RMS : ∀ i, P (R.RF_REG_RMS i))
    (wRF_SYN_STATUS : ∀ i, P (R.RF_SYN_STATUS i)) (wTL_NOW : ∀ i, P (R.TL_NOW i))
    (wTL_OVERRUN_CNT : ∀ i, P (R.TL_OVERRUN_CNT i)) (wTS_CNT : P R.TS_CNT) (wTS_CNT4 : P (R.TS_CNT + 4))
    (wTS_DOM_STAT : ∀ i, P (R.TS_DOM_STAT i)) (wTS_DOM_VOFS : ∀ i, P (R.TS_DOM_VOFS i))
    (wTS_DOM_VOFS4 : ∀ i, P (R.TS_DOM_VOFS i + 4)) (wnvCounter : ∀ i j, P (nvCounter i j))
    (wnvCounter4 : ∀ i j, P (nvCounter i j + 4)) (wringWord : ∀ i j, P (ringWord i j)) (lbf : L .bf) (lcv : L .cv)
    (ldfe : L .dfe) (ldma : L .dma) (lfh : L .fh) (lfree : L .free) (lhi : L .hi) (lhy : L .hy) (llastCpl : L .lastCpl)
    (lmarks : L .marks) (lmc : L .mc) (lmem : L .mem) (lnvc : L .nvc) (lpins : L .pins) (lraised : L .raised) (lrf : L .rf)
    (ltl : L .tl) (lts : L .ts) (s : State) : Within P L s (State.radioTick s) := by
  unfold State.radioTick
  with_reducible
    repeat' (first
        | apply Within.refl | assumption | apply Within.trans _ (within_lostTick wRF_SYN_STATUS lrf ..)
        | apply Within.trans _ (within_frameTick wTL_NOW ltl ..) | apply Within.trans _ (within_ppsTick lpins ..)
        | apply Within.trans _ (within_tsTick wTS_CNT wTS_CNT4 wTS_DOM_STAT wTS_DOM_VOFS wTS_DOM_VOFS4 lts ..)
        | apply Within.trans _ (within_pausedTick wNVC_PERF_OVF wnvCounter wnvCounter4 lmarks lraised ..)
        | apply Within.trans _ (within_dmaTick ldma ..) | apply Within.trans _ (within_mcTick lmc ..)
        | apply Within.trans _ (within_agesTick wCV_ORX_QUAL wCV_TXQ_QUAL wDFE_DPD_QUAL ..)
        | apply Within.trans _ (within_lateTick wTL_OVERRUN_CNT wringWord lbf lfh lmarks lraised ltl ..)
        | apply Within.trans _ (within_sectPurge wFH_SECT_USED lfh ..)
        | apply Within.trans _ (within_launchTick wFH_LAUNCH wFH_RESV lfh lfree ..)
        | apply Within.trans _ (within_fillTick wDFE_CAR_STAT ltl ..) | apply Within.trans _ (within_autoTick lfree lhy ..)
        | apply Within.trans _ (within_pulseTick wDFE_CFR_PULSE ldfe ..)
        | apply Within.trans _ (within_swapTick wDFE_CAR_STAT ldfe ..)
        | apply Within.trans _ (within_sweepTick wCV_ACAL_STATUS lcv ltl ..) | apply Within.trans _ (within_cvTick lcv lpins ..)
        | apply Within.trans _ (within_bankTick lbf ..)
        | apply Within.trans _ (within_muteTick wRF_PABIAS_CFG wRF_PABIAS_LVL wRF_PATH_STATE ldfe lrf ..)
        | apply Within.trans _ (within_windowTick lcv ltl ..) | apply Within.trans _ (within_dacTick lrf ..)
        | apply Within.trans _ (within_gainTick wRF_PATH_STATE ltl ..)
        | apply Within.trans _ (within_delayLimit wHI_CMP_LOST_CNT wHI_CTX_STAT wHI_INFL_TOTAL wHI_RING_PROD lfh lhi lhy llastCpl lmarks lmem ..)
        | apply Within.trans _ (within_sweepLimit wCV_ACAL_STATUS wHI_CMP_LOST_CNT wHI_CTX_STAT wHI_INFL_TOTAL wHI_RING_PROD wNVC_CORE_STAT lcv lhi lhy llastCpl lmarks lmem lnvc ..)
        | apply Within.trans _ (within_settle wBF_REGION_STAT wBF_STATUS wDFE_CAR_CFG wFH_RESV wFH_SECT_USED wHI_CMP_LOST_CNT wHI_CTX_STAT wHI_INFL_TOTAL wHI_RING_PROD wRF_REG_RMS lbf ldfe lfh lfree lhi lhy llastCpl lmarks lmem lraised ltl ..)
        | apply Within.ite | dsimp only | split)

/-- A cycle of the clock, past the count of the cycle itself. -/
theorem within_cycle (wBF_REGION_STAT : ∀ i, P (R.BF_REGION_STAT i)) (wBF_STATUS : P R.BF_STATUS)
    (wCV_ACAL_STATUS : P R.CV_ACAL_STATUS) (wCV_ORX_QUAL : ∀ i, P (R.CV_ORX_QUAL i)) (wCV_TXQ_QUAL : ∀ i, P (R.CV_TXQ_QUAL i))
    (wDFE_CAR_CFG : ∀ i, P (R.DFE_CAR_CFG i)) (wDFE_CAR_STAT : ∀ i, P (R.DFE_CAR_STAT i))
    (wDFE_CFR_PULSE : ∀ i j, P (R.DFE_CFR_PULSE i j)) (wDFE_DPD_QUAL : ∀ i, P (R.DFE_DPD_QUAL i))
    (wFH_DROP_CNT : ∀ i j, P (R.FH_DROP_CNT i j)) (wFH_LAUNCH : ∀ i, P (R.FH_LAUNCH i)) (wFH_RESV : ∀ i, P (R.FH_RESV i))
    (wFH_SECT_USED : ∀ i, P (R.FH_SECT_USED i)) (wHI_CMP_LOST_CNT : ∀ i, P (R.HI_CMP_LOST_CNT i))
    (wHI_CTX_STAT : ∀ i, P (R.HI_CTX_STAT i)) (wHI_INFL_TOTAL : P R.HI_INFL_TOTAL) (wHI_RING_PROD : ∀ i, P (R.HI_RING_PROD i))
    (wMC_STATUS : P R.MC_STATUS) (wNVC_CORE_STAT : ∀ i, P (R.NVC_CORE_STAT i)) (wNVC_PERF_OVF : ∀ i, P (R.NVC_PERF_OVF i))
    (wPM_GUST_CFG : P R.PM_GUST_CFG) (wRF_PABIAS_CFG : ∀ i, P (R.RF_PABIAS_CFG i)) (wRF_PABIAS_LVL : ∀ i, P (R.RF_PABIAS_LVL i))
    (wRF_PATH_STATE : ∀ i, P (R.RF_PATH_STATE i)) (wRF_REG_RMS : ∀ i, P (R.RF_REG_RMS i))
    (wRF_SYN_STATUS : ∀ i, P (R.RF_SYN_STATUS i)) (wTL_NOW : ∀ i, P (R.TL_NOW i))
    (wTL_OVERRUN_CNT : ∀ i, P (R.TL_OVERRUN_CNT i)) (wTS_CNT : P R.TS_CNT) (wTS_CNT4 : P (R.TS_CNT + 4))
    (wTS_DOM_STAT : ∀ i, P (R.TS_DOM_STAT i)) (wTS_DOM_VOFS : ∀ i, P (R.TS_DOM_VOFS i))
    (wTS_DOM_VOFS4 : ∀ i, P (R.TS_DOM_VOFS i + 4)) (wnvCounter : ∀ i j, P (nvCounter i j))
    (wnvCounter4 : ∀ i j, P (nvCounter i j + 4)) (wringWord : ∀ i j, P (ringWord i j)) (lbf : L .bf) (lcv : L .cv)
    (ldfe : L .dfe) (ldma : L .dma) (lfh : L .fh) (lfree : L .free) (lhi : L .hi) (lhy : L .hy) (llastCpl : L .lastCpl)
    (lmarks : L .marks) (lmc : L .mc) (lmem : L .mem) (lnvc : L .nvc) (lpins : L .pins) (lpm : L .pm) (lraised : L .raised)
    (lrf : L .rf) (ltl : L .tl) (lts : L .ts) (s : State) :
    Within P L { s with now := s.now + 1 } s.cycle := by
  have a : Within P L { s with now := s.now + 1 } ({ s with now := s.now + 1, marks := [], tl := { s.tl with nIssue := 0 } } : State) :=
    (Within.upd_tl (u := { s with now := s.now + 1, marks := [] }) ltl).2
      ((Within.upd_marks (u := { s with now := s.now + 1 }) lmarks).2 (.refl _))
  have b := a.trans (within_debtTick wPM_GUST_CFG lpm _)
  unfold State.cycle
  dsimp only
  generalize State.debtTick _ = u at b ⊢
  have c : Within P L { s with now := s.now + 1 } (if u.pm.pllClocks then u.radioTick else u) :=
    .ite (b.trans (within_radioTick wBF_REGION_STAT wBF_STATUS wCV_ACAL_STATUS wCV_ORX_QUAL wCV_TXQ_QUAL wDFE_CAR_CFG wDFE_CAR_STAT wDFE_CFR_PULSE wDFE_DPD_QUAL wFH_LAUNCH wFH_RESV wFH_SECT_USED wHI_CMP_LOST_CNT wHI_CTX_STAT wHI_INFL_TOTAL wHI_RING_PROD wNVC_CORE_STAT wNVC_PERF_OVF wRF_PABIAS_CFG wRF_PABIAS_LVL wRF_PATH_STATE wRF_REG_RMS wRF_SYN_STATUS wTL_NOW wTL_OVERRUN_CNT wTS_CNT wTS_CNT4 wTS_DOM_STAT wTS_DOM_VOFS wTS_DOM_VOFS4 wnvCounter wnvCounter4 wringWord lbf lcv ldfe ldma lfh lfree lhi lhy llastCpl lmarks lmc lmem lnvc lpins lraised lrf ltl lts ..)) b
  generalize (if u.pm.pllClocks then u.radioTick else u) = v at c ⊢
  have d : Within P L { s with now := s.now + 1 } (if v.hiRuns then v.uartTick else v) := .ite (c.trans (within_uartTick lhi ..)) c
  generalize (if v.hiRuns then v.uartTick else v) = w at d ⊢
  exact (((d.trans (within_rampTick lpm lrf ltl ..)).trans (within_heldTick lhi ..)).trans (within_recordsTick wFH_DROP_CNT lfh lhi lmarks lraised ..)).trans
    (within_thawTick wMC_STATUS lmc lpm ..)

/-! ### Machine/Datapath -/

theorem within_setOuts (lbf : L .bf) (s : State) (y : Sym) (l : List BfOut) : Within P L s (State.setOuts s y l) := by
  unfold State.setOuts
  with_reducible
    repeat' (first
        | apply Within.refl | assumption | simp only [↓Within.upd_bf lbf] | apply Within.ite | dsimp only | split)

theorem within_pathSamples (ldfe : L .dfe) (s : State) (y : Sym) : Within P L s (State.pathSamples s y) := by
  unfold State.pathSamples
  with_reducible
    repeat' (first
        | apply Within.refl | assumption | apply Within.trans _ (within_keepOut ldfe ..) | apply Within.ite | dsimp only
        | apply Within.foldl | apply Within.foldlBy Prod.snd | apply Within.foldlBy Prod.fst
        | apply Within.foldlBy (fun p : _ × _ × State => p.2.2) | intro _ | split)

theorem within_correct (wBF_SAT_CNT : ∀ i, P (R.BF_SAT_CNT i)) (lbf : L .bf) (lfree : L .free) (lmarks : L .marks)
    (lraised : L .raised) (s : State) (y : Sym) (p b : Nat) (x : List (Int × Int)) :
    Within P L s (State.correct s y p b x).2 := by
  unfold State.correct
  with_reducible
    repeat' (first
        | apply Within.refl | assumption | apply Within.trans _ (within_narrows lfree ..)
        | apply Within.trans _ (within_satCount lbf lmarks lraised ?_ ..) | apply Within.ite | apply Within.ite_snd
        | apply wBF_SAT_CNT | dsimp only | split | apply Within.snd_of (by assumption) | apply Within.thd_of (by assumption))

theorem within_bfSat (wBF_SAT_CNT : ∀ i, P (R.BF_SAT_CNT i)) (lbf : L .bf) (lmarks : L .marks) (lraised : L .raised) (s : State)
    (y : Sym) (p n : Nat) : Within P L s (State.bfSat s y p n) := by
  unfold State.bfSat
  with_reducible
    repeat' (first
        | apply Within.refl | assumption | apply Within.trans _ (within_satCount lbf lmarks lraised ?_ ..) | apply Within.ite
        | apply wBF_SAT_CNT | dsimp only | split)

theorem within_fftPath (wBF_SAT_CNT : ∀ i, P (R.BF_SAT_CNT i)) (lbf : L .bf) (lfree : L .free) (lmarks : L .marks)
    (lraised : L .raised) (s : State) (y : Sym) (p : Nat) : Within P L s (State.fftPath s y p).2 := by
  unfold State.fftPath
  with_reducible
    repeat' (first
        | apply Within.refl | assumption | apply Within.trans _ (within_narrow lfree ..)
        | apply Within.trans _ (within_correct wBF_SAT_CNT lbf lfree lmarks lraised ..)
        | apply Within.trans _ (within_bfSat wBF_SAT_CNT lbf lmarks lraised ..) | apply Within.ite | apply Within.ite_snd
        | dsimp only | apply Within.foldl | apply Within.foldlBy Prod.snd | apply Within.foldlBy Prod.fst
        | apply Within.foldlBy (fun p : _ × _ × State => p.2.2) | intro _ | split | apply Within.snd_of (by assumption)
        | apply Within.thd_of (by assumption))

theorem within_srsTap (lbf : L .bf) (s : State) (y : Sym) (l : List BfOut) : Within P L s (State.srsTap s y l) := by
  unfold State.srsTap
  with_reducible
    repeat' (first
        | apply Within.refl | assumption | simp only [↓Within.upd_bf lbf] | apply Within.ite | dsimp only | split)

theorem within_stage3 (wBF_SAT_CNT : ∀ i, P (R.BF_SAT_CNT i)) (lbf : L .bf) (lfree : L .free) (lmarks : L .marks)
    (lraised : L .raised) (s : State) (y : Sym) : Within P L s (State.stage3 s y) := by
  unfold State.stage3
  with_reducible
    repeat' (first
        | apply Within.refl | assumption | apply Within.trans _ (within_fftPath wBF_SAT_CNT lbf lfree lmarks lraised ..)
        | apply Within.trans _ (within_srsTap lbf ..) | apply Within.trans _ (within_setOuts lbf ..) | apply Within.ite
        | dsimp only | apply Within.foldl | apply Within.foldlBy Prod.snd | apply Within.foldlBy Prod.fst
        | apply Within.foldlBy (fun p : _ × _ × State => p.2.2) | intro _ | split | apply Within.snd_of (by assumption))

theorem within_readSlots (lbf : L .bf) (s : State) (c : Nat) (es : List Sect) (y : Sym) :
    Within P L s (State.readSlots s c es y) := by
  unfold State.readSlots
  with_reducible
    repeat' (first
        | apply Within.refl | assumption | apply Within.trans _ (within_slotRead lbf ..) | apply Within.ite | dsimp only
        | apply Within.foldl | apply Within.foldlBy Prod.snd | apply Within.foldlBy Prod.fst
        | apply Within.foldlBy (fun p : _ × _ × State => p.2.2) | intro _ | split)

theorem within_dropUnresolved (wBF_LEASE_DROP_CNT : ∀ i, P (R.BF_LEASE_DROP_CNT i)) (lbf : L .bf) (lmarks : L .marks)
    (lraised : L .raised) (s : State) (c : Nat) (es : List Sect) (y : Sym) : Within P L s (State.dropUnresolved s c es y) := by
  unfold State.dropUnresolved
  with_reducible
    repeat' (first
        | apply Within.refl | assumption | apply Within.trans _ (within_dropSection wBF_LEASE_DROP_CNT lbf lmarks lraised ..)
        | apply Within.ite | dsimp only | apply Within.foldl | apply Within.foldlBy Prod.snd | apply Within.foldlBy Prod.fst
        | apply Within.foldlBy (fun p : _ × _ × State => p.2.2) | intro _ | split)

theorem within_multiply (wBF_LEASE_DROP_CNT : ∀ i, P (R.BF_LEASE_DROP_CNT i)) (wBF_SAT_CNT : ∀ i, P (R.BF_SAT_CNT i))
    (lbf : L .bf) (lfree : L .free) (lmarks : L .marks) (lraised : L .raised) (s : State) (y : Sym) :
    Within P L s (State.multiply s y) := by
  unfold State.multiply
  with_reducible
    repeat' (first
        | apply Within.refl | assumption | apply Within.trans _ (within_readSlots lbf ..)
        | apply Within.trans _ (within_dropUnresolved wBF_LEASE_DROP_CNT lbf lmarks lraised ..)
        | apply Within.trans _ (within_narrows lfree ..) | apply Within.trans _ (within_satCount lbf lmarks lraised ?_ ..)
        | apply Within.trans _ (within_setOuts lbf ..) | apply Within.ite | apply wBF_SAT_CNT | dsimp only | apply Within.foldl
        | apply Within.foldlBy Prod.snd | apply Within.foldlBy Prod.fst | apply Within.foldlBy (fun p : _ × _ × State => p.2.2)
        | intro _ | split | apply Within.snd_of (by assumption) | apply Within.thd_of (by assumption))

theorem within_rxKeep (lbf : L .bf) (s : State) (y : Sym) (p : Nat) (x : List (Int × Int)) :
    Within P L s (State.rxKeep s y p x) := by
  unfold State.rxKeep
  with_reducible
    repeat' (first
        | apply Within.refl | assumption | simp only [↓Within.upd_bf lbf] | apply Within.ite | dsimp only | split)

theorem within_stageWork (wDFE_CFR_EXH_CNT : ∀ i, P (R.DFE_CFR_EXH_CNT i)) (wDFE_DPD_SAT_CNT : ∀ i, P (R.DFE_DPD_SAT_CNT i))
    (wDFE_SAT_CNT : ∀ i, P (R.DFE_SAT_CNT i)) (wRF_REG_PEAK_CNT : ∀ i, P (R.RF_REG_PEAK_CNT i)) (lbf : L .bf) (ldfe : L .dfe)
    (lfree : L .free) (lmarks : L .marks) (lraised : L .raised) (lrf : L .rf) (s : State) (stage : Nat) (y : Sym)
    (w : StageWork) : Within P L s (State.stageWork s stage y w) := by
  unfold State.stageWork
  with_reducible
    repeat' (first
        | apply Within.refl | assumption | apply Within.trans _ (within_adcPair lfree ..)
        | apply Within.trans _ (within_rxCorrect lfree ..) | apply Within.trans _ (within_chainRun ldfe lfree ..)
        | apply Within.trans _ (within_dfeSat wDFE_SAT_CNT lbf lmarks lraised ..) | apply Within.trans _ (within_rxKeep lbf ..)
        | apply Within.trans _ (within_keepOut ldfe ..) | apply Within.trans _ (within_txSum lfree ..)
        | apply Within.trans _ (within_cfrRun wDFE_CFR_EXH_CNT lbf ldfe lfree lmarks lraised ..)
        | apply Within.trans _ (within_dpdRun lfree ..) | apply Within.trans _ (within_satCount lbf lmarks lraised ?_ ..)
        | apply Within.trans _ (within_dacRun wRF_REG_PEAK_CNT ldfe lfree lmarks lraised lrf ..)
        | simp only [↓Within.upd_dfe ldfe] | apply Within.ite | apply wDFE_DPD_SAT_CNT | dsimp only | split
        | apply Within.snd_of (by assumption) | apply Within.thd_of (by assumption))

theorem within_ifftPath (wBF_SAT_CNT : ∀ i, P (R.BF_SAT_CNT i)) (lbf : L .bf) (ldfe : L .dfe) (lmarks : L .marks)
    (lraised : L .raised) (s : State) (y : Sym) (p : Nat) : Within P L s (State.ifftPath s y p) := by
  unfold State.ifftPath
  with_reducible
    repeat' (first
        | apply Within.refl | assumption | apply Within.trans _ (within_bfSat wBF_SAT_CNT lbf lmarks lraised ..)
        | apply Within.trans _ (within_keepOut ldfe ..) | apply Within.ite | dsimp only | split)

theorem within_stage2 (wBF_SAT_CNT : ∀ i, P (R.BF_SAT_CNT i)) (lbf : L .bf) (ldfe : L .dfe) (lfree : L .free)
    (lmarks : L .marks) (lraised : L .raised) (s : State) (y : Sym) : Within P L s (State.stage2 s y) := by
  unfold State.stage2
  with_reducible
    repeat' (first
        | apply Within.refl | assumption | apply Within.trans _ (within_correct wBF_SAT_CNT lbf lfree lmarks lraised ..)
        | apply Within.trans _ (within_narrows lfree ..) | apply Within.trans _ (within_bfSat wBF_SAT_CNT lbf lmarks lraised ..)
        | apply Within.trans _ (within_setOuts lbf ..)
        | apply Within.trans _ (within_ifftPath wBF_SAT_CNT lbf ldfe lmarks lraised ..) | apply Within.ite | dsimp only
        | apply Within.foldl | apply Within.foldlBy Prod.snd | apply Within.foldlBy Prod.fst
        | apply Within.foldlBy (fun p : _ × _ × State => p.2.2) | intro _ | split | apply Within.snd_of (by assumption)
        | apply Within.thd_of (by assumption))

theorem within_blankOut (lbf : L .bf) (ldfe : L .dfe) (s : State) (y : Sym) : Within P L s (State.blankOut s y) := by
  unfold State.blankOut
  with_reducible
    repeat' (first
        | apply Within.refl | assumption | apply Within.trans _ (within_keepOut ldfe ..)
        | apply Within.trans _ (within_setOuts lbf ..) | apply Within.ite | dsimp only | apply Within.foldl
        | apply Within.foldlBy Prod.snd | apply Within.foldlBy Prod.fst | apply Within.foldlBy (fun p : _ × _ × State => p.2.2)
        | intro _ | split)

theorem within_sendRun (wFH_DROP_CNT : ∀ i j, P (R.FH_DROP_CNT i j)) (lfh : L .fh) (lmarks : L .marks) (lraised : L .raised)
    (s : State) (y : Sym) (f id a n : Nat) (get : Nat → List (Int × Int)) : Within P L s (State.sendRun s y f id a n get) := by
  unfold State.sendRun
  with_reducible
    repeat' (first
        | apply Within.refl | assumption | apply Within.trans _ (within_txQueue wFH_DROP_CNT lfh lmarks lraised ..)
        | apply Within.ite | dsimp only | apply Within.foldl | apply Within.foldlBy Prod.snd | apply Within.foldlBy Prod.fst
        | apply Within.foldlBy (fun p : _ × _ × State => p.2.2) | intro _ | split)

theorem within_packetise (wFH_DROP_CNT : ∀ i j, P (R.FH_DROP_CNT i j)) (lbf : L .bf) (lfh : L .fh) (lmarks : L .marks)
    (lraised : L .raised) (s : State) (y : Sym) : Within P L s (State.packetise s y) := by
  unfold State.packetise
  with_reducible
    repeat' (first
        | apply Within.refl | assumption | apply Within.trans _ (within_sendRun wFH_DROP_CNT lfh lmarks lraised ..)
        | apply Within.trans _ (within_slotPassed lbf ..) | apply Within.trans _ (within_setOuts lbf ..) | apply Within.ite
        | dsimp only | apply Within.foldl | apply Within.foldlBy Prod.snd | apply Within.foldlBy Prod.fst
        | apply Within.foldlBy (fun p : _ × _ × State => p.2.2) | intro _ | split)

theorem within_combine (wBF_LEASE_DROP_CNT : ∀ i, P (R.BF_LEASE_DROP_CNT i)) (lbf : L .bf) (lfree : L .free) (lmarks : L .marks)
    (lraised : L .raised) (s : State) (y : Sym) : Within P L s (State.combine s y) := by
  unfold State.combine
  with_reducible
    repeat' (first
        | apply Within.refl | assumption | apply Within.trans _ (within_readSlots lbf ..)
        | apply Within.trans _ (within_dropUnresolved wBF_LEASE_DROP_CNT lbf lmarks lraised ..)
        | apply Within.trans _ (within_narrows lfree ..) | apply Within.trans _ (within_setOuts lbf ..) | apply Within.ite
        | dsimp only | apply Within.foldl | apply Within.foldlBy Prod.snd | apply Within.foldlBy Prod.fst
        | apply Within.foldlBy (fun p : _ × _ × State => p.2.2) | intro _ | split | apply Within.snd_of (by assumption)
        | apply Within.thd_of (by assumption))

theorem within_execPipelineStageStart (wBF_LEASE_DROP_CNT : ∀ i, P (R.BF_LEASE_DROP_CNT i))
    (wBF_SAT_CNT : ∀ i, P (R.BF_SAT_CNT i)) (wDFE_CFR_EXH_CNT : ∀ i, P (R.DFE_CFR_EXH_CNT i))
    (wDFE_DPD_SAT_CNT : ∀ i, P (R.DFE_DPD_SAT_CNT i)) (wDFE_SAT_CNT : ∀ i, P (R.DFE_SAT_CNT i))
    (wFH_DROP_CNT : ∀ i j, P (R.FH_DROP_CNT i j)) (wFH_SECT_USED : ∀ i, P (R.FH_SECT_USED i))
    (wRF_REG_PEAK_CNT : ∀ i, P (R.RF_REG_PEAK_CNT i)) (lbf : L .bf) (ldfe : L .dfe) (lfh : L .fh) (lfree : L .free)
    (lmarks : L .marks) (lraised : L .raised) (lrf : L .rf) (ltl : L .tl) (stage : Fin 8) (slot : Fin 4096) (k : Fin 14)
    (work : List StageWork) (s : State) : WithinNext P L s (execPipelineStageStart stage slot k work s) := by
  unfold execPipelineStageStart
  with_reducible
    repeat' (first
        | apply Within.refl | assumption | apply Within.trans _ (within_setSym ltl ..)
        | apply Within.trans _ (within_slotPassed lbf ..) | apply Within.trans _ (within_sectPurge wFH_SECT_USED lfh ..)
        | apply Within.trans _ (within_blankOut lbf ldfe ..)
        | apply Within.trans _ (within_multiply wBF_LEASE_DROP_CNT wBF_SAT_CNT lbf lfree lmarks lraised ..)
        | apply Within.trans _ (within_pathSamples ldfe ..)
        | apply Within.trans _ (within_stage2 wBF_SAT_CNT lbf ldfe lfree lmarks lraised ..)
        | apply Within.trans _ (within_stage3 wBF_SAT_CNT lbf lfree lmarks lraised ..)
        | apply Within.trans _ (within_combine wBF_LEASE_DROP_CNT lbf lfree lmarks lraised ..)
        | apply Within.trans _ (within_packetise wFH_DROP_CNT lbf lfh lmarks lraised ..)
        | apply Within.trans _ (within_stageWork wDFE_CFR_EXH_CNT wDFE_DPD_SAT_CNT wDFE_SAT_CNT wRF_REG_PEAK_CNT lbf ldfe lfree lmarks lraised lrf ..)
        | apply WithinNext.next | simp only [↓Within.upd_tl_bf ltl lbf] | apply Within.ite | apply WithinNext.ite | dsimp only
        | apply Within.foldl | apply Within.foldlBy Prod.snd | apply Within.foldlBy Prod.fst
        | apply Within.foldlBy (fun p : _ × _ × State => p.2.2) | intro _ | split)

end Sys2Proof.Machine
end

