-- ==== Sys2Proof/Laws/Commands.lean ====
section
/-! SUPPORT. What running a command does (`runCmd`) and what its completion leaves (`complete`): each proved once, for the statements
about the host commands to cite. -/

namespace Sys2Proof.Machine

/-! ### Running -/

/-- A command that waits changes nothing. -/
theorem runCmd_waits {s : State} {c : Cmd} {m : Bool} {res : List (Nat × Nat)} {checks : List Check} {act : CmdEnd}
    (h : s.cmdWaits c m res = true) : runCmd s c m res checks act = .next s := by
  simp [runCmd, h]

/-- The failing check of a command that is ready is the first of its row's own. -/
theorem cmdFail_ready {s : State} {c : Cmd} {m : Bool} {res : List (Nat × Nat)} (h : Ready s c m res) (checks : List Check) :
    s.cmdFail c checks = firstFail checks := by
  have hu : (s.mode = .update && updateRefuses c) = false := h.2
  simp [State.cmdFail, firstFail, State.badState, hu]

/-- A command that fails a check completes with that check's status and DETAIL. -/
theorem runCmd_refuses {s : State} {c : Cmd} {m : Bool} {res : List (Nat × Nat)} {checks : List Check} {act : CmdEnd} {k : Check}
    (h : Ready s c m res) (hk : firstFail checks = some k) :
    runCmd s c m res checks act = .next (s.complete c k.status k.detail 0) := by
  unfold runCmd; rw [cmdFail_ready h, hk, h.1]; rfl

/-- A command that passes its checks completes as its action says. -/
theorem runCmd_done {s t : State} {c : Cmd} {m : Bool} {res : List (Nat × Nat)} {checks : List Check} {st d r : Nat}
    (h : Ready s c m res) (hk : firstFail checks = none) :
    runCmd s c m res checks (.done t st d r) = .next (t.complete c st d r) := by
  unfold runCmd; rw [cmdFail_ready h, hk, h.1]; rfl

/-- A command that passes its checks and waits joins the started ones. -/
theorem runCmd_wait {s t : State} {c : Cmd} {m : Bool} {res : List (Nat × Nat)} {checks : List Check} {u : Until} {d : List Nat}
    (h : Ready s c m res) (hk : firstFail checks = none) :
    runCmd s c m res checks (.wait t u d) = .next { t with hy := { t.hy with jobs := t.hy.jobs ++ [⟨c, u, res, d⟩] } } := by
  unfold runCmd; rw [cmdFail_ready h, hk, h.1]; rfl

/-- No check fails exactly when none is bad. -/
theorem firstFail_none {l : List Check} : firstFail l = none ↔ ∀ k ∈ l, k.bad = false := by
  have hr : ∀ st, checkRank st < 8 := by intro st; unfold checkRank; (repeat' split) <;> omega
  simp only [firstFail, List.findSome?_eq_none_iff, List.mem_range, List.find?_eq_none, Bool.and_eq_true, decide_eq_true_eq, not_and]
  exact ⟨fun h k hk => by
      cases hb : k.bad with
      | false => rfl
      | true => exact absurd rfl (h _ (hr k.status) k hk hb),
    fun h r _ k hk hb => by rw [h k hk] at hb; cases hb⟩

/-- The first check of the first rank fails before every other. -/
theorem firstFail_head {k : Check} {l : List Check} (hb : k.bad = true) (hr : checkRank k.status = 0) : firstFail (k :: l) = some k := by
  unfold firstFail
  rw [show List.range 8 = 0 :: [1, 2, 3, 4, 5, 6, 7] from rfl, List.findSome?_cons, List.find?_cons_of_pos (by simp [hb, hr])]

/-- A command that needs the mode lease, of a context without it (R464). -/
theorem runCmd_needML {s : State} {c : Cmd} {m : Bool} {res : List (Nat × Nat)} (h : Ready s c m res) (hm : s.isML c.ctx = false)
    (l : List Check) (act : CmdEnd) : runCmd s c m res (s.needML c :: l) act = .next (s.complete c St.notOwner 0 0) := by
  have hk : s.needML c = ⟨true, St.notOwner, 0⟩ := by simp [State.needML, notOwner, hm]
  rw [runCmd_refuses h (k := ⟨true, St.notOwner, 0⟩) (by rw [hk]; exact firstFail_head rfl rfl)]

/-! ### Completing -/

theorem bytes_length (s : State) (a n : Nat) : (s.bytes a n).length = n := by simp [State.bytes]

theorem cplBytes_length (seq ns : Nat) (k : Completion) : (cplBytes seq ns k).length = 32 := by
  simp [cplBytes, leBytes_length]

/-- A commands' retirement changes the books of its context only. -/
theorem within_retireCmd' {P : Nat → Prop} {L : Part → Prop} {c : Cmd} (h1 : P (R.HI_CTX_STAT c.ctx)) (h2 : P R.HI_INFL_TOTAL)
    (lhy : L .hy) (s : State) : Within P L s (s.retireCmd c) := by
  have hf (t : State) : Within P L t (t.inflFall c.ctx) := by
    unfold State.inflFall
    split
    · exact .refl t
    · dsimp only
      split
      · exact (Within.upd_hy lhy).mpr (within_put h1 ..)
      · exact within_put h1 ..
  unfold State.retireCmd
  split
  · refine Within.trans ?_ (hf _)
    refine Within.trans ?_ (within_put h2 ..)
    refine Within.trans ?_ (within_put h1 ..)
    exact (Within.upd_hy lhy).mpr (.refl s)
  · exact .refl s

/-- A record pushed changes its ring's producer index, and no other register. -/
theorem within_ringPush' {P : Nat → Prop} {L : Part → Prop} {n : Nat} (h : P (R.HI_RING_PROD n)) (lhi : L .hi) (lmem : L .mem) (s : State)
    (x : List Byte) : Within P L s (s.ringPush n x) := by
  have a : Within P L s (if s.ctxAtt (s.ringCtx n) = 2 then { s with hi := { s.hi with records := s.hi.records ++ [(n, x)] } } else s) :=
    .ite ((Within.upd_hi lhi).mpr (.refl s)) (.refl s)
  unfold State.ringPush
  exact ((a.trans (within_setBytes lmem ..)).trans (within_put h ..)).trans (within_ringWrote lhi ..)

/-- A record pushed is stored to the entry of its ring only. -/
theorem ringPush_byte (s : State) (n : Nat) (x : List Byte) {b : Nat}
    (h : b < s.ringAddr n (s.get (R.HI_RING_PROD n) F.HI_RING_PROD_IDX) ∨
      s.ringAddr n (s.get (R.HI_RING_PROD n) F.HI_RING_PROD_IDX) + x.length ≤ b) : (s.ringPush n x).byte b = s.byte b := by
  have hw (t : State) (n : Nat) : (t.ringWrote n).byte b = t.byte b :=
    State.byte_congr ((within_ringWrote (P := fun _ => True) (L := fun p => p = .hi) rfl t n).parts .mem (by decide)) b
  unfold State.ringPush
  dsimp only
  rw [hw]
  split <;> exact (State.byte_congr rfl b).trans ((State.byte_setBytes_out _ _ _ h).trans (State.byte_congr rfl b))

/-- A completion changes the completing context's books and ring, and no other register. -/
theorem within_complete' {P : Nat → Prop} {L : Part → Prop} {c : Cmd} (h1 : P (R.HI_CTX_STAT c.ctx)) (h2 : P R.HI_INFL_TOTAL)
    (h3 : P (R.HI_RING_PROD (8 + c.ctx))) (h4 : P (R.HI_CMP_LOST_CNT c.ctx)) (lhi : L .hi) (lhy : L .hy) (llastCpl : L .lastCpl)
    (lmarks : L .marks) (lmem : L .mem) (s : State) (st d r : Nat) : Within P L s (s.complete c st d r) := by
  refine Within.trans ?_ (within_retireCmd' h1 h2 lhy _)
  unfold State.postCpl
  dsimp only
  split
  · exact ((Within.upd_lastCpl llastCpl).mpr (.refl s)).trans (within_count lmarks h4)
  · split
    · exact ((Within.upd_lastCpl llastCpl).mpr (.refl s)).trans (within_ringPush' h3 lhi lmem ..)
    · exact (Within.upd_lastCpl llastCpl).mpr (.refl s)

/-- A completion stores to the entry of its ring only (R433, R438). -/
theorem complete_byte (s : State) (c : Cmd) (st d r : Nat) {b : Nat} (h : ¬CplSlot s c.ctx b) :
    (s.complete c st d r).byte b = s.byte b := by
  have hr (t : State) : (t.retireCmd c).byte b = t.byte b :=
    State.byte_congr ((within_retireCmd' (P := fun _ => True) (L := fun p => p = .hy) trivial trivial rfl t).parts .mem (by decide)) b
  have hc (t : State) (a : Nat) : (t.count a).byte b = t.byte b :=
    State.byte_congr ((within_count (P := fun _ => True) (L := fun p => p = .marks) rfl (s := t) (a := a) trivial).parts .mem (by decide)) b
  unfold State.complete
  rw [hr]
  unfold State.postCpl
  dsimp only
  split
  · exact hc _ _
  · split
    · refine (ringPush_byte _ _ _ ?_).trans (State.byte_congr rfl b)
      rw [cplBytes_length]
      exact (Nat.lt_or_ge b _).elim .inl (fun e1 => (Nat.lt_or_ge b _).elim (fun e2 => absurd ⟨e1, e2⟩ h) .inr)
    · rfl

/-- What a completion answers, and that the command is no longer in flight (R438, R439). -/
theorem complete_answers (s : State) (c : Cmd) (st d r : Nat) : Answers c (s.complete c st d r) st d r := by
  have hl : (s.complete c st d r).lastCpl = some ⟨c.ctx, c.tag.toNat, c.opcode.toNat, st, d, BitVec.ofNat 128 r⟩ := by
    have h1 (t : State) : (t.retireCmd c).lastCpl = t.lastCpl :=
      (within_retireCmd' (P := fun _ => True) (L := fun p => p = .hy) trivial trivial rfl t).parts .lastCpl (by decide)
    have h2 (t : State) (n : Nat) (x : List Byte) : (t.ringPush n x).lastCpl = t.lastCpl :=
      (within_ringPush (P := fun _ => True) (L := fun p => p ≠ .lastCpl) (fun _ => trivial) (by decide) (by decide) t n x).parts .lastCpl
        (by decide)
    have h3 (t : State) (a : Nat) : (t.count a).lastCpl = t.lastCpl :=
      (within_count (P := fun _ => True) (L := fun p => p = .marks) rfl (s := t) (a := a) trivial).parts .lastCpl (by decide)
    unfold State.complete
    rw [h1]
    unfold State.postCpl
    dsimp only
    split
    · rw [h3]
    · split
      · rw [h2]
      · rfl
  refine ⟨hl, ?_⟩
  have hi (t : State) : ∀ e ∈ (t.retireCmd c).hy.inflight, ¬(e.1.ctx = c.ctx ∧ e.1.tag = c.tag) := by
    have hf (u : State) : (u.inflFall c.ctx).hy.inflight = u.hy.inflight := by
      unfold State.inflFall
      split
      · rfl
      · dsimp only
        split <;> rfl
    unfold State.retireCmd
    split
    · rw [hf]
      intro e he hx
      have he : e ∈ t.hy.inflight.filter (fun e => !(e.1.ctx = c.ctx && e.1.tag = c.tag)) := he
      have hk := (List.mem_filter.mp he).2
      simp [hx.1, hx.2] at hk
    · rename_i h
      intro e he hx
      exact h (List.any_eq_true.mpr ⟨e, he, by simp [hx.1, hx.2]⟩)
  exact hi _

/-- A refused command is refused and nothing more. -/
theorem complete_refused (s : State) (c : Cmd) (st d : Nat) : Refused c s (s.complete c st d 0) st d :=
  ⟨complete_answers s c st d 0,
    within_complete' (.inl rfl) (.inr (.inl rfl)) (.inr (.inr (.inl rfl))) (.inr (.inr (.inr rfl))) (by decide) (by decide) (by decide)
      (by decide) (by decide) s st d 0,
    fun _ h => complete_byte s c st d 0 h⟩

end Sys2Proof.Machine
end

