-- ==== Sys2Proof/WellFormed.lean ====
section
/-! DEFINITION. Which commands are well formed: what their operand types do not say already. -/

namespace Sys2Proof

/-- A stream descriptor in the form R285 gives: 64-byte-aligned, rows of 64 bytes to 64 KiB, 1 to 4,096 of them. -/
def streamOk (d : StreamDesc) : Bool :=
  d.loc.toNat % 64 = 0 && d.remote.toNat % 64 = 0 && d.locStride.toNat % 64 = 0 && d.remStride.toNat % 64 = 0 &&
    d.row % 64 = 0 && decide (64 ≤ d.row) && decide (d.row ≤ 65536) && decide (1 ≤ d.rows) && decide (d.rows ≤ 4096)

/-- What slot 0 of a bundle carries is well formed. -/
def Op0.wf (o : Op0) : Bool :=
  match o with
  | .start _ d => streamOk d
  | _ => true

open Sys2Proof.Machine in
/-- A command is well formed. -/
def Instr.wf (i : Instr) : Bool :=
  match i with
  | .suppliesInRange => true
  | .supplyLoss _ => true
  | .porstNAssert => true
  | .porstNRelease => true
  | .warmResetHoldEnd => true
  | .bistComplete _ _ _ _ => true
  | .bootRomDone _ _ _ => true
  | .referencePllLock => true
  | .dramTrainingDone _ _ _ _ size _ => decide (2 ≤ size.toNat) && decide (size.toNat ≤ 16)
  | .mainImageVerified _ => true
  | .hiBootGo _ _ _ => true
  | .firmwareWatchdogExpiry => true
  | .fatalFirmwareFault => true
  | .modeTransitionComplete => true
  | .radioRampDownDone => true
  | .thermalShutdown _ _ => true
  | .thermalHoldEntry => true
  | .pmHoldClear _ => true
  | .pmWake _ => true
  | .frostTimerExpiry => true
  | .frostBlockAnswer => true
  | .frostAnswerTimeout => true
  | .frostEntryDone => true
  | .domainReady _ => true
  | .domainReadyTimeout => true
  | .thawComplete => true
  | .gustStepGrant => true
  | .perstAssert _ => true
  | .perstRelease _ => true
  | .pcieLinkUp _ => true
  | .pcieLinkDown _ => true
  | .ctxHoldExpiry _ => true
  | .inbandSilenceTimeout _ => true
  | .tapReset => true
  | .pmbusRetry _ => true
  | .registerWrite _ _ _ => true
  | .counterClear _ _ _ => true
  | .reg64LowRead _ _ => true
  | .forecastCommit _ => true
  | .stagedEntryCommit => true
  | .dlSym _ => true
  | .ulSym _ => true
  | .guard _ => true
  | .chan _ => true
  | .auxTune _ => true
  | .gain _ => true
  | .dpdSwap _ => true
  | .cfirSwap _ => true
  | .wpage _ => true
  | .srsCap _ => true
  | .obsCap _ => true
  | .calBorrow _ => true
  | .arm _ => true
  | .disarm _ => true
  | .dfeSync _ => true
  | .mark _ => true
  | .entryRetire _ => true
  | .tlSfnLoad _ => true
  | .tlCtrlAlign => true
  | .frameAlignEdge => true
  | .frameBoundary _ => true
  | .pipelineStageStart _ _ _ _ => true
  | .stageDeadline _ _ _ => true
  | .lockCheck _ _ => true
  | .symbolStart _ _ => true
  | .symbolEnd _ _ => true
  | .disarmGapExpiry _ _ => true
  | .pathArmStep => true
  | .pathDisarmStep => true
  | .borrowIntervalExpiry kind => decide (2 ≤ kind.val)
  | .synCalDone _ us _ => decide (us.toNat ≤ 250)
  | .synCalTimeout _ => true
  | .synLockLoss _ => true
  | .tddPinRise _ _ => true
  | .tddPinFall _ _ => true
  | .pabiasRampStart _ => true
  | .pabiasChargeTrip _ => true
  | .guardPeakClip _ _ _ => true
  | .guardRmsMute _ _ => true
  | .guardMuteEnd _ => true
  | .guardDutyLimit _ => true
  | .rffeListStart _ _ => true
  | .rffeListEnd _ => true
  | .foregroundCalDone _ => true
  | .dacTrimDone _ => true
  | .rotSettleEnd _ => true
  | .rotOfflineEnd _ _ _ => true
  | .rotShadowStart _ => true
  | .rotShadowEnd _ _ _ _ _ _ _ _ => true
  | .sliceHandover _ _ _ _ _ => true
  | .rxqStatsDone _ _ _ => true
  | .rxqCorrectionApply _ => true
  | .txqCalStepDone _ _ _ _ _ _ _ => true
  | .txqValuesApply _ => true
  | .orxCalStepDone _ _ _ _ _ => true
  | .acalStepDone _ _ => true
  | .acalSolveDone _ _ _ _ _ _ => true
  | .acalResultWrite => true
  | .dpdLoaderStart _ _ _ => true
  | .dpdLoaderDone => true
  | .obsCaptureEnd _ _ => true
  | .captureDrainEnd _ => true
  | .dpdTrainJobEnd _ _ _ _ _ _ _ => true
  | .bfRegionPub _ => true
  | .drainingPageFree _ => true
  | .weightWrite _ _ _ => true
  | .srsCaptureDone _ _ => true
  | .recipJobEnd _ _ _ => true
  | .regionScrubStart _ => true
  | .regionScrubDone _ => true
  | .shrinkScrubDone _ => true
  | .bundleIssue _ o0 _ _ _ _ _ => o0.wf
  | .barrierRelease _ => true
  | .mailboxWaitRelease _ => true
  | .streamDescriptorDone _ _ => true
  | .controlStepDone _ => true
  | .jobRegister => true
  | .jobDispatch _ => true
  | .nvcWatchdogExpiry _ => true
  | .corePause _ => true
  | .coreResume _ => true
  | .coreRevokeScrubDone _ => true
  | .nvcCntWrap _ _ _ => true
  | .losDeclared _ => true
  | .signalPresent _ => true
  | .cdrLock _ _ _ => true
  | .cdrLockLoss _ => true
  | .blockLockGained _ => true
  | .blockLockLost _ _ => true
  | .huntWindowExpiry _ => true
  | .huntStart _ => true
  | .alignmentMarkerLock _ => true
  | .galeSyncBlock _ _ => true
  | .galeAlignBlock _ _ _ => true
  | .galeSomBlock _ _ => true
  | .galeDataBlock _ _ => true
  | .galeIdleBlock _ _ => true
  | .galeAbortBlock _ _ => true
  | .galeSyncSend _ => true
  | .galeAlignSend _ => true
  | .fecCodeword _ _ => true
  | .highBer _ => true
  | .lanePllUnlock _ => true
  | .ctleLimitTimeout _ _ => true
  | .lanePowerExitDone _ => true
  | .groupChangeApply _ => true
  | .patternSync _ => true
  | .patternSyncLoss _ _ _ => true
  | .lnCntWrap _ _ => true
  | .lnPatStatClr _ => true
  | .ethernetFrame _ _ => true
  | .uPlaneMessage _ _ => true
  | .cPlaneMessage _ _ => true
  | .delayRequest _ _ _ => true
  | .remoteDelayRequest _ _ => true
  | .delayResponse _ _ _ _ => true
  | .ptpMessage _ _ _ => true
  | .esmcFrame _ _ => true
  | .arpOrNdFrame _ _ => true
  | .otherIpFrame _ => true
  | .hardLaunch _ _ _ _ => true
  | .egressFrameStart _ => true
  | .firmLaunchExpiry _ _ _ => true
  | .hardLaunchExpiry _ _ _ => true
  | .fhCntWrap _ _ => true
  | .tsCtrlStep => true
  | .tsCtrlSel _ => true
  | .tsDomOfsWrite _ _ => true
  | .servoUpdate _ => true
  | .incRecompute => true
  | .holdoverTimeout _ => true
  | .secondEdge => true
  | .ppsOutRise => true
  | .ppsOutFall => true
  | .ppsInEdge _ => true
  | .ppsInTimeout => true
  | .synceGateEnd _ => true
  | .refclkLoss => true
  | .refclkReturn => true
  | .esmcSend => true
  | .ringProdWrite _ _ _ => true
  | .ringConsWrite _ _ _ => true
  | .ringDataWrite _ _ _ => true
  | .ringDataRead _ _ => true
  | .ringEnable _ _ _ => true
  | .commandConsume _ => true
  | .eventRecordWrite => true
  | .msixItimeExpiry _ => true
  | .debugWindowRead _ _ _ => true
  | .debugWindowWrite _ _ _ _ => true
  | .spiTransaction _ => true
  | .inbandFrame _ _ _ _ => true
  | .alertSumClear _ _ _ => true
  | .booksAudit => true
  | .uartRxCharacter _ => true
  | .uartRxdRead => true
  | .i2cTransferDone _ _ => true
  | .i2cRxdRead => true
  | .gpioTriggerEdge _ => true
  | .sysInfo c => cmdForm 0x0101 c
  | .sysSetMode c => cmdForm 0x0102 c
  | .sysReset c => cmdForm 0x0103 c
  | .sysEcho c => cmdForm 0x0104 c
  | .sysSerial c => cmdForm 0x0105 c
  | .sysGpio c => cmdForm 0x0106 c
  | .sysI2c c => cmdForm 0x0107 c
  | .leaseGrant c => cmdForm 0x0201 c
  | .leaseRevoke c => cmdForm 0x0202 c
  | .leaseRelease c => cmdForm 0x0203 c
  | .leaseQuery c => cmdForm 0x0204 c
  | .leaseTakeMode c => cmdForm 0x0205 c
  | .carConfig c => cmdForm 0x0301 c
  | .carChain c => cmdForm 0x0302 c
  | .carCfir c => cmdForm 0x0303 c
  | .carStart c => cmdForm 0x0304 c
  | .carStop c => cmdForm 0x0305 c
  | .flowSet c => cmdForm 0x0306 c
  | .flowRead c => cmdForm 0x0307 c
  | .portSet c => cmdForm 0x0308 c
  | .fcEntry c => cmdForm 0x0501 c
  | .fcBatch c => cmdForm 0x0502 c
  | .fcCancel c => cmdForm 0x0503 c
  | .fcStatus c => cmdForm 0x0504 c
  | .beamRegionSet c => cmdForm 0x0401 c
  | .beamLoad c => cmdForm 0x0402 c
  | .beamRead c => cmdForm 0x0403 c
  | .beamRecipSet c => cmdForm 0x0404 c
  | .calInterval c => cmdForm 0x0601 c
  | .calRotSet c => cmdForm 0x0602 c
  | .calSweep c => cmdForm 0x0603 c
  | .acalRefRecord c => cmdForm 0x0604 c
  | .acalRefLock c => cmdForm 0x0605 c
  | .calStatus c => cmdForm 0x0606 c
  | .dpdConfig c => cmdForm 0x0701 c
  | .dpdNbr c => cmdForm 0x0702 c
  | .dpdTrain c => cmdForm 0x0703 c
  | .dpdCoef c => cmdForm 0x0704 c
  | .dpdResume c => cmdForm 0x0705 c
  | .cfrConfig c => cmdForm 0x0706 c
  | .capGet c => cmdForm 0x0801 c
  | .capFree c => cmdForm 0x0802 c
  | .fePabias c => cmdForm 0x0901 c
  | .feTdd c => cmdForm 0x0902 c
  | .feFaultClear c => cmdForm 0x0903 c
  | .rffeAccess c _ _ _ => cmdForm 0x0904 c
  | .rffeList c _ => cmdForm 0x0905 c
  | .laneGroupSet c => cmdForm 0x0A01 c
  | .laneEq c => cmdForm 0x0A02 c
  | .lanePower c => cmdForm 0x0A03 c
  | .laneTest c _ => cmdForm 0x0A04 c
  | .laneStatus c _ _ => cmdForm 0x0A05 c
  | .timeDomainSet c => cmdForm 0x0B01 c
  | .timeSelect c => cmdForm 0x0B02 c
  | .timePps c => cmdForm 0x0B03 c
  | .timeFrame c => cmdForm 0x0B04 c
  | .timeSynce c => cmdForm 0x0B05 c
  | .timeGet c => cmdForm 0x0B06 c
  | .timeDelay c => cmdForm 0x0B07 c
  | .timePtpStats c => cmdForm 0x0B08 c
  | .pwrFrost c => cmdForm 0x0C01 c
  | .pwrGust c => cmdForm 0x0C02 c
  | .pwrStatus c => cmdForm 0x0C03 c
  | .monHkSeq c => cmdForm 0x0D01 c
  | .monHkCal c => cmdForm 0x0D02 c
  | .monHkRead c => cmdForm 0x0D03 c
  | .monTemp c => cmdForm 0x0D04 c
  | .monWear c => cmdForm 0x0D05 c
  | .monHarvest c => cmdForm 0x0D06 c
  | .monJournalRead c => cmdForm 0x0D07 c
  | .regSet c => cmdForm 0x0E01 c
  | .regLock c => cmdForm 0x0E02 c
  | .regStatus c => cmdForm 0x0E03 c
  | .fwUpdateBegin c => cmdForm 0x0F01 c
  | .fwUpdateWrite c _ => cmdForm 0x0F02 c
  | .fwUpdateCommit c _ => cmdForm 0x0F03 c
  | .fwUpdateAbort c => cmdForm 0x0F04 c
  | .cfgRecord c => cmdForm 0x0F05 c
  | .kernelLoad c => cmdForm 0x1001 c
  | .kernelStart c => cmdForm 0x1002 c
  | .kernelStop c => cmdForm 0x1003 c
  | .kernelMbx c => cmdForm 0x1004 c
  | .kernelStatus c => cmdForm 0x1005 c
  | .refreshDue _ _ => true
  | .refreshIssue _ => true
  | .rtBurstGrant _ _ => true
  | .portPieceGrant _ _ _ => true
  | .dqsGatherStart _ => true
  | .dqsGatherEnd _ _ _ => true
  | .setpointChange _ => true
  | .setpointChangeDone => true
  | .mcCntWrap _ _ _ => true
  | .dmaChDoorbell _ _ => true
  | .dmaChannelEnable _ => true
  | .dmaChannelDisable _ => true
  | .dmaChannelReset _ => true
  | .dmaBurstReadStart => true
  | .dmaBurstFilled _ _ => true
  | .dmaBurstWrite _ => true
  | .dmaDescriptorComplete _ => true
  | .dmaRequestAssert _ => true
  | .dmaCntWrap _ _ => true
  | .hkTimerExpiry _ => true
  | .hkStartupDone => true
  | .hkConversionDone _ => true
  | .hkFifoRdPop _ => true
  | .tempSample _ _ => true
  | .tempEvaluate => true
  | .throttleStep => true
  | .wearReport _ _ _ => true
  | .marginPlannerRun _ => true
  | .harvestSnapshot => true
  | .journalWriteStart _ _ => true
  | .journalRecordDone _ => true
  | .lanePllLock _ => true
  | .blockScrubDone _ _ => true
  | .gustCapApply => true
  | .refreshRateChange _ _ => true
  | .pabiasRampEnd _ => true

end Sys2Proof
end

