-- ==== Sys2Proof/Tests/Slice0.lean ====
section
/-! SUPPORT. The model's own tests: ill-formed commands refused, values of the spec's own tables, facts of reset, and for every statement
with hypotheses a witness that meets those of each clause. -/

namespace Sys2Proof.Tests

open Sys2Proof Sys2Proof.Machine

set_option maxRecDepth 8000
set_option exponentiation.threshold 512
set_option linter.unusedVariables false

/-! ### States and commands to test with -/

/-- Reset, with the current mode set. -/
def inMode (m : Mode) : State := State.reset.put R.PM_MODE F.PM_MODE_CUR (modeCode m)
/-- A command of context 0 with the tag 1. -/
def aCmd : Cmd := ⟨0, 0, 1, false, 0⟩
/-- A command of context 0 with an opcode and parameters. -/
def cmdOf (op : BitVec 16) (params : BitVec 448) : Cmd := ⟨0, op, 1, false, params⟩
/-- A request for Frost that every trigger ends. -/
def frostReq : FrostReq := ⟨0, false, 0, 15, 0, 0, false⟩
/-- The mode, with the forecast core running, every tick on, and one entry pending in slot 5 whose words are given. -/
def pendOne (m : Mode) (w : List Word) : State :=
  let s := (inMode m).putSlot 5 w
  { (s.setFlag R.TL_CTRL F.TL_CTRL_RUN true).put R.TL_CTRL F.TL_CTRL_NUM_EN 15 with tl := { s.tl with pend := [5] } }
/-- The frame counter at a cycle of its frame. -/
def atCyc (s : State) (n : Nat) : State := { s with tl := { s.tl with cyc := n } }
/-- Context 0 also holds a resource. -/
def holding (s : State) (res idx : Nat) : State := { s with hy := { s.hy with leases := ⟨res, idx, 0, idx⟩ :: s.hy.leases } }
/-- A symbol of slot 5 on path 0, downlink or uplink. -/
def aSym (ul : Bool) : Sym :=
  { slot := 5, k := 0, start := 40960, stamp := 0x200000, ul := ul, ctx := 0, car := 1, pmask := 1, okQ := [0], lateQ := [],
    blank := false, absent := false, active := false, stage := if ul then 3 else 0 }
/-- One symbol is scheduled. -/
def withSym (s : State) (y : Sym) : State := { s with tl := { s.tl with syms := [y] } }
/-- The same symbol before its lock check. -/
def newSym (ul : Bool) : Sym := { aSym ul with okQ := [] }
/-- One symbol is scheduled, every tick is on, and the frame stands at a cycle. -/
def symIn (m : Mode) (y : Sym) (n : Nat) : State :=
  atCyc (withSym (((inMode m).setFlag R.TL_CTRL F.TL_CTRL_RUN true).put R.TL_CTRL F.TL_CTRL_NUM_EN 15) y) n
/-- A downlink symbol starts within a turn-round of the uplink before it. -/
def turning : State :=
  let s := symIn .tdd (newSym false) 40900
  { s with now := 40900, tl := { s.tl with endUl := [some 40900] } }
/-- A symbol whose stage may start now. -/
def stageIn (stage : Nat) (y : Sym) : State :=
  let s := symIn .tdd y 0
  { s with tl := { s.tl with sfn := 1023, cyc := (4915200 + (s.stageWin y stage).1).toNat } }
/-- One arming step of path 0 is due. -/
def arming : State :=
  let s := (inMode .tdd).put64 R.RF_PATH_AVAIL 3
  { s with tl := { s.tl with plan := [⟨true, 0, 0, 0⟩] } }
/-- A slice whose values lie within every limit. -/
def goodSlice : SliceCal := ⟨0, 0, 0x8000, 0, 0, 0⟩
/-- A SHADOW phase that passes the gate. -/
def goodShadow : Shadow := ⟨goodSlice, 0, 0, 0, 0, 0, 0⟩
/-- A capture of path 0 in ring slot 0. -/
def aCap : Cap :=
  { slot := 5, path := 0, stamp := 0, tag := 7, n := 2, dly := 0, att := 0, flags := 0, bank := 0, freq := 3500000, nbr := 0, ctx := 0,
    ringSlot := 0, host := false, data := [], drained := 0 }
/-- Job 9 of a kind, running on no core. -/
def aJob (kind st : Nat) : NvJob := ⟨9, kind, [10, 1, 2, 0, 0], 1, 2, 0, 0, 0, st⟩
/-- One core runs. -/
def running (c : Nat) : State := (inMode .standby).put (R.NVC_CORE_STAT c) F.NVC_CORE_STAT_STATE 2
/-- Lane 0 in a receive state, its group with a personality, its LINK bit set. -/
def laneIn (pers rx : Nat) : State :=
  ((State.reset.put (R.LN_STATE 0) F.LN_STATE_RX rx).put (R.LN_GROUP_CFG 0) F.LN_GROUP_CFG_PERS pers).setFlag (R.LN_GROUP_STAT 0)
    F.LN_GROUP_STAT_LINK true
/-- A Gale lane that has loaded a SYNC block; its descrambler is at rest. -/
def galeIn (rx : Nat) : State := (laneIn 3 rx).setLane 0 { loaded := true, lfsr := 0 }
/-- The line bits of a Gale block. -/
def galeLine (hdr payload : Nat) : List Bool := (List.range 2).map hdr.testBit ++ (List.range 128).map payload.testBit
/-- The block those bits make in a state. -/
def blockIn (s : State) (hdr payload : Nat) : GaleBlock := (s.galeBlock 0 (galeLine hdr payload)).2.getD ⟨0, 0, 0, 0⟩
/-- The payload of a SYNC block for an LFSR state. -/
def syncPay (v : Nat) : Nat :=
  0x2D + 2 ^ 8 * v + 2 ^ 72 * crc8 ((List.range 8).map (fun i => v / 2 ^ (8 * i) % 256)) + 2 ^ 80 * 0x555555555555
/-- A payload of type 0x55-filled bytes with a given first byte. -/
def padPay (b0 : Nat) : Nat := b0 + 2 ^ 8 * 0x555555555555555555555555555555
/-- Port 0 with a role; VLAN-untagged frames are taken and the MTU is 1,500. -/
def portAt (role : Nat) : State :=
  (((inMode .tdd).put (R.FH_PORT_CFG 0) F.FH_PORT_CFG_ROLE role).setFlag (R.FH_PORT_CFG 0) F.FH_PORT_CFG_UNTAG true).put
    (R.FH_PORT_CFG 0) F.FH_PORT_CFG_MTU 1500
/-- A broadcast frame of a kind. -/
def frameOf (k : FrameKind) (bad : Bool) : EthFrame := ⟨BitVec.allOnes 48, [], 0x800, 100, bad, k, 0⟩
/-- A frame of a kind waits in port 0's ingress buffer. -/
def rxHas (k : FrameKind) (cls : Nat) : State :=
  { portAt 1 with fh := { (portAt 1).fh with rx := [⟨0, cls, 100, k⟩] } }
/-- A frame waits for egress on port 0, whose link is up. -/
def txHas (f : TxFrame) : State :=
  { (portAt 1).setFlag (R.LN_GROUP_STAT 0) F.LN_GROUP_STAT_LINK true with fh := { (portAt 1).fh with tx := [f] } }
/-- An uplink message of slot 5, symbol 0. -/
def ulFrame (cls : Nat) : TxFrame := ⟨0, cls, 100, .uplink 0 1 0 1 5 0 0x200000 []⟩
/-- Flow 0 of a direction is enabled on running carrier 0, which context 0 holds. -/
def flowAt (ul : Bool) : State :=
  let s := holding (portAt 1) 2 0
  let s := ((s.setFlag (R.FH_FLOW 0 0) F.FH_FLOW_EN true).setFlag (R.FH_FLOW 0 0) F.FH_FLOW_DIR ul).put (R.FH_FLOW 0 1) F.FH_FLOW_PORTS 1
  (s.put (R.FH_SECT_QUOTA 0) F.FH_SECT_QUOTA_QUOTA 4).setFlag (R.DFE_CAR_CFG 0) F.DFE_CAR_CFG_RUN true
/-- A C-plane section and a U-plane section of section ID 1, PRB 0. -/
def aCSect : CSection := ⟨1, 0, 1, 1, false, 0xFFF, 0, []⟩
def aUSect : USection := ⟨1, 0, 1, false, false, none, List.replicate 48 1⟩
/-- Messages of flow 0 for symbol 5. -/
def aCMsg : CMsg := ⟨0, 0, 1, false, 0xA0000, 1, 0, (0, 0, false), 0, 0, [aCSect]⟩
def aUMsg : UMsg := ⟨0, 0, 1, false, 0, 0xA0000, 0, 0, .sections [aUSect]⟩
/-- The section that `aCMsg` leaves. -/
def aSect : Sect := ⟨0, 0, false, 0, 1, 5, 1, [(0, 1)], 0⟩
/-- Context 0 is bound to PCIe function A and attached, with the mode lease and a quota; 4 GiB of DRAM are installed. -/
def hostAt : State :=
  let s := (((inMode .standby).setFlag R.PM_MODE F.PM_MODE_BUSY false).setFlag (R.HI_CTX_BIND 0) F.HI_CTX_BIND_BOUND true).put (R.HI_CTX_STAT 0) F.HI_CTX_STAT_STATE 1
  ((s.put (R.HI_CTX_STAT 0) F.HI_CTX_STAT_QUOTA 8).put R.MC_STATUS F.MC_STATUS_SIZE 4).wr R.HI_MODE_LEASE 0
/-- A ring of 16 entries in device DRAM runs. -/
def ringOn (s : State) (r : Nat) : State :=
  let s := ((s.setFlag (R.HI_RING_CFG r) F.HI_RING_CFG_EN true).put (R.HI_RING_CFG r) F.HI_RING_CFG_SIZE 4).setFlag (R.HI_RING_CFG r)
    F.HI_RING_CFG_LOC true
  (s.put (R.HI_RING_STAT r) F.HI_RING_STAT_STATE 1).put64 (R.HI_RING_BASE r) (dramBase + 0x1000 * r)
/-- Context 0 has one command of an opcode in its command ring, and its completion ring runs. -/
def cmdIn (op : Nat) : State :=
  ((ringOn (ringOn hostAt 0) 8).setBytes dramBase (leBytes 2 op)).put (R.HI_RING_PROD 0) F.HI_RING_PROD_IDX 1
/-- A job of context 0 that waits. -/
def aWait (u : Until) : Job := ⟨aCmd, u, [], []⟩
/-- DRAM of 4 GiB is trained and out of self-refresh. -/
def dramAt : State := (hostAt.put R.MC_STATUS F.MC_STATUS_TRAINED 7).setFlag R.MC_STATUS F.MC_STATUS_SELFREF false
/-- A descriptor of channel 0 that moves 256 bytes within DRAM, and a slot that holds its burst. -/
def aDesc (read done err : Nat) : DmaDesc := ⟨0, dramBase + 0x100, dramBase, dramBase + 0x1000, 256, 0x840, 0, read, done, err⟩
def aSlot (st : Nat) (data : List Byte) : DmaSlot := ⟨0, 0, st, dramBase, dramBase + 0x1000, 256, data, 0, 0⟩
/-- Channel 0 runs with descriptors and slots. -/
def dmaAt (ds : List DmaDesc) (xs : List DmaSlot) : State :=
  let s := (((dramAt.setFlag (R.DMA_CH_CFG 0) F.DMA_CH_CFG_EN true).put (R.DMA_CH_CFG 0) F.DMA_CH_CFG_SLOTS 4).setChSt 0 1)
  { s with dma := { s.dma with descs := s.dma.descs.set 0 ds, slots := xs } }
/-- A journal write of record 40. -/
def aJw : JWrite := ⟨40, [1, 2], false, 0, true⟩
/-- The host machine in another mode. -/
def hostIn (m : Mode) : State := hostAt.put R.PM_MODE F.PM_MODE_CUR (modeCode m)
/-- A command of context 0 with parameters: byte offset and value. -/
def cmdWith (op : BitVec 16) (l : List (Nat × Nat)) : Cmd := cmdOf op (BitVec.ofNat 448 (l.foldl (fun n x => n + x.2 * 2 ^ (8 * (x.1 - 8))) 0))
/-- Context 0 holds the first DRAM blocks. -/
def withDram (s : State) : State := holding (holding s 7 0) 7 1
/-- Context 0 holds carrier 0 and quadrant 0. -/
def withCar (s : State) : State := holding (holding s 2 0) 1 0
/-- Context 0 is bound to in-band, with a record of zeros. -/
def inbandAt0 : State := { (hostAt.put (R.HI_CTX_BIND 0) F.HI_CTX_BIND_ATT 2) with hi := { hostAt.hi with inband := [⟨0, 0, 0, 0⟩] } }
/-- It after a frame with counter 0. -/
def inbandTaken : State :=
  let s := inbandAt0.attach 0
  { s with hi := { s.hi with inbandRx := s.hi.inbandRx.set 0 (some 0), inbandAt := s.hi.inbandAt.set 0 s.now } }
/-- A run of equal bytes reads as that byte. -/
theorem run_get (v : Byte) : ∀ (n b k : Nat), b ≤ k → k < b + n → sparseGet unlisted ((List.range' b n).map (fun a => (a, v))) k = v
  | 0, b, k, h, g => by omega
  | n + 1, b, k, h, g => by
    simp only [List.range'_succ, List.map_cons, sparseGet]
    split
    · rfl
    · exact run_get v n (b + 1) k (by omega) (by omega)
/-- With no available path, neighbour lists that hold only 0xFF fit. -/
theorem no_pairs (s : State) (a : Nat) (h : s.get64 R.RF_PATH_AVAIL = 0) (g : ∀ i, i < 512 → s.byte (a + i) = 0xFF) : s.pairsOk a = true := by
  have hn : ∀ p, p < 64 → s.nbrList a p = [] := by
    intro p hp
    simp only [State.nbrList, List.filter_eq_nil_iff, List.mem_map, List.mem_range]
    rintro x ⟨i, hi, rfl⟩
    have := g (8 * p + i) (by omega)
    simp [State.memN, State.bytes, Nat.add_assoc, this, leNum]
  have hp : (List.range 64).map (fun p => (s.nbrList a p).map (fun r => (p, r))) = (List.range 64).map (fun _ => []) :=
    List.map_congr_left (fun p hp => by rw [hn p (List.mem_range.mp hp)]; rfl)
  have ha : (List.range 64).filter s.avail = [] := by simp [State.avail, h]
  simp [State.pairsOk, hp, ha]

/-! ### Ill-formed commands -/

theorem test_wf_dram_size_low : (Instr.dramTrainingDone 7 0 0 0 1 false).wf = false := by decide
theorem test_wf_dram_size_high : (Instr.dramTrainingDone 7 0 0 0 17 false).wf = false := by decide
theorem test_wf_borrow_kind : (Instr.borrowIntervalExpiry 1).wf = false := by decide
theorem test_wf_syn_time : (Instr.synCalDone 0 251 true).wf = false := by decide
theorem test_wf_opcode : (Instr.sysInfo (cmdOf 0x0102 0)).wf = false := by decide
theorem test_wf_reserved_byte : (Instr.sysInfo (cmdWith 0x0101 [(8, 1)])).wf = false := by decide
theorem test_wf_sys_info : (Instr.sysInfo (cmdOf 0x0101 0)).wf = true := by decide

/-! ### Values the spec tabulates -/

/-- R57: at 30 kHz the long symbol and a normal one. -/
theorem test_symbol_lengths : (stLen 0x200000, stLen 0x220000) = (17792, 17536) := by decide
/-- R185: 100 MHz runs at D = 16. -/
theorem test_carrier_rate : logD 100000 = 4 := by decide
/-- R230: at 30 kHz and D = 16 the transform has 4,096 points. -/
theorem test_transform_size : logN 4 1 = 12 := by decide
/-- R115 with R117: a full swing of 2.5 V takes longer than 1.25 µs at the least slew, and not at the greatest. -/
theorem test_ramp : (rampLong 4095 0 1, rampLong 4095 0 255) = (true, false) := by decide
/-- R41: a SYS_SET_MODE to Lane test in a radio mode is refused with BAD_STATE. -/
theorem test_set_mode_refused : (match exec (.sysSetMode (cmdWith 0x0102 [(8, 11)])) (hostIn .tdd) with
    | .next t => t.lastCpl.map (fun k => k.status)
    | _ => none) = some St.badState := by decide
/-- A read of the tick's stop: with an empty queue the time goes on by one cycle. -/
theorem test_idle_step : (match step State.reset with
    | .next t => t.now
    | _ => 0) = State.reset.now + 1 := by decide
/-- The table gives no row bits. -/
theorem test_no_words : decodeTableWord 32 0 = none := rfl

/-! ### Witnesses -/

theorem witness_StepRunsFrontCommand :
    (∃ (s : State) (i : Instr) (rest : List Instr), s.pending = i :: rest) :=
  ⟨{ State.reset with pending := [.mark 0] }, .mark 0, [], by decide⟩

theorem witness_EmptyQueueTicks :
    (∃ (s : State), s.pending = []) :=
  ⟨State.reset, by decide⟩

theorem witness_EveryStepKeepsTables :
    (∃ (s : State) (t : State), s.Canon ∧ step s = .next t) :=
  ⟨State.reset, State.reset.cycle, ⟨⟨rfl, rfl⟩, rfl⟩⟩

theorem witness_EveryStepKeepsSizes :
    (∃ (s : State) (t : State), s.Sized ∧ step s = .next t) :=
  ⟨State.reset, State.reset.cycle, ⟨by unfold State.Sized; decide, rfl⟩⟩

theorem witness_LeadTimesAreReadOnly :
    (∃ (s : State) (t : State), s.LeadsStand ∧ step s = .next t) :=
  ⟨State.reset, State.reset.cycle, ⟨by unfold State.LeadsStand; decide, rfl⟩⟩

theorem witness_WearReport :
    (∃ (s : State) (c : Cmd) (v : Nat) (m : Nat), Ready s c false [] ∧ s.get R.PM_VCORE F.PM_VCORE_MV = v ∧ m ≤ 4095 ∧ (∀ w, w < 24 → m ≤ s.get (R.TH_WEAR w) F.TH_WEAR_SLACK) ∧ (m = 4095 ∨ ∃ w ∈ List.range 24, s.get (R.TH_WEAR w) F.TH_WEAR_SLACK = m)) :=
  ⟨hostAt, cmdWith 0x0D05 [], State.reset.get R.PM_VCORE F.PM_VCORE_MV, State.reset.minSlack, by decide⟩

theorem witness_CommandRefusals :
    (∃ (s : State) (c : Cmd) (i : Instr), i ∈ [.sysSetMode c, .sysReset c, .calInterval c, .calRotSet c, .feTdd c, .laneEq c, .lanePower c, .timeDomainSet c, .timeSelect c, .timePps c, .timeSynce c, .pwrFrost c, .pwrGust c, .monHkSeq c, .monHarvest c, .fwUpdateBegin c] ∧ Ready s c false [] ∧ s.isML c.ctx = false) ∧
    (∃ (s : State) (c : Cmd) (i : Instr) (seen : List (BitVec 48 × BitVec 32)) (good : Bool) (m : Bool) (res : List (Nat × Nat)), (i, m, res) ∈ [(.calSweep c, false, [(101, 0)]), (.acalRefRecord c, false, [(102, 0)]), (.acalRefLock c, true, [(102, 0)]), (.sysI2c c, false, [(100, 0)]), (.laneGroupSet c, true, [(105, arg c 8 1)]), (.laneTest c seen, true, []), (.timeFrame c, true, [(106, 0)]), (.monHkCal c, false, [(108, 0)]), (.regSet c, true, [(107, 0x16)]), (.regLock c, true, [(107, 0x16)]), (.fwUpdateWrite c good, true, []), (.fwUpdateCommit c good, false, [(107, 0x10)]), (.fwUpdateAbort c, false, []), (.cfgRecord c, true, [(107, 0x10 + arg c 8 1)])] ∧ Ready s c m res ∧ s.isML c.ctx = false) ∧
    (∃ (s : State) (c : Cmd) (i : Instr) (seen : List (BitVec 48 × BitVec 32)) (good : Bool) (ok : Bool) (res : List (Nat × Nat)), ((i, ok, res) ∈ [(.acalRefLock c, decide (s.mode = .provisioned), [(102, 0)]), (.regLock c, decide (s.mode = .provisioned), [(107, 0x16)]), (.laneTest c seen, decide (s.mode = .laneTest), []), (.timeFrame c, decide (s.mode = .provisioned ∨ s.mode = .standby), [(106, 0)]), (.laneGroupSet c, decide (s.mode = .provisioned ∨ s.mode = .standby ∨ s.mode = .laneTest), [(105, arg c 8 1)])]) ∧ Ready s c true res ∧ s.isML c.ctx = true ∧ ok = false) ∧
    (∃ (s : State) (c : Cmd) (i : Instr) (good : Bool) (res : List (Nat × Nat)), (i, res) ∈ [(.fwUpdateCommit c good, [(107, 0x10)]), (.fwUpdateAbort c, [])] ∧ Ready s c false res ∧ s.isML c.ctx = true ∧ s.busy = false ∧ s.mode ≠ .update) :=
  ⟨⟨hostAt.setFlag R.HI_MODE_LEASE F.HI_MODE_LEASE_NONE true, aCmd, .pwrGust aCmd, by decide⟩,
   ⟨hostAt.setFlag R.HI_MODE_LEASE F.HI_MODE_LEASE_NONE true, aCmd, .regLock aCmd, [], true, true, [(107, 0x16)], by decide⟩,
   ⟨hostAt, aCmd, .regLock aCmd, [], true, false, [(107, 0x16)], by decide⟩,
   ⟨hostAt, aCmd, .fwUpdateAbort aCmd, true, [], by decide⟩⟩

theorem witness_CommandsStoreOnly :
    (∃ (s : State) (c : Cmd) (fits : Bool) (parity : Bool) (data : BitVec 128) (overlap : Bool) (seen : List (BitVec 48 × BitVec 32)) (bits : BitVec 48) (errs : BitVec 32) (good : Bool) (i : Instr), i ∈ [.sysInfo c, .sysEcho c, .sysSerial c, .sysGpio c, .sysI2c c, .leaseGrant c, .leaseQuery c, .leaseTakeMode c,  .carConfig c, .carChain c, .carCfir c, .carStart c, .carStop c, .flowSet c, .flowRead c, .portSet c, .fcEntry c, .fcBatch c, .fcCancel c, .fcStatus c, .beamRegionSet c, .beamRecipSet c, .calInterval c, .calRotSet c, .calSweep c, .acalRefRecord c, .acalRefLock c, .calStatus c, .dpdConfig c, .dpdNbr c, .dpdTrain c, .dpdResume c, .cfrConfig c, .capFree c, .fePabias c, .feTdd c, .feFaultClear c, .rffeAccess c fits parity data, .rffeList c overlap, .laneEq c, .lanePower c, .laneTest c seen, .laneStatus c bits errs, .timeDomainSet c, .timeSelect c, .timePps c, .timeFrame c, .timeSynce c, .timeGet c, .timeDelay c, .timePtpStats c, .pwrFrost c, .pwrGust c, .pwrStatus c, .monHkSeq c, .monHkCal c, .monHkRead c, .monWear c, .monHarvest c, .regSet c, .regLock c, .regStatus c, .fwUpdateBegin c, .fwUpdateCommit c good, .cfgRecord c, .kernelStart c, .kernelStop c, .kernelMbx c, .kernelStatus c]) :=
  ⟨State.reset, aCmd, true, true, 0, true, [], 0, 0, true, .sysInfo aCmd, by decide⟩

theorem witness_SuppliesResetsAndSelfTest :
    (∃ (s : State), s.mode = .unpowered) ∧
    (∃ (s : State) (rail : Fin 12), s.mode ≠ .unpowered) ∧
    (∃ (s : State), s.mode ≠ .unpowered) ∧
    (∃ (s : State), s.mode = .resetHold ∧ s.pm.powerOn = true ∧ s.pm.rails.all id = true) ∧
    (∃ (s : State), s.mode = .resetHold ∧ s.pm.powerOn = false ∧ s.pm.rails.all id = true ∧ s.aonPast 491520 s.pm.modeAt = true) ∧
    (∃ (s : State) (fail : BitVec 18) (oscRef : Bool), s.mode = .selfTest) ∧
    (∃ (s : State) (fail : BitVec 18) (vout : Bool) (oscout : Bool) (oscRef : Bool), s.mode = .selfTest ∧ (vout || oscout) = true ∧ s.pm.bistRuns = 0) ∧
    (∃ (s : State) (fail : BitVec 18) (vout : Bool) (oscout : Bool) (oscRef : Bool), s.mode = .selfTest ∧ (vout || oscout) = true ∧ s.pm.bistRuns ≠ 0) :=
  ⟨⟨inMode .unpowered, by decide⟩,
   ⟨inMode .boot, 3, by decide⟩,
   ⟨inMode .standby, by decide⟩,
   ⟨inMode .resetHold, by decide⟩,
   ⟨{ inMode .resetHold with pm := { (inMode .resetHold).pm with powerOn := false }, now := 500000 }, by decide⟩,
   ⟨inMode .selfTest, 5, true, by decide⟩,
   ⟨inMode .selfTest, 0, true, true, true, by decide⟩,
   ⟨{ inMode .selfTest with pm := { (inMode .selfTest).pm with bistRuns := 1 } }, 0, true, true, true, by decide⟩⟩

theorem witness_BootStages :
    (∃ (s : State) (active : Bool) (other : Bool) (host : Option Bool), s.mode = .boot ∧ s.get R.HI_BOOT_STAT F.HI_BOOT_STAT_STAGE = 0 ∧ (active || other) = true) ∧
    (∃ (s : State), s.mode = .boot ∧ s.get R.HI_BOOT_STAT F.HI_BOOT_STAT_STAGE = 0) ∧
    (∃ (s : State), s.mode = .boot ∧ 2 ≤ s.get R.HI_BOOT_STAT F.HI_BOOT_STAT_STAGE) ∧
    (∃ (s : State) (trained : BitVec 3) (step0 : Fin 4) (step1 : Fin 4) (step2 : Fin 4) (size : BitVec 5), s.mode = .boot ∧ s.get R.HI_BOOT_STAT F.HI_BOOT_STAT_STAGE = 3 ∧ trained ≠ 0) ∧
    (∃ (s : State) (trained : BitVec 3) (step0 : Fin 4) (step1 : Fin 4) (step2 : Fin 4) (size : BitVec 5), s.mode = .boot ∧ s.get R.HI_BOOT_STAT F.HI_BOOT_STAT_STAGE = 3) ∧
    (∃ (s : State), s.mode = .boot ∧ s.get R.HI_BOOT_STAT F.HI_BOOT_STAT_STAGE = 4) ∧
    (∃ (s : State), s.mode = .boot ∧ s.get R.HI_BOOT_STAT F.HI_BOOT_STAT_STAGE = 4) ∧
    (∃ (s : State) (att : Attachment) (ofs : BitVec 20) (len : BitVec 11), s.mode = .boot ∧ (att = .pcieA ∨ att = .spi) ∧ 1 ≤ len.toNat ∧ len.toNat ≤ 512) ∧
    (∃ (s : State) (att : Attachment) (ofs : BitVec 20) (len : BitVec 11), s.mode = .boot ∧ (att = .pcieA ∨ att = .spi) ∧ (len.toNat = 0 ∨ 512 < len.toNat)) :=
  ⟨⟨inMode .boot, true, true, none, by decide⟩,
   ⟨inMode .boot, by decide⟩,
   ⟨(inMode .boot).put R.HI_BOOT_STAT F.HI_BOOT_STAT_STAGE 2, by decide⟩,
   ⟨(inMode .boot).put R.HI_BOOT_STAT F.HI_BOOT_STAT_STAGE 3, 6, 0, 0, 0, 8, by decide⟩,
   ⟨(inMode .boot).put R.HI_BOOT_STAT F.HI_BOOT_STAT_STAGE 3, 7, 0, 0, 0, 8, by decide⟩,
   ⟨(inMode .boot).put R.HI_BOOT_STAT F.HI_BOOT_STAT_STAGE 4, by decide⟩,
   ⟨(inMode .boot).put R.HI_BOOT_STAT F.HI_BOOT_STAT_STAGE 4, by decide⟩,
   ⟨inMode .boot, .pcieA, 0, 3, by decide⟩,
   ⟨inMode .boot, .pcieA, 0, 0, by decide⟩⟩

theorem witness_WarmResetsAndThermal :
    (∃ (s : State), ((fwRuns s.mode && decide (s.mode ≠ .update)) = true ∨ s.mode = .boot) ∧ s.pm.resetTo = none ∧ s.pm.shut = none ∧ (isRadio s.mode = false ∨ s.allOff = true)) ∧
    (∃ (s : State), s.fwMayFail = true ∧ (isRadio s.mode = false ∨ s.allOff = true)) ∧
    (∃ (s : State), (fwRuns s.mode && decide (s.mode ≠ .update)) = true ∧ s.pm.resetTo = none ∧ s.pm.shut = none ∧ isRadio s.mode = true ∧ s.allOff = false) ∧
    (∃ (s : State), s.pm.resetTo = some 3 ∧ s.pm.rampOn = true ∧ s.pm.shut = none ∧ isRadio s.mode = true ∧ s.allOff = true ∧ s.rf.dacRamp = []) ∧
    (∃ (s : State) (sensor : Fin 48) (x : BitVec 16), 12000 ≤ x.toInt ∧ s.suspect sensor = false ∧ s.pm.shut = none ∧ s.mode ≠ .unpowered ∧ s.mode ≠ .resetHold ∧ s.mode ≠ .thermalHold) ∧
    (∃ (s : State), s.pm.shut.isSome = true) ∧
    (∃ (s : State), s.mode = .thermalHold ∧ s.aonCool = true) ∧
    (∃ (s : State) (v : Word), (v ≠ 0xC1EA ∨ s.mode ≠ .thermalHold ∨ s.aonCool = false)) :=
  ⟨⟨inMode .standby, by decide⟩,
   ⟨inMode .standby, by decide⟩,
   ⟨(inMode .tdd).setTx 0 Ps.armed, by decide⟩,
   ⟨{ inMode .tdd with pm := { (inMode .tdd).pm with resetTo := some 3, rampOn := true } }, by decide⟩,
   ⟨inMode .tdd, 7, 12001, by decide⟩,
   ⟨{ inMode .tdd with pm := { (inMode .tdd).pm with shut := some 3 } }, by decide⟩,
   ⟨inMode .thermalHold, by decide⟩,
   ⟨State.reset, 1, by decide⟩⟩

theorem witness_ModeTransitions :
    (∃ (s : State) (m : Mode), s.busy = true ∧ modeOf? (s.get R.PM_MODE F.PM_MODE_TGT) = some m ∧ fwRuns s.mode = true ∧ fwRuns m = true ∧ s.pm.ramp = false ∧ s.pm.frost = none ∧ s.pm.thaw = false ∧ s.pm.shut = none ∧ s.pm.resetTo = none ∧ ((s.mode = .provisioned → m = .standby → s.synBusy = false ∧ s.cv.fgDone = true ∧ s.cv.dacDone = true))) ∧
    (∃ (s : State), s.busy = true ∧ s.pm.ramp = true ∧ isRadio s.mode = true ∧ s.pm.rampOn = true ∧ s.allOff = true ∧ s.rf.dacRamp = [] ∧ s.pm.shut = none ∧ s.pm.resetTo = none) ∧
    (∃ (s : State) (f : FrostReq), s.pm.frost = some f ∧ f.agreed = false ∧ f.answered < 11 ∧ (s.frostAgrees (nth frostOrder f.answered 0)).1 = true) ∧
    (∃ (s : State) (f : FrostReq), s.pm.frost = some f ∧ f.agreed = false ∧ f.answered = 11 ∧ (s.frostAgrees 9).1 = true) ∧
    (∃ (s : State) (f : FrostReq), s.pm.frost = some f ∧ f.agreed = false ∧ f.answered < 12 ∧ (s.frostAgrees (nth frostOrder f.answered 0)).1 = false) ∧
    (∃ (s : State) (f : FrostReq), s.pm.frost = some f ∧ f.agreed = false ∧ f.answered < 12 ∧ s.aonPast 98304 s.pm.askAt = true) ∧
    (∃ (s : State) (f : FrostReq), s.pm.frost = some f ∧ f.agreed = true ∧ f.latched = false ∧ s.pm.dom = none ∧ s.nextDown = none ∧ s.mode ≠ .frost) :=
  ⟨⟨((inMode .standby).put R.PM_MODE F.PM_MODE_TGT 7).put R.PM_MODE F.PM_MODE_BUSY 1, .tdd, by decide⟩,
   ⟨{ (inMode .tdd).put R.PM_MODE F.PM_MODE_BUSY 1 with pm := { (inMode .tdd).pm with ramp := true, rampOn := true } }, by decide⟩,
   ⟨{ inMode .standby with pm := { (inMode .standby).pm with frost := some frostReq } }, frostReq, by decide⟩,
   ⟨{ inMode .standby with pm := { (inMode .standby).pm with frost := some { frostReq with answered := 11 } } }, { frostReq with answered := 11 }, by decide⟩,
   ⟨{ inMode .standby with pm := { (inMode .standby).pm with frost := some { frostReq with answered := 11 } }, mc := { (inMode .standby).mc with target := some 1 } }, { frostReq with answered := 11 }, by decide⟩,
   ⟨{ inMode .standby with pm := { (inMode .standby).pm with frost := some frostReq }, now := 100000 }, frostReq, by decide⟩,
   ⟨{ (inMode .standby).put R.PM_DOM_STAT F.PM_DOM_STAT_ON 1 with pm := { (inMode .standby).pm with frost := some { frostReq with agreed := true } } }, { frostReq with agreed := true }, by decide⟩⟩

theorem witness_ThawAndDomains :
    (∃ (s : State) (f : FrostReq) (v : Word), s.pm.frost = some f ∧ f.trig.testBit 0 = true ∧ v.toNat % 2 = 1 ∧ s.mode = .frost ∧ s.pm.thaw = false) ∧
    (∃ (s : State) (f : FrostReq) (v : Word), s.pm.frost = some f ∧ f.trig.testBit 0 = true ∧ v.toNat % 2 = 1 ∧ s.mode ≠ .frost) ∧
    (∃ (s : State) (f : FrostReq), s.pm.frost = some f ∧ f.trig.testBit 3 = true ∧ s.mode = .frost ∧ s.pm.thaw = false ∧ s.aonPast (f.timerMs * 491520) s.pm.frostAt = true) ∧
    (∃ (s : State) (d : DomStep) (lost : BitVec 29), s.pm.dom = some d ∧ (d.step < (if d.wake then 5 else 4)) ∧ (s.pm.wait.any (fun r => r.what = 2) = false)) ∧
    (∃ (s : State) (d : DomStep) (lost : BitVec 29), s.pm.dom = some d ∧ (d.step = (if d.wake then 5 else 4)) ∧ (s.pm.wait.any (fun r => r.what = 2) = false) ∧ d.dom < 24 ∧ s.pm.thaw = false) ∧
    (∃ (s : State) (d : DomStep), s.pm.dom = some d ∧ s.pm.thaw = false ∧ (s.pm.wait.any (fun r => r.what = 2) = false) ∧ s.aonPast 49152 s.pm.stepAt = true) ∧
    (∃ (s : State) (d : DomStep), s.pm.dom = some d ∧ s.pm.thaw = true ∧ (s.pm.wait.any (fun r => r.what = 2) = false) ∧ s.aonPast 49152 s.pm.stepAt = true) ∧
    (∃ (s : State), s.mode = .frost ∧ s.pm.thaw = true ∧ s.pm.dom = none ∧ s.nextWake = none ∧ s.pm.pllClocks = true ∧ s.synBusy = false ∧ s.flag R.MC_STATUS F.MC_STATUS_SELFREF = false ∧ (s.pm.enteredFrom = .standby → s.cv.fgDone = true ∧ s.cv.dacDone = true)) ∧
    (∃ (s : State) (r : GustReq), s.pm.debt = 0 ∧ gustNext s.pm.wait = some r ∧ s.disarmHead = none ∧ s.fitsBefore r.size = true) ∧
    (∃ (s : State) (c : Nat), s.pm.capNext = some c) :=
  ⟨⟨{ inMode .frost with pm := { (inMode .frost).pm with frost := some { frostReq with trig := 1 } } }, { frostReq with trig := 1 }, 1, by decide⟩,
   ⟨{ inMode .standby with pm := { (inMode .frost).pm with frost := some { frostReq with trig := 1 } } }, { frostReq with trig := 1 }, 1, by decide⟩,
   ⟨{ inMode .frost with pm := { (inMode .frost).pm with frost := some { frostReq with trig := 8 } } }, { frostReq with trig := 8 }, by decide⟩,
   ⟨{ inMode .frost with pm := { (inMode .frost).pm with dom := some ⟨3, true, 2⟩ } }, ⟨3, true, 2⟩, 0, by decide⟩,
   ⟨{ inMode .standby with pm := { (inMode .standby).pm with dom := some ⟨3, false, 4⟩ } }, ⟨3, false, 4⟩, 0, by decide⟩,
   ⟨{ inMode .standby with pm := { (inMode .standby).pm with dom := some ⟨3, false, 4⟩ }, now := 50000 }, ⟨3, false, 4⟩, by decide⟩,
   ⟨{ inMode .frost with pm := { (inMode .frost).pm with dom := some ⟨3, true, 4⟩, thaw := true }, now := 50000 }, ⟨3, true, 4⟩, by decide⟩,
   ⟨{ (inMode .frost).put R.PM_DOM_STAT F.PM_DOM_STAT_ON 0xFFFFFF with pm := { (inMode .frost).pm with thaw := true, pllClocks := true } }, by decide⟩,
   ⟨{ inMode .standby with pm := { (inMode .standby).pm with wait := [⟨2, 0, 4, 320, 0⟩, ⟨1, 0, 5, 320, 0⟩] } }, ⟨1, 0, 5, 320, 0⟩, by decide⟩,
   ⟨{ inMode .standby with pm := { (inMode .standby).pm with capNext := some 30 } }, 30, by decide⟩⟩

theorem witness_LinksAndContexts :
    (∃ (s : State) (f : FrostReq) (which : Fin 2), s.pm.frost = some f ∧ f.trig.testBit 1 = true ∧ s.mode = .frost ∧ s.pm.thaw = false) ∧
    (∃ (s : State) (f : Fin 2), s.hiRuns = true ∧ nth s.pins.perst (s.perstOf f) false = true) ∧
    (∃ (s : State) (c : Fin 8), s.bindOf c = some 2 ∧ s.ctxState c = 1 ∧ nth s.hi.inbandAt c 0 + 3 * cyclesPerSecond ≤ s.now) ∧
    (∃ (s : State) (c : Fin 8), s.ctxState c = 2 ∧ s.mode ≠ .frost ∧ s.pm.thaw = false ∧ nth s.hi.heldAt c 0 + s.get (R.HI_CTX_HOLD c) F.HI_CTX_HOLD_S * cyclesPerSecond ≤ s.now ∧ s.leasesOf c = [] ∧ s.isML c = false ∧ s.hy.jobs = [] ∧ s.hy.stopping = []) ∧
    (∃ (s : State), s.flag R.PM_VCORE F.PM_VCORE_FROZEN = true ∧ s.spanPast cyclesPerSecond s.th.askedAt = true) :=
  ⟨⟨{ inMode .frost with pm := { (inMode .frost).pm with frost := some { frostReq with trig := 2 } } }, { frostReq with trig := 2 }, 0, by decide⟩,
   ⟨{ (inMode .standby).setFlag (R.HI_CTX_BIND 0) F.HI_CTX_BIND_BOUND true with pins := { State.reset.pins with perst := [true, true] } }, 0, by decide⟩,
   ⟨{ (((inMode .standby).setFlag (R.HI_CTX_BIND 2) F.HI_CTX_BIND_BOUND true).put (R.HI_CTX_BIND 2) F.HI_CTX_BIND_ATT 2).put (R.HI_CTX_STAT 2) F.HI_CTX_STAT_STATE 1 with now := 2000000000 }, 2, by decide⟩,
   ⟨{ ((inMode .standby).put (R.HI_CTX_STAT 2) F.HI_CTX_STAT_STATE 2).put R.HI_MODE_LEASE F.HI_MODE_LEASE_NONE 1 with now := 5000000000 }, 2, by decide⟩,
   ⟨(inMode .standby).setFlag R.PM_VCORE F.PM_VCORE_FROZEN true, by decide⟩⟩

theorem witness_CommitPlacesTheEntry :
    (∃ (s : State) (entry : BitVec 256), s.tlFull = false ∧ (s.withEntry entry).commitFault s.tlTail = none) ∧
    (∃ (s : State) (entry : BitVec 256) (e : Nat), s.tlFull = false ∧ (s.withEntry entry).commitFault s.tlTail = some e) ∧
    (∃ (s : State) (entry : BitVec 256), s.tlFull = true) ∧
    (∃ (s : State) (e : Staged), s.nextStaged = some e ∧ e.target ≤ s.now + 245760 ∧ s.tlFull = false) ∧
    (∃ (s : State) (slot : Fin 4096), s.tl.issued.contains slot.val = true) :=
  ⟨⟨(inMode .tdd).put (R.TL_PART_QUOTA 0) F.TL_PART_QUOTA_QUOTA 64, 0x0000000700000000000000000000000000000000000000010100000100000002, by decide⟩,
   ⟨inMode .tdd, 0, Ev.TL_ORDER_ERR, by decide⟩,
   ⟨{ inMode .tdd with tl := { (inMode .tdd).tl with pend := [0] } }, 0, by decide⟩,
   ⟨{ inMode .tdd with hy := { (inMode .tdd).hy with staged := [⟨1, 0, [0, 0, 0, 0, 0, 0, 0, 0], false⟩] } }, ⟨1, 0, [0, 0, 0, 0, 0, 0, 0, 0], false⟩, by decide⟩,
   ⟨{ inMode .tdd with tl := { (inMode .tdd).tl with issued := [5, 6] } }, 5, by decide⟩⟩

theorem witness_IssueChecks :
    (∃ (s : State) (act : Nat) (slot : Fin 4096), 1 ≤ act ∧ act ≤ 16 ∧ s.mayIssue slot act = true ∧ s.leaseOk slot = false) ∧
    (∃ (s : State) (act : Nat) (slot : Fin 4096), 1 ≤ act ∧ act ≤ 16 ∧ s.mayIssue slot act = true ∧ s.leaseOk slot = true ∧ s.eJob slot ≠ 0 ∧ s.jobDone (s.eJob slot) = false) ∧
    (∃ (s : State) (act : Nat) (slot : Fin 4096), 1 ≤ act ∧ act ≤ 16 ∧ s.mayIssue slot act = false) :=
  ⟨⟨pendOne .tdd (mkEntry 0 0 1 0 0 0 1 0 1 0 0 7), 1, 5, by decide⟩,
   ⟨{ pendOne .tdd (mkEntry 0 0 16 0 0 0 1 0 1 0 9 7) with hy := { State.reset.hy with jobOwner := [(0, 9, 0)] } }, 16, 5, by decide⟩,
   ⟨State.reset, 3, 0, by decide⟩⟩

theorem witness_SymbolEntriesIssue :
    (∃ (s : State) (slot : Fin 4096), Issues s slot Act.dlSym) ∧
    (∃ (s : State) (slot : Fin 4096), Issues s slot Act.ulSym) ∧
    (∃ (s : State) (slot : Fin 4096), Issues s slot Act.guard_) ∧
    (∃ (s : State) (slot : Fin 4096), Issues s slot Act.arm) ∧
    (∃ (s : State) (slot : Fin 4096), Issues s slot Act.disarm) ∧
    (∃ (s : State) (slot : Fin 4096), Issues s slot Act.mark) ∧
    (∃ (s : State) (slot : Fin 4096), Issues s slot Act.srsCap) ∧
    (∃ (s : State) (slot : Fin 4096), Issues s slot Act.dfeSync ∧ (s.eParam slot).testBit 1 = true) :=
  ⟨⟨holding (pendOne .tdd (mkEntry 0x200000 0 1 1 0 0 2 0 1 0 0 7)) 2 1, 5, by decide⟩,
   ⟨holding (pendOne .tdd (mkEntry 0x200000 0 2 1 0 0 2 0 1 0 0 7)) 2 1, 5, by decide⟩,
   ⟨pendOne .tdd (mkEntry 0x200000 0 3 0 3 0 2 0 0 0 0 7), 5, by decide⟩,
   ⟨pendOne .tdd (mkEntry 0x200000 0 13 0 3 0 2 0 5 0 0 7), 5, by decide⟩,
   ⟨pendOne .tdd (mkEntry 0x200000 0 14 0 3 0 2 0 5 0 0 7), 5, by decide⟩,
   ⟨pendOne .tdd (mkEntry 0x200000 0 16 0 3 0 2 0 5 0 0 7), 5, by decide⟩,
   ⟨holding (holding (pendOne .tdd (mkEntry 0x200000 0 10 1 0 0 1 0 5 0 0 7)) 2 1) 6 0, 5, by decide⟩,
   ⟨holding (pendOne .tdd (mkEntry 0x200000 0 15 1 0 0 1 0 5 2 0 7)) 2 1, 5, by decide⟩⟩

theorem witness_ControlEntriesIssue :
    (∃ (s : State) (slot : Fin 4096), Issues s slot Act.chan ∧ tuneOk (chanF (s.eParam slot)) (chanR (s.eParam slot)) = true ∧ (s.mode = .listen ∨ (bitsOf (s.eQmask slot) 4).all (fun q => s.chanPermitted q (chanF (s.eParam slot))) = true)) ∧
    (∃ (s : State) (slot : Fin 4096), Issues s slot Act.chan ∧ tuneOk (chanF (s.eParam slot)) (chanR (s.eParam slot)) = false) ∧
    (∃ (s : State) (slot : Fin 4096), Issues s slot Act.auxTune ∧ tuneOk (chanF (s.eParam slot)) (chanR (s.eParam slot)) = true) ∧
    (∃ (s : State) (slot : Fin 4096), Issues s slot Act.gain ∧ s.tl.gains = [] ∧ s.rel (stStart (s.eTgt slot)) ≤ 0 ∧ s.rel (shiftBy (stStart (s.eTgt slot)) (-(s.ulAdv (s.eCar slot) : Int))) ≤ 0) ∧
    (∃ (s : State) (slot : Fin 4096), Issues s slot Act.gain ∧ s.tl.gains = [] ∧ (s.eParam slot).testBit 15 = true ∧ (s.eParam slot).testBit 16 = true ∧ 0 < s.rel (stStart (s.eTgt slot)) ∧ 0 < s.rel (shiftBy (stStart (s.eTgt slot)) (-(s.ulAdv (s.eCar slot) : Int)))) ∧
    (∃ (s : State) (slot : Fin 4096) (p : Nat), Issues s slot Act.dpdSwap ∧ s.paths (s.ePmask slot) = [p] ∧ s.flag (R.DFE_DPD_STATUS p) F.DFE_DPD_STATUS_READY = true) ∧
    (∃ (s : State) (slot : Fin 4096), Issues s slot Act.cfirSwap ∧ (s.eParam slot).testBit 0 = true ∧ (s.eParam slot).testBit 1 = false ∧ s.dfe.cfirSwap.contains (s.eCar slot, 0, stStart (s.eTgt slot)) = false) ∧
    (∃ (s : State) (slot : Fin 4096), Issues s slot Act.wpage ∧ s.carBeam (s.eCar slot) = true) ∧
    (∃ (s : State) (slot : Fin 4096) (k : Nat) (p : Nat), Issues s slot Act.obsCap ∧ bitsOf (s.eTmask slot) 8 = [k] ∧ s.obsPath slot k = some p ∧ s.obsFree slot k = true ∧ s.pins.orxSel.length = 8 ∧ s.obsHold slot = none) :=
  ⟨⟨holding (pendOne .tdd (mkEntry 0x200000 0 4 0 1 0 1 0 5 3500000 0 7)) 1 0, 5, by decide⟩,
   ⟨holding (pendOne .tdd (mkEntry 0x200000 0 4 0 1 0 1 0 5 35000 0 7)) 1 0, 5, by decide⟩,
   ⟨pendOne .tdd (mkEntry 0x200000 0 5 0 1 0 1 0 5 3500000 0 7), 5, by decide⟩,
   ⟨holding (holding (pendOne .tdd (mkEntry 0x200000 0 6 2 1 0 1 0 5 0x1FFFF 0 7)) 1 0) 2 2, 5, by decide⟩,
   ⟨atCyc (holding (holding (pendOne .tdd (mkEntry 0x220000 0 6 2 1 0 1 0 5 0x1FFFF 0 7)) 1 0) 2 2) 17392, 5, by decide⟩,
   ⟨((holding (pendOne .tdd (mkEntry 0x200000 0 7 2 1 0 1 0 1 0 0 7)) 1 0).setFlag (R.DFE_DPD_STATUS 0) F.DFE_DPD_STATUS_READY true).put64 R.RF_PATH_AVAIL 1, 5, 0, by decide⟩,
   ⟨holding (pendOne .tdd (mkEntry 0x200000 0 8 2 1 0 1 0 1 1 0 7)) 2 2, 5, by decide⟩,
   ⟨((holding (pendOne .tdd (mkEntry 0x200000 0 9 2 1 0 1 0 0 0 0 7)) 2 2).put (R.BF_CAR_STAT 2) F.BF_CAR_STAT_LOGN 11).put R.CV_ACAL_STATUS F.CV_ACAL_STATUS_BANK 1, 5, by decide⟩,
   ⟨((holding (holding (pendOne .tdd (mkEntry 0x200000 0 11 2 1 1 1 0 1 0 0 7)) 1 0) 8 0).put64 R.RF_PATH_AVAIL 1).put64 (R.DFE_CAP_BASE 0) (4 * 2 ^ 40), 5, 0, 0, by decide⟩⟩

theorem witness_FrameCounter :
    (∃ (s : State), (s.mode = .provisioned ∨ s.mode = .standby)) ∧
    (∃ (s : State), s.mode ≠ .provisioned ∧ s.mode ≠ .standby) ∧
    (∃ (s : State), s.tl.alignArmed = true ∧ (s.mode = .provisioned ∨ s.mode = .standby)) ∧
    (∃ (s : State) (v : List Nat), s.rf.tddNext = some v) :=
  ⟨⟨inMode .standby, by decide⟩,
   ⟨inMode .tdd, by decide⟩,
   ⟨{ inMode .standby with tl := { (inMode .standby).tl with alignArmed := true } }, by decide⟩,
   ⟨{ inMode .tdd with rf := { (inMode .tdd).rf with tddNext := some [3, 4, 5, 6] } }, [3, 4, 5, 6], by decide⟩⟩

theorem witness_SymbolEvents :
    (∃ (s : State) (slot : Fin 4096) (k : Fin 14) (y : Sym), s.symOf slot k = some y ∧ y.active = false ∧ y.okQ = [] ∧ y.lateQ = [] ∧ y.absent = false ∧ s.ticks (stNum y.stamp) = true ∧ s.rel y.start ≤ 738 ∧ s.turnBad y = false) ∧
    (∃ (s : State) (slot : Fin 4096) (k : Fin 14) (y : Sym), s.symOf slot k = some y ∧ y.active = false ∧ y.okQ = [] ∧ y.lateQ = [] ∧ y.absent = false ∧ s.ticks (stNum y.stamp) = true ∧ s.rel y.start ≤ 738 ∧ s.turnBad y = true) ∧
    (∃ (s : State) (slot : Fin 4096) (k : Fin 14) (y : Sym), s.symOf slot k = some y ∧ y.active = false ∧ s.ticks (stNum y.stamp) = true ∧ s.come y.start = true) ∧
    (∃ (s : State) (slot : Fin 4096) (k : Fin 14) (y : Sym) (p : Nat), s.symOf slot k = some y ∧ y.active = false ∧ s.ticks (stNum y.stamp) = true ∧ s.come y.start = true ∧ y.absent = false ∧ bitsOf y.pmask 64 = [p] ∧ s.cannotArm p (!y.ul) = false ∧ y.okQ.contains (quadOf p) = true ∧ s.pathSt (!y.ul) p = Ps.armed ∧ (y.ul = true ∨ s.mayTx = true)) ∧
    (∃ (s : State) (slot : Fin 4096) (k : Fin 14) (y : Sym), s.symOf slot k = some y ∧ y.active = true ∧ s.rel y.start + stLen y.stamp ≤ 0) ∧
    (∃ (s : State) (slot : Fin 4096) (k : Fin 14) (y : Sym) (p : Nat), s.symOf slot k = some y ∧ y.active = true ∧ s.rel y.start + stLen y.stamp ≤ 0 ∧ bitsOf y.pmask 64 = [p] ∧ s.pathSt (!y.ul) p = Ps.active ∧ s.otherActive y p = false ∧ s.follows y p (shiftBy y.start (stLen y.stamp)) = false) ∧
    (∃ (s : State) (slot : Fin 4096) (k : Fin 14) (y : Sym) (stage : Fin 8) (work : List StageWork), s.symOf slot k = some y ∧ y.ul = stageUl stage ∧ stage.val ≤ 4 ∧ s.stageDone y stage = false ∧ s.ticks (stNum y.stamp) = true ∧ (s.stageWin y stage).1 ≤ 0 ∧ 0 < (s.stageWin y stage).2) ∧
    (∃ (s : State) (slot : Fin 4096) (k : Fin 14) (y : Sym) (stage : Fin 6), s.symOf slot k = some y ∧ y.blank = false ∧ y.absent = false ∧ y.ul = decide (3 ≤ stage.val) ∧ s.ticks (stNum y.stamp) = true ∧ (s.stageWin y stage).2 ≤ 0) :=
  ⟨⟨symIn .tdd (newSym false) 40900, 5, 0, newSym false, by decide⟩,
   ⟨turning, 5, 0, newSym false, by decide⟩,
   ⟨symIn .tdd (aSym false) 40960, 5, 0, aSym false, by decide⟩,
   ⟨(symIn .tdd (aSym false) 40960).put (R.RF_PATH_STATE 0) F.RF_PATH_STATE_TX 1, 5, 0, aSym false, 0, by decide⟩,
   ⟨symIn .tdd { aSym true with active := true } 400000, 5, 0, { aSym true with active := true }, by decide⟩,
   ⟨(symIn .tdd { aSym false with active := true } 400000).put (R.RF_PATH_STATE 0) F.RF_PATH_STATE_TX 2, 5, 0, { aSym false with active := true }, 0, by decide⟩,
   ⟨stageIn 2 (aSym false), 5, 0, aSym false, 2, [], by decide⟩,
   ⟨symIn .tdd (aSym false) 400000, 5, 0, aSym false, 1, by decide⟩⟩

theorem witness_ArmingAndBorrowing :
    (∃ (s : State) (a : ArmStep) (due : Int) (rest : List (ArmStep × Int)), s.armSeq = (a, due) :: rest ∧ s.pm.debt = 0 ∧ due ≤ 0 ∧ s.armWaits a = false) ∧
    (∃ (s : State) (a : ArmStep), s.disarmHead = some a ∧ s.pathSt a.tx a.path = Ps.armed ∧ s.pm.debt = 0 ∧ s.fitsBefore (s.armSize a.tx) = true) ∧
    (∃ (s : State) (path : Fin 64) (tx : Bool) (e : Nat), s.lastEnd tx path = some e ∧ (s.pathSt tx path = Ps.armed ∨ s.pathSt tx path = Ps.muted) ∧ e + (s.rd R.TL_DISARM_GAP).toNat ≤ s.now ∧ s.gapNeeded tx path ((e : Int) + ((s.rd R.TL_DISARM_GAP).toNat : Int) - (s.now : Int)) = false) ∧
    (∃ (s : State) (slot : Fin 4096), Issues s slot Act.calBorrow ∧ s.borrowHold slot = none) ∧
    (∃ (s : State) (slot : Fin 4096), Issues s slot Act.calBorrow ∧ s.auxWaits slot = false ∧ s.eKind slot = 3 ∧ s.borrowQs slot = [] ∧ s.tl.waits.contains slot.val = false) ∧
    (∃ (s : State) (kind : Fin 5), 2 ≤ kind.val ∧ nth s.cv.since (kind.val - 2) 0 + s.interval kind.val ≤ s.now ∧ s.tl.stepDone.contains kind.val = false) ∧
    (∃ (s : State) (kind : Fin 5), 2 ≤ kind.val ∧ nth s.cv.since (kind.val - 2) 0 + s.interval kind.val ≤ s.now ∧ s.tl.stepDone.contains kind.val = true) :=
  ⟨⟨arming, ⟨true, 0, 0, 0⟩, (arming.armSeq.head?.getD (⟨true, 0, 0, 0⟩, 0)).2, arming.armSeq.tail, by decide⟩,
   ⟨{ (inMode .tdd).put (R.RF_PATH_STATE 0) F.RF_PATH_STATE_TX 1 with tl := { (inMode .tdd).tl with dis := [⟨true, 0, 0, 0⟩] } }, ⟨true, 0, 0, 0⟩, by decide⟩,
   ⟨{ (withSym ((inMode .tdd).put (R.RF_PATH_STATE 0) F.RF_PATH_STATE_TX 1) (aSym true)) with now := 10000000, tl := { (withSym (inMode .tdd) (aSym true)).tl with endTx := [some 5] } }, 0, true, 5, by decide⟩,
   ⟨atCyc ((pendOne .calibration (mkEntry 0x200000 0 12 0 0 0 5 4 1 0 0 7)).put (R.RF_SYN_STATUS 4) F.RF_SYN_STATUS_STATE 2) 800, 5, by decide⟩,
   ⟨atCyc ((pendOne .fdd (mkEntry 0x200000 0 12 0 0 0 5 3 1 0 0 7)).put (R.RF_SYN_STATUS 4) F.RF_SYN_STATUS_STATE 2) 800, 5, by decide⟩,
   ⟨{ inMode .tdd with now := 10 ^ 18 }, 3, by decide⟩,
   ⟨{ inMode .tdd with now := 10 ^ 18, tl := { (inMode .tdd).tl with stepDone := [3] } }, 3, by decide⟩⟩

theorem witness_SynthesisersAndPins :
    (∃ (s : State) (syn : Fin 5) (us : BitVec 8), s.syn syn = 1) ∧
    (∃ (s : State) (syn : Fin 5) (us : BitVec 8), s.syn syn = 1 ∧ nth s.rf.retry syn false = false) ∧
    (∃ (s : State) (syn : Fin 5) (us : BitVec 8), s.syn syn = 1 ∧ nth s.rf.retry syn false = true) ∧
    (∃ (s : State) (syn : Fin 5), s.syn syn = 1 ∧ nth s.rf.retry syn false = true) ∧
    (∃ (s : State) (syn : Fin 5), s.syn syn = 1 ∧ nth s.rf.retry syn false = false) ∧
    (∃ (s : State) (syn : Fin 5), s.syn syn = 2) ∧
    (∃ (s : State) (syn : Fin 5), s.syn syn = 2 ∧ syn.val < 4) ∧
    (∃ (s : State) (tile : Fin 8), s.pinWant tile true = true ∧ (s.mode ≠ .tdd ∨ nth s.pins.rxen tile false = false)) ∧
    (∃ (s : State) (tile : Fin 8), s.pinWant tile false = true ∧ (s.mode ≠ .tdd ∨ nth s.pins.txen tile false = false)) ∧
    (∃ (s : State) (tile : Fin 8) (tx : Bool) (y : Sym), y ∈ s.tl.syms ∧ s.mode ≠ .calibration ∧ (tx = false ∨ s.mayTx = true) ∧ s.symHolds tile (!tx) y = true ∧ (y.active = true ∨ s.rel y.start ≤ s.pinLead tx) ∧ (y.ul = false ∨ y.stage < 4)) ∧
    (∃ (s : State) (tile : Fin 8) (tx : Bool), s.pinWant tile tx = false ∧ (∀ e, nth (if tx then s.tl.endDl else s.tl.endUl) tile none = some e → e + s.pinLag tx ≤ s.now)) :=
  ⟨⟨(inMode .standby).put (R.RF_SYN_STATUS 0) F.RF_SYN_STATUS_STATE 1, 0, 90, by decide⟩,
   ⟨(inMode .standby).put (R.RF_SYN_STATUS 0) F.RF_SYN_STATUS_STATE 1, 0, 90, by decide⟩,
   ⟨{ (inMode .standby).put (R.RF_SYN_STATUS 0) F.RF_SYN_STATUS_STATE 1 with rf := { (inMode .standby).rf with retry := [true] } }, 0, 90, by decide⟩,
   ⟨{ (inMode .standby).put (R.RF_SYN_STATUS 0) F.RF_SYN_STATUS_STATE 1 with rf := { (inMode .standby).rf with retry := [true] } }, 0, by decide⟩,
   ⟨(inMode .standby).put (R.RF_SYN_STATUS 0) F.RF_SYN_STATUS_STATE 1, 0, by decide⟩,
   ⟨(inMode .standby).put (R.RF_SYN_STATUS 0) F.RF_SYN_STATUS_STATE 2, 0, by decide⟩,
   ⟨(inMode .standby).put (R.RF_SYN_STATUS 0) F.RF_SYN_STATUS_STATE 2, 0, by decide⟩,
   ⟨symIn .tdd (aSym false) 40960, 0, by decide⟩,
   ⟨symIn .tdd (aSym true) 40960, 0, by decide⟩,
   ⟨symIn .tdd (aSym true) 40960, 0, false, aSym true, by decide⟩,
   ⟨inMode .tdd, 0, true, by decide⟩⟩

theorem witness_BiasGuardAndRffe :
    (∃ (s : State) (path : Fin 64), s.biasWant path = true ∧ s.avail path = true ∧ s.tx path ≠ Ps.fault ∧ s.pm.rampOn = false ∧ s.pm.shut = none ∧ (s.bias path = 1 ∨ s.bias path = 4)) ∧
    (∃ (s : State) (path : Fin 64), s.biasWant path = false ∧ (s.bias path = 2 ∨ s.bias path = 3)) ∧
    (∃ (s : State) (path : Fin 64), (s.bias path = 3 ∨ s.bias path = 4)) ∧
    (∃ (s : State) (path : Fin 64), (s.bias path = 3 ∨ s.bias path = 4)) ∧
    (∃ (s : State) (path : Fin 64) (i : BitVec 16) (q : BitVec 16), s.tx path = Ps.active ∧ aboveLimit (i.toInt * i.toInt + q.toInt * q.toInt).toNat (2 ^ 30) (s.get (R.RF_REG_PEAK path) F.RF_REG_PEAK_LVL) = true) ∧
    (∃ (s : State) (path : Fin 64) (energy : BitVec 64), (s.tx path = Ps.active ∨ s.tx path = Ps.armed) ∧ aboveLimit energy.toNat (guardWindow (s.get (R.RF_REG_RMS path) F.RF_REG_RMS_WIN) * 2 ^ 30) (s.get (R.RF_REG_RMS path) F.RF_REG_RMS_LVL) = true) ∧
    (∃ (s : State) (path : Fin 64), s.tx path = Ps.muted ∧ (s.rf.hold.any (fun h => h.1 = path.val) = true) ∧ s.guardHeld path = false ∧ s.locked (quadOf path) = true) ∧
    (∃ (s : State) (path : Fin 64), s.tx path = Ps.active ∧ s.dutyFree path = false ∧ s.rf.dutyDone.contains path.val = false ∧ s.dutyLimit10 path ≤ 10 * nth s.rf.dutyN path 0) ∧
    (∃ (s : State) (q : Fin 4) (trig : Fin 6), nth s.rf.rffeRun q none = none) ∧
    (∃ (s : State) (q : Fin 4) (trig : Fin 6), nth s.rf.rffeRun q none ≠ none) ∧
    (∃ (s : State) (q : Fin 4), nth s.rf.rffeRun q none ≠ none ∧ nth s.rf.rffeDue q [] = []) ∧
    (∃ (s : State) (q : Fin 4) (d : Nat) (l : List Nat), nth s.rf.rffeRun q none ≠ none ∧ nth s.rf.rffeDue q [] = d :: l) :=
  ⟨⟨{ (((inMode .tdd).put (R.RF_PABIAS_CFG 0) F.RF_PABIAS_CFG_MODE 1).put64 R.RF_PATH_AVAIL 1) with rf := { (inMode .tdd).rf with bias := [1] } }, 0, by decide⟩,
   ⟨{ inMode .tdd with rf := { (inMode .tdd).rf with bias := [2] } }, 0, by decide⟩,
   ⟨{ inMode .tdd with rf := { (inMode .tdd).rf with bias := [3] } }, 0, by decide⟩,
   ⟨{ inMode .tdd with rf := { (inMode .tdd).rf with bias := [3] } }, 0, by decide⟩,
   ⟨((inMode .tdd).put (R.RF_PATH_STATE 0) F.RF_PATH_STATE_TX 2).put (R.RF_REG_PEAK 0) F.RF_REG_PEAK_LVL 16, 0, 32767, 32767, by decide⟩,
   ⟨((inMode .tdd).put (R.RF_PATH_STATE 0) F.RF_PATH_STATE_TX 2).put (R.RF_REG_RMS 0) F.RF_REG_RMS_LVL 16, 0, 0xFFFFFFFFFFFFF, by decide⟩,
   ⟨{ ((inMode .tdd).put (R.RF_PATH_STATE 0) F.RF_PATH_STATE_TX 3).put (R.RF_SYN_STATUS 0) F.RF_SYN_STATUS_STATE 2 with rf := { (inMode .tdd).rf with hold := [(0, some 0)] } }, 0, by decide⟩,
   ⟨{ ((inMode .tdd).put (R.RF_PATH_STATE 0) F.RF_PATH_STATE_TX 2).put (R.RF_REG_DUTY 0) F.RF_REG_DUTY_DUTY 1 with rf := { (inMode .tdd).rf with dutyN := [19661] } }, 0, by decide⟩,
   ⟨State.reset, 0, 0, by decide⟩,
   ⟨{ inMode .tdd with rf := { (inMode .tdd).rf with rffeRun := [some 2] } }, 0, 0, by decide⟩,
   ⟨{ inMode .tdd with rf := { (inMode .tdd).rf with rffeRun := [some 2] } }, 0, by decide⟩,
   ⟨{ inMode .tdd with rf := { (inMode .tdd).rf with rffeRun := [some 2], rffeDue := [[3, 4]] } }, 0, 3, [4], by decide⟩⟩

theorem witness_SliceCalibrationAndRotation :
    (∃ (s : State) (c : SliceCal), s.cv.fgDone = false ∧ c.adc < 144 ∧ c.slice < 9) ∧
    (∃ (s : State) (d : Fin 128) (w : BitVec 8), s.cv.dacDone = false) ∧
    (∃ (s : State) (pair : Fin 72), s.rotIn pair 0 = true) ∧
    (∃ (s : State) (pair : Fin 72) (ci : SliceCal) (cq : SliceCal), s.rotIn pair 1 = true ∧ sliceOut { ci with dly := s.tapOf (2 * pair.val) (s.spare (2 * pair.val)) } = false ∧ sliceOut { cq with dly := s.tapOf (2 * pair.val + 1) (s.spare (2 * pair.val + 1)) } = false) ∧
    (∃ (s : State) (pair : Fin 72), s.rotIn pair 2 = true) ∧
    (∃ (s : State) (pair : Fin 72) (usable : Bool) (i : Shadow) (q : Shadow), s.rotIn pair 3 = true ∧ gateOk usable i = true ∧ gateOk usable q = true) ∧
    (∃ (s : State) (pair : Fin 72) (usable : Bool) (i : Shadow) (q : Shadow), s.rotIn pair 3 = true ∧ (gateOk usable i = false ∨ gateOk usable q = false) ∧ s.get (R.CV_ADC_STATUS (2 * pair.val)) F.CV_ADC_STATUS_FAILS < fldGet F.CV_ROT_CFG_FORCE_N (s.rotCfg pair).1) ∧
    (∃ (s : State) (pair : Fin 72) (d : Nat), s.rotIn pair 4 = true ∧ s.handBack pair = some d ∧ (pair.val < 64 ∨ s.obsBusy (pair.val - 64) = false)) :=
  ⟨⟨inMode .standby, ⟨3, 2, 0x8100, 5, 3, 1⟩, by decide⟩,
   ⟨inMode .standby, 0, 9, by decide⟩,
   ⟨(inMode .tdd).put R.CV_ROT_CFG F.CV_ROT_CFG_EN 1, 0, by decide⟩,
   ⟨(((inMode .tdd).put R.CV_ROT_CFG F.CV_ROT_CFG_EN 1).setPhase 0 1).setPhase 1 1, 0, goodSlice, goodSlice, by decide⟩,
   ⟨(((inMode .tdd).put R.CV_ROT_CFG F.CV_ROT_CFG_EN 1).setPhase 0 2).setPhase 1 2, 0, by decide⟩,
   ⟨(((inMode .tdd).put R.CV_ROT_CFG F.CV_ROT_CFG_EN 1).setPhase 0 3).setPhase 1 3, 0, true, goodShadow, goodShadow, by decide⟩,
   ⟨((((inMode .tdd).put R.CV_ROT_CFG F.CV_ROT_CFG_EN 1).put R.CV_ROT_CFG F.CV_ROT_CFG_FORCE_N 3).setPhase 0 3).setPhase 1 3, 0, true, { goodShadow with dO := 9 }, goodShadow, by decide⟩,
   ⟨((((inMode .tdd).put R.CV_ROT_CFG F.CV_ROT_CFG_EN 1).setPhase 0 4).setPhase 1 4).put (R.CV_ADC_STATUS 0) F.CV_ADC_STATUS_SPARE 8, 0, 0, by decide⟩⟩

theorem witness_CorrectionsAndArrayCalibration :
    (∃ (s : State) (path : Fin 64) (eps : BitVec 16) (phi : BitVec 16) (dci : BitVec 16) (dcq : BitVec 16), s.rx path = Ps.active ∧ 2 ^ 22 ≤ nth s.cv.rxqN path 0) ∧
    (∃ (s : State) (path : Fin 64) (w : Word) (dc : Int × Int), (s.cv.rxqNext.find? (fun x => x.1 = path.val) = some (path.val, w, dc))) ∧
    (∃ (s : State) (path : Fin 64) (dci : BitVec 18) (dcq : BitVec 18) (eps : BitVec 18) (phi : BitVec 18) (leak : BitVec 8) (img : BitVec 8), s.running.contains (3, path.val) = true) ∧
    (∃ (s : State) (path : Fin 64) (dc : Word) (im : Word), (s.cv.txqNext.find? (fun x => x.1 = path.val) = some (path.val, dc, im))) ∧
    (∃ (s : State) (tile : Fin 8) (dc : BitVec 16) (imb : BitVec 16) (dev : BitVec 16) (vals : List Nat), s.running.contains (4, tile.val) = true ∧ (-300 < dc.toInt ∨ 4096 < imb.toInt.natAbs ∨ 50 < dev.toInt.natAbs)) ∧
    (∃ (s : State) (tile : Fin 8) (dc : BitVec 16) (imb : BitVec 16) (dev : BitVec 16) (vals : List Nat), s.running.contains (4, tile.val) = true ∧ dc.toInt ≤ -300 ∧ imb.toInt.natAbs ≤ 4096 ∧ dev.toInt.natAbs ≤ 50 ∧ nth s.cv.orxStep tile 0 = 3) ∧
    (∃ (s : State) (pos : Fin 16) (pairs : List PairEst), s.running.contains (2, pos.val) = true) ∧
    (∃ (s : State) (j : Nat), s.cv.sweepJob = some j) ∧
    (∃ (s : State) (w : List Nat) (p : Nat), s.cv.acalWait = some (w, p) ∧ s.acalFree = true) :=
  ⟨⟨{ (inMode .tdd).put (R.RF_PATH_STATE 0) F.RF_PATH_STATE_RX 2 with cv := { (inMode .tdd).cv with rxqN := [2 ^ 22] } }, 0, 0x7FFF, 0, 0, 0, by decide⟩,
   ⟨{ inMode .tdd with cv := { (inMode .tdd).cv with rxqNext := [(3, 1, 0, 0), (0, 5, 3, -4)] } }, 0, 5, (3, -4), by decide⟩,
   ⟨{ inMode .tdd with cv := { (inMode .tdd).cv with steps := [(3, 0)] } }, 0, 0x1FFFF, 0, 0, 0, 0, 0, by decide⟩,
   ⟨{ inMode .tdd with cv := { (inMode .tdd).cv with txqNext := [(0, 5, 6)] } }, 0, 5, 6, by decide⟩,
   ⟨{ inMode .tdd with cv := { (inMode .tdd).cv with steps := [(4, 0)] } }, 0, 0, 0, 0, [], by decide⟩,
   ⟨{ inMode .tdd with cv := { (inMode .tdd).cv with steps := [(4, 0)], orxStep := [3], orxGot := [(0, [1, 2])] } }, 0, 0xFE00, 0, 0, [3], by decide⟩,
   ⟨{ inMode .tdd with cv := { (inMode .tdd).cv with steps := [(2, 0)] } }, 0, [], by decide⟩,
   ⟨{ inMode .tdd with cv := { (inMode .tdd).cv with sweepJob := some 9 } }, 9, by decide⟩,
   ⟨{ inMode .tdd with cv := { (inMode .tdd).cv with acalWait := some ([1], 0) } }, [1], 0, by decide⟩⟩

theorem witness_CapturesAndTraining :
    (∃ (s : State) (tile : Fin 8) (k : Cap) (obs : List (BitVec 16 × BitVec 16)) (tx : List (List (BitVec 16 × BitVec 16))), nth s.dfe.cap tile none = some k ∧ s.capSt tile = 1) ∧
    (∃ (s : State) (tile : Fin 8) (k : Cap) (ns : BitVec 16) (a : Nat) (n : Nat), nth s.dfe.cap tile none = some k ∧ s.capSt tile = 2 ∧ s.dramUp = true ∧ a = s.capAddr tile k.ringSlot + k.drained ∧ n = min ((capRecord k).length - k.drained) (2048 - a % 2048) ∧ n ≠ 0 ∧ s.spanOk a n = true ∧ s.region a = .dram) ∧
    (∃ (s : State) (tile : Fin 8) (k : Cap), nth s.dfe.cap tile none = some k ∧ s.capSt tile = 2 ∧ (capRecord k).length ≤ k.drained ∧ s.dfe.capDrop.contains tile.val = false ∧ s.flag (R.DFE_DPD_CFG k.path) F.DFE_DPD_CFG_AUTO = false) ∧
    (∃ (s : State) (path : Fin 64) (at_ : BitVec 22) (job : BitVec 16), s.dfe.loader = []) ∧
    (∃ (s : State) (path : Fin 64) (at_ : BitVec 22) (job : BitVec 16), s.dfe.loader ≠ []) ∧
    (∃ (s : State) (p : Nat) (a : Nat) (j : Nat), s.dfe.loader = [(p, a, j)] ∧ p < 64) ∧
    (∃ (s : State) (job : BitVec 16) (at_ : BitVec 22) (p : Nat) (e : NvJob), (s.dfe.train.find? (fun x => x.1 = job.toNat) = some (job.toNat, p)) ∧ s.jobOf job.toNat = some e ∧ e.st = 2 ∧ s.usable p e < 16384) ∧
    (∃ (s : State) (job : BitVec 16) (at_ : BitVec 22) (p : Nat) (e : NvJob), (s.dfe.train.find? (fun x => x.1 = job.toNat) = some (job.toNat, p)) ∧ s.jobOf job.toNat = some e ∧ e.st = 2 ∧ 16384 ≤ s.usable p e) ∧
    (∃ (s : State) (slot : Fin 4096) (k : Srs) (l : List Byte), (s.bf.srs.find? (fun k => k.slot = slot.val) = some k) ∧ s.rel (stStart (stAdd k.stamp 1)) ≤ s.ulAdv k.car ∧ k.bad = false ∧ k.cells = some l) ∧
    (∃ (s : State) (slot : Fin 4096) (k : Srs), (s.bf.srs.find? (fun k => k.slot = slot.val) = some k) ∧ s.rel (stStart (stAdd k.stamp 1)) ≤ s.ulAdv k.car ∧ k.bad = true) ∧
    (∃ (s : State) (job : BitVec 16) (j : NvJob) (d : Recip), s.jobOf job.toNat = some j ∧ j.kind = 0 ∧ j.st = 2 ∧ (s.bf.recip.find? (fun d => d.car = nth j.args 1 0 && d.region = nth j.args 2 0) = some d) ∧ nth j.args 4 0 = 1) ∧
    (∃ (s : State) (job : BitVec 16) (j : NvJob) (d : Recip), s.jobOf job.toNat = some j ∧ j.kind = 0 ∧ j.st = 2 ∧ (s.bf.recip.find? (fun d => d.car = nth j.args 1 0 && d.region = nth j.args 2 0) = some d) ∧ nth j.args 4 0 ≠ 1) :=
  ⟨⟨{ (inMode .tdd).put (R.DFE_CAP_STATUS 0) F.DFE_CAP_STATUS_STATE 1 with dfe := { (inMode .tdd).dfe with cap := [some aCap] } }, 0, aCap, [], [], by decide⟩,
   ⟨{ ((((inMode .tdd).put (R.DFE_CAP_STATUS 0) F.DFE_CAP_STATUS_STATE 2).put64 (R.DFE_CAP_BASE 0) (4 * 2 ^ 40 + dramBase)).put R.MC_STATUS F.MC_STATUS_SIZE 4).put R.MC_STATUS F.MC_STATUS_TRAINED 1 with dfe := { (inMode .tdd).dfe with cap := [some aCap] } }, 0, aCap, 0, dramBase, 64, by decide⟩,
   ⟨{ (inMode .tdd).put (R.DFE_CAP_STATUS 0) F.DFE_CAP_STATUS_STATE 2 with dfe := { (inMode .tdd).dfe with cap := [some { aCap with drained := 64 }] } }, 0, { aCap with drained := 64 }, by decide⟩,
   ⟨State.reset, 0, 0, 0, by decide⟩,
   ⟨{ inMode .tdd with dfe := { (inMode .tdd).dfe with loader := [(3, 0, 0)] } }, 0, 0, 0, by decide⟩,
   ⟨{ inMode .tdd with dfe := { (inMode .tdd).dfe with loader := [(3, 64, 0)] } }, 3, 64, 0, by decide⟩,
   ⟨{ inMode .tdd with dfe := { (inMode .tdd).dfe with train := [(9, 3)] }, nvc := { (inMode .tdd).nvc with jobs := [aJob 1 2] } }, 9, 0, 3, aJob 1 2, by decide⟩,
   ⟨{ inMode .tdd with dfe := { (inMode .tdd).dfe with train := [(9, 3)], recs := [⟨0, 2, 3, 7, 0, false, 64 + 24 * 16384, 0⟩] }, nvc := { (inMode .tdd).nvc with jobs := [{ aJob 1 2 with args := [0, 0, 0, 0, 2] }] } }, 9, 0, 3, { aJob 1 2 with args := [0, 0, 0, 0, 2] }, by decide⟩,
   ⟨atCyc { inMode .tdd with bf := { (inMode .tdd).bf with srs := [⟨5, 0, 1, 0, 1, 1 + 2 ^ 12 * 3 + 2 ^ 31, false, some [7, 8]⟩] } } 40000, 5, ⟨5, 0, 1, 0, 1, 1 + 2 ^ 12 * 3 + 2 ^ 31, false, some [7, 8]⟩, [7, 8], by decide⟩,
   ⟨atCyc { inMode .tdd with bf := { (inMode .tdd).bf with srs := [⟨5, 0, 1, 0, 1, 1 + 2 ^ 12 * 3 + 2 ^ 31, true, none⟩] } } 40000, 5, ⟨5, 0, 1, 0, 1, 1 + 2 ^ 12 * 3 + 2 ^ 31, true, none⟩, by decide⟩,
   ⟨{ inMode .tdd with nvc := { (inMode .tdd).nvc with jobs := [{ aJob 0 2 with args := [10, 1, 2, 0, 1] }] }, bf := { (inMode .tdd).bf with recip := [⟨1, 0, 2, 0, 0, 1, []⟩] } }, 9, { aJob 0 2 with args := [10, 1, 2, 0, 1] }, ⟨1, 0, 2, 0, 0, 1, []⟩, by decide⟩,
   ⟨{ inMode .tdd with nvc := { (inMode .tdd).nvc with jobs := [{ aJob 0 2 with args := [10, 1, 2, 0, 0] }] }, bf := { (inMode .tdd).bf with recip := [⟨1, 0, 2, 0, 0, 1, []⟩] } }, 9, { aJob 0 2 with args := [10, 1, 2, 0, 0] }, ⟨1, 0, 2, 0, 0, 1, []⟩, by decide⟩⟩

theorem witness_WeightMemory :
    (∃ (s : State) (region : Fin 64), s.rgPaged region = true ∧ s.rgEn region = true ∧ s.rgRevoking region = false ∧ s.page region (1 - s.rgAct region) = Pg.free) ∧
    (∃ (s : State) (region : Fin 64), (s.rgPaged region = false ∨ s.rgEn region = false ∨ s.rgRevoking region = true ∨ s.page region (1 - s.rgAct region) ≠ Pg.free)) ∧
    (∃ (s : State) (region : Fin 64), s.page region (1 - s.rgAct region) = Pg.draining ∧ (∀ x ∈ s.bf.switchAt, x.1 = region.val → x.2.2 ≤ s.now)) ∧
    (∃ (s : State) (ctx : Option (Fin 8)) (addr : BitVec 22) (data : List Byte), weightShape addr.toNat data.length = true ∧ s.mayWriteVec (ctx.map Fin.val) (addr.toNat / 256) = true ∧ s.mayWriteVec (ctx.map Fin.val) ((addr.toNat + data.length - 1) / 256) = true) ∧
    (∃ (s : State) (x : Fin 8) (addr : BitVec 22) (data : List Byte), (weightShape addr.toNat data.length = false ∨ s.mayWriteVec (some x.val) (addr.toNat / 256) = false)) ∧
    (∃ (s : State) (region : Fin 64), s.rgRevoking region = true ∧ s.bf.scrub.contains region.val = false ∧ s.weightsRead (s.rgOwner region) = false) ∧
    (∃ (s : State) (region : Fin 64), s.bf.scrub.contains region.val = true) ∧
    (∃ (s : State) (region : Fin 64), s.bf.scrub.contains region.val = true ∧ s.hy.jobs = []) ∧
    (∃ (s : State) (region : Fin 64) (e : Nat × Nat × Nat × Nat), (s.bf.shrink.find? (fun x => x.2.2.1 = region.val) = some e)) :=
  ⟨⟨((inMode .standby).setFlag (R.BF_REGION_CFG 0) F.BF_REGION_CFG_PAGED true).setFlag (R.BF_REGION_CFG 0) F.BF_REGION_CFG_EN true, 0, by decide⟩,
   ⟨State.reset, 0, by decide⟩,
   ⟨(inMode .standby).setPage 0 1 3, 0, by decide⟩,
   ⟨(inMode .standby).put (R.BF_REGION_BASE 0) F.BF_REGION_BASE_LEN 4, none, 0, [1, 2, 3, 4], by decide⟩,
   ⟨State.reset, 0, 0, [1, 2, 3, 4], by decide⟩,
   ⟨(inMode .standby).setFlag (R.BF_REGION_STAT 0) F.BF_REGION_STAT_REVOKING true, 0, by decide⟩,
   ⟨{ (inMode .standby).put (R.BF_REGION_BASE 0) F.BF_REGION_BASE_LEN 4 with bf := { (inMode .standby).bf with scrub := [0] } }, 0, by decide⟩,
   ⟨{ (inMode .standby).put (R.BF_REGION_BASE 0) F.BF_REGION_BASE_LEN 4 with bf := { (inMode .standby).bf with scrub := [0] } }, 0, by decide⟩,
   ⟨{ inMode .standby with bf := { (inMode .standby).bf with shrink := [(8, 4, 0, 0)] } }, 0, (8, 4, 0, 0), by decide⟩⟩

theorem witness_JobsOfTheCluster :
    (∃ (s : State) (j : NvJob), s.trackerFull = false ∧ (s.nextJob (s.nvc.jobs.filter (fun j => j.st = 0)) = some j)) ∧
    (∃ (s : State) (grp : Fin 2) (j : NvJob) (l : List Nat), (s.nextJob (s.nvc.jobs.filter (fun j => j.st = 1 && (if grp = 0 then decide (j.kind = 0) else j.kind != 0))) = some j) ∧ (l = (if grp = 0 then (List.range 16).filter (fun c => s.coreGroup c = 0) else s.generalCores).filter s.coreFree) ∧ j.need ≤ l.length) ∧
    (∃ (s : State) (job : BitVec 16) (j : NvJob), s.jobOf job.toNat = some j ∧ j.st = 2 ∧ j.parts ≤ j.dones + 1 ∧ j.kind ≠ 1) ∧
    (∃ (s : State) (job : BitVec 16) (j : NvJob), s.jobOf job.toNat = some j ∧ j.st = 2 ∧ j.dones + 1 < j.parts) ∧
    (∃ (s : State) (core : Fin 16) (which : Fin 6) (n : BitVec 32), 2 ^ 48 ≤ s.get64 (nvCounter core which) % 2 ^ 48 + n.toNat) :=
  ⟨⟨{ inMode .standby with nvc := { (inMode .standby).nvc with jobs := [aJob 2 0] } }, aJob 2 0, by decide⟩,
   ⟨{ (inMode .standby).put (R.NVC_CORE_STAT 0) F.NVC_CORE_STAT_STATE 1 with nvc := { (inMode .standby).nvc with jobs := [aJob 0 1] } }, 0, aJob 0 1, [0, 1, 2, 3, 4, 5, 6, 7], by decide⟩,
   ⟨{ inMode .standby with nvc := { (inMode .standby).nvc with jobs := [{ aJob 0 2 with dones := 1 }] } }, 9, { aJob 0 2 with dones := 1 }, by decide⟩,
   ⟨{ inMode .standby with nvc := { (inMode .standby).nvc with jobs := [aJob 0 2] } }, 9, aJob 0 2, by decide⟩,
   ⟨(inMode .standby).put64 (nvCounter 0 0) (2 ^ 48 - 2), 0, 0, 5, by decide⟩⟩

theorem witness_CoresPauseAndRelease :
    (∃ (s : State) (core : Fin 16), s.coreSt core = Co.running ∧ s.wdogOut core = true) ∧
    (∃ (s : State) (grp : Fin 3), grp.val < s.get R.TH_STAT F.TH_STAT_STAGE ∧ (∀ g, g < grp.val → ∀ c ∈ pauseGroup g, s.coreSt c ≠ Co.idle ∧ s.coreSt c ≠ Co.running) ∧ (∃ c ∈ pauseGroup grp, s.coreSt c = Co.idle ∨ s.coreSt c = Co.running)) ∧
    (∃ (s : State) (core : Fin 16), s.pm.granted.contains (4, core.val) = true ∧ s.coreSt core = Co.paused ∧ s.get R.TH_STAT F.TH_STAT_STAGE ≤ pauseGroupOf core) ∧
    (∃ (s : State) (core : Fin 16), s.coreSt core = Co.scrubbing) ∧
    (∃ (s : State) (b : Fin 8), (nth s.nvc.bars b (0, [])).1 ≠ 0 ∧ (nth s.nvc.bars b (0, [])).1 ≤ (nth s.nvc.bars b (0, [])).2.length) ∧
    (∃ (s : State) (core : Fin 16), (s.core core).wait = .mailbox ∧ (s.core core).in15 = true) ∧
    (∃ (s : State) (core : Fin 16) (slot : Fin 4) (x : NvStream), ((s.core core).streams.find? (fun x => x.slot = slot.val && !x.done) = some x) ∧ x.desc.toLocal = true ∧ x.desc.row = 64 ∧ x.desc.rows = 1 ∧ s.spanOk x.desc.remote.toNat 64 = true ∧ s.coreMayReach core x.desc.remote.toNat 64 = true ∧ s.region x.desc.remote.toNat ≠ .weight) ∧
    (∃ (s : State) (core : Fin 16) (slot : Fin 4) (x : NvStream), ((s.core core).streams.find? (fun x => x.slot = slot.val && !x.done) = some x) ∧ x.desc.row = 64 ∧ x.desc.rows = 1 ∧ s.coreMayReach core x.desc.remote.toNat 64 = false) :=
  ⟨⟨running 0, 0, by decide⟩,
   ⟨(running 12).put R.TH_STAT F.TH_STAT_STAGE 1, 0, by decide⟩,
   ⟨{ (inMode .standby).put (R.NVC_CORE_STAT 0) F.NVC_CORE_STAT_STATE 3 with pm := { (inMode .standby).pm with granted := [(4, 0)] } }, 0, by decide⟩,
   ⟨(inMode .standby).put (R.NVC_CORE_STAT 0) F.NVC_CORE_STAT_STATE 5, 0, by decide⟩,
   ⟨{ inMode .standby with nvc := { (inMode .standby).nvc with bars := [(2, [0, 1])] } }, 0, by decide⟩,
   ⟨{ inMode .standby with nvc := { (inMode .standby).nvc with cores := [{ wait := .mailbox, in15 := true }] } }, 0, by decide⟩,
   ⟨{ (running 0).setByte 0x10000041 7 with nvc := { (inMode .standby).nvc with cores := [{ streams := [⟨0, ⟨true, 1, 64, 0x10000040, 64, 1, 64, 64⟩, [], false, false⟩] }] } }, 0, 0, ⟨0, ⟨true, 1, 64, 0x10000040, 64, 1, 64, 64⟩, [], false, false⟩, by decide⟩,
   ⟨{ running 0 with nvc := { (inMode .standby).nvc with cores := [{ streams := [⟨0, ⟨true, 1, 64, 0, 64, 1, 64, 64⟩, [], false, false⟩] }] } }, 0, 0, ⟨0, ⟨true, 1, 64, 0, 64, 1, 64, 64⟩, [], false, false⟩, by decide⟩⟩

theorem witness_BundlesIssue :
    (∃ (s : State) (core : Fin 16) (o0 : Op0) (o1 : OpM) (o2 : OpM) (o3 : Op3) (fe : BitVec 32) (be : BitVec 32) (cause : Nat), s.coreSt core = Co.running ∧ (s.core core).wait = .none ∧ op0Fits (s.word core 0) o0 = true ∧ op3Fits (s.word core 3) o3 = true ∧ bundleFault (s.word core 0) (s.word core 1) (s.word core 2) (s.word core 3) o0 o1 o2 o3 (s.core core) (s.get (R.NVC_CORE_STAT core) F.NVC_CORE_STAT_PC) = some cause) ∧
    (∃ (s : State) (core : Fin 16) (o0 : Op0) (o1 : OpM) (o2 : OpM) (o3 : Op3) (fe : BitVec 32) (be : BitVec 32), BundleRuns s core o0 o1 o2 o3 ∧ (s.core core).loops = [] ∧ (op0Class o0 ≤ 2 ∨ op0Class o0 = 8) ∧ wClass (s.word core 0) ≠ 5) ∧
    (∃ (s : State) (core : Fin 16) (o0 : Op0) (o1 : OpM) (o2 : OpM) (o3 : Op3) (fe : BitVec 32) (be : BitVec 32), BundleRuns s core o0 o1 o2 o3 ∧ (o0 = .br ∨ o0 = .call ∨ o0 = .brc (s.core core).cond)) ∧
    (∃ (s : State) (core : Fin 16) (i : Fin 16) (a : Fin 16) (o1 : OpM) (o2 : OpM) (o3 : Op3) (fe : BitVec 32) (be : BitVec 32), BundleRuns s core (.mbxw i a) o1 o2 o3) ∧
    (∃ (s : State) (core : Fin 16) (o1 : OpM) (o2 : OpM) (o3 : Op3) (fe : BitVec 32) (be : BitVec 32), BundleRuns s core (.done none) o1 o2 o3 ∧ (s.core core).job = 0 ∧ (s.core core).held = false) :=
  ⟨⟨(running 0).setMemN (nvPm 0) 4 0x70000000, 0, .halt, ⟨false, 0⟩, ⟨false, 0⟩, .plain, 0, 0, 7, by decide⟩,
   ⟨(running 0).setMemN (nvPm 0) 4 0x10000000, 0, .reg .add 1 2 3, ⟨false, 0⟩, ⟨false, 0⟩, .plain, 0, 0, by decide⟩,
   ⟨(running 0).setMemN (nvPm 0) 4 0x30000123, 0, .br, ⟨false, 0⟩, ⟨false, 0⟩, .plain, 0, 0, by decide⟩,
   ⟨(running 0).setMemN (nvPm 0) 4 0x70000000, 0, 15, 0, ⟨false, 0⟩, ⟨false, 0⟩, .plain, 0, 0, by decide⟩,
   ⟨(running 0).setMemN (nvPm 0) 4 0x70000000, 0, ⟨false, 0⟩, ⟨false, 0⟩, .plain, 0, 0, by decide⟩⟩

theorem witness_LaneSignalAndLock :
    (∃ (s : State) (n : Fin 16), s.laneRx n ≠ Rx.off) ∧
    (∃ (s : State) (n : Fin 16), s.laneRx n = Rx.up ∧ s.pers (n.val / 4) ≠ 2) ∧
    (∃ (s : State) (n : Fin 16), (s.laneRx n = Rx.lull ∨ s.laneRx n = Rx.doldrums)) ∧
    (∃ (s : State) (n : Fin 16), s.laneRx n = Rx.off) ∧
    (∃ (s : State) (n : Fin 16), s.laneRx n ≠ Rx.off) ∧
    (∃ (s : State) (n : Fin 16) (peak : Fin 21) (eye : BitVec 8), s.cdrOn n = true ∧ s.flag (R.LN_STATE n) F.LN_STATE_LOS = false) ∧
    (∃ (s : State) (n : Fin 16), s.cdrOn n = true) ∧
    (∃ (s : State) (n : Fin 16), s.laneRx n = Rx.up ∧ s.pers (n.val / 4) ≠ 2) ∧
    (∃ (s : State) (n : Fin 16), s.laneRx n = Rx.hunt ∧ s.flag (R.LN_STATE n) F.LN_STATE_CDR = true ∧ (s.used (n.val / 4)).contains n.val = true ∧ s.pers (n.val / 4) ≠ 2) ∧
    (∃ (s : State) (n : Fin 16) (m : Nat), s.laneRx n = Rx.hunt ∧ s.flag (R.LN_STATE n) F.LN_STATE_CDR = true ∧ s.pers (n.val / 4) = 2 ∧ m ∈ grpLanes (n.val / 4) ∧ m ≠ n.val ∧ s.flag (R.LN_STATE m) F.LN_STATE_BLOCK = false) ∧
    (∃ (s : State) (n : Fin 16) (bad : BitVec 16), s.flag (R.LN_STATE n) F.LN_STATE_BLOCK = true) ∧
    (∃ (s : State) (n : Fin 16), (s.laneRx n = Rx.hunt ∨ s.laneRx n = Rx.locked) ∧ s.pers (n.val / 4) ≠ 2 ∧ s.huntOver n 16 = true) ∧
    (∃ (s : State) (n : Fin 16), s.laneRx n = Rx.noPartner ∧ s.pers (n.val / 4) ≠ 2 ∧ s.huntOver n 100 = true) ∧
    (∃ (s : State) (n : Fin 16), s.laneRx n = Rx.locked ∧ s.pers (n.val / 4) = 1 ∧ n.val < s.ln.lanes.length) :=
  ⟨⟨laneIn 3 5, 0, by decide⟩,
   ⟨laneIn 3 5, 0, by decide⟩,
   ⟨laneIn 3 6, 0, by decide⟩,
   ⟨State.reset, 0, by decide⟩,
   ⟨laneIn 3 5, 0, by decide⟩,
   ⟨laneIn 3 2, 0, 3, 0, by decide⟩,
   ⟨laneIn 3 2, 0, by decide⟩,
   ⟨laneIn 3 5, 0, by decide⟩,
   ⟨(laneIn 3 2).setFlag (R.LN_STATE 0) F.LN_STATE_CDR true, 0, by decide⟩,
   ⟨(laneIn 2 2).setFlag (R.LN_STATE 0) F.LN_STATE_CDR true, 0, 1, by decide⟩,
   ⟨(laneIn 3 5).setFlag (R.LN_STATE 0) F.LN_STATE_BLOCK true, 0, 0, by decide⟩,
   ⟨{ laneIn 3 2 with now := 10 ^ 9 }, 0, by decide⟩,
   ⟨{ laneIn 3 3 with now := 10 ^ 9 }, 0, by decide⟩,
   ⟨laneIn 1 4, 0, by decide⟩⟩

theorem witness_GaleBlocks :
    (∃ (s : State) (n : Fin 16) (line : List Bool), s.galeOn n = false) ∧
    (∃ (s : State) (n : Fin 16) (line : List Bool) (b : GaleBlock) (skew : BitVec 8) (i : Instr), s.galeOn n = true ∧ (s.galeBlock n line).2 = some b ∧ (b.hdr = 0 ∨ b.hdr = 3) ∧ i ∈ [.galeSyncBlock n line, .galeAlignBlock n line skew, .galeSomBlock n line, .galeDataBlock n line, .galeIdleBlock n line, .galeAbortBlock n line]) ∧
    (∃ (s : State) (n : Fin 16) (line : List Bool) (b : GaleBlock), s.galeOn n = true ∧ (s.galeBlock n line).2 = some b ∧ b.hdr = 2 ∧ payByte b.raw 0 = 0x2D ∧ (crc8 ((List.range 8).map (fun i => payByte b.raw (i + 1))) ≠ payByte b.raw 9)) ∧
    (∃ (s : State) (n : Fin 16) (line : List Bool) (b : GaleBlock), s.galeOn n = true ∧ (s.galeBlock n line).2 = some b ∧ b.hdr = 2 ∧ payByte b.raw 0 = 0x2D ∧ (crc8 ((List.range 8).map (fun i => payByte b.raw (i + 1))) = payByte b.raw 9) ∧ s.laneRx n = Rx.up ∧ n.val < s.ln.lanes.length ∧ (s.lane n).lfsr ≠ BitVec.ofNat 58 (b.raw / 256)) ∧
    (∃ (s : State) (n : Fin 16) (line : List Bool) (b : GaleBlock), s.pers (n.val / 4) = 3 ∧ s.laneRx n = Rx.locked ∧ s.used (n.val / 4) = [n.val] ∧ (s.galeBlock n line).2 = some b ∧ b.hdr = 2 ∧ payByte b.raw 0 = 0x2D ∧ (crc8 ((List.range 8).map (fun i => payByte b.raw (i + 1))) = payByte b.raw 9) ∧ n.val < s.ln.lanes.length) ∧
    (∃ (s : State) (n : Fin 16) (line : List Bool) (skew : BitVec 8) (b : GaleBlock), s.galeOn n = true ∧ s.bonded (n.val / 4) = false ∧ (s.lane n).loaded = true ∧ (s.galeBlock n line).2 = some b ∧ b.hdr = 2 ∧ payByte b.plain 0 = 0x36) ∧
    (∃ (s : State) (n : Fin 16) (line : List Bool) (b : GaleBlock) (len : Nat), s.galeOn n = true ∧ s.galeCarries n = true ∧ (s.lane n).loaded = true ∧ (s.galeBlock n line).2 = some b ∧ b.hdr = 2 ∧ payByte b.plain 0 = 0x4E ∧ len = payByte b.plain 1 + 256 * payByte b.plain 2 ∧ 13 < len ∧ len ≤ 9000 ∧ n.val / 4 < s.ln.grps.length) ∧
    (∃ (s : State) (n : Fin 16) (line : List Bool) (b : GaleBlock) (len : Nat), s.galeOn n = true ∧ s.galeCarries n = true ∧ (s.lane n).loaded = true ∧ (s.galeBlock n line).2 = some b ∧ b.hdr = 2 ∧ payByte b.plain 0 = 0x4E ∧ len = payByte b.plain 1 + 256 * payByte b.plain 2 ∧ (len = 0 ∨ 9000 < len) ∧ (s.grp (n.val / 4)).msg = none) ∧
    (∃ (s : State) (n : Fin 16) (line : List Bool) (b : GaleBlock), s.galeOn n = true ∧ s.galeCarries n = true ∧ (s.galeBlock n line).2 = some b ∧ b.hdr = 1 ∧ (s.grp (n.val / 4)).msg = none ∧ (s.grp (n.val / 4)).drop = 0) ∧
    (∃ (s : State) (n : Fin 16) (line : List Bool) (b : GaleBlock) (m : Nat × List Byte), s.galeOn n = true ∧ s.galeCarries n = true ∧ (s.lane n).loaded = true ∧ (s.galeBlock n line).2 = some b ∧ b.hdr = 2 ∧ [0x36, 0x4E, 0x53].contains (payByte b.plain 0) = false ∧ (s.grp (n.val / 4)).msg = some m ∧ n.val / 4 < s.ln.grps.length) ∧
    (∃ (s : State) (n : Fin 16) (line : List Bool) (b : GaleBlock) (m : Nat × List Byte), s.galeOn n = true ∧ s.galeCarries n = true ∧ (s.lane n).loaded = true ∧ (s.galeBlock n line).2 = some b ∧ b.hdr = 2 ∧ payByte b.plain 0 = 0x53 ∧ (s.grp (n.val / 4)).msg = some m ∧ n.val / 4 < s.ln.grps.length) ∧
    (∃ (s : State) (n : Fin 16), s.galeSends n = true ∧ n.val < s.ln.lanes.length ∧ (s.lane n).txOwe = false ∧ (s.lane n).txN ≠ 0 ∧ (s.lane n).txN % 1024 = 0 ∧ (s.lane n).txN % 4096 ≠ 0) ∧
    (∃ (s : State) (n : Fin 16), s.galeSends n = true ∧ n.val < s.ln.lanes.length ∧ (s.lane n).txOwe = false ∧ (s.lane n).txN ≠ 0 ∧ (s.lane n).txN % 4096 = 0) ∧
    (∃ (s : State) (n : Fin 16), s.galeSends n = true ∧ n.val < s.ln.lanes.length) ∧
    (∃ (s : State) (n : Fin 16), s.galeSends n = true ∧ n.val < s.ln.lanes.length ∧ (s.lane n).txOwe = true) :=
  ⟨⟨State.reset, 0, [], by decide⟩,
   ⟨galeIn 5, 0, galeLine 3 (padPay 0), blockIn (galeIn 5) 3 (padPay 0), 0, .galeDataBlock 0 (galeLine 3 (padPay 0)), by decide⟩,
   ⟨galeIn 5, 0, galeLine 2 (padPay 0x2D), blockIn (galeIn 5) 2 (padPay 0x2D), by decide⟩,
   ⟨galeIn 5, 0, galeLine 2 (syncPay 0x155555555555555), blockIn (galeIn 5) 2 (syncPay 0x155555555555555), by decide⟩,
   ⟨laneIn 3 4, 0, galeLine 2 (syncPay 0x155555555555555), blockIn (laneIn 3 4) 2 (syncPay 0x155555555555555), by decide⟩,
   ⟨galeIn 5, 0, galeLine 2 (padPay 0x36), 0, blockIn (galeIn 5) 2 (padPay 0x36), by decide⟩,
   ⟨galeIn 5, 0, galeLine 2 0x5555555555555555555555555501114E, blockIn (galeIn 5) 2 0x5555555555555555555555555501114E, 0x111, by decide⟩,
   ⟨galeIn 5, 0, galeLine 2 (padPay 0x4E), blockIn (galeIn 5) 2 (padPay 0x4E), 0x5555, by decide⟩,
   ⟨galeIn 5, 0, galeLine 1 (padPay 0), blockIn (galeIn 5) 1 (padPay 0), by decide⟩,
   ⟨(galeIn 5).setGrp 0 { msg := some (20, []) }, 0, galeLine 2 (padPay 0x1B), blockIn (galeIn 5) 2 (padPay 0x1B), (20, []), by decide⟩,
   ⟨(galeIn 5).setGrp 0 { msg := some (20, []) }, 0, galeLine 2 (padPay 0x53), blockIn (galeIn 5) 2 (padPay 0x53), (20, []), by decide⟩,
   ⟨((laneIn 3 5).put (R.LN_STATE 0) F.LN_STATE_TX 2).setLane 0 { txN := 1024 }, 0, by decide⟩,
   ⟨((laneIn 3 5).put (R.LN_STATE 0) F.LN_STATE_TX 2).setLane 0 { txN := 8192 }, 0, by decide⟩,
   ⟨((laneIn 3 5).put (R.LN_STATE 0) F.LN_STATE_TX 2).setLane 0 { txN := 8190 }, 0, by decide⟩,
   ⟨((laneIn 3 5).put (R.LN_STATE 0) F.LN_STATE_TX 2).setLane 0 { txN := 1023, txOwe := true }, 0, by decide⟩⟩

theorem witness_LanePowerAndChecks :
    (∃ (s : State) (g : Fin 4) (errs : BitVec 10), (s.pers g = 1 ∨ s.pers g = 2) ∧ s.laneRx (4 * g.val) = Rx.up ∧ 0 < errs.toNat) ∧
    (∃ (s : State) (g : Fin 4), s.pers g = 1 ∧ s.laneRx (4 * g.val) = Rx.up) ∧
    (∃ (s : State) (g : Fin 4), s.flag (R.LN_GROUP_STAT g) F.LN_GROUP_STAT_PLL_LOCK = true) ∧
    (∃ (s : State) (g : Fin 4), s.pllRuns g = true) ∧
    (∃ (s : State) (n : Fin 16) (high : Bool), s.flag (R.LN_CTLE n) F.LN_CTLE_MODE = false ∧ s.cdrOn n = true ∧ s.flag (R.LN_STATE n) F.LN_STATE_LOS = false ∧ s.flag (R.LN_CTLE n) F.LN_CTLE_LIM = false) ∧
    (∃ (s : State) (n : Fin 16), (s.lane n).exiting = false) ∧
    (∃ (s : State) (n : Fin 16), (s.lane n).exiting = true ∧ s.laneRx n = Rx.off ∧ (s.grp (n.val / 4)).step = 2) ∧
    (∃ (s : State) (n : Fin 16), (s.lane n).exiting = true ∧ s.laneRx n = Rx.lull ∧ (s.lane n).goal = 0) ∧
    (∃ (s : State) (g : Fin 4), (s.grp g).waits = none) ∧
    (∃ (s : State) (g : Fin 4) (cfg : Word), (s.grp g).waits = some cfg) ∧
    (∃ (s : State) (n : Fin 16), s.checks n = true ∧ s.flag (R.LN_PAT_STAT n) F.LN_PAT_STAT_SYNC = false) ∧
    (∃ (s : State) (n : Fin 16) (bits : BitVec 48) (errs : BitVec 32), s.checks n = true ∧ s.flag (R.LN_PAT_STAT n) F.LN_PAT_STAT_SYNC = true) ∧
    (∃ (s : State) (n : Fin 16) (errs : BitVec 32), s.checks n = true ∧ s.flag (R.LN_PAT_STAT n) F.LN_PAT_STAT_SYNC = true ∧ s.get64 (R.LN_PAT_BITS n) < 2 ^ 48) :=
  ⟨⟨laneIn 1 5, 0, 8, by decide⟩,
   ⟨laneIn 1 5, 0, by decide⟩,
   ⟨(laneIn 1 5).setFlag (R.LN_GROUP_STAT 0) F.LN_GROUP_STAT_PLL_LOCK true, 0, by decide⟩,
   ⟨laneIn 1 5, 0, by decide⟩,
   ⟨laneIn 3 5, 0, true, by decide⟩,
   ⟨State.reset, 0, by decide⟩,
   ⟨(State.reset.setLane 0 { exiting := true }).setGrp 0 { step := 2 }, 0, by decide⟩,
   ⟨(laneIn 3 6).setLane 0 { exiting := true, goal := 0 }, 0, by decide⟩,
   ⟨State.reset, 0, by decide⟩,
   ⟨(laneIn 3 5).setGrp 0 { waits := some 0x43 }, 0, 0x43, by decide⟩,
   ⟨(laneIn 3 7).setFlag (R.LN_PAT_CFG 0) F.LN_PAT_CFG_CHK_EN true, 0, by decide⟩,
   ⟨((laneIn 3 7).setFlag (R.LN_PAT_CFG 0) F.LN_PAT_CFG_CHK_EN true).setFlag (R.LN_PAT_STAT 0) F.LN_PAT_STAT_SYNC true, 0, 2000, 70, by decide⟩,
   ⟨((laneIn 3 7).setFlag (R.LN_PAT_CFG 0) F.LN_PAT_CFG_CHK_EN true).setFlag (R.LN_PAT_STAT 0) F.LN_PAT_STAT_SYNC true, 0, 0, by decide⟩⟩

theorem witness_PortsAcceptAndForward :
    (∃ (s : State) (g : Fin 4) (f : EthFrame), s.role g = 0) ∧
    (∃ (s : State) (g : Fin 4) (f : EthFrame), (s.role g = 1 ∨ s.role g = 3) ∧ s.gale g = false ∧ (f.bad = true ∨ s.tagOk g f.tags = false ∨ s.get (R.FH_PORT_CFG g) F.FH_PORT_CFG_MTU < f.len.toNat)) ∧
    (∃ (s : State) (g : Fin 4) (f : EthFrame), (s.role g = 1 ∨ s.role g = 3) ∧ s.gale g = false ∧ f.bad = false ∧ s.tagOk g f.tags = true ∧ f.len.toNat ≤ s.get (R.FH_PORT_CFG g) F.FH_PORT_CFG_MTU ∧ s.dstOk g f.dst.toNat = false ∧ s.cascOf g = none) ∧
    (∃ (s : State) (g : Fin 4) (f : EthFrame), (s.role g = 1 ∨ s.role g = 3) ∧ s.gale g = false ∧ f.bad = false ∧ s.tagOk g f.tags = true ∧ f.len.toNat ≤ s.get (R.FH_PORT_CFG g) F.FH_PORT_CFG_MTU ∧ s.dstOk g f.dst.toNat = true ∧ f.kind = .other) ∧
    (∃ (s : State) (g : Fin 4) (f : EthFrame) (e : Bool), (s.role g = 1 ∨ s.role g = 3) ∧ s.gale g = false ∧ f.bad = false ∧ s.tagOk g f.tags = true ∧ f.len.toNat ≤ s.get (R.FH_PORT_CFG g) F.FH_PORT_CFG_MTU ∧ s.dstOk g f.dst.toNat = true ∧ (f.kind = .ptp e ∨ f.kind = .slow 0x0A) ∧ s.rxBytes g 2 + f.len.toNat ≤ queueSize) ∧
    (∃ (s : State) (g : Fin 4) (f : EthFrame) (u : Nat), s.role g = 2 ∧ s.gale g = false ∧ s.upOf g = some u ∧ f.dst.toNat ≠ s.get64 (R.FH_PORT_MAC g) % 2 ^ 48 ∧ f.bad = false ∧ f.kind = .ip ∧ s.txBytes u 1 + f.len.toNat ≤ queueSize) ∧
    (∃ (s : State) (g : Fin 4) (tx : Bool), (s.get64 (if tx then R.FH_TX_FRAMES g else R.FH_RX_FRAMES g) % 2 ^ 48 = 2 ^ 48 - 1)) ∧
    (∃ (s : State) (g : Fin 4) (len : BitVec 14) (f : RxFrame), s.fh.rx.head? = some f ∧ f.port = g.val ∧ f.kind = .arp ∧ s.txBytes g 3 + len.toNat ≤ queueSize) ∧
    (∃ (s : State) (g : Fin 4) (f : RxFrame), s.fh.rx.head? = some f ∧ f.port = g.val ∧ f.kind = .ip) ∧
    (∃ (s : State) (g : Fin 4) (f : RxFrame) (e : Bool) (num : BitVec 8) (d : Nat), s.fh.rx.head? = some f ∧ f.port = g.val ∧ f.kind = .ptp e ∧ s.ptpDom g num.toNat = some (d, true) ∧ d < s.ts.doms.length) ∧
    (∃ (s : State) (g : Fin 4) (f : RxFrame) (e : Bool) (num : BitVec 8) (d : Nat), s.fh.rx.head? = some f ∧ f.port = g.val ∧ f.kind = .ptp e ∧ s.ptpDom g num.toNat = some (d, true)) ∧
    (∃ (s : State) (g : Fin 4) (f : RxFrame) (e : Bool) (num : BitVec 8) (d : Nat) (k : PtpKind), s.fh.rx.head? = some f ∧ f.port = g.val ∧ f.kind = .ptp e ∧ s.ptpDom g num.toNat = some (d, false) ∧ d < s.ts.doms.length) ∧
    (∃ (s : State) (g : Fin 4) (f : RxFrame) (st : BitVec 8) (ql : BitVec 4), s.fh.rx.head? = some f ∧ f.port = g.val ∧ f.kind = .slow st) :=
  ⟨⟨State.reset, 0, frameOf .ip false, by decide⟩,
   ⟨portAt 1, 0, frameOf .ip true, by decide⟩,
   ⟨portAt 1, 0, { frameOf .ip false with dst := 5 }, by decide⟩,
   ⟨portAt 1, 0, frameOf .other false, by decide⟩,
   ⟨portAt 1, 0, frameOf (.ptp true) false, true, by decide⟩,
   ⟨(((portAt 1).put (R.FH_PORT_CFG 1) F.FH_PORT_CFG_ROLE 2).put (R.FH_PORT_CFG 0) F.FH_PORT_CFG_CASC 1).setFlag (R.FH_PORT_CFG 0) F.FH_PORT_CFG_CASC_EN true, 1, frameOf .ip false, 0, by decide⟩,
   ⟨(portAt 1).put64 (R.FH_TX_FRAMES 0) (2 ^ 48 - 1), 0, true, by decide⟩,
   ⟨rxHas .arp 3, 0, 0, ⟨0, 3, 100, .arp⟩, by decide⟩,
   ⟨rxHas .ip 3, 0, ⟨0, 3, 100, .ip⟩, by decide⟩,
   ⟨(rxHas (.ptp true) 2).put (R.TS_DOM_CFG 0) F.TS_DOM_CFG_SRC 1, 0, ⟨0, 2, 100, .ptp true⟩, true, 0, 0, by decide⟩,
   ⟨(rxHas (.ptp true) 2).put (R.TS_DOM_CFG 0) F.TS_DOM_CFG_SRC 1, 0, ⟨0, 2, 100, .ptp true⟩, true, 0, 0, by decide⟩,
   ⟨(rxHas (.ptp true) 2).put (R.TS_DOM_CFG 0) F.TS_DOM_CFG_SRC 1, 0, ⟨0, 2, 100, .ptp true⟩, true, 3, 0, .peer, by decide⟩,
   ⟨rxHas (.slow 0x0A) 2, 0, ⟨0, 2, 100, .slow 0x0A⟩, 0x0A, 0, by decide⟩⟩

theorem witness_DelayMeasurementsAndLaunch :
    (∃ (s : State) (g : Fin 4) (id : BitVec 8) (t2 : BitVec 32), (s.role g = 1 ∨ s.role g = 2) ∧ s.txBytes g 2 + delayLen ≤ queueSize) ∧
    (∃ (s : State) (g : Fin 4) (id : BitVec 8), (s.role g = 1 ∨ s.role g = 2) ∧ s.txBytes g 2 + delayLen ≤ queueSize) ∧
    (∃ (s : State) (g : Fin 4) (id : BitVec 8) (t2 : BitVec 32), (s.role g = 0 ∨ s.role g = 3)) ∧
    (∃ (s : State) (g : Fin 4) (id : BitVec 8) (t2 : BitVec 32) (comp : BitVec 32) (d : DelayReq) (t1 : Nat), (s.fh.delays.find? (fun x => x.port = g.val && x.id = id.toNat) = some d) ∧ d.t1 = some t1 ∧ d.ctx = none) ∧
    (∃ (s : State) (g : Fin 4) (id : BitVec 8) (t2 : BitVec 32) (comp : BitVec 32) (d : DelayReq) (t1 : Nat) (x : Nat), (s.fh.delays.find? (fun x => x.port = g.val && x.id = id.toNat) = some d) ∧ d.t1 = some t1 ∧ d.ctx = some x) ∧
    (∃ (s : State) (g : Fin 4) (slot : Fin 4096) (k : Fin 14) (n : Nat) (f : TxFrame) (fl : Nat) (se : Nat) (pr : Nat) (np : Nat) (sl : Nat) (kk : Nat) (st : Nat) (data : List Byte), s.link g = true ∧ (s.fh.tx.filter (fun x => x.ofSym g 0 slot k) = [f]) ∧ f.kind = .uplink fl se pr np sl kk st data ∧ s.upAt f 3 (s.get (R.FH_LAUNCH g) F.FH_LAUNCH_OFS) = true ∧ s.upAt f 4 0 = false ∧ 0 < n) ∧
    (∃ (s : State) (g : Fin 4) (f : TxFrame), s.link g = true ∧ s.role g ≠ 0 ∧ s.nextFrame g = some f) ∧
    (∃ (s : State) (g : Fin 4) (slot : Fin 4096) (k : Fin 14), s.link g = false) ∧
    (∃ (s : State) (g : Fin 4) (slot : Fin 4096) (k : Fin 14) (f : TxFrame), (s.fh.tx.filter (fun x => x.ofSym g 1 slot k) = [f]) ∧ s.upAt f 5 0 = true) ∧
    (∃ (s : State) (g : Fin 4) (slot : Fin 4096) (k : Fin 14), (s.fh.tx.all (fun x => !(x.ofSym g 1 slot k && s.upAt x 5 0)) = true)) ∧
    (∃ (s : State) (g : Fin 4) (slot : Fin 4096) (k : Fin 14) (f : TxFrame), (s.fh.tx.filter (fun x => x.ofSym g 0 slot k) = [f]) ∧ s.upAt f 4 0 = true) :=
  ⟨⟨portAt 1, 0, 0, 0, by decide⟩,
   ⟨portAt 1, 0, 0, by decide⟩,
   ⟨State.reset, 0, 0, 0, by decide⟩,
   ⟨{ portAt 1 with fh := { (portAt 1).fh with delays := [⟨0, 0, some 5, none⟩] } }, 0, 0, 0, 0, ⟨0, 0, some 5, none⟩, 5, by decide⟩,
   ⟨{ portAt 1 with fh := { (portAt 1).fh with delays := [⟨0, 0, some 5, some 1⟩] } }, 0, 0, 9, 0, ⟨0, 0, some 5, some 1⟩, 5, 1, by decide⟩,
   ⟨atCyc (txHas (ulFrame 0)) 60000, 0, 5, 0, 1, ulFrame 0, 0, 1, 0, 1, 5, 0, 0x200000, [], by decide⟩,
   ⟨txHas ⟨0, 3, 100, .answer⟩, 0, ⟨0, 3, 100, .answer⟩, by decide⟩,
   ⟨State.reset, 0, 0, 0, by decide⟩,
   ⟨atCyc (txHas (ulFrame 1)) 400000, 0, 5, 0, ulFrame 1, by decide⟩,
   ⟨txHas (ulFrame 1), 0, 5, 0, by decide⟩,
   ⟨atCyc (txHas (ulFrame 0)) 400000, 0, 5, 0, ulFrame 0, by decide⟩⟩

theorem witness_FronthaulMessages :
    (∃ (s : State) (g : Fin 4) (m : CMsg), s.role g = 1 ∧ s.mine m.id.toNat true = true ∧ m.version ≠ 1) ∧
    (∃ (s : State) (g : Fin 4) (m : CMsg), s.role g = 1 ∧ s.mine m.id.toNat true = true ∧ m.version = 1 ∧ s.flowFind g m.id.toNat m.ul = none) ∧
    (∃ (s : State) (g : Fin 4) (m : CMsg) (u : State) (f : Nat) (st : Nat) (x : CSection), s.role g = 1 ∧ s.mine m.id.toNat true = true ∧ m.version = 1 ∧ s.flowFind g m.id.toNat m.ul = some f ∧ s.msgStamp (s.flCar f) m.stamp.toNat = some st ∧ s.flPathm f = false ∧ s.flowRuns f = true ∧ m.sections = [x] ∧ u = s.flowSeq f m.seq.toNat ∧ u.sectTypeOk (u.flCar f) m x = true ∧ x.exts = [] ∧ x.beam.toNat < 16384 ∧ (u.before (shiftBy (u.tick st (if m.ul then 0 else -5) m.ul (u.flCar f)) (-(cyclesPerMs : Int))) m.age1.toNat = false) ∧ (u.inTime g (u.tick st (if m.ul then 2 else -3) m.ul (u.flCar f)) m.age2.toNat = true) ∧ (((u.sectPurge.sectReplace f x.id.toNat).fh.sects.filter (fun e => e.ctx = u.flOwner f)).length < u.get (R.FH_SECT_QUOTA (u.flOwner f)) F.FH_SECT_QUOTA_QUOTA)) ∧
    (∃ (s : State) (g : Fin 4) (m : UMsg) (l : List USection), s.role g = 1 ∧ s.mine m.id.toNat false = true ∧ m.body = .sections l ∧ m.version ≠ 1) ∧
    (∃ (s : State) (g : Fin 4) (m : UMsg) (u : State) (f : Nat) (st : Nat) (x : USection) (w : BitVec 4), s.role g = 1 ∧ s.mine m.id.toNat false = true ∧ m.version = 1 ∧ s.flowFind g m.id.toNat m.ul = some f ∧ s.flUl f = false ∧ s.msgStamp (s.flCar f) m.stamp.toNat = some st ∧ s.flPathm f = false ∧ s.flowRuns f = true ∧ m.body = .sections [x] ∧ m.filter = 0 ∧ x.rb = false ∧ x.symInc = false ∧ x.nprb = 1 ∧ x.comp = some (1, w) ∧ bfpWidth w.toNat = true ∧ u = s.sectPurge.flowSeq f m.seq.toNat ∧ u.before (u.tick st (-5) false 0) m.age1.toNat = false ∧ u.inTime g (u.tick st (-3) false 0) m.age2.toNat = true ∧ ((u.matching f x.id.toNat st).any (fun e => e.hasPrb x.prb.toNat) = true)) ∧
    (∃ (s : State) (g : Fin 4) (m : UMsg) (u : State) (f : Nat) (st : Nat) (ofs : BitVec 16) (data : List Byte), s.role g = 1 ∧ s.mine m.id.toNat false = true ∧ s.flowFind g m.id.toNat m.ul = some f ∧ s.flUl f = false ∧ s.msgStamp (s.flCar f) m.stamp.toNat = some st ∧ s.flPathm f = true ∧ s.flowRuns f = true ∧ m.body = .samples ofs 12 0 0 data ∧ u = s.sectPurge.flowSeq f m.seq.toNat ∧ u.before (u.tick st (-5) false 0) m.age1.toNat = false ∧ u.inTime g (u.tick st (-3) false 0) m.age2.toNat = true) :=
  ⟨⟨portAt 1, 0, { aCMsg with version := 2 }, by decide⟩,
   ⟨portAt 1, 0, aCMsg, by decide +kernel⟩,
   ⟨flowAt false, 0, aCMsg, (flowAt false).flowSeq 0 0, 0, 0xA0000, aCSect, by decide⟩,
   ⟨portAt 1, 0, { aUMsg with version := 2 }, [aUSect], by decide⟩,
   ⟨{ flowAt false with fh := { (flowAt false).fh with sects := [aSect] } }, 0, { aUMsg with body := .sections [{ aUSect with comp := some (1, 9) }] }, { flowAt false with fh := { (flowAt false).fh with sects := [aSect] } }.sectPurge.flowSeq 0 0, 0, 0xA0000, { aUSect with comp := some (1, 9) }, 9, by decide⟩,
   ⟨(flowAt false).setFlag (R.FH_FLOW 0 0) F.FH_FLOW_PATHM true, 0, { aUMsg with body := .samples 0 12 0 0 [] }, ((flowAt false).setFlag (R.FH_FLOW 0 0) F.FH_FLOW_PATHM true).sectPurge.flowSeq 0 0, 0, 0xA0000, 0, [], by decide⟩⟩

theorem witness_TimeDomainsAndSteps :
    (∃ (s : State), isRadio s.mode = true) ∧
    (∃ (s : State), isRadio s.mode = false) ∧
    (∃ (s : State) (d : Fin 2), (s.maySelect d = false ∨ s.steering = d.val)) ∧
    (∃ (s : State) (d : Fin 2), s.maySelect d = true ∧ s.steering ≠ d.val) ∧
    (∃ (s : State) (d : Fin 2) (e : BitVec 32), s.domSrc d = 1 ∧ s.flag R.TS_CTRL F.TS_CTRL_EN = true ∧ d.val < s.ts.doms.length) ∧
    (∃ (s : State) (d : Fin 2) (e : BitVec 32), (s.domSrc d ≠ 1 ∨ s.flag R.TS_CTRL F.TS_CTRL_EN = false)) ∧
    (∃ (s : State) (d : Fin 2), (s.dom d).pend = none) ∧
    (∃ (s : State) (d : Fin 2) (e : Int), (s.dom d).pend = some e ∧ s.spanPast 32 (s.dom d).took = true ∧ s.domState d = 0 ∧ d.val < s.ts.doms.length) ∧
    (∃ (s : State) (d : Fin 2) (e : Int), (s.dom d).pend = some e ∧ s.spanPast 32 (s.dom d).took = true ∧ s.domState d = 3 ∧ 16 * s.get (R.TS_DOM_LIM d) F.TS_DOM_LIM_OUTLIER < e.natAbs ∧ (s.dom d).rej < 3 ∧ d.val < s.ts.doms.length) ∧
    (∃ (s : State) (d : Fin 2) (e : Int), (s.dom d).pend = some e ∧ s.spanPast 32 (s.dom d).took = true ∧ s.domState d ≠ 0 ∧ e.natAbs ≤ 16 * s.get (R.TS_DOM_LIM d) F.TS_DOM_LIM_OUTLIER ∧ d.val < s.ts.doms.length) ∧
    (∃ (s : State) (d : Fin 2), (s.domState d = 2 ∨ s.domState d = 3) ∧ s.spanPast (s.get (R.TS_DOM_CFG d) F.TS_DOM_CFG_TMO * cyclesPerSecond) (s.dom d).last = true ∧ s.ts.auto = false ∧ d.val < s.ts.doms.length) ∧
    (∃ (s : State) (d : Fin 2), s.domState d ≠ 2 ∧ s.domState d ≠ 3) ∧
    (∃ (s : State), s.domState s.steering = 0 ∧ s.spanPast 32 s.ts.incAt = true) :=
  ⟨⟨inMode .tdd, by decide⟩,
   ⟨inMode .standby, by decide⟩,
   ⟨inMode .standby, 0, by decide⟩,
   ⟨(inMode .standby).setDomState 1 3, 1, by decide⟩,
   ⟨((inMode .standby).put (R.TS_DOM_CFG 0) F.TS_DOM_CFG_SRC 1).setFlag R.TS_CTRL F.TS_CTRL_EN true, 0, 0, by decide⟩,
   ⟨State.reset, 0, 0, by decide⟩,
   ⟨State.reset, 0, by decide⟩,
   ⟨(inMode .standby).setTime 0 { pend := some 5 }, 0, 5, by decide⟩,
   ⟨((inMode .standby).setTime 0 { pend := some 50000000 }).setDomState 0 3, 0, 50000000, by decide⟩,
   ⟨(((inMode .standby).put (R.TS_DOM_LIM 0) F.TS_DOM_LIM_OUTLIER 100).setTime 0 { pend := some 5 }).setDomState 0 2, 0, 5, by decide⟩,
   ⟨(inMode .standby).setDomState 0 3, 0, by decide⟩,
   ⟨State.reset, 0, by decide⟩,
   ⟨inMode .standby, by decide⟩⟩

theorem witness_EdgesClocksAndSyncE :
    (∃ (s : State), 0 ≤ nsDiff s.ns (s.rd R.TS_PPS_NEXT).toNat) ∧
    (∃ (s : State), s.ppsMay = true ∧ s.ppsPhase < 5) ∧
    (∃ (s : State), s.ppsMay = false) ∧
    (∃ (s : State), s.get R.TS_PPS_CFG F.TS_PPS_CFG_WIDTH * 1000000 ≤ s.ppsPhase) ∧
    (∃ (s : State) (ts : BitVec 32), s.flag R.TS_PPS_CFG F.TS_PPS_CFG_IN_EN = false) ∧
    (∃ (s : State) (ts : BitVec 32) (p : Nat) (x : Nat), s.flag R.TS_PPS_CFG F.TS_PPS_CFG_IN_EN = true ∧ x = unsigned 32 ((ts.toNat : Int) - signed 16 (s.get R.TS_PPS_DLY F.TS_PPS_DLY_IDLY)) ∧ s.ts.pps = some p ∧ (nsDiff x p).natAbs < 100000) ∧
    (∃ (s : State) (ts : BitVec 32) (x : Nat), s.flag R.TS_PPS_CFG F.TS_PPS_CFG_IN_EN = true ∧ x = unsigned 32 ((ts.toNat : Int) - signed 16 (s.get R.TS_PPS_DLY F.TS_PPS_DLY_IDLY)) ∧ (s.ts.pps.all (fun p => decide (100000 ≤ (nsDiff x p).natAbs)) = true)) ∧
    (∃ (s : State), s.flag R.TS_PPS_CFG F.TS_PPS_CFG_IN_EN = true ∧ s.ts.ppsLost = false ∧ s.ppsGone = true) ∧
    (∃ (s : State), s.ts.ppsLost = true) ∧
    (∃ (s : State), s.flag R.TS_STATUS F.TS_STATUS_REF_LOCK = true) ∧
    (∃ (s : State), s.pm.pllClocks = true) ∧
    (∃ (s : State) (meas : BitVec 32), s.flag R.TS_SYNCE_CFG F.TS_SYNCE_CFG_EN = false) ∧
    (∃ (s : State) (meas : BitVec 32), s.flag R.TS_SYNCE_CFG F.TS_SYNCE_CFG_EN = true ∧ s.spanPast cyclesPerSecond s.ts.gateAt = true ∧ s.laneRx (s.get R.TS_SYNCE_CFG F.TS_SYNCE_CFG_LANE) = Rx.up) ∧
    (∃ (s : State) (meas : BitVec 32), s.flag R.TS_SYNCE_CFG F.TS_SYNCE_CFG_EN = true ∧ s.spanPast cyclesPerSecond s.ts.gateAt = true ∧ s.laneRx (s.get R.TS_SYNCE_CFG F.TS_SYNCE_CFG_LANE) ≠ Rx.up) ∧
    (∃ (s : State) (g : Fin 4), (s.role g = 1 ∨ s.role g = 2) ∧ s.gale g = false ∧ s.fh.tx = [] ∧ s.spanPast cyclesPerSecond s.ts.esmcAt = true) ∧
    (∃ (s : State) (g : Fin 4) (q : Nat) (n : Nat), (s.role g = 1 ∨ s.role g = 2) ∧ s.gale g = false ∧ s.fh.tx = [] ∧ n = s.get R.TS_SYNCE_CFG F.TS_SYNCE_CFG_LANE ∧ s.flag R.TS_SYNCE_CFG F.TS_SYNCE_CFG_EN = true ∧ s.flag R.TS_STATUS F.TS_STATUS_SYNCE_OK = true ∧ nth s.ts.ql n none = some q ∧ s.spanPast cyclesPerSecond s.ts.esmcAt = true) :=
  ⟨⟨(inMode .standby).wr R.TS_PPS_NEXT 0, by decide⟩,
   ⟨(inMode .standby).setFlag R.TS_PPS_CFG F.TS_PPS_CFG_OUT_EN true |>.setFlag R.TS_PPS_CFG F.TS_PPS_CFG_GATE false, by decide⟩,
   ⟨State.reset, by decide⟩,
   ⟨(inMode .standby).put R.TS_PPS_CFG F.TS_PPS_CFG_WIDTH 0, by decide⟩,
   ⟨(inMode .standby).setFlag R.TS_PPS_CFG F.TS_PPS_CFG_IN_EN false, 0, by decide⟩,
   ⟨{ (inMode .standby).setFlag R.TS_PPS_CFG F.TS_PPS_CFG_IN_EN true with ts := { (inMode .standby).ts with pps := some 0 } }, 0, 0, 0, by decide⟩,
   ⟨(inMode .standby).setFlag R.TS_PPS_CFG F.TS_PPS_CFG_IN_EN true, 0, 0, by decide⟩,
   ⟨(inMode .standby).setFlag R.TS_PPS_CFG F.TS_PPS_CFG_IN_EN true, by decide⟩,
   ⟨{ inMode .standby with ts := { (inMode .standby).ts with ppsLost := true } }, by decide⟩,
   ⟨(inMode .standby).setFlag R.TS_STATUS F.TS_STATUS_REF_LOCK true, by decide⟩,
   ⟨{ inMode .standby with pm := { (inMode .standby).pm with pllClocks := true } }, by decide⟩,
   ⟨State.reset, 0, by decide⟩,
   ⟨(laneIn 1 5).setFlag R.TS_SYNCE_CFG F.TS_SYNCE_CFG_EN true, 0, by decide⟩,
   ⟨(laneIn 1 2).setFlag R.TS_SYNCE_CFG F.TS_SYNCE_CFG_EN true, 0, by decide⟩,
   ⟨portAt 1, 0, by decide⟩,
   ⟨{ (((portAt 1).put R.TS_SYNCE_CFG F.TS_SYNCE_CFG_LANE 4).setFlag R.TS_SYNCE_CFG F.TS_SYNCE_CFG_EN true).setFlag R.TS_STATUS F.TS_STATUS_SYNCE_OK true with ts := { (inMode .tdd).ts with ql := List.replicate 16 (some 4) } }, 0, 4, 4, by decide⟩⟩

theorem witness_RegisterAccess :
    (∃ (s : State) (addr : BitVec 32) (v : Word) (r : RegSpec), s.region addr.toNat = .regs ∧ addr.toNat % 4 = 0 ∧ refusedWrite addr.toNat v = false ∧ (s.actionWrite addr.toNat v false).isNone = true ∧ indexAt R.DFE_DPD_CFG 64 addr.toNat = none ∧ regSpec addr.toNat = some r ∧ r.cnt = false) ∧
    (∃ (s : State) (att : Attachment) (addr : BitVec 32) (w : Width) (v : Word), (addr.toNat % 4 ≠ 0 ∨ w ≠ .word)) ∧
    (∃ (s : State) (addr : BitVec 32) (w : Width), isWide (addr.toNat / 4 * 4) = true ∧ (addr.toNat % 4 ≠ 0 ∨ w ≠ .word)) ∧
    (∃ (s : State) (att : Attachment) (addr : BitVec 32) (w : Width) (v : Word), s.hiRuns = false) ∧
    (∃ (s : State) (addr : BitVec 32) (v : Word) (r : RegSpec), regSpec addr.toNat = some r ∧ r.cnt = true ∧ addr.toNat % 4 = 0) ∧
    (∃ (s : State) (addr : BitVec 32), isWide addr.toNat = true ∧ addr.toNat % 4 = 0 ∧ summaryRegs.contains addr.toNat = false ∧ (addr.toNat < R.TH_NBR 0 ∨ R.TH_NBR 48 ≤ addr.toNat)) ∧
    (∃ (s : State) (att : Attachment) (i : Fin 8) (v : Word), s.hiRuns = true ∧ ((s.ctxsOf (attNum att)).any s.isML = true ∨ att = .spi)) ∧
    (∃ (s : State) (att : Attachment) (i : Fin 8) (v : Word), (s.ctxsOf (attNum att)).any s.isML = false ∧ att ≠ .spi) :=
  ⟨⟨inMode .standby, BitVec.ofNat 32 R.TL_DISARM_GAP, 5, (regSpec R.TL_DISARM_GAP).getD ⟨0, 0, 0, 0, 0, 0, 0, 0, false, 0⟩, by decide +kernel⟩,
   ⟨State.reset, .pcieA, 0x40000001, .word, 0, by decide⟩,
   ⟨State.reset, 0x40800008, .half, by decide⟩,
   ⟨inMode .frost, .pcieA, 0, .word, 0, by decide⟩,
   ⟨State.reset, BitVec.ofNat 32 R.TS_STEP_REFUSED_CNT, 0, (regSpec R.TS_STEP_REFUSED_CNT).getD ⟨0, 0, 0, 0, 0, 0, 0, 0, true, 0⟩, by decide +kernel⟩,
   ⟨State.reset, 0x40800008, by decide⟩,
   ⟨hostAt, .pcieA, 0, 5, by decide⟩,
   ⟨inMode .standby, .pcieA, 0, 0, by decide⟩⟩

theorem witness_RingsAndCommands :
    (∃ (s : State) (att : Attachment) (ring : Fin 32) (v : Word), s.seesRing (attNum att) ring = false) ∧
    (∃ (s : State) (att : Attachment) (ring : Fin 32) (v : Word), s.hiRuns = true ∧ s.seesRing (attNum att) ring = true ∧ ring.val < 8 ∧ (s.ringRuns ring = true → (v.toNat % 2 ^ 16 + 2 ^ 16 - s.get (R.HI_RING_CONS ring) F.HI_RING_CONS_IDX) % 2 ^ 16 ≤ s.ringSize ring)) ∧
    (∃ (s : State) (att : Attachment) (ring : Fin 32) (v : Word), s.hiRuns = true ∧ s.seesRing (attNum att) ring = true ∧ ring.val < 8 ∧ s.ringRuns ring = true ∧ s.ringSize ring < (v.toNat % 2 ^ 16 + 2 ^ 16 - s.get (R.HI_RING_CONS ring) F.HI_RING_CONS_IDX) % 2 ^ 16) ∧
    (∃ (s : State) (att : Attachment) (ring : Fin 32) (v : Word), s.hiRuns = true ∧ s.seesRing (attNum att) ring = true ∧ 8 ≤ ring.val ∧ ring.val < 24 ∧ s.ringRuns ring = true ∧ (v.toNat % 2 ^ 16 + 2 ^ 16 - s.get (R.HI_RING_CONS ring) F.HI_RING_CONS_IDX) % 2 ^ 16 ≤ s.ringUsed ring) ∧
    (∃ (s : State) (att : Attachment) (ring : Fin 32) (v : Word), s.hiRuns = true ∧ s.seesRing (attNum att) ring = true ∧ 8 ≤ ring.val ∧ ring.val < 24 ∧ s.ringRuns ring = true ∧ s.ringUsed ring < (v.toNat % 2 ^ 16 + 2 ^ 16 - s.get (R.HI_RING_CONS ring) F.HI_RING_CONS_IDX) % 2 ^ 16) ∧
    (∃ (s : State) (att : Attachment) (ring : Fin 32) (v : Word), s.hiRuns = true ∧ s.seesRing (attNum att) ring = true ∧ hostProduces ring = true ∧ s.flag (R.HI_RING_CFG ring) F.HI_RING_CFG_LOC = true ∧ s.ringRuns ring = true ∧ s.spanOk (s.dataAddr ring) 4 = true) ∧
    (∃ (s : State) (att : Attachment) (ring : Fin 32), s.hiRuns = true ∧ s.seesRing (attNum att) ring = true ∧ hostProduces ring = false ∧ s.flag (R.HI_RING_CFG ring) F.HI_RING_CFG_LOC = true ∧ s.ringRuns ring = true ∧ s.spanOk (s.dataAddr ring) 4 = true) ∧
    (∃ (s : State) (att : Attachment) (ring : Fin 32) (v : Word), s.hiRuns = true ∧ s.seesRing (attNum att) ring = true ∧ ring.val < 24 ∧ s.flag (R.HI_RING_CFG ring) F.HI_RING_CFG_EN = false ∧ fldGet F.HI_RING_CFG_EN v = 1 ∧ s.ctxAtt (s.ringCtx ring) < 2 ∧ s.ctxState (s.ringCtx ring) = 1 ∧ (s.wr (R.HI_RING_CFG ring) (v &&& 0xFFFF1F3F)).ringShape ring = true) ∧
    (∃ (s : State) (c : Fin 8), fwRuns s.mode = true ∧ s.ctxState c = 1 ∧ s.ringRuns c = true ∧ s.ringUsed c ≠ 0 ∧ s.mayConsume c = true ∧ s.hiRefuses (s.cmdAt c).1 (s.cmdAt c).2 = none) ∧
    (∃ (s : State) (c : Fin 8) (d : Nat), fwRuns s.mode = true ∧ s.ctxState c = 1 ∧ s.ringRuns c = true ∧ s.ringUsed c ≠ 0 ∧ s.mayConsume c = true ∧ s.hiRefuses (s.cmdAt c).1 (s.cmdAt c).2 = some d) ∧
    (∃ (s : State) (c : Fin 8), fwRuns s.mode = true ∧ s.ctxState c = 1 ∧ s.ringRuns c = true ∧ s.ringUsed c ≠ 0 ∧ s.mayConsume c = false) ∧
    (∃ (s : State) (e : Event) (l : List Event), s.raised = e :: l) ∧
    (∃ (s : State), s.raised = []) ∧
    (∃ (s : State) (ring : Fin 32), nth s.hi.unsig ring 0 ≠ 0 ∧ s.get (R.HI_RING_CFG ring) F.HI_RING_CFG_ITIME ≠ 0 ∧ s.ctxAtt (s.ringCtx ring) < 2 ∧ s.get (R.HI_RING_CFG ring) F.HI_RING_CFG_ITIME * cyclesPerSecond ≤ 1000000 * (s.now - nth s.hi.unsigAt ring 0)) :=
  ⟨⟨inMode .standby, .pcieA, 0, 0, by decide⟩,
   ⟨ringOn hostAt 0, .pcieA, 0, 3, by decide⟩,
   ⟨ringOn hostAt 0, .pcieA, 0, 17, by decide⟩,
   ⟨(ringOn hostAt 8).put (R.HI_RING_PROD 8) F.HI_RING_PROD_IDX 4, .pcieA, 8, 3, by decide⟩,
   ⟨ringOn hostAt 8, .pcieA, 8, 3, by decide⟩,
   ⟨ringOn hostAt 0, .pcieA, 0, 3, by decide⟩,
   ⟨ringOn hostAt 8, .pcieA, 8, by decide⟩,
   ⟨hostAt, .pcieA, 0, fldSet F.HI_RING_CFG_EN (fldSet F.HI_RING_CFG_SIZE 0 4) 1, by decide⟩,
   ⟨cmdIn 0x0101, 0, by decide +kernel⟩,
   ⟨cmdIn 0xFFFF, 0, 0, by decide +kernel⟩,
   ⟨(cmdIn 0x0101).put (R.HI_CTX_STAT 0) F.HI_CTX_STAT_QUOTA 0, 0, by decide +kernel⟩,
   ⟨hostAt.raise 177 [0, 0], ⟨177, .all, 0, 0, false, [0, 0]⟩, [], by decide⟩,
   ⟨State.reset, by decide⟩,
   ⟨{ hostAt.put (R.HI_RING_CFG 0) F.HI_RING_CFG_ITIME 5 with now := 10 ^ 9, hi := { hostAt.hi with unsig := hostAt.hi.unsig.set 0 1 } }, 0, by decide⟩⟩

theorem witness_WindowsFramesAndPeripherals :
    (∃ (s : State) (att : Attachment) (c : Fin 8) (ofs : BitVec 12), s.hiRuns = true ∧ s.bindOf c = some (attNum att) ∧ ofs.toNat % 4 = 0 ∧ s.region (s.dbgAddr c ofs.toNat) ≠ .none ∧ s.dbgMay c (s.dbgAddr c ofs.toNat) = false) ∧
    (∃ (s : State) (att : Attachment) (c : Fin 8) (ofs : BitVec 12), s.hiRuns = true ∧ s.bindOf c = some (attNum att) ∧ ofs.toNat % 4 = 0 ∧ s.region (s.dbgAddr c ofs.toNat) = .none) ∧
    (∃ (s : State) (att : Attachment) (c : Fin 8) (ofs : BitVec 12), s.hiRuns = true ∧ s.bindOf c = some (attNum att) ∧ ofs.toNat % 4 = 0 ∧ s.region (s.dbgAddr c ofs.toNat) = .dram ∧ s.holds c 7 ((s.dbgAddr c ofs.toNat - dramBase) / 2 ^ 20) = true) ∧
    (∃ (s : State) (att : Attachment) (c : Fin 8) (ofs : BitVec 12) (v : Word), s.hiRuns = true ∧ s.bindOf c = some (attNum att) ∧ ofs.toNat % 4 = 0 ∧ (s.hi.unlock = false ∨ s.isML c = false)) ∧
    (∃ (s : State) (att : Attachment) (c : Fin 8) (ofs : BitVec 12) (v : Word), s.hiRuns = true ∧ s.bindOf c = some (attNum att) ∧ ofs.toNat % 4 = 0 ∧ s.hi.unlock = true ∧ s.isML c = true ∧ s.region (s.dbgAddr c ofs.toNat) = .regs ∧ s.mayReadReg c (s.dbgAddr c ofs.toNat) = true) ∧
    (∃ (s : State) (b : Byte) (o1 : Byte) (o2 : Byte), (s.mode = .frost ∨ s.mode = .thermalHold) ∧ b = 0x0B) ∧
    (∃ (s : State) (o1 : Byte) (o2 : Byte) (d0 : Byte) (d1 : Byte) (d2 : Byte) (d3 : Byte) (k : Byte), s.hiRuns = true ∧ k.toNat = crc8 [2, o1.toNat, o2.toNat, 1, d0.toNat, d1.toNat, d2.toNat, d3.toNat]) ∧
    (∃ (s : State) (o1 : Byte) (o2 : Byte) (d0 : Byte) (d1 : Byte) (d2 : Byte) (d3 : Byte) (k : Byte), s.hiRuns = true ∧ k.toNat ≠ crc8 [2, o1.toNat, o2.toNat, 1, d0.toNat, d1.toNat, d2.toNat, d3.toNat]) ∧
    (∃ (s : State) (g : Fin 4) (src : BitVec 48) (vlan : BitVec 12) (b : List Byte), s.hiRuns = true ∧ b.length < 16) ∧
    (∃ (s : State) (g : Fin 4) (src : BitVec 48) (vlan : BitVec 12) (b : List Byte) (body : List Byte) (c : Nat) (rec_ : InbandRec) (ops : List InOp) (u : State), s.hiRuns = true ∧ c < 8 ∧ s.bindOf c = some 2 ∧ s.hi.inband[c]? = some rec_ ∧ rec_.port = g.val ∧ rec_.mac = src.toNat ∧ rec_.vlan = vlan.toNat ∧ b = body ++ leBytes 8 (Config.aesCmac rec_.key body).toNat ∧ 8 ≤ body.length ∧ nth body 0 0 = 1 ∧ (nth body 1 0).toNat = c ∧ s.inCounterOk c (leNum ((body.drop 4).take 4)) = true ∧ inOps (leNum ((body.drop 2).take 2)) (body.drop 8) = some ops ∧ u = { s.attach c with hi := { (s.attach c).hi with inbandRx := (s.attach c).hi.inbandRx.set c (some (leNum ((body.drop 4).take 4))), inbandAt := (s.attach c).hi.inbandAt.set c (s.attach c).now } }) ∧
    (∃ (s : State), fwRuns s.mode = false) ∧
    (∃ (s : State), fwRuns s.mode = true ∧ s.spanPast (cyclesPerSecond / 10) s.hy.auditAt = true) ∧
    (∃ (s : State) (c : Byte), s.hi.uartRx.length < 64) ∧
    (∃ (s : State) (c : Byte), 64 ≤ s.hi.uartRx.length) ∧
    (∃ (s : State) (data : List Byte) (j : Job), s.hy.jobs = [j] ∧ j.wait = .i2c) ∧
    (∃ (s : State) (k : Fin 32), s.get (R.PM_GPIO_CFG k) F.PM_GPIO_CFG_FUNC % 3 ≠ 0) ∧
    (∃ (s : State) (k : Fin 32), s.get (R.PM_GPIO_CFG k) F.PM_GPIO_CFG_FUNC % 3 = 0 ∧ s.pm.frost = none) ∧
    (∃ (s : State) (dram : Bool) (block : BitVec 14), (s.hy.scrub.contains (if dram then 7 else 6, block.toNat) = true) ∧ s.hy.jobs = []) :=
  ⟨⟨hostAt, .pcieA, 0, 0, by decide⟩,
   ⟨hostAt.put64 (R.HI_DBG_BASE 0) 0x800000, .pcieA, 0, 0, by decide⟩,
   ⟨holding (hostAt.put64 (R.HI_DBG_BASE 0) dramBase) 7 0, .pcieA, 0, 0, by decide⟩,
   ⟨hostAt, .pcieA, 0, 0, 0, by decide⟩,
   ⟨{ hostAt.put64 (R.HI_DBG_BASE 0) 0x40000000 with hi := { hostAt.hi with unlock := true } }, .pcieA, 0, 0, 0, by decide⟩,
   ⟨inMode .frost, 0x0B, 0, 12, by decide⟩,
   ⟨hostAt, 0, 0, 0, 0, 0, 0, BitVec.ofNat 8 (crc8 [2, 0, 0, 1, 0, 0, 0, 0]), by decide⟩,
   ⟨hostAt, 0, 0, 0, 0, 0, 0, BitVec.ofNat 8 (crc8 [2, 0, 0, 1, 0, 0, 0, 0] + 1), by decide⟩,
   ⟨hostAt, 0, 0, 0, [], by decide⟩,
   ⟨inbandAt0, 0, 0, 0, [1, 0, 0, 0, 0, 0, 0, 0] ++ leBytes 8 (Config.aesCmac 0 [1, 0, 0, 0, 0, 0, 0, 0]).toNat, [1, 0, 0, 0, 0, 0, 0, 0], 0, ⟨0, 0, 0, 0⟩, [], inbandTaken, by and_intros <;> first | rfl | decide⟩,
   ⟨State.reset, by decide⟩,
   ⟨hostAt, by decide⟩,
   ⟨hostAt, 0, by decide⟩,
   ⟨{ hostAt with hi := { hostAt.hi with uartRx := List.replicate 64 0 } }, 0, by decide⟩,
   ⟨{ hostAt with hy := { hostAt.hy with jobs := [aWait .i2c] } }, [1], aWait .i2c, by decide⟩,
   ⟨hostAt.put (R.PM_GPIO_CFG 0) F.PM_GPIO_CFG_FUNC 1, 0, by decide⟩,
   ⟨hostAt, 0, by decide⟩,
   ⟨{ hostAt with hy := { hostAt.hy with scrub := [(7, 0)] } }, true, 0, by decide⟩⟩

theorem witness_DramControl :
    (∃ (s : State) (ch : Fin 2) (rt : Bool), s.dramUp = true ∧ s.mcP ch < 4 ∧ (rt = false ∨ s.mcP ch < 3) ∧ (s.spanPast (if s.flag (R.MC_REFRESH ch) F.MC_REFRESH_DBL then 960 else 1920) (nth s.mc.dueAt ch none) = true)) ∧
    (∃ (s : State) (ch : Fin 2), s.dramUp = true ∧ s.mcP ch = 3 ∧ (s.spanPast (if s.flag (R.MC_REFRESH ch) F.MC_REFRESH_DBL then 960 else 1920) (nth s.mc.dueAt ch none) = true)) ∧
    (∃ (s : State) (ch : Fin 2), s.dramUp = true ∧ -4 < s.mcP ch) ∧
    (∃ (s : State) (ch : Fin 2) (rt : Bool), s.dramUp = false) ∧
    (∃ (s : State) (ch : Fin 2) (reqs : List MemReq) (ecc : Fin 3) (q : MemReq) (d : List Byte), s.dramUp = true ∧ s.mcP ch ≠ 4 ∧ (s.arbiter ch (reqs.filter (fun q => q.port != 0 && q.len != 0)) = some q) ∧ q.data = some d ∧ s.spanOk q.addr.toNat (pieceLen q) = true ∧ s.region q.addr.toNat = .dram) ∧
    (∃ (s : State) (ch : Fin 2) (reqs : List MemReq) (q : MemReq), s.dramUp = true ∧ s.mcP ch ≠ 4 ∧ (s.arbiter ch (reqs.filter (fun q => q.port != 0 && q.len != 0)) = some q) ∧ q.data = none ∧ s.spanOk q.addr.toNat (pieceLen q) = true ∧ s.region q.addr.toNat = .dram) ∧
    (∃ (s : State) (ch : Fin 2), s.dramUp = true ∧ s.mc.target = none ∧ nth s.mc.window ch false = false ∧ ch.val < s.mc.window.length ∧ s.spanPast (s.get R.MC_CTRL F.MC_CTRL_RETRAIN * (cyclesPerSecond / 1000)) (nth s.mc.gatherAt ch none) = true) ∧
    (∃ (s : State) (ch : Fin 2) (ps : BitVec 8), nth s.mc.window ch false = true) ∧
    (∃ (s : State) (ch : Fin 2) (ps : BitVec 8), nth s.mc.window ch false = true) ∧
    (∃ (s : State) (sp : Fin 3), s.dramUp = true ∧ s.spAllowed sp = true ∧ s.mc.target = none) ∧
    (∃ (s : State) (sp : Nat), s.mc.target = some sp ∧ s.flag R.MC_STATUS F.MC_STATUS_CHANGING = true ∧ sp < 3) ∧
    (∃ (s : State) (port : Fin 8) (wr : Bool) (n : BitVec 12), 2 ^ 48 ≤ s.get64 (mcCounter port wr) % 2 ^ 48 + n.toNat) :=
  ⟨⟨dramAt, 0, true, by decide⟩,
   ⟨dramAt.setP 0 3, 0, by decide⟩,
   ⟨dramAt, 0, by decide⟩,
   ⟨inMode .frost, 0, true, by decide⟩,
   ⟨dramAt, 0, [⟨1, 0x1000000000, 2, some [1, 2]⟩], 0, ⟨1, 0x1000000000, 2, some [1, 2]⟩, [1, 2], by decide⟩,
   ⟨dramAt, 0, [⟨1, 0x1000000000, 2, none⟩], ⟨1, 0x1000000000, 2, none⟩, by decide⟩,
   ⟨dramAt, 0, by decide⟩,
   ⟨{ dramAt with mc := { dramAt.mc with window := [true, false] } }, 0, 0, by decide⟩,
   ⟨{ dramAt with mc := { dramAt.mc with window := [true, false] } }, 0, 9, by decide⟩,
   ⟨dramAt, 0, by decide⟩,
   ⟨{ dramAt.spStart with mc := { dramAt.mc with target := some 1 } }, 1, by decide⟩,
   ⟨dramAt.put64 (R.MC_PORT_WR_BYTES 0) (2 ^ 48 - 1), 0, true, 5, by decide⟩⟩

theorem witness_DmaChannels :
    (∃ (s : State) (ch : Fin 16) (sameCycle : Bool), (sameCycle = false ∨ 8 ≤ ch.val) ∧ (s.chSt ch ≠ 2 ∨ 8 ≤ ch.val)) ∧
    (∃ (s : State) (ch : Fin 16), ch.val < 8) ∧
    (∃ (s : State) (ch : Fin 16), ch.val < 8 ∧ s.chSt ch = 0 ∧ s.chEn ch = false ∧ ch.val < s.dma.descs.length) ∧
    (∃ (s : State) (ch : Fin 16), (s.chSt ch ≠ 0 ∨ s.chEn ch = true)) ∧
    (∃ (s : State) (ch : Fin 16), s.chEn ch = true ∧ ch.val < s.dma.descs.length) ∧
    (∃ (s : State) (ch : Fin 16), s.chEn ch = false) ∧
    (∃ (s : State), (s.readChannel = none ∨ s.freeSlot = none)) ∧
    (∃ (s : State) (c : Nat) (k : Nat) (d : DmaDesc), s.readChannel = some c ∧ s.freeSlot = some k ∧ (s.readAhead c).readable c = some d) ∧
    (∃ (s : State) (slot : Fin 64) (hostErr : Bool) (x : DmaSlot) (d : DmaDesc), (s.dma.slots.find? (fun x => x.slot = slot.val && x.state = 1) = some x) ∧ ((s.chDescs x.ch).find? (fun d => d.id = x.desc) = some d) ∧ d.err = 0 ∧ d.srcHost = false ∧ d.srcFix = false ∧ s.region x.src = .dram ∧ s.dmaMay (s.chOwner x.ch) x.src x.n false = true) ∧
    (∃ (s : State) (hostErr : Bool), s.drainSlot = none) ∧
    (∃ (s : State) (hostErr : Bool) (x : DmaSlot) (d : DmaDesc), s.drainSlot = some x ∧ ((s.chDescs x.ch).find? (fun d => d.id = x.desc) = some d) ∧ d.dstHost = false ∧ d.dstFix = false ∧ s.region x.dst = .dram ∧ s.dmaMay (s.chOwner x.ch) x.dst x.n true = true) ∧
    (∃ (s : State) (ch : Fin 16) (d : DmaDesc) (e : DmaDesc) (l : List DmaDesc), s.chDescs ch = d :: e :: l ∧ (s.dma.slots.any (fun x => x.ch = ch.val && x.desc = d.id) = false) ∧ d.err = 0 ∧ d.len ≤ d.doneN ∧ s.descMay ch (d.at_ + 23) 1 true = true ∧ s.region d.at_ ≠ .weight ∧ ch.val < 8 ∧ ch.val < s.dma.descs.length) ∧
    (∃ (s : State) (ch : Fin 16) (d : DmaDesc) (l : List DmaDesc), s.chDescs ch = d :: l ∧ (s.dma.slots.any (fun x => x.ch = ch.val && x.desc = d.id) = false) ∧ d.err ≠ 0 ∧ d.err < 8 ∧ s.descMay ch (d.at_ + 23) 1 true = true ∧ s.region d.at_ ≠ .weight ∧ ch.val < 8) ∧
    (∃ (s : State) (ch : Fin 16), s.chDescs ch = []) ∧
    (∃ (s : State) (line : Fin 8) (c : Fin 8), s.paced c = true ∧ s.chSt c = 3 ∧ s.chEn c = true ∧ s.get (R.DMA_CH_CFG c) F.DMA_CH_CFG_REQ = line.val ∧ s.lineHigh line = true) ∧
    (∃ (s : State) (ch : Fin 16) (n : BitVec 13), 2 ^ 48 ≤ s.get64 (R.DMA_CH_BYTES ch) % 2 ^ 48 + n.toNat) :=
  ⟨⟨dramAt, 0, false, by decide⟩,
   ⟨dramAt, 0, by decide⟩,
   ⟨dramAt, 0, by decide⟩,
   ⟨dmaAt [] [], 0, by decide⟩,
   ⟨dmaAt [] [], 0, by decide⟩,
   ⟨dramAt, 0, by decide⟩,
   ⟨dramAt, by decide⟩,
   ⟨dmaAt [aDesc 0 0 0] [], 0, 0, aDesc 0 0 0, by decide⟩,
   ⟨dmaAt [aDesc 0 0 0] [aSlot 1 []], 0, true, aSlot 1 [], aDesc 0 0 0, by decide⟩,
   ⟨dmaAt [] [], true, by decide⟩,
   ⟨dmaAt [aDesc 256 0 0] [aSlot 2 [1, 2]], true, aSlot 2 [1, 2], aDesc 256 0 0, by decide⟩,
   ⟨dmaAt [aDesc 256 256 0, aDesc 0 0 0] [], 0, aDesc 256 256 0, aDesc 0 0 0, [], by decide⟩,
   ⟨dmaAt [aDesc 256 0 1] [], 0, aDesc 256 0 1, [], by decide⟩,
   ⟨dmaAt [] [], 0, by decide⟩,
   ⟨((dmaAt [] []).setFlag (R.DMA_CH_CFG 0) F.DMA_CH_CFG_REQ_EN true).setChSt 0 3, 0, 0, by decide⟩,
   ⟨dramAt.put64 (R.DMA_CH_BYTES 0) (2 ^ 48 - 1), 0, 5, by decide⟩⟩

theorem witness_HousekeepingThermalJournal :
    (∃ (s : State) (squall : Bool), (s.hkSrc (if squall then 1 else 0) ≠ 1)) ∧
    (∃ (s : State), s.hkSrc 0 = 1 ∧ s.hk.armReg = true ∧ s.hk.regRun = none ∧ s.hk.cal = none ∧ s.hk.sqRun = none ∧ s.aonPast ((s.rd (R.HK_TIMER 0)).toNat * 49152 / 100) (nth s.hk.timerAt 0 0) = true) ∧
    (∃ (s : State), s.hkSrc 1 = 1 ∧ s.hk.armSq = true ∧ s.hk.sqRun = none ∧ s.aonPast ((s.rd (R.HK_TIMER 1)).toNat * 49152 / 100) (nth s.hk.timerAt 1 0) = true) ∧
    (∃ (s : State), s.flag R.HK_STAT F.HK_STAT_STARTUP = true) ∧
    (∃ (s : State) (raw : BitVec 24), (s.flag R.HK_STAT F.HK_STAT_STARTUP = true ∨ (s.hk.sqRun = none ∧ s.hk.cal = none ∧ s.hk.regRun = none))) ∧
    (∃ (s : State) (raw : BitVec 24) (k : Nat), s.flag R.HK_STAT F.HK_STAT_STARTUP = false ∧ s.hk.sqRun = none ∧ s.hk.cal = none ∧ s.hk.regRun = some k ∧ k + 1 < s.hkCount 0 ∧ s.hkCode 0 k < 43 ∧ s.get (R.HK_CAL (s.hkCode 0 k)) F.HK_CAL_O = 0 ∧ s.get (R.HK_CAL_HI (s.hkCode 0 k)) F.HK_CAL_G = 2 ^ 22) ∧
    (∃ (s : State) (sensor : Fin 48) (x : BitVec 16), sensor.val < s.th.hist.length) ∧
    (∃ (s : State), (s.lastT 46 = none ∨ s.lastT 47 = none)) ∧
    (∃ (s : State) (i : Nat), (s.lastT 46).isSome = true ∧ (s.lastT 47).isSome = true ∧ s.hottest = some i ∧ s.sensorsLost = false) ∧
    (∃ (s : State), s.flag R.TH_STAT F.TH_STAT_LOST = true) ∧
    (∃ (s : State), s.flag R.TH_STAT F.TH_STAT_LOST = false ∧ s.th.level = true ∧ 10500 ≤ signed 16 (s.get R.TH_STAT F.TH_STAT_HOT) ∧ s.stage < 3 ∧ s.aonPast 24576000 s.th.zoneAt = true) ∧
    (∃ (s : State), s.flag R.TH_STAT F.TH_STAT_LOST = false ∧ signed 16 (s.get R.TH_STAT F.TH_STAT_HOT) < 10000 ∧ 0 < s.stage ∧ s.aonPast 24576000 s.th.zoneAt = true) ∧
    (∃ (s : State) (ok : Bool), fwRuns s.mode = false) ∧
    (∃ (s : State) (ok : Bool), fwRuns s.mode = true ∧ s.spanPast cyclesPerSecond s.th.planAt = true ∧ s.th.planned = true ∧ s.flag R.PM_VCORE F.PM_VCORE_FROZEN = false ∧ s.minSlack < 800 ∧ s.get R.TH_MARGIN F.TH_MARGIN_MV < 850) ∧
    (∃ (s : State), s.hi.harvPeriod ≠ 0 ∧ s.hi.harvSpan / 1280 ≠ 0 ∧ (s.hi.harvAt + (if s.stage = 0 then s.hi.harvPeriod else max 1000 s.hi.harvPeriod) * 491520 ≤ s.now)) ∧
    (∃ (s : State), s.hi.harvPeriod = 0) ∧
    (∃ (s : State) (rec_ : BitVec 12), s.jAllowed false rec_.toNat = true) ∧
    (∃ (s : State) (rec_ : BitVec 12) (aon : Bool), s.jAllowed aon rec_.toNat = false) ∧
    (∃ (s : State) (w : JWrite) (l : List JWrite), s.nvj.queue = w :: l ∧ w.group = 0) ∧
    (∃ (s : State) (w : JWrite) (l : List JWrite), s.nvj.queue = w :: l ∧ s.nvj.retry = false) ∧
    (∃ (s : State) (w : JWrite) (l : List JWrite), s.nvj.queue = w :: l ∧ s.nvj.retry = true ∧ w.group = 0) :=
  ⟨⟨State.reset, true, by decide⟩,
   ⟨{ hostAt.put (R.HK_SEQ_CFG 0) F.HK_SEQ_CFG_TRIG 1 with hk := { hostAt.hk with armReg := true, regRun := none, sqRun := none, cal := none } }, by decide⟩,
   ⟨{ hostAt.put (R.HK_SEQ_CFG 1) F.HK_SEQ_CFG_TRIG 1 with hk := { hostAt.hk with armSq := true, sqRun := none } }, by decide⟩,
   ⟨hostAt.setFlag R.HK_STAT F.HK_STAT_STARTUP true, by decide⟩,
   ⟨hostAt.setFlag R.HK_STAT F.HK_STAT_STARTUP true, 0, by decide⟩,
   ⟨{ (hostAt.put (R.HK_SEQ_CFG 0) F.HK_SEQ_CFG_COUNT 3).put (R.HK_CAL_HI 0) F.HK_CAL_G (2 ^ 22) with hk := { hostAt.hk with regRun := some 0, sqRun := none, cal := none } }, 5, 0, by decide⟩,
   ⟨hostAt, 0, 0, by decide⟩,
   ⟨hostAt, by decide⟩,
   ⟨{ hostAt with th := { hostAt.th with hist := (List.replicate 46 []) ++ [[5], [5]] } }, 46, by decide⟩,
   ⟨hostAt.setFlag R.TH_STAT F.TH_STAT_LOST true, by decide⟩,
   ⟨{ hostAt.put R.TH_STAT F.TH_STAT_HOT 11000 with now := 10 ^ 9, th := { hostAt.th with level := true } }, by decide⟩,
   ⟨{ hostAt.put R.TH_STAT F.TH_STAT_STAGE 2 with now := 10 ^ 9 }, by decide⟩,
   ⟨inMode .frost, true, by decide⟩,
   ⟨{ hostAt with th := { hostAt.th with planned := true } }, true, by decide⟩,
   ⟨{ hostAt with now := 10 ^ 9, hi := { hostAt.hi with harvPeriod := 1, harvSpan := 2560, harvBase := dramBase } }, by decide⟩,
   ⟨{ hostAt with hi := { hostAt.hi with harvPeriod := 0 } }, by decide⟩,
   ⟨State.reset, 40, by decide⟩,
   ⟨State.reset, 40, true, by decide⟩,
   ⟨{ hostAt with nvj := { hostAt.nvj with queue := [aJw] } }, aJw, [], by decide⟩,
   ⟨{ hostAt with nvj := { hostAt.nvj with queue := [aJw] } }, aJw, [], by decide⟩,
   ⟨{ hostAt with nvj := { hostAt.nvj with queue := [aJw], retry := true } }, aJw, [], by decide⟩⟩

theorem witness_SystemCommands :
    (∃ (s : State) (c : Cmd), Ready s c false []) ∧
    (∃ (s : State) (c : Cmd), Ready s c false []) ∧
    (∃ (s : State) (c : Cmd), Ready s c false []) ∧
    (∃ (s : State) (c : Cmd) (m : Mode), Ready s c false [] ∧ s.isML c.ctx = true ∧ s.busy = false ∧ modeOf? (arg c 8 1) = some m ∧ s.modeCond m = none) ∧
    (∃ (s : State) (c : Cmd), Ready s c false [] ∧ s.isML c.ctx = true ∧ s.busy = false) ∧
    (∃ (s : State) (c : Cmd), Ready s c false [] ∧ argBit c 9 7 = true ∧ arg c 8 1 < 32) ∧
    (∃ (s : State) (c : Cmd), Ready s c false [] ∧ argBit c 9 7 = false ∧ s.isML c.ctx = true ∧ arg c 8 1 < 32 ∧ s.gpioArmed (arg c 8 1) = false) ∧
    (∃ (s : State) (c : Cmd), Ready s c false [(100, 0)] ∧ s.isML c.ctx = true ∧ s.hi.i2cAddrs.contains (arg c 8 1) = true ∧ arg c 8 1 ≠ s.hi.pmbusAddr ∧ arg c 9 1 ≤ 40 ∧ arg c 10 1 ≤ 16 ∧ s.hi.i2cTx.length + arg c 9 1 ≤ 64) ∧
    (∃ (s : State) (c : Cmd) (i : Instr), Ready s c false [] ∧ s.isML c.ctx = false ∧ i ∈ [.sysSetMode c, .sysReset c, .calInterval c, .calRotSet c, .feTdd c, .laneEq c, .lanePower c, .timeDomainSet c, .timeSelect c, .timePps c, .timeSynce c, .pwrFrost c, .pwrGust c, .monHkSeq c, .monHarvest c, .fwUpdateBegin c]) :=
  ⟨⟨hostAt, aCmd, by decide⟩,
   ⟨hostAt, aCmd, by decide⟩,
   ⟨hostAt, aCmd, by decide⟩,
   ⟨hostAt, cmdWith 0x0102 [(8, 5)], .provisioned, by decide⟩,
   ⟨hostAt, aCmd, by decide⟩,
   ⟨hostAt, cmdWith 0x0106 [(8, 3), (9, 0x80)], by decide⟩,
   ⟨hostAt, cmdWith 0x0106 [(8, 3), (9, 0x1)], by decide⟩,
   ⟨{ hostAt with hi := { hostAt.hi with i2cAddrs := [0x20], pmbusAddr := 0x21 } }, cmdWith 0x0107 [(8, 0x20), (9, 2)], by decide⟩,
   ⟨hostAt.wr R.HI_MODE_LEASE 0x80000000, aCmd, .sysReset aCmd, by decide⟩⟩

theorem witness_LeaseCommands :
    (∃ (s : State) (c : Cmd) (x : Nat) (q : Nat), Ready s c false [(1, q)] ∧ s.isML c.ctx = true ∧ arg c 8 1 = x ∧ x < 8 ∧ arg c 9 1 = 1 ∧ arg c 12 4 = q ∧ q < 4 ∧ s.leaseOf 1 q = none) ∧
    (∃ (s : State) (c : Cmd) (x : Nat) (n : Nat), Ready s c false [(4, arg c 12 4)] ∧ s.isML c.ctx = true ∧ arg c 8 1 = x ∧ x < 8 ∧ arg c 9 1 = 4 ∧ arg c 16 4 = n ∧ (((List.range 8).map (fun y => if y = x then n else s.quotaOf 4 y)).sum ≤ 4096)) ∧
    (∃ (s : State) (c : Cmd) (x : Nat), Ready s c false [(0, arg c 12 4)] ∧ s.isML c.ctx = true ∧ arg c 8 1 = x ∧ x < 8 ∧ arg c 9 1 = 0) ∧
    (∃ (s : State) (c : Cmd) (x : Nat) (q : Nat), Ready s c false [(1, q)] ∧ s.isML c.ctx = true ∧ arg c 8 1 = x ∧ x < 8 ∧ arg c 9 1 = 1 ∧ arg c 12 4 = q ∧ q < 4 ∧ s.holds x 1 q = true) ∧
    (∃ (s : State) (c : Cmd) (q : Nat), Ready s c false [(1, q)] ∧ arg c 9 1 = 1 ∧ arg c 12 4 = q ∧ q < 4 ∧ s.holds c.ctx 1 q = true) ∧
    (∃ (s : State) (c : Cmd) (q : Nat), Ready s c false [(1, q)] ∧ arg c 9 1 = 1 ∧ arg c 12 4 = q ∧ q < 4 ∧ s.holds c.ctx 1 q = false) ∧
    (∃ (s : State) (c : Cmd), Ready s c false [] ∧ (s.isML c.ctx = true ∨ arg c 8 1 = c.ctx.val) ∧ arg c 8 1 < 8 ∧ arg c 9 1 ≤ 11) ∧
    (∃ (s : State) (c : Cmd), Ready s c false [] ∧ s.bindOf c.ctx = some 3) :=
  ⟨⟨hostAt, cmdWith 0x0201 [(8, 1), (9, 1), (12, 2)], 1, 2, by decide⟩,
   ⟨hostAt, cmdWith 0x0201 [(8, 1), (9, 4), (16, 100)], 1, 100, by decide⟩,
   ⟨hostAt, cmdWith 0x0201 [(8, 1), (9, 0)], 1, by decide⟩,
   ⟨withCar hostAt, cmdWith 0x0202 [(9, 1)], 0, 0, by decide⟩,
   ⟨withCar hostAt, cmdWith 0x0203 [(9, 1)], 0, by decide⟩,
   ⟨hostAt, cmdWith 0x0203 [(9, 1)], 0, by decide⟩,
   ⟨hostAt, aCmd, by decide⟩,
   ⟨hostAt.put (R.HI_CTX_BIND 0) F.HI_CTX_BIND_ATT 3, aCmd, by decide⟩⟩

theorem witness_CarrierCommands :
    (∃ (s : State) (c : Cmd) (k : Nat) (num : Nat) (d : Nat) (bw : Nat) (pm : Nat) (pathm : Bool), Ready s c false [(2, k)] ∧ arg c 8 1 = k ∧ argBits c 9 0 2 = num ∧ argBit c 9 2 = pathm ∧ arg c 12 4 = bw ∧ arg c 16 8 = pm ∧ logD bw = d ∧ k < 16 ∧ s.holds c.ctx 2 k = true ∧ s.ownsPaths c.ctx pm = true ∧ s.carRun k = false ∧ (num ≠ 3 ∨ d ≠ 8) ∧ s.pathMixed k pm pathm = false ∧ 0 < bw ∧ bw ≤ 800000 ∧ (pathm = true → bw ≤ 100000) ∧ (pathm = false → 7 ≤ logN d num ∧ logN d num ≤ 14) ∧ s.pathLoadBad k pm bw d pathm = false ∧ edgesOk (signed 32 (arg c 24 4)) bw = true ∧ edgesOk (signed 32 (arg c 28 4)) bw = true ∧ (pathm = false → 0 < arg c 32 2 ∧ 12 * arg c 32 2 * (15 * 2 ^ num) ≤ bw) ∧ (pathm = false → s.layersBad k F.BF_CAR_STAT_LDL (arg c 34 1) bw = false) ∧ (pathm = false → s.layersBad k F.BF_CAR_STAT_LUL (arg c 35 1) bw = false) ∧ (pathm = false → arg c 36 2 ≤ 4 * normalSym num) ∧ arg c 38 1 ≤ 128) ∧
    (∃ (s : State) (c : Cmd) (k : Nat) (std : Bool) (x : Chain), Ready s c false [(2, k)] ∧ arg c 8 1 = k ∧ argBit c 24 0 = std ∧ k < 16 ∧ s.holds c.ctx 2 k = true ∧ s.carCfg k = true ∧ s.carRun k = false ∧ (x = if std then stdChain (s.get (R.DFE_CAR_CFG k) F.DFE_CAR_CFG_LOGD) else chainOf c) ∧ (std = false → 1 ≤ x.nst ∧ x.nst ≤ 4 ∧ x.len.all (fun v => decide (1 ≤ v) && decide (v ≤ 64)) = true ∧ x.sh.all (fun v => decide (v ≤ 31)) = true ∧ x.tsh.all (fun v => decide (v ≤ 31)) = true ∧ x.rxLoud = false ∧ x.txLoud = false ∧ x.logRc ≤ 6 ∧ x.h ≤ 2 ∧ x.logRc + x.h = s.get (R.DFE_CAR_CFG k) F.DFE_CAR_CFG_LOGD)) ∧
    (∃ (s : State) (c : Cmd) (k : Nat) (dirs : Nat), Ready s c false [(2, k)] ∧ arg c 8 1 = k ∧ arg c 9 1 = dirs ∧ k < 16 ∧ 0 < dirs ∧ dirs ≤ 3 ∧ s.holds c.ctx 2 k = true ∧ (s.tl.pend.any (fun i => s.eAct i = Act.cfirSwap && s.eCar i = k && s.eParam i % 4 &&& dirs % 4 != 0) = false) ∧ HasSpan s c 16 128) ∧
    (∃ (s : State) (c : Cmd) (k : Nat) (first : Nat), Ready s c true [(2, k)] ∧ arg c 8 1 = k ∧ arg c 12 4 = first ∧ k < 16 ∧ s.holds c.ctx 2 k = true ∧ s.ownsPaths c.ctx (s.carPmask k) = true ∧ (s.mode = .tdd ∨ s.mode = .fdd ∨ s.mode = .listen) ∧ s.carCfg k = true ∧ s.carRun k = false ∧ (s.mode = .listen ∨ s.carPermitted k = true) ∧ s.oneLo k = true ∧ s.startFits k = true ∧ stValid first = true ∧ s.aheadOk (stAdd first (-1)) = true ∧ s.syncClash (mkEntry (stAdd first (-1)) c.ctx.val Act.dfeSync k 0 0 1 0 (s.carPmask k) 3 0 0) = false ∧ s.ownRoom c.ctx = true) ∧
    (∃ (s : State) (c : Cmd) (k : Nat), Ready s c false [(2, k)] ∧ arg c 8 1 = k ∧ arg c 12 4 = 0 ∧ k < 16 ∧ s.holds c.ctx 2 k = true ∧ s.carRun k = true) :=
  ⟨⟨withCar hostAt, cmdWith 0x0301 [(9, 1), (12, 100000), (16, 1), (32, 100), (34, 2), (35, 2), (38, 1)], 0, 1, 4, 100000, 1, false, by decide⟩,
   ⟨((withCar hostAt).setFlag (R.DFE_CAR_CFG 0) F.DFE_CAR_CFG_CFG true).put (R.DFE_CAR_CFG 0) F.DFE_CAR_CFG_LOGD 4, cmdWith 0x0302 [(24, 1)], 0, true, stdChain 4, by decide⟩,
   ⟨withDram (withCar hostAt), cmdWith 0x0303 [(9, 1), (16, 0x1000000000)], 0, 1, by decide⟩,
   ⟨((withCar (hostIn .listen)).setFlag (R.DFE_CAR_CFG 0) F.DFE_CAR_CFG_CFG true).put (R.TL_PART_QUOTA 0) F.TL_PART_QUOTA_QUOTA 100, cmdWith 0x0304 [(12, 0x800)], 0, 0x800, by decide +kernel⟩,
   ⟨(withCar hostAt).setFlag (R.DFE_CAR_CFG 0) F.DFE_CAR_CFG_RUN true, cmdWith 0x0305 [], 0, by decide⟩⟩

theorem witness_FlowAndPortCommands :
    (∃ (s : State) (c : Cmd) (f : Nat) (k : Nat) (w0 : Nat) (w1 : Nat) (w2 : Nat), Ready s c false [(2, k)] ∧ arg c 8 2 = f ∧ arg c 12 4 = w0 ∧ arg c 16 4 = w1 ∧ arg c 20 4 = w2 ∧ w0 / 2 ^ 20 % 16 = k ∧ f < 1024 ∧ s.holds c.ctx 2 k = true ∧ (s.flEn f = true → s.flOwner f = c.ctx.val ∧ s.carRun (s.flCar f) = false) ∧ s.carRun k = false ∧ ((w0.testBit 17 && (List.range 1024).any (fun g => g != f && s.flEn g && s.get (R.FH_FLOW g 0) F.FH_FLOW_LOCAL = w0 % 2 ^ 16 && s.flUl g = w0.testBit 16)) = false) ∧ (w1 / 2 ^ 4 % 16 = 0 ∨ 7 ≤ w1 / 2 ^ 4 % 16) ∧ w1 / 2 ^ 8 % 4 < 2 ∧ (w0.testBit 19 = true ∨ w0.testBit 29 = false) ∧ ((List.range 4).all (fun g => (s.setFlow f c.ctx w0 w1 w2).loadOk g ((List.range 16).filter (s.setFlow f c.ctx w0 w1 w2).carRun)) = true)) ∧
    (∃ (s : State) (c : Cmd), Ready s c false [] ∧ arg c 8 2 < 1024 ∧ s.holds c.ctx 2 (s.flCar (arg c 8 2)) = true) ∧
    (∃ (s : State) (c : Cmd) (g : Nat), Ready s c true [] ∧ s.isML c.ctx = true ∧ arg c 8 1 = g ∧ g < 4 ∧ arg c 9 1 = 0 ∧ (s.mode = .provisioned ∨ s.mode = .standby ∨ s.mode = .laneTest) ∧ arg c 12 1 ≤ 3 ∧ (s.gale g = true → arg c 12 1 ≤ 1) ∧ 1500 ≤ arg c 14 2 ∧ arg c 14 2 ≤ 9000) ∧
    (∃ (s : State) (c : Cmd), Ready s c true [] ∧ s.isML c.ctx = true ∧ arg c 9 1 = 4 ∧ (s.mode = .provisioned ∨ s.mode = .standby ∨ s.mode = .laneTest) ∧ ones (arg c 12 2) ≤ 12) ∧
    (∃ (s : State) (c : Cmd) (g : Nat), Ready s c false [] ∧ s.isML c.ctx = true ∧ arg c 8 1 = g ∧ g < 4 ∧ arg c 9 1 = 3 ∧ arg c 12 2 ≤ 4095 ∧ 64 ≤ arg c 14 2 ∧ arg c 14 2 ≤ 9000 ∧ (s.portLaunch g (BitVec.ofNat 32 (launchOf c)) (arg c 16 4) (arg c 20 4)).loadOk g ((List.range 16).filter (s.portLaunch g (BitVec.ofNat 32 (launchOf c)) (arg c 16 4) (arg c 20 4)).carRun) = true) :=
  ⟨⟨withCar hostAt, cmdWith 0x0306 [(12, 0x20000)], 0, 0, 0x20000, 0, 0, by decide +kernel⟩,
   ⟨withCar hostAt, aCmd, by decide⟩,
   ⟨hostAt, cmdWith 0x0308 [(12, 1), (14, 1500)], 0, by decide⟩,
   ⟨hostAt, cmdWith 0x0308 [(9, 4), (12, 0xF)], by decide⟩,
   ⟨hostAt, cmdWith 0x0308 [(9, 3), (14, 64)], 0, by decide +kernel⟩⟩

theorem witness_ForecastCommands :
    (∃ (s : State) (c : Cmd) (w : List Word), Ready s c true [] ∧ imageWords (BitVec.ofNat 256 (arg c 8 32)) = w ∧ firstFail (s.stageChecks c.ctx w) = none) ∧
    (∃ (s : State) (c : Cmd) (n : Nat) (a : Nat) (ws : List (List Word)), Ready s c true [] ∧ arg c 8 2 = n ∧ arg c 16 8 = a ∧ isRadio s.mode = true ∧ 0 < n ∧ n ≤ 128 ∧ HasSpan s c 16 (32 * n) ∧ ((List.range n).map (fun i => imageWords (BitVec.ofNat 256 (s.memN (a + 32 * i) 32))) = ws) ∧ (State.stageAll c.ctx ws 0 0 s).2.2.1 = none) ∧
    (∃ (s : State) (c : Cmd) (n : Nat) (a : Nat) (ws : List (List Word)) (k : Check), Ready s c true [] ∧ arg c 8 2 = n ∧ arg c 16 8 = a ∧ isRadio s.mode = true ∧ 0 < n ∧ n ≤ 128 ∧ HasSpan s c 16 (32 * n) ∧ ((List.range n).map (fun i => imageWords (BitVec.ofNat 256 (s.memN (a + 32 * i) 32))) = ws) ∧ (State.stageAll c.ctx ws 0 0 s).2.2.1 = some k) ∧
    (∃ (s : State) (c : Cmd) (d : Int), Ready s c false [] ∧ stValid (arg c 8 4) = true ∧ d = (s.now : Int) + s.rel (stStart (arg c 8 4)) ∧ arg c 12 1 = 255) ∧
    (∃ (s : State) (c : Cmd) (k : Nat) (d : Int), Ready s c false [] ∧ stValid (arg c 8 4) = true ∧ d = (s.now : Int) + s.rel (stStart (arg c 8 4)) ∧ arg c 12 1 = k ∧ k < 16 ∧ s.holds c.ctx 2 k = true) ∧
    (∃ (s : State) (c : Cmd), Ready s c false []) :=
  ⟨⟨(hostIn .listen).put (R.TL_PART_QUOTA 0) F.TL_PART_QUOTA_QUOTA 100, cmdWith 0x0501 [(8, 0x800), (12, 0x1000010)], imageWords (BitVec.ofNat 256 (0x800 + 2 ^ 32 * 0x1000010)), by decide +kernel⟩,
   ⟨((withDram (hostIn .listen)).put (R.TL_PART_QUOTA 0) F.TL_PART_QUOTA_QUOTA 100).setBytes dramBase (leBytes 32 (0x800 + 2 ^ 32 * 0x1000010)), cmdWith 0x0502 [(8, 1), (16, dramBase)], 1, dramBase, [imageWords (BitVec.ofNat 256 (0x800 + 2 ^ 32 * 0x1000010))], by decide +kernel⟩,
   ⟨((withDram (hostIn .listen)).put (R.TL_PART_QUOTA 0) F.TL_PART_QUOTA_QUOTA 100).setBytes dramBase (leBytes 32 (0x800 + 2 ^ 32 * 0x10)), cmdWith 0x0502 [(8, 1), (16, dramBase)], 1, dramBase, [imageWords (BitVec.ofNat 256 (0x800 + 2 ^ 32 * 0x10))], badParam true 12, by decide +kernel⟩,
   ⟨hostAt, cmdWith 0x0503 [(12, 255)], 0, by decide +kernel⟩,
   ⟨withCar hostAt, cmdWith 0x0503 [], 0, 0, by decide +kernel⟩,
   ⟨hostAt, aCmd, by decide⟩⟩

theorem witness_BeamCommands :
    (∃ (s : State) (c : Cmd) (r : Nat) (k : Nat), Ready s c false [(3, r)] ∧ arg c 8 1 = r ∧ arg c 11 1 = k ∧ argBits c 9 4 2 = 0 ∧ r < 64 ∧ s.holdsRes c.ctx 3 r = true ∧ s.rgEn r = false ∧ k < 16 ∧ (argBit c 9 1 = true → s.rgLen r % 2 = 0) ∧ arg c 10 1 ≤ 4) ∧
    (∃ (s : State) (c : Cmd) (r : Nat) (k : Nat) (g : Nat), Ready s c false [(3, r)] ∧ arg c 8 1 = r ∧ arg c 11 1 = k ∧ argBits c 9 4 2 = 1 ∧ r < 64 ∧ s.holdsRes c.ctx 3 r = true ∧ s.rgEn r = false ∧ k < 16 ∧ s.holds c.ctx 2 k = true ∧ arg c 10 1 ≤ 4 ∧ g = s.groupsOf k (arg c 10 1) ∧ 0 < g ∧ (s.rgLen r % (if argBit c 9 1 then 2 * g else g) = 0) ∧ s.mapTooFine k g = false) ∧
    (∃ (s : State) (c : Cmd) (r : Nat), Ready s c false [(3, r)] ∧ arg c 8 1 = r ∧ argBit c 9 0 = false ∧ r < 64 ∧ s.holdsRes c.ctx 3 r = true ∧ s.rgEn r = true ∧ arg c 11 1 < 16 ∧ argBits c 9 4 2 = s.rgType r ∧ argBit c 9 1 = s.rgPaged r ∧ argBit c 9 2 = s.flag (R.BF_REGION_CFG r) F.BF_REGION_CFG_CONJ ∧ arg c 10 1 % 8 = s.get (R.BF_REGION_CFG r) F.BF_REGION_CFG_PGLOG ∧ arg c 11 1 = s.rgCar r ∧ (s.rgType r = 0 ∨ s.holds c.ctx 2 (s.rgCar r) = true) ∧ (s.rd (R.BF_REGION_CFG r)).toNat < 2 ^ 16 ∧ (s.rd (R.BF_REGION_CFG r)).toNat / 2 ^ 11 % 2 = 0) ∧
    (∃ (s : State) (c : Cmd) (r : Nat) (ofs : Nat) (n : Nat) (p : Nat), Ready s c false [(3, r)] ∧ arg c 8 1 = r ∧ arg c 12 2 = ofs ∧ arg c 14 2 = n ∧ r < 64 ∧ s.holdsRes c.ctx 3 r = true ∧ (p = (if s.rgPaged r then 1 - s.rgAct r else 0)) ∧ (s.rgPaged r = true → s.page r p = Pg.free) ∧ (s.rgPaged r = false → s.runsBeam c.ctx = false) ∧ s.rgType r ≠ 2 ∧ ofs < s.pageLen r ∧ ofs + n ≤ s.pageLen r ∧ HasSpan s c 16 (256 * n)) ∧
    (∃ (s : State) (c : Cmd) (r : Nat) (pg : Nat) (ofs : Nat) (n : Nat) (p : Nat), Ready s c false [(3, r)] ∧ arg c 8 1 = r ∧ arg c 9 1 = pg ∧ arg c 12 2 = ofs ∧ arg c 14 2 = n ∧ r < 64 ∧ s.holdsRes c.ctx 3 r = true ∧ pg ≤ 2 ∧ (pg = 1 → s.rgPaged r = true) ∧ (p = (if pg = 2 then (if s.rgPaged r then s.rgAct r else 0) else pg)) ∧ ofs < s.pageLen r ∧ ofs + n ≤ s.pageLen r ∧ HasSpan s c 16 (256 * n)) ∧
    (∃ (s : State) (c : Cmd) (k : Nat), Ready s c false [(2, k)] ∧ arg c 8 1 = k ∧ arg c 10 1 = 0 ∧ k < 16 ∧ s.holds c.ctx 2 k = true ∧ s.tiedSoon k c.ctx = false) ∧
    (∃ (s : State) (c : Cmd) (k : Nat) (r : Nat) (n : Nat) (ls : List (List Nat)), Ready s c false [(2, k)] ∧ arg c 8 1 = k ∧ arg c 9 1 = r ∧ arg c 10 1 = n ∧ ls = s.layersAt (arg c 24 8) n ∧ k < 16 ∧ s.holds c.ctx 2 k = true ∧ r < 64 ∧ s.holdsRes c.ctx 3 r = true ∧ HasSpan s c 24 (16 * n) ∧ 0 < n ∧ n ≤ 32 ∧ (ls.all (fun l => s.ownsCluster c.ctx (nth l 4 0) (s.seqBytes k l)) = true) ∧ s.tiedSoon k c.ctx = false ∧ s.rgType r = 1 ∧ s.rgPaged r = true ∧ s.rgCar r = k ∧ 1 ≤ arg c 11 1 ∧ arg c 11 1 ≤ 8 ∧ 0x35800000 ≤ arg c 12 4 ∧ arg c 12 4 ≤ 0x3F800000 ∧ ls.all (s.layerOk r) = true) :=
  ⟨⟨hostAt.put (R.BF_REGION_BASE 0) F.BF_REGION_BASE_LEN 4, cmdWith 0x0401 [(9, 3)], 0, 0, by decide +kernel⟩,
   ⟨(withCar (hostAt.put (R.BF_REGION_BASE 0) F.BF_REGION_BASE_LEN 20)).put (R.BF_CAR_CFG 0) F.BF_CAR_CFG_NRB 10, cmdWith 0x0401 [(9, 0x11)], 0, 0, 10, by decide +kernel⟩,
   ⟨(hostAt.put (R.BF_REGION_BASE 0) F.BF_REGION_BASE_LEN 4).setFlag (R.BF_REGION_CFG 0) F.BF_REGION_CFG_EN true, cmdWith 0x0401 [(9, 0)], 0, by decide +kernel⟩,
   ⟨(withDram hostAt).put (R.BF_REGION_BASE 0) F.BF_REGION_BASE_LEN 4, cmdWith 0x0402 [(14, 2), (16, dramBase)], 0, 0, 2, 0, by decide +kernel⟩,
   ⟨(withDram hostAt).put (R.BF_REGION_BASE 0) F.BF_REGION_BASE_LEN 4, cmdWith 0x0403 [(14, 2), (16, dramBase)], 0, 0, 0, 2, 0, by decide +kernel⟩,
   ⟨withCar hostAt, cmdWith 0x0404 [], 0, by decide⟩,
   ⟨((((holding (withDram (withCar hostAt)) 6 0).put (R.BF_REGION_BASE 0) F.BF_REGION_BASE_LEN 20).wr (R.BF_REGION_CFG 0) 0x50).put (R.BF_CAR_CFG 0) F.BF_CAR_CFG_NRB 10).setBytes dramBase (leBytes 16 (0x10000000 * 2 ^ 64)), cmdWith 0x0404 [(10, 1), (11, 1), (12, 0x3F800000), (24, dramBase)], 0, 0, 1, [[0, 0, 0, 0, 0x10000000]], by decide +kernel⟩⟩

theorem witness_CalibrationCommands :
    (∃ (s : State) (c : Cmd) (k : Nat) (n : Nat), Ready s c false [] ∧ s.isML c.ctx = true ∧ arg c 8 1 = k ∧ arg c 12 4 = n ∧ 2 ≤ k ∧ k ≤ 4 ∧ ((if k = 2 then 5 else 1) ≤ n) ∧ n ≤ 3600) ∧
    (∃ (s : State) (c : Cmd), Ready s c false [] ∧ s.isML c.ctx = true ∧ 2 ≤ arg c 9 1 ∧ arg c 9 1 ≤ 63 ∧ 1 ≤ arg c 10 1 ∧ arg c 10 1 ≤ 7 ∧ arg c 12 2 ≤ 1023) ∧
    (∃ (s : State) (c : Cmd), Ready s c false [(101, 0)] ∧ s.isML c.ctx = true ∧ 1 ≤ arg c 8 1 ∧ arg c 8 1 ≤ 16 ∧ 1 ≤ arg c 12 4 ∧ arg c 12 4 ≤ 3600000) ∧
    (∃ (s : State) (c : Cmd), Ready s c false [(102, 0)] ∧ s.isML c.ctx = true ∧ s.flag R.NVJ_STAT F.NVJ_STAT_LOCK_REF = false ∧ arg c 8 1 ≤ 3 ∧ HasSpan s c 16 41472 ∧ s.pairsOk (arg c 16 8) = true) ∧
    (∃ (s : State) (c : Cmd), Ready s c true [(102, 0)] ∧ s.isML c.ctx = true ∧ s.mode = .provisioned ∧ s.flag R.NVJ_STAT F.NVJ_STAT_LOCK_REF = false) ∧
    (∃ (s : State) (c : Cmd), Ready s c true [(102, 0)] ∧ s.isML c.ctx = true ∧ s.mode = .provisioned ∧ s.flag R.NVJ_STAT F.NVJ_STAT_LOCK_REF = true) ∧
    (∃ (s : State) (c : Cmd) (m : Nat) (n : Nat), Ready s c false [] ∧ (∀ p, p < 64 → s.avail p = true → s.get (R.CV_TXQ_QUAL p) F.CV_TXQ_QUAL_AGE ≤ m) ∧ (m = 0 ∨ ∃ p ∈ List.range 64, s.avail p = true ∧ s.get (R.CV_TXQ_QUAL p) F.CV_TXQ_QUAL_AGE = m) ∧ (∀ i, i < 8 → s.get (R.CV_ORX_QUAL i) F.CV_ORX_QUAL_AGE ≤ n) ∧ (∃ i ∈ List.range 8, s.get (R.CV_ORX_QUAL i) F.CV_ORX_QUAL_AGE = n)) :=
  ⟨⟨hostAt, cmdWith 0x0601 [(8, 2), (12, 5)], 2, 5, by decide⟩,
   ⟨hostAt, cmdWith 0x0602 [(8, 1), (9, 2), (10, 1), (12, 9)], by decide⟩,
   ⟨hostAt, cmdWith 0x0603 [(8, 1), (12, 1)], by decide⟩,
   ⟨{ (withDram hostAt).put64 R.RF_PATH_AVAIL 0 with mem := (List.range' dramBase 512).map (fun a => (a, 0xFF)) }, cmdWith 0x0604 [(16, dramBase)], ⟨by decide, by decide, by decide, by decide, by decide, by rw [show arg (cmdWith 0x0604 [(16, dramBase)]) 16 8 = dramBase from by decide]; exact no_pairs _ _ (by decide) (fun i h => run_get 0xFF 512 dramBase _ (Nat.le_add_right _ _) (Nat.add_lt_add_left h _))⟩⟩,
   ⟨hostIn .provisioned, cmdWith 0x0605 [], by decide⟩,
   ⟨(hostIn .provisioned).setFlag R.NVJ_STAT F.NVJ_STAT_LOCK_REF true, cmdWith 0x0605 [], by decide⟩,
   ⟨hostAt, cmdWith 0x0606 [], 0, 0, by decide +kernel⟩⟩

theorem witness_PredistortionCommands :
    (∃ (s : State) (c : Cmd) (pm : Nat), Ready s c false [] ∧ arg c 16 8 = pm ∧ s.ownsPaths c.ctx pm = true ∧ 1 ≤ arg c 9 1 ∧ arg c 9 1 ≤ 16 ∧ arg c 11 1 ≤ 3) ∧
    (∃ (s : State) (c : Cmd) (p : Nat), Ready s c false [] ∧ arg c 8 1 = p ∧ p < 64 ∧ s.holds c.ctx 1 (quadOf p) = true ∧ (s.tx p = Ps.off ∨ s.flag (R.DFE_DPD_STATUS p) F.DFE_DPD_STATUS_EN = false) ∧ (∀ j, j < 4 → (nbrOf (arg c 12 4) j).all (fun n => n != p && quadOf n = quadOf p && s.avail n) = true)) ∧
    (∃ (s : State) (c : Cmd) (p : Nat) (k : Nat) (j : Nat), Ready s c false [] ∧ arg c 8 1 = p ∧ p < 64 ∧ s.holds c.ctx 1 (quadOf p) = true ∧ s.flag (R.DFE_DPD_CFG p) F.DFE_DPD_CFG_AUTO = false ∧ s.flag (R.DFE_DPD_STATUS p) F.DFE_DPD_STATUS_HALT = false ∧ arg c 9 1 ≤ 16 ∧ (k = (if arg c 9 1 = 0 then s.get (R.DFE_DPD_CFG p) F.DFE_DPD_CFG_K else arg c 9 1)) ∧ s.allocJob.map Prod.fst = some j) ∧
    (∃ (s : State) (c : Cmd) (p : Nat), Ready s c false [(103, p)] ∧ arg c 8 1 = p ∧ arg c 9 1 = 0 ∧ p < 64 ∧ s.holds c.ctx 1 (quadOf p) = true ∧ (s.dfe.train.any (fun x => x.2 = p) = false) ∧ s.flag (R.DFE_DPD_STATUS p) F.DFE_DPD_STATUS_LOADING = false ∧ HasSpan s c 16 2048) ∧
    (∃ (s : State) (c : Cmd) (p : Nat) (b : Nat), Ready s c false [(103, p)] ∧ arg c 8 1 = p ∧ (arg c 9 1 = 1 ∨ arg c 9 1 = 2) ∧ p < 64 ∧ s.holds c.ctx 1 (quadOf p) = true ∧ (s.dfe.train.any (fun x => x.2 = p) = false) ∧ s.flag (R.DFE_DPD_STATUS p) F.DFE_DPD_STATUS_LOADING = false ∧ HasSpan s c 16 2048 ∧ (b = (if arg c 9 1 = 1 then s.get (R.DFE_DPD_STATUS p) F.DFE_DPD_STATUS_ACT else 1 - s.get (R.DFE_DPD_STATUS p) F.DFE_DPD_STATUS_ACT))) ∧
    (∃ (s : State) (c : Cmd) (pm : Nat), Ready s c false [] ∧ arg c 16 8 = pm ∧ s.ownsPaths c.ctx pm = true) ∧
    (∃ (s : State) (c : Cmd) (pm : Nat) (w : Nat), Ready s c false [] ∧ arg c 16 8 = pm ∧ s.ownsPaths c.ctx pm = true ∧ arg c 11 1 ≤ 15 ∧ w = arg c 8 1 + 2 ^ 8 * arg c 9 1 + 2 ^ 16 * arg c 10 1 + 2 ^ 28 * arg c 11 1) :=
  ⟨⟨withCar hostAt, cmdWith 0x0701 [(8, 1), (9, 1), (16, 1)], 1, by decide⟩,
   ⟨(withCar hostAt).put64 R.RF_PATH_AVAIL 3, cmdWith 0x0702 [(12, 0x41)], 0, by decide⟩,
   ⟨withCar { hostAt with hy := { hostAt.hy with nextJob := 1 } }, cmdWith 0x0703 [(9, 1)], 0, 1, 1, by decide +kernel⟩,
   ⟨withDram (withCar hostAt), cmdWith 0x0704 [(16, dramBase)], 0, by decide⟩,
   ⟨withDram (withCar hostAt), cmdWith 0x0704 [(9, 1), (16, dramBase)], 0, 0, by decide⟩,
   ⟨withCar hostAt, cmdWith 0x0705 [(16, 1)], 1, by decide⟩,
   ⟨withCar hostAt, cmdWith 0x0706 [(16, 1)], 1, 0, by decide⟩⟩

theorem witness_CaptureAndFrontEndCommands :
    (∃ (s : State) (c : Cmd) (p : Nat) (r : CapRec), Ready s c false [] ∧ arg c 8 1 = p ∧ p < 64 ∧ s.holds c.ctx 8 (tileOf p) = true ∧ ((if argBit c 9 0 then ((s.heldRecs c.ctx (tileOf p)).filter (fun x => x.path = p)).getLast? else ((s.heldRecs c.ctx (tileOf p)).filter (fun x => x.path = p)).find? (fun x => x.tag = arg c 10 2)) = some r) ∧ HasSpan s c 16 r.bytes) ∧
    (∃ (s : State) (c : Cmd), Ready s c false [] ∧ arg c 8 1 < 8 ∧ s.holds c.ctx 8 (arg c 8 1) = true) ∧
    (∃ (s : State) (c : Cmd) (pm : Nat) (cfg : Nat) (lvl : Nat), Ready s c false [] ∧ arg c 16 8 = pm ∧ s.ownsPaths c.ctx pm = true ∧ cfg = arg c 8 1 + 2 ^ 8 * arg c 9 1 + 2 ^ 16 * arg c 10 1 + 2 ^ 24 * arg c 11 1 ∧ lvl = arg c 12 2 + 2 ^ 16 * arg c 14 2 ∧ arg c 8 1 ≤ 3 ∧ 1 ≤ arg c 9 1 ∧ 1 ≤ arg c 10 1 ∧ arg c 10 1 ≤ 20 ∧ arg c 12 2 ≤ 4095 ∧ arg c 14 2 ≤ 4095 ∧ (2 ≤ arg c 8 1 → rampLong (arg c 12 2) (arg c 14 2) (arg c 9 1) = false)) ∧
    (∃ (s : State) (c : Cmd), Ready s c false [] ∧ s.isML c.ctx = true ∧ 123 ≤ arg c 8 2 ∧ arg c 8 2 + arg c 13 1 ≤ 614 ∧ 123 ≤ arg c 10 2 ∧ arg c 10 2 + arg c 12 1 ≤ 614) ∧
    (∃ (s : State) (c : Cmd) (pm : Nat), Ready s c false [] ∧ arg c 16 8 = pm ∧ s.ownsPaths c.ctx pm = true) ∧
    (∃ (s : State) (c : Cmd) (fits : Bool) (parity : Bool) (data : BitVec 128) (q : Nat) (ty : Nat), Ready s c false [] ∧ arg c 8 1 = q ∧ arg c 9 1 = ty ∧ q < 4 ∧ s.holds c.ctx 1 q = true ∧ ty ≤ 6 ∧ arg c 10 1 ≤ 15 ∧ ((ty = 2 ∨ ty = 4 ∨ ty = 6) → 1 ≤ arg c 10 1) ∧ (3 ≤ ty → 1 ≤ arg c 11 1 ∧ arg c 11 1 ≤ (if ty ≤ 4 then 16 else 8)) ∧ fits = true ∧ nth s.rf.rffeRun q none = none ∧ ty ≠ 2 ∧ ty ≠ 4 ∧ ty ≠ 6) ∧
    (∃ (s : State) (c : Cmd) (fits : Bool) (parity : Bool) (data : BitVec 128) (q : Nat) (ty : Nat), Ready s c false [] ∧ arg c 8 1 = q ∧ arg c 9 1 = ty ∧ q < 4 ∧ s.holds c.ctx 1 q = true ∧ ty ≤ 6 ∧ arg c 10 1 ≤ 15 ∧ ((ty = 2 ∨ ty = 4 ∨ ty = 6) → 1 ≤ arg c 10 1) ∧ (3 ≤ ty → 1 ≤ arg c 11 1 ∧ arg c 11 1 ≤ (if ty ≤ 4 then 16 else 8)) ∧ fits = true ∧ nth s.rf.rffeRun q none = none ∧ (ty = 2 ∨ ty = 4 ∨ ty = 6) ∧ parity = true) ∧
    (∃ (s : State) (c : Cmd) (fits : Bool) (parity : Bool) (data : BitVec 128) (q : Nat) (ty : Nat), Ready s c false [] ∧ arg c 8 1 = q ∧ arg c 9 1 = ty ∧ q < 4 ∧ s.holds c.ctx 1 q = true ∧ ty ≤ 6 ∧ arg c 10 1 ≤ 15 ∧ ((ty = 2 ∨ ty = 4 ∨ ty = 6) → 1 ≤ arg c 10 1) ∧ (3 ≤ ty → 1 ≤ arg c 11 1 ∧ arg c 11 1 ≤ (if ty ≤ 4 then 16 else 8)) ∧ fits = true ∧ nth s.rf.rffeRun q none = none ∧ (ty = 2 ∨ ty = 4 ∨ ty = 6) ∧ parity = false) ∧
    (∃ (s : State) (c : Cmd) (fits : Bool) (parity : Bool) (data : BitVec 128) (q : Nat) (ty : Nat), Ready s c false [] ∧ arg c 8 1 = q ∧ arg c 9 1 = ty ∧ q < 4 ∧ s.holds c.ctx 1 q = true ∧ ty ≤ 6 ∧ arg c 10 1 ≤ 15 ∧ ((ty = 2 ∨ ty = 4 ∨ ty = 6) → 1 ≤ arg c 10 1) ∧ (3 ≤ ty → 1 ≤ arg c 11 1 ∧ arg c 11 1 ≤ (if ty ≤ 4 then 16 else 8)) ∧ (fits = false ∨ nth s.rf.rffeRun q none ≠ none)) ∧
    (∃ (s : State) (c : Cmd) (overlap : Bool) (q : Nat), Ready s c false [] ∧ arg c 8 1 = q ∧ q < 4 ∧ s.holds c.ctx 1 q = true ∧ ((quadPaths q).all (fun p => (s.tx p = Ps.off || s.tx p = Ps.fault) && s.rx p = Ps.off) = true) ∧ argBits c 9 0 4 ≤ 2 ∧ HasSpan s c 16 4096 ∧ overlap = false) :=
  ⟨⟨{ withDram (holding hostAt 8 0) with dfe := { (hostAt).dfe with recs := [⟨0, 0, 0, 7, 0, true, 112, 0⟩] } }, cmdWith 0x0801 [(9, 1), (16, dramBase)], 0, ⟨0, 0, 0, 7, 0, true, 112, 0⟩, by decide⟩,
   ⟨holding hostAt 8 0, cmdWith 0x0802 [], by decide⟩,
   ⟨withCar hostAt, cmdWith 0x0901 [(9, 1), (10, 1), (16, 1)], 1, 0x10100, 0, by decide⟩,
   ⟨hostAt, cmdWith 0x0902 [(8, 123), (10, 123)], by decide⟩,
   ⟨withCar hostAt, cmdWith 0x0903 [(16, 1)], 1, by decide⟩,
   ⟨withCar hostAt, cmdWith 0x0904 [(9, 1), (10, 1), (11, 1)], true, true, 0, 0, 1, by decide⟩,
   ⟨withCar hostAt, cmdWith 0x0904 [(9, 2), (10, 1), (11, 1)], true, true, 0, 0, 2, by decide⟩,
   ⟨withCar hostAt, cmdWith 0x0904 [(9, 4), (10, 1), (11, 1)], true, false, 0, 0, 4, by decide⟩,
   ⟨withCar hostAt, cmdWith 0x0904 [(9, 2), (10, 1)], false, true, 0, 0, 2, by decide⟩,
   ⟨withDram (withCar hostAt), cmdWith 0x0905 [(16, dramBase)], false, 0, by decide +kernel⟩⟩

theorem witness_LaneCommands :
    (∃ (s : State) (c : Cmd) (g : Nat) (pers : Nat) (width : Nat) (rate : Nat) (cfg : Word), Ready s c true [(105, g)] ∧ s.isML c.ctx = true ∧ (s.mode = .provisioned ∨ s.mode = .standby ∨ s.mode = .laneTest) ∧ arg c 8 1 = g ∧ arg c 9 1 = pers ∧ arg c 10 1 = width ∧ arg c 12 2 = rate ∧ cfg = BitVec.ofNat 32 (pers % 4 + 2 ^ 2 * (width % 4) + 2 ^ 16 * (rate % 2 ^ 15)) ∧ g < 4 ∧ pers ≤ 3 ∧ (pers = 3 → s.role g < 2 ∧ width ≤ 2 ∧ 1250 ≤ rate ∧ rate ≤ 28125) ∧ s.ln.lanes.length = 16 ∧ s.ln.grps.length = 4) ∧
    (∃ (s : State) (c : Cmd) (n : Nat), Ready s c false [] ∧ s.isML c.ctx = true ∧ arg c 8 1 = n ∧ n < 16 ∧ arg c 9 1 + arg c 10 1 ≤ 31 ∧ arg c 9 1 ≤ 15 ∧ arg c 11 1 ≤ 12 ∧ arg c 13 1 ≤ 20) ∧
    (∃ (s : State) (c : Cmd) (m : Nat), Ready s c false [] ∧ s.isML c.ctx = true ∧ arg c 8 2 = m ∧ arg c 10 1 = 4 ∧ s.ln.lanes.length = 16) ∧
    (∃ (s : State) (c : Cmd) (m : Nat) (st : Nat), Ready s c false [] ∧ s.isML c.ctx = true ∧ arg c 8 2 = m ∧ arg c 10 1 = st ∧ st < 4 ∧ (∀ n, n < 16 → m.testBit n = true → (s.used (n / 4)).contains n = true) ∧ s.ln.lanes.length = 16) ∧
    (∃ (s : State) (c : Cmd) (seen : List (BitVec 48 × BitVec 32)) (g : Nat) (half : Nat), Ready s c true [] ∧ s.isML c.ctx = true ∧ s.mode = .laneTest ∧ arg c 8 1 = g ∧ g < 4 ∧ s.pers g ≠ 0 ∧ argBit c 9 0 = true ∧ argBits c 10 0 3 ≠ 7 ∧ argBits c 11 0 3 ≠ 7 ∧ arg c 12 1 = half ∧ (argBits c 10 0 3 = 5 ∨ argBits c 11 0 3 = 5 → 1 ≤ half ∧ half ≤ 16)) ∧
    (∃ (s : State) (c : Cmd) (seen : List (BitVec 48 × BitVec 32)) (g : Nat), Ready s c true [] ∧ s.isML c.ctx = true ∧ s.mode = .laneTest ∧ arg c 8 1 = g ∧ g < 4 ∧ s.pers g ≠ 0 ∧ argBit c 9 0 = false) ∧
    (∃ (s : State) (c : Cmd) (bits : BitVec 48) (errs : BitVec 32) (n : Nat), Ready s c false [] ∧ arg c 8 1 = n ∧ n < 16) :=
  ⟨⟨hostAt, cmdWith 0x0A01 [(9, 1)], 0, 1, 0, 0, 1, by decide⟩,
   ⟨hostAt, cmdWith 0x0A02 [(9, 1), (12, 4), (13, 7)], 0, by decide⟩,
   ⟨hostAt, cmdWith 0x0A03 [(8, 1), (10, 4)], 1, by decide⟩,
   ⟨hostAt.put (R.LN_GROUP_CFG 0) F.LN_GROUP_CFG_PERS 1, cmdWith 0x0A03 [(8, 1), (10, 3)], 1, 3, by decide⟩,
   ⟨(hostIn .laneTest).put (R.LN_GROUP_CFG 0) F.LN_GROUP_CFG_PERS 1, cmdWith 0x0A04 [(9, 1)], [], 0, 0, by decide⟩,
   ⟨(((hostIn .laneTest).put (R.LN_GROUP_CFG 0) F.LN_GROUP_CFG_PERS 1).put (R.LN_STATE 0) F.LN_STATE_RX 7), cmdWith 0x0A04 [], [], 0, by decide⟩,
   ⟨hostAt, cmdWith 0x0A05 [], 0, 0, 0, by decide⟩⟩

theorem witness_TimeCommands :
    (∃ (s : State) (c : Cmd) (d : Nat) (src : Nat), Ready s c false [] ∧ s.isML c.ctx = true ∧ arg c 8 1 = d ∧ argBits c 9 0 2 = src ∧ d < 2 ∧ (s.domSrc d = src ∨ s.steering ≠ d ∨ isRadio s.mode = false) ∧ src < 3 ∧ (src = 2 → s.domSrc (1 - d) ≠ 2) ∧ 1 ≤ arg c 10 2 ∧ arg c 10 2 ≤ 1000 ∧ 1 ≤ arg c 12 2 ∧ arg c 12 2 ≤ 1023 ∧ 1 ≤ arg c 14 1 ∧ arg c 14 1 ≤ 15 ∧ (src = 1 → arg c 22 1 ≤ 3 ∧ (arg c 24 1 = 1 ∧ 24 ≤ arg c 23 1 ∧ arg c 23 1 ≤ 43 ∨ arg c 24 1 = 2 ∧ 44 ≤ arg c 23 1 ∧ arg c 23 1 ≤ 63)) ∧ s.ts.doms.length = 2) ∧
    (∃ (s : State) (c : Cmd) (d : Nat) (p : Nat), Ready s c false [] ∧ s.isML c.ctx = true ∧ arg c 8 1 = d ∧ arg c 9 1 = p ∧ d < 2 ∧ p < 2 ∧ (if isRadio s.mode then s.domState d = 3 ∨ s.domState d = 4 else s.domState d ≠ 0)) ∧
    (∃ (s : State) (c : Cmd) (w : Nat), Ready s c false [] ∧ s.isML c.ctx = true ∧ arg c 10 2 = w ∧ 1 ≤ w ∧ w ≤ 500) ∧
    (∃ (s : State) (c : Cmd) (sec : Nat), Ready s c true [(106, 0)] ∧ s.isML c.ctx = true ∧ (s.mode = .provisioned ∨ s.mode = .standby) ∧ arg c 8 4 ≤ 9999999 ∧ arg c 12 2 ≤ 1023 ∧ (sec = (if nsDiff s.ns s.hy.c0 < (arg c 8 4 : Int) then s.hy.taiSec else s.hy.taiSec + 1))) ∧
    (∃ (s : State) (c : Cmd), Ready s c false [] ∧ s.isML c.ctx = true) ∧
    (∃ (s : State) (c : Cmd) (x : Int), Ready s c false [] ∧ x = (s.hy.taiSec : Int) * 1000000000 + nsDiff s.ns s.hy.c0) ∧
    (∃ (s : State) (c : Cmd) (g : Nat) (id : Nat), Ready s c false [(104, g * 256 + id)] ∧ arg c 8 1 = g ∧ arg c 9 1 = id ∧ g < 4 ∧ s.flowOver c.ctx g = true) ∧
    (∃ (s : State) (c : Cmd) (d : Nat), Ready s c false [] ∧ arg c 8 1 = d ∧ d < 2) :=
  ⟨⟨hostAt, cmdWith 0x0B01 [(9, 1), (10, 100), (12, 100), (14, 4), (23, 24), (24, 1)], 0, 1, by decide⟩,
   ⟨hostAt.setDomState 1 1, cmdWith 0x0B02 [(8, 1)], 1, 0, by decide⟩,
   ⟨hostAt, cmdWith 0x0B03 [(10, 5)], 5, by decide⟩,
   ⟨hostAt, cmdWith 0x0B04 [], 1, by decide⟩,
   ⟨hostAt, cmdWith 0x0B05 [(8, 0x43)], by decide⟩,
   ⟨hostAt, cmdWith 0x0B06 [], 0, by decide⟩,
   ⟨(((withCar hostAt).setFlag (R.FH_FLOW 0 0) F.FH_FLOW_EN true).put (R.FH_FLOW 0 1) F.FH_FLOW_PORTS 1), cmdWith 0x0B07 [(9, 1)], 0, 1, by decide⟩,
   ⟨hostAt, cmdWith 0x0B08 [], 0, by decide⟩⟩

theorem witness_PowerMonitorAndRegulatoryCommands :
    (∃ (s : State) (c : Cmd) (lanes : Nat) (trig : Nat) (k : Nat), Ready s c false [] ∧ s.isML c.ctx = true ∧ s.busy = false ∧ (s.mode = .provisioned ∨ s.mode = .standby) ∧ s.flag R.PM_MODE F.PM_MODE_RADIO_LOCK = false ∧ arg c 8 1 = lanes ∧ argBits c 9 0 4 = trig ∧ arg c 10 1 = k ∧ (∀ g, g < 4 → lanes / 4 ^ g % 4 ≠ 3) ∧ (trig.testBit 2 = true → k < 32 ∧ s.get (R.PM_GPIO_CFG k) F.PM_GPIO_CFG_FUNC = 0) ∧ (trig.testBit 3 = true → arg c 12 4 ≠ 0)) ∧
    (∃ (s : State) (c : Cmd), Ready s c false [] ∧ s.isML c.ctx = true ∧ 1 ≤ arg c 8 1 ∧ arg c 8 1 ≤ 16) ∧
    (∃ (s : State) (c : Cmd), Ready s c false []) ∧
    (∃ (s : State) (c : Cmd) (i : Nat) (n : Nat) (rate : Nat) (trig : Nat) (src : Nat), Ready s c false [] ∧ s.isML c.ctx = true ∧ arg c 8 1 = i ∧ arg c 9 1 = n ∧ arg c 10 2 = rate ∧ arg c 12 1 = trig ∧ trig % 8 = src ∧ i < 2 ∧ s.hkRuns i = false ∧ 1 ≤ n ∧ (n ≤ (if i = 0 then 16 else 4)) ∧ 5 ≤ rate ∧ rate ≤ 50000 ∧ (src ≠ 5 ∧ src ≠ 6 ∧ (src = 4 → i = 0)) ∧ (src = 2 → s.get (R.PM_GPIO_CFG (trig / 8)) F.PM_GPIO_CFG_FUNC = 0) ∧ (∀ j, j < n → arg c (16 + j) 1 < 43)) ∧
    (∃ (s : State) (c : Cmd) (ch : Nat) (st : Nat), Ready s c false [(108, 0)] ∧ s.isML c.ctx = true ∧ arg c 8 1 = ch ∧ arg c 9 1 = st ∧ ch < 43 ∧ st < 2 ∧ (st = 1 → s.hk.zero.any (fun z => z.1 = ch) = true)) ∧
    (∃ (s : State) (c : Cmd) (ch : Nat), Ready s c false [] ∧ arg c 8 1 = ch ∧ ch < 43) ∧
    (∃ (s : State) (c : Cmd), Ready s c false [] ∧ (arg c 16 8 = 0 ∨ HasSpan s c 16 96)) ∧
    (∃ (s : State) (c : Cmd) (p : Nat), Ready s c false [] ∧ s.isML c.ctx = true ∧ arg c 8 4 = p ∧ p ≤ 60000 ∧ (0 < p → 2560 ≤ arg c 24 4 ∧ HasSpan s c 16 (arg c 24 4))) ∧
    (∃ (s : State) (c : Cmd) (l : List (List Byte)), Ready s c false [] ∧ journalType (arg c 8 1) = true ∧ HasSpan s c 16 (64 * arg c 12 2) ∧ ((s.journalSel (arg c 8 1)).drop (arg c 10 2)).take (arg c 12 2) = l) ∧
    (∃ (s : State) (c : Cmd) (v : List Nat), Ready s c true [(107, 0x16)] ∧ s.isML c.ctx = true ∧ (s.mode = .provisioned ∨ s.mode = .standby ∨ isRadio s.mode = true) ∧ HasSpan s c 16 640 ∧ regVals (s.bytes (arg c 16 8) 640) = v ∧ regFits v = true ∧ (s.flag R.RF_REG_STATUS F.RF_REG_STATUS_LOCKED = true → regTightens v s.lockedSet = true)) ∧
    (∃ (s : State) (c : Cmd), Ready s c true [(107, 0x16)] ∧ s.isML c.ctx = true ∧ (s.mode = .provisioned ∨ s.mode = .standby ∨ isRadio s.mode = true) ∧ HasSpan s c 16 640 ∧ s.flag R.RF_REG_STATUS F.RF_REG_STATUS_LOCKED = true ∧ regTightens (regVals (s.bytes (arg c 16 8) 640)) s.lockedSet = false) ∧
    (∃ (s : State) (c : Cmd), Ready s c true [(107, 0x16)] ∧ s.isML c.ctx = true ∧ s.mode = .provisioned ∧ s.flag R.RF_REG_STATUS F.RF_REG_STATUS_LOCKED = false) ∧
    (∃ (s : State) (c : Cmd), Ready s c false []) :=
  ⟨⟨hostAt, cmdWith 0x0C01 [(9, 1)], 0, 1, 0, by decide⟩,
   ⟨hostAt, cmdWith 0x0C02 [(8, 3)], by decide⟩,
   ⟨hostAt, cmdWith 0x0C03 [], by decide⟩,
   ⟨hostAt, cmdWith 0x0D01 [(9, 3), (10, 100), (12, 1)], 0, 3, 100, 1, 1, by decide +kernel⟩,
   ⟨hostAt, cmdWith 0x0D02 [], 0, 0, by decide⟩,
   ⟨hostAt, cmdWith 0x0D03 [], 0, by decide⟩,
   ⟨withDram hostAt, cmdWith 0x0D04 [(16, dramBase)], by decide⟩,
   ⟨withDram hostAt, cmdWith 0x0D06 [(8, 10), (16, dramBase), (24, 2560)], 10, by decide⟩,
   ⟨withDram hostAt, cmdWith 0x0D07 [(8, 3), (12, 1), (16, dramBase)], [], by decide⟩,
   ⟨withDram hostAt, cmdWith 0x0E01 [(16, dramBase)], List.replicate 224 0, by decide +kernel⟩,
   ⟨((withDram hostAt).setFlag R.RF_REG_STATUS F.RF_REG_STATUS_LOCKED true).setBytes (dramBase + 4) [1], cmdWith 0x0E01 [(16, dramBase)], by decide +kernel⟩,
   ⟨hostIn .provisioned, cmdWith 0x0E02 [], by decide⟩,
   ⟨hostAt, cmdWith 0x0E03 [], by decide⟩⟩

theorem witness_UpdateAndKernelCommands :
    (∃ (s : State) (c : Cmd), Ready s c false [] ∧ s.isML c.ctx = true ∧ s.busy = false ∧ s.mode = .provisioned ∧ arg c 12 4 ≤ 2 ^ 25) ∧
    (∃ (s : State) (c : Cmd) (good : Bool) (o : Nat) (n : Nat), Ready s c true [] ∧ s.isML c.ctx = true ∧ s.mode = .update ∧ arg c 12 4 = o ∧ arg c 24 4 = n ∧ o % 65536 = 0 ∧ n % 256 = 0 ∧ n ≤ 2 ^ 20 ∧ o + n ≤ s.pm.updLen ∧ HasSpan s c 16 n) ∧
    (∃ (s : State) (c : Cmd) (good : Bool), Ready s c true [(107, 0x10)] ∧ s.isML c.ctx = true ∧ s.mode = .update) ∧
    (∃ (s : State) (c : Cmd), Ready s c true [] ∧ s.isML c.ctx = true ∧ s.mode = .update ∧ c.opcode = 0x0F04) ∧
    (∃ (s : State) (c : Cmd) (k : Nat) (n : Nat), Ready s c true [(107, 0x10 + k)] ∧ s.isML c.ctx = true ∧ s.mode = .provisioned ∧ arg c 8 1 = k ∧ arg c 12 4 = n ∧ 1 ≤ k ∧ k ≤ 5 ∧ n ≤ 56 * (objPlace (0x10 + k)).parts - 12 ∧ HasSpan s c 16 n) ∧
    (∃ (s : State) (c : Cmd) (k : Nat) (pm : Nat) (x : Nat) (y : Nat) (a : Nat), Ready s c false [] ∧ arg c 8 1 = k ∧ 12 ≤ k ∧ k < 16 ∧ s.holds c.ctx 9 k = true ∧ (s.coreSt k = Co.idle ∨ s.coreSt k = Co.fault) ∧ arg c 12 4 = pm ∧ arg c 24 4 = x ∧ arg c 28 4 = y ∧ arg c 16 8 = a ∧ pm ≤ 65536 ∧ x ≤ 131072 ∧ y ≤ 131072 ∧ HasSpan s c 16 (pm + x + y) ∧ s.nvc.cores.length = 16) ∧
    (∃ (s : State) (c : Cmd) (k : Nat) (g : Nat) (us : Nat), Ready s c false [] ∧ arg c 8 1 = k ∧ arg c 9 1 = g ∧ 12 ≤ k ∧ k < 16 ∧ s.holds c.ctx 9 k = true ∧ s.coreSt k = Co.idle ∧ (s.core k).loaded = true ∧ g ≤ 2 ∧ (g = 2 → arg c 10 1 < 16) ∧ arg c 12 4 = us ∧ 1 ≤ us ∧ us ≤ 10000000 ∧ s.nvc.cores.length = 16) ∧
    (∃ (s : State) (c : Cmd) (k : Nat), Ready s c false [] ∧ arg c 8 1 = k ∧ 12 ≤ k ∧ k < 16 ∧ s.holds c.ctx 9 k = true ∧ s.nvc.cores.length = 16) ∧
    (∃ (s : State) (c : Cmd) (k : Nat) (f : Nat) (n : Nat), Ready s c false [] ∧ arg c 8 1 = k ∧ arg c 9 1 = f ∧ arg c 10 1 = n ∧ 12 ≤ k ∧ k < 16 ∧ s.holds c.ctx 9 k = true ∧ 1 ≤ n ∧ n ≤ 12 ∧ f + n ≤ 16 ∧ s.nvc.cores.length = 16) ∧
    (∃ (s : State) (c : Cmd) (k : Nat), Ready s c false [] ∧ arg c 8 1 = k ∧ 12 ≤ k ∧ k < 16 ∧ s.holds c.ctx 9 k = true) :=
  ⟨⟨hostIn .provisioned, cmdWith 0x0F01 [(12, 65536)], by decide⟩,
   ⟨{ withDram (hostIn .update) with pm := { State.reset.pm with updLen := 256 } }, cmdWith 0x0F02 [(16, dramBase), (24, 256)], true, 0, 256, by decide⟩,
   ⟨hostIn .update, cmdWith 0x0F03 [], true, by decide⟩,
   ⟨hostIn .update, cmdWith 0x0F04 [], by decide⟩,
   ⟨withDram (hostIn .provisioned), cmdWith 0x0F05 [(8, 1), (12, 16), (16, dramBase)], 1, 16, by decide⟩,
   ⟨withDram (holding hostAt 9 12), cmdWith 0x1001 [(8, 12), (12, 16), (16, dramBase), (24, 4), (28, 4)], 12, 16, 4, 4, dramBase, by decide⟩,
   ⟨(holding hostAt 9 12).setCore 12 { hostAt.core 12 with loaded := true }, cmdWith 0x1002 [(8, 12), (12, 100)], 12, 0, 100, by decide⟩,
   ⟨holding hostAt 9 12, cmdWith 0x1003 [(8, 12)], 12, by decide⟩,
   ⟨(holding hostAt 9 12).setCore 12 { hostAt.core 12 with loaded := true, trig := 2 }, cmdWith 0x1004 [(8, 12), (9, 15), (10, 1)], 12, 15, 1, by decide⟩,
   ⟨holding hostAt 9 12, cmdWith 0x1005 [(8, 12)], 12, by decide⟩⟩

end Sys2Proof.Tests
end

section
/-! SUPPORT. The statements about every step and about reset, and the access codes of the registers. -/

namespace Sys2Proof.Machine

/-! ### What every command keeps -/

/-- The frame of a command of which nothing is said but what all commands keep: any register and any part may change. -/
abbrev WithinAny (s : State) (o : Host.Outcome State Fault Refusal) : Prop := WithinNext (fun _ => True) (fun _ => True) s o

/-- Every command keeps what `Keeps` says: each meaning has a frame of its own in Laws, and this one is the widest of them. -/
theorem exec_withinAny (i : Instr) (s : State) : WithinAny s (exec i s) := by
  cases i
  case' suppliesInRange => apply within_execSuppliesInRange
  case' supplyLoss => apply within_execSupplyLoss
  case' porstNAssert => apply within_execPorstNAssert
  case' porstNRelease => apply within_execPorstNRelease
  case' warmResetHoldEnd => apply within_execWarmResetHoldEnd
  case' bistComplete => apply within_execBistComplete
  case' bootRomDone => apply within_execBootRomDone
  case' referencePllLock => apply within_execReferencePllLock
  case' dramTrainingDone => apply within_execDramTrainingDone
  case' mainImageVerified => apply within_execMainImageVerified
  case' hiBootGo => apply within_execHiBootGo
  case' firmwareWatchdogExpiry => apply within_execFirmwareWatchdogExpiry
  case' fatalFirmwareFault => apply within_execFatalFirmwareFault
  case' modeTransitionComplete => apply within_execModeTransitionComplete
  case' radioRampDownDone => apply within_execRadioRampDownDone
  case' thermalShutdown => apply within_execThermalShutdown
  case' thermalHoldEntry => apply within_execThermalHoldEntry
  case' pmHoldClear => apply within_execPmHoldClear
  case' pmWake => apply within_execPmWake
  case' frostTimerExpiry => apply within_execFrostTimerExpiry
  case' frostBlockAnswer => apply within_execFrostBlockAnswer
  case' frostAnswerTimeout => apply within_execFrostAnswerTimeout
  case' frostEntryDone => apply within_execFrostEntryDone
  case' domainReady => apply within_execDomainReady
  case' domainReadyTimeout => apply within_execDomainReadyTimeout
  case' thawComplete => apply within_execThawComplete
  case' gustStepGrant => apply within_execGustStepGrant
  case' perstAssert => apply within_execPerstAssert
  case' perstRelease => apply within_execPerstRelease
  case' pcieLinkUp => apply within_execPcieLinkUp
  case' pcieLinkDown => apply within_execPcieLinkDown
  case' ctxHoldExpiry => apply within_execCtxHoldExpiry
  case' inbandSilenceTimeout => apply within_execInbandSilenceTimeout
  case' tapReset => apply within_execTapReset
  case' pmbusRetry => apply within_execPmbusRetry
  case' registerWrite => apply within_execRegisterWrite
  case' counterClear => apply within_execCounterClear
  case' reg64LowRead => apply within_execReg64LowRead
  case' forecastCommit => apply within_execForecastCommit
  case' stagedEntryCommit => apply within_execStagedEntryCommit
  case' dlSym => apply within_execDlSym
  case' ulSym => apply within_execUlSym
  case' guard => apply within_execGuard
  case' chan => apply within_execChan
  case' auxTune => apply within_execAuxTune
  case' gain => apply within_execGain
  case' dpdSwap => apply within_execDpdSwap
  case' cfirSwap => apply within_execCfirSwap
  case' wpage => apply within_execWpage
  case' srsCap => apply within_execSrsCap
  case' obsCap => apply within_execObsCap
  case' calBorrow => apply within_execCalBorrow
  case' arm => apply within_execArm
  case' disarm => apply within_execDisarm
  case' dfeSync => apply within_execDfeSync
  case' mark => apply within_execMark
  case' entryRetire => apply within_execEntryRetire
  case' tlSfnLoad => apply within_execTlSfnLoad
  case' tlCtrlAlign => apply within_execTlCtrlAlign
  case' frameAlignEdge => apply within_execFrameAlignEdge
  case' frameBoundary => apply within_execFrameBoundary
  case' pipelineStageStart => apply within_execPipelineStageStart
  case' stageDeadline => apply within_execStageDeadline
  case' lockCheck => apply within_execLockCheck
  case' symbolStart => apply within_execSymbolStart
  case' symbolEnd => apply within_execSymbolEnd
  case' disarmGapExpiry => apply within_execDisarmGapExpiry
  case' pathArmStep => apply within_execPathArmStep
  case' pathDisarmStep => apply within_execPathDisarmStep
  case' borrowIntervalExpiry => apply within_execBorrowIntervalExpiry
  case' synCalDone => apply within_execSynCalDone
  case' synCalTimeout => apply within_execSynCalTimeout
  case' synLockLoss => apply within_execSynLockLoss
  case' tddPinRise => apply within_execTddPinRise
  case' tddPinFall => apply within_execTddPinFall
  case' pabiasRampStart => apply within_execPabiasRampStart
  case' pabiasChargeTrip => apply within_execPabiasChargeTrip
  case' guardPeakClip => apply within_execGuardPeakClip
  case' guardRmsMute => apply within_execGuardRmsMute
  case' guardMuteEnd => apply within_execGuardMuteEnd
  case' guardDutyLimit => apply within_execGuardDutyLimit
  case' rffeListStart => apply within_execRffeListStart
  case' rffeListEnd => apply within_execRffeListEnd
  case' foregroundCalDone => apply within_execForegroundCalDone
  case' dacTrimDone => apply within_execDacTrimDone
  case' rotSettleEnd => apply within_execRotSettleEnd
  case' rotOfflineEnd => apply within_execRotOfflineEnd
  case' rotShadowStart => apply within_execRotShadowStart
  case' rotShadowEnd => apply within_execRotShadowEnd
  case' sliceHandover => apply within_execSliceHandover
  case' rxqStatsDone => apply within_execRxqStatsDone
  case' rxqCorrectionApply => apply within_execRxqCorrectionApply
  case' txqCalStepDone => apply within_execTxqCalStepDone
  case' txqValuesApply => apply within_execTxqValuesApply
  case' orxCalStepDone => apply within_execOrxCalStepDone
  case' acalStepDone => apply within_execAcalStepDone
  case' acalSolveDone => apply within_execAcalSolveDone
  case' acalResultWrite => apply within_execAcalResultWrite
  case' dpdLoaderStart => apply within_execDpdLoaderStart
  case' dpdLoaderDone => apply within_execDpdLoaderDone
  case' obsCaptureEnd => apply within_execObsCaptureEnd
  case' captureDrainEnd => apply within_execCaptureDrainEnd
  case' dpdTrainJobEnd => apply within_execDpdTrainJobEnd
  case' bfRegionPub => apply within_execBfRegionPub
  case' drainingPageFree => apply within_execDrainingPageFree
  case' weightWrite => apply within_execWeightWrite
  case' srsCaptureDone => apply within_execSrsCaptureDone
  case' recipJobEnd => apply within_execRecipJobEnd
  case' regionScrubStart => apply within_execRegionScrubStart
  case' regionScrubDone => apply within_execRegionScrubDone
  case' shrinkScrubDone => apply within_execShrinkScrubDone
  case' bundleIssue => apply within_execBundleIssue
  case' barrierRelease => apply within_execBarrierRelease
  case' mailboxWaitRelease => apply within_execMailboxWaitRelease
  case' streamDescriptorDone => apply within_execStreamDescriptorDone
  case' controlStepDone => apply within_execControlStepDone
  case' jobRegister => apply within_execJobRegister
  case' jobDispatch => apply within_execJobDispatch
  case' nvcWatchdogExpiry => apply within_execNvcWatchdogExpiry
  case' corePause => apply within_execCorePause
  case' coreResume => apply within_execCoreResume
  case' coreRevokeScrubDone => apply within_execCoreRevokeScrubDone
  case' nvcCntWrap => apply within_execNvcCntWrap
  case' losDeclared => apply within_execLosDeclared
  case' signalPresent => apply within_execSignalPresent
  case' cdrLock => apply within_execCdrLock
  case' cdrLockLoss => apply within_execCdrLockLoss
  case' blockLockGained => apply within_execBlockLockGained
  case' blockLockLost => apply within_execBlockLockLost
  case' huntWindowExpiry => apply within_execHuntWindowExpiry
  case' huntStart => apply within_execHuntStart
  case' alignmentMarkerLock => apply within_execAlignmentMarkerLock
  case' galeSyncBlock => apply within_execGaleSyncBlock
  case' galeAlignBlock => apply within_execGaleAlignBlock
  case' galeSomBlock => apply within_execGaleSomBlock
  case' galeDataBlock => apply within_execGaleDataBlock
  case' galeIdleBlock => apply within_execGaleIdleBlock
  case' galeAbortBlock => apply within_execGaleAbortBlock
  case' galeSyncSend => apply within_execGaleSyncSend
  case' galeAlignSend => apply within_execGaleAlignSend
  case' fecCodeword => apply within_execFecCodeword
  case' highBer => apply within_execHighBer
  case' lanePllUnlock => apply within_execLanePllUnlock
  case' ctleLimitTimeout => apply within_execCtleLimitTimeout
  case' lanePowerExitDone => apply within_execLanePowerExitDone
  case' groupChangeApply => apply within_execGroupChangeApply
  case' patternSync => apply within_execPatternSync
  case' patternSyncLoss => apply within_execPatternSyncLoss
  case' lnCntWrap => apply within_execLnCntWrap
  case' lnPatStatClr => apply within_execLnPatStatClr
  case' ethernetFrame => apply within_execEthernetFrame
  case' uPlaneMessage => apply within_execUPlaneMessage
  case' cPlaneMessage => apply within_execCPlaneMessage
  case' delayRequest => apply within_execDelayRequest
  case' remoteDelayRequest => apply within_execRemoteDelayRequest
  case' delayResponse => apply within_execDelayResponse
  case' ptpMessage => apply within_execPtpMessage
  case' esmcFrame => apply within_execEsmcFrame
  case' arpOrNdFrame => apply within_execArpOrNdFrame
  case' otherIpFrame => apply within_execOtherIpFrame
  case' hardLaunch => apply within_execHardLaunch
  case' egressFrameStart => apply within_execEgressFrameStart
  case' firmLaunchExpiry => apply within_execFirmLaunchExpiry
  case' hardLaunchExpiry => apply within_execHardLaunchExpiry
  case' fhCntWrap => apply within_execFhCntWrap
  case' tsCtrlStep => apply within_execTsCtrlStep
  case' tsCtrlSel => apply within_execTsCtrlSel
  case' tsDomOfsWrite => apply within_execTsDomOfsWrite
  case' servoUpdate => apply within_execServoUpdate
  case' incRecompute => apply within_execIncRecompute
  case' holdoverTimeout => apply within_execHoldoverTimeout
  case' secondEdge => apply within_execSecondEdge
  case' ppsOutRise => apply within_execPpsOutRise
  case' ppsOutFall => apply within_execPpsOutFall
  case' ppsInEdge => apply within_execPpsInEdge
  case' ppsInTimeout => apply within_execPpsInTimeout
  case' synceGateEnd => apply within_execSynceGateEnd
  case' refclkLoss => apply within_execRefclkLoss
  case' refclkReturn => apply within_execRefclkReturn
  case' esmcSend => apply within_execEsmcSend
  case' ringProdWrite => apply within_execRingProdWrite
  case' ringConsWrite => apply within_execRingConsWrite
  case' ringDataWrite => apply within_execRingDataWrite
  case' ringDataRead => apply within_execRingDataRead
  case' ringEnable => apply within_execRingEnable
  case' commandConsume => apply within_execCommandConsume
  case' eventRecordWrite => apply within_execEventRecordWrite
  case' msixItimeExpiry => apply within_execMsixItimeExpiry
  case' debugWindowRead => apply within_execDebugWindowRead
  case' debugWindowWrite => apply within_execDebugWindowWrite
  case' spiTransaction => apply within_execSpiTransaction
  case' inbandFrame => apply within_execInbandFrame
  case' alertSumClear => apply within_execAlertSumClear
  case' booksAudit => apply within_execBooksAudit
  case' uartRxCharacter => apply within_execUartRxCharacter
  case' uartRxdRead => apply within_execUartRxdRead
  case' i2cTransferDone => apply within_execI2cTransferDone
  case' i2cRxdRead => apply within_execI2cRxdRead
  case' gpioTriggerEdge => apply within_execGpioTriggerEdge
  case' sysInfo => apply within_execSysInfo
  case' sysSetMode => apply within_execSysSetMode
  case' sysReset => apply within_execSysReset
  case' sysEcho => apply within_execSysEcho
  case' sysSerial => apply within_execSysSerial
  case' sysGpio => apply within_execSysGpio
  case' sysI2c => apply within_execSysI2c
  case' leaseGrant => apply within_execLeaseGrant
  case' leaseRevoke => apply within_execLeaseRevoke
  case' leaseRelease => apply within_execLeaseRelease
  case' leaseQuery => apply within_execLeaseQuery
  case' leaseTakeMode => apply within_execLeaseTakeMode
  case' carConfig => apply within_execCarConfig
  case' carChain => apply within_execCarChain
  case' carCfir => apply within_execCarCfir
  case' carStart => apply within_execCarStart
  case' carStop => apply within_execCarStop
  case' flowSet => apply within_execFlowSet
  case' flowRead => apply within_execFlowRead
  case' portSet => apply within_execPortSet
  case' fcEntry => apply within_execFcEntry
  case' fcBatch => apply within_execFcBatch
  case' fcCancel => apply within_execFcCancel
  case' fcStatus => apply within_execFcStatus
  case' beamRegionSet => apply within_execBeamRegionSet
  case' beamLoad => apply within_execBeamLoad
  case' beamRead => apply within_execBeamRead
  case' beamRecipSet => apply within_execBeamRecipSet
  case' calInterval => apply within_execCalInterval
  case' calRotSet => apply within_execCalRotSet
  case' calSweep => apply within_execCalSweep
  case' acalRefRecord => apply within_execAcalRefRecord
  case' acalRefLock => apply within_execAcalRefLock
  case' calStatus => apply within_execCalStatus
  case' dpdConfig => apply within_execDpdConfig
  case' dpdNbr => apply within_execDpdNbr
  case' dpdTrain => apply within_execDpdTrain
  case' dpdCoef => apply within_execDpdCoef
  case' dpdResume => apply within_execDpdResume
  case' cfrConfig => apply within_execCfrConfig
  case' capGet => apply within_execCapGet
  case' capFree => apply within_execCapFree
  case' fePabias => apply within_execFePabias
  case' feTdd => apply within_execFeTdd
  case' feFaultClear => apply within_execFeFaultClear
  case' rffeAccess => apply within_execRffeAccess
  case' rffeList => apply within_execRffeList
  case' laneGroupSet => apply within_execLaneGroupSet
  case' laneEq => apply within_execLaneEq
  case' lanePower => apply within_execLanePower
  case' laneTest => apply within_execLaneTest
  case' laneStatus => apply within_execLaneStatus
  case' timeDomainSet => apply within_execTimeDomainSet
  case' timeSelect => apply within_execTimeSelect
  case' timePps => apply within_execTimePps
  case' timeFrame => apply within_execTimeFrame
  case' timeSynce => apply within_execTimeSynce
  case' timeGet => apply within_execTimeGet
  case' timeDelay => apply within_execTimeDelay
  case' timePtpStats => apply within_execTimePtpStats
  case' pwrFrost => apply within_execPwrFrost
  case' pwrGust => apply within_execPwrGust
  case' pwrStatus => apply within_execPwrStatus
  case' monHkSeq => apply within_execMonHkSeq
  case' monHkCal => apply within_execMonHkCal
  case' monHkRead => apply within_execMonHkRead
  case' monTemp => apply within_execMonTemp
  case' monWear => apply within_execMonWear
  case' monHarvest => apply within_execMonHarvest
  case' monJournalRead => apply within_execMonJournalRead
  case' regSet => apply within_execRegSet
  case' regLock => apply within_execRegLock
  case' regStatus => apply within_execRegStatus
  case' fwUpdateBegin => apply within_execFwUpdateBegin
  case' fwUpdateWrite => apply within_execFwUpdateWrite
  case' fwUpdateCommit => apply within_execFwUpdateCommit
  case' fwUpdateAbort => apply within_execFwUpdateAbort
  case' cfgRecord => apply within_execCfgRecord
  case' kernelLoad => apply within_execKernelLoad
  case' kernelStart => apply within_execKernelStart
  case' kernelStop => apply within_execKernelStop
  case' kernelMbx => apply within_execKernelMbx
  case' kernelStatus => apply within_execKernelStatus
  case' refreshDue => apply within_execRefreshDue
  case' refreshIssue => apply within_execRefreshIssue
  case' rtBurstGrant => apply within_execRtBurstGrant
  case' portPieceGrant => apply within_execPortPieceGrant
  case' dqsGatherStart => apply within_execDqsGatherStart
  case' dqsGatherEnd => apply within_execDqsGatherEnd
  case' setpointChange => apply within_execSetpointChange
  case' setpointChangeDone => apply within_execSetpointChangeDone
  case' mcCntWrap => apply within_execMcCntWrap
  case' dmaChDoorbell => apply within_execDmaChDoorbell
  case' dmaChannelEnable => apply within_execDmaChannelEnable
  case' dmaChannelDisable => apply within_execDmaChannelDisable
  case' dmaChannelReset => apply within_execDmaChannelReset
  case' dmaBurstReadStart => apply within_execDmaBurstReadStart
  case' dmaBurstFilled => apply within_execDmaBurstFilled
  case' dmaBurstWrite => apply within_execDmaBurstWrite
  case' dmaDescriptorComplete => apply within_execDmaDescriptorComplete
  case' dmaRequestAssert => apply within_execDmaRequestAssert
  case' dmaCntWrap => apply within_execDmaCntWrap
  case' hkTimerExpiry => apply within_execHkTimerExpiry
  case' hkStartupDone => apply within_execHkStartupDone
  case' hkConversionDone => apply within_execHkConversionDone
  case' hkFifoRdPop => apply within_execHkFifoRdPop
  case' tempSample => apply within_execTempSample
  case' tempEvaluate => apply within_execTempEvaluate
  case' throttleStep => apply within_execThrottleStep
  case' wearReport => apply within_execWearReport
  case' marginPlannerRun => apply within_execMarginPlannerRun
  case' harvestSnapshot => apply within_execHarvestSnapshot
  case' journalWriteStart => apply within_execJournalWriteStart
  case' journalRecordDone => apply within_execJournalRecordDone
  case' lanePllLock => apply within_execLanePllLock
  case' blockScrubDone => apply within_execBlockScrubDone
  case' gustCapApply => apply within_execGustCapApply
  case' refreshRateChange => apply within_execRefreshRateChange
  case' pabiasRampEnd => apply within_execPabiasRampEnd
  all_goals intros; exact ⟨⟩

/-- Every command that answers a next state keeps the queue it was given, the time and the canonical forms. -/
theorem exec_keeps {i : Instr} {s t : State} (h : exec i s = .next t) : Keeps s t := (exec_withinAny i s t h).keeps

/-- A cycle of the clock keeps the queue and the canonical forms, past the count of the cycle itself. -/
theorem cycle_keeps (s : State) : Keeps { s with now := s.now + 1 } s.cycle := by
  refine Within.keeps (P := fun _ => True) (L := fun _ => True) ?_
  apply within_cycle <;> intros <;> exact ⟨⟩

theorem Keeps.canon {s t : State} (h : Keeps s t) (hs : s.Canon) : t.Canon := ⟨h.canonRegs hs.1, h.canonMem hs.2⟩

/-- Settles O3: a step is a cycle on an empty queue and a command otherwise, and both keep the canonical forms. -/
theorem everyStepKeepsTables : Obligations.EveryStepKeepsTables := by
  unfold Obligations.EveryStepKeepsTables
  intro s t hs h
  unfold step at h
  cases hq : s.pending with
  | nil =>
    rw [hq] at h
    cases h
    exact (cycle_keeps s).canon hs
  | cons i rest =>
    rw [hq] at h
    exact (exec_keeps h).canon hs

/-! ### Reset -/

/-- After reset every register reads its reset value (R16). -/
theorem State.rd_reset (a : Nat) : State.reset.rd a = resetVal a := rfl

theorem State.get_reset (a : Nat) (f : Fld) : State.reset.get a f = fldGet f (resetVal a) := rfl

theorem resetVal_TL_CAR_ULADV : ∀ k, k < 16 → resetVal (R.TL_CAR_ULADV k) = 0 := by decide

theorem resetVal_DFE_DPD_CFG_K : ∀ p, p < 64 → fldGet F.DFE_DPD_CFG_K (resetVal (R.DFE_DPD_CFG p)) = 8 := by decide

/-- Settles O6: empty tables are in canonical form, and the values named are those of the register table. The mode and the empty memory
of reset are the model's choice (log entries 61 and 5). -/
theorem resetHolds : Obligations.ResetHolds := by
  unfold Obligations.ResetHolds
  have sized : State.reset.Sized := by unfold State.Sized; decide
  have rotation : State.reset.get R.CV_ROT_CFG F.CV_ROT_CFG_PERIOD = 2 := by rw [State.get_reset]; decide
  have vcore : State.reset.get R.PM_VCORE F.PM_VCORE_MV = 750 := by rw [State.get_reset]; decide
  have boot : State.reset.mode = .boot := by unfold State.mode; rw [State.get_reset]; decide
  exact ⟨⟨rfl, rfl⟩, sized, ⟨rfl, rfl, boot⟩, resetVal_TL_CAR_ULADV, rotation, rfl, resetVal_DFE_DPD_CFG_K, vcore⟩

/-! ### The access codes (R11 to R17, R90) -/

/-- A write of an error counter clears it, to 1 where it has counted in the same cycle (R90). -/
theorem regWrite_counter {s : State} {a : Nat} {r : RegSpec} (hr : regSpec a = some r) (hc : r.cnt = true) (v : Word) :
    s.regWrite a v = s.wr a (if s.marked a = 0 then 0 else 1) := by
  simp [State.regWrite, hr, hc]

/-- A write of another register sets its RW and RWS bits and clears the W1C bits written as one that are not marked (R13, R14, R17). -/
theorem regWrite_fields {s : State} {a : Nat} {r : RegSpec} (hr : regSpec a = some r) (hc : r.cnt = false) (v : Word) :
    s.regWrite a v = s.wr a (((s.rd a &&& ~~~(BitVec.ofNat 32 (r.rw ||| r.rws))) ||| (v &&& BitVec.ofNat 32 (r.rw ||| r.rws))) &&&
      ~~~(v &&& (BitVec.ofNat 32 r.w1c &&& ~~~(s.marked a)))) := by
  simp [State.regWrite, hr, hc]

/-- A register write without an action of its own, to a register other than DFE_DPD_CFG, gives the registers what the access codes
say; the port's rate that follows MC_PORT_CFG (R488) is no register. -/
theorem rd_plainWrite {s : State} {a : Nat} {v : Word} {dbg : Bool} (hv : refusedWrite a v = false)
    (ha : (s.actionWrite a v dbg).isNone = true) (hd : indexAt R.DFE_DPD_CFG 64 a = none) (b : Nat) :
    (s.plainWrite a v dbg).rd b = (s.regWrite a v).rd b := by
  rw [Option.isNone_iff_eq_none] at ha
  simp only [State.plainWrite, hv, ha, hd]
  cases indexAt R.MC_PORT_CFG 8 a <;> rfl

/-- A misaligned or narrow access is not one of an aligned word (R11). -/
theorem not_wordAccess {w : Width} {a : Nat} (h : a % 4 ≠ 0 ∨ w ≠ .word) : ¬(w = .word && a % 4 = 0) = true := by
  rw [Bool.and_eq_true, decide_eq_true_eq, decide_eq_true_eq]
  rintro ⟨hw, ha⟩
  exact h.elim (fun hn => hn ha) (fun hn => hn hw)

/-- Neither a misaligned nor a narrow write is performed (R11). -/
theorem writeAs_unaligned {w : Width} {a : Nat} (h : a % 4 ≠ 0 ∨ w ≠ .word) (s t : State) : s.writeAs w a t = s :=
  if_neg (not_wordAccess h)

theorem writeAs_word {a : Nat} (h : a % 4 = 0) (s t : State) : s.writeAs .word a t = t := by simp [State.writeAs, h]

/-- A misaligned or narrow read answers zero (R11). -/
theorem readAs_unaligned {w : Width} {a : Nat} (h : a % 4 ≠ 0 ∨ w ≠ .word) (s : State) (r : Word × State) :
    s.readAs w a r = State.answer (0, s) :=
  if_neg (not_wordAccess h)

theorem readAs_word {a : Nat} (h : a % 4 = 0) (s : State) (r : Word × State) : s.readAs .word a r = State.answer r := by
  simp [State.readAs, h]

theorem when_self (g : Bool) (s : State) : when_ g s s = .next s := by simp [when_]

theorem when_true {g : Bool} (h : g = true) (t s : State) : when_ g t s = .next t := by simp [when_, h]

theorem when_false {g : Bool} (h : g = false) (t s : State) : when_ g t s = .next s := by simp [when_, h]

/-- A read of the low word of a 64-bit register answers it and holds the high word (R12). -/
theorem regRead_wide {s : State} {a : Nat} (hw : isWide a = true) (hs : summaryRegs.contains a = false)
    (hn : a < R.TH_NBR 0 ∨ R.TH_NBR 48 ≤ a) :
    s.regRead a = (s.rd a, { s with latch := (a + 4, s.rd (a + 4)) :: s.latch.filter (fun l => l.1 != a + 4) }) := by
  unfold State.regRead
  rw [if_neg (by rw [hs]; exact Bool.false_ne_true), if_neg (by omega), if_pos hw]

/-! ### The alert summary (R445) -/

theorem attNum_eq_three {att : Attachment} : attNum att = 3 ↔ att = .spi := by cases att <;> decide

theorem bar0_alertSum (i : Fin 8) : bar0 + (0x20 + 4 * i.val) = R.HI_ALERT_SUM i := by
  revert i; decide

theorem regSpec_alertSum (i : Fin 8) : regSpec (R.HI_ALERT_SUM i) = some ⟨bar0 + 0x20, 8, 0x4, 1, 0x0, 0x0, 0xFFFFFFFF, 0x0, false, 0x0⟩ := by
  revert i; decide

/-- A write at the place of HI_ALERT_SUM is performed for the mode-lease holder's attachment and for SPI. -/
theorem bar0Write_alertSum (s : State) (att : Attachment) (i : Fin 8) (v : Word) :
    s.bar0Write (attNum att) (0x20 + 4 * i) v =
      if (s.ctxsOf (attNum att)).any s.isML = true ∨ att = .spi then s.regWrite (R.HI_ALERT_SUM i) v else s := by
  have hi := i.isLt
  have h1 : ((0x20 + 4 * i.val) % 4 != 0 || decide (0x10000 ≤ 0x20 + 4 * i.val)) = false := by
    rw [Bool.or_eq_false_iff, bne_eq_false_iff_eq, decide_eq_false_iff_not]; omega
  have h2 : 0x20 + 4 * i.val < 0x1000 := by omega
  have h3 : (decide (0x20 ≤ 0x20 + 4 * i.val) && decide (0x20 + 4 * i.val < 0x40)) = true := by
    rw [Bool.and_eq_true, decide_eq_true_eq, decide_eq_true_eq]; omega
  unfold State.bar0Write
  rw [if_neg (by rw [h1]; decide), if_pos h2, if_pos h3, bar0_alertSum]
  simp only [Bool.or_eq_true, decide_eq_true_eq, attNum_eq_three]

/-- HI_ALERT_SUM is W1C in all its bits. -/
theorem regWrite_alertSum (s : State) (i : Fin 8) (v : Word) :
    s.regWrite (R.HI_ALERT_SUM i) v =
      s.wr (R.HI_ALERT_SUM i) (s.rd (R.HI_ALERT_SUM i) &&& ~~~(v &&& ~~~(s.marked (R.HI_ALERT_SUM i)))) := by
  rw [regWrite_fields (regSpec_alertSum i) rfl]
  have hall (x : Word) : 0xFFFFFFFF#32 &&& x = x := BitVec.allOnes_and
  simp [hall, BitVec.and_comm _ 0xFFFFFFFF#32]

/-! ### The clauses of O40 -/

theorem gives_registerWrite {s : State} {addr : BitVec 32} {v : Word} {r : RegSpec} (hg : s.region addr.toNat = .regs)
    (ha : addr.toNat % 4 = 0) (hv : refusedWrite addr.toNat v = false) (hw : (s.actionWrite addr.toNat v false).isNone = true)
    (hd : indexAt R.DFE_DPD_CFG 64 addr.toNat = none) (hr : regSpec addr.toNat = some r) (hc : r.cnt = false) :
    Gives (.registerWrite (.internal .word) addr v) s fun t =>
      t.rd addr.toNat = (((s.rd addr.toNat &&& ~~~(BitVec.ofNat 32 (r.rw ||| r.rws))) ||| (v &&& BitVec.ofNat 32 (r.rw ||| r.rws))) &&&
      ~~~(v &&& (BitVec.ofNat 32 r.w1c &&& ~~~(s.marked addr.toNat)))) ∧ ∀ a, a ≠ addr.toNat → t.rd a = s.rd a := by
  have hx : exec (.registerWrite (.internal .word) addr v) s = .next (s.plainWrite addr.toNat v false) :=
    (when_true (decide_eq_true hg) ..).trans (congrArg _ (writeAs_word ha ..))
  refine ⟨_, hx, ?_, fun a hne => ?_⟩
  · rw [rd_plainWrite hv hw hd, regWrite_fields hr hc, State.rd_wr_same]
  · rw [rd_plainWrite hv hw hd, regWrite_fields hr hc, State.rd_wr_ne s hne]

/-- A misaligned or narrow write changes nothing, by every way to a register (R11). -/
theorem exec_unaligned_write {s : State} (att : Attachment) {addr : BitVec 32} {w : Width} (v : Word)
    (h : addr.toNat % 4 ≠ 0 ∨ w ≠ .word) :
    exec (.registerWrite (.internal w) addr v) s = .next s ∧ exec (.counterClear (.internal w) addr v) s = .next s ∧
      exec (.registerWrite (.bar att w) addr v) s = .next s ∧ exec (.counterClear (.bar att w) addr v) s = .next s := by
  have hn (g : Bool) (t : State) : when_ g (s.writeAs w addr.toNat t) s = .next s := by rw [writeAs_unaligned h, when_self]
  exact ⟨hn .., hn .., hn .., hn ..⟩

theorem gives_unaligned_read {s : State} {addr : BitVec 32} {w : Width} (hw : isWide (addr.toNat / 4 * 4) = true)
    (h : addr.toNat % 4 ≠ 0 ∨ w ≠ .word) :
    Gives (.reg64LowRead (.internal w) addr) s fun t => t.lastRead = some 0 ∧ t.latch = s.latch ∧ ∀ a, t.rd a = s.rd a :=
  ⟨State.answer (0, s), (when_true hw ..).trans (congrArg _ (readAs_unaligned h ..)), rfl, rfl, fun _ => rfl⟩

/-- While HI does not run, an access through BAR0 changes nothing. -/
theorem exec_bar_stopped {s : State} (att : Attachment) (addr : BitVec 32) (w : Width) (v : Word) (h : s.hiRuns = false) :
    exec (.registerWrite (.bar att w) addr v) s = .next s ∧ exec (.counterClear (.bar att w) addr v) s = .next s ∧
      exec (.reg64LowRead (.bar att w) addr) s = .next s := by
  have hand (b : Bool) : (s.hiRuns && b) = false := by rw [h, Bool.false_and]
  exact ⟨when_false h .., when_false (hand _) .., when_false (hand _) ..⟩

theorem gives_counterClear {s : State} {addr : BitVec 32} (v : Word) {r : RegSpec} (hr : regSpec addr.toNat = some r) (hc : r.cnt = true)
    (ha : addr.toNat % 4 = 0) :
    Gives (.counterClear (.internal .word) addr v) s fun t =>
      t.rd addr.toNat = (if s.marked addr.toNat = 0 then 0 else 1) ∧ ∀ a, a ≠ addr.toNat → t.rd a = s.rd a := by
  have hx : exec (.counterClear (.internal .word) addr v) s = .next (s.wr addr.toNat (if s.marked addr.toNat = 0 then 0 else 1)) := by
    refine (when_true ?_ ..).trans (congrArg _ ((writeAs_word ha ..).trans (regWrite_counter hr hc v)))
    rw [hr]; exact hc
  exact ⟨_, hx, State.rd_wr_same .., fun a hne => State.rd_wr_ne s hne _⟩

theorem gives_reg64LowRead {s : State} {addr : BitVec 32} (hw : isWide addr.toNat = true) (ha : addr.toNat % 4 = 0)
    (hs : summaryRegs.contains addr.toNat = false) (hn : addr.toNat < R.TH_NBR 0 ∨ R.TH_NBR 48 ≤ addr.toNat) :
    Gives (.reg64LowRead (.internal .word) addr) s fun t =>
      t.lastRead = some (s.rd addr.toNat) ∧ t.latch.head? = some (addr.toNat + 4, s.rd (addr.toNat + 4)) ∧ ∀ a, t.rd a = s.rd a := by
  have hw' : isWide (addr.toNat / 4 * 4) = true := by rwa [Nat.div_mul_cancel (Nat.dvd_of_mod_eq_zero ha)]
  have hx : exec (.reg64LowRead (.internal .word) addr) s = .next (State.answer (s.regRead addr.toNat)) :=
    (when_true hw' ..).trans (congrArg _ (readAs_word ha ..))
  rw [regRead_wide hw hs hn] at hx
  exact ⟨_, hx, rfl, rfl, fun _ => rfl⟩

theorem gives_alertSumClear {s : State} {att : Attachment} (i : Fin 8) (v : Word) (hr : s.hiRuns = true)
    (h : (s.ctxsOf (attNum att)).any s.isML = true ∨ att = .spi) :
    Gives (.alertSumClear att i v) s fun t =>
      t.rd (R.HI_ALERT_SUM i) = s.rd (R.HI_ALERT_SUM i) &&& ~~~(v &&& ~~~(s.marked (R.HI_ALERT_SUM i))) ∧
        ∀ a, a ≠ R.HI_ALERT_SUM i → t.rd a = s.rd a := by
  have hx : exec (.alertSumClear att i v) s = .next (s.regWrite (R.HI_ALERT_SUM i) v) :=
    (when_true hr ..).trans (congrArg _ ((bar0Write_alertSum s att i v).trans (if_pos h)))
  rw [regWrite_alertSum] at hx
  exact ⟨_, hx, State.rd_wr_same .., fun a hne => State.rd_wr_ne s hne _⟩

/-- From another attachment a write of HI_ALERT_SUM changes nothing, whether HI runs or not. -/
theorem exec_alertSumClear_denied {s : State} {att : Attachment} (i : Fin 8) (v : Word)
    (hm : (s.ctxsOf (attNum att)).any s.isML = false) (ha : att ≠ .spi) : exec (.alertSumClear att i v) s = .next s := by
  have hb : s.bar0Write (attNum att) (0x20 + 4 * i) v = s := by
    rw [bar0Write_alertSum, if_neg]
    rintro (h | h)
    · rw [hm] at h; cases h
    · exact ha h
  have hx : exec (.alertSumClear att i v) s = when_ s.hiRuns (s.bar0Write (attNum att) (0x20 + 4 * i) v) s := rfl
  rw [hx, hb, when_self]

/-- Settles O40: each clause is the access code, the alignment rule or the gate of its way to the registers. Which registers are 64 bits
wide is the model's table, with DFE_CAR_CIC in it (log entry 111). -/
theorem registerAccess : Obligations.RegisterAccess := by
  unfold Obligations.RegisterAccess
  exact ⟨fun _ _ _ _ hg ha hv hw hd hr hc => gives_registerWrite hg ha hv hw hd hr hc,
    fun _ att _ _ v h => exec_unaligned_write att v h,
    fun _ _ _ hw h => gives_unaligned_read hw h,
    fun _ att addr w v h => exec_bar_stopped att addr w v h,
    fun _ _ v _ hr hc ha => gives_counterClear v hr hc ha,
    fun _ _ hw ha hs hn => gives_reg64LowRead hw ha hs hn,
    fun _ _ i v hr h => gives_alertSumClear i v hr h,
    fun _ _ i v hm ha => exec_alertSumClear_denied i v hm ha⟩

end Sys2Proof.Machine
end

section
/-! SUPPORT. The RF paths, their synthesisers and enable pins: one rule for each state operation, then the clauses of O23. -/

namespace Sys2Proof.Machine

/-! ### Folds over distinct elements -/

/-- What every step of a fold leaves alone, the fold leaves alone. -/
theorem foldl_keeps {α β : Type} {f : State → α → State} (o : State → β) {l : List α} (h : ∀ a ∈ l, ∀ s, o (f s a) = o s)
    (s : State) : o (l.foldl f s) = o s := by
  induction l generalizing s with
  | nil => rfl
  | cons a l ih =>
    rw [List.foldl_cons, ih (fun b hb => h b (List.mem_cons_of_mem a hb)), h a List.mem_cons_self]

/-- What the step of one element changes by `g`, and every other step leaves alone, a fold over distinct elements changes by `g` exactly
when that element is among them. -/
theorem foldl_at {α β : Type} [DecidableEq α] {f : State → α → State} (o : State → β) (g : β → β) (b : α) {l : List α}
    (hl : l.Nodup) (same : b ∈ l → ∀ s, o (f s b) = g (o s)) (ne : ∀ a ∈ l, a ≠ b → ∀ s, o (f s a) = o s) (s : State) :
    o (l.foldl f s) = if b ∈ l then g (o s) else o s := by
  induction l generalizing s with
  | nil => rfl
  | cons a l ih =>
    obtain ⟨hal, hl⟩ := List.nodup_cons.mp hl
    have hne : ∀ x ∈ l, x ≠ b → ∀ s, o (f s x) = o s := fun x hx => ne x (List.mem_cons_of_mem a hx)
    rw [List.foldl_cons]
    by_cases hab : a = b
    · subst hab
      rw [if_pos List.mem_cons_self, foldl_keeps o (fun x hx => hne x hx (fun e => hal (e ▸ hx))), same List.mem_cons_self]
    · rw [ih hl (fun hb => same (List.mem_cons_of_mem a hb)) hne, ne a List.mem_cons_self hab]
      simp only [List.mem_cons, Ne.symm hab, false_or]

theorem mem_quadPaths {p q : Nat} : p ∈ quadPaths q ↔ quadOf p = q := by
  simp only [quadPaths, quadOf, List.mem_map, List.mem_range]
  exact ⟨fun ⟨i, hi, hp⟩ => by omega, fun h => ⟨p % 16, Nat.mod_lt _ (by decide), by omega⟩⟩

theorem nodup_quadPaths (q : Nat) : (quadPaths q).Nodup :=
  List.Pairwise.map (· + 16 * q) (fun _ _ h e => h (Nat.add_right_cancel e)) List.nodup_range

theorem lt_of_mem_quadPaths {p q : Nat} (hq : q < 4) (h : p ∈ quadPaths q) : p < 64 := by
  have := mem_quadPaths.mp h
  unfold quadOf at this
  omega

theorem mem_bitsOf {m n p : Nat} : p ∈ bitsOf m n ↔ p < n ∧ m.testBit p = true := by simp [bitsOf]

theorem nodup_bitsOf (m n : Nat) : (bitsOf m n).Nodup := List.nodup_range.filter _

/-! ### Which registers lie apart -/

theorem pathState_inj {p q : Nat} : R.RF_PATH_STATE p = R.RF_PATH_STATE q ↔ p = q := by unfold R.RF_PATH_STATE; omega

theorem pathState_ne {p q : Nat} (h : q ≠ p) : R.RF_PATH_STATE q ≠ R.RF_PATH_STATE p := fun e => h (pathState_inj.mp e)

/-- The state registers of the 64 paths lie apart from the bias registers. -/
theorem pathState_ne_bias {p : Nat} (hp : p < 64) (q : Nat) :
    R.RF_PATH_STATE p ≠ R.RF_PABIAS_CFG q ∧ R.RF_PATH_STATE p ≠ R.RF_PABIAS_LVL q := by
  unfold R.RF_PATH_STATE R.RF_PABIAS_CFG R.RF_PABIAS_LVL; omega

theorem synStatus_ne_pathState {n : Nat} (hn : n < 5) (p : Nat) : R.RF_SYN_STATUS n ≠ R.RF_PATH_STATE p := by
  unfold R.RF_SYN_STATUS R.RF_PATH_STATE; omega

theorem loUnlockCnt_ne_pathState (n : Nat) {p : Nat} (hp : p < 64) : R.RF_LO_UNLOCK_CNT n ≠ R.RF_PATH_STATE p := by
  unfold R.RF_LO_UNLOCK_CNT R.RF_PATH_STATE; omega

theorem loUnlockCnt_ne_synStatus {m : Nat} (hm : m < 5) (n : Nat) : R.RF_LO_UNLOCK_CNT n ≠ R.RF_SYN_STATUS m := by
  unfold R.RF_LO_UNLOCK_CNT R.RF_SYN_STATUS; omega

/-! ### Events -/

theorem told_raise (s : State) (e : Nat) (items : List Nat) : (s.raise e items).told = s.told ++ [(e, items)] := by
  simp [State.told, State.raise, State.raiseAs]

theorem told_congr {s t : State} (h : t.raised = s.raised) : t.told = s.told := by unfold State.told; rw [h]

/-! ### Path states -/

theorem State.tx_congr {s t : State} {p : Nat} (h : t.rd (R.RF_PATH_STATE p) = s.rd (R.RF_PATH_STATE p)) : t.tx p = s.tx p :=
  congrArg (fldGet F.RF_PATH_STATE_TX) h

@[simp] theorem State.rd_capFlag (s : State) (bit : Nat) (f : Nat → Cap → Bool) (a : Nat) : (s.capFlag bit f).rd a = s.rd a := rfl

theorem State.rd_biasTake_ne (s : State) {p a : Nat} (hc : a ≠ R.RF_PABIAS_CFG p) (hl : a ≠ R.RF_PABIAS_LVL p) :
    (s.biasTake p).rd a = s.rd a := by
  unfold State.biasTake
  split
  · rw [State.rd_wr_ne _ hl, State.rd_wr_ne _ hc]; rfl
  · rfl

/-- The registers after a change of a transmitter's state, beside the bias registers that OFF writes. -/
theorem State.rd_setTx (s : State) {p a : Nat} (v : Nat) (h : v ≠ Ps.off ∨ (a ≠ R.RF_PABIAS_CFG p ∧ a ≠ R.RF_PABIAS_LVL p)) :
    (s.setTx p v).rd a = (s.put (R.RF_PATH_STATE p) F.RF_PATH_STATE_TX v).rd a := by
  have hput (t : State) (ht : t.regs = s.regs) :
      (t.put (R.RF_PATH_STATE p) F.RF_PATH_STATE_TX v).rd a = (s.put (R.RF_PATH_STATE p) F.RF_PATH_STATE_TX v).rd a := by
    simp only [State.rd, State.put, State.wr, ht]
  unfold State.setTx
  dsimp only
  split
  case isTrue hv =>
    obtain ⟨hc, hl⟩ := h.resolve_left (fun hn => hn hv)
    rw [State.rd_biasTake_ne _ hc hl]
    split <;> exact hput _ rfl
  case isFalse => split <;> exact hput _ rfl

theorem State.rd_setTx_ne (s : State) {p a v : Nat} (hv : v ≠ Ps.off) (h : a ≠ R.RF_PATH_STATE p) : (s.setTx p v).rd a = s.rd a := by
  rw [State.rd_setTx s v (.inl hv), State.rd_put_ne s h]

theorem State.tx_setTx_same (s : State) {p v : Nat} (hp : p < 64) (hv : v < 8) : (s.setTx p v).tx p = v := by
  have h := s.rd_setTx (p := p) v (.inr (pathState_ne_bias hp p))
  calc (s.setTx p v).tx p = (s.put (R.RF_PATH_STATE p) F.RF_PATH_STATE_TX v).tx p := State.tx_congr h
    _ = v % 2 ^ F.RF_PATH_STATE_TX.w := State.get_put_same _ _ _ _ (by decide)
    _ = v := Nat.mod_eq_of_lt hv

theorem State.tx_setTx_ne (s : State) {p q : Nat} (v : Nat) (hq : q < 64) (h : q ≠ p) : (s.setTx p v).tx q = s.tx q :=
  State.tx_congr ((s.rd_setTx v (.inr (pathState_ne_bias hq p))).trans (State.rd_put_ne s (pathState_ne h) ..))

theorem State.rd_setRx_ne (s : State) {p a : Nat} (v : Nat) (h : a ≠ R.RF_PATH_STATE p) : (s.setRx p v).rd a = s.rd a :=
  State.rd_put_ne s h ..

theorem State.rd_setMute_ne (s : State) {p a : Nat} (v : Nat) (h : a ≠ R.RF_PATH_STATE p) : (s.setMute p v).rd a = s.rd a :=
  State.rd_put_ne s h ..

/-- A change of another field of the path state registers leaves every transmitter's state. -/
theorem State.tx_put_apart (s : State) (p q : Nat) (f : Fld) (v : Nat) (h : 3 ≤ f.lo) :
    (s.put (R.RF_PATH_STATE p) f v).tx q = s.tx q := by
  by_cases e : q = p
  · subst e; exact State.get_put_apart s _ _ _ _ (.inl h) (by decide)
  · exact State.get_put_ne s (pathState_ne e) ..

@[simp] theorem State.tx_setRx (s : State) (p q v : Nat) : (s.setRx p v).tx q = s.tx q := s.tx_put_apart p q _ v (by decide)

@[simp] theorem State.tx_setMute (s : State) (p q v : Nat) : (s.setMute p v).tx q = s.tx q := s.tx_put_apart p q _ v (by decide)

/-! ### Mutes (R110) -/

/-- The state of a transmitter after a mute: MUTED where it was armed or active. -/
def mutedFrom (v : Nat) : Nat := if v = Ps.armed ∨ v = Ps.active then Ps.muted else v

theorem State.tx_muteTx_same (s : State) {p : Nat} (cause : Nat) (hp : p < 64) : (s.muteTx p cause).tx p = mutedFrom (s.tx p) := by
  simp only [State.muteTx, mutedFrom, Bool.or_eq_true, decide_eq_true_eq]
  split
  · rw [State.tx_setMute, State.tx_setTx_same s hp (by decide)]
  · rfl

theorem State.rd_muteTx_ne (s : State) {p a : Nat} (cause : Nat) (h : a ≠ R.RF_PATH_STATE p) : (s.muteTx p cause).rd a = s.rd a := by
  unfold State.muteTx
  split
  · rw [State.rd_setMute_ne _ _ h, State.rd_setTx_ne s (by decide) h]
  · rfl

@[simp] theorem State.tx_muteRx (s : State) (p q cause : Nat) : (s.muteRx p cause).tx q = s.tx q := by
  unfold State.muteRx
  split
  · rw [State.tx_setMute, State.tx_setRx]
  · rfl

theorem State.rd_muteRx_ne (s : State) {p a : Nat} (cause : Nat) (h : a ≠ R.RF_PATH_STATE p) : (s.muteRx p cause).rd a = s.rd a := by
  unfold State.muteRx
  split
  · rw [State.rd_setMute_ne _ _ h, State.rd_setRx_ne s _ h]
  · rfl

/-- Both directions of every path of a quadrant are muted for a loss of lock (R107). -/
def State.quadMuted (s : State) (q : Nat) : State := (quadPaths q).foldl (fun (t : State) p => (t.muteTx p 1).muteRx p 1) s

theorem State.tx_quadMuted (s : State) {q p : Nat} (hq : q < 4) :
    (s.quadMuted q).tx p = if quadOf p = q then mutedFrom (s.tx p) else s.tx p := by
  simp only [← mem_quadPaths]
  refine foldl_at (fun (t : State) => t.tx p) mutedFrom p (nodup_quadPaths q) (fun hp t => ?_) (fun a _ hne t => ?_) s
  · rw [State.tx_muteRx, State.tx_muteTx_same t 1 (lt_of_mem_quadPaths hq hp)]
  · rw [State.tx_muteRx]; exact State.tx_congr (t.rd_muteTx_ne 1 (pathState_ne (Ne.symm hne)))

theorem State.rd_quadMuted (s : State) {q a : Nat} (hq : q < 4) (h : ∀ p, p < 64 → a ≠ R.RF_PATH_STATE p) :
    (s.quadMuted q).rd a = s.rd a :=
  foldl_keeps (fun (t : State) => t.rd a) (fun p hp t => by
    have hne := h p (lt_of_mem_quadPaths hq hp)
    rw [State.rd_muteRx_ne _ _ hne, State.rd_muteTx_ne _ _ hne]) s

/-! ### Synthesisers (R103, R106 to R108) -/

theorem State.syn_congr {s t : State} {n : Nat} (h : t.rd (R.RF_SYN_STATUS n) = s.rd (R.RF_SYN_STATUS n)) : t.syn n = s.syn n :=
  congrArg (fldGet F.RF_SYN_STATUS_STATE) h

/-- A synthesiser reaches a state, with the time that its calibration took. -/
theorem State.syn_put_calUs (s : State) (n us : Nat) {v : Nat} (hv : v < 8) :
    ((s.put (R.RF_SYN_STATUS n) F.RF_SYN_STATUS_STATE v).put (R.RF_SYN_STATUS n) F.RF_SYN_STATUS_CAL_US us).syn n = v := by
  unfold State.syn
  rw [State.get_put_apart _ _ _ _ _ (by decide) (by decide), State.get_put_same _ _ _ _ (by decide)]
  exact Nat.mod_eq_of_lt hv

/-- A run that fails in its second attempt ends FAILED and is reported (R106). -/
theorem synFail_second (s : State) (n us : Nat) (h : nth s.rf.retry n false = true) :
    (s.synFail n us).syn n = 4 ∧ (s.synFail n us).told = s.told ++ [(Ev.RF_SYN_CAL_FAIL, [n])] := by
  unfold State.synFail
  dsimp only
  rw [if_pos h]
  exact ⟨State.syn_put_calUs _ n _ (by decide), told_raise ..⟩

/-- A run that fails in its first attempt is run once more (R106). -/
theorem synFail_first (s : State) (n us : Nat) (h : nth s.rf.retry n false = false) :
    (s.synFail n us).syn n = s.syn n ∧ (s.synFail n us).rf.retry = s.rf.retry.set n true ∧ (s.synFail n us).told = s.told := by
  unfold State.synFail
  dsimp only
  rw [if_neg (by rw [h]; exact Bool.false_ne_true)]
  exact ⟨rfl, rfl, rfl⟩

theorem exec_synCalDone {s : State} {syn : Fin 5} (us : BitVec 8) (h : s.syn syn = 1) (lock : Bool) :
    exec (.synCalDone syn us lock) s = .next (if lock then (s.put (R.RF_SYN_STATUS syn) F.RF_SYN_STATUS_STATE 2).put
      (R.RF_SYN_STATUS syn) F.RF_SYN_STATUS_CAL_US (min (nth s.rf.calUs syn 0 + us.toNat) 1023) else s.synFail syn us.toNat) := by
  have hx : exec (.synCalDone syn us lock) s = execSynCalDone syn us lock s := rfl
  rw [hx, execSynCalDone, if_neg (fun hn => hn h)]
  split <;> rfl

theorem exec_synCalTimeout {s : State} {syn : Fin 5} (h : s.syn syn = 1) : exec (.synCalTimeout syn) s = .next (s.synFail syn 250) :=
  when_true (decide_eq_true h) ..

theorem gives_synCalDone_locked {s : State} {syn : Fin 5} (us : BitVec 8) (h : s.syn syn = 1) :
    Gives (.synCalDone syn us true) s fun t =>
      t.syn syn = 2 ∧ t.get (R.RF_SYN_STATUS syn) F.RF_SYN_STATUS_CAL_US = min (nth s.rf.calUs syn 0 + us.toNat) 1023 := by
  refine ⟨_, exec_synCalDone us h true, State.syn_put_calUs s syn _ (by decide), ?_⟩
  have hlt : min (nth s.rf.calUs syn 0 + us.toNat) 1023 < 2 ^ F.RF_SYN_STATUS_CAL_US.w :=
    Nat.lt_of_le_of_lt (Nat.min_le_right ..) (by decide)
  exact (State.get_put_same _ _ _ _ (by decide)).trans (Nat.mod_eq_of_lt hlt)

/-- What a loss of lock does first: it is counted twice, in RELOCK and in the error counter, and the synthesiser is LOST. -/
def State.loLost (s : State) (n : Nat) : State :=
  ((s.incSat (R.RF_SYN_STATUS n) F.RF_SYN_STATUS_RELOCK).count (R.RF_LO_UNLOCK_CNT n)).put (R.RF_SYN_STATUS n) F.RF_SYN_STATUS_STATE 3

theorem State.syn_loLost (s : State) (n : Nat) : (s.loLost n).syn n = 3 := State.get_put_same _ _ _ _ (by decide)

theorem State.counted_loLost (s : State) {n : Nat} (hn : n < 5) : Counted s (s.loLost n) (R.RF_LO_UNLOCK_CNT n) := by
  have hne := loUnlockCnt_ne_synStatus hn n
  have hinc : (s.incSat (R.RF_SYN_STATUS n) F.RF_SYN_STATUS_RELOCK).rd (R.RF_LO_UNLOCK_CNT n) = s.rd (R.RF_LO_UNLOCK_CNT n) :=
    State.rd_put_ne s hne ..
  unfold Counted State.loLost
  rw [State.rd_put_ne _ hne, State.rd_count_same, hinc]

theorem State.tx_loLost (s : State) {n p : Nat} (hn : n < 5) (hp : p < 64) : (s.loLost n).tx p = s.tx p := by
  have hs := (synStatus_ne_pathState hn p).symm
  refine State.tx_congr ((State.rd_put_ne _ hs ..).trans ((State.rd_count_ne _ ?_).trans (State.rd_put_ne s hs ..)))
  exact (loUnlockCnt_ne_pathState n hp).symm

/-- The paths of a quadrant that a loss of lock cuts are noted (R107). -/
def State.loNoted (s : State) (q : Nat) : State :=
  { s with rf := { s.rf with loMute := s.rf.loMute ++ (quadPaths q).filter (fun p => s.txUp p && !s.rf.loMute.contains p) } }

/-- What a loss of lock does to a quadrant beside its paths: to its enable pins, its uplink symbols in progress, its captures, and the
calibration steps `cut`. -/
def State.quadCut (s : State) (q : Nat) (cut : Nat × Nat → Bool) : State :=
  let t := (s.txen (2 * q) false).txen (2 * q + 1) false
  let t := { t with tl := { t.tl with syms := t.tl.syms.map (fun (y : Sym) =>
    if y.ul && y.active && (quadsOf y.pmask).contains q then { y with blank := true } else y) } }
  (t.capFlag 0 (fun tile _ => tile / 2 = q)).calAbort cut

@[simp] theorem State.rd_calAbort (s : State) (f : Nat × Nat → Bool) (a : Nat) : (s.calAbort f).rd a = s.rd a :=
  (within_calAbort (P := fun _ => False) (L := fun _ => True) trivial trivial s f).regs a id

@[simp] theorem State.pins_calAbort (s : State) (f : Nat × Nat → Bool) : (s.calAbort f).pins = s.pins :=
  (within_calAbort (P := fun _ => False) (L := fun x => x = .cv ∨ x = .raised) (.inl rfl) (.inr rfl) s f).parts .pins (by decide)

@[simp] theorem State.rd_quadCut (s : State) (q : Nat) (cut : Nat × Nat → Bool) (a : Nat) : (s.quadCut q cut).rd a = s.rd a :=
  State.rd_calAbort ..

theorem State.txen_quadCut (s : State) (q : Nat) (cut : Nat × Nat → Bool) :
    (s.quadCut q cut).pins.txen = (s.pins.txen.set (2 * q) false).set (2 * q + 1) false :=
  congrArg Pins.txen (State.pins_calAbort ..)

theorem exec_synLockLoss_quad {s : State} {syn : Fin 5} (h : s.syn syn = 2) (hq : syn ≠ 4) :
    exec (.synLockLoss syn) s =
      .next (((((s.loLost syn).loNoted syn).quadMuted syn).quadCut syn (s.stepLost syn)).raise Ev.RF_LO_UNLOCK [syn.val]) := by
  have hx : exec (.synLockLoss syn) s = execSynLockLoss syn s := rfl
  rw [hx, execSynLockLoss, if_neg (fun hn => hn h)]
  dsimp only
  rw [if_neg hq]
  rfl

theorem exec_synLockLoss_aux {s : State} (h : s.syn 4 = 2) :
    exec (.synLockLoss 4) s = .next ((((s.loLost 4).capFlag 0 (fun _ _ => true)).calAbort (fun _ => true)).raise Ev.RF_AUX_UNLOCK []) := by
  have hx : exec (.synLockLoss 4) s = execSynLockLoss 4 s := rfl
  rw [hx, execSynLockLoss, if_neg (fun hn => hn h)]
  rfl

/-- What follows the count of a quadrant's loss of lock changes no register but the states of paths. -/
theorem rd_synLockLoss_quad (s : State) {q a : Nat} (hq : q < 4) (h : ∀ p, p < 64 → a ≠ R.RF_PATH_STATE p) (cut : Nat × Nat → Bool)
    (e : Nat) (items : List Nat) : (((((s.loLost q).loNoted q).quadMuted q).quadCut q cut).raise e items).rd a = (s.loLost q).rd a := by
  rw [State.rd_raise, State.rd_quadCut, State.rd_quadMuted _ hq h]
  rfl

/-- What follows the count of the auxiliary synthesiser's loss of lock changes no register. -/
theorem rd_synLockLoss_aux (s : State) (a : Nat) :
    ((((s.loLost 4).capFlag 0 (fun _ _ => true)).calAbort (fun _ => true)).raise Ev.RF_AUX_UNLOCK []).rd a = (s.loLost 4).rd a := by
  rw [State.rd_raise, State.rd_calAbort, State.rd_capFlag]

theorem gives_synLockLoss {s : State} {syn : Fin 5} (h : s.syn syn = 2) :
    Gives (.synLockLoss syn) s fun t =>
      t.syn syn = 3 ∧ Counted s t (R.RF_LO_UNLOCK_CNT syn) ∧
        t.told.getLast? = some (if syn = 4 then (Ev.RF_AUX_UNLOCK, []) else (Ev.RF_LO_UNLOCK, [syn.val])) := by
  have hst := s.syn_loLost syn
  have hc := s.counted_loLost syn.isLt
  by_cases hq : syn = 4
  · subst hq
    refine ⟨_, exec_synLockLoss_aux h, ?_, ?_, ?_⟩
    · exact (State.syn_congr (rd_synLockLoss_aux s _)).trans hst
    · rwa [Counted, rd_synLockLoss_aux]
    · rw [told_raise, List.getLast?_concat, if_pos rfl]
  · have hlt : syn.val < 4 := by omega
    have hrd {a : Nat} (ha : ∀ p, p < 64 → a ≠ R.RF_PATH_STATE p) :=
      rd_synLockLoss_quad s hlt ha (s.stepLost syn) Ev.RF_LO_UNLOCK [syn.val]
    refine ⟨_, exec_synLockLoss_quad h hq, ?_, ?_, ?_⟩
    · exact (State.syn_congr (hrd fun p _ => synStatus_ne_pathState syn.isLt p)).trans hst
    · rwa [Counted, hrd fun p hp => loUnlockCnt_ne_pathState syn hp]
    · rw [told_raise, List.getLast?_concat, if_neg hq]

theorem nth_set_default {α : Type} (l : List α) (i : Nat) (d : α) : nth (l.set i d) i d = d := by
  simp only [nth, List.getElem?_set_self']
  cases l[i]? <;> rfl

theorem nth_set_ne {α : Type} (l : List α) {i j : Nat} (h : i ≠ j) (v d : α) : nth (l.set i v) j d = nth l j d := by
  simp only [nth, List.getElem?_set_ne h]

theorem gives_synLockLoss_quad {s : State} {syn : Fin 5} (h : s.syn syn = 2) (hq : syn.val < 4) :
    Gives (.synLockLoss syn) s fun t =>
      nth t.pins.txen (2 * syn.val) false = false ∧ nth t.pins.txen (2 * syn.val + 1) false = false ∧
      ∀ p, p < 64 → quadOf p = syn.val → t.tx p = if s.tx p = Ps.armed ∨ s.tx p = Ps.active then Ps.muted else s.tx p := by
  refine ⟨_, exec_synLockLoss_quad h (fun e => absurd (congrArg Fin.val e) (Nat.ne_of_lt hq)), ?_, ?_, fun p hp hpq => ?_⟩
  · rw [State.raise_pins, State.txen_quadCut, nth_set_ne _ (by omega), nth_set_default]
  · rw [State.raise_pins, State.txen_quadCut, nth_set_default]
  · calc _ = (((s.loLost syn).loNoted syn).quadMuted syn).tx p := State.tx_congr (by rw [State.rd_raise, State.rd_quadCut])
      _ = mutedFrom ((s.loLost syn).tx p) := by rw [State.tx_quadMuted _ hq, if_pos hpq]; rfl
      _ = mutedFrom (s.tx p) := by rw [State.tx_loLost s syn.isLt hp]

/-! ### Enable pins (R111 to R114) -/

theorem exec_tddPinRise {s : State} {tile : Fin 8} {tx : Bool} (hw : s.pinWant tile tx = true)
    (ho : s.mode ≠ .tdd ∨ nth (if tx then s.pins.rxen else s.pins.txen) tile false = false) :
    exec (.tddPinRise tile tx) s = .next (if tx then s.txen tile true else s.rxen tile true) := by
  refine when_true ?_ ..
  rw [hw, Bool.true_and, Bool.not_eq_true', Bool.and_eq_false_iff, decide_eq_false_iff_not]
  exact ho

theorem exec_tddPinFall {s : State} {tile : Fin 8} {tx : Bool} (hw : s.pinWant tile tx = false)
    (hl : ∀ e, nth (if tx then s.tl.endDl else s.tl.endUl) tile none = some e → e + s.pinLag tx ≤ s.now) :
    exec (.tddPinFall tile tx) s = .next (if tx then s.txen tile false else s.rxen tile false) := by
  refine when_true ?_ ..
  rw [hw, Bool.not_false, Bool.and_true]
  split
  · rename_i e he; exact decide_eq_true (hl e he)
  · rfl

/-- A symbol that holds a tile's pin makes the pin wanted, from its lead time on (R111, R112). -/
theorem pinWant_of_symbol {s : State} {tile : Fin 8} {tx : Bool} {y : Sym} (hy : y ∈ s.tl.syms) (hc : s.mode ≠ .calibration)
    (ht : tx = false ∨ s.mayTx = true) (hh : s.symHolds tile (!tx) y = true) (hs : y.active = true ∨ s.rel y.start ≤ s.pinLead tx)
    (hu : y.ul = false ∨ y.stage < 4) : s.pinWant tile tx = true := by
  have hmay : (!tx || s.mayTx) = true := by simpa using ht
  have hcal : (s.mode != .calibration) = true := by simpa using hc
  have hnear : (y.active || decide (s.rel y.start ≤ (s.pinLead tx : Int))) = true := by simpa using hs
  have hearly : (!(y.ul && decide (4 ≤ y.stage))) = true := by simpa using hu
  have hsym : s.tl.syms.any (fun (y : Sym) => s.symHolds tile (!tx) y &&
      (y.active || decide (s.rel y.start ≤ (s.pinLead tx : Int))) && !(y.ul && decide (4 ≤ y.stage))) = true :=
    List.any_eq_true.mpr ⟨y, hy, by rw [hh, hnear, hearly]; rfl⟩
  rw [State.pinWant, hmay, hcal, hsym, Bool.true_and, Bool.true_and, Bool.or_true]

/-- Settles O23: each clause is the meaning of its row in the case it names; a loss of lock mutes each path of the quadrant once, and
what follows leaves the path states alone. -/
theorem synthesisersAndPins : Obligations.SynthesisersAndPins := by
  unfold Obligations.SynthesisersAndPins
  refine ⟨fun _ _ us h => gives_synCalDone_locked us h, fun s syn us h hr => ?_, fun s syn us h hr => ?_, fun s syn h hr => ?_,
    fun s syn h hr => ?_, fun _ _ h => gives_synLockLoss h, fun _ _ h hq => gives_synLockLoss_quad h hq, fun s tile hw ho => ?_,
    fun s tile hw ho => ?_, fun _ _ _ _ hy hc ht hh hs hu => pinWant_of_symbol hy hc ht hh hs hu, fun s tile tx hw hl => ?_⟩
  · obtain ⟨hst, hrest⟩ := synFail_first s syn us.toNat hr
    exact ⟨_, exec_synCalDone us h false, hst.trans h, hrest⟩
  · exact ⟨_, exec_synCalDone us h false, synFail_second s syn us.toNat hr⟩
  · exact ⟨_, exec_synCalTimeout h, synFail_second s syn 250 hr⟩
  · obtain ⟨hst, hrest⟩ := synFail_first s syn 250 hr
    exact ⟨_, exec_synCalTimeout h, hst.trans h, hrest⟩
  · exact ⟨_, exec_tddPinRise hw ho, rfl, rfl⟩
  · exact ⟨_, exec_tddPinRise hw ho, rfl, rfl⟩
  · refine ⟨_, exec_tddPinFall hw hl, ?_⟩
    cases tx <;> exact ⟨rfl, rfl⟩

end Sys2Proof.Machine
end

section
/-! SUPPORT. The capture and front-end commands: what a completion leaves alone, one rule for each operation they fold over the paths, and
the clauses of O54. -/

namespace Sys2Proof.Machine

/-! ### Completions -/

/-- A completion changes the books, the host interface and memory. -/
theorem within_complete_books (s : State) (c : Cmd) (st d r : Nat) :
    Within (bookReg c.ctx) (fun p => p ∈ [.hy, .hi, .mem, .marks, .lastCpl]) s (s.complete c st d r) :=
  within_complete' (.inl rfl) (.inr (.inl rfl)) (.inr (.inr (.inl rfl))) (.inr (.inr (.inr rfl))) (by decide) (by decide) (by decide)
    (by decide) (by decide) s st d r

@[simp] theorem complete_rf (s : State) (c : Cmd) (st d r : Nat) : (s.complete c st d r).rf = s.rf :=
  (within_complete_books s c st d r).parts .rf (by decide)

@[simp] theorem complete_dfe (s : State) (c : Cmd) (st d r : Nat) : (s.complete c st d r).dfe = s.dfe :=
  (within_complete_books s c st d r).parts .dfe (by decide)

@[simp] theorem complete_told (s : State) (c : Cmd) (st d r : Nat) : (s.complete c st d r).told = s.told :=
  told_congr ((within_complete_books s c st d r).parts .raised (by decide))

/-- The registers of the books stand in the host interface, above every other block's. -/
theorem not_bookReg {x a : Nat} (h : a < R.HI_INFL_TOTAL) : ¬bookReg x a := by
  unfold bookReg R.HI_INFL_TOTAL R.HI_CTX_STAT R.HI_RING_PROD R.HI_CMP_LOST_CNT bar0 at *
  omega

theorem rd_complete (s : State) (c : Cmd) (st d r : Nat) {a : Nat} (h : a < R.HI_INFL_TOTAL) : (s.complete c st d r).rd a = s.rd a :=
  (within_complete_books s c st d r).regs a (not_bookReg h)

theorem pathState_lt {p : Nat} (hp : p < 64) : R.RF_PATH_STATE p < R.HI_INFL_TOTAL := by
  unfold R.RF_PATH_STATE R.HI_INFL_TOTAL; omega

theorem pabiasCfg_lt {p : Nat} (hp : p < 64) : R.RF_PABIAS_CFG p < R.HI_INFL_TOTAL := by
  unfold R.RF_PABIAS_CFG R.HI_INFL_TOTAL; omega

theorem pabiasLvl_lt {p : Nat} (hp : p < 64) : R.RF_PABIAS_LVL p < R.HI_INFL_TOTAL := by
  unfold R.RF_PABIAS_LVL R.HI_INFL_TOTAL; omega

theorem rffeMem_lt {q j : Nat} (hq : q < 4) (hj : j < 1024) : R.RF_RFFE_MEM q j < R.HI_INFL_TOTAL := by
  unfold R.RF_RFFE_MEM R.HI_INFL_TOTAL; omega

theorem rffeCfg_lt {q : Nat} (hq : q < 4) : R.RF_RFFE_CFG q < R.HI_INFL_TOTAL := by
  unfold R.RF_RFFE_CFG R.HI_INFL_TOTAL; omega

theorem tx_complete (s : State) (c : Cmd) (st d r : Nat) {p : Nat} (hp : p < 64) : (s.complete c st d r).tx p = s.tx p :=
  State.tx_congr (rd_complete s c st d r (pathState_lt hp))

/-- Where the next completion of a context is stored is read from registers only. -/
theorem cplSlot_congr {s t : State} (h : t.regs = s.regs) (x b : Nat) : CplSlot t x b ↔ CplSlot s x b := by
  have haddr (n i : Nat) : t.ringAddr n i = s.ringAddr n i := by
    simp only [State.ringAddr, State.ringSize, State.ringCtx, State.ctxAtt, State.get64, State.flag_congr h, State.get_congr h,
      State.rd_congr h]
  rw [CplSlot, State.get_congr h, haddr]

/-- A command that is ready and passes its checks gives what its completion leaves. -/
theorem gives_done {i : Instr} {s t : State} {c : Cmd} {m : Bool} {res : List (Nat × Nat)} {checks : List Check} {st d r : Nat}
    {Q : State → Prop} (hx : exec i s = runCmd s c m res checks (.done t st d r)) (h : Ready s c m res)
    (hk : ∀ k ∈ checks, k.bad = false) (hq : Q (t.complete c st d r)) : Gives i s Q :=
  ⟨_, hx.trans (runCmd_done h (firstFail_none.mpr hk)), hq⟩

/-! ### Checks that pass -/

theorem spanChecks_pass {s : State} {c : Cmd} {off n : Nat} (h : HasSpan s c off n) : ∀ k ∈ s.spanChecks c off 64 n, k.bad = false := by
  obtain ⟨hal, hown⟩ := h
  simp [State.spanChecks, badParam, notOwner, hal, hown]

theorem quadOwn_pass {s : State} {c : Cmd} {pm : Nat} (h : s.ownsPaths c.ctx pm = true) : (s.quadOwn c pm).bad = false := by
  have hnone : (quadsOf pm).find? (fun q => !s.holds c.ctx 1 q) = none := by
    rw [List.find?_eq_none]
    intro q hq
    simpa using List.all_eq_true.mp h q hq
  simp [State.quadOwn, notOwner, hnone]

theorem capOwn_pass {s : State} {c : Cmd} {t : Nat} (h : s.holds c.ctx 8 t = true) : (s.capOwn c t).bad = false := by
  simp [State.capOwn, notOwner, h]

/-! ### Captures (R215, R216, R481) -/

/-- A record copied to the command's address and let go. -/
def State.capGot (s : State) (c : Cmd) (r : CapRec) : State :=
  let t := s.setBytes (arg c 16 8) (s.bytes (s.capAddr r.tile r.slot) r.bytes)
  { t with dfe := { t.dfe with recs := t.dfe.recs.erase r } }

theorem regs_capGot (s : State) (c : Cmd) (r : CapRec) : (s.capGot c r).regs = s.regs := State.setBytes_regs s _ _

theorem recs_capGot (s : State) (c : Cmd) (r : CapRec) : (s.capGot c r).dfe.recs = s.dfe.recs.erase r :=
  congrArg (fun d => d.recs.erase r) (State.setBytes_dfe s _ _)

theorem byte_capGot (s : State) (c : Cmd) (r : CapRec) {j : Nat} (hj : j < r.bytes) :
    (s.capGot c r).byte (arg c 16 8 + j) = s.byte (s.capAddr r.tile r.slot + j) := by
  have hset : (s.capGot c r).byte (arg c 16 8 + j) =
      (s.setBytes (arg c 16 8) (s.bytes (s.capAddr r.tile r.slot) r.bytes)).byte (arg c 16 8 + j) := rfl
  rw [hset, State.byte_setBytes, dif_pos ⟨Nat.le_add_right .., by rw [bytes_length]; omega⟩]
  simp [State.bytes]

/-- CAP_GET of a record that is held. -/
theorem execCapGet_held {s : State} {c : Cmd} {r : CapRec}
    (hr : (if argBit c 9 0 then ((s.heldRecs c.ctx (tileOf (arg c 8 1))).filter (fun x => x.path = arg c 8 1)).getLast?
      else ((s.heldRecs c.ctx (tileOf (arg c 8 1))).filter (fun x => x.path = arg c 8 1)).find? (fun x => x.tag = arg c 10 2)) = some r) :
    execCapGet c s = runCmd s c false []
      ([s.capOwn c (tileOf (arg c 8 1)), badParam (decide (64 ≤ arg c 8 1)) 8] ++ s.spanChecks c 16 64 r.bytes)
      (.done (s.capGot c r) St.ok 0
        (resN 16 4 (s.memN (s.capAddr r.tile r.slot) 4) + resN 20 1 r.flags + resN 22 2 ((r.bytes - 64) / 24))) := by
  unfold execCapGet
  simp only [hr]
  rfl

theorem gives_capGet {s : State} {c : Cmd} {r : CapRec} (h : Ready s c false []) (hp : arg c 8 1 < 64)
    (hown : s.holds c.ctx 8 (tileOf (arg c 8 1)) = true)
    (hr : (if argBit c 9 0 then ((s.heldRecs c.ctx (tileOf (arg c 8 1))).filter (fun x => x.path = arg c 8 1)).getLast?
      else ((s.heldRecs c.ctx (tileOf (arg c 8 1))).filter (fun x => x.path = arg c 8 1)).find? (fun x => x.tag = arg c 10 2)) = some r)
    (hspan : HasSpan s c 16 r.bytes) :
    Gives (.capGet c) s fun t =>
      Answers c t St.ok 0 (resN 16 4 (s.memN (s.capAddr r.tile r.slot) 4) + resN 20 1 r.flags + resN 22 2 ((r.bytes - 64) / 24)) ∧
      t.dfe.recs = s.dfe.recs.erase r ∧
      ∀ j, j < r.bytes → ¬CplSlot s c.ctx (arg c 16 8 + j) → t.byte (arg c 16 8 + j) = s.byte (s.capAddr r.tile r.slot + j) := by
  refine gives_done (execCapGet_held hr) h (fun k hk => ?_) ⟨complete_answers .., by rw [complete_dfe, recs_capGot], fun j hj hs => ?_⟩
  · rcases List.mem_append.mp hk with hk | hk
    · simp only [List.mem_cons, List.not_mem_nil, or_false] at hk
      rcases hk with rfl | rfl
      · exact capOwn_pass hown
      · exact decide_eq_false (Nat.not_le.mpr hp)
    · exact spanChecks_pass hspan k hk
  · rw [complete_byte _ _ _ _ _ (fun hc => hs ((cplSlot_congr (regs_capGot s c r) _ _).mp hc)), byte_capGot s c r hj]

theorem gives_capFree {s : State} {c : Cmd} (h : Ready s c false []) (ht : arg c 8 1 < 8) (hown : s.holds c.ctx 8 (arg c 8 1) = true) :
    Gives (.capFree c) s fun t =>
      Answers c t St.ok 0 0 ∧ t.dfe.recs = s.dfe.recs.filter (fun r => !(r.tile = arg c 8 1 && r.ctx = c.ctx.val && r.host)) ∧
      ∀ a, ¬bookReg c.ctx a → t.rd a = s.rd a := by
  refine gives_done rfl h ?_ ⟨complete_answers .., by rw [complete_dfe], (within_complete_books ..).regs⟩
  simp only [List.forall_mem_cons, List.not_mem_nil, false_implies, implies_true, and_true]
  exact ⟨capOwn_pass hown, decide_eq_false (Nat.not_le.mpr ht)⟩

/-! ### PA bias settings (R115 to R117) -/

/-- What FE_PABIAS decides on and sets for a path: its transmitter's state, its two registers and the settings that wait. -/
def State.pabias (s : State) (p : Nat) : Nat × Word × Word × List (Nat × Word × Word) :=
  (s.tx p, s.rd (R.RF_PABIAS_CFG p), s.rd (R.RF_PABIAS_LVL p), s.rf.biasNext.filter (fun x => x.1 = p))

/-- Settings given to a path: in force while it is OFF, else the one that waits. -/
def pabiasGiven (p : Nat) (cfg lvl : Word) (v : Nat × Word × Word × List (Nat × Word × Word)) :
    Nat × Word × Word × List (Nat × Word × Word) :=
  if v.1 = Ps.off then (v.1, cfg, lvl, []) else (v.1, v.2.1, v.2.2.1, [(p, cfg, lvl)])

theorem pabiasGiven_off {s : State} {p : Nat} (cfg lvl : Word) (h : s.tx p = Ps.off) :
    pabiasGiven p cfg lvl (s.pabias p) = (s.tx p, cfg, lvl, []) := if_pos h

theorem pabiasGiven_on {s : State} {p : Nat} (cfg lvl : Word) (h : s.tx p ≠ Ps.off) :
    pabiasGiven p cfg lvl (s.pabias p) = (s.tx p, s.rd (R.RF_PABIAS_CFG p), s.rd (R.RF_PABIAS_LVL p), [(p, cfg, lvl)]) := if_neg h

/-- The settings that wait once others have been given to a path. -/
def biasQueue (l : List (Nat × Word × Word)) (p : Nat) (cfg lvl : Word) : List (Nat × Word × Word) :=
  l.filter (fun x => x.1 != p) ++ [(p, cfg, lvl)]

theorem filter_ne_filter_eq (p : Nat) (l : List (Nat × Word × Word)) :
    (l.filter (fun x => x.1 != p)).filter (fun x => x.1 = p) = [] := by simp [List.filter_eq_nil_iff]

theorem find?_biasQueue (l : List (Nat × Word × Word)) (p : Nat) (cfg lvl : Word) :
    (biasQueue l p cfg lvl).find? (fun x => x.1 = p) = some (p, cfg, lvl) := by
  have hnone : (l.filter (fun x => x.1 != p)).find? (fun x => x.1 = p) = none := by simp [List.find?_eq_none]
  simp [biasQueue, List.find?_append, hnone]

theorem biasQueue_filter_same (l : List (Nat × Word × Word)) (p : Nat) (cfg lvl : Word) :
    (biasQueue l p cfg lvl).filter (fun x => x.1 = p) = [(p, cfg, lvl)] := by
  rw [biasQueue, List.filter_append, filter_ne_filter_eq]
  simp

theorem filter_ne_filter {p q : Nat} (h : q ≠ p) (l : List (Nat × Word × Word)) :
    (l.filter (fun x => x.1 != p)).filter (fun x => x.1 = q) = l.filter (fun x => x.1 = q) := by
  rw [List.filter_filter]
  refine List.filter_congr fun x _ => ?_
  by_cases e : x.1 = q <;> simp [e, h]

theorem biasQueue_filter_ne {p q : Nat} (h : q ≠ p) (l : List (Nat × Word × Word)) (cfg lvl : Word) :
    (biasQueue l p cfg lvl).filter (fun x => x.1 = q) = l.filter (fun x => x.1 = q) := by
  rw [biasQueue, List.filter_append, filter_ne_filter h]
  simp [Ne.symm h]

theorem setPabias_on {s : State} {p : Nat} (cfg lvl : Nat) (h : s.tx p ≠ Ps.off) :
    s.setPabias p cfg lvl =
      { s with rf := { s.rf with biasNext := biasQueue s.rf.biasNext p (BitVec.ofNat 32 cfg) (BitVec.ofNat 32 lvl) } } := by
  unfold State.setPabias
  dsimp only
  rw [if_neg h]
  rfl

theorem setPabias_off {s : State} {p : Nat} (cfg lvl : Nat) (h : s.tx p = Ps.off) :
    s.setPabias p cfg lvl =
      ({ s with rf := { s.rf with biasNext :=
        (biasQueue s.rf.biasNext p (BitVec.ofNat 32 cfg) (BitVec.ofNat 32 lvl)).filter (fun x => x.1 != p) } }.wrN
          (R.RF_PABIAS_CFG p) cfg).wrN (R.RF_PABIAS_LVL p) lvl := by
  unfold State.setPabias
  dsimp only
  rw [if_pos h, State.biasTake]
  dsimp only
  rw [show s.rf.biasNext.filter (fun x => x.1 != p) ++ [(p, BitVec.ofNat 32 cfg, BitVec.ofNat 32 lvl)] =
    biasQueue s.rf.biasNext p (BitVec.ofNat 32 cfg) (BitVec.ofNat 32 lvl) from rfl, find?_biasQueue]
  rfl

theorem pabias_setPabias_same (s : State) {p : Nat} (hp : p < 64) (cfg lvl : Nat) :
    (s.setPabias p cfg lvl).pabias p = pabiasGiven p (BitVec.ofNat 32 cfg) (BitVec.ofNat 32 lvl) (s.pabias p) := by
  obtain ⟨hc, hl⟩ := pathState_ne_bias hp p
  by_cases h : s.tx p = Ps.off
  · have htx : (s.setPabias p cfg lvl).tx p = s.tx p := by
      rw [setPabias_off cfg lvl h]
      exact State.tx_congr ((State.rd_wrN_ne _ hl _).trans (State.rd_wrN_ne _ hc _))
    have hcl : R.RF_PABIAS_CFG p ≠ R.RF_PABIAS_LVL p := by unfold R.RF_PABIAS_CFG R.RF_PABIAS_LVL; omega
    rw [pabiasGiven_off _ _ h, State.pabias, htx, setPabias_off cfg lvl h, State.rd_wrN_ne _ hcl, State.rd_wrN_same,
      State.rd_wrN_same]
    exact congrArg (fun l => (s.tx p, BitVec.ofNat 32 cfg, BitVec.ofNat 32 lvl, l)) (filter_ne_filter_eq p _)
  · rw [pabiasGiven_on _ _ h, setPabias_on cfg lvl h]
    exact congrArg (fun l => (s.tx p, s.rd (R.RF_PABIAS_CFG p), s.rd (R.RF_PABIAS_LVL p), l)) (biasQueue_filter_same ..)

/-- Settings given to one path leave those of another. -/
theorem pabias_setPabias_ne (s : State) {p q : Nat} (hp : p < 64) (hq : q < 64) (hne : q ≠ p) (cfg lvl : Nat) :
    (s.setPabias p cfg lvl).pabias q = s.pabias q := by
  by_cases h : s.tx p = Ps.off
  · have hrd {a : Nat} (hc : a ≠ R.RF_PABIAS_CFG p) (hl : a ≠ R.RF_PABIAS_LVL p) : (s.setPabias p cfg lvl).rd a = s.rd a := by
      rw [setPabias_off cfg lvl h, State.rd_wrN_ne _ hl, State.rd_wrN_ne _ hc]; rfl
    have hcc : R.RF_PABIAS_CFG q ≠ R.RF_PABIAS_CFG p ∧ R.RF_PABIAS_CFG q ≠ R.RF_PABIAS_LVL p := by
      unfold R.RF_PABIAS_CFG R.RF_PABIAS_LVL; omega
    have hll : R.RF_PABIAS_LVL q ≠ R.RF_PABIAS_CFG p ∧ R.RF_PABIAS_LVL q ≠ R.RF_PABIAS_LVL p := by
      unfold R.RF_PABIAS_CFG R.RF_PABIAS_LVL; omega
    obtain ⟨htc, htl⟩ := pathState_ne_bias hq p
    have hnext : (s.setPabias p cfg lvl).rf.biasNext.filter (fun x => x.1 = q) = s.rf.biasNext.filter (fun x => x.1 = q) := by
      rw [setPabias_off cfg lvl h]
      exact (filter_ne_filter hne _).trans (biasQueue_filter_ne hne ..)
    rw [State.pabias, State.tx_congr (hrd htc htl), hrd hcc.1 hcc.2, hrd hll.1 hll.2, hnext]
    rfl
  · rw [setPabias_on cfg lvl h]
    exact congrArg (fun l => (s.tx q, s.rd (R.RF_PABIAS_CFG q), s.rd (R.RF_PABIAS_LVL q), l)) (biasQueue_filter_ne hne ..)

/-- Settings given to every path of a mask. -/
theorem pabias_foldl_setPabias (s : State) {pm p : Nat} (hp : p < 64) (hm : pm.testBit p = true) (cfg lvl : Nat) :
    ((bitsOf pm 64).foldl (fun (t : State) p => t.setPabias p cfg lvl) s).pabias p =
      pabiasGiven p (BitVec.ofNat 32 cfg) (BitVec.ofNat 32 lvl) (s.pabias p) := by
  rw [foldl_at (fun (t : State) => t.pabias p) (pabiasGiven p (BitVec.ofNat 32 cfg) (BitVec.ofNat 32 lvl)) p (nodup_bitsOf pm 64)
    (fun _ t => pabias_setPabias_same t hp cfg lvl)
    (fun a ha hne t => pabias_setPabias_ne t (mem_bitsOf.mp ha).1 hp (Ne.symm hne) cfg lvl) s, if_pos (mem_bitsOf.mpr ⟨hp, hm⟩)]

theorem pabias_off {t : State} {p : Nat} {cfg lvl : Word} {s : State} (h : t.pabias p = pabiasGiven p cfg lvl (s.pabias p))
    (ho : s.tx p = Ps.off) : t.rd (R.RF_PABIAS_CFG p) = cfg ∧ t.rd (R.RF_PABIAS_LVL p) = lvl := by
  rw [pabiasGiven_off _ _ ho, State.pabias, Prod.mk.injEq, Prod.mk.injEq, Prod.mk.injEq] at h
  exact ⟨h.2.1, h.2.2.1⟩

theorem pabias_on {t : State} {p : Nat} {cfg lvl : Word} {s : State} (h : t.pabias p = pabiasGiven p cfg lvl (s.pabias p))
    (ho : s.tx p ≠ Ps.off) : (p, cfg, lvl) ∈ t.rf.biasNext ∧ t.rd (R.RF_PABIAS_CFG p) = s.rd (R.RF_PABIAS_CFG p) := by
  rw [pabiasGiven_on _ _ ho, State.pabias, Prod.mk.injEq, Prod.mk.injEq, Prod.mk.injEq] at h
  obtain ⟨-, hcfg, -, hnext⟩ := h
  have hmem : (p, cfg, lvl) ∈ t.rf.biasNext.filter (fun x => x.1 = p) := by rw [hnext]; exact List.mem_singleton_self _
  exact ⟨(List.mem_filter.mp hmem).1, hcfg⟩

/-- The parameters of an FE_PABIAS that its checks let pass (R115, R117). -/
structure BiasFits (c : Cmd) : Prop where
  mode_le : arg c 8 1 ≤ 3
  slew_pos : 1 ≤ arg c 9 1
  ilim_pos : 1 ≤ arg c 10 1
  ilim_le : arg c 10 1 ≤ 20
  on_le : arg c 12 2 ≤ 4095
  off_le : arg c 14 2 ≤ 4095
  ramp : 2 ≤ arg c 8 1 → rampLong (arg c 12 2) (arg c 14 2) (arg c 9 1) = false

/-- The configuration word and the level word that FE_PABIAS spells (R142). -/
def biasCfg (c : Cmd) : Nat := arg c 8 1 + 2 ^ 8 * arg c 9 1 + 2 ^ 16 * arg c 10 1 + 2 ^ 24 * arg c 11 1
def biasLvl (c : Cmd) : Nat := arg c 12 2 + 2 ^ 16 * arg c 14 2

theorem gives_fePabias {s : State} {c : Cmd} (h : Ready s c false []) (hown : s.ownsPaths c.ctx (arg c 16 8) = true) (hf : BiasFits c) :
    Gives (.fePabias c) s fun t =>
      Answers c t St.ok 0 (resN 16 8 (maskOf ((bitsOf (arg c 16 8) 64).filter (fun p => s.tx p = Ps.off)))) ∧
      ∀ p, p < 64 → (arg c 16 8).testBit p = true →
        (s.tx p = Ps.off → t.rd (R.RF_PABIAS_CFG p) = BitVec.ofNat 32 (biasCfg c) ∧
          t.rd (R.RF_PABIAS_LVL p) = BitVec.ofNat 32 (biasLvl c)) ∧
        (s.tx p ≠ Ps.off → (p, BitVec.ofNat 32 (biasCfg c), BitVec.ofNat 32 (biasLvl c)) ∈ t.rf.biasNext ∧
          t.rd (R.RF_PABIAS_CFG p) = s.rd (R.RF_PABIAS_CFG p)) := by
  refine gives_done rfl h ?_ ⟨complete_answers .., fun p hp hb => ?_⟩
  · have hlong : (decide (2 ≤ arg c 8 1) && rampLong (arg c 12 2) (arg c 14 2) (arg c 9 1)) = false := by
      by_cases h2 : 2 ≤ arg c 8 1
      · rw [hf.ramp h2, Bool.and_false]
      · rw [decide_eq_false h2, Bool.false_and]
    obtain ⟨hm, hslew, hil, hil', hon, hoff, -⟩ := hf
    simp only [List.forall_mem_cons, List.not_mem_nil, false_implies, implies_true, and_true, badParam, hlong, Bool.or_eq_false_iff,
      decide_eq_false_iff_not]
    exact ⟨quadOwn_pass hown, by omega, by omega, by omega, by omega, by omega⟩
  · have hv := pabias_foldl_setPabias s hp hb (biasCfg c) (biasLvl c)
    rw [rd_complete _ _ _ _ _ (pabiasCfg_lt hp), rd_complete _ _ _ _ _ (pabiasLvl_lt hp), complete_rf]
    exact ⟨pabias_off hv, pabias_on hv⟩

/-! ### FE_TDD and FE_FAULT_CLEAR (R110, R112) -/

theorem gives_feTdd {s : State} {c : Cmd} (h : Ready s c false []) (hml : s.isML c.ctx = true) (ht : 123 ≤ arg c 8 2)
    (hta : arg c 8 2 + arg c 13 1 ≤ 614) (hr : 123 ≤ arg c 10 2) (hra : arg c 10 2 + arg c 12 1 ≤ 614) :
    Gives (.feTdd c) s fun t =>
      Answers c t St.ok 0 0 ∧ t.rf.tddNext = some [arg c 8 2, arg c 10 2, arg c 12 1, arg c 13 1] ∧
      ∀ a, ¬bookReg c.ctx a → t.rd a = s.rd a := by
  refine gives_done rfl h ?_ ⟨complete_answers .., by rw [complete_rf], (within_complete_books ..).regs⟩
  simp only [List.forall_mem_cons, List.not_mem_nil, false_implies, implies_true, and_true, State.needML, notOwner, badParam, hml,
    Bool.not_true, true_and, Bool.or_eq_false_iff, decide_eq_false_iff_not]
  omega

/-- A path leaves FAULT for OFF, and its bias output drives its OFF code (R110). -/
def State.faultCleared (s : State) (p : Nat) : State := (s.setTx p Ps.off).setBias p 1 false

theorem tx_faultCleared_same (s : State) {p : Nat} (hp : p < 64) : (s.faultCleared p).tx p = Ps.off :=
  State.tx_setTx_same s hp (by decide)

theorem tx_faultCleared_ne (s : State) {p q : Nat} (hq : q < 64) (h : q ≠ p) : (s.faultCleared p).tx q = s.tx q :=
  State.tx_setTx_ne s Ps.off hq h

theorem bias_biasTake (s : State) (p : Nat) : (s.biasTake p).rf.bias = s.rf.bias := by
  unfold State.biasTake
  split <;> rfl

theorem bias_setTx (s : State) (p v : Nat) : (s.setTx p v).rf.bias = s.rf.bias := by
  unfold State.setTx
  dsimp only
  split
  · rw [bias_biasTake]; split <;> rfl
  · split <;> rfl

theorem bias_faultCleared (s : State) (p : Nat) : (s.faultCleared p).rf.bias = s.rf.bias.set p 1 :=
  congrArg (fun l => List.set l p 1) (bias_setTx s p Ps.off)

/-- The bias outputs after every path of a list has left FAULT. -/
theorem bias_foldl_faultCleared (s : State) {l : List Nat} (hl : l.Nodup) {p : Nat} (hp : p ∈ l) (hlen : p < s.rf.bias.length) :
    (l.foldl State.faultCleared s).bias p = 1 := by
  have h := foldl_at (f := State.faultCleared) (fun (t : State) => t.rf.bias[p]?) (Option.map fun _ => 1) p hl
    (fun _ t => by
      simp only [bias_faultCleared, List.getElem?_set_self']
      cases t.rf.bias[p]? <;> rfl)
    (fun a _ hne t => by rw [bias_faultCleared, List.getElem?_set_ne hne]) s
  rw [if_pos hp, List.getElem?_eq_getElem hlen] at h
  rw [State.bias, nth, h]
  rfl

theorem gives_feFaultClear {s : State} {c : Cmd} {pm : Nat} (h : Ready s c false []) (hpm : arg c 16 8 = pm)
    (hown : s.ownsPaths c.ctx pm = true) :
    Gives (.feFaultClear c) s fun t =>
      Answers c t St.ok 0 (resN 16 8 (maskOf ((bitsOf pm 64).filter (fun p => s.tx p = Ps.fault)))) ∧ ∀ p, p < 64 →
      t.tx p = (if pm.testBit p && s.tx p = Ps.fault then Ps.off else s.tx p) ∧
      (pm.testBit p = true → s.tx p = Ps.fault → p < s.rf.bias.length → t.bias p = 1) := by
  subst hpm
  have hnd : ((bitsOf (arg c 16 8) 64).filter (fun p => s.tx p = Ps.fault)).Nodup := (nodup_bitsOf ..).filter _
  have hmem {p : Nat} (hp : p < 64) :
      p ∈ (bitsOf (arg c 16 8) 64).filter (fun p => s.tx p = Ps.fault) ↔ ((arg c 16 8).testBit p && s.tx p = Ps.fault) = true := by
    simp [mem_bitsOf, hp]
  refine gives_done rfl h ?_ ⟨complete_answers .., fun p hp => ⟨?_, fun hb hf hlen => ?_⟩⟩
  · simpa only [List.forall_mem_cons, List.not_mem_nil, false_implies, implies_true, and_true] using quadOwn_pass hown
  · rw [tx_complete _ _ _ _ _ hp]
    simp only [← hmem hp]
    exact foldl_at (f := State.faultCleared) (fun (t : State) => t.tx p) (fun _ => Ps.off) p hnd (fun _ t => tx_faultCleared_same t hp)
      (fun a _ hne t => tx_faultCleared_ne t hp (Ne.symm hne)) s
  · rw [State.bias, complete_rf]
    exact bias_foldl_faultCleared s hnd ((hmem hp).mpr (by rw [hb, hf]; rfl)) hlen

/-! ### RFFE (R123, R124, R126, R127) -/

/-- The command reads from the bus. -/
def rffeReads (c : Cmd) : Bool := arg c 9 1 = 2 || arg c 9 1 = 4 || arg c 9 1 = 6

/-- The data that a read answers. -/
def rffeGot (c : Cmd) (data : BitVec 128) : Nat :=
  if !rffeReads c then 0 else if arg c 9 1 = 2 then data.toNat % 2 ^ 8 else data.toNat % 2 ^ (8 * arg c 11 1)

/-- The bus of the command's quadrant carries it. -/
def State.rffeCarried (s : State) (c : Cmd) : State :=
  { s with rf := { s.rf with rffeSent := s.rf.rffeSent.set (arg c 8 1) ([arg c 9 1, arg c 10 1, arg c 12 2] ++
    (if rffeReads c then [] else (List.range (if arg c 9 1 ≤ 1 then 1 else arg c 11 1)).map (fun i => arg c (16 + i) 1))) } }

/-- The checks of RFFE_ACCESS. -/
def State.rffeChecks (s : State) (c : Cmd) : List Check :=
  [notOwner (decide (arg c 8 1 < 4) && !s.holds c.ctx 1 (arg c 8 1)) 1 (arg c 8 1), badParam (decide (4 ≤ arg c 8 1)) 8,
    badParam (decide (6 < arg c 9 1)) 9, badParam (decide (15 < arg c 10 1) || (rffeReads c && arg c 10 1 = 0)) 10,
    badParam (decide (3 ≤ arg c 9 1) && (arg c 11 1 = 0 || decide ((if arg c 9 1 ≤ 4 then 16 else 8) < arg c 11 1))) 11]

theorem execRffeAccess_eq (c : Cmd) (fits parity : Bool) (data : BitVec 128) (s : State) :
    execRffeAccess c fits parity data s =
      if (firstFail (s.rffeChecks c)).isNone && (!fits || (nth s.rf.rffeRun (arg c 8 1) none).isSome) then .next s
      else runCmd s c false [] (s.rffeChecks c)
        (if rffeReads c && !parity then .done (((s.rffeCarried c).fresh 32).2.raise Ev.RF_RFFE_PARITY [arg c 8 1]) St.ioError
          ((s.rffeCarried c).fresh 32).1.toNat (res 16 (rffeGot c data))
        else .done (s.rffeCarried c) St.ok 0 (res 16 (rffeGot c data))) := rfl

/-- The parameters of an RFFE_ACCESS that its checks let pass: a leased quadrant, a known type, an address, and a count in range. -/
structure RffeFits (s : State) (c : Cmd) : Prop where
  quadrant : arg c 8 1 < 4
  owned : s.holds c.ctx 1 (arg c 8 1) = true
  type_le : arg c 9 1 ≤ 6
  usid_le : arg c 10 1 ≤ 15
  usid_pos : arg c 9 1 = 2 ∨ arg c 9 1 = 4 ∨ arg c 9 1 = 6 → 1 ≤ arg c 10 1
  count : 3 ≤ arg c 9 1 → 1 ≤ arg c 11 1 ∧ arg c 11 1 ≤ (if arg c 9 1 ≤ 4 then 16 else 8)

theorem rffeReads_iff {c : Cmd} : rffeReads c = true ↔ arg c 9 1 = 2 ∨ arg c 9 1 = 4 ∨ arg c 9 1 = 6 := by
  simp [rffeReads, or_assoc]

theorem rffeChecks_pass {s : State} {c : Cmd} (h : RffeFits s c) : ∀ k ∈ s.rffeChecks c, k.bad = false := by
  have husid : (rffeReads c && arg c 10 1 = 0) = false := by
    cases hr : rffeReads c with
    | false => rfl
    | true => rw [Bool.true_and]; exact decide_eq_false (Nat.ne_of_gt (h.usid_pos (rffeReads_iff.mp hr)))
  have hcount : (decide (3 ≤ arg c 9 1) && (arg c 11 1 = 0 || decide ((if arg c 9 1 ≤ 4 then 16 else 8) < arg c 11 1))) = false := by
    by_cases h3 : 3 ≤ arg c 9 1
    · obtain ⟨hpos, hmax⟩ := h.count h3
      rw [decide_eq_true h3, Bool.true_and, Bool.or_eq_false_iff]
      exact ⟨decide_eq_false (Nat.ne_of_gt hpos), decide_eq_false (Nat.not_lt.mpr hmax)⟩
    · rw [decide_eq_false h3, Bool.false_and]
  simp only [State.rffeChecks, List.forall_mem_cons, List.not_mem_nil, false_implies, implies_true, and_true, notOwner, badParam,
    husid, hcount, h.owned, Bool.not_true, Bool.and_false, Bool.or_false, true_and, decide_eq_false_iff_not]
  exact ⟨Nat.not_le.mpr h.quadrant, Nat.not_lt.mpr h.type_le, Nat.not_lt.mpr h.usid_le⟩

/-- RFFE_ACCESS that passes its checks waits while a list runs on its bus, and where it would not end before the next one (R127). -/
theorem exec_rffeAccess_waits {s : State} {c : Cmd} {fits parity : Bool} {data : BitVec 128} (hf : RffeFits s c)
    (hw : fits = false ∨ nth s.rf.rffeRun (arg c 8 1) none ≠ none) : exec (.rffeAccess c fits parity data) s = .next s := by
  have hx : exec (.rffeAccess c fits parity data) s = execRffeAccess c fits parity data s := rfl
  rw [hx, execRffeAccess_eq, firstFail_none.mpr (rffeChecks_pass hf), if_pos]
  simpa [Option.isSome_iff_ne_none] using hw

/-- RFFE_ACCESS on a free bus that it fits runs. -/
theorem exec_rffeAccess_runs {s : State} {c : Cmd} {parity : Bool} {data : BitVec 128} (hidle : nth s.rf.rffeRun (arg c 8 1) none = none) :
    exec (.rffeAccess c true parity data) s = runCmd s c false [] (s.rffeChecks c)
      (if rffeReads c && !parity then .done (((s.rffeCarried c).fresh 32).2.raise Ev.RF_RFFE_PARITY [arg c 8 1]) St.ioError
        ((s.rffeCarried c).fresh 32).1.toNat (res 16 (rffeGot c data)) else .done (s.rffeCarried c) St.ok 0 (res 16 (rffeGot c data))) := by
  have hx : exec (.rffeAccess c true parity data) s = execRffeAccess c true parity data s := rfl
  rw [hx, execRffeAccess_eq, hidle]
  simp

theorem res_16 (v : Nat) : res 16 v = v := by simp [res]

theorem rffeGot_read {c : Cmd} (h : rffeReads c = true) (data : BitVec 128) :
    rffeGot c data = data.toNat % 2 ^ (8 * (if arg c 9 1 = 2 then 1 else arg c 11 1)) := by
  rw [rffeGot, h, Bool.not_true, if_neg Bool.false_ne_true]
  split <;> rfl

/-- RFFE_ACCESS that writes, or whose read data pass, answers OK. -/
theorem gives_rffeAccess_ok {s : State} {c : Cmd} {parity : Bool} (data : BitVec 128) (h : Ready s c false []) (hf : RffeFits s c)
    (hidle : nth s.rf.rffeRun (arg c 8 1) none = none) (hp : (rffeReads c && !parity) = false) :
    Gives (.rffeAccess c true parity data) s fun t => Answers c t St.ok 0 (rffeGot c data) ∧ t.told = s.told := by
  have hx := exec_rffeAccess_runs (parity := parity) (data := data) hidle
  rw [hp, if_neg Bool.false_ne_true, res_16] at hx
  exact gives_done hx h (rffeChecks_pass hf) ⟨complete_answers .., complete_told ..⟩

/-- RFFE_ACCESS whose read data fail their parity answers IO_ERROR with the data as received, and is reported (R124). -/
theorem gives_rffeAccess_parity {s : State} {c : Cmd} (data : BitVec 128) (h : Ready s c false []) (hf : RffeFits s c)
    (hidle : nth s.rf.rffeRun (arg c 8 1) none = none) (hr : rffeReads c = true) :
    Gives (.rffeAccess c true false data) s fun t =>
      t.told = s.told ++ [(Ev.RF_RFFE_PARITY, [arg c 8 1])] ∧
      t.lastCpl.map (fun x => (x.tag, x.status, x.results)) = some (c.tag.toNat, St.ioError, BitVec.ofNat 128 (rffeGot c data)) := by
  have hx := exec_rffeAccess_runs (parity := false) (data := data) hidle
  rw [hr, Bool.not_false, Bool.and_self, if_pos rfl, res_16] at hx
  refine gives_done hx h (rffeChecks_pass hf) ⟨by rw [complete_told, told_raise]; rfl, ?_⟩
  rw [(complete_answers _ c _ _ _).1]
  rfl

/-- RFFE_LIST writes the words of the span to the list memory of the quadrant. -/
theorem rd_rffeMem_foldl (s t : State) (q a : Nat) {j : Nat} (hj : j < 1024) :
    ((List.range 1024).foldl (fun (t : State) j => t.wrN (R.RF_RFFE_MEM q j) (s.memN (a + 4 * j) 4)) t).rd (R.RF_RFFE_MEM q j) =
      BitVec.ofNat 32 (s.memN (a + 4 * j) 4) := by
  have hne {i : Nat} (h : i ≠ j) : R.RF_RFFE_MEM q j ≠ R.RF_RFFE_MEM q i := by unfold R.RF_RFFE_MEM; omega
  exact (foldl_at (fun (t : State) => t.rd (R.RF_RFFE_MEM q j)) (fun _ => BitVec.ofNat 32 (s.memN (a + 4 * j) 4)) j List.nodup_range
    (fun _ t => State.rd_wrN_same t _ _) (fun i _ hi t => State.rd_wrN_ne t (hne hi) _) t).trans (if_pos (List.mem_range.mpr hj))

theorem gives_rffeList {s : State} {c : Cmd} (h : Ready s c false []) (hq : arg c 8 1 < 4) (hown : s.holds c.ctx 1 (arg c 8 1) = true)
    (hoff : (quadPaths (arg c 8 1)).all (fun p => (s.tx p = Ps.off || s.tx p = Ps.fault) && s.rx p = Ps.off) = true)
    (hcfg : argBits c 9 0 4 ≤ 2) (hspan : HasSpan s c 16 4096) :
    Gives (.rffeList c false) s fun t =>
      Answers c t St.ok 0 0 ∧ t.rd (R.RF_RFFE_CFG (arg c 8 1)) = BitVec.ofNat 32 (arg c 9 1) ∧
      ∀ j, j < 1024 → t.rd (R.RF_RFFE_MEM (arg c 8 1) j) = BitVec.ofNat 32 (s.memN (arg c 16 8 + 4 * j) 4) := by
  have hidle : (quadPaths (arg c 8 1)).any (fun p => (s.tx p != Ps.off && s.tx p != Ps.fault) || s.rx p != Ps.off) = false := by
    rw [List.any_eq_false]
    intro p hp
    have := List.all_eq_true.mp hoff p hp
    simp only [Bool.and_eq_true, Bool.or_eq_true, decide_eq_true_eq] at this
    obtain ⟨ht | ht, hr⟩ := this <;> simp [ht, hr]
  refine gives_done rfl h (fun k hk => ?_) ⟨complete_answers .., ?_, fun j hj => ?_⟩
  · simp only [List.cons_append, List.nil_append, List.mem_cons, List.mem_append, List.not_mem_nil, or_false] at hk
    obtain rfl | rfl | rfl | rfl | hk | rfl := hk
    · simp [notOwner, hown]
    · simp only [State.badState, hidle, Bool.and_false]
    · exact decide_eq_false (Nat.not_le.mpr hq)
    · exact decide_eq_false (Nat.not_lt.mpr hcfg)
    · exact spanChecks_pass hspan k hk
    · rfl
  · rw [rd_complete _ _ _ _ _ (rffeCfg_lt hq), State.rd_wrN_same]
  · have hne : R.RF_RFFE_MEM (arg c 8 1) j ≠ R.RF_RFFE_CFG (arg c 8 1) := by unfold R.RF_RFFE_MEM R.RF_RFFE_CFG; omega
    rw [rd_complete _ _ _ _ _ (rffeMem_lt hq hj), State.rd_wrN_ne _ hne, rd_rffeMem_foldl s s _ _ hj]

/-- Settles O54: each command passes its checks, and its completion leaves what the clause speaks of. That CAP_GET by tag takes the oldest
record is log entry 78, the byte of RFFE_LIST's configuration log entry 79, and which paths keep a quadrant's lists from being written
log entry 80. -/
theorem captureAndFrontEndCommands : Obligations.CaptureAndFrontEndCommands := by
  unfold Obligations.CaptureAndFrontEndCommands
  refine ⟨?_, fun _ _ h ht hown => gives_capFree h ht hown, ?_, fun _ _ h hml ht hta hr hra => gives_feTdd h hml ht hta hr hra,
    fun _ _ _ h hpm hown => gives_feFaultClear h hpm hown, ?_, ?_, ?_, ?_, ?_⟩
  · rintro s c p r h rfl hp hown hr hspan
    exact gives_capGet h hp hown hr hspan
  · rintro s c pm cfg lvl h rfl hown rfl rfl hm hslew hil hil' hon hoff hramp
    exact gives_fePabias h hown ⟨hm, hslew, hil, hil', hon, hoff, hramp⟩
  · rintro s c fits parity data q ty h rfl rfl hq hown hty hu hu' hn rfl hidle ⟨h2, h4, h6⟩
    have hw : rffeReads c = false := by simp [rffeReads, h2, h4, h6]
    have hg := gives_rffeAccess_ok (parity := parity) data h ⟨hq, hown, hty, hu, hu', hn⟩ hidle (by rw [hw]; rfl)
    rwa [rffeGot, hw] at hg
  · rintro s c fits parity data q ty h rfl rfl hq hown hty hu hu' hn rfl hidle hr rfl
    have hr := rffeReads_iff.mpr hr
    have hg := gives_rffeAccess_ok (parity := true) data h ⟨hq, hown, hty, hu, hu', hn⟩ hidle (by rw [hr]; rfl)
    rwa [rffeGot_read hr] at hg
  · rintro s c fits parity data q ty h rfl rfl hq hown hty hu hu' hn rfl hidle hr rfl
    have hr := rffeReads_iff.mpr hr
    have hg := gives_rffeAccess_parity data h ⟨hq, hown, hty, hu, hu', hn⟩ hidle hr
    rwa [rffeGot_read hr] at hg
  · rintro s c fits parity data q ty h rfl rfl hq hown hty hu hu' hn hw
    exact exec_rffeAccess_waits ⟨hq, hown, hty, hu, hu', hn⟩ hw
  · rintro s c overlap q h rfl hq hown hoff hcfg hspan rfl
    exact gives_rffeList h hq hown hoff hcfg hspan

end Sys2Proof.Machine
end
